-- ==== Sys2Proof/Word.lean ====
section
/-!
DEFINITION. The word types of the PX4880's register bus and memories.
-/
namespace Sys2Proof

/-- A register word: register accesses are 32 bits wide (R53). -/
abbrev Word := BitVec 32

/-- The smallest unit of HBM, host memory and packets. -/
abbrev Byte := BitVec 8

end Sys2Proof
end

