-- ==== Sys2Proof/Syntax.lean ====
section
/-!
DEFINITION. The commands of the PX4880: one constructor of `Instr` per row of spec/opcode_table.json.

A command names what happens to the block: a bus access by one of the two requesters (R56), or an event
of the network, the panel, the power inputs or an engine. What the spec leaves to measurement (a
voltage, a temperature, an offset, a received packet) is an operand of the command.
-/
namespace Sys2Proof

/-- The two requesters that reach BAR0 (R56). -/
inductive Requester where
  | host
  | mgmt
  deriving DecidableEq, Repr

/-- The units that become quiescent (R108): a block page named by its BAR0 base, a ring, or a lane of a head. -/
inductive QuietUnit where
  | page (base : Nat)
  | ring (r : Fin 8192)
  | lane (h : Fin 4) (n : Fin 13)
  deriving DecidableEq, Repr

/-- What a role write addresses (R105): the ROLE register of a page, or LANE_ROLE_n of a head's ZL page. -/
inductive RoleTarget where
  | page (base : Nat)
  | lane (h : Fin 4) (n : Fin 13)
  deriving DecidableEq, Repr

/-- The host-memory read of a ring entry: its ring and its index. -/
structure HostRead where
  ring : Fin 8192
  index : Word
  deriving DecidableEq, Repr

/-- PTP messages the module sends (R135). -/
inductive PtpMsg where
  | announce
  | sync
  | followUp
  | delayReq
  | delayResp
  deriving DecidableEq, Repr

/-- What a received Ethernet frame carries, as far as R159 and R160 tell frames apart. -/
inductive FrameKind where
  | pst
  | ptp
  | arp
  | neighbour
  | other
  deriving DecidableEq, Repr

/-- A received Ethernet frame as the port sees it before any PST handling (R159, R161): FCS result, 802.1Q tags, length
from destination address to FCS, payload kind, fragmentation, and the RS-FEC codewords it took. -/
structure EthFrame where
  fcsOk : Bool
  tags : Nat
  length : Nat
  kind : FrameKind
  fragment : Bool
  fecCorrected : Nat
  fecUncorrected : Nat
  deriving DecidableEq, Repr

/-- The state of a line at its ray deadline (R287 to R289, R294, R350): its rays issued and delivered, the most rays in flight at
once since the deadline before, the margin of the last one, and whether composition and output processing finish by the line
start. -/
structure RayProgress where
  line : Nat
  issued : Nat
  delivered : Nat
  inflight : Nat
  marginNs : Nat
  composed : Bool
  deriving DecidableEq, Repr

/-- A block of a lane (R367): its sync header [h1 h0] as a number, and its 16 payload bytes as they stand on the lane. -/
structure Block where
  header : Nat
  payload : List Byte
  deriving DecidableEq, Repr

/-- Blocks that a receiving lane sees one after another, and the UI at which the first begins (R367, R370). -/
structure RxBlocks where
  ui : Nat
  blocks : List Block
  deriving DecidableEq, Repr

/-- A line packet that a receiving lane has found in its blocks (R371 to R375): line, GROUP, whether it is valid under R375, flags,
and payload bytes. -/
structure RxPacket where
  line : Nat
  group : Nat
  valid : Bool
  repeated : Bool
  blank : Bool
  pol : Bool
  payload : List Byte
  deriving DecidableEq, Repr

/-- Readings of the pre-check of one rail (R410): the two voltages and the cross-coupled rail. -/
structure PreReading where
  v1 : Nat
  v2 : Nat
  cross : Option Nat
  deriving DecidableEq, Repr

/-- A rail's measured load (R419). -/
structure RailLoad where
  rail : Nat
  milliwatt : Nat
  deriving DecidableEq, Repr

/-- A requester of the memory controller (R462): of a head the layer fetch, the ray-map fetch, the presented-map read, the ray cache
and writeback; the decode cluster, a network port, INGEST, a ring whose entries lie in host memory or in HBM, BAR4, a job
engine, the loading of a head's ray maps, scrub, migration, perf dumps and the event log. -/
inductive MemAgent where
  | layerFetch (h : Fin 4)
  | mapFetch (h : Fin 4)
  | opticMap (h : Fin 4)
  | rayCache (h : Fin 4)
  | decode
  | net (p : Fin 2)
  | ingest
  | hostRing (r : Nat)
  | bar4
  | writeback (h : Fin 4)
  | engine (e : Fin 8)
  | hbmRing (r : Nat)
  | mapLoad (h : Fin 4)
  | scrub
  | migration
  | perfDump
  | eventLog
  deriving DecidableEq, Repr

/-- Service class of a requester (R462). -/
def MemAgent.cls : MemAgent → Nat
  | .layerFetch _ | .mapFetch _ | .opticMap _ => 0
  | .rayCache _ => 1
  | .decode => 2
  | .net _ | .ingest | .hostRing _ | .bar4 => 3
  | .writeback _ | .engine _ | .hbmRing _ => 4
  | .mapLoad _ | .scrub | .migration | .perfDump | .eventLog => 5

/-- The head whose unit a requester of class SC0 is. -/
def MemAgent.head : MemAgent → Nat
  | .layerFetch h | .mapFetch h | .opticMap h | .rayCache h | .writeback h | .mapLoad h => h
  | _ => 0

/-- A request that arrives at the memory controller (R462, R463). -/
structure MemReq where
  requester : MemAgent
  addr : Nat
  write : Option (List Byte)
  len : Nat
  deriving DecidableEq, Repr

/-- The service class of a request is that of its requester (R462). -/
def MemReq.cls (r : MemReq) : Nat := r.requester.cls

/-- What the ECC of a read granule reports (R470). -/
inductive EccResult where
  | clean
  | corrected
  | uncorrected
  deriving DecidableEq, Repr

/-- Why a pseudo-channel is migrated (R471), with the codes of MIGRATION.REASON. -/
inductive MigReason where
  | periodic
  | temperature
  | errors
  | failure
  | command
  | borrow
  deriving DecidableEq, Repr

/-- A performance counter: general counter i (R530) or privileged counter i (R533). -/
inductive PerfCounter where
  | general (i : Fin 256)
  | privileged (i : Fin 16)
  deriving DecidableEq, Repr

/-- The times of a tagged ray (R539): NS32 at issue, the stage times in ns from it where the stage was reached, and the rays
of the head in flight at issue. -/
structure GlintStages where
  issue : BitVec 32
  dMap : BitVec 32
  dFill : BitVec 32
  dValue : BitVec 32
  dComposed : BitVec 32
  dSent : BitVec 32
  inflight : Nat
  deriving DecidableEq, Repr

/-- The kind of module in a QSFP cage (R580). -/
inductive QsfpMedia where
  | copper
  | optical
  | other
  deriving DecidableEq, Repr

/-- The commands of the block, one constructor per row of the operations table, in its order. -/
inductive Instr where
  /-- LVIN_APPLIED (R127). LVIN rises above 10.5 V: device time starts at 0 and the lantern domain begins boot stage LANTERN. -/
  | lvinApplied
  /-- LVIN_LOST (R598). LVIN stays below 9.5 V for 100 µs: the logic side and the PVL rails go down and the module is OFF. -/
  | lvinLost
  /-- FAST_CLOCK_START (R559). At the first sensor sample that meets R517, the fast clocks start and boot stage ROM begins. -/
  | fastClockStart
  /-- BOOT_IMAGE_VERIFIED (R560). The boot ROM finishes checking the confirmed slot, and the other slot if needed, then starts an image or enters recovery. -/
  | bootImageVerified
  /-- MEMORY_TRAINING_COMPLETE (R473). Power-on training of every PC ends: spares are chosen, logical channels are mapped and STAGE becomes MEMORY. -/
  | memoryTrainingComplete (trained : BitVec 64) (temp0 : Int) (temp1 : Int)
  /-- STAGE_READY (R567). The flash profile has been read and the standby images placed; the module acts on AUTOSTART and feature negotiation opens. -/
  | stageReady
  /-- FUNCTION_LEVEL_RESET (R46). A function-level reset restores MSI-X and BAR4_BASE, aborts host-produced rings and rolls back OPEN host transactions, with no effect on the picture. -/
  | functionLevelReset (hostFails : List HostRead)
  /-- PERST_ASSERT (R579). PERST_L goes low: the PCIe link goes down. -/
  | perstAssert
  /-- PERST_DEASSERT (R579). The rising edge of PERST_L has the effects of a function-level reset, and the link then retrains. -/
  | perstDeassert
  /-- PCIE_LINK_DOWN (R579). The PCIe link or cable is lost: the event is raised, and later host-memory ring reads fail. -/
  | pcieLinkDown (speedWidth : Word)
  /-- REGISTER_WRITE (R618). A write to a register that has no row of its own is applied, or is discarded on a range, partial-write, negotiation or hold check. -/
  | registerWrite (req : Requester) (addr : Nat) (value : Word) (be : BitVec 4)
  /-- UNMAPPED_ADDRESS_ACCESS (R48). An access to an unmapped BAR0 address reads 0 or is discarded, is counted and its address is recorded. -/
  | unmappedAddressAccess (req : Requester) (addr : Nat) (write : Bool)
  /-- LOW_WORD_READ (R57). A read of the low word of a 64-bit register also copies the high word into the reading requester's latch. -/
  | lowWordRead (req : Requester) (addr : Nat)
  /-- HIGH_WORD_WRITE (R57). A write of the high word of a 64-bit register applies it together with the held low word. -/
  | highWordWrite (req : Requester) (addr : Nat) (value : Word)
  /-- BAR4_ACCESS (R44). A BAR4 read or write reaches HBM at BAR4_BASE plus the window offset. -/
  | bar4Access (write : Bool) (offset : Nat) (len : Nat) (data : List Byte)
  /-- BAR4_BASE_WRITE (R45). The BAR4 window moves once every BAR4 access received before the write has completed. -/
  | bar4BaseWrite (req : Requester) (value : BitVec 64)
  /-- PAGE_ENABLE (R110). A write of 1 to ENABLE enables a block, or is refused while the block is not QUIESCED. -/
  | pageEnable (req : Requester) (page : Nat)
  /-- PAGE_DISABLE (R108). ENABLE goes to 0: the block accepts no more entries and drains or aborts its accepted jobs. -/
  | pageDisable (req : Requester) (page : Nat) (abort : Bool)
  /-- DISABLE_MODE_WRITE (R109). Writing DISABLE_MODE = 1 during a drain turns it into an abort. -/
  | disableModeWrite (req : Requester) (page : Nat) (abort : Bool)
  /-- SOFT_RESET (R51). A SOFT_RESET request is accepted only while the block is disabled and QUIESCED. -/
  | softReset (req : Requester) (page : Nat)
  /-- SOFT_RESET_COMPLETE (R51). The configuration and status regions return to their reset values and SOFT_RESET clears. -/
  | softResetComplete (page : Nat)
  /-- QUIESCENCE (R108). A disabled unit's last accepted job reaches its outcome and its records are written, so QUIESCED is set. -/
  | quiescence (unit : QuietUnit)
  /-- ROLE_WRITE (R105). A ROLE or lane-role write sets the role code and increments the epoch, or is refused. -/
  | roleWrite (req : Requester) (target : RoleTarget) (value : Word)
  /-- EVENT_STATUS_CLEAR (R65). A W1C write clears EVT_STATUS bits; an occurrence in the same cycle prevails. -/
  | eventStatusClear (req : Requester) (page : Nat) (mask : Word) (occurring : Word)
  /-- EVENT_FORCE (R66). Writing EVT_FORCE produces a FORCED occurrence, with no consequential action. -/
  | eventForce (req : Requester) (page : Nat) (mask : Word)
  /-- VECTOR_HOLDOFF_END (R68). The hold-off of a vector ends and one message covers the triggers held back during it. -/
  | vectorHoldoffEnd (v : Fin 64)
  /-- VECTOR_UNMASK (R68). A masked vector with its pending bit set sends its message when unmasked. -/
  | vectorUnmask (v : Fin 64)
  /-- LOG_RING_ENABLE (R71). Setting LOG_RING.ENABLE checks the ring, enables it and starts moving the retained records. -/
  | logRingEnable (req : Requester) (ring : Fin 8192)
  /-- LOG_RING_DISABLE (R71). Clearing LOG_RING.ENABLE stops moving records and disables the ring under DRAIN. -/
  | logRingDisable (req : Requester)
  /-- EVENT_LOG_RECORD_WRITE (R69). Once the log ring has room, the next buffered record is moved into it. -/
  | eventLogRecordWrite
  /-- TIME_MARK (R73). At each device time that is a multiple of 2^29 ns, a TIME_MARK record is written. -/
  | timeMark
  /-- FEATURE_ACCEPT (R81). Writing ACCEPT sets PENDING and starts the feature checks. -/
  | featureAccept (req : Requester) (value : Word)
  /-- FEATURE_CHECK_COMPLETE (R81). The checks end as PENDING clears, and the request is loaded or refused. -/
  | featureCheckComplete
  /-- RING_ENABLE (R89). A write of 1 to a ring's CTRL.ENABLE runs the enable checks and may increment RING_EPOCH. -/
  | ringEnable (req : Requester) (ring : Fin 8192) (value : Word)
  /-- RING_DISABLE (R111). Disabling a ring keeps its entries under DRAIN, or flushes them as DISABLED under ABORT. -/
  | ringDisable (req : Requester) (ring : Fin 8192) (value : Word) (hostFails : List Word)
  /-- DOORBELL (R93). An 8-byte BAR2 write advances a ring's PROD or CONS after the doorbell check. -/
  | doorbell (ring : Fin 8192) (index : Word) (epoch : BitVec 16) (top : BitVec 16) (bytes : Nat)
  /-- ENTRY_ACCEPT (R106). A consumer takes an entry, compares its epoch, and executes it or completes it STALE_ROLE. -/
  | entryAccept (ring : Fin 8192)
  /-- HOST_READ_FAILURE (R97). A host-memory read for a ring fails or times out, and the ring is disabled in ABORT mode. -/
  | hostReadFailure (ring : Fin 8192) (flushFails : List Word)
  /-- RING_STALLED (R96). A ring whose module producer has stalled for 10 ms raises the event once per stall. -/
  | ringStalled (ring : Fin 8192)
  /-- COMPLETION_RECORD_WRITE (R101). A releasable completion record is written in SEQ order once the completion ring has room. -/
  | completionRecordWrite (ring : Fin 8192)
  /-- ABORT (R112). An ABORT entry marks or aborts its target job, or completes ABORT_MISSED. -/
  | abortEntry (ring : Fin 8192)
  /-- BEGIN (R114). TXN_CMD BEGIN opens the lowest FREE transaction id and returns it in TXN_LAST. -/
  | beginTxn (req : Requester)
  /-- STAGE_DATA_WRITE (R115). A write to STAGE_DATA stages a register write, or records a staging error, then advances STAGE_ADDR. -/
  | stageDataWrite (req : Requester) (t : Fin 4) (value : Word)
  /-- COMMIT (R116). TXN_CMD COMMIT increments TXN_COMMIT_COUNT and starts validation. -/
  | commitTxn (req : Requester) (value : Word)
  /-- COMMIT_VALIDATION_COMPLETE (R116). Validation ends as PENDING clears: the transaction fails, applies NOW, or becomes ARMED. -/
  | commitValidationComplete (t : Fin 4)
  /-- ROLLBACK (R123). TXN_CMD ROLLBACK discards an OPEN transaction, or an ARMED one before it applies. -/
  | rollback (req : Requester) (t : Fin 4)
  /-- REF_SEL_WRITE (R134). A write of REF_SEL selects the 10 MHz input or the internal reference. -/
  | refSelWrite (req : Requester) (value : Word)
  /-- REF_INPUT_QUALIFIED (R134). The 10 MHz input has been present and within ±50 ppm for 1 s, so the clock source moves to it. -/
  | refInputQualified
  /-- REF_LOST (R134). The selected 10 MHz input is lost and the source reverts to the internal reference without a step. -/
  | refLost
  /-- AUTO_SWITCH_WRITE (R145). A write of AUTO_SWITCH = 1 makes the domain left last time a target of automatic switching again. -/
  | autoSwitchWrite (req : Requester) (value : Word)
  /-- EPOCH_OFFSET_WRITE (R132). A write of EPOCH_OFFSET is taken as written, rounded to whole seconds in PPS mode, or refused. -/
  | epochOffsetWrite (req : Requester) (value : BitVec 64)
  /-- DOM_CTRL_WRITE (R134). A write of a domain's DOM_CTRL configures the domain, or only turns it OFF while it is running. -/
  | domCtrlWrite (req : Requester) (d : Fin 2) (value : Word)
  /-- SYNC_RECEIVED (R137). A Sync measurement yields an offset that is handled as a correction and updates the domain state. -/
  | syncReceived (d : Fin 2) (gm : BitVec 64) (tai : Int) (freq : Option Int)
  /-- ANNOUNCE_RECEIVED (R137). An Announce message is received; a new grandmaster returns the domain to UNCALIBRATED. -/
  | announceReceived (d : Fin 2) (gm : BitVec 64)
  /-- ANNOUNCE_TIMEOUT (R136). No Sync message or edge arrives for ANNOUNCE_TIMEOUT intervals, so a LOCKED domain enters HOLDOVER. -/
  | announceTimeout (d : Fin 2)
  /-- PTP_MESSAGE_SEND (R135). At its message interval a domain sends Sync and Announce (MASTER) or Delay_Req (SLAVE). -/
  | ptpMessageSend (d : Fin 2) (msg : PtpMsg)
  /-- PPS_EDGE (R135). A 1PPS input edge is measured against the nearest second for a domain in PPS mode. -/
  | ppsEdge
  /-- PPS_LOST (R135). An expected second passes by 1 µs without an edge, so PPS_OK clears. -/
  | ppsLost
  /-- SLEW_END (R140). The remaining slew is smaller than one step, so it is applied and SLEW_REMAINING becomes 0. -/
  | slewEnd
  /-- ACCEPT_JUMP (R141). ACCEPT_JUMP applies PROPOSED as a step or a fast slew and returns the domain to UNCALIBRATED. -/
  | acceptJump (req : Requester) (value : Word)
  /-- DOMAIN_SWITCH (R144). DOMAIN_SWITCH with GO makes the LOCKED non-serving domain serve and slews its offset. -/
  | domainSwitch (req : Requester) (value : Word)
  /-- AUTO_DOMAIN_SWITCH (R145). After 2 s in HOLDOVER or SUSPECT, the management core switches to the other domain if it qualifies. -/
  | autoDomainSwitch
  /-- ARM (R150). SLOT_CMD ARM checks a slot and arms it, or records its refusal. -/
  | arm (req : Requester) (slot : Fin 256)
  /-- DISARM (R155). SLOT_CMD DISARM ends an armed slot ABORTED if execution has not begun. -/
  | disarm (req : Requester) (slot : Fin 256)
  /-- TXN_APPLY (R149). A TXN_APPLY slot executes and forms the first application point of its transaction. -/
  | txnApply (slot : Fin 256)
  /-- HEAD_COMMIT (R149). A HEAD_COMMIT slot executes as a write of HEADh.COMMIT.GO after its epoch check. -/
  | headCommit (slot : Fin 256)
  /-- AUDIO_START (R496). An AUDIO_START slot executes and starts the WAITING members of its start group. -/
  | audioStart (slot : Fin 256)
  /-- OPTIC_BATCH (R446). An OPTIC_BATCH slot executes as a START of the named batch. -/
  | opticBatch (slot : Fin 256)
  /-- GPIO_EDGE (R149). A GPIO_EDGE slot executes and drives, toggles or starts a pulse on a trigger output. -/
  | gpioEdge (slot : Fin 256)
  /-- GPIO_PULSE_END (R592). A pulse started by a slot ends when its width expires. -/
  | gpioPulseEnd (g : Fin 8)
  /-- TEST_START (R316). A TEST_START slot executes: it restarts patterns, arms writeback capture, or acts on PRBS. -/
  | testStart (slot : Fin 256)
  /-- WAKE (R522). A WAKE slot executes and starts the transition from STANDBY to ACTIVE. -/
  | wake (slot : Fin 256)
  /-- SCHED_LOG_RECORD_WRITE (R157). A buffered scheduler record is written once the SCHED_LOG ring has room. -/
  | schedLogRecordWrite
  /-- PPS_OUT_PULSE (R593). PPS_OUT rises at each whole TAI second for PPS_OUT_WIDTH. -/
  | ppsOutPulse
  /-- LINK_UP (R161). An Ethernet port's link comes up with RS-FEC aligned. -/
  | linkUp (port : Fin 2)
  /-- LINK_DOWN (R189). An Ethernet port's link goes down. -/
  | linkDown (port : Fin 2)
  /-- ETHERNET_FRAME_RECEIVED (R159). A frame is received and counted; non-PST frames are discarded or passed to PTP or ARP handling. -/
  | ethernetFrameReceived (port : Fin 2) (frame : EthFrame)
  /-- ARP_REQUEST (R160). The management core answers ARP or neighbour solicitation for the port's addresses. -/
  | arpRequest (port : Fin 2) (v6 : Bool) (addr : BitVec 128)
  /-- MULTICAST_ENTRY_WRITE (R160). A multicast table write sets a group and triggers a membership report. -/
  | multicastEntryWrite (req : Requester) (port : Fin 2) (m : Fin 64) (w : Fin 4) (value : Word)
  /-- PST_PACKET_RECEIVED (R170). NET matches a PST packet to its flow and writes it into a pool slot and a SCENE_RX entry, or discards it. -/
  | pstPacketReceived (port : Fin 2) (vlan : Option (BitVec 12)) (src : Word) (dst : BitVec 128) (udp : BitVec 16) (packet : List Byte)
  /-- FLOW_ACTIVATE (R167). Writing VALID = 1 checks a flow entry and activates it, clearing its counters and window. -/
  | flowActivate (req : Requester) (flow : Fin 8192) (value : Word)
  /-- SCENE_RX_ENTRY_ACCEPT (R172). INGEST takes a packet entry, checks format, flow and duplicates, and feeds frame assembly. -/
  | sceneRxEntryAccept (ring : Fin 8192)
  /-- PACKET (R174). A HOST_SCENE PACKET entry copies a host PST packet into the pool and completes with its disposition. -/
  | packet (ring : Fin 8192)
  /-- PATH_LOST (R173). One port of a DUP flow delivers nothing for PATH_TIMEOUT while the other does. -/
  | pathLost (flow : Fin 8192) (port : Fin 2)
  /-- ASSEMBLY_CLOSE (R183). At the decode deadline D, assembly closes: the frame is refused, or its missing tiles are concealed. -/
  | assemblyClose (store : Fin 16) (frame : Word)
  /-- FRAME_READY (R183). The last tile and concealment of a frame finish, so it becomes READY and the store's reference frame. -/
  | frameReady (store : Fin 16) (frame : Word)
  /-- TILE_DECODE_COMPLETE (R221). A lane finishes a tile and is given the next dispatchable tile. -/
  | tileDecodeComplete (store : Fin 16) (frame : Word) (tile : Nat)
  /-- DECODE_LOAD_UPDATE (R225). Every 1 ms the cluster updates LOAD over the last second. -/
  | decodeLoadUpdate
  /-- DECODE_SELFTEST (R227). A core decodes its built-in test tile and checks the CRC. -/
  | decodeSelftest (core : Fin 32) (pass : Bool)
  /-- FRAME_REPORT (R229). A FRAME_REPORT job waits for the named frame to become READY or be refused. -/
  | frameReport (ring : Fin 8192)
  /-- FRAME_REPORT_TIMEOUT (R229). REPORT_TIMEOUT expires, so the job completes TIMEOUT. -/
  | frameReportTimeout (ring : Fin 8192) (index : Word)
  /-- DECOMPRESS (R238). A DECOMPRESS job decodes a memory-form sequence to raw frames. -/
  | decompress (engine : Fin 8) (ring : Fin 8192)
  /-- CHECK (R238). A CHECK job decodes without output and returns the CRC-32C. -/
  | checkJob (engine : Fin 8) (ring : Fin 8192)
  /-- COMPRESS (R240). A COMPRESS job encodes raw frames into a memory-form sequence with self-verification. -/
  | compress (engine : Fin 8) (ring : Fin 8192) (mismatches : List Nat) (rawFails : Bool)
  /-- JOB_COMPLETE (R249). An engine decides a job's outcome, writes its completion and takes the next ring entry in round-robin order. -/
  | jobComplete (engine : Fin 8)
  /-- JOB_TIMEOUT (R248). A running job exceeds JOB_TIMEOUT and stops at a tile boundary. -/
  | jobTimeout (engine : Fin 8)
  /-- MAP_CMD_LOAD (R265). MAP_CMD LOAD sets a bank LOADING and starts checking its HRM image. -/
  | mapCmdLoad (req : Requester) (h : Fin 4) (bank : Fin 2)
  /-- MAP_LOAD_COMPLETE (R265). The image checks end, so the bank becomes VALID or FAILED. -/
  | mapLoadComplete (h : Fin 4) (bank : Fin 2)
  /-- MAP_SEL_WRITE (R266). A direct write of MAP_SEL is checked against the selected bank and the head geometry. -/
  | mapSelWrite (req : Requester) (h : Fin 4) (value : Word)
  /-- RAY_MAP_BLOCK_FETCH (R269). The RGU's fetch of a block record and its residual tile completes for a field. -/
  | rayMapBlockFetch (h : Fin 4) (bx : Nat) (by' : Nat)
  /-- LATCH_POINT (R346). At a head's latch the module selects the frame, applies transactions and layer commits, and fixes the configuration of the next field. -/
  | latchPoint (h : Fin 4)
  /-- FIELD_START (R342). A field of a head begins: FIELD increments, the ledger is updated and the gate configuration applies. -/
  | fieldStart (h : Fin 4)
  /-- LINE_START (R349). At a line start the head sends line data, REPEAT or blank for the line and frees a band-buffer slot for ray issue. -/
  | lineStart (h : Fin 4)
  /-- RAY_DEADLINE (R287). At a line's ray deadline, any undelivered ray or layer data eclipses that layer for the rest of the field. -/
  | rayDeadline (h : Fin 4) (rays : RayProgress) (layersLate : BitVec 8)
  /-- CACHE_FILL_RETURN (R295). A ray-cache fill returns and is installed, or fails on a memory error. -/
  | cacheFillReturn (h : Fin 4) (line : BitVec 26)
  /-- LAYER_DESCRIPTOR_READ (R304). A layer's descriptor is read and checked once per field, or the layer is eclipsed with DESC. -/
  | layerDescriptorRead (h : Fin 4) (k : Fin 8)
  /-- GUARD_READ (R317). The guard word read before each band is compared with GUARD in effect. -/
  | guardRead (h : Fin 4) (k : Fin 8) (band : Nat)
  /-- LAYER_DATA_READ (R318). Layer data arrives; a media or stream error eclipses the layer from its band. -/
  | layerDataRead (h : Fin 4) (k : Fin 8) (line : Nat)
  /-- COMMIT_GO (R347). Writing COMMIT.GO requests a layer-shadow commit at the next latch and sets COMMIT_FIELD. -/
  | commitGo (req : Requester) (h : Fin 4)
  /-- BUFFER_RELEASE (R323). A replaced layer buffer is released when its last field has been fetched. -/
  | bufferRelease (h : Fin 4) (k : Fin 8)
  /-- WRITEBACK_REGION_COMPLETE (R330). A 256-line region has been written and verified, so its REGION record, and at field end FIELD_END, is written. -/
  | writebackRegionComplete (h : Fin 4) (accepted : Bool) (mismatches : List Nat)
  /-- HEAD_ENABLE (R335). A TRANSMIT head enable makes the head STARTING and joins it to its schedule at a latch. -/
  | headEnable (req : Requester) (h : Fin 4)
  /-- HEAD_DISABLE (R338). Head ENABLE goes to 0: the head is STOPPING and stops under DRAIN or ABORT. -/
  | headDisable (req : Requester) (h : Fin 4) (abort : Bool)
  /-- PHASE_LOCK_REACHED (R343). Pulling brings the phase error to 0. -/
  | phaseLockReached (group : Fin 4)
  /-- TOLERANCE_UPDATE (R351). Every 100 ns each head computes the latency tolerance it reports to memory. -/
  | toleranceUpdate (h : Fin 4) (firstMissing : Nat) (lineIssueNs : Nat) (mapDecodeNs : Nat) (wbLines : Nat)
  /-- LUT_ENTRY_WRITE (R354). A LUT entry write updates only banks that are not in use. -/
  | lutEntryWrite (req : Requester) (h : Fin 4) (ch : Fin 3) (index : Fin 4096) (value : Word)
  /-- LEDGER_CLEAR (R358). Writing LEDGER_CLEAR sets the balance ledger to 0. -/
  | ledgerClear (req : Requester) (h : Fin 4) (value : Word)
  /-- MIRROR_CHECK_COMPARE (R359). Read-back CRC and flags of a checked line are compared with the composed values. -/
  | mirrorCheckCompare (h : Fin 4) (lane : Fin 13) (line : Nat) (crc : Word) (pol : Bool) (rep : Bool)
  /-- RX_FRAME_START (R361). A received FRAME_START begins a field of a RECEIVE head. -/
  | rxFrameStart (h : Fin 4) (payload : List Byte)
  /-- RX_LINE_PACKET (R395). A received line packet is checked and counted. -/
  | rxLinePacket (h : Fin 4) (lane : Fin 13) (rx : RxBlocks)
  /-- BLOCK_LOCK (R369). A receiver sees 64 valid headers and acquires block lock. -/
  | blockLock (h : Fin 4) (lane : Fin 13) (rx : RxBlocks)
  /-- BLOCK_LOCK_LOSS (R369). 16 invalid headers in 256 blocks lose block lock. -/
  | blockLockLoss (h : Fin 4) (lane : Fin 13) (rx : RxBlocks)
  /-- DETECT_POLL (R377). A DETECT or DARK lane senses termination, starting a round or counting a NO_PARTNER failure. -/
  | detectPoll (h : Fin 4) (lane : Fin 13) (found : Bool)
  /-- TRAINING_STAGE_COMPLETE (R377). A training stage's end condition is met and the lane advances, reaching ACTIVE after EQUALIZE. -/
  | trainingStageComplete (h : Fin 4) (lane : Fin 13)
  /-- TRAINING_STAGE_TIMEOUT (R378). A stage passes its 2 ms timeout, so the round fails. -/
  | trainingStageTimeout (h : Fin 4) (lane : Fin 13)
  /-- TRAIN_A_PORT_WAIT_END (R377). 200 µs after the first port locks, TRAIN_A ends and the other port is taken as absent. -/
  | trainAPortWaitEnd (h : Fin 4) (lane : Fin 13)
  /-- EQ_PRESET_SETTLE (R381). 40 µs after applying a preset, the ports' figures of merit are polled. -/
  | eqPresetSettle (h : Fin 4) (lane : Fin 13)
  /-- RETRAIN (R385). LANE_CMD RETRAIN makes the lane leave ACTIVE with reason COMMAND. -/
  | retrain (req : Requester) (h : Fin 4) (lane : Fin 13) (epoch : BitVec 16)
  /-- MOVE_GAP (R385). LANE_CMD MOVE_GAP makes the named lane the gap by a move. -/
  | moveGap (req : Requester) (h : Fin 4) (lane : Fin 13) (epoch : BitVec 16)
  /-- PRBS_CLEAR (R385). LANE_CMD PRBS_CLEAR zeroes the lane's PRBS counters. -/
  | prbsClear (req : Requester) (h : Fin 4) (lane : Fin 13) (epoch : BitVec 16)
  /-- PRBS_INJECT (R385). LANE_CMD PRBS_INJECT flips one transmitted bit. -/
  | prbsInject (req : Requester) (h : Fin 4) (lane : Fin 13) (epoch : BitVec 16)
  /-- READBACK_LOCK_LOSS (R387). The read-back receiver loses lock, so the lane carrying a group is failed. -/
  | readbackLockLoss (h : Fin 4) (lane : Fin 13)
  /-- SPARING_MOVE (R388). At the first line start at least 2 µs after a failure, groups shift toward the gap. -/
  | sparingMove (h : Fin 4)
  /-- GAP_UNHEALTHY_TIMEOUT (R390). The gap lane has been unhealthy for 1 s while the head is ACTIVE. -/
  | gapUnhealthyTimeout (h : Fin 4)
  /-- STATUS_REQ (R392). The master polls a group with STATUS_REQ at least every POLL_US. -/
  | statusReq (h : Fin 4) (g : Fin 12)
  /-- STATUS (R392). A STATUS reply updates lock, inversion, skew and error reports, and can fail a lane. -/
  | status (h : Fin 4) (g : Fin 12) (payload : List Byte)
  /-- CAPS_REQ (R382). The master requests a group's CAPS record. -/
  | capsReq (h : Fin 4) (g : Fin 12)
  /-- CAPS (R382). A CAPS reply is stored and checked. -/
  | caps (h : Fin 4) (g : Fin 12) (payload : List Byte)
  /-- SB_REPLY_TIMEOUT (R392). No reply within REPLY_US, so the request is repeated once or the poll counts as missed. -/
  | sbReplyTimeout (h : Fin 4)
  /-- SB_CONTENTION (R392). A frame start is heard while driving, or a Manchester violation is seen. -/
  | sbContention (h : Fin 4)
  /-- SB_FRAME_RECEIVED (R393). A sideband frame is received, checked and delivered, for example a HOST_REPLY to the DIR = 1 ring. -/
  | sbFrameReceived (h : Fin 4) (body : List Byte)
  /-- SEND (R393). A SIDEBAND SEND entry sends a HOST frame and optionally waits for its reply. -/
  | send (ring : Fin 8192)
  /-- SB_REQUEST_RECEIVED (R394). In RECEIVE, SBh answers a far master's request as the 12 groups. -/
  | sbRequestReceived (h : Fin 4) (g : Fin 12) (typ : Byte) (payload : List Byte)
  /-- PRBS_CTRL_WRITE (R397). A PRBS_CTRL write starts or stops the generator and checker while the head is DISABLED. -/
  | prbsCtrlWrite (req : Requester) (h : Fin 4) (lane : Fin 13) (value : Word)
  /-- PRBS_SYNC (R396). The checker declares SYNC after 64 correct predictions. -/
  | prbsSync (h : Fin 4) (lane : Fin 13) (bits : List Bool)
  /-- PRBS_SYNC_LOSS (R396). 64 errors in 1,024 bits lose sync and the checker reloads. -/
  | prbsSyncLoss (h : Fin 4) (lane : Fin 13) (bits : List Bool)
  /-- ZL_DISABLE (R383). Disabling ZLh ends line packets and sends every lane OFF, or is refused while the head runs. -/
  | zlDisable (req : Requester) (h : Fin 4) (abort : Bool)
  /-- PANEL_CMD_ON (R407). PANEL_CMD ON checks the sequence table, sets PANEL_REQ and starts the pre-check. -/
  | panelCmdOn (req : Requester)
  /-- PANEL_CMD_OFF (R407). PANEL_CMD OFF clears PANEL_REQ and runs the down sequence. -/
  | panelCmdOff (req : Requester)
  /-- PRECHECK_COMPLETE (R410). The 78 ms pre-check ends: the up sequence starts, or the keeper returns to OFF. -/
  | precheckComplete (readings : List PreReading)
  /-- SEQUENCE_STEP_COMPLETE (R412). A sequence step's ramp, power good and delay end and the next step starts. -/
  | sequenceStepComplete
  /-- POWER_GOOD_TIMEOUT (R414). A RAIL step misses power good within PG_MS, so the up sequence fails. -/
  | powerGoodTimeout
  /-- RAIL_FAULT (R415). A rail at its limit for 1 ms, or over-voltage for 100 µs, switches off and discharges. -/
  | railFault (r : Fin 13) (above : Bool)
  /-- HICCUP_ATTEMPT (R415). 100 ms after a fault the rail ramps again. -/
  | hiccupAttempt (r : Fin 13) (good : Bool)
  /-- ATTEMPT_COUNT_RESET (R415). After 10 s of regulation, the attempt count returns to 0. -/
  | attemptCountReset (r : Fin 13)
  /-- RAIL_NO_LOAD (R417). A rail's load stays below 1 mA for 1 s. -/
  | railNoLoad (r : Fin 13)
  /-- PHASE_LOST (R418). A converter phase is lost. -/
  | phaseLost (r : Fin 13) (phase : Nat)
  /-- RAIL_POWER_LIMIT (R419). Every 10 µs the keeper sums rail power and limits VSP and VSN above 150 W. -/
  | railPowerLimit (loads : List RailLoad)
  /-- PVL_OVERLOAD (R420). PVL_POWER exceeds 15 W for 1 s. -/
  | pvlOverload (milliwatt : Word)
  /-- PVL_LOSS (R408). PVL33 below 90 % for 100 µs: the keeper holds the rails or runs the down sequence per PVL_LOSS. -/
  | pvlLoss
  /-- KEEPER_LINK_LOST (R408). The isolated channel delivers nothing for 100 µs. -/
  | keeperLinkLost
  /-- KEEPER_CHANNEL_UP (R566). The channel to the keeper comes up: the profile and journal are compared and journalled events are reported. -/
  | keeperChannelUp
  /-- RAIL_TARGET_WRITE (R403). A TARGET, ILIM or gate register write within the rail record reaches the keeper, and the rail slews to it. -/
  | railTargetWrite (req : Requester) (addr : Nat) (value : Word)
  /-- FAULT_CLEAR (R416). FAULT_CLEAR unlatches the named rails and releases held gate outputs. -/
  | faultClear (req : Requester) (value : Word)
  /-- GATE_OUTPUT_FAULT (R423). An output misses its level on 16 consecutive edges and is held at VGL. -/
  | gateOutputFault (h : Fin 4) (output : Fin 17)
  /-- CRACK_LOOP_MEASUREMENT (R424). Every 10 ms each crack loop is measured, and three readings above threshold take its safe action. -/
  | crackLoopMeasurement (ohms : List Nat)
  /-- CRACK_ACK (R424). CRACK_ACK releases a loop's safe action if it reads closed. -/
  | crackAck (req : Requester) (value : Word)
  /-- THERMISTOR_READ (R425). Every 100 ms the thermistors are read and PANEL_TEMP is updated. -/
  | thermistorRead (ohms : List Nat)
  /-- HVIN_LOW (R426). HVIN falls between 33 and 36 V. -/
  | hvinLow (millivolt : Word)
  /-- HVIN_LOSS (R426). HVIN below 33 V for 50 µs: HOLDUP, journal, optic termination and down sequence. -/
  | hvinLoss
  /-- HOLDUP_BUS_COLLAPSE (R426). The hold-up bus falls below 28 V and every rail is cut at once. -/
  | holdupBusCollapse
  /-- KEEPER_START (R427). HVIN at 38 V for 100 ms starts the keeper, which reads its journal and may run optic recovery. -/
  | keeperStart (readings : List PreReading)
  /-- BATCH_STAGE (R446). BATCH_CMD STAGE reads the request map and forms the change set. -/
  | batchStage (req : Requester) (id : Byte)
  /-- BATCH_START (R446). BATCH_CMD START locks a band, takes tokens and runs or queues the staged batch. -/
  | batchStart (req : Requester) (id : Byte)
  /-- BATCH_CANCEL (R446). BATCH_CMD CANCEL discards a STAGED batch. -/
  | batchCancel (req : Requester) (id : Byte)
  /-- ROW_PHASE_END (R438). A row phase ends, the ledger is updated and the next phase starts. -/
  | rowPhaseEnd
  /-- ROW_UPDATE_END (R448). A row update ends: SETTLE_END is set, the map row is written and the next row starts. -/
  | rowUpdateEnd
  /-- TOKEN_REFILL (R440). Once per second, 456 units are added to every bucket below capacity. -/
  | tokenRefill
  /-- AUTO_BATCH_START (R447). With AUTO set, the keeper starts batch 0 for re-drives or pending cells. -/
  | autoBatchStart
  /-- BATCH_CRACK_MEASUREMENT (R453). During a batch, loops 4 and 5 are read every 100 µs and an open loop cuts the phase at once. -/
  | batchCrackMeasurement (ohm4 : Nat) (ohm5 : Nat) (ranUs : Nat)
  /-- OPT_ENABLE (R450). Enabling OPT writes the presented map from the journal before the first latch. -/
  | optEnable (req : Requester)
  /-- MEMORY_REQUEST (R463). A request is arbitrated by service class and served at a command slot. -/
  | memoryRequest (pc : Fin 64) (arrive : Option MemReq)
  /-- REQUEST_AGED (R463). A request waits longer than CLASS_AGE and becomes aged. -/
  | requestAged (seq : Nat)
  /-- CEILING_HOLD_TIMEOUT (R464). The held state under CEILING lasts 10 ms. -/
  | ceilingHoldTimeout
  /-- POWER_DOWN_ENTRY (R465). With no request and tolerance at least 200 ns, the stacks enter power-down. -/
  | powerDownEntry
  /-- SELF_REFRESH_ENTRY (R466). After SR_IDLE with enough tolerance, rows close and the self-refresh command is issued. -/
  | selfRefreshEntry
  /-- SLEEP_EXIT (R465). A request or a fall of tolerance begins exit, or cancels an entry. -/
  | sleepExit (req : Bool)
  /-- SLEEP_EXIT_COMPLETE (R466). The stacks are awake and waiting requests are served. -/
  | sleepExitComplete
  /-- REFRESH_WINDOW (R468). At each 32 ms window start, the activation tables are cleared. -/
  | refreshWindow
  /-- PARITY_ERROR (R469). A command parity error stops issue and replays the kept commands. -/
  | parityError (pc : Fin 64) (first attempts : Nat)
  /-- QUICK_RETRAIN (R469). The PC interface is retrained in place after replay fails. -/
  | quickRetrain (pc : Fin 64) (ok : Bool)
  /-- SAFE_MODE (R469). Quick retrain finds no setting, so the PC is retrained at 4.8 Gb/s and migrated. -/
  | safeMode (pc : Fin 64)
  /-- DATA_LOST (R475). Safe mode finds no setting, so the channel is borrowed for or left unbacked with its data poisoned. -/
  | dataLost (pc : Fin 64)
  /-- SCRUB_BURST (R470). A patrol scrub burst reads and checks memory. -/
  | scrubBurst (pc : Fin 64) (addr : Nat) (result : EccResult)
  /-- ECC_INJECT_WRITE (R470). Writing ECC_INJECT arms, replaces or disarms an injection. -/
  | eccInjectWrite (req : Requester) (value : Word)
  /-- MIGRATION_START (R471). A PC due for a periodic, temperature, error, failure or command reason starts migrating to a spare or borrowed rows. -/
  | migrationStart (pc : Fin 64) (reason : MigReason)
  /-- MIGRATION_COMPLETE (R471). The last row is copied, CHAN_MAP switches and the source is released. -/
  | migrationComplete
  /-- OFFLINE_RETRAIN_COMPLETE (R472). A released PC's full retraining ends; it becomes a spare or is retired. -/
  | offlineRetrainComplete (pc : Fin 64) (ok : Bool)
  /-- MEM_CMD_RETRAIN (R477). MEM_CMD RETRAIN migrates the named PC with reason COMMAND and retrains it. -/
  | memCmdRetrain (req : Requester) (pc : Fin 64)
  /-- MEM_CMD_RETIRE (R477). MEM_CMD RETIRE migrates the named PC and retires it. -/
  | memCmdRetire (req : Requester) (pc : Fin 64)
  /-- SHRINK_ACK (R474). MEM_CMD SHRINK_ACK releases a held shrink. -/
  | shrinkAck (req : Requester)
  /-- SYSTEM_TOP_WRITE (R459). SYSTEM_TOP is set, only before features are first accepted. -/
  | systemTopWrite (req : Requester) (value : BitVec 64)
  /-- SAP_ENABLE (R496). A port enable starts the port, or puts a group member in WAITING. -/
  | sapEnable (req : Requester) (p : Fin 8)
  /-- GROUP_CMD_START (R496). SAP0.GROUP_CMD START starts the WAITING members of a group. -/
  | groupCmdStart (req : Requester) (g : Fin 8)
  /-- PLAY (R490). An AUDIO_OUT PLAY entry queues a buffer of frames. -/
  | play (ring : Fin 8192)
  /-- AUDIO_FRAME (R485). At each frame start T(k), the port sends or captures one frame, reading, closing buffers and writing records as due. -/
  | audioFrame (p : Fin 8) (input : List Word) (bad : List Nat) (hostOk : Bool)
  /-- SLOT_MASK_WRITE (R494). A SLOT_MASK write becomes pending until the next frame start. -/
  | slotMaskWrite (req : Requester) (p : Fin 8) (value : Word)
  /-- AUDIO_CLOCK_LOSS (R486). An external clock shows no edge for two frames, or is out of range for 1 s. -/
  | audioClockLoss (p : Fin 8) (outOfRange : Bool) (ppm : Word)
  /-- AUDIO_CLOCK_RETURN (R486). The first frame edge after the clock returns clears CLOCK_LOST. -/
  | audioClockReturn (p : Fin 8)
  /-- CONT_CLEAR (R500). Writing CONT_CLEAR drives the port's pins again from the next frame. -/
  | contClear (req : Requester) (p : Fin 8) (value : Word)
  /-- AUDIO_RECORD_WRITE (R493). A buffered audio record is written once IN_RING has room. -/
  | audioRecordWrite (p : Fin 8)
  /-- MCLK_CFG_WRITE (R487). MCLK_CFG starts or stops the MCLK output at the chosen frequency. -/
  | mclkCfgWrite (req : Requester) (value : Word)
  /-- SENSOR_SAMPLE (R504). Each sample converts the sensors, checks them, and updates zone temperature, demand and level. -/
  | sensorSample (zone : Fin 8) (counts : List Nat)
  /-- LOSS_FLOOR_EXPIRY (R512). The 1 s sensor-loss floor of a zone ends. -/
  | lossFloorExpiry (zone : Fin 8)
  /-- POWER_CMD_ACTIVE (R519). POWER_CMD ACTIVE leaves REDUCED or wakes from STANDBY. -/
  | powerCmdActive (req : Requester)
  /-- POWER_CMD_REDUCED (R519). POWER_CMD REDUCED enters REDUCED or wakes into it. -/
  | powerCmdReduced (req : Requester)
  /-- POWER_CMD_STANDBY (R520). POWER_CMD STANDBY starts entry to STANDBY. -/
  | powerCmdStandby (req : Requester)
  /-- STANDBY_REACHED (R520). Heads finish their fields, the panel goes down, and fast clocks stop. -/
  | standbyReached
  /-- WAKE_GPIO_EDGE (R522). An enabled trigger edge starts a wake from STANDBY. -/
  | wakeGpioEdge (g : Fin 8) (rising : Bool)
  /-- WAKE_CLOCKS_READY (R523). Wake PLLs lock, stacks exit self-refresh, blocks resume and PANEL_CMD ON is issued. -/
  | wakeClocksReady (temp0 temp1 : Int)
  /-- COUNTER_CFG_WRITE (R529). A counter is configured for an event and instance, or refused. -/
  | counterCfgWrite (req : Requester) (i : Fin 256) (value : Word)
  /-- COUNTER_WRAP (R530). A 48-bit counter wraps and sets its OVF bit. -/
  | counterWrap (counter : PerfCounter) (amount : Nat)
  /-- FREEZE_WRITE (R531). FREEZE stops or resumes every general counter at one edge. -/
  | freezeWrite (req : Requester) (value : Word)
  /-- PERF_CMD_CLEAR (R531). PERF_CMD CLEAR zeroes all counters and OVF bits at one edge. -/
  | perfCmdClear (req : Requester)
  /-- PERF_CMD_DUMP (R534). PERF_CMD DUMP triggers one dump. -/
  | perfCmdDump (req : Requester)
  /-- DUMP_TRIGGER (R535). A period or field trigger takes a snapshot of the selected counters. -/
  | dumpTrigger (byField : Option (Fin 4))
  /-- DUMP_WRITE_COMPLETE (R535). A dump's entries are written and PROD advances once. -/
  | dumpWriteComplete
  /-- GLINT_RECORD_WRITE (R539). A tagged ray's last stage is reached and its record is written. -/
  | glintRecordWrite (h : Fin 4) (stages : GlintStages)
  /-- MGMT_WATCHDOG (R548). The management core watchdog expires and the core restarts from its handed-over state. -/
  | mgmtWatchdog
  /-- FW_STAGE (R550). FW_CMD STAGE copies and checks an image into the idle slot. -/
  | fwStage (req : Requester)
  /-- FW_STAGE_COMPLETE (R550). Staging ends and the image is STAGED or refused. -/
  | fwStageComplete (mediaOk : Bool)
  /-- FW_SWAP (R551). FW_CMD SWAP makes a swap pending at a head's field start. -/
  | fwSwap (req : Requester) (h : Fin 4)
  /-- FW_TAKEOVER (R552). The new image reads the handed-over state and takes over, and the running image becomes unconfirmed. -/
  | fwTakeover
  /-- FW_SWAP_TIMEOUT (R551). A swap still pending after 60 s is dropped with BUSY. -/
  | fwSwapTimeout
  /-- FW_SELF_CHECK_FAILURE (R554). The new image fails its self-check within 10 s, so the module swaps back. -/
  | fwSelfCheckFailure
  /-- FW_CONFIRM (R554). FW_CMD CONFIRM marks the running image confirmed and raises the rollback counter. -/
  | fwConfirm (req : Requester)
  /-- FW_REVERT (R554). FW_CMD REVERT swaps back to the previous image while unconfirmed. -/
  | fwRevert (req : Requester)
  /-- MAINTENANCE_LOG_RECORD_WRITE (R555). A maintenance record is written to flash and echoed on the UART. -/
  | maintenanceLogRecordWrite
  /-- LIFETIME_RECORD (R555). Every power-on hour a LIFETIME record is written. -/
  | lifetimeRecord
  /-- PROFILE_INSTALL (R565). PROFILE_CMD INSTALL checks a profile and starts writing it. -/
  | profileInstall (req : Requester)
  /-- PROFILE_INSTALL_COMPLETE (R565). The profile is written, read back, marked current and sent to the journal. -/
  | profileInstallComplete (mediaOk : Bool)
  /-- HANDOVER (R571). HANDOVER_CMD GO checks the held configuration and schedules the release of MGMT_HELD. -/
  | handover (req : Requester)
  /-- QSFP_MODULE_INSERTED (R580). A module is identified and powered if it qualifies. -/
  | qsfpModuleInserted (port : Fin 2) (media : QsfpMedia) (powerClass : Nat)
  /-- QSFP_MODULE_REMOVED (R580). Removal brings the port down. -/
  | qsfpModuleRemoved (port : Fin 2)
  /-- TRIGGER_INPUT_EDGE (R592). A trigger input edge is stamped and counted if enabled in AUX_CAPTURE. -/
  | triggerInputEdge (g : Fin 8) (rising : Bool)
  /-- TRIGGER_OUTPUT_READBACK (R592). Every 1 ms and after each change an output is read back, and three disagreements release it. -/
  | triggerOutputReadback (g : Fin 8) (level : Bool)
  /-- AUX_LEVEL_WRITE (R592). AUX_LEVEL sets trigger output levels and cancels a pending pulse end. -/
  | auxLevelWrite (req : Requester) (value : Word)
  /-- AUX_CTRL_WRITE (R592). AUX_CTRL sets trigger directions, re-drives released outputs, and enables REF10M_OUT. -/
  | auxCtrlWrite (req : Requester) (value : Word)
  /-- DELAY_RESP_RECEIVED (R136). A Delay_Resp message received by a SLAVE domain yields the path-delay measurement used in UNCALIBRATED and LOCKED. -/
  | delayRespReceived (d : Fin 2) (delay : Word)
  /-- DELAY_REQ_RECEIVED (R135). A Delay_Req message received by a domain in MASTER mode is timestamped and answered with a Delay_Resp. -/
  | delayReqReceived (d : Fin 2)
  /-- PCIE_LINK_UP (R579). The PCIe link trains and comes up again after a cable loss, so host accesses and host-memory ring reads work again. -/
  | pcieLinkUp
  /-- LANE_STANDBY_RESUME_TIMEOUT (R383). A lane resuming from standby at head enable whose present ports have not all reported lock within 2 ms returns to DETECT. -/
  | laneStandbyResumeTimeout (h : Fin 4) (lane : Fin 13)
  /-- STACK_TEMPERATURE_READ (R467). A new HBM stack temperature reading sets or clears HOT_REFRESH at 85 °C and may make a PC due for migration with reason TEMPERATURE. -/
  | stackTemperatureRead (stack : Fin 2) (temp : Int)
  deriving DecidableEq, Repr

end Sys2Proof
end

