-- ==== Sys2Proof/Config.lean ====
section
/-!
DEFINITION. The free values: constants without a body, so that nothing can be proved of what they are. A command that
meets a value the spec leaves open takes the free value of the state's counter, or of the operands.
-/
namespace Sys2Proof

/-- A word the spec does not state, by the counter of free values. -/
opaque Config.freeWord : Nat → Word

/-- A byte the spec does not state, by the counter of free values and a position. -/
opaque Config.freeByte : Nat → Nat → Byte

/-- The temperature of a thermistor in 0.1 °C (R425: the spec names the constants it is read by and no formula): by its
resistance at 25 °C in Ω, its B constant in K and the resistance read. -/
opaque Config.thermistor : Nat → Nat → Nat → Int

/-- SYS.IDENT (R4, R61): whether the module is a PX4880-SC, and the stepping of its core die. The spec gives both per module, and no
behaviour rests on them. -/
opaque Config.isSc : Bool
opaque Config.stepping : BitVec 4

/-- Whether the ECDSA P-384 signature of a firmware image verifies under the fused key (R549): the key is not
in the spec. -/
opaque Config.sigOk : List Byte → Bool

/-- The coded frame that a job engine emits (R240: its choice of mode, table and vector is not specified beyond R209; it
is deterministic): by descriptor bytes 52 to 79, the samples of the frame, the samples it predicts from, its index
and the tiles that self-verification fixed. -/
opaque Config.compressFrame : List Byte → List Byte → List Byte → Nat → List Nat → List Byte

/-- The coded tile that writeback emits (R327: its choice of mode and static table is not specified beyond R209): by panel
depth, tile width and height, and the tile in RAW mode. -/
opaque Config.codeTile : Nat → Nat → Nat → List Byte → List Byte

end Sys2Proof
end

