-- ==== Sys2Proof/Machine/Events.lean ====
section
/-!
DEFINITION. The event sources (R62): one constructor of `Ev` per event name of the chapters' event tables, with the
number, page, status bit and severity that those tables give it.
-/
namespace Sys2Proof.Machine

/-- The event sources of the module. `h` is a head, `j` a job engine, `p` an audio port, `i` the instance of a paired page. -/
inductive Ev where
  /-- UNMAPPED_ACCESS (R75). DETAIL0 = BAR0 offset. -/
  | unmappedAccess
  /-- PARTIAL_WRITE (R75). DETAIL0 = BAR0 offset. -/
  | partialWrite
  /-- NOT_NEGOTIATED_ACCESS (R75). DETAIL0 = BAR0 offset. -/
  | notNegotiatedAccess
  /-- REG_REFUSED (R75). DETAIL0 = BAR0 offset. -/
  | regRefused
  /-- LOG_DROP_LOW (R75). DETAIL0 = LOG_DROPPED_LOW. -/
  | logDropLow
  /-- LOG_DROP_HIGH (R75). DETAIL0 = LOG_DROPPED_HIGH. -/
  | logDropHigh
  /-- BAR4_RANGE (R75). DETAIL0, DETAIL1 = HBM address, low and high. -/
  | bar4Range
  /-- FLR_RECEIVED (R75). None. -/
  | flrReceived
  /-- PCIE_LINK_DOWN (R75). DETAIL0 = last link speed and width. -/
  | pcieLinkDown
  /-- FEATURE_ACCEPTED (R75). DETAIL0 = ACCEPT_COUNT. -/
  | featureAccepted
  /-- FEATURE_REFUSED (R75). DETAIL0 = RESULT, DETAIL1 = BIT. -/
  | featureRefused
  /-- TXN_REFUSED (R126). DETAIL0 = id, DETAIL1 = status, DETAIL2 = offending offset. -/
  | txnRefused
  /-- TXN_APPLIED (R126). DETAIL0 = id, DETAIL1 = apply mode, DETAIL2 = status. -/
  | txnApplied
  /-- TXN_ROLLED_BACK (R126). DETAIL0 = id, DETAIL1 = 0 command, 1 function-level reset, 2 TXN_APPLY slot ended under R154 or R156. -/
  | txnRolledBack
  /-- RING_CFG_REFUSED (R126). DETAIL0 = ring, DETAIL1 = CFG_ERROR. -/
  | ringCfgRefused
  /-- DOORBELL_REFUSED (R126). DETAIL0 = ring, DETAIL1 = index written, DETAIL2 = reason. -/
  | doorbellRefused
  /-- STALE_ROLE_SEEN (R126). DETAIL0 = ring, DETAIL1 = index, DETAIL2 = entry epoch, DETAIL3 = unit epoch. -/
  | staleRoleSeen
  /-- RING_STALLED (R126). DETAIL0 = ring. -/
  | ringStalled
  /-- RING_MEDIA_ERROR (R126). DETAIL0 = ring, DETAIL1 = index. -/
  | ringMediaError
  /-- RING_HOST_ERROR (R126). DETAIL0 = ring, DETAIL1 = index. -/
  | ringHostError
  /-- JUMP_REFUSED (R158). DETAIL0 = domain; DETAIL1, DETAIL2 = PROPOSED low, high. -/
  | jumpRefused
  /-- JUMP_ACCEPTED (R158). DETAIL0 = domain; DETAIL1, DETAIL2 = c; DETAIL3 = 0 step, 1 slew. -/
  | jumpAccepted
  /-- DOMAIN_LOCKED (R158). DETAIL0 = domain. -/
  | domainLocked
  /-- DOMAIN_SUSPECT (R158). DETAIL0 = domain. -/
  | domainSuspect
  /-- DOMAIN_HOLDOVER (R158). DETAIL0 = domain. -/
  | domainHoldover
  /-- DOMAIN_SWITCHED (R158). DETAIL0 = new serving domain; DETAIL1, DETAIL2 = slewed offset. -/
  | domainSwitched
  /-- GM_CHANGED (R158). DETAIL0 = domain; DETAIL1, DETAIL2 = new GM_ID. -/
  | gmChanged
  /-- SLEW_DONE (R158). DETAIL0 = 0 normal, 1 fast. -/
  | slewDone
  /-- REF_LOST (R158). None. -/
  | refLost
  /-- PPS_LOST (R158). None. -/
  | ppsLost
  /-- REF_RESTORED (R158). None. -/
  | refRestored
  /-- SCHED_LATE (R158). DETAIL0 = slot. -/
  | schedLate
  /-- SCHED_DONE_LATE (R158). DETAIL0 = slot; DETAIL1 = lateness in ns. -/
  | schedDoneLate
  /-- SCHED_STALE (R158). DETAIL0 = slot; DETAIL1 = slot epoch; DETAIL2 = unit epoch. -/
  | schedStale
  /-- SCHED_OVERRUN (R158). DETAIL0 = slot. -/
  | schedOverrun
  /-- SCHED_LOG_LOST (R158). DETAIL0 = LOG_DROPPED. -/
  | schedLogLost
  /-- LINK_DOWN (R189). DETAIL0 = LINK_STATUS. -/
  | linkDown (i : Fin 2)
  /-- LINK_UP (R189). DETAIL0 = LINK_STATUS. -/
  | linkUp (i : Fin 2)
  /-- FEC_UNCORRECTED (R189). DETAIL0 = FEC_UNCORR. -/
  | fecUncorrected (i : Fin 2)
  /-- RX_POOL_EXHAUSTED (R189). DETAIL0 = RX_RING_FULL. -/
  | rxPoolExhausted (i : Fin 2)
  /-- BAD_PST (R189). DETAIL0 = STREAM_ID, DETAIL1 = SEQ. -/
  | badPst
  /-- NO_FLOW (R189). DETAIL0 = STREAM_ID, DETAIL1 = path: 0 NET0, 1 NET1, 2 host. -/
  | noFlow
  /-- FLOW_STALE (R189). DETAIL0 = flow, DETAIL1 = entry epoch, DETAIL2 = store epoch. -/
  | flowStale
  /-- PATH_LOST (R189). DETAIL0 = flow, DETAIL1 = port. -/
  | pathLost
  /-- PATH_RESTORED (R189). DETAIL0 = flow, DETAIL1 = port. -/
  | pathRestored
  /-- FRAME_REFUSED (R189). DETAIL0 = store, DETAIL1 = FRAME, DETAIL2 = reason. -/
  | frameRefused
  /-- FRAME_CONCEALED (R189). DETAIL0 = store, DETAIL1 = FRAME, DETAIL2 = concealed tiles. -/
  | frameConcealed
  /-- DECODE_LOAD_HIGH (R253). DETAIL0 = LOAD. -/
  | decodeLoadHigh
  /-- DECODE_LATE (R253). DETAIL0 = store, DETAIL1 = FRAME. -/
  | decodeLate
  /-- CORE_RETIRED (R253). DETAIL0 = core, DETAIL1 = CORE_MASK. -/
  | coreRetired
  /-- SCENE_STREAM_ERROR (R253). DETAIL0 = store, DETAIL1 = FRAME, DETAIL2 = tile, DETAIL3 = error code. -/
  | sceneStreamError
  /-- VERIFY_MISMATCH (R253). DETAIL0 = ring, DETAIL1 = index, DETAIL2 = frame and tile, frame in [31:24], DETAIL3 = 0 fixed, 1 RAW failed. -/
  | verifyMismatch (j : Fin 8)
  /-- JOB_TIMEOUT (R253). DETAIL0 = ring, DETAIL1 = index. -/
  | jobTimeout (j : Fin 8)
  /-- JOB_STREAM_ERROR (R253). DETAIL0 = ring, DETAIL1 = index, DETAIL2 = frame, DETAIL3 = tile and code, code in [31:24]. -/
  | jobStreamError (j : Fin 8)
  /-- MAP_LOADED (R270). DETAIL0 = bank, DETAIL1 = CAL_ID. -/
  | mapLoaded (h : Fin 4)
  /-- MAP_REFUSED (R270). DETAIL0 = bank, DETAIL1 = ERROR, DETAIL2 = ERR_DETAIL. -/
  | mapRefused (h : Fin 4)
  /-- MAP_RELEASED (R270). DETAIL0 = bank. -/
  | mapReleased (h : Fin 4)
  /-- MAP_SWITCHED (R270). DETAIL0 = new bank, DETAIL1 = ACTIVE_FIELD. -/
  | mapSwitched (h : Fin 4)
  /-- MAP_FETCH_ERROR (R270). DETAIL0 = bank, DETAIL1 = block index (by × BX + bx), DETAIL2 = variant, DETAIL3 = 0 memory, 1 stream. -/
  | mapFetchError (h : Fin 4)
  /-- RAYS_LATE (R299). DETAIL0 = CUR_FRAME, DETAIL1 = first eclipsed line, DETAIL2 = cause: 0 RATE, 1 SCENE, 2 MAP, DETAIL3 = RGU_STATUS. -/
  | raysLate (h : Fin 4)
  /-- SCENE_FETCH_ERROR (R299). DETAIL0, DETAIL1 = HBM address, low and high; DETAIL2 = CUR_FRAME. -/
  | sceneFetchError (h : Fin 4)
  /-- LOW_MARGIN (R299). DETAIL0 = MIN_MARGIN, DETAIL1 = line at which it occurred. -/
  | lowMargin (h : Fin 4)
  /-- LAYER_ECLIPSED (R333). DETAIL0 = layer, DETAIL1 = first line, DETAIL2 = cause, DETAIL3 = field. -/
  | layerEclipsed (h : Fin 4)
  /-- LAYER_RELEASED (R333). DETAIL0 = layer, DETAIL1, DETAIL2 = REL_DESC low, high, DETAIL3 = REL_COUNT. -/
  | layerReleased (h : Fin 4)
  /-- LAYER_COMMIT_REFUSED (R333). DETAIL0 = BAR0 offset, DETAIL1 = field of the latch. -/
  | layerCommitRefused (h : Fin 4)
  /-- WB_SKIPPED_FIELD (R333). DETAIL0 = reason, DETAIL1 = WB_SKIPPED. -/
  | wbSkippedField (h : Fin 4)
  /-- WB_VERIFY_MISMATCH (R333). DETAIL0 = field, DETAIL1 = tile. -/
  | wbVerifyMismatch (h : Fin 4)
  /-- WB_OUT_OF_SPACE (R333). DETAIL0 = field, DETAIL1 = region. -/
  | wbOutOfSpace (h : Fin 4)
  /-- HEAD_ACTIVE (R365). DETAIL0 = first produced field. -/
  | headActive (h : Fin 4)
  /-- HEAD_LEFT_ACTIVE (R365). DETAIL0 = field, DETAIL1 = line. -/
  | headLeftActive (h : Fin 4)
  /-- LINE_REPEATED (R365). DETAIL0 = field, DETAIL1 = first repeated line, DETAIL2 = LINES_REPEATED. -/
  | lineRepeated (h : Fin 4)
  /-- PHASE_PULLING (R365). DETAIL0, DETAIL1 = E low, high; DETAIL2 = cause of R344. -/
  | phasePulling (h : Fin 4)
  /-- PHASE_LOCKED (R365). DETAIL0 = field. -/
  | phaseLocked (h : Fin 4)
  /-- TIMING_APPLIED (R365). DETAIL0 = TIMING_FIELD, DETAIL1, DETAIL2 = E low, high. -/
  | timingApplied (h : Fin 4)
  /-- RX_TIMING_MISMATCH (R365). DETAIL0 = field, DETAIL1 = RX_PERIOD, DETAIL2 = RX_LINES. -/
  | rxTimingMismatch (h : Fin 4)
  /-- POL_HOLD (R365). DETAIL0 = field, DETAIL1, DETAIL2 = LEDGER low, high. -/
  | polHold (h : Fin 4)
  /-- LUT_WRITE_IGNORED (R365). DETAIL0 = BAR0 offset. -/
  | lutWriteIgnored (h : Fin 4)
  /-- MIRROR_MISMATCH (R365). DETAIL0 = lane, DETAIL1 = field, DETAIL2 = line, DETAIL3 = LANE_MISMATCH of the lane. -/
  | mirrorMismatch (h : Fin 4)
  /-- LANE_ACTIVE (R400). DETAIL0 = lane, DETAIL1 = rate code, DETAIL2 = preset. -/
  | laneActive (h : Fin 4)
  /-- LANE_TRAIN_FAIL (R400). DETAIL0 = lane, DETAIL1 = state, DETAIL2 = reason, DETAIL3 = ROUNDS. -/
  | laneTrainFail (h : Fin 4)
  /-- LANE_DARK (R400). DETAIL0 = lane, DETAIL1 = LAST_FAIL. -/
  | laneDark (h : Fin 4)
  /-- LANE_SPARED (R400). DETAIL0 = failed lane, DETAIL1 = reason, DETAIL2 = field, DETAIL3 = line of the move. -/
  | laneSpared (h : Fin 4)
  /-- SPARE_UNAVAILABLE (R400). DETAIL0 = GAP, DETAIL1 = LANE_STATUS of the gap. -/
  | spareUnavailable (h : Fin 4)
  /-- GROUP_LOST (R400). DETAIL0 = group, DETAIL1 = lane, DETAIL2 = field, DETAIL3 = line. -/
  | groupLost (h : Fin 4)
  /-- GROUP_RESTORED (R400). DETAIL0 = group, DETAIL1 = lane, DETAIL2 = field, DETAIL3 = line. -/
  | groupRestored (h : Fin 4)
  /-- LINK_CORRECTED (R400). DETAIL0 = lane, DETAIL1 = 1 inverted, 2 reversed. -/
  | linkCorrected (h : Fin 4)
  /-- RX_LINE_ERROR (R400). DETAIL0 = field, DETAIL1 = first line, DETAIL2 = RX_MISSING. -/
  | rxLineError (h : Fin 4)
  /-- PRBS_ERROR (R400). DETAIL0 = lane, DETAIL1 = PRBS_ERR. -/
  | prbsError (h : Fin 4)
  /-- LANE_CMD_STALE (R400). DETAIL0 = lane, DETAIL1 = command epoch, DETAIL2 = lane epoch. -/
  | laneCmdStale (h : Fin 4)
  /-- SB_NO_REPLY (R400). DETAIL0 = group, DETAIL1 = NO_REPLY. -/
  | sbNoReply (h : Fin 4)
  /-- SB_FRAME_ERROR (R400). DETAIL0 = SB_CRC_ERR. -/
  | sbFrameError (h : Fin 4)
  /-- SB_CONTENTION (R400). None. -/
  | sbContention (h : Fin 4)
  /-- CAPS_REFUSED (R400). DETAIL0 = group, DETAIL1 = check code. -/
  | capsRefused (h : Fin 4)
  /-- PRECHECK_FAIL (R431). DETAIL0 = first failing rail, DETAIL1 = its PRECHECK. -/
  | precheckFail
  /-- RAIL_FAULT (R431). DETAIL0 = rail, DETAIL1 = 0 under-voltage, 1 over-voltage. -/
  | railFault
  /-- RAIL_RECOVERED (R431). DETAIL0 = rail, DETAIL1 = attempt. -/
  | railRecovered
  /-- RAIL_LATCHED (R431). DETAIL0 = rail. -/
  | railLatched
  /-- RAIL_NO_LOAD (R431). DETAIL0 = rail. -/
  | railNoLoad
  /-- PHASE_LOST (R431). DETAIL0 = rail, DETAIL1 = phase. -/
  | phaseLost
  /-- RAIL_DERATED (R431). DETAIL0 = rail, DETAIL1 = ILIM in effect. -/
  | railDerated
  /-- RAIL_POWER_LIMIT (R431). DETAIL0 = P_TOTAL. -/
  | railPowerLimit
  /-- PVL_OVERLOAD (R431). DETAIL0 = PVL_POWER. -/
  | pvlOverload
  /-- HVIN_LOW (R431). DETAIL0 = HVIN. -/
  | hvinLow
  /-- HVIN_LOST (R431). DETAIL0 = HVIN_LOSSES. -/
  | hvinLost
  /-- HVIN_RESTORED (R431). DETAIL0 = PANEL_REQ. -/
  | hvinRestored
  /-- GATE_OUTPUT_FAULT (R431). DETAIL0 = head, DETAIL1 = output, 16 for GST. -/
  | gateOutputFault
  /-- CRACK_DETECTED (R431). DETAIL0 = loop, DETAIL1 = CRACK_R, DETAIL2 = action. -/
  | crackDetected
  /-- THERMISTOR_INVALID (R431). DETAIL0 = input. -/
  | thermistorInvalid
  /-- PANEL_ON (R431). DETAIL0 = ON_COUNT. -/
  | panelOn
  /-- PANEL_OFF (R431). DETAIL0 = cause: 0 command, 1 latch, 2 crack, 3 HVIN. -/
  | panelOff
  /-- SEQ_FAIL (R431). DETAIL0 = SEQ_RESULT. -/
  | seqFail
  /-- KEEPER_LINK_LOST (R431). None. -/
  | keeperLinkLost
  /-- KEEPER_LINK_RESTORED (R431). None. -/
  | keeperLinkRestored
  /-- BATCH_DONE (R457). DETAIL0 = ID, DETAIL1 = outcome, DETAIL2 = rows, DETAIL3 = band. -/
  | batchDone
  /-- BATCH_TERMINATED (R457). DETAIL0 = ID, DETAIL1 = row cut, DETAIL2 = cause. -/
  | batchTerminated
  /-- BATCH_REFUSED (R457). DETAIL0 = ID, DETAIL1 = reason. -/
  | batchRefused
  /-- CELLS_PENDING (R457). DETAIL0 = ID, DETAIL1 = PENDING_CELLS. -/
  | cellsPending
  /-- TEMP_EXCURSION (R457). DETAIL0 = ID, DETAIL1 = band, DETAIL2 = PANEL_TEMP. -/
  | tempExcursion
  /-- TEMP_UNAVAILABLE (R457). DETAIL0 = PANEL_TEMP. -/
  | tempUnavailable
  /-- ROWS_UNCERTAIN (R457). DETAIL0 = UNCERTAIN_ROWS, DETAIL1 = first row. -/
  | rowsUncertain
  /-- ROWS_RECOVERED (R457). DETAIL0 = rows, DETAIL1 = band. -/
  | rowsRecovered
  /-- LEDGER_HIGH (R457). DETAIL0 = cell, DETAIL1 = LEDGER. -/
  | ledgerHigh
  /-- WEAR_WARN (R457). DETAIL0 = cell. -/
  | wearWarn
  /-- WEAR_LIMIT (R457). DETAIL0 = cell. -/
  | wearLimit
  /-- TABLE_INVALID (R457). DETAIL0 = band, DETAIL1 = byte offset. -/
  | tableInvalid
  /-- MEM_READY (R482). DETAIL0, DETAIL1 = USABLE_TOP low, high. -/
  | memReady
  /-- CEILING_EXCEEDED (R482). DETAIL0 = UTIL. -/
  | ceilingExceeded
  /-- SC0_AGED (R482). DETAIL0 = head, DETAIL1 = wait in ns, DETAIL2 = physical PC. -/
  | sc0Aged
  /-- ECC_CORRECTED (R482). DETAIL0 = physical PC; DETAIL1, DETAIL2 = address. -/
  | eccCorrected
  /-- ECC_UNCORRECTED (R482). DETAIL0 = physical PC, or 0x3F for a read at or above USABLE_TOP under R460; DETAIL1, DETAIL2 = address; DETAIL3 = class. -/
  | eccUncorrected
  /-- SCRUB_UNCORRECTED (R482). DETAIL0 = physical PC; DETAIL1, DETAIL2 = address. -/
  | scrubUncorrected
  /-- PARITY_REPLAYED (R482). DETAIL0 = physical PC, DETAIL1 = attempts. -/
  | parityReplayed
  /-- QUICK_RETRAIN (R482). DETAIL0 = physical PC, DETAIL1 = 0 success, 1 failed. -/
  | quickRetrain
  /-- SAFE_MODE (R482). DETAIL0 = physical PC. -/
  | safeMode
  /-- RETRAIN_DONE (R482). DETAIL0 = physical PC, DETAIL1 = reason. -/
  | retrainDone
  /-- MIGRATION_DONE (R482). DETAIL0 = source, DETAIL1 = target, DETAIL2 = reason. -/
  | migrationDone
  /-- PC_RETIRED (R482). DETAIL0 = physical PC, DETAIL1 = spares free. -/
  | pcRetired
  /-- SPARE_EXHAUSTED (R482). None. -/
  | spareExhausted
  /-- SHRINK_REQUESTED (R482). DETAIL0, DETAIL1 = new USABLE_TOP low, high. -/
  | shrinkRequested
  /-- BULK_SHRUNK (R482). DETAIL0, DETAIL1 = USABLE_TOP low, high; DETAIL2 = M. -/
  | bulkShrunk
  /-- DATA_LOST (R482). DETAIL0 = logical channel, DETAIL1 = physical PC, DETAIL2 = 0 borrowed, 1 unbacked. -/
  | dataLost
  /-- AUDIO_UNDERRUN (R503). DETAIL0, DETAIL1 = first zero frame, low and high. -/
  | audioUnderrun (p : Fin 8)
  /-- AUDIO_OVERRUN (R503). DETAIL0, DETAIL1 = first lost frame, low and high. -/
  | audioOverrun (p : Fin 8)
  /-- AUDIO_CONTENTION (R503). DETAIL0 = pin. -/
  | audioContention (p : Fin 8)
  /-- AUDIO_CLOCK (R503). DETAIL0 = 0 lost, 1 out of range; DETAIL1 = RATE_PPM. -/
  | audioClock (p : Fin 8)
  /-- ZONE_WARM (R526). DETAIL0 = zone, DETAIL1 = TEMP. -/
  | zoneWarm
  /-- ZONE_HOT (R526). DETAIL0 = zone, DETAIL1 = TEMP. -/
  | zoneHot
  /-- ZONE_CRITICAL (R526). DETAIL0 = zone, DETAIL1 = TEMP. -/
  | zoneCritical
  /-- THROTTLE_LEVEL (R526). DETAIL0 = new L, DETAIL1 = zone. -/
  | throttleLevel
  /-- RGU_THROTTLED (R526). DETAIL0 = L. -/
  | rguThrottled
  /-- SENSOR_SUSPECT (R526). DETAIL0 = sensor, DETAIL1 = sensor value, DETAIL2 = neighbour mean. -/
  | sensorSuspect
  /-- SENSOR_FAILED (R526). DETAIL0 = sensor, DETAIL1 = count n. -/
  | sensorFailed
  /-- SENSOR_RECOVERED (R526). DETAIL0 = sensor. -/
  | sensorRecovered
  /-- ZONE_FALLBACK (R526). DETAIL0 = zone, DETAIL1 = OK_SENSORS. -/
  | zoneFallback
  /-- THERMAL_TRIP (R526). DETAIL0 = zone, DETAIL1 = TEMP. -/
  | thermalTrip
  /-- WAKE_DEFERRED (R526). DETAIL0 = zone, DETAIL1 = TEMP, DETAIL2 = 0 hot, 1 cold. -/
  | wakeDeferred
  /-- POWER_STATE_CHANGED (R526). DETAIL0 = STATE, DETAIL1 = LAST_WAKE. -/
  | powerStateChanged
  /-- PERF_OVERFLOW (R544). DETAIL0 = counter. -/
  | perfOverflow (i : Fin 2)
  /-- DUMP_SKIPPED (R544). DETAIL0 = DUMP_MISSED. -/
  | dumpSkipped
  /-- GLINT_LOST (R544). DETAIL0 = GLINT_DROPPED. -/
  | glintLost
  /-- FW_STAGED (R557). DETAIL0 = VERSION, DETAIL1 = slot. -/
  | fwStaged
  /-- FW_STAGE_REFUSED (R557). DETAIL0 = RESULT. -/
  | fwStageRefused
  /-- FW_SWAPPED (R557). DETAIL0 = old VERSION, DETAIL1 = new VERSION, DETAIL2 = SWAP_FIELD. -/
  | fwSwapped
  /-- FW_REVERTED (R557). DETAIL0 = VERSION reverted from, DETAIL1 = 0 self-check, 1 watchdog, 2 command. -/
  | fwReverted
  /-- FW_SWAP_DEFERRED (R557). DETAIL0 = condition of R551, 1–4 in listed order. -/
  | fwSwapDeferred
  /-- FW_CONFIRMED (R557). DETAIL0 = VERSION, DETAIL1 = ROLLBACK_COUNTER. -/
  | fwConfirmed
  /-- SPARE_LOW (R557). DETAIL0 = kind: 0 lane, 1 memory, 2 phase, 3 domain, 4 path, 5 sensor; DETAIL1 = head, rail or zone. -/
  | spareLow
  /-- MGMT_WATCHDOG (R557). DETAIL0 = FW_VERSION. -/
  | mgmtWatchdog
  /-- LOG_WRAPPED (R557). DETAIL0 = LOG_WRAPS. -/
  | logWrapped
  deriving DecidableEq, Repr

/-- The global event number (R62 and the event tables). -/
def evNumber : Ev → Nat
  | .unmappedAccess => 0
  | .partialWrite => 1
  | .notNegotiatedAccess => 2
  | .regRefused => 3
  | .logDropLow => 4
  | .logDropHigh => 5
  | .bar4Range => 6
  | .flrReceived => 7
  | .pcieLinkDown => 8
  | .featureAccepted => 12
  | .featureRefused => 13
  | .txnRefused => 16
  | .txnApplied => 17
  | .txnRolledBack => 18
  | .ringCfgRefused => 19
  | .doorbellRefused => 20
  | .staleRoleSeen => 21
  | .ringStalled => 22
  | .ringMediaError => 23
  | .ringHostError => 24
  | .jumpRefused => 32
  | .jumpAccepted => 33
  | .domainLocked => 34
  | .domainSuspect => 35
  | .domainHoldover => 36
  | .domainSwitched => 37
  | .gmChanged => 38
  | .slewDone => 39
  | .refLost => 40
  | .ppsLost => 41
  | .refRestored => 42
  | .schedLate => 48
  | .schedDoneLate => 49
  | .schedStale => 50
  | .schedOverrun => 51
  | .schedLogLost => 52
  | .linkDown i => 64 + i.val
  | .linkUp i => 66 + i.val
  | .fecUncorrected i => 68 + i.val
  | .rxPoolExhausted i => 70 + i.val
  | .badPst => 72
  | .noFlow => 73
  | .flowStale => 74
  | .pathLost => 75
  | .pathRestored => 76
  | .frameRefused => 77
  | .frameConcealed => 78
  | .decodeLoadHigh => 96
  | .decodeLate => 97
  | .coreRetired => 98
  | .sceneStreamError => 99
  | .verifyMismatch j => 112 + 4 * j.val
  | .jobTimeout j => 113 + 4 * j.val
  | .jobStreamError j => 114 + 4 * j.val
  | .mapLoaded h => 160 + 8 * h.val
  | .mapRefused h => 161 + 8 * h.val
  | .mapReleased h => 162 + 8 * h.val
  | .mapSwitched h => 163 + 8 * h.val
  | .mapFetchError h => 164 + 8 * h.val
  | .raysLate h => 165 + 8 * h.val
  | .sceneFetchError h => 166 + 8 * h.val
  | .lowMargin h => 167 + 8 * h.val
  | .layerEclipsed h => 192 + 16 * h.val
  | .layerReleased h => 193 + 16 * h.val
  | .layerCommitRefused h => 194 + 16 * h.val
  | .wbSkippedField h => 195 + 16 * h.val
  | .wbVerifyMismatch h => 196 + 16 * h.val
  | .wbOutOfSpace h => 197 + 16 * h.val
  | .headActive h => 198 + 16 * h.val
  | .headLeftActive h => 199 + 16 * h.val
  | .lineRepeated h => 200 + 16 * h.val
  | .phasePulling h => 201 + 16 * h.val
  | .phaseLocked h => 202 + 16 * h.val
  | .timingApplied h => 203 + 16 * h.val
  | .rxTimingMismatch h => 204 + 16 * h.val
  | .polHold h => 205 + 16 * h.val
  | .lutWriteIgnored h => 206 + 16 * h.val
  | .mirrorMismatch h => 271 + 16 * h.val
  | .laneActive h => 256 + 16 * h.val
  | .laneTrainFail h => 257 + 16 * h.val
  | .laneDark h => 258 + 16 * h.val
  | .laneSpared h => 259 + 16 * h.val
  | .spareUnavailable h => 260 + 16 * h.val
  | .groupLost h => 261 + 16 * h.val
  | .groupRestored h => 262 + 16 * h.val
  | .linkCorrected h => 263 + 16 * h.val
  | .rxLineError h => 264 + 16 * h.val
  | .prbsError h => 265 + 16 * h.val
  | .laneCmdStale h => 266 + 16 * h.val
  | .sbNoReply h => 267 + 16 * h.val
  | .sbFrameError h => 268 + 16 * h.val
  | .sbContention h => 269 + 16 * h.val
  | .capsRefused h => 270 + 16 * h.val
  | .precheckFail => 320
  | .railFault => 321
  | .railRecovered => 322
  | .railLatched => 323
  | .railNoLoad => 324
  | .phaseLost => 325
  | .railDerated => 326
  | .railPowerLimit => 327
  | .pvlOverload => 328
  | .hvinLow => 329
  | .hvinLost => 330
  | .hvinRestored => 331
  | .gateOutputFault => 332
  | .crackDetected => 333
  | .thermistorInvalid => 334
  | .panelOn => 335
  | .panelOff => 336
  | .seqFail => 337
  | .keeperLinkLost => 338
  | .keeperLinkRestored => 339
  | .batchDone => 352
  | .batchTerminated => 353
  | .batchRefused => 354
  | .cellsPending => 355
  | .tempExcursion => 356
  | .tempUnavailable => 357
  | .rowsUncertain => 358
  | .rowsRecovered => 359
  | .ledgerHigh => 360
  | .wearWarn => 361
  | .wearLimit => 362
  | .tableInvalid => 363
  | .memReady => 384
  | .ceilingExceeded => 385
  | .sc0Aged => 386
  | .eccCorrected => 387
  | .eccUncorrected => 388
  | .scrubUncorrected => 389
  | .parityReplayed => 390
  | .quickRetrain => 391
  | .safeMode => 392
  | .retrainDone => 393
  | .migrationDone => 394
  | .pcRetired => 395
  | .spareExhausted => 396
  | .shrinkRequested => 397
  | .bulkShrunk => 398
  | .dataLost => 399
  | .audioUnderrun p => 416 + 4 * p.val
  | .audioOverrun p => 417 + 4 * p.val
  | .audioContention p => 418 + 4 * p.val
  | .audioClock p => 419 + 4 * p.val
  | .zoneWarm => 448
  | .zoneHot => 449
  | .zoneCritical => 450
  | .throttleLevel => 451
  | .rguThrottled => 452
  | .sensorSuspect => 453
  | .sensorFailed => 454
  | .sensorRecovered => 455
  | .zoneFallback => 456
  | .thermalTrip => 457
  | .wakeDeferred => 458
  | .powerStateChanged => 459
  | .perfOverflow i => 480 + i.val
  | .dumpSkipped => 482
  | .glintLost => 483
  | .fwStaged => 496
  | .fwStageRefused => 497
  | .fwSwapped => 498
  | .fwReverted => 499
  | .fwSwapDeferred => 500
  | .fwConfirmed => 501
  | .spareLow => 502
  | .mgmtWatchdog => 503
  | .logWrapped => 504

/-- BAR0 base of the page that records the event. -/
def evPage : Ev → Nat
  | .unmappedAccess => 0x0
  | .partialWrite => 0x0
  | .notNegotiatedAccess => 0x0
  | .regRefused => 0x0
  | .logDropLow => 0x3000
  | .logDropHigh => 0x3000
  | .bar4Range => 0x0
  | .flrReceived => 0x0
  | .pcieLinkDown => 0x0
  | .featureAccepted => 0x1000
  | .featureRefused => 0x1000
  | .txnRefused => 0x2000
  | .txnApplied => 0x2000
  | .txnRolledBack => 0x2000
  | .ringCfgRefused => 0x2000
  | .doorbellRefused => 0x2000
  | .staleRoleSeen => 0x2000
  | .ringStalled => 0x2000
  | .ringMediaError => 0x2000
  | .ringHostError => 0x2000
  | .jumpRefused => 0x10000
  | .jumpAccepted => 0x10000
  | .domainLocked => 0x10000
  | .domainSuspect => 0x10000
  | .domainHoldover => 0x10000
  | .domainSwitched => 0x10000
  | .gmChanged => 0x10000
  | .slewDone => 0x10000
  | .refLost => 0x10000
  | .ppsLost => 0x10000
  | .refRestored => 0x10000
  | .schedLate => 0x11000
  | .schedDoneLate => 0x11000
  | .schedStale => 0x11000
  | .schedOverrun => 0x11000
  | .schedLogLost => 0x11000
  | .linkDown i => 0x20000 + 0x1000 * i.val
  | .linkUp i => 0x20000 + 0x1000 * i.val
  | .fecUncorrected i => 0x20000 + 0x1000 * i.val
  | .rxPoolExhausted i => 0x20000 + 0x1000 * i.val
  | .badPst => 0x22000
  | .noFlow => 0x22000
  | .flowStale => 0x22000
  | .pathLost => 0x22000
  | .pathRestored => 0x22000
  | .frameRefused => 0x22000
  | .frameConcealed => 0x22000
  | .decodeLoadHigh => 0x30000
  | .decodeLate => 0x30000
  | .coreRetired => 0x30000
  | .sceneStreamError => 0x30000
  | .verifyMismatch j => 0x31000 + 0x1000 * j.val
  | .jobTimeout j => 0x31000 + 0x1000 * j.val
  | .jobStreamError j => 0x31000 + 0x1000 * j.val
  | .mapLoaded h => 0x41000 + 0x10000 * h.val
  | .mapRefused h => 0x41000 + 0x10000 * h.val
  | .mapReleased h => 0x41000 + 0x10000 * h.val
  | .mapSwitched h => 0x41000 + 0x10000 * h.val
  | .mapFetchError h => 0x41000 + 0x10000 * h.val
  | .raysLate h => 0x41000 + 0x10000 * h.val
  | .sceneFetchError h => 0x41000 + 0x10000 * h.val
  | .lowMargin h => 0x41000 + 0x10000 * h.val
  | .layerEclipsed h => 0x40000 + 0x10000 * h.val
  | .layerReleased h => 0x40000 + 0x10000 * h.val
  | .layerCommitRefused h => 0x40000 + 0x10000 * h.val
  | .wbSkippedField h => 0x40000 + 0x10000 * h.val
  | .wbVerifyMismatch h => 0x40000 + 0x10000 * h.val
  | .wbOutOfSpace h => 0x40000 + 0x10000 * h.val
  | .headActive h => 0x40000 + 0x10000 * h.val
  | .headLeftActive h => 0x40000 + 0x10000 * h.val
  | .lineRepeated h => 0x40000 + 0x10000 * h.val
  | .phasePulling h => 0x40000 + 0x10000 * h.val
  | .phaseLocked h => 0x40000 + 0x10000 * h.val
  | .timingApplied h => 0x40000 + 0x10000 * h.val
  | .rxTimingMismatch h => 0x40000 + 0x10000 * h.val
  | .polHold h => 0x4B000 + 0x10000 * h.val
  | .lutWriteIgnored h => 0x4B000 + 0x10000 * h.val
  | .mirrorMismatch h => 0x4C000 + 0x10000 * h.val
  | .laneActive h => 0x4C000 + 0x10000 * h.val
  | .laneTrainFail h => 0x4C000 + 0x10000 * h.val
  | .laneDark h => 0x4C000 + 0x10000 * h.val
  | .laneSpared h => 0x4C000 + 0x10000 * h.val
  | .spareUnavailable h => 0x4C000 + 0x10000 * h.val
  | .groupLost h => 0x4C000 + 0x10000 * h.val
  | .groupRestored h => 0x4C000 + 0x10000 * h.val
  | .linkCorrected h => 0x4C000 + 0x10000 * h.val
  | .rxLineError h => 0x4C000 + 0x10000 * h.val
  | .prbsError h => 0x4C000 + 0x10000 * h.val
  | .laneCmdStale h => 0x4C000 + 0x10000 * h.val
  | .sbNoReply h => 0x4D000 + 0x10000 * h.val
  | .sbFrameError h => 0x4D000 + 0x10000 * h.val
  | .sbContention h => 0x4D000 + 0x10000 * h.val
  | .capsRefused h => 0x4D000 + 0x10000 * h.val
  | .precheckFail => 0x80000
  | .railFault => 0x80000
  | .railRecovered => 0x80000
  | .railLatched => 0x80000
  | .railNoLoad => 0x80000
  | .phaseLost => 0x80000
  | .railDerated => 0x80000
  | .railPowerLimit => 0x80000
  | .pvlOverload => 0x80000
  | .hvinLow => 0x80000
  | .hvinLost => 0x80000
  | .hvinRestored => 0x80000
  | .gateOutputFault => 0x81000
  | .crackDetected => 0x81000
  | .thermistorInvalid => 0x81000
  | .panelOn => 0x82000
  | .panelOff => 0x82000
  | .seqFail => 0x82000
  | .keeperLinkLost => 0x82000
  | .keeperLinkRestored => 0x82000
  | .batchDone => 0x84000
  | .batchTerminated => 0x84000
  | .batchRefused => 0x84000
  | .cellsPending => 0x84000
  | .tempExcursion => 0x84000
  | .tempUnavailable => 0x84000
  | .rowsUncertain => 0x84000
  | .rowsRecovered => 0x84000
  | .ledgerHigh => 0x84000
  | .wearWarn => 0x84000
  | .wearLimit => 0x84000
  | .tableInvalid => 0x84000
  | .memReady => 0x90000
  | .ceilingExceeded => 0x90000
  | .sc0Aged => 0x90000
  | .eccCorrected => 0x93000
  | .eccUncorrected => 0x93000
  | .scrubUncorrected => 0x93000
  | .parityReplayed => 0x94000
  | .quickRetrain => 0x94000
  | .safeMode => 0x94000
  | .retrainDone => 0x94000
  | .migrationDone => 0x94000
  | .pcRetired => 0x94000
  | .spareExhausted => 0x94000
  | .shrinkRequested => 0x94000
  | .bulkShrunk => 0x94000
  | .dataLost => 0x94000
  | .audioUnderrun p => 0xA0000 + 0x1000 * p.val
  | .audioOverrun p => 0xA0000 + 0x1000 * p.val
  | .audioContention p => 0xA0000 + 0x1000 * p.val
  | .audioClock p => 0xA0000 + 0x1000 * p.val
  | .zoneWarm => 0xB0000
  | .zoneHot => 0xB0000
  | .zoneCritical => 0xB0000
  | .throttleLevel => 0xB0000
  | .rguThrottled => 0xB0000
  | .sensorSuspect => 0xB0000
  | .sensorFailed => 0xB0000
  | .sensorRecovered => 0xB0000
  | .zoneFallback => 0xB0000
  | .thermalTrip => 0xB0000
  | .wakeDeferred => 0xB0000
  | .powerStateChanged => 0xB0000
  | .perfOverflow i => 0xC0000 + 0x1000 * i.val
  | .dumpSkipped => 0xC0000
  | .glintLost => 0xC0000
  | .fwStaged => 0x8000
  | .fwStageRefused => 0x8000
  | .fwSwapped => 0x8000
  | .fwReverted => 0x8000
  | .fwSwapDeferred => 0x8000
  | .fwConfirmed => 0x8000
  | .spareLow => 0x8000
  | .mgmtWatchdog => 0x8000
  | .logWrapped => 0x8000

/-- The event's bit in EVT_STATUS, EVT_ENABLE and EVT_FORCE of its page. -/
def evBit : Ev → Nat
  | .unmappedAccess => 0
  | .partialWrite => 1
  | .notNegotiatedAccess => 2
  | .regRefused => 3
  | .logDropLow => 0
  | .logDropHigh => 1
  | .bar4Range => 4
  | .flrReceived => 5
  | .pcieLinkDown => 6
  | .featureAccepted => 0
  | .featureRefused => 1
  | .txnRefused => 0
  | .txnApplied => 1
  | .txnRolledBack => 2
  | .ringCfgRefused => 3
  | .doorbellRefused => 4
  | .staleRoleSeen => 5
  | .ringStalled => 6
  | .ringMediaError => 7
  | .ringHostError => 8
  | .jumpRefused => 0
  | .jumpAccepted => 1
  | .domainLocked => 2
  | .domainSuspect => 3
  | .domainHoldover => 4
  | .domainSwitched => 5
  | .gmChanged => 6
  | .slewDone => 7
  | .refLost => 8
  | .ppsLost => 9
  | .refRestored => 10
  | .schedLate => 0
  | .schedDoneLate => 1
  | .schedStale => 2
  | .schedOverrun => 3
  | .schedLogLost => 4
  | .linkDown _ => 0
  | .linkUp _ => 1
  | .fecUncorrected _ => 2
  | .rxPoolExhausted _ => 3
  | .badPst => 0
  | .noFlow => 1
  | .flowStale => 2
  | .pathLost => 3
  | .pathRestored => 4
  | .frameRefused => 5
  | .frameConcealed => 6
  | .decodeLoadHigh => 0
  | .decodeLate => 1
  | .coreRetired => 2
  | .sceneStreamError => 3
  | .verifyMismatch _ => 0
  | .jobTimeout _ => 1
  | .jobStreamError _ => 2
  | .mapLoaded _ => 0
  | .mapRefused _ => 1
  | .mapReleased _ => 2
  | .mapSwitched _ => 3
  | .mapFetchError _ => 4
  | .raysLate _ => 5
  | .sceneFetchError _ => 6
  | .lowMargin _ => 7
  | .layerEclipsed _ => 0
  | .layerReleased _ => 1
  | .layerCommitRefused _ => 2
  | .wbSkippedField _ => 3
  | .wbVerifyMismatch _ => 4
  | .wbOutOfSpace _ => 5
  | .headActive _ => 6
  | .headLeftActive _ => 7
  | .lineRepeated _ => 8
  | .phasePulling _ => 9
  | .phaseLocked _ => 10
  | .timingApplied _ => 11
  | .rxTimingMismatch _ => 12
  | .polHold _ => 0
  | .lutWriteIgnored _ => 1
  | .mirrorMismatch _ => 15
  | .laneActive _ => 0
  | .laneTrainFail _ => 1
  | .laneDark _ => 2
  | .laneSpared _ => 3
  | .spareUnavailable _ => 4
  | .groupLost _ => 5
  | .groupRestored _ => 6
  | .linkCorrected _ => 7
  | .rxLineError _ => 8
  | .prbsError _ => 9
  | .laneCmdStale _ => 10
  | .sbNoReply _ => 0
  | .sbFrameError _ => 1
  | .sbContention _ => 2
  | .capsRefused _ => 3
  | .precheckFail => 0
  | .railFault => 1
  | .railRecovered => 2
  | .railLatched => 3
  | .railNoLoad => 4
  | .phaseLost => 5
  | .railDerated => 6
  | .railPowerLimit => 7
  | .pvlOverload => 8
  | .hvinLow => 9
  | .hvinLost => 10
  | .hvinRestored => 11
  | .gateOutputFault => 0
  | .crackDetected => 1
  | .thermistorInvalid => 2
  | .panelOn => 0
  | .panelOff => 1
  | .seqFail => 2
  | .keeperLinkLost => 3
  | .keeperLinkRestored => 4
  | .batchDone => 0
  | .batchTerminated => 1
  | .batchRefused => 2
  | .cellsPending => 3
  | .tempExcursion => 4
  | .tempUnavailable => 5
  | .rowsUncertain => 6
  | .rowsRecovered => 7
  | .ledgerHigh => 8
  | .wearWarn => 9
  | .wearLimit => 10
  | .tableInvalid => 11
  | .memReady => 0
  | .ceilingExceeded => 1
  | .sc0Aged => 2
  | .eccCorrected => 0
  | .eccUncorrected => 1
  | .scrubUncorrected => 2
  | .parityReplayed => 0
  | .quickRetrain => 1
  | .safeMode => 2
  | .retrainDone => 3
  | .migrationDone => 4
  | .pcRetired => 5
  | .spareExhausted => 6
  | .shrinkRequested => 7
  | .bulkShrunk => 8
  | .dataLost => 9
  | .audioUnderrun _ => 0
  | .audioOverrun _ => 1
  | .audioContention _ => 2
  | .audioClock _ => 3
  | .zoneWarm => 0
  | .zoneHot => 1
  | .zoneCritical => 2
  | .throttleLevel => 3
  | .rguThrottled => 4
  | .sensorSuspect => 5
  | .sensorFailed => 6
  | .sensorRecovered => 7
  | .zoneFallback => 8
  | .thermalTrip => 9
  | .wakeDeferred => 10
  | .powerStateChanged => 11
  | .perfOverflow _ => 0
  | .dumpSkipped => 1
  | .glintLost => 2
  | .fwStaged => 0
  | .fwStageRefused => 1
  | .fwSwapped => 2
  | .fwReverted => 3
  | .fwSwapDeferred => 4
  | .fwConfirmed => 5
  | .spareLow => 6
  | .mgmtWatchdog => 7
  | .logWrapped => 8

/-- The fixed severity (R13, R62): 0 INFO, 1 MAINT, 2 DEGRADED, 3 IMPACT. -/
def evSev : Ev → Nat
  | .unmappedAccess => 0
  | .partialWrite => 0
  | .notNegotiatedAccess => 0
  | .regRefused => 0
  | .logDropLow => 0
  | .logDropHigh => 2
  | .bar4Range => 0
  | .flrReceived => 0
  | .pcieLinkDown => 2
  | .featureAccepted => 0
  | .featureRefused => 0
  | .txnRefused => 0
  | .txnApplied => 0
  | .txnRolledBack => 0
  | .ringCfgRefused => 0
  | .doorbellRefused => 0
  | .staleRoleSeen => 0
  | .ringStalled => 2
  | .ringMediaError => 2
  | .ringHostError => 2
  | .jumpRefused => 2
  | .jumpAccepted => 0
  | .domainLocked => 0
  | .domainSuspect => 2
  | .domainHoldover => 2
  | .domainSwitched => 0
  | .gmChanged => 0
  | .slewDone => 0
  | .refLost => 2
  | .ppsLost => 2
  | .refRestored => 0
  | .schedLate => 0
  | .schedDoneLate => 0
  | .schedStale => 0
  | .schedOverrun => 2
  | .schedLogLost => 0
  | .linkDown _ => 2
  | .linkUp _ => 0
  | .fecUncorrected _ => 0
  | .rxPoolExhausted _ => 2
  | .badPst => 0
  | .noFlow => 0
  | .flowStale => 0
  | .pathLost => 2
  | .pathRestored => 0
  | .frameRefused => 3
  | .frameConcealed => 3
  | .decodeLoadHigh => 2
  | .decodeLate => 3
  | .coreRetired => 1
  | .sceneStreamError => 0
  | .verifyMismatch _ => 1
  | .jobTimeout _ => 0
  | .jobStreamError _ => 0
  | .mapLoaded _ => 0
  | .mapRefused _ => 0
  | .mapReleased _ => 0
  | .mapSwitched _ => 0
  | .mapFetchError _ => 3
  | .raysLate _ => 3
  | .sceneFetchError _ => 3
  | .lowMargin _ => 2
  | .layerEclipsed _ => 3
  | .layerReleased _ => 0
  | .layerCommitRefused _ => 0
  | .wbSkippedField _ => 2
  | .wbVerifyMismatch _ => 1
  | .wbOutOfSpace _ => 0
  | .headActive _ => 0
  | .headLeftActive _ => 3
  | .lineRepeated _ => 3
  | .phasePulling _ => 0
  | .phaseLocked _ => 0
  | .timingApplied _ => 0
  | .rxTimingMismatch _ => 2
  | .polHold _ => 0
  | .lutWriteIgnored _ => 0
  | .mirrorMismatch _ => 3
  | .laneActive _ => 0
  | .laneTrainFail _ => 0
  | .laneDark _ => 2
  | .laneSpared _ => 1
  | .spareUnavailable _ => 2
  | .groupLost _ => 3
  | .groupRestored _ => 0
  | .linkCorrected _ => 0
  | .rxLineError _ => 0
  | .prbsError _ => 0
  | .laneCmdStale _ => 0
  | .sbNoReply _ => 2
  | .sbFrameError _ => 0
  | .sbContention _ => 2
  | .capsRefused _ => 0
  | .precheckFail => 3
  | .railFault => 3
  | .railRecovered => 0
  | .railLatched => 3
  | .railNoLoad => 2
  | .phaseLost => 1
  | .railDerated => 2
  | .railPowerLimit => 2
  | .pvlOverload => 2
  | .hvinLow => 2
  | .hvinLost => 3
  | .hvinRestored => 0
  | .gateOutputFault => 3
  | .crackDetected => 3
  | .thermistorInvalid => 2
  | .panelOn => 0
  | .panelOff => 0
  | .seqFail => 3
  | .keeperLinkLost => 3
  | .keeperLinkRestored => 0
  | .batchDone => 0
  | .batchTerminated => 2
  | .batchRefused => 0
  | .cellsPending => 0
  | .tempExcursion => 2
  | .tempUnavailable => 2
  | .rowsUncertain => 3
  | .rowsRecovered => 1
  | .ledgerHigh => 2
  | .wearWarn => 1
  | .wearLimit => 2
  | .tableInvalid => 2
  | .memReady => 0
  | .ceilingExceeded => 2
  | .sc0Aged => 2
  | .eccCorrected => 0
  | .eccUncorrected => 2
  | .scrubUncorrected => 2
  | .parityReplayed => 0
  | .quickRetrain => 1
  | .safeMode => 2
  | .retrainDone => 0
  | .migrationDone => 0
  | .pcRetired => 1
  | .spareExhausted => 2
  | .shrinkRequested => 2
  | .bulkShrunk => 2
  | .dataLost => 3
  | .audioUnderrun _ => 3
  | .audioOverrun _ => 3
  | .audioContention _ => 3
  | .audioClock _ => 2
  | .zoneWarm => 0
  | .zoneHot => 2
  | .zoneCritical => 3
  | .throttleLevel => 0
  | .rguThrottled => 2
  | .sensorSuspect => 1
  | .sensorFailed => 1
  | .sensorRecovered => 0
  | .zoneFallback => 2
  | .thermalTrip => 3
  | .wakeDeferred => 2
  | .powerStateChanged => 0
  | .perfOverflow _ => 0
  | .dumpSkipped => 0
  | .glintLost => 0
  | .fwStaged => 0
  | .fwStageRefused => 0
  | .fwSwapped => 0
  | .fwReverted => 2
  | .fwSwapDeferred => 0
  | .fwConfirmed => 0
  | .spareLow => 2
  | .mgmtWatchdog => 1
  | .logWrapped => 0

/-- Rows of the event tables: first number, step, count, severity (part 0). -/
def sevRows0 : List (Nat × Nat × Nat × Nat) :=
  [(0, 1, 1, 0), (1, 1, 1, 0), (2, 1, 1, 0), (3, 1, 1, 0), (4, 1, 1, 0), (5, 1, 1, 2),
   (6, 1, 1, 0), (7, 1, 1, 0), (8, 1, 1, 2), (12, 1, 1, 0), (13, 1, 1, 0), (16, 1, 1, 0),
   (17, 1, 1, 0), (18, 1, 1, 0), (19, 1, 1, 0), (20, 1, 1, 0), (21, 1, 1, 0), (22, 1, 1, 2),
   (23, 1, 1, 2), (24, 1, 1, 2), (32, 1, 1, 2), (33, 1, 1, 0), (34, 1, 1, 0), (35, 1, 1, 2)]

/-- Rows of the event tables: first number, step, count, severity (part 1). -/
def sevRows1 : List (Nat × Nat × Nat × Nat) :=
  [(36, 1, 1, 2), (37, 1, 1, 0), (38, 1, 1, 0), (39, 1, 1, 0), (40, 1, 1, 2), (41, 1, 1, 2),
   (42, 1, 1, 0), (48, 1, 1, 0), (49, 1, 1, 0), (50, 1, 1, 0), (51, 1, 1, 2), (52, 1, 1, 0),
   (64, 1, 2, 2), (66, 1, 2, 0), (68, 1, 2, 0), (70, 1, 2, 2), (72, 1, 1, 0), (73, 1, 1, 0),
   (74, 1, 1, 0), (75, 1, 1, 2), (76, 1, 1, 0), (77, 1, 1, 3), (78, 1, 1, 3), (96, 1, 1, 2)]

/-- Rows of the event tables: first number, step, count, severity (part 2). -/
def sevRows2 : List (Nat × Nat × Nat × Nat) :=
  [(97, 1, 1, 3), (98, 1, 1, 1), (99, 1, 1, 0), (112, 4, 8, 1), (113, 4, 8, 0), (114, 4, 8, 0),
   (160, 8, 4, 0), (161, 8, 4, 0), (162, 8, 4, 0), (163, 8, 4, 0), (164, 8, 4, 3), (165, 8, 4, 3),
   (166, 8, 4, 3), (167, 8, 4, 2), (192, 16, 4, 3), (193, 16, 4, 0), (194, 16, 4, 0), (195, 16, 4, 2),
   (196, 16, 4, 1), (197, 16, 4, 0), (198, 16, 4, 0), (199, 16, 4, 3), (200, 16, 4, 3), (201, 16, 4, 0)]

/-- Rows of the event tables: first number, step, count, severity (part 3). -/
def sevRows3 : List (Nat × Nat × Nat × Nat) :=
  [(202, 16, 4, 0), (203, 16, 4, 0), (204, 16, 4, 2), (205, 16, 4, 0), (206, 16, 4, 0), (271, 16, 4, 3),
   (256, 16, 4, 0), (257, 16, 4, 0), (258, 16, 4, 2), (259, 16, 4, 1), (260, 16, 4, 2), (261, 16, 4, 3),
   (262, 16, 4, 0), (263, 16, 4, 0), (264, 16, 4, 0), (265, 16, 4, 0), (266, 16, 4, 0), (267, 16, 4, 2),
   (268, 16, 4, 0), (269, 16, 4, 2), (270, 16, 4, 0), (320, 1, 1, 3), (321, 1, 1, 3), (322, 1, 1, 0)]

/-- Rows of the event tables: first number, step, count, severity (part 4). -/
def sevRows4 : List (Nat × Nat × Nat × Nat) :=
  [(323, 1, 1, 3), (324, 1, 1, 2), (325, 1, 1, 1), (326, 1, 1, 2), (327, 1, 1, 2), (328, 1, 1, 2),
   (329, 1, 1, 2), (330, 1, 1, 3), (331, 1, 1, 0), (332, 1, 1, 3), (333, 1, 1, 3), (334, 1, 1, 2),
   (335, 1, 1, 0), (336, 1, 1, 0), (337, 1, 1, 3), (338, 1, 1, 3), (339, 1, 1, 0), (352, 1, 1, 0),
   (353, 1, 1, 2), (354, 1, 1, 0), (355, 1, 1, 0), (356, 1, 1, 2), (357, 1, 1, 2), (358, 1, 1, 3)]

/-- Rows of the event tables: first number, step, count, severity (part 5). -/
def sevRows5 : List (Nat × Nat × Nat × Nat) :=
  [(359, 1, 1, 1), (360, 1, 1, 2), (361, 1, 1, 1), (362, 1, 1, 2), (363, 1, 1, 2), (384, 1, 1, 0),
   (385, 1, 1, 2), (386, 1, 1, 2), (387, 1, 1, 0), (388, 1, 1, 2), (389, 1, 1, 2), (390, 1, 1, 0),
   (391, 1, 1, 1), (392, 1, 1, 2), (393, 1, 1, 0), (394, 1, 1, 0), (395, 1, 1, 1), (396, 1, 1, 2),
   (397, 1, 1, 2), (398, 1, 1, 2), (399, 1, 1, 3), (416, 4, 8, 3), (417, 4, 8, 3), (418, 4, 8, 3)]

/-- Rows of the event tables: first number, step, count, severity (part 6). -/
def sevRows6 : List (Nat × Nat × Nat × Nat) :=
  [(419, 4, 8, 2), (448, 1, 1, 0), (449, 1, 1, 2), (450, 1, 1, 3), (451, 1, 1, 0), (452, 1, 1, 2),
   (453, 1, 1, 1), (454, 1, 1, 1), (455, 1, 1, 0), (456, 1, 1, 2), (457, 1, 1, 3), (458, 1, 1, 2),
   (459, 1, 1, 0), (480, 1, 2, 0), (482, 1, 1, 0), (483, 1, 1, 0), (496, 1, 1, 0), (497, 1, 1, 0),
   (498, 1, 1, 0), (499, 1, 1, 2), (500, 1, 1, 0), (501, 1, 1, 0), (502, 1, 1, 2), (503, 1, 1, 1)]

/-- Rows of the event tables: first number, step, count, severity (part 7). -/
def sevRows7 : List (Nat × Nat × Nat × Nat) :=
  [(504, 1, 1, 0)]

/-- The event tables as rows of numbers. -/
def sevRows : List (Nat × Nat × Nat × Nat) :=
  sevRows0 ++ sevRows1 ++ sevRows2 ++ sevRows3 ++ sevRows4 ++ sevRows5 ++ sevRows6 ++ sevRows7

/-- Severity by event number, for the SEV field of the source map (R67); `none` for an unallocated number. -/
def sevOfNumber (n : Nat) : Option Nat :=
  (sevRows.find? fun r => decide (r.1 ≤ n ∧ n < r.1 + r.2.1 * r.2.2.1 ∧ (n - r.1) % r.2.1 = 0)).map fun r => r.2.2.2

/-- The event that a page (by its BAR0 base) records in a bit, if that bit is implemented. -/
def evAt (base bit : Nat) : Option Ev :=
  if base = 0x0 then
    if bit = 0 then some .unmappedAccess else if bit = 1 then some .partialWrite else if bit = 2 then some .notNegotiatedAccess else if bit = 3 then some .regRefused else if bit = 4 then some .bar4Range else if bit = 5 then some .flrReceived else if bit = 6 then some .pcieLinkDown else none
  else
  if base = 0x3000 then
    if bit = 0 then some .logDropLow else if bit = 1 then some .logDropHigh else none
  else
  if base = 0x1000 then
    if bit = 0 then some .featureAccepted else if bit = 1 then some .featureRefused else none
  else
  if base = 0x2000 then
    if bit = 0 then some .txnRefused else if bit = 1 then some .txnApplied else if bit = 2 then some .txnRolledBack else if bit = 3 then some .ringCfgRefused else if bit = 4 then some .doorbellRefused else if bit = 5 then some .staleRoleSeen else if bit = 6 then some .ringStalled else if bit = 7 then some .ringMediaError else if bit = 8 then some .ringHostError else none
  else
  if base = 0x10000 then
    if bit = 0 then some .jumpRefused else if bit = 1 then some .jumpAccepted else if bit = 2 then some .domainLocked else if bit = 3 then some .domainSuspect else if bit = 4 then some .domainHoldover else if bit = 5 then some .domainSwitched else if bit = 6 then some .gmChanged else if bit = 7 then some .slewDone else if bit = 8 then some .refLost else if bit = 9 then some .ppsLost else if bit = 10 then some .refRestored else none
  else
  if base = 0x11000 then
    if bit = 0 then some .schedLate else if bit = 1 then some .schedDoneLate else if bit = 2 then some .schedStale else if bit = 3 then some .schedOverrun else if bit = 4 then some .schedLogLost else none
  else
  if base = 0x22000 then
    if bit = 0 then some .badPst else if bit = 1 then some .noFlow else if bit = 2 then some .flowStale else if bit = 3 then some .pathLost else if bit = 4 then some .pathRestored else if bit = 5 then some .frameRefused else if bit = 6 then some .frameConcealed else none
  else
  if base = 0x30000 then
    if bit = 0 then some .decodeLoadHigh else if bit = 1 then some .decodeLate else if bit = 2 then some .coreRetired else if bit = 3 then some .sceneStreamError else none
  else
  if base = 0x80000 then
    if bit = 0 then some .precheckFail else if bit = 1 then some .railFault else if bit = 2 then some .railRecovered else if bit = 3 then some .railLatched else if bit = 4 then some .railNoLoad else if bit = 5 then some .phaseLost else if bit = 6 then some .railDerated else if bit = 7 then some .railPowerLimit else if bit = 8 then some .pvlOverload else if bit = 9 then some .hvinLow else if bit = 10 then some .hvinLost else if bit = 11 then some .hvinRestored else none
  else
  if base = 0x81000 then
    if bit = 0 then some .gateOutputFault else if bit = 1 then some .crackDetected else if bit = 2 then some .thermistorInvalid else none
  else
  if base = 0x82000 then
    if bit = 0 then some .panelOn else if bit = 1 then some .panelOff else if bit = 2 then some .seqFail else if bit = 3 then some .keeperLinkLost else if bit = 4 then some .keeperLinkRestored else none
  else
  if base = 0x84000 then
    if bit = 0 then some .batchDone else if bit = 1 then some .batchTerminated else if bit = 2 then some .batchRefused else if bit = 3 then some .cellsPending else if bit = 4 then some .tempExcursion else if bit = 5 then some .tempUnavailable else if bit = 6 then some .rowsUncertain else if bit = 7 then some .rowsRecovered else if bit = 8 then some .ledgerHigh else if bit = 9 then some .wearWarn else if bit = 10 then some .wearLimit else if bit = 11 then some .tableInvalid else none
  else
  if base = 0x90000 then
    if bit = 0 then some .memReady else if bit = 1 then some .ceilingExceeded else if bit = 2 then some .sc0Aged else none
  else
  if base = 0x93000 then
    if bit = 0 then some .eccCorrected else if bit = 1 then some .eccUncorrected else if bit = 2 then some .scrubUncorrected else none
  else
  if base = 0x94000 then
    if bit = 0 then some .parityReplayed else if bit = 1 then some .quickRetrain else if bit = 2 then some .safeMode else if bit = 3 then some .retrainDone else if bit = 4 then some .migrationDone else if bit = 5 then some .pcRetired else if bit = 6 then some .spareExhausted else if bit = 7 then some .shrinkRequested else if bit = 8 then some .bulkShrunk else if bit = 9 then some .dataLost else none
  else
  if base = 0xB0000 then
    if bit = 0 then some .zoneWarm else if bit = 1 then some .zoneHot else if bit = 2 then some .zoneCritical else if bit = 3 then some .throttleLevel else if bit = 4 then some .rguThrottled else if bit = 5 then some .sensorSuspect else if bit = 6 then some .sensorFailed else if bit = 7 then some .sensorRecovered else if bit = 8 then some .zoneFallback else if bit = 9 then some .thermalTrip else if bit = 10 then some .wakeDeferred else if bit = 11 then some .powerStateChanged else none
  else
  if base = 0xC0000 then
    if bit = 1 then some .dumpSkipped else if bit = 2 then some .glintLost else if bit = 0 then some (.perfOverflow ⟨0, by decide⟩) else none
  else
  if base = 0x8000 then
    if bit = 0 then some .fwStaged else if bit = 1 then some .fwStageRefused else if bit = 2 then some .fwSwapped else if bit = 3 then some .fwReverted else if bit = 4 then some .fwSwapDeferred else if bit = 5 then some .fwConfirmed else if bit = 6 then some .spareLow else if bit = 7 then some .mgmtWatchdog else if bit = 8 then some .logWrapped else none
  else
  if base = 0x20000 then
    if bit = 0 then some (.linkDown ⟨0, by decide⟩) else if bit = 1 then some (.linkUp ⟨0, by decide⟩) else if bit = 2 then some (.fecUncorrected ⟨0, by decide⟩) else if bit = 3 then some (.rxPoolExhausted ⟨0, by decide⟩) else none
  else
  if base = 0x21000 then
    if bit = 0 then some (.linkDown ⟨1, by decide⟩) else if bit = 1 then some (.linkUp ⟨1, by decide⟩) else if bit = 2 then some (.fecUncorrected ⟨1, by decide⟩) else if bit = 3 then some (.rxPoolExhausted ⟨1, by decide⟩) else none
  else
  if base = 0xc1000 then (if bit = 0 then some (.perfOverflow ⟨1, by decide⟩) else none)
  else
  if q : 0x31000 ≤ base ∧ (base - 0x31000) % 0x1000 = 0 ∧ (base - 0x31000) / 0x1000 < 8 then
    let i : Fin 8 := ⟨(base - 0x31000) / 0x1000, q.2.2⟩
    if bit = 0 then some (.verifyMismatch i) else if bit = 1 then some (.jobTimeout i) else if bit = 2 then some (.jobStreamError i) else none
  else
  if q : 0xa0000 ≤ base ∧ (base - 0xa0000) % 0x1000 = 0 ∧ (base - 0xa0000) / 0x1000 < 8 then
    let i : Fin 8 := ⟨(base - 0xa0000) / 0x1000, q.2.2⟩
    if bit = 0 then some (.audioUnderrun i) else if bit = 1 then some (.audioOverrun i) else if bit = 2 then some (.audioContention i) else if bit = 3 then some (.audioClock i) else none
  else
  if q : 0x41000 ≤ base ∧ (base - 0x41000) % 0x10000 = 0 ∧ (base - 0x41000) / 0x10000 < 4 then
    let i : Fin 4 := ⟨(base - 0x41000) / 0x10000, q.2.2⟩
    if bit = 0 then some (.mapLoaded i) else if bit = 1 then some (.mapRefused i) else if bit = 2 then some (.mapReleased i) else if bit = 3 then some (.mapSwitched i) else if bit = 4 then some (.mapFetchError i) else if bit = 5 then some (.raysLate i) else if bit = 6 then some (.sceneFetchError i) else if bit = 7 then some (.lowMargin i) else none
  else
  if q : 0x40000 ≤ base ∧ (base - 0x40000) % 0x10000 = 0 ∧ (base - 0x40000) / 0x10000 < 4 then
    let i : Fin 4 := ⟨(base - 0x40000) / 0x10000, q.2.2⟩
    if bit = 0 then some (.layerEclipsed i) else if bit = 1 then some (.layerReleased i) else if bit = 2 then some (.layerCommitRefused i) else if bit = 3 then some (.wbSkippedField i) else if bit = 4 then some (.wbVerifyMismatch i) else if bit = 5 then some (.wbOutOfSpace i) else if bit = 6 then some (.headActive i) else if bit = 7 then some (.headLeftActive i) else if bit = 8 then some (.lineRepeated i) else if bit = 9 then some (.phasePulling i) else if bit = 10 then some (.phaseLocked i) else if bit = 11 then some (.timingApplied i) else if bit = 12 then some (.rxTimingMismatch i) else none
  else
  if q : 0x4b000 ≤ base ∧ (base - 0x4b000) % 0x10000 = 0 ∧ (base - 0x4b000) / 0x10000 < 4 then
    let i : Fin 4 := ⟨(base - 0x4b000) / 0x10000, q.2.2⟩
    if bit = 0 then some (.polHold i) else if bit = 1 then some (.lutWriteIgnored i) else none
  else
  if q : 0x4c000 ≤ base ∧ (base - 0x4c000) % 0x10000 = 0 ∧ (base - 0x4c000) / 0x10000 < 4 then
    let i : Fin 4 := ⟨(base - 0x4c000) / 0x10000, q.2.2⟩
    if bit = 15 then some (.mirrorMismatch i) else if bit = 0 then some (.laneActive i) else if bit = 1 then some (.laneTrainFail i) else if bit = 2 then some (.laneDark i) else if bit = 3 then some (.laneSpared i) else if bit = 4 then some (.spareUnavailable i) else if bit = 5 then some (.groupLost i) else if bit = 6 then some (.groupRestored i) else if bit = 7 then some (.linkCorrected i) else if bit = 8 then some (.rxLineError i) else if bit = 9 then some (.prbsError i) else if bit = 10 then some (.laneCmdStale i) else none
  else
  if q : 0x4d000 ≤ base ∧ (base - 0x4d000) % 0x10000 = 0 ∧ (base - 0x4d000) / 0x10000 < 4 then
    let i : Fin 4 := ⟨(base - 0x4d000) / 0x10000, q.2.2⟩
    if bit = 0 then some (.sbNoReply i) else if bit = 1 then some (.sbFrameError i) else if bit = 2 then some (.sbContention i) else if bit = 3 then some (.capsRefused i) else none
  else
  none

/-- EVT_ENABLE at reset (R49): 1 in each implemented bit of the page, counted over bits 0 to `n` - 1. -/
def evMaskUpTo (base : Nat) : Nat → Nat
  | 0 => 0
  | n + 1 => evMaskUpTo base n + (if (evAt base n).isSome then 2 ^ n else 0)

/-- The implemented event bits of a page. -/
def evMask (base : Nat) : Nat := evMaskUpTo base 16

end Sys2Proof.Machine
end

