-- ==== Sys2Proof/Machine/Regs.lean ====
section
/-!
DEFINITION. BAR0: the named register addresses of the chapters' register tables (`Reg.PAGE_NAME`), the map of R47
(`pageAt`) and the reset values (`Reg.reset`).
-/
namespace Sys2Proof.Machine

/-- R49: PAGE_ID; RO. -/
def Reg.PAGE_ID (b : Nat) : Nat := b + 0x000
/-- R49: PAGE_REV; RO. -/
def Reg.PAGE_REV (b : Nat) : Nat := b + 0x004
/-- R49: PAGE_FEAT; RO. -/
def Reg.PAGE_FEAT (b : Nat) : Nat := b + 0x008
/-- R49: PAGE_CTRL; RW. -/
def Reg.PAGE_CTRL (b : Nat) : Nat := b + 0x00C
/-- R49: PAGE_STATUS; RO. -/
def Reg.PAGE_STATUS (b : Nat) : Nat := b + 0x010
/-- R49: EVT_STATUS; W1C. -/
def Reg.PAGE_EVT_STATUS (b : Nat) : Nat := b + 0x014
/-- R49: EVT_ENABLE; RW. -/
def Reg.PAGE_EVT_ENABLE (b : Nat) : Nat := b + 0x018
/-- R49: EVT_FORCE; WO. -/
def Reg.PAGE_EVT_FORCE (b : Nat) : Nat := b + 0x01C
/-- R49: ROLE; RW. -/
def Reg.PAGE_ROLE (b : Nat) : Nat := b + 0x020
/-- R61: BAR4_BASE_LO; RW. -/
def Reg.SYS_BAR4_BASE_LO : Nat := 0x0 + 0x100
/-- R61: BAR4_BASE_HI; RW. -/
def Reg.SYS_BAR4_BASE_HI : Nat := 0x0 + 0x104
/-- R61: SCRATCH; RW. -/
def Reg.SYS_SCRATCH : Nat := 0x0 + 0x108
/-- R61: IDENT; RO. -/
def Reg.SYS_IDENT : Nat := 0x0 + 0x800
/-- R61: FW_VERSION; RO. -/
def Reg.SYS_FW_VERSION : Nat := 0x0 + 0x804
/-- R61: FW_SLOT; RO. -/
def Reg.SYS_FW_SLOT : Nat := 0x0 + 0x808
/-- R61: SERIAL_LO; RO. -/
def Reg.SYS_SERIAL_LO : Nat := 0x0 + 0x810
/-- R61: SERIAL_HI; RO. -/
def Reg.SYS_SERIAL_HI : Nat := 0x0 + 0x814
/-- R61: UNMAPPED_COUNT; RO. -/
def Reg.SYS_UNMAPPED_COUNT : Nat := 0x0 + 0x818
/-- R61: PARTIAL_COUNT; RO. -/
def Reg.SYS_PARTIAL_COUNT : Nat := 0x0 + 0x81C
/-- R61: LAST_BAD_ADDR; RO. -/
def Reg.SYS_LAST_BAD_ADDR : Nat := 0x0 + 0x820
/-- R70: LOG_RING; RW. -/
def Reg.EVT0_LOG_RING : Nat := 0x3000 + 0x100
/-- R70: LOG_SEQ; RO. -/
def Reg.EVT0_LOG_SEQ : Nat := 0x3000 + 0x810
/-- R70: LOG_DROPPED_LOW; RO. -/
def Reg.EVT0_LOG_DROPPED_LOW : Nat := 0x3000 + 0x814
/-- R70: LOG_DROPPED_HIGH; RO. -/
def Reg.EVT0_LOG_DROPPED_HIGH : Nat := 0x3000 + 0x818
/-- R70: LOG_FILL; RO. -/
def Reg.EVT0_LOG_FILL : Nat := 0x3000 + 0x81C
/-- R84: DRV_FEATURESw; RW. -/
def Reg.FEAT_DRV_FEATURES (w : Nat) : Nat := 0x1000 + 0x100 + 4 * w
/-- R84: FEATURE_ACCEPT; WO. -/
def Reg.FEAT_FEATURE_ACCEPT : Nat := 0x1000 + 0x120
/-- R84: DEV_FEATURESw; RO. -/
def Reg.FEAT_DEV_FEATURES (w : Nat) : Nat := 0x1000 + 0x800 + 4 * w
/-- R84: ACTIVE_FEATURESw; RO. -/
def Reg.FEAT_ACTIVE_FEATURES (w : Nat) : Nat := 0x1000 + 0x820 + 4 * w
/-- R84: FEAT_STATUS; RO. -/
def Reg.FEAT_FEAT_STATUS : Nat := 0x1000 + 0x840
/-- R84: ACCEPT_COUNT; RO. -/
def Reg.FEAT_ACCEPT_COUNT : Nat := 0x1000 + 0x844
/-- R86: BASE_LO; RW. -/
def Reg.RING_BASE_LO (r : Nat) : Nat := (0x100000 + 64 * r) + 0x00
/-- R86: BASE_HI; RW. -/
def Reg.RING_BASE_HI (r : Nat) : Nat := (0x100000 + 64 * r) + 0x04
/-- R86: CFG; RW. -/
def Reg.RING_CFG (r : Nat) : Nat := (0x100000 + 64 * r) + 0x08
/-- R86: OWNER; RW. -/
def Reg.RING_OWNER (r : Nat) : Nat := (0x100000 + 64 * r) + 0x0C
/-- R86: PROD; RW. -/
def Reg.RING_PROD (r : Nat) : Nat := (0x100000 + 64 * r) + 0x10
/-- R86: CONS; RW. -/
def Reg.RING_CONS (r : Nat) : Nat := (0x100000 + 64 * r) + 0x14
/-- R86: CTRL; RW. -/
def Reg.RING_CTRL (r : Nat) : Nat := (0x100000 + 64 * r) + 0x18
/-- R86: COMP; RW. -/
def Reg.RING_COMP (r : Nat) : Nat := (0x100000 + 64 * r) + 0x1C
/-- R86: EPOCH_STAT; RO. -/
def Reg.RING_EPOCH_STAT (r : Nat) : Nat := (0x100000 + 64 * r) + 0x20
/-- R86: STATUS; RO. -/
def Reg.RING_STATUS (r : Nat) : Nat := (0x100000 + 64 * r) + 0x24
/-- R86: DB_REFUSED; RO. -/
def Reg.RING_DB_REFUSED (r : Nat) : Nat := (0x100000 + 64 * r) + 0x28
/-- R113: TXN_CMD; WO. -/
def Reg.TXN_TXN_CMD : Nat := 0x2000 + 0x100
/-- R113: TXN_COMP; RW. -/
def Reg.TXN_TXN_COMP : Nat := 0x2000 + 0x104
/-- R113: STAGE_ADDR_t; RW. -/
def Reg.TXN_STAGE_ADDR (t : Nat) : Nat := 0x2000 + 0x110 + 8 * t
/-- R113: STAGE_DATA_t; WO. -/
def Reg.TXN_STAGE_DATA (t : Nat) : Nat := 0x2000 + 0x114 + 8 * t
/-- R113: TXN_LAST; RO. -/
def Reg.TXN_TXN_LAST : Nat := 0x2000 + 0x800
/-- R113: TXN_STATE_t; RO. -/
def Reg.TXN_TXN_STATE (t : Nat) : Nat := 0x2000 + 0x810 + 4 * t
/-- R113: TXN_RESULT_t; RO. -/
def Reg.TXN_TXN_RESULT (t : Nat) : Nat := 0x2000 + 0x820 + 4 * t
/-- R113: TXN_FAIL_OFFSET_t; RO. -/
def Reg.TXN_TXN_FAIL_OFFSET (t : Nat) : Nat := 0x2000 + 0x830 + 4 * t
/-- R113: TXN_COMMIT_COUNT; RO. -/
def Reg.TXN_TXN_COMMIT_COUNT : Nat := 0x2000 + 0x840
/-- R133: TIME_CTRL; RW. -/
def Reg.TIME_TIME_CTRL : Nat := 0x10000 + 0x100
/-- R133: DOMAIN_SWITCH; WO. -/
def Reg.TIME_DOMAIN_SWITCH : Nat := 0x10000 + 0x104
/-- R133: ACCEPT_JUMP; WO. -/
def Reg.TIME_ACCEPT_JUMP : Nat := 0x10000 + 0x108
/-- R133: JUMP_THRESHOLD; RW. -/
def Reg.TIME_JUMP_THRESHOLD : Nat := 0x10000 + 0x110
/-- R133: SLEW_MAX; RW. -/
def Reg.TIME_SLEW_MAX : Nat := 0x10000 + 0x114
/-- R133: EPOCH_OFFSET_LO; RW. -/
def Reg.TIME_EPOCH_OFFSET_LO : Nat := 0x10000 + 0x118
/-- R133: EPOCH_OFFSET_HI; RW. -/
def Reg.TIME_EPOCH_OFFSET_HI : Nat := 0x10000 + 0x11C
/-- R133: PPS_OUT_WIDTH; RW. -/
def Reg.TIME_PPS_OUT_WIDTH : Nat := 0x10000 + 0x120
/-- R133: DOM_CTRL_d; RW. -/
def Reg.TIME_DOM_CTRL (d : Nat) : Nat := 0x10000 + 0x140 + 0x40 * d
/-- R133: DOM_INTERVALS_d; RW. -/
def Reg.TIME_DOM_INTERVALS (d : Nat) : Nat := 0x10000 + 0x144 + 0x40 * d
/-- R133: DOM_MASTER_d; RW. -/
def Reg.TIME_DOM_MASTER (d : Nat) : Nat := 0x10000 + 0x148 + 0x40 * d
/-- R133: LOCK_THRESHOLD_d; RW. -/
def Reg.TIME_LOCK_THRESHOLD (d : Nat) : Nat := 0x10000 + 0x14C + 0x40 * d
/-- R133: NOW_LO; RO. -/
def Reg.TIME_NOW_LO : Nat := 0x10000 + 0x800
/-- R133: NOW_HI; RO. -/
def Reg.TIME_NOW_HI : Nat := 0x10000 + 0x804
/-- R133: INCR_LO; RO. -/
def Reg.TIME_INCR_LO : Nat := 0x10000 + 0x808
/-- R133: INCR_HI; RO. -/
def Reg.TIME_INCR_HI : Nat := 0x10000 + 0x80C
/-- R133: SLEW_REMAINING_LO; RO. -/
def Reg.TIME_SLEW_REMAINING_LO : Nat := 0x10000 + 0x810
/-- R133: SLEW_REMAINING_HI; RO. -/
def Reg.TIME_SLEW_REMAINING_HI : Nat := 0x10000 + 0x814
/-- R133: TIME_STATUS; RO. -/
def Reg.TIME_TIME_STATUS : Nat := 0x10000 + 0x818
/-- R133: DOM_STATE_d; RO. -/
def Reg.TIME_DOM_STATE (d : Nat) : Nat := 0x10000 + 0x840 + 0x40 * d
/-- R133: OFFSET_LO_d; RO. -/
def Reg.TIME_OFFSET_LO (d : Nat) : Nat := 0x10000 + 0x844 + 0x40 * d
/-- R133: OFFSET_HI_d; RO. -/
def Reg.TIME_OFFSET_HI (d : Nat) : Nat := 0x10000 + 0x848 + 0x40 * d
/-- R133: PATH_DELAY_d; RO. -/
def Reg.TIME_PATH_DELAY (d : Nat) : Nat := 0x10000 + 0x84C + 0x40 * d
/-- R133: FREQ_PPB_d; RO. -/
def Reg.TIME_FREQ_PPB (d : Nat) : Nat := 0x10000 + 0x850 + 0x40 * d
/-- R133: PROPOSED_LO_d; RO. -/
def Reg.TIME_PROPOSED_LO (d : Nat) : Nat := 0x10000 + 0x854 + 0x40 * d
/-- R133: PROPOSED_HI_d; RO. -/
def Reg.TIME_PROPOSED_HI (d : Nat) : Nat := 0x10000 + 0x858 + 0x40 * d
/-- R133: GM_ID_LO_d; RO. -/
def Reg.TIME_GM_ID_LO (d : Nat) : Nat := 0x10000 + 0x85C + 0x40 * d
/-- R133: GM_ID_HI_d; RO. -/
def Reg.TIME_GM_ID_HI (d : Nat) : Nat := 0x10000 + 0x860 + 0x40 * d
/-- R133: REFUSED_COUNT_d; RO. -/
def Reg.TIME_REFUSED_COUNT (d : Nat) : Nat := 0x10000 + 0x864 + 0x40 * d
/-- R161: MAC_LO; RW. -/
def Reg.NET_MAC_LO (p : Nat) : Nat := (0x20000 + 0x1000 * p) + 0x100
/-- R161: MAC_HI; RW. -/
def Reg.NET_MAC_HI (p : Nat) : Nat := (0x20000 + 0x1000 * p) + 0x104
/-- R161: IPV4_ADDR; RW. -/
def Reg.NET_IPV4_ADDR (p : Nat) : Nat := (0x20000 + 0x1000 * p) + 0x108
/-- R161: IPV6_ADDRw; RW. -/
def Reg.NET_IPV6_ADDR (p : Nat) (w : Nat) : Nat := (0x20000 + 0x1000 * p) + 0x110 + 4 * w
/-- R161: PORT_CTRL; RW. -/
def Reg.NET_PORT_CTRL (p : Nat) : Nat := (0x20000 + 0x1000 * p) + 0x120
/-- R161: PST_UDP_PORT; RW. -/
def Reg.NET_PST_UDP_PORT (p : Nat) : Nat := (0x20000 + 0x1000 * p) + 0x124
/-- R161: MAX_FRAME; RW. -/
def Reg.NET_MAX_FRAME (p : Nat) : Nat := (0x20000 + 0x1000 * p) + 0x128
/-- R161: LINK_STATUS; RO. -/
def Reg.NET_LINK_STATUS (p : Nat) : Nat := (0x20000 + 0x1000 * p) + 0x800
/-- R161: RX_FRAMES_LO; RO. -/
def Reg.NET_RX_FRAMES_LO (p : Nat) : Nat := (0x20000 + 0x1000 * p) + 0x808
/-- R161: RX_FRAMES_HI; RO. -/
def Reg.NET_RX_FRAMES_HI (p : Nat) : Nat := (0x20000 + 0x1000 * p) + 0x80C
/-- R161: FEC_CORR_LO; RO. -/
def Reg.NET_FEC_CORR_LO (p : Nat) : Nat := (0x20000 + 0x1000 * p) + 0x810
/-- R161: FEC_CORR_HI; RO. -/
def Reg.NET_FEC_CORR_HI (p : Nat) : Nat := (0x20000 + 0x1000 * p) + 0x814
/-- R161: FEC_UNCORR; RO. -/
def Reg.NET_FEC_UNCORR (p : Nat) : Nat := (0x20000 + 0x1000 * p) + 0x818
/-- R161: BAD_FCS; RO. -/
def Reg.NET_BAD_FCS (p : Nat) : Nat := (0x20000 + 0x1000 * p) + 0x81C
/-- R161: RX_RING_FULL; RO. -/
def Reg.NET_RX_RING_FULL (p : Nat) : Nat := (0x20000 + 0x1000 * p) + 0x820
/-- R161: NOT_PST; RO. -/
def Reg.NET_NOT_PST (p : Nat) : Nat := (0x20000 + 0x1000 * p) + 0x824
/-- R161: MCAST_m; RW. -/
def Reg.NET_MCAST (p : Nat) (m : Nat) : Nat := (0x20000 + 0x1000 * p) + 0xC00 + 16 * m
/-- R166: FLOW_CTRL; RW. -/
def Reg.FLOW_FLOW_CTRL (f : Nat) : Nat := (0x200000 + 32 * f) + 0x00
/-- R166: FLOW_MATCH; RW. -/
def Reg.FLOW_FLOW_MATCH (f : Nat) : Nat := (0x200000 + 32 * f) + 0x04
/-- R166: FLOW_SRC; RW. -/
def Reg.FLOW_FLOW_SRC (f : Nat) : Nat := (0x200000 + 32 * f) + 0x08
/-- R166: FLOW_TARGET; RW. -/
def Reg.FLOW_FLOW_TARGET (f : Nat) : Nat := (0x200000 + 32 * f) + 0x0C
/-- R166: ACCEPTED; RO. -/
def Reg.FLOW_ACCEPTED (f : Nat) : Nat := (0x200000 + 32 * f) + 0x10
/-- R166: DUPLICATES; RO. -/
def Reg.FLOW_DUPLICATES (f : Nat) : Nat := (0x200000 + 32 * f) + 0x14
/-- R166: LATE; RO. -/
def Reg.FLOW_LATE (f : Nat) : Nat := (0x200000 + 32 * f) + 0x18
/-- R166: PATH_STALE; RO. -/
def Reg.FLOW_PATH_STALE (f : Nat) : Nat := (0x200000 + 32 * f) + 0x1C
/-- R176: POOL_BASE_LO; RW. -/
def Reg.INGEST_POOL_BASE_LO : Nat := 0x22000 + 0x100
/-- R176: POOL_BASE_HI; RW. -/
def Reg.INGEST_POOL_BASE_HI : Nat := 0x22000 + 0x104
/-- R176: POOL_SIZE; RW. -/
def Reg.INGEST_POOL_SIZE : Nat := 0x22000 + 0x108
/-- R176: DUP_CTRL; RW. -/
def Reg.INGEST_DUP_CTRL : Nat := 0x22000 + 0x10C
/-- R176: STORE_CFG_s; RWT. -/
def Reg.INGEST_STORE_CFG (s : Nat) : Nat := 0x22000 + 0x200 + 0x20 * s
/-- R176: STORE_BASE_LO_s; RWT. -/
def Reg.INGEST_STORE_BASE_LO (s : Nat) : Nat := 0x22000 + 0x204 + 0x20 * s
/-- R176: STORE_BASE_HI_s; RWT. -/
def Reg.INGEST_STORE_BASE_HI (s : Nat) : Nat := 0x22000 + 0x208 + 0x20 * s
/-- R176: STORE_STRIDE_s; RWT. -/
def Reg.INGEST_STORE_STRIDE (s : Nat) : Nat := 0x22000 + 0x20C + 0x20 * s
/-- R176: DECODE_LEAD_s; RWT. -/
def Reg.INGEST_DECODE_LEAD (s : Nat) : Nat := 0x22000 + 0x210 + 0x20 * s
/-- R176: MAX_AHEAD_s; RWT. -/
def Reg.INGEST_MAX_AHEAD (s : Nat) : Nat := 0x22000 + 0x214 + 0x20 * s
/-- R176: STORE_EPOCH_s; RO. -/
def Reg.INGEST_STORE_EPOCH (s : Nat) : Nat := 0x22000 + 0x218 + 0x20 * s
/-- R176: BAD_PST_COUNT; RO. -/
def Reg.INGEST_BAD_PST_COUNT : Nat := 0x22000 + 0x800
/-- R176: NO_FLOW_COUNT; RO. -/
def Reg.INGEST_NO_FLOW_COUNT : Nat := 0x22000 + 0x804
/-- R176: MEDIA_COUNT; RO. -/
def Reg.INGEST_MEDIA_COUNT : Nat := 0x22000 + 0x808
/-- R176: CUR_FRAME_s; RO. -/
def Reg.INGEST_CUR_FRAME (s : Nat) : Nat := 0x22000 + 0x900 + 0x10 * s
/-- R176: STORE_STATUS_s; RO. -/
def Reg.INGEST_STORE_STATUS (s : Nat) : Nat := 0x22000 + 0x904 + 0x10 * s
/-- R176: CONCEALED_s; RO. -/
def Reg.INGEST_CONCEALED (s : Nat) : Nat := 0x22000 + 0x908 + 0x10 * s
/-- R176: REFUSED_s; RO. -/
def Reg.INGEST_REFUSED (s : Nat) : Nat := 0x22000 + 0x90C + 0x10 * s
/-- R230: SELFTEST_CTRL; RW. -/
def Reg.CODEC_SELFTEST_CTRL : Nat := 0x30000 + 0x100
/-- R230: REPORT_TIMEOUT; RW. -/
def Reg.CODEC_REPORT_TIMEOUT : Nat := 0x30000 + 0x104
/-- R230: CORE_MASK; RO. -/
def Reg.CODEC_CORE_MASK : Nat := 0x30000 + 0x800
/-- R230: LOAD; RO. -/
def Reg.CODEC_LOAD : Nat := 0x30000 + 0x804
/-- R230: TILES_LO; RO. -/
def Reg.CODEC_TILES_LO : Nat := 0x30000 + 0x808
/-- R230: TILES_HI; RO. -/
def Reg.CODEC_TILES_HI : Nat := 0x30000 + 0x80C
/-- R230: TILE_ERRORS; RO. -/
def Reg.CODEC_TILE_ERRORS : Nat := 0x30000 + 0x810
/-- R230: FRAMES_LATE; RO. -/
def Reg.CODEC_FRAMES_LATE : Nat := 0x30000 + 0x814
/-- R230: STALE_COUNT; RO. -/
def Reg.CODEC_STALE_COUNT : Nat := 0x30000 + 0x8FC
/-- R252: JOB_TIMEOUT; RW. -/
def Reg.CJE_JOB_TIMEOUT (j : Nat) : Nat := (0x31000 + 0x1000 * j) + 0x100
/-- R252: ENGINE_STATUS; RO. -/
def Reg.CJE_ENGINE_STATUS (j : Nat) : Nat := (0x31000 + 0x1000 * j) + 0x800
/-- R252: CUR_INDEX; RO. -/
def Reg.CJE_CUR_INDEX (j : Nat) : Nat := (0x31000 + 0x1000 * j) + 0x804
/-- R252: JOBS_LO; RO. -/
def Reg.CJE_JOBS_LO (j : Nat) : Nat := (0x31000 + 0x1000 * j) + 0x808
/-- R252: JOBS_HI; RO. -/
def Reg.CJE_JOBS_HI (j : Nat) : Nat := (0x31000 + 0x1000 * j) + 0x80C
/-- R252: SAMPLES_LO; RO. -/
def Reg.CJE_SAMPLES_LO (j : Nat) : Nat := (0x31000 + 0x1000 * j) + 0x810
/-- R252: SAMPLES_HI; RO. -/
def Reg.CJE_SAMPLES_HI (j : Nat) : Nat := (0x31000 + 0x1000 * j) + 0x814
/-- R252: VERIFY_FIXED_COUNT; RO. -/
def Reg.CJE_VERIFY_FIXED_COUNT (j : Nat) : Nat := (0x31000 + 0x1000 * j) + 0x818
/-- R252: TIMEOUT_COUNT; RO. -/
def Reg.CJE_TIMEOUT_COUNT (j : Nat) : Nat := (0x31000 + 0x1000 * j) + 0x81C
/-- R252: STALE_COUNT; RO. -/
def Reg.CJE_STALE_COUNT (j : Nat) : Nat := (0x31000 + 0x1000 * j) + 0x8FC
/-- R262: VARIANT_MODE; RWT. -/
def Reg.RMAP_VARIANT_MODE (h : Nat) : Nat := (0x42000 + 0x10000 * h) + 0x100
/-- R262: CLEAR_BLOCKS; RO. -/
def Reg.RMAP_CLEAR_BLOCKS (h : Nat) : Nat := (0x42000 + 0x10000 * h) + 0x800
/-- R262: VARIANT_FLIPS; RO. -/
def Reg.RMAP_VARIANT_FLIPS (h : Nat) : Nat := (0x42000 + 0x10000 * h) + 0x804
/-- R263: MAP_BASE_LO_b; RW. -/
def Reg.RGU_MAP_BASE_LO (h : Nat) (b : Nat) : Nat := (0x41000 + 0x10000 * h) + 0x100 + 0x10 * b
/-- R263: MAP_BASE_HI_b; RW. -/
def Reg.RGU_MAP_BASE_HI (h : Nat) (b : Nat) : Nat := (0x41000 + 0x10000 * h) + 0x104 + 0x10 * b
/-- R263: MAP_LEN_b; RW. -/
def Reg.RGU_MAP_LEN (h : Nat) (b : Nat) : Nat := (0x41000 + 0x10000 * h) + 0x108 + 0x10 * b
/-- R263: MAP_CMD; WO. -/
def Reg.RGU_MAP_CMD (h : Nat) : Nat := (0x41000 + 0x10000 * h) + 0x120
/-- R263: MAP_SEL; RWT. -/
def Reg.RGU_MAP_SEL (h : Nat) : Nat := (0x41000 + 0x10000 * h) + 0x124
/-- R263: BANK_STATUS_b; RO. -/
def Reg.RGU_BANK_STATUS (h : Nat) (b : Nat) : Nat := (0x41000 + 0x10000 * h) + 0x800 + 4 * b
/-- R263: ERR_DETAIL_b; RO. -/
def Reg.RGU_ERR_DETAIL (h : Nat) (b : Nat) : Nat := (0x41000 + 0x10000 * h) + 0x808 + 4 * b
/-- R263: CAL_ID_b; RO. -/
def Reg.RGU_CAL_ID (h : Nat) (b : Nat) : Nat := (0x41000 + 0x10000 * h) + 0x810 + 4 * b
/-- R263: ACTIVE_MAP; RO. -/
def Reg.RGU_ACTIVE_MAP (h : Nat) : Nat := (0x41000 + 0x10000 * h) + 0x818
/-- R263: ACTIVE_FIELD; RO. -/
def Reg.RGU_ACTIVE_FIELD (h : Nat) : Nat := (0x41000 + 0x10000 * h) + 0x81C
/-- R263: FETCH_ERRORS; RO. -/
def Reg.RGU_FETCH_ERRORS (h : Nat) : Nat := (0x41000 + 0x10000 * h) + 0x820
/-- R298: RGU_CFG; RWT. -/
def Reg.RGU_RGU_CFG (h : Nat) : Nat := (0x41000 + 0x10000 * h) + 0x130
/-- R298: MARGIN_THRESHOLD; RW. -/
def Reg.RGU_MARGIN_THRESHOLD (h : Nat) : Nat := (0x41000 + 0x10000 * h) + 0x134
/-- R298: RGU_STATUS; RO. -/
def Reg.RGU_RGU_STATUS (h : Nat) : Nat := (0x41000 + 0x10000 * h) + 0x830
/-- R298: CUR_FRAME; RO. -/
def Reg.RGU_CUR_FRAME (h : Nat) : Nat := (0x41000 + 0x10000 * h) + 0x834
/-- R298: ECLIPSE_COUNT; RO. -/
def Reg.RGU_ECLIPSE_COUNT (h : Nat) : Nat := (0x41000 + 0x10000 * h) + 0x838
/-- R298: ECLIPSE_LINE; RO. -/
def Reg.RGU_ECLIPSE_LINE (h : Nat) : Nat := (0x41000 + 0x10000 * h) + 0x83C
/-- R298: MIN_MARGIN; RO. -/
def Reg.RGU_MIN_MARGIN (h : Nat) : Nat := (0x41000 + 0x10000 * h) + 0x840
/-- R298: SCENE_FETCH_ERRORS; RO. -/
def Reg.RGU_SCENE_FETCH_ERRORS (h : Nat) : Nat := (0x41000 + 0x10000 * h) + 0x844
/-- R298: INFLIGHT_PEAK; RO. -/
def Reg.RGU_INFLIGHT_PEAK (h : Nat) : Nat := (0x41000 + 0x10000 * h) + 0x848
/-- R298: PLANES_TRUNCATED; RO. -/
def Reg.RGU_PLANES_TRUNCATED (h : Nat) : Nat := (0x41000 + 0x10000 * h) + 0x84C
/-- R298: RAYS_LO; RO. -/
def Reg.RGU_RAYS_LO (h : Nat) : Nat := (0x41000 + 0x10000 * h) + 0x850
/-- R298: RAYS_HI; RO. -/
def Reg.RGU_RAYS_HI (h : Nat) : Nat := (0x41000 + 0x10000 * h) + 0x854
/-- R298: LOOKUPS_LO; RO. -/
def Reg.RGU_LOOKUPS_LO (h : Nat) : Nat := (0x41000 + 0x10000 * h) + 0x858
/-- R298: LOOKUPS_HI; RO. -/
def Reg.RGU_LOOKUPS_HI (h : Nat) : Nat := (0x41000 + 0x10000 * h) + 0x85C
/-- R298: MISSES_LO; RO. -/
def Reg.RGU_MISSES_LO (h : Nat) : Nat := (0x41000 + 0x10000 * h) + 0x860
/-- R298: MISSES_HI; RO. -/
def Reg.RGU_MISSES_HI (h : Nat) : Nat := (0x41000 + 0x10000 * h) + 0x864
/-- R298: PLANE_STEPS_LO; RO. -/
def Reg.RGU_PLANE_STEPS_LO (h : Nat) : Nat := (0x41000 + 0x10000 * h) + 0x868
/-- R298: PLANE_STEPS_HI; RO. -/
def Reg.RGU_PLANE_STEPS_HI (h : Nat) : Nat := (0x41000 + 0x10000 * h) + 0x86C
/-- R331: LAYER_CFG; RWS. -/
def Reg.LAYER_LAYER_CFG (h : Nat) (k : Nat) : Nat := (0x43000 + 0x10000 * h + 0x1000 * k) + 0x100
/-- R331: POS; RWS. -/
def Reg.LAYER_POS (h : Nat) (k : Nat) : Nat := (0x43000 + 0x10000 * h + 0x1000 * k) + 0x104
/-- R331: SIZE; RWS. -/
def Reg.LAYER_SIZE (h : Nat) (k : Nat) : Nat := (0x43000 + 0x10000 * h + 0x1000 * k) + 0x108
/-- R331: OPACITY; RWS. -/
def Reg.LAYER_OPACITY (h : Nat) (k : Nat) : Nat := (0x43000 + 0x10000 * h + 0x1000 * k) + 0x10C
/-- R331: DESC_LO; RWS. -/
def Reg.LAYER_DESC_LO (h : Nat) (k : Nat) : Nat := (0x43000 + 0x10000 * h + 0x1000 * k) + 0x110
/-- R331: DESC_HI; RWS. -/
def Reg.LAYER_DESC_HI (h : Nat) (k : Nat) : Nat := (0x43000 + 0x10000 * h + 0x1000 * k) + 0x114
/-- R331: GUARD; RWS. -/
def Reg.LAYER_GUARD (h : Nat) (k : Nat) : Nat := (0x43000 + 0x10000 * h + 0x1000 * k) + 0x118
/-- R331: DEPTH_PAR; RWS. -/
def Reg.LAYER_DEPTH_PAR (h : Nat) (k : Nat) : Nat := (0x43000 + 0x10000 * h + 0x1000 * k) + 0x11C
/-- R331: COLOR_A_LO; RWS. -/
def Reg.LAYER_COLOR_A_LO (h : Nat) (k : Nat) : Nat := (0x43000 + 0x10000 * h + 0x1000 * k) + 0x120
/-- R331: COLOR_A_HI; RWS. -/
def Reg.LAYER_COLOR_A_HI (h : Nat) (k : Nat) : Nat := (0x43000 + 0x10000 * h + 0x1000 * k) + 0x124
/-- R331: COLOR_B_LO; RWS. -/
def Reg.LAYER_COLOR_B_LO (h : Nat) (k : Nat) : Nat := (0x43000 + 0x10000 * h + 0x1000 * k) + 0x128
/-- R331: COLOR_B_HI; RWS. -/
def Reg.LAYER_COLOR_B_HI (h : Nat) (k : Nat) : Nat := (0x43000 + 0x10000 * h + 0x1000 * k) + 0x12C
/-- R331: PATTERN; RWS. -/
def Reg.LAYER_PATTERN (h : Nat) (k : Nat) : Nat := (0x43000 + 0x10000 * h + 0x1000 * k) + 0x130
/-- R331: LAYER_STATUS; RO. -/
def Reg.LAYER_LAYER_STATUS (h : Nat) (k : Nat) : Nat := (0x43000 + 0x10000 * h + 0x1000 * k) + 0x800
/-- R331: ACTIVE_DESC_LO; RO. -/
def Reg.LAYER_ACTIVE_DESC_LO (h : Nat) (k : Nat) : Nat := (0x43000 + 0x10000 * h + 0x1000 * k) + 0x804
/-- R331: ACTIVE_DESC_HI; RO. -/
def Reg.LAYER_ACTIVE_DESC_HI (h : Nat) (k : Nat) : Nat := (0x43000 + 0x10000 * h + 0x1000 * k) + 0x808
/-- R331: ACTIVE_GUARD; RO. -/
def Reg.LAYER_ACTIVE_GUARD (h : Nat) (k : Nat) : Nat := (0x43000 + 0x10000 * h + 0x1000 * k) + 0x80C
/-- R331: ECLIPSE_COUNT; RO. -/
def Reg.LAYER_ECLIPSE_COUNT (h : Nat) (k : Nat) : Nat := (0x43000 + 0x10000 * h + 0x1000 * k) + 0x810
/-- R331: ECLIPSE_LINE; RO. -/
def Reg.LAYER_ECLIPSE_LINE (h : Nat) (k : Nat) : Nat := (0x43000 + 0x10000 * h + 0x1000 * k) + 0x814
/-- R331: REL_COUNT; RO. -/
def Reg.LAYER_REL_COUNT (h : Nat) (k : Nat) : Nat := (0x43000 + 0x10000 * h + 0x1000 * k) + 0x818
/-- R331: REL_DESC_LO; RO. -/
def Reg.LAYER_REL_DESC_LO (h : Nat) (k : Nat) : Nat := (0x43000 + 0x10000 * h + 0x1000 * k) + 0x81C
/-- R331: REL_DESC_HI; RO. -/
def Reg.LAYER_REL_DESC_HI (h : Nat) (k : Nat) : Nat := (0x43000 + 0x10000 * h + 0x1000 * k) + 0x820
/-- R331: REL_GUARD; RO. -/
def Reg.LAYER_REL_GUARD (h : Nat) (k : Nat) : Nat := (0x43000 + 0x10000 * h + 0x1000 * k) + 0x824
/-- R331: REL_FIELD; RO. -/
def Reg.LAYER_REL_FIELD (h : Nat) (k : Nat) : Nat := (0x43000 + 0x10000 * h + 0x1000 * k) + 0x828
/-- R331: PCOUNT; RO. -/
def Reg.LAYER_PCOUNT (h : Nat) (k : Nat) : Nat := (0x43000 + 0x10000 * h + 0x1000 * k) + 0x82C
/-- R332: BG_LO; RWS. -/
def Reg.HEAD_BG_LO (h : Nat) : Nat := (0x40000 + 0x10000 * h) + 0x300
/-- R332: BG_HI; RWS. -/
def Reg.HEAD_BG_HI (h : Nat) : Nat := (0x40000 + 0x10000 * h) + 0x304
/-- R332: WB_CFG; RWS. -/
def Reg.HEAD_WB_CFG (h : Nat) : Nat := (0x40000 + 0x10000 * h) + 0x310
/-- R332: WB_RING; RWS. -/
def Reg.HEAD_WB_RING (h : Nat) : Nat := (0x40000 + 0x10000 * h) + 0x314
/-- R332: WB_BASE_LO; RWS. -/
def Reg.HEAD_WB_BASE_LO (h : Nat) : Nat := (0x40000 + 0x10000 * h) + 0x318
/-- R332: WB_BASE_HI; RWS. -/
def Reg.HEAD_WB_BASE_HI (h : Nat) : Nat := (0x40000 + 0x10000 * h) + 0x31C
/-- R332: WB_STRIDE; RWS. -/
def Reg.HEAD_WB_STRIDE (h : Nat) : Nat := (0x40000 + 0x10000 * h) + 0x320
/-- R332: WB_NBUF; RWS. -/
def Reg.HEAD_WB_NBUF (h : Nat) : Nat := (0x40000 + 0x10000 * h) + 0x324
/-- R332: WB_PITCH; RWS. -/
def Reg.HEAD_WB_PITCH (h : Nat) : Nat := (0x40000 + 0x10000 * h) + 0x328
/-- R332: WB_STATUS; RO. -/
def Reg.HEAD_WB_STATUS (h : Nat) : Nat := (0x40000 + 0x10000 * h) + 0xA00
/-- R332: WB_FIELDS; RO. -/
def Reg.HEAD_WB_FIELDS (h : Nat) : Nat := (0x40000 + 0x10000 * h) + 0xA04
/-- R332: WB_SKIPPED; RO. -/
def Reg.HEAD_WB_SKIPPED (h : Nat) : Nat := (0x40000 + 0x10000 * h) + 0xA08
/-- R332: WB_VERIFY_FIXED; RO. -/
def Reg.HEAD_WB_VERIFY_FIXED (h : Nat) : Nat := (0x40000 + 0x10000 * h) + 0xA0C
/-- R332: WB_LAST_FIELD; RO. -/
def Reg.HEAD_WB_LAST_FIELD (h : Nat) : Nat := (0x40000 + 0x10000 * h) + 0xA10
/-- R362: TIMING_CTRL; RWT. -/
def Reg.HEAD_TIMING_CTRL (h : Nat) : Nat := (0x40000 + 0x10000 * h) + 0x100
/-- R362: FIELD_TIMING; RWT. -/
def Reg.HEAD_FIELD_TIMING (h : Nat) : Nat := (0x40000 + 0x10000 * h) + 0x104
/-- R362: H_ACTIVE; RWT. -/
def Reg.HEAD_H_ACTIVE (h : Nat) : Nat := (0x40000 + 0x10000 * h) + 0x108
/-- R362: V_LINES; RWT. -/
def Reg.HEAD_V_LINES (h : Nat) : Nat := (0x40000 + 0x10000 * h) + 0x10C
/-- R362: LATCH_LINE; RWT. -/
def Reg.HEAD_LATCH_LINE (h : Nat) : Nat := (0x40000 + 0x10000 * h) + 0x110
/-- R362: LINE_SKEW; RWT. -/
def Reg.HEAD_LINE_SKEW (h : Nat) : Nat := (0x40000 + 0x10000 * h) + 0x114
/-- R362: ANCHOR_LO; RWT. -/
def Reg.HEAD_ANCHOR_LO (h : Nat) : Nat := (0x40000 + 0x10000 * h) + 0x118
/-- R362: ANCHOR_HI; RWT. -/
def Reg.HEAD_ANCHOR_HI (h : Nat) : Nat := (0x40000 + 0x10000 * h) + 0x11C
/-- R362: LOCK_PULL; RW. -/
def Reg.HEAD_LOCK_PULL (h : Nat) : Nat := (0x40000 + 0x10000 * h) + 0x120
/-- R362: TOL_GUARD; RW. -/
def Reg.HEAD_TOL_GUARD (h : Nat) : Nat := (0x40000 + 0x10000 * h) + 0x124
/-- R362: COMMIT; RW. -/
def Reg.HEAD_COMMIT (h : Nat) : Nat := (0x40000 + 0x10000 * h) + 0x128
/-- R362: HEAD_STATUS; RO. -/
def Reg.HEAD_HEAD_STATUS (h : Nat) : Nat := (0x40000 + 0x10000 * h) + 0x800
/-- R362: FIELD; RO. -/
def Reg.HEAD_FIELD (h : Nat) : Nat := (0x40000 + 0x10000 * h) + 0x804
/-- R362: COMMIT_FIELD; RO. -/
def Reg.HEAD_COMMIT_FIELD (h : Nat) : Nat := (0x40000 + 0x10000 * h) + 0x808
/-- R362: LINE; RO. -/
def Reg.HEAD_LINE (h : Nat) : Nat := (0x40000 + 0x10000 * h) + 0x80C
/-- R362: PHASE_ERR_LO; RO. -/
def Reg.HEAD_PHASE_ERR_LO (h : Nat) : Nat := (0x40000 + 0x10000 * h) + 0x810
/-- R362: PHASE_ERR_HI; RO. -/
def Reg.HEAD_PHASE_ERR_HI (h : Nat) : Nat := (0x40000 + 0x10000 * h) + 0x814
/-- R362: FIELD_START_LO; RO. -/
def Reg.HEAD_FIELD_START_LO (h : Nat) : Nat := (0x40000 + 0x10000 * h) + 0x818
/-- R362: FIELD_START_HI; RO. -/
def Reg.HEAD_FIELD_START_HI (h : Nat) : Nat := (0x40000 + 0x10000 * h) + 0x81C
/-- R362: TOLERANCE; RO. -/
def Reg.HEAD_TOLERANCE (h : Nat) : Nat := (0x40000 + 0x10000 * h) + 0x820
/-- R362: TOL_MIN; RO. -/
def Reg.HEAD_TOL_MIN (h : Nat) : Nat := (0x40000 + 0x10000 * h) + 0x824
/-- R362: LINES_REPEATED; RO. -/
def Reg.HEAD_LINES_REPEATED (h : Nat) : Nat := (0x40000 + 0x10000 * h) + 0x828
/-- R362: TIMING_FIELD; RO. -/
def Reg.HEAD_TIMING_FIELD (h : Nat) : Nat := (0x40000 + 0x10000 * h) + 0x82C
/-- R362: RX_PERIOD; RO. -/
def Reg.HEAD_RX_PERIOD (h : Nat) : Nat := (0x40000 + 0x10000 * h) + 0x830
/-- R362: RX_LINES; RO. -/
def Reg.HEAD_RX_LINES (h : Nat) : Nat := (0x40000 + 0x10000 * h) + 0x834
/-- R362: STALE_COUNT; RO. -/
def Reg.HEAD_STALE_COUNT (h : Nat) : Nat := (0x40000 + 0x10000 * h) + 0x8FC
/-- R363: OUT_CFG; RWT. -/
def Reg.OUT_OUT_CFG (h : Nat) : Nat := (0x4B000 + 0x10000 * h) + 0x100
/-- R363: LUT_BANK; RWT. -/
def Reg.OUT_LUT_BANK (h : Nat) : Nat := (0x4B000 + 0x10000 * h) + 0x104
/-- R363: POL_CTRL; RWT. -/
def Reg.OUT_POL_CTRL (h : Nat) : Nat := (0x4B000 + 0x10000 * h) + 0x108
/-- R363: LEDGER_LIMIT; RW. -/
def Reg.OUT_LEDGER_LIMIT (h : Nat) : Nat := (0x4B000 + 0x10000 * h) + 0x10C
/-- R363: LEDGER_CLEAR; WO. -/
def Reg.OUT_LEDGER_CLEAR (h : Nat) : Nat := (0x4B000 + 0x10000 * h) + 0x110
/-- R363: OUT_STATUS; RO. -/
def Reg.OUT_OUT_STATUS (h : Nat) : Nat := (0x4B000 + 0x10000 * h) + 0x800
/-- R363: LEDGER_LO; RO. -/
def Reg.OUT_LEDGER_LO (h : Nat) : Nat := (0x4B000 + 0x10000 * h) + 0x804
/-- R363: LEDGER_HI; RO. -/
def Reg.OUT_LEDGER_HI (h : Nat) : Nat := (0x4B000 + 0x10000 * h) + 0x808
/-- R363: POL_HOLDS; RO. -/
def Reg.OUT_POL_HOLDS (h : Nat) : Nat := (0x4B000 + 0x10000 * h) + 0x80C
/-- R363: LUT_IGNORED; RO. -/
def Reg.OUT_LUT_IGNORED (h : Nat) : Nat := (0x4B000 + 0x10000 * h) + 0x810
/-- R364: MIRROR_CTRL; RW. -/
def Reg.ZL_MIRROR_CTRL (h : Nat) : Nat := (0x4C000 + 0x10000 * h) + 0x700
/-- R364: MIRROR_STATUS; RO. -/
def Reg.ZL_MIRROR_STATUS (h : Nat) : Nat := (0x4C000 + 0x10000 * h) + 0xB00
/-- R364: CHECKED_LO; RO. -/
def Reg.ZL_CHECKED_LO (h : Nat) : Nat := (0x4C000 + 0x10000 * h) + 0xB04
/-- R364: CHECKED_HI; RO. -/
def Reg.ZL_CHECKED_HI (h : Nat) : Nat := (0x4C000 + 0x10000 * h) + 0xB08
/-- R364: MISMATCHES; RO. -/
def Reg.ZL_MISMATCHES (h : Nat) : Nat := (0x4C000 + 0x10000 * h) + 0xB0C
/-- R364: LAST_FIELD; RO. -/
def Reg.ZL_LAST_FIELD (h : Nat) : Nat := (0x4C000 + 0x10000 * h) + 0xB10
/-- R364: LAST_LINE; RO. -/
def Reg.ZL_LAST_LINE (h : Nat) : Nat := (0x4C000 + 0x10000 * h) + 0xB14
/-- R364: LANE_MISMATCH_n; RO. -/
def Reg.ZL_LANE_MISMATCH (h : Nat) (n : Nat) : Nat := (0x4C000 + 0x10000 * h) + 0xB20 + 4 * n
/-- R398: LINK_CFG; RWT. -/
def Reg.ZL_LINK_CFG (h : Nat) : Nat := (0x4C000 + 0x10000 * h) + 0x100
/-- R398: EQ_CTRL; RW. -/
def Reg.ZL_EQ_CTRL (h : Nat) : Nat := (0x4C000 + 0x10000 * h) + 0x104
/-- R398: LANE_CMD; WO. -/
def Reg.ZL_LANE_CMD (h : Nat) : Nat := (0x4C000 + 0x10000 * h) + 0x108
/-- R398: LANE_CTRL_n; RW. -/
def Reg.ZL_LANE_CTRL (h : Nat) (n : Nat) : Nat := (0x4C000 + 0x10000 * h) + 0x140 + 4 * n
/-- R398: LANE_ROLE_n; RW. -/
def Reg.ZL_LANE_ROLE (h : Nat) (n : Nat) : Nat := (0x4C000 + 0x10000 * h) + 0x180 + 4 * n
/-- R398: PRBS_CTRL_n; RW. -/
def Reg.ZL_PRBS_CTRL (h : Nat) (n : Nat) : Nat := (0x4C000 + 0x10000 * h) + 0x1C0 + 4 * n
/-- R398: LANE_STATUS_n; RO. -/
def Reg.ZL_LANE_STATUS (h : Nat) (n : Nat) : Nat := (0x4C000 + 0x10000 * h) + 0x800 + 4 * n
/-- R398: SPARE_STATUS; RO. -/
def Reg.ZL_SPARE_STATUS (h : Nat) : Nat := (0x4C000 + 0x10000 * h) + 0x840
/-- R398: SPARE_MOVES; RO. -/
def Reg.ZL_SPARE_MOVES (h : Nat) : Nat := (0x4C000 + 0x10000 * h) + 0x844
/-- R398: TRAINED_RATE; RO. -/
def Reg.ZL_TRAINED_RATE (h : Nat) : Nat := (0x4C000 + 0x10000 * h) + 0x848
/-- R398: LANE_SKEW_n; RO. -/
def Reg.ZL_LANE_SKEW (h : Nat) (n : Nat) : Nat := (0x4C000 + 0x10000 * h) + 0x880 + 4 * n
/-- R398: STALE_COUNT_n; RO. -/
def Reg.ZL_STALE_COUNT (h : Nat) (n : Nat) : Nat := (0x4C000 + 0x10000 * h) + 0x8C0 + 4 * n
/-- R398: PRBS_ERR_n; RO. -/
def Reg.ZL_PRBS_ERR (h : Nat) (n : Nat) : Nat := (0x4C000 + 0x10000 * h) + 0x900 + 16 * n
/-- R398: PRBS_BITS_LO_n; RO. -/
def Reg.ZL_PRBS_BITS_LO (h : Nat) (n : Nat) : Nat := (0x4C000 + 0x10000 * h) + 0x904 + 16 * n
/-- R398: PRBS_BITS_HI_n; RO. -/
def Reg.ZL_PRBS_BITS_HI (h : Nat) (n : Nat) : Nat := (0x4C000 + 0x10000 * h) + 0x908 + 16 * n
/-- R398: PRBS_STATUS_n; RO. -/
def Reg.ZL_PRBS_STATUS (h : Nat) (n : Nat) : Nat := (0x4C000 + 0x10000 * h) + 0x90C + 16 * n
/-- R398: HDR_ERR_n; RO. -/
def Reg.ZL_HDR_ERR (h : Nat) (n : Nat) : Nat := (0x4C000 + 0x10000 * h) + 0xA00 + 4 * n
/-- R398: RX_CRC_ERR_n; RO. -/
def Reg.ZL_RX_CRC_ERR (h : Nat) (n : Nat) : Nat := (0x4C000 + 0x10000 * h) + 0xA40 + 4 * n
/-- R398: RX_FRAME; RO. -/
def Reg.ZL_RX_FRAME (h : Nat) : Nat := (0x4C000 + 0x10000 * h) + 0xA80
/-- R398: RX_REPEATS; RO. -/
def Reg.ZL_RX_REPEATS (h : Nat) : Nat := (0x4C000 + 0x10000 * h) + 0xA84
/-- R398: RX_MISSING; RO. -/
def Reg.ZL_RX_MISSING (h : Nat) : Nat := (0x4C000 + 0x10000 * h) + 0xA88
/-- R398: RX_WRONG_LANE; RO. -/
def Reg.ZL_RX_WRONG_LANE (h : Nat) : Nat := (0x4C000 + 0x10000 * h) + 0xA8C
/-- R399: SB_CFG; RW. -/
def Reg.SB_SB_CFG (h : Nat) : Nat := (0x4D000 + 0x10000 * h) + 0x100
/-- R399: SB_RX_RING; RW. -/
def Reg.SB_SB_RX_RING (h : Nat) : Nat := (0x4D000 + 0x10000 * h) + 0x104
/-- R399: SB_STATUS; RO. -/
def Reg.SB_SB_STATUS (h : Nat) : Nat := (0x4D000 + 0x10000 * h) + 0x800
/-- R399: FRAMES_TX; RO. -/
def Reg.SB_FRAMES_TX (h : Nat) : Nat := (0x4D000 + 0x10000 * h) + 0x804
/-- R399: FRAMES_RX; RO. -/
def Reg.SB_FRAMES_RX (h : Nat) : Nat := (0x4D000 + 0x10000 * h) + 0x808
/-- R399: SB_CRC_ERR; RO. -/
def Reg.SB_SB_CRC_ERR (h : Nat) : Nat := (0x4D000 + 0x10000 * h) + 0x80C
/-- R399: NO_REPLY; RO. -/
def Reg.SB_NO_REPLY (h : Nat) : Nat := (0x4D000 + 0x10000 * h) + 0x810
/-- R399: RX_DROPPED; RO. -/
def Reg.SB_RX_DROPPED (h : Nat) : Nat := (0x4D000 + 0x10000 * h) + 0x814
/-- R399: CAPS_RESULT_g; RO. -/
def Reg.SB_CAPS_RESULT (h : Nat) (g : Nat) : Nat := (0x4D000 + 0x10000 * h) + 0x820 + 4 * g
/-- R399: EMU_CAPS_w; RW. -/
def Reg.SB_EMU_CAPS (h : Nat) (w : Nat) : Nat := (0x4D000 + 0x10000 * h) + 0xC00 + 4 * w
/-- R399: CAPS_g; RO. -/
def Reg.SB_CAPS (h : Nat) (g : Nat) : Nat := (0x4D000 + 0x10000 * h) + 0xD00 + 32 * g
/-- R428: TARGET_r; RWT. -/
def Reg.RAIL0_TARGET (r : Nat) : Nat := 0x80000 + 0x100 + 0x10 * r
/-- R428: ILIM_r; RWT. -/
def Reg.RAIL0_ILIM (r : Nat) : Nat := 0x80000 + 0x104 + 0x10 * r
/-- R428: SLEW_r; RW. -/
def Reg.RAIL0_SLEW (r : Nat) : Nat := 0x80000 + 0x108 + 0x10 * r
/-- R428: FAULT_CLEAR; WO. -/
def Reg.RAIL0_FAULT_CLEAR : Nat := 0x80000 + 0x1D0
/-- R428: V_MEAS_r; RO. -/
def Reg.RAIL0_V_MEAS (r : Nat) : Nat := 0x80000 + 0x800 + 0x10 * r
/-- R428: I_MEAS_r; RO. -/
def Reg.RAIL0_I_MEAS (r : Nat) : Nat := 0x80000 + 0x804 + 0x10 * r
/-- R428: RAIL_STATUS_r; RO. -/
def Reg.RAIL0_RAIL_STATUS (r : Nat) : Nat := 0x80000 + 0x808 + 0x10 * r
/-- R428: PRECHECK_r; RO. -/
def Reg.RAIL0_PRECHECK (r : Nat) : Nat := 0x80000 + 0x80C + 0x10 * r
/-- R428: P_TOTAL; RO. -/
def Reg.RAIL0_P_TOTAL : Nat := 0x80000 + 0x900
/-- R428: HVIN; RO. -/
def Reg.RAIL0_HVIN : Nat := 0x80000 + 0x904
/-- R428: PVL_POWER; RO. -/
def Reg.RAIL0_PVL_POWER : Nat := 0x80000 + 0x908
/-- R428: RAIL_SUMMARY; RO. -/
def Reg.RAIL0_RAIL_SUMMARY : Nat := 0x80000 + 0x90C
/-- R428: LIMIT_MIN_r; RO. -/
def Reg.RAIL0_LIMIT_MIN (r : Nat) : Nat := 0x80000 + 0xA00 + 8 * r
/-- R428: LIMIT_MAX_r; RO. -/
def Reg.RAIL0_LIMIT_MAX (r : Nat) : Nat := 0x80000 + 0xA04 + 8 * r
/-- R428: PRE_WIN1_r; RO. -/
def Reg.RAIL0_PRE_WIN1 (r : Nat) : Nat := 0x80000 + 0xC00 + 8 * r
/-- R428: PRE_WIN2_r; RO. -/
def Reg.RAIL0_PRE_WIN2 (r : Nat) : Nat := 0x80000 + 0xC04 + 8 * r
/-- R429: GATE_CFG_h; RWT. -/
def Reg.RAIL1_GATE_CFG (h : Nat) : Nat := 0x81000 + 0x100 + 0x20 * h
/-- R429: GATE_EDGE_h; RWT. -/
def Reg.RAIL1_GATE_EDGE (h : Nat) : Nat := 0x81000 + 0x104 + 0x20 * h
/-- R429: GATE_OFFSET_h; RWT. -/
def Reg.RAIL1_GATE_OFFSET (h : Nat) : Nat := 0x81000 + 0x108 + 0x20 * h
/-- R429: GST_CFG_h; RWT. -/
def Reg.RAIL1_GST_CFG (h : Nat) : Nat := 0x81000 + 0x10C + 0x20 * h
/-- R429: CRACK_ACK; WO. -/
def Reg.RAIL1_CRACK_ACK : Nat := 0x81000 + 0x180
/-- R429: GATE_STATUS_h; RO. -/
def Reg.RAIL1_GATE_STATUS (h : Nat) : Nat := 0x81000 + 0x800 + 4 * h
/-- R429: CRACK_STATUS; RO. -/
def Reg.RAIL1_CRACK_STATUS : Nat := 0x81000 + 0x810
/-- R429: CRACK_R_c; RO. -/
def Reg.RAIL1_CRACK_R (c : Nat) : Nat := 0x81000 + 0x820 + 4 * c
/-- R429: CRACK_PROFILE_c; RO. -/
def Reg.RAIL1_CRACK_PROFILE (c : Nat) : Nat := 0x81000 + 0x840 + 4 * c
/-- R429: TEMP_t; RO. -/
def Reg.RAIL1_TEMP (t : Nat) : Nat := 0x81000 + 0x860 + 4 * t
/-- R429: PANEL_TEMP; RO. -/
def Reg.RAIL1_PANEL_TEMP : Nat := 0x81000 + 0x880
/-- R430: PANEL_CMD; WO. -/
def Reg.RAIL2_PANEL_CMD : Nat := 0x82000 + 0x100
/-- R430: SEQ_A_i; RO. -/
def Reg.RAIL2_SEQ_A (i : Nat) : Nat := 0x82000 + 0x200 + 8 * i
/-- R430: SEQ_B_i; RO. -/
def Reg.RAIL2_SEQ_B (i : Nat) : Nat := 0x82000 + 0x204 + 8 * i
/-- R430: KEEPER_STATUS; RO. -/
def Reg.RAIL2_KEEPER_STATUS : Nat := 0x82000 + 0x800
/-- R430: SEQ_RESULT; RO. -/
def Reg.RAIL2_SEQ_RESULT : Nat := 0x82000 + 0x804
/-- R430: HVIN_LOSSES; RO. -/
def Reg.RAIL2_HVIN_LOSSES : Nat := 0x82000 + 0x808
/-- R430: PROFILE_CRC; RO. -/
def Reg.RAIL2_PROFILE_CRC : Nat := 0x82000 + 0x80C
/-- R430: ON_COUNT; RO. -/
def Reg.RAIL2_ON_COUNT : Nat := 0x82000 + 0x810
/-- R456: OPT_GEOM; RWT. -/
def Reg.OPT_OPT_GEOM : Nat := 0x84000 + 0x100
/-- R456: OPT_CFG; RW. -/
def Reg.OPT_OPT_CFG : Nat := 0x84000 + 0x104
/-- R456: MAP_BASE_LO; RWT. -/
def Reg.OPT_MAP_BASE_LO : Nat := 0x84000 + 0x108
/-- R456: MAP_BASE_HI; RWT. -/
def Reg.OPT_MAP_BASE_HI : Nat := 0x84000 + 0x10C
/-- R456: REQ_BASE_LO; RW. -/
def Reg.OPT_REQ_BASE_LO : Nat := 0x84000 + 0x110
/-- R456: REQ_BASE_HI; RW. -/
def Reg.OPT_REQ_BASE_HI : Nat := 0x84000 + 0x114
/-- R456: AUTO_INTERVAL; RW. -/
def Reg.OPT_AUTO_INTERVAL : Nat := 0x84000 + 0x118
/-- R456: LEDGER_WARN; RW. -/
def Reg.OPT_LEDGER_WARN : Nat := 0x84000 + 0x11C
/-- R456: BATCH_CMD; WO. -/
def Reg.OPT_BATCH_CMD : Nat := 0x84000 + 0x120
/-- R456: CELL_SEL; RW. -/
def Reg.OPT_CELL_SEL : Nat := 0x84000 + 0x124
/-- R456: OPT_STATUS; RO. -/
def Reg.OPT_OPT_STATUS : Nat := 0x84000 + 0x800
/-- R456: BATCH_STATUS; RO. -/
def Reg.OPT_BATCH_STATUS : Nat := 0x84000 + 0x804
/-- R456: ROWS_LEFT; RO. -/
def Reg.OPT_ROWS_LEFT : Nat := 0x84000 + 0x808
/-- R456: PENDING_CELLS; RO. -/
def Reg.OPT_PENDING_CELLS : Nat := 0x84000 + 0x80C
/-- R456: UNCERTAIN_ROWS; RO. -/
def Reg.OPT_UNCERTAIN_ROWS : Nat := 0x84000 + 0x810
/-- R456: REDRIVE_ROWS; RO. -/
def Reg.OPT_REDRIVE_ROWS : Nat := 0x84000 + 0x814
/-- R456: LAST_SETTLE_LO; RO. -/
def Reg.OPT_LAST_SETTLE_LO : Nat := 0x84000 + 0x818
/-- R456: LAST_SETTLE_HI; RO. -/
def Reg.OPT_LAST_SETTLE_HI : Nat := 0x84000 + 0x81C
/-- R456: CELL_TOKENS; RO. -/
def Reg.OPT_CELL_TOKENS : Nat := 0x84000 + 0x820
/-- R456: CELL_SWITCHES; RO. -/
def Reg.OPT_CELL_SWITCHES : Nat := 0x84000 + 0x824
/-- R456: MAX_LEDGER; RO. -/
def Reg.OPT_MAX_LEDGER : Nat := 0x84000 + 0x828
/-- R456: BATCHES; RO. -/
def Reg.OPT_BATCHES : Nat := 0x84000 + 0x82C
/-- R456: TERMINATIONS; RO. -/
def Reg.OPT_TERMINATIONS : Nat := 0x84000 + 0x830
/-- R478: CLASS_AGE_c; RW. -/
def Reg.MEM0_CLASS_AGE (c : Nat) : Nat := 0x90000 + 0x100 + 4 * c
/-- R478: CEILING; RW. -/
def Reg.MEM0_CEILING : Nat := 0x90000 + 0x120
/-- R478: SLEEP_CTRL; RW. -/
def Reg.MEM0_SLEEP_CTRL : Nat := 0x90000 + 0x124
/-- R478: MEM_STATUS; RO. -/
def Reg.MEM0_MEM_STATUS : Nat := 0x90000 + 0x800
/-- R478: MIN_TOLERANCE; RO. -/
def Reg.MEM0_MIN_TOLERANCE : Nat := 0x90000 + 0x804
/-- R478: SR_ENTRIES; RO. -/
def Reg.MEM0_SR_ENTRIES : Nat := 0x90000 + 0x808
/-- R478: SR_CANCELLED; RO. -/
def Reg.MEM0_SR_CANCELLED : Nat := 0x90000 + 0x80C
/-- R478: SR_LATE_WAITS; RO. -/
def Reg.MEM0_SR_LATE_WAITS : Nat := 0x90000 + 0x810
/-- R478: CLASS_BYTES_LO_c; RO. -/
def Reg.MEM0_CLASS_BYTES_LO (c : Nat) : Nat := 0x90000 + 0x820 + 8 * c
/-- R478: CLASS_BYTES_HI_c; RO. -/
def Reg.MEM0_CLASS_BYTES_HI (c : Nat) : Nat := 0x90000 + 0x824 + 8 * c
/-- R478: CLASS_AGED_c; RO. -/
def Reg.MEM0_CLASS_AGED (c : Nat) : Nat := 0x90000 + 0x850 + 4 * c
/-- R478: CLASS_MAX_WAIT_c; RO. -/
def Reg.MEM0_CLASS_MAX_WAIT (c : Nat) : Nat := 0x90000 + 0x870 + 4 * c
/-- R478: UTIL; RO. -/
def Reg.MEM0_UTIL : Nat := 0x90000 + 0x890
/-- R479: STACK_STATUS; RO. -/
def Reg.STACK_STACK_STATUS (k : Nat) : Nat := (0x91000 + 0x1000 * k) + 0x800
/-- R479: PC_STATUS_p; RO. -/
def Reg.STACK_PC_STATUS (k : Nat) (p : Nat) : Nat := (0x91000 + 0x1000 * k) + 0x810 + 4 * p
/-- R479: CE_COUNT_p; RO. -/
def Reg.STACK_CE_COUNT (k : Nat) (p : Nat) : Nat := (0x91000 + 0x1000 * k) + 0x890 + 4 * p
/-- R479: UE_COUNT_p; RO. -/
def Reg.STACK_UE_COUNT (k : Nat) (p : Nat) : Nat := (0x91000 + 0x1000 * k) + 0x910 + 4 * p
/-- R479: TARGETED_REFRESH_p; RO. -/
def Reg.STACK_TARGETED_REFRESH (k : Nat) (p : Nat) : Nat := (0x91000 + 0x1000 * k) + 0x990 + 4 * p
/-- R479: PARITY_REPLAYS_p; RO. -/
def Reg.STACK_PARITY_REPLAYS (k : Nat) (p : Nat) : Nat := (0x91000 + 0x1000 * k) + 0xA10 + 4 * p
/-- R480: SCRUB_PERIOD; RW. -/
def Reg.MEM3_SCRUB_PERIOD : Nat := 0x93000 + 0x100
/-- R480: CE_RETIRE; RW. -/
def Reg.MEM3_CE_RETIRE : Nat := 0x93000 + 0x104
/-- R480: ECC_INJECT; RW. -/
def Reg.MEM3_ECC_INJECT : Nat := 0x93000 + 0x108
/-- R480: INJECT_ADDR_LO; RW. -/
def Reg.MEM3_INJECT_ADDR_LO : Nat := 0x93000 + 0x10C
/-- R480: INJECT_ADDR_HI; RW. -/
def Reg.MEM3_INJECT_ADDR_HI : Nat := 0x93000 + 0x110
/-- R480: SCRUB_STATUS; RO. -/
def Reg.MEM3_SCRUB_STATUS : Nat := 0x93000 + 0x800
/-- R480: SCRUB_PASSES; RO. -/
def Reg.MEM3_SCRUB_PASSES : Nat := 0x93000 + 0x804
/-- R480: CE_TOTAL; RO. -/
def Reg.MEM3_CE_TOTAL : Nat := 0x93000 + 0x808
/-- R480: UE_TOTAL; RO. -/
def Reg.MEM3_UE_TOTAL : Nat := 0x93000 + 0x80C
/-- R480: LAST_UE_ADDR_LO; RO. -/
def Reg.MEM3_LAST_UE_ADDR_LO : Nat := 0x93000 + 0x810
/-- R480: LAST_UE_ADDR_HI; RO. -/
def Reg.MEM3_LAST_UE_ADDR_HI : Nat := 0x93000 + 0x814
/-- R480: POISONED; RO. -/
def Reg.MEM3_POISONED : Nat := 0x93000 + 0x818
/-- R481: RETRAIN_PERIOD; RW. -/
def Reg.MEM4_RETRAIN_PERIOD : Nat := 0x94000 + 0x100
/-- R481: RETRAIN_DELTA_T; RW. -/
def Reg.MEM4_RETRAIN_DELTA_T : Nat := 0x94000 + 0x104
/-- R481: MIGRATE_BW; RW. -/
def Reg.MEM4_MIGRATE_BW : Nat := 0x94000 + 0x108
/-- R481: SHRINK_POLICY; RW. -/
def Reg.MEM4_SHRINK_POLICY : Nat := 0x94000 + 0x10C
/-- R481: SYSTEM_TOP_LO; RW. -/
def Reg.MEM4_SYSTEM_TOP_LO : Nat := 0x94000 + 0x110
/-- R481: SYSTEM_TOP_HI; RW. -/
def Reg.MEM4_SYSTEM_TOP_HI : Nat := 0x94000 + 0x114
/-- R481: MEM_CMD; WO. -/
def Reg.MEM4_MEM_CMD : Nat := 0x94000 + 0x118
/-- R481: SPARE_STATUS; RO. -/
def Reg.MEM4_SPARE_STATUS : Nat := 0x94000 + 0x800
/-- R481: USABLE_TOP_LO; RO. -/
def Reg.MEM4_USABLE_TOP_LO : Nat := 0x94000 + 0x804
/-- R481: USABLE_TOP_HI; RO. -/
def Reg.MEM4_USABLE_TOP_HI : Nat := 0x94000 + 0x808
/-- R481: MIGRATION; RO. -/
def Reg.MEM4_MIGRATION : Nat := 0x94000 + 0x80C
/-- R481: MIGRATIONS; RO. -/
def Reg.MEM4_MIGRATIONS : Nat := 0x94000 + 0x810
/-- R481: RETIRED_MASK_LO; RO. -/
def Reg.MEM4_RETIRED_MASK_LO : Nat := 0x94000 + 0x814
/-- R481: RETIRED_MASK_HI; RO. -/
def Reg.MEM4_RETIRED_MASK_HI : Nat := 0x94000 + 0x818
/-- R481: CHAN_MAP_L; RO. -/
def Reg.MEM4_CHAN_MAP (l : Nat) : Nat := 0x94000 + 0xC00 + 4 * l
/-- R501: PORT_CFG; RW. -/
def Reg.SAP_PORT_CFG (p : Nat) : Nat := (0xA0000 + 0x1000 * p) + 0x100
/-- R501: SLOT_MASK; RW. -/
def Reg.SAP_SLOT_MASK (p : Nat) : Nat := (0xA0000 + 0x1000 * p) + 0x104
/-- R501: GROUP; RW. -/
def Reg.SAP_GROUP (p : Nat) : Nat := (0xA0000 + 0x1000 * p) + 0x108
/-- R501: DATA_RING; RW. -/
def Reg.SAP_DATA_RING (p : Nat) : Nat := (0xA0000 + 0x1000 * p) + 0x10C
/-- R501: IN_RING; RW. -/
def Reg.SAP_IN_RING (p : Nat) : Nat := (0xA0000 + 0x1000 * p) + 0x110
/-- R501: IN_BASE_LO; RW. -/
def Reg.SAP_IN_BASE_LO (p : Nat) : Nat := (0xA0000 + 0x1000 * p) + 0x114
/-- R501: IN_BASE_HI; RW. -/
def Reg.SAP_IN_BASE_HI (p : Nat) : Nat := (0xA0000 + 0x1000 * p) + 0x118
/-- R501: IN_BUF; RW. -/
def Reg.SAP_IN_BUF (p : Nat) : Nat := (0xA0000 + 0x1000 * p) + 0x11C
/-- R501: PULL_PPM; RW. -/
def Reg.SAP_PULL_PPM (p : Nat) : Nat := (0xA0000 + 0x1000 * p) + 0x120
/-- R501: CONT_CLEAR; WO. -/
def Reg.SAP_CONT_CLEAR (p : Nat) : Nat := (0xA0000 + 0x1000 * p) + 0x124
/-- R501: CS_w; RW. -/
def Reg.SAP_CS (p : Nat) (w : Nat) : Nat := (0xA0000 + 0x1000 * p) + 0x140 + 4 * w
/-- R501: PORT_STATUS; RO. -/
def Reg.SAP_PORT_STATUS (p : Nat) : Nat := (0xA0000 + 0x1000 * p) + 0x800
/-- R501: FRAME_LO; RO. -/
def Reg.SAP_FRAME_LO (p : Nat) : Nat := (0xA0000 + 0x1000 * p) + 0x804
/-- R501: FRAME_HI; RO. -/
def Reg.SAP_FRAME_HI (p : Nat) : Nat := (0xA0000 + 0x1000 * p) + 0x808
/-- R501: ANCHOR_LO; RO. -/
def Reg.SAP_ANCHOR_LO (p : Nat) : Nat := (0xA0000 + 0x1000 * p) + 0x80C
/-- R501: ANCHOR_HI; RO. -/
def Reg.SAP_ANCHOR_HI (p : Nat) : Nat := (0xA0000 + 0x1000 * p) + 0x810
/-- R501: PHASE_ERR_LO; RO. -/
def Reg.SAP_PHASE_ERR_LO (p : Nat) : Nat := (0xA0000 + 0x1000 * p) + 0x814
/-- R501: PHASE_ERR_HI; RO. -/
def Reg.SAP_PHASE_ERR_HI (p : Nat) : Nat := (0xA0000 + 0x1000 * p) + 0x818
/-- R501: MASK_IN_EFFECT; RO. -/
def Reg.SAP_MASK_IN_EFFECT (p : Nat) : Nat := (0xA0000 + 0x1000 * p) + 0x81C
/-- R501: LAST_MASK_FRAME_LO; RO. -/
def Reg.SAP_LAST_MASK_FRAME_LO (p : Nat) : Nat := (0xA0000 + 0x1000 * p) + 0x820
/-- R501: LAST_MASK_FRAME_HI; RO. -/
def Reg.SAP_LAST_MASK_FRAME_HI (p : Nat) : Nat := (0xA0000 + 0x1000 * p) + 0x824
/-- R501: UNDERRUNS; RO. -/
def Reg.SAP_UNDERRUNS (p : Nat) : Nat := (0xA0000 + 0x1000 * p) + 0x828
/-- R501: DISCARDED; RO. -/
def Reg.SAP_DISCARDED (p : Nat) : Nat := (0xA0000 + 0x1000 * p) + 0x82C
/-- R501: OVERRUNS; RO. -/
def Reg.SAP_OVERRUNS (p : Nat) : Nat := (0xA0000 + 0x1000 * p) + 0x830
/-- R501: RATE_PPM; RO. -/
def Reg.SAP_RATE_PPM (p : Nat) : Nat := (0xA0000 + 0x1000 * p) + 0x834
/-- R501: CONTENTIONS; RO. -/
def Reg.SAP_CONTENTIONS (p : Nat) : Nat := (0xA0000 + 0x1000 * p) + 0x838
/-- R501: MEDIA_FRAMES; RO. -/
def Reg.SAP_MEDIA_FRAMES (p : Nat) : Nat := (0xA0000 + 0x1000 * p) + 0x83C
/-- R501: STALE_COUNT; RO. -/
def Reg.SAP_STALE_COUNT (p : Nat) : Nat := (0xA0000 + 0x1000 * p) + 0x8FC
/-- R502: GROUP_CMD; WO. -/
def Reg.SAPM_GROUP_CMD : Nat := 0xA0000 + 0x700
/-- R502: MCLK_CFG; RW. -/
def Reg.SAPM_MCLK_CFG : Nat := 0xA0000 + 0x704
/-- R525: THERM_CTRL; RW. -/
def Reg.THERM_THERM_CTRL : Nat := 0xB0000 + 0x100
/-- R525: THERM_TIMING; RW. -/
def Reg.THERM_THERM_TIMING : Nat := 0xB0000 + 0x104
/-- R525: HYST; RW. -/
def Reg.THERM_HYST : Nat := 0xB0000 + 0x108
/-- R525: ZONE_T0_z; RW. -/
def Reg.THERM_ZONE_T0 (z : Nat) : Nat := 0xB0000 + 0x120 + 8 * z
/-- R525: ZONE_T1_z; RW. -/
def Reg.THERM_ZONE_T1 (z : Nat) : Nat := 0xB0000 + 0x124 + 8 * z
/-- R525: POWER_CMD; WO. -/
def Reg.THERM_POWER_CMD : Nat := 0xB0000 + 0x180
/-- R525: REDUCED_LEVEL; RW. -/
def Reg.THERM_REDUCED_LEVEL : Nat := 0xB0000 + 0x184
/-- R525: WAKE_CTRL; RW. -/
def Reg.THERM_WAKE_CTRL : Nat := 0xB0000 + 0x188
/-- R525: POWER_STATUS; RO. -/
def Reg.THERM_POWER_STATUS : Nat := 0xB0000 + 0x800
/-- R525: LEVEL; RO. -/
def Reg.THERM_LEVEL : Nat := 0xB0000 + 0x804
/-- R525: LEVEL_CHANGES; RO. -/
def Reg.THERM_LEVEL_CHANGES : Nat := 0xB0000 + 0x808
/-- R525: TRIPS; RO. -/
def Reg.THERM_TRIPS : Nat := 0xB0000 + 0x80C
/-- R525: ZONE_STATUS_z; RO. -/
def Reg.THERM_ZONE_STATUS (z : Nat) : Nat := 0xB0000 + 0x810 + 4 * z
/-- R525: SENSOR_s; RO. -/
def Reg.THERM_SENSOR (s : Nat) : Nat := 0xB0000 + 0x840 + 4 * s
/-- R525: SENSOR_CAL_s; RO. -/
def Reg.THERM_SENSOR_CAL (s : Nat) : Nat := 0xB0000 + 0x900 + 4 * s
/-- R542: COUNTER_CFG_i; RW. -/
def Reg.PERF0_COUNTER_CFG (i : Nat) : Nat := 0xC0000 + 0x100 + 4 * i
/-- R542: PERF_CTRL; RW. -/
def Reg.PERF0_PERF_CTRL : Nat := 0xC0000 + 0x300
/-- R542: PERF_CMD; WO. -/
def Reg.PERF0_PERF_CMD : Nat := 0xC0000 + 0x304
/-- R542: DUMP_CFG; RW. -/
def Reg.PERF0_DUMP_CFG : Nat := 0xC0000 + 0x308
/-- R542: DUMP_PERIOD; RW. -/
def Reg.PERF0_DUMP_PERIOD : Nat := 0xC0000 + 0x30C
/-- R542: DUMP_SEL; RW. -/
def Reg.PERF0_DUMP_SEL : Nat := 0xC0000 + 0x310
/-- R542: DUMP_RING; RW. -/
def Reg.PERF0_DUMP_RING : Nat := 0xC0000 + 0x314
/-- R542: GLINT_CTRL; RW. -/
def Reg.PERF0_GLINT_CTRL : Nat := 0xC0000 + 0x320
/-- R542: GLINT_SEED; RW. -/
def Reg.PERF0_GLINT_SEED : Nat := 0xC0000 + 0x324
/-- R542: GLINT_TARGET; RW. -/
def Reg.PERF0_GLINT_TARGET : Nat := 0xC0000 + 0x328
/-- R542: GLINT_RING; RW. -/
def Reg.PERF0_GLINT_RING : Nat := 0xC0000 + 0x32C
/-- R542: VALUE_LO_i; RO. -/
def Reg.PERF0_VALUE_LO (i : Nat) : Nat := 0xC0000 + 0x800 + 8 * i
/-- R542: VALUE_HI_i; RO. -/
def Reg.PERF0_VALUE_HI (i : Nat) : Nat := 0xC0000 + 0x804 + 8 * i
/-- R542: OVF_w; W1C. -/
def Reg.PERF0_OVF (w : Nat) : Nat := 0xC0000 + 0xC00 + 4 * w
/-- R542: DUMP_SEQ; RO. -/
def Reg.PERF0_DUMP_SEQ : Nat := 0xC0000 + 0xC10
/-- R542: DUMP_MISSED; RO. -/
def Reg.PERF0_DUMP_MISSED : Nat := 0xC0000 + 0xC14
/-- R542: GLINT_TAGGED; RO. -/
def Reg.PERF0_GLINT_TAGGED : Nat := 0xC0000 + 0xC18
/-- R542: GLINT_SUPPRESSED; RO. -/
def Reg.PERF0_GLINT_SUPPRESSED : Nat := 0xC0000 + 0xC1C
/-- R542: GLINT_DROPPED; RO. -/
def Reg.PERF0_GLINT_DROPPED : Nat := 0xC0000 + 0xC20
/-- R556: FW_CMD; WO. -/
def Reg.MAINT_FW_CMD : Nat := 0x8000 + 0x100
/-- R556: FW_SRC_LO; RW. -/
def Reg.MAINT_FW_SRC_LO : Nat := 0x8000 + 0x104
/-- R556: FW_SRC_HI; RW. -/
def Reg.MAINT_FW_SRC_HI : Nat := 0x8000 + 0x108
/-- R556: FW_LEN; RW. -/
def Reg.MAINT_FW_LEN : Nat := 0x8000 + 0x10C
/-- R556: LOG_SEL_LO; RW. -/
def Reg.MAINT_LOG_SEL_LO : Nat := 0x8000 + 0x110
/-- R556: LOG_SEL_HI; RW. -/
def Reg.MAINT_LOG_SEL_HI : Nat := 0x8000 + 0x114
/-- R556: FW_STATUS; RO. -/
def Reg.MAINT_FW_STATUS : Nat := 0x8000 + 0x800
/-- R556: FW_STAGED_VERSION; RO. -/
def Reg.MAINT_FW_STAGED_VERSION : Nat := 0x8000 + 0x804
/-- R556: ROLLBACK_COUNTER; RO. -/
def Reg.MAINT_ROLLBACK_COUNTER : Nat := 0x8000 + 0x808
/-- R556: SWAP_FIELD; RO. -/
def Reg.MAINT_SWAP_FIELD : Nat := 0x8000 + 0x80C
/-- R556: SWAPS; RO. -/
def Reg.MAINT_SWAPS : Nat := 0x8000 + 0x810
/-- R556: SPARES; RO. -/
def Reg.MAINT_SPARES : Nat := 0x8000 + 0x820
/-- R556: RAIL_PHASE_LOST; RO. -/
def Reg.MAINT_RAIL_PHASE_LOST : Nat := 0x8000 + 0x824
/-- R556: LOG_FIRST_LO; RO. -/
def Reg.MAINT_LOG_FIRST_LO : Nat := 0x8000 + 0x830
/-- R556: LOG_FIRST_HI; RO. -/
def Reg.MAINT_LOG_FIRST_HI : Nat := 0x8000 + 0x834
/-- R556: LOG_LAST_LO; RO. -/
def Reg.MAINT_LOG_LAST_LO : Nat := 0x8000 + 0x838
/-- R556: LOG_LAST_HI; RO. -/
def Reg.MAINT_LOG_LAST_HI : Nat := 0x8000 + 0x83C
/-- R556: LOG_WRAPS; RO. -/
def Reg.MAINT_LOG_WRAPS : Nat := 0x8000 + 0x840
/-- R556: POWERED_HOURS; RO. -/
def Reg.MAINT_POWERED_HOURS : Nat := 0x8000 + 0x844
/-- R556: ACTIVE_HOURS; RO. -/
def Reg.MAINT_ACTIVE_HOURS : Nat := 0x8000 + 0x848
/-- R556: LOG_WINDOW; RO. -/
def Reg.MAINT_LOG_WINDOW : Nat := 0x8000 + 0xC00
/-- R575: PROFILE_SRC_LO; RW. -/
def Reg.MAINT_PROFILE_SRC_LO : Nat := 0x8000 + 0x118
/-- R575: PROFILE_SRC_HI; RW. -/
def Reg.MAINT_PROFILE_SRC_HI : Nat := 0x8000 + 0x11C
/-- R575: PROFILE_LEN; RW. -/
def Reg.MAINT_PROFILE_LEN : Nat := 0x8000 + 0x120
/-- R575: PROFILE_CMD; WO. -/
def Reg.MAINT_PROFILE_CMD : Nat := 0x8000 + 0x124
/-- R575: HANDOVER_CMD; WO. -/
def Reg.MAINT_HANDOVER_CMD : Nat := 0x8000 + 0x128
/-- R575: BOOT_STATUS; RO. -/
def Reg.MAINT_BOOT_STATUS : Nat := 0x8000 + 0x850
/-- R575: PROFILE_STATUS; RO. -/
def Reg.MAINT_PROFILE_STATUS : Nat := 0x8000 + 0x854
/-- R575: HANDOVER_STATUS; RO. -/
def Reg.MAINT_HANDOVER_STATUS : Nat := 0x8000 + 0x858
/-- R575: HANDOVER_FAIL_OFFSET; RO. -/
def Reg.MAINT_HANDOVER_FAIL_OFFSET : Nat := 0x8000 + 0x85C
/-- R575: PROFILE_ID; RO. -/
def Reg.MAINT_PROFILE_ID : Nat := 0x8000 + 0x860
/-- R591: AUX_CTRL; RW. -/
def Reg.TIME_AUX_CTRL : Nat := 0x10000 + 0x124
/-- R591: AUX_LEVEL; RW. -/
def Reg.TIME_AUX_LEVEL : Nat := 0x10000 + 0x128
/-- R591: AUX_CAPTURE; RW. -/
def Reg.TIME_AUX_CAPTURE : Nat := 0x10000 + 0x12C
/-- R591: AUX_IN; RO. -/
def Reg.TIME_AUX_IN : Nat := 0x10000 + 0x868
/-- R591: TRIG_STAMP_LO_g; RO. -/
def Reg.TIME_TRIG_STAMP_LO (g : Nat) : Nat := 0x10000 + 0x900 + 8 * g
/-- R591: TRIG_STAMP_HI_g; RO. -/
def Reg.TIME_TRIG_STAMP_HI (g : Nat) : Nat := 0x10000 + 0x904 + 8 * g
/-- R591: TRIG_COUNT_g; RO. -/
def Reg.TIME_TRIG_COUNT (g : Nat) : Nat := 0x10000 + 0x940 + 4 * g

/-- R147: SLOT_TIME_LO_i; slots 0–127 lie in SCHED0, 128–255 in SCHED1; RW. -/
def Reg.SCHED_SLOT_TIME_LO (i : Nat) : Nat := 0x11000 + 0x1000 * (i / 128) + 0x100 + 8 * (i % 128)
/-- R147: SLOT_TIME_HI_i; RW. -/
def Reg.SCHED_SLOT_TIME_HI (i : Nat) : Nat := 0x11000 + 0x1000 * (i / 128) + 0x104 + 8 * (i % 128)
/-- R147: SLOT_CTRL_i; RW. -/
def Reg.SCHED_SLOT_CTRL (i : Nat) : Nat := 0x11000 + 0x1000 * (i / 128) + 0x500 + 4 * (i % 128)
/-- R147: SLOT_CMD, SCHED0 only; WO. -/
def Reg.SCHED_SLOT_CMD : Nat := 0x11700
/-- R147: SLOT_STATUS_i; RO. -/
def Reg.SCHED_SLOT_STATUS (i : Nat) : Nat := 0x11000 + 0x1000 * (i / 128) + 0x800 + 4 * (i % 128)
/-- R147: SCHED_LAST, SCHED0 only, one value per requester; RO. -/
def Reg.SCHED_SCHED_LAST : Nat := 0x11A00
/-- R147: LOG_DROPPED, SCHED0 only; RO. -/
def Reg.SCHED_LOG_DROPPED : Nat := 0x11A04
/-- R147: ARMED_COUNT, SCHED0 only; RO. -/
def Reg.SCHED_ARMED_COUNT : Nat := 0x11A08
/-- R147: SLOT_PAYLOAD_i; RW. -/
def Reg.SCHED_SLOT_PAYLOAD (i : Nat) : Nat := 0x11000 + 0x1000 * (i / 128) + 0xC00 + 4 * (i % 128)
/-- R542: COUNTER_CFG_i; counters 0–127 lie in PERF0, 128–255 in PERF1; RW. -/
def Reg.PERF_COUNTER_CFG (i : Nat) : Nat := 0xC0000 + 0x1000 * (i / 128) + 0x100 + 4 * (i % 128)
/-- R542: VALUE_LO_i; RO. -/
def Reg.PERF_VALUE_LO (i : Nat) : Nat := 0xC0000 + 0x1000 * (i / 128) + 0x800 + 8 * (i % 128)
/-- R542: VALUE_HI_i; RO. -/
def Reg.PERF_VALUE_HI (i : Nat) : Nat := 0xC0000 + 0x1000 * (i / 128) + 0x804 + 8 * (i % 128)
/-- R542: OVF_w of PERF0 (`g` = 0) or PERF1 (`g` = 1); W1C. -/
def Reg.PERF_OVF (g w : Nat) : Nat := 0xC0000 + 0x1000 * g + 0xC00 + 4 * w
/-- R67: the word of EVT1 that holds the source-map entries 2i and 2i + 1. -/
def Reg.EVT1_MAP (i : Nat) : Nat := 0x4C00 + 4 * i
/-- R68: VEC_HOLDOFF_v; RW. -/
def Reg.EVT0_VEC_HOLDOFF (v : Nat) : Nat := 0x3200 + 4 * v
/-- R42: word w of the MSI-X pending-bit array. -/
def Reg.MSIX_PBA (w : Nat) : Nat := 0x3800 + 4 * w
/-- R42: word w of entry v of the MSI-X table; word 3 is the vector control, whose bit 0 masks the vector. -/
def Reg.MSIX_TABLE (v w : Nat) : Nat := 0x3C00 + 16 * v + 4 * w
/-- R47: the output LUT windows of head h. -/
def Reg.LUT (h : Nat) : Nat := 0x300000 + 0x10000 * h
/-- R47: the optic DC ledger window, one word per cell. -/
def Reg.OPT_LEDGER (cell : Nat) : Nat := 0x340000 + 4 * cell
/-- R47: the ray-cache directory debug window of head h, 8 B per way. -/
def Reg.CACHE_DIR (h i : Nat) : Nat := 0x380000 + 0x20000 * h + 8 * i

/-! ### The map of R47 -/

/-- A register page: its BAR0 base, block type code and instance (R47). -/
structure PageId where
  base : Nat
  typ : Nat
  inst : Nat
  deriving DecidableEq, Repr

/-- The page at a BAR0 page base below 0x04_0000 or at 0x08_0000 and above (R47). -/
def pageFixed (b : Nat) : Option PageId :=
  if b = 0x0 then some ⟨b, 0x01, 0⟩ else if b = 0x1000 then some ⟨b, 0x02, 0⟩
  else if b = 0x2000 then some ⟨b, 0x03, 0⟩ else if b = 0x3000 then some ⟨b, 0x04, 0⟩
  else if b = 0x4000 then some ⟨b, 0x04, 1⟩ else if b = 0x8000 then some ⟨b, 0x05, 0⟩
  else if b = 0x10000 then some ⟨b, 0x10, 0⟩ else if b = 0x11000 then some ⟨b, 0x11, 0⟩
  else if b = 0x12000 then some ⟨b, 0x11, 1⟩ else if b = 0x20000 then some ⟨b, 0x20, 0⟩
  else if b = 0x21000 then some ⟨b, 0x20, 1⟩ else if b = 0x22000 then some ⟨b, 0x21, 0⟩
  else if b = 0x30000 then some ⟨b, 0x30, 0⟩
  else if 0x31000 ≤ b ∧ b < 0x39000 then some ⟨b, 0x31, (b - 0x31000) / 0x1000⟩
  else if 0x80000 ≤ b ∧ b < 0x83000 then some ⟨b, 0x80, (b - 0x80000) / 0x1000⟩
  else if b = 0x84000 then some ⟨b, 0x81, 0⟩
  else if 0x90000 ≤ b ∧ b < 0x95000 then some ⟨b, 0x90, (b - 0x90000) / 0x1000⟩
  else if 0xA0000 ≤ b ∧ b < 0xA8000 then some ⟨b, 0xA0, (b - 0xA0000) / 0x1000⟩
  else if b = 0xB0000 then some ⟨b, 0xB0, 0⟩
  else if b = 0xC0000 then some ⟨b, 0xC0, 0⟩ else if b = 0xC1000 then some ⟨b, 0xC0, 1⟩
  else if b = 0xC2000 then some ⟨b, 0xC1, 0⟩
  else none

/-- The page of head group `h` at offset `o` (a multiple of 0x1000) from 0x4_0000 + h × 0x1_0000 (R47). -/
def pageHead (b h o : Nat) : Option PageId :=
  if o = 0x0 then some ⟨b, 0x40, h⟩ else if o = 0x1000 then some ⟨b, 0x41, h⟩
  else if o = 0x2000 then some ⟨b, 0x42, h⟩
  else if 0x3000 ≤ o ∧ o < 0xB000 then some ⟨b, 0x43, h * 8 + (o - 0x3000) / 0x1000⟩
  else if o = 0xB000 then some ⟨b, 0x44, h⟩ else if o = 0xC000 then some ⟨b, 0x45, h⟩
  else if o = 0xD000 then some ⟨b, 0x46, h⟩ else none

/-- The page that holds a BAR0 address, if it lies in a page (R47). -/
def pageAt (a : Nat) : Option PageId :=
  let b := a - a % 0x1000
  if 0x40000 ≤ b ∧ b < 0x80000 then pageHead b ((b - 0x40000) / 0x10000) ((b - 0x40000) % 0x10000)
  else pageFixed b

/-- The regions of R47 that carry no page header: ring descriptors, flow table, output LUTs, optic ledger and
ray-cache directories. -/
def inTable (a : Nat) : Bool :=
  decide ((0x100000 ≤ a ∧ a < 0x180000) ∨ (0x200000 ≤ a ∧ a < 0x240000) ∨ (0x300000 ≤ a ∧ a < 0x400000))

/-- Whether a BAR0 address is listed in R47 (R48). -/
def isMapped (a : Nat) : Bool := (pageAt a).isSome || inTable a

/-- The bits, other than BASE, that R76 lists against a page type. -/
def gateBits (typ : Nat) : List Nat :=
  if typ = 0x03 then [17] else if typ = 0x05 then [15] else if typ = 0x10 then [6] else if typ = 0x11 then [16]
  else if typ = 0x20 then [12] else if typ = 0x21 then [1, 2, 12] else if typ = 0x30 then [1, 2, 8, 9, 10]
  else if typ = 0x31 then [8, 9] else if typ = 0x40 then [5, 10, 19, 20] else if typ = 0x41 then [1, 2]
  else if typ = 0x42 then [4] else if typ = 0x43 then [3, 18] else if typ = 0x45 then [5, 13, 20]
  else if typ = 0x46 then [5] else if typ = 0x81 then [4] else if typ = 0x90 then [14]
  else if typ = 0xA0 then [7] else if typ = 0xC0 then [11] else []

/-- R78: page types that are always available to host software. -/
def alwaysAvail (typ : Nat) : Bool := decide (typ = 0x01 ∨ typ = 0x02 ∨ typ = 0x04 ∨ typ = 0x05 ∨ typ = 0x90)

/-- R78: page types that need one of their gating features. -/
def featRequired (typ : Nat) : Bool :=
  decide (typ = 0x21 ∨ typ = 0x30 ∨ typ = 0x31 ∨ typ = 0x41 ∨ typ = 0x42 ∨ typ = 0x81 ∨ typ = 0xA0 ∨ typ = 0x11 ∨ typ = 0x03)

/-- R50: pages whose ENABLE reads 1 and ignores 0. -/
def alwaysEnabled (typ : Nat) : Bool :=
  decide (typ = 0x01 ∨ typ = 0x02 ∨ typ = 0x03 ∨ typ = 0x04 ∨ typ = 0x05 ∨ typ = 0x10 ∨ typ = 0x90)

/-- Page types with a role-bearing unit addressed by the page's ROLE register (R50, R103). -/
def hasRole (typ : Nat) : Bool :=
  decide (typ = 0x30 ∨ typ = 0x31 ∨ typ = 0x40 ∨ typ = 0xA0)

/-! ### Reset values -/

/-- Properties of the one PCIe physical function (R42). -/
structure PcieProps where
  deviceId : Nat
  classCode : Nat
  generations : List Nat
  widths : List Nat
  maxPayloads : List Nat
  maxReadRequest : Nat
  vectors : Nat
  msixTable : Nat
  pendingArray : Nat
  aer : Bool
  flr : Bool
  deriving DecidableEq, Repr

/-- The PCIe function (R42), the same for both variants. -/
def pcieFunction : PcieProps where
  deviceId := 0x4880
  classCode := 0x038000
  generations := [1, 2, 3, 4, 5]
  widths := [8, 4]
  maxPayloads := [128, 256, 512]
  maxReadRequest := 4096
  vectors := 64
  msixTable := 0x3C00
  pendingArray := 0x3800
  aer := true
  flr := true

/-- SYS.IDENT (R61): DEVICE is the part number, VARIANT and STEPPING are what Config says of the module (log entry 2). -/
def identWord : Word :=
  BitVec.ofNat 32 (pcieFunction.deviceId * 0x10000) ||| (Config.stepping.setWidth 32 <<< 8) ||| (if Config.isSc then 1 else 0)

/-- Reset of the common header (R49, R50). DESIGN CHOICE (log entry 2): in the pages whose ENABLE always reads 1, QUIESCED resets to 0,
as its meaning says, where the table's reset column says 1. -/
def resetHeader (p : PageId) (o : Nat) : Word :=
  if o = 0x00 then BitVec.ofNat 32 (p.typ * 0x10000 + p.inst * 0x100 + 1)
  else if o = 0x08 then 1
  else if o = 0x0C then (if alwaysEnabled p.typ then 1 else 0)
  else if o = 0x10 then (if alwaysEnabled p.typ then 0 else 1)
  else if o = 0x18 then BitVec.ofNat 32 (evMask p.base)
  else 0

/-- Source-map entry of an event number at reset (R67): LOG_EN = 1 and the fixed severity. -/
def resetMapEntry (e : Nat) : Nat :=
  match sevOfNumber e with
  | some sv => 0x80 + sv * 0x100
  | none => 0

/-- Reset of SYS, FEAT, TXN, EVT0, EVT1 and MAINT beyond the header. -/
def resetSystem (typ inst o : Nat) : Word :=
  if typ = 0x01 then (if o = 0x800 then identWord else 0)
  else if typ = 0x02 then (if o = 0x800 then 0x001FFFFF else if o = 0x820 then 1 else 0)
  else if typ = 0x04 then
    if inst = 1 then
      if 0xC00 ≤ o then
        BitVec.ofNat 32 (resetMapEntry (2 * ((o - 0xC00) / 4)) + resetMapEntry (2 * ((o - 0xC00) / 4) + 1) * 0x10000)
      else 0
    else if 0xC00 ≤ o ∧ o % 16 = 12 then 1 else 0
  else if typ = 0x05 then (if o = 0x820 then 0x800 else 0)
  else 0

/-- Reset of TIME beyond the header (R133). -/
def resetTime (o : Nat) : Word :=
  if o = 0x110 then 0xF4240 else if o = 0x114 then 0x64 else if o = 0x120 then 0x2710
  else if o = 0x144 ∨ o = 0x184 then 0x03FE0100 else if o = 0x148 ∨ o = 0x188 then 0x00F88080
  else if o = 0x14C ∨ o = 0x18C then 0x3E8 else if o = 0x808 then 0x40000000 else 0

/-- Reset of NETp and INGEST beyond the header (R161, R176). -/
def resetNet (typ o : Nat) : Word :=
  if typ = 0x20 then
    (if o = 0x120 then 0x14 else if o = 0x124 then 0xBB08 else if o = 0x128 then 0x2400 else 0)
  else if o = 0x10C then 0x64
  else if 0x200 ≤ o ∧ o < 0x400 then
    (if o % 0x20 = 0x10 then 0xF4240 else if o % 0x20 = 0x14 then 0x3B9ACA00 else 0)
  else if 0x900 ≤ o ∧ o < 0xA00 ∧ o % 0x10 = 4 then 0x100
  else 0

/-- Reset of CODEC and CJEj beyond the header (R230, R252). -/
def resetCodec (typ o : Nat) : Word :=
  if typ = 0x30 then (if o = 0x100 then 1 else if o = 0x104 then 0x2710 else if o = 0x800 then 0xFFFFFFFF else 0)
  else if o = 0x100 then 0x2710 else 0

/-- Reset of HEADh, RGUh, RMAPh and LAYERh_k beyond the header (R262, R263, R298, R331, R332, R362). -/
def resetHead (typ o : Nat) : Word :=
  if typ = 0x40 then
    (if o = 0x104 then 0x0010003C else if o = 0x108 then 0x3C00 else if o = 0x10C then 0x22C321C0
     else if o = 0x110 then 0xFFFF else if o = 0x120 then 0x3E8 else if o = 0x124 then 0x7D0
     else if o = 0x808 ∨ o = 0x820 ∨ o = 0x824 then 0xFFFFFFFF else 0)
  else if typ = 0x41 then
    (if o = 0x124 ∨ o = 0x818 then 3 else if o = 0x130 then 0x410 else if o = 0x134 then 0x2710
     else if o = 0x830 then 1 else if o = 0x840 then 0xFFFFFFFF else 0)
  else if typ = 0x43 then
    (if o = 0x108 then 0x00010001 else if o = 0x10C then 0xFFF else if o = 0x130 then 0x01000700 else 0)
  else 0

/-- Reset of OUTh, ZLh and SBh beyond the header (R363, R364, R398, R399). -/
def resetLink (typ o : Nat) : Word :=
  if typ = 0x44 then
    (if o = 0x100 then 0x21 else if o = 0x108 then 0x22 else if o = 0x10C then 0xC350 else 0)
  else if typ = 0x45 then
    (if o = 0x100 then 0x13 else if o = 0x104 then 0xFF00 else if o = 0x700 then 0x00081001
     else if 0x800 ≤ o ∧ o < 0x834 then BitVec.ofNat 32 (0xF00F + ((o - 0x800) / 4) * 16)
     else if o = 0x840 then 0xC else 0)
  else if o = 0x100 then 0x1464 else 0

/-- Reset of OPT (no profile) and of the RAIL pages beyond the header (R428 to R430, R456; R566 without a profile). -/
def resetPanel (typ inst o : Nat) : Word :=
  if typ = 0x81 then
    (if o = 0x104 then 1 else if o = 0x118 then 0x3C else if o = 0x11C then 0x100000 else 0)
  else if inst = 0 ∧ 0x100 ≤ o ∧ o < 0x1D0 ∧ o % 0x10 = 8 then 1
  else 0

/-- Default CLASS_AGE of a service class, in ns (R462). -/
def resetClassAge (c : Nat) : Word :=
  if c = 0 then 1000 else if c = 1 then 4000 else if c = 2 then 20000 else if c = 3 then 50000
  else if c = 4 then 200000 else 2000000

/-- Reset of MEM0 to MEM4 beyond the header (R478 to R481). -/
def resetMem (inst o : Nat) : Word :=
  if inst = 0 then
    (if 0x100 ≤ o ∧ o < 0x118 then resetClassAge ((o - 0x100) / 4) else if o = 0x120 then 0x55
     else if o = 0x124 then 0xA03 else if o = 0x804 then 0xFFFFFFFF else 0)
  else if inst = 1 ∨ inst = 2 then (if 0x810 ≤ o ∧ o < 0x890 then 0x3F07 else 0)
  else if inst = 3 then (if o = 0x100 then 0x18 else if o = 0x104 then 0x2710 else 0)
  else (if o = 0x100 then 0xA8 else if o = 0x104 then 0xF else if o = 0x108 then 0x50 else if o = 0x114 then 1 else 0)

/-- Reset of SAPp, THERM and the PERF pages beyond the header (R501, R525, R542). The sensor calibration counts are
per module (R504); DESIGN CHOICE: N25 = 1,000 and N85 = 1,600. -/
def resetRest (typ inst o : Nat) : Word :=
  if typ = 0xA0 then
    (if o = 0x100 then 0x00250220 else if o = 0x104 then 3 else if o = 0x11C then 0x00040400
     else if o = 0x120 then 0x64 else 0)
  else if typ = 0xB0 then
    (if o = 0x100 then 1 else if o = 0x104 then 0x03E80014 else if o = 0x108 then 0x1E
     else if 0x120 ≤ o ∧ o < 0x160 then (if o % 8 = 0 then 0x03520000 else 0x041A03B6)
     else if o = 0x184 then 3 else if o = 0x800 then 0x40
     else if 0x900 ≤ o ∧ o < 0x9C0 then 0x064003E8 else 0)
  else if typ = 0xC0 ∧ inst = 0 then
    (if o = 0x30C then 0xF4240 else if o = 0x310 then 0x01000000 else if o = 0x320 then 0x1400
     else if o = 0x324 then 1 else 0)
  else 0

/-- The reset value of the word at offset `o` of a page. -/
def resetPage (p : PageId) (o : Nat) : Word :=
  if o < 0x100 then resetHeader p o
  else if p.typ ≤ 0x05 then resetSystem p.typ p.inst o
  else if p.typ = 0x10 then resetTime o
  else if p.typ = 0x11 then 0
  else if p.typ ≤ 0x21 then resetNet p.typ o
  else if p.typ ≤ 0x31 then resetCodec p.typ o
  else if p.typ ≤ 0x43 then resetHead p.typ o
  else if p.typ ≤ 0x46 then resetLink p.typ o
  else if p.typ ≤ 0x81 then resetPanel p.typ p.inst o
  else if p.typ = 0x90 then resetMem p.inst o
  else resetRest p.typ p.inst o

/-- The reset value of the BAR0 word at address `a`: what an unlisted address of the register file reads. -/
def Reg.reset (a : Nat) : Word :=
  match pageAt a with
  | some p => resetPage p (a - p.base)
  | none =>
    if 0x100000 ≤ a ∧ a < 0x180000 ∧ (a - 0x100000) % 64 = 0x24 then 1
    else if 0x300000 ≤ a ∧ a < 0x340000 ∧ a % 0x10000 < 0xC000 then BitVec.ofNat 32 (a / 4 % 4096 * 0x10001)
    else 0

end Sys2Proof.Machine
end

