-- ==== Sys2Proof/Machine/Tab.lean ====
section
/-!
DEFINITION. Sparse tables: the one form in which the model holds register files, memories and other storage
that is addressed by number.

A table lists (key, value) pairs. A key that is not listed reads as the table's default for that key. The
canonical form (`tabWf`) has the keys strictly rising and lists no default value, so equal tables are equal data.
-/
namespace Sys2Proof.Machine

/-- A sparse table of values, by number. -/
abbrev Tab (β : Type) := List (Nat × β)

/-- The value at a key; an unlisted key reads as its default. -/
def tabGet {β : Type} (d : Nat → β) : Tab β → Nat → β
  | [], k => d k
  | (j, v) :: t, k => if j = k then v else tabGet d t k

/-- The table without a key. -/
def tabErase {β : Type} : Tab β → Nat → Tab β
  | [], _ => []
  | (j, v) :: t, k => if j = k then tabErase t k else (j, v) :: tabErase t k

/-- The table with a pair put before the first larger key. -/
def tabInsert {β : Type} : Tab β → Nat → β → Tab β
  | [], k, v => [(k, v)]
  | (j, w) :: t, k, v => if k < j then (k, v) :: (j, w) :: t else (j, w) :: tabInsert t k v

/-- The table with a value at a key; the default value is not listed. -/
def tabSet {β : Type} [DecidableEq β] (d : Nat → β) (m : Tab β) (k : Nat) (v : β) : Tab β :=
  if v = d k then tabErase m k else tabInsert (tabErase m k) k v

/-- The canonical form: keys strictly rising, no entry equal to the default of its key. -/
def tabWf {β : Type} [DecidableEq β] (d : Nat → β) : Tab β → Bool
  | [] => true
  | (k, v) :: t => decide (v ≠ d k) && (t.all fun p => decide (k < p.1)) && tabWf d t

end Sys2Proof.Machine
end

