-- ==== Sys2Proof/Machine/State.lean ====
section
/-!
DEFINITION. The state of the PX4880 as plain data, its outcomes, and the state at reset.

Every BAR0 register lives in one sparse file `regs`, keyed by BAR0 offset, whose unlisted words read their reset
value (`Reg.reset`). The other fields hold what the spec gives the machine beyond registers, grouped by unit.
-/
namespace Sys2Proof.Machine

/-- Why the block would stop. No command of the table stops it: errors of the module are events, refusals of the
register bus and completion codes, which are next states. -/
inductive Fault where
  /-- Raised by nobody: the spec names no condition that stops the block. Safe. -/
  | none
  deriving DecidableEq, Repr

/-- Why the block would refuse a command. -/
inductive Refusal where
  /-- Raised by the arm of a command that has no meaning yet. Safe: nothing can be proved of what it does. -/
  | notModelled (mnemonic : String)
  deriving DecidableEq, Repr

/-- What a domain's registers put into a PTP frame (R133, R135): port, transport (0 UDP/IPv4, 1 UDP/IPv6, 2 Ethernet layer 2),
profile (true SMPTE ST 2059-2), domainNumber, the VLAN of its tag, the log2 interval of the message, and in an Announce
PRIORITY1, PRIORITY2 and CLOCK_CLASS. -/
structure PtpFrame where
  port : Nat
  transport : Nat
  smpte : Bool
  domainNumber : Nat
  vlan : Option Nat
  interval : Int
  announce : Option (Nat × Nat × Nat)
  deriving DecidableEq, Repr

/-- The pins of an audio port over one frame (R483, R485), bit by bit of the bit clock. -/
structure AudioWire where
  /-- The level of the word clock or FSYNC in each bit; none where the clocks are inputs. -/
  wordClock : List Bool
  /-- Bits from the frame start to the first bit of slot 0. -/
  delay : Nat
  /-- The data line from the first bit of slot 0 on; `none` while it is released. -/
  data : List (Option Bool)
  /-- Data changes on the rising edge of the bit clock. -/
  rising : Bool
  /-- The device times at which the bits of a MASTER port begin; none for an external clock. -/
  times : List Int
  deriving DecidableEq, Repr

/-- A command that a PC has issued to its stack (R469): a write or a read of the 32 B at an offset / 32 within the PC. -/
structure MemCmd where
  write : Bool
  block : Nat
  deriving DecidableEq, Repr

/-- What leaves the block: the model's own record of its outputs (R42, R135, R160, R391, R589 to R594). -/
inductive Output where
  /-- Data of a BAR0 read returned to a requester. -/
  | readData (req : Requester) (value : Word)
  /-- Data of a BAR4 read, with the poison mark of the completion (R44). -/
  | bar4Data (bytes : List Byte) (poisoned : Bool)
  /-- An MSI-X message. -/
  | msix (vector : Nat)
  /-- A PTP message of a domain, with its origin time and what else the domain's registers put into its frame (R133, R135). -/
  | ptp (domain : Nat) (msg : PtpMsg) (time : Int) (frame : PtpFrame)
  /-- An ARP or neighbour-discovery answer of a port (R160). -/
  | arpReply (port : Nat) (v6 : Bool)
  /-- A membership report of a port for multicast entry m (R160). -/
  | membership (port : Nat) (m : Nat)
  /-- A level change on a trigger output (R592). -/
  | trigger (g : Nat) (level : Bool)
  /-- REF10M_OUT runs from a rising edge on, or is held low (R593). -/
  | refOut (edge : Option Nat)
  /-- A rising edge on PPS_OUT with its width in µs (R593). -/
  | pps (widthUs : Nat)
  /-- A line of text on the maintenance UART (R594): the number says which record or boot stage. -/
  | uart (stage : Option Nat) (seq : Nat)
  /-- A sideband frame sent on head h, from its preamble to its CRC (R391). -/
  | sideband (h : Nat) (frame : List Byte)
  /-- A line sent by head h: the line number, whether it is a REPEAT, POL, and its subpixel words (R349). -/
  | line (h line : Nat) (rep pol : Bool) (subpixels : List Nat)
  /-- The blocks that a lane sends from a head-wide block slot on (R367 to R373). -/
  | packet (h lane slot : Nat) (blocks : List Block)
  /-- What a lane sends from a block slot on in every slot that no packet takes (R366, R368, R370, R373, R377): a control block at a rate
  code, as `streamBlocks` serialises it from the scrambler's state in that slot, inverted or not; or nothing. -/
  | stream (h lane rate slot : Nat) (scr : Word) (inv : Bool) (block : Option Block)
  /-- A lane sends the bits of a PRBS from its start on, at a rate code, inverted or not: `prbsSent` gives them (R396). -/
  | prbs (h lane rate poly : Nat) (inv : Bool)
  /-- One bit of a lane's PRBS is flipped (R385, R397). -/
  | prbsFlip (h lane : Nat)
  /-- A frame of an audio port: one word per slot (R489), and its pins; an INPUT port that drives its clocks sends no words. -/
  | audio (p : Nat) (words : List Word) (wire : AudioWire)
  /-- The clocks of an audio port stop, with the word clock at its idle level (R497). -/
  | audioStop (p : Nat) (wordClock : Bool)
  /-- MCLK runs at a frequency from a first rising edge on, or stops: frequency 0 (R487). -/
  | mclk (hz : Nat) (edge : Nat)
  /-- Commands that a PC reissues to its stack, in order (R469). -/
  | reissue (pc : Nat) (cmds : List MemCmd)
  /-- A command over the isolated channel to the rail keeper or from it is internal; a panel rail switches on or off. -/
  | rail (r : Nat) (on : Bool)
  /-- A gate output of head h (GCKk, or GST as 16) goes to VGH or to VGL at a device time (R421). -/
  | gate (h output : Nat) (high : Bool) (time : Int)
  deriving DecidableEq, Repr

/-- A cause of a DEGRADED or IMPACT event that may last and that no other state shows to have been reported (R50): the PCIe link,
PPS, a network port, a panel thermistor, a head out of ACTIVE, or a spare of SPARE_LOW by kind and unit. -/
inductive Lasting where
  | pcie
  | pps
  | port (p : Nat)
  | thermistor (t : Nat)
  | head (h : Nat)
  | spare (kind unit : Nat)
  deriving DecidableEq, Repr

/-- Inputs, clocks and link of the module (R127, R426, R517, R579, R598). -/
structure PowerSt where
  /-- LVIN is applied (R598). -/
  lvin : Bool
  /-- The fast clocks run (R517, R559). -/
  fastClk : Bool
  /-- The PCIe link is up (R579). -/
  pcieUp : Bool
  /-- PERST_L is low (R579). -/
  perstLow : Bool
  /-- Applications of LVIN over the module's life (R555). -/
  powerOns : Nat
  /-- Causes that an event has reported since LVIN was applied, of those that may last (R50). -/
  told : List Lasting
  deriving DecidableEq, Repr

/-- What a PTP domain holds beyond its registers (R132, R136, R137, R145). -/
structure DomSt where
  /-- The first offset measured after LISTENING, while EPOCH_OFFSET is not yet set (R132). -/
  base : Option Int
  /-- Consecutive messages or edges within LOCK_THRESHOLD (R136). -/
  good : Nat
  /-- Consecutive messages within JUMP_THRESHOLD while SUSPECT (R137). -/
  calm : Nat
  /-- The path delay has been measured (R137). -/
  hasDelay : Bool
  /-- The frequency has been measured (R137). -/
  hasFreq : Bool
  /-- Device time at which the domain entered HOLDOVER or SUSPECT (R145). -/
  awaySince : Option Nat
  /-- The domain is not a target of an automatic switch (R145). -/
  barred : Bool
  /-- A grandmaster has been selected since the domain left DISABLED; GM_ID names it. -/
  hasGm : Bool
  /-- The domain has reached LOCKED since it left DISABLED (R135). -/
  reached : Bool
  deriving DecidableEq, Repr

/-- Device time and its servo (R127 to R145). -/
structure TimeSt where
  /-- Device time in ns: WRAP × 2^32 + NS32 (R127). -/
  ns : BitVec 64
  /-- The 28 fraction bits (R128). -/
  frac : BitVec 28
  /-- The correction still to slew, in 2^-28 ns (R140). -/
  slewRem : Int
  /-- The signed step per tick of the slew in progress, in 2^-28 ns (R139). -/
  slewStep : Int
  /-- Accepted backward jumps, in ns, that slew once the slew in progress has run to its end (R137, R141). -/
  slewQueue : List Int
  /-- The frequency correction in force, in ppb (R128). -/
  freqPpb : Int
  /-- The clock source is the 10 MHz input (R134). -/
  refExt : Bool
  /-- The input has been present and within range for 1 s (R134). -/
  refGood : Bool
  /-- The clock source has moved to the input since REF_SEL was written 1 (R134). -/
  refMoved : Bool
  /-- The servo has set EPOCH_OFFSET since LVIN was applied (R132). -/
  epochSet : Bool
  domA : DomSt
  domB : DomSt
  deriving DecidableEq, Repr

/-- A log record held by the lantern domain (R69, R74): KIND 0 EVENT, 1 TIME_MARK, 2 LOG_GAP. -/
structure LogRec where
  ev : Nat
  sev : Nat
  forced : Bool
  kind : Nat
  coal : Nat
  /-- Full device time of acceptance. -/
  time : Nat
  detail : List Word
  deriving DecidableEq, Repr

/-- The event router (R63 to R74). -/
structure RouterSt where
  /-- Accepted records not yet moved to the log ring, oldest first. -/
  lantern : List LogRec
  /-- Coalesced occurrences per event number (R64); an unlisted number has none. -/
  coalesced : Tab Nat
  /-- Device time of the last TIME_MARK written (R73). -/
  lastMark : Option Nat
  /-- A TIME_MARK is due before the next record (R73, R141). -/
  markDue : Bool
  /-- End of the hold-off per vector, in ns of device time; 0 when none runs (R68). -/
  vecUntil : Tab Nat
  /-- Vectors with triggers held back by a hold-off (R68). -/
  vecHeld : List Nat
  deriving DecidableEq, Repr

/-- The bus latches of 64-bit registers (R57): key 2 × address + requester. -/
structure BusSt where
  /-- High words latched by low-word reads; an unlisted latch reads 0. -/
  latch : Tab Word
  /-- Low words held for the next high-word write. -/
  held : Tab (Option Word)
  deriving DecidableEq, Repr

/-- An accepted job whose outcome is not yet decided (R95, R108). -/
structure Job where
  ring : Nat
  index : Word
  tag : Word
  entry : List Byte
  /-- Device time of acceptance. -/
  at_ : Nat
  deriving DecidableEq, Repr

/-- A decided outcome whose completion record is not yet written (R100, R101): the record's eight words without
PHASE. -/
structure Comp where
  /-- Completion ring that receives the record. -/
  compRing : Nat
  /-- Job ring, or none for a transaction. -/
  jobRing : Option Nat
  index : Word
  words : List Word
  deriving DecidableEq, Repr

/-- The ring engine (R86 to R112). -/
structure RingSt where
  /-- Rings whose BASE, CFG or OWNER was written since their last enable (R91). -/
  dirty : List Nat
  /-- Accepted jobs without outcome, oldest first. -/
  jobs : List Job
  /-- Decided records held until every earlier job of their ring is recorded (R101). -/
  held : List Comp
  /-- Releasable records not yet written, in the order in which they became releasable (R101). -/
  ready : List Comp
  /-- (ring, index) pairs marked by an ABORT entry before acceptance (R112). -/
  marks : List (Nat × Word)
  /-- Device time at which a ring's stall began; none when not stalled or already reported (R96). -/
  stallAt : Tab (Option Nat)
  deriving DecidableEq, Repr

/-- A transaction beyond its registers (R113 to R125). -/
structure Txn where
  /-- Staged (address, value) pairs, addresses rising. -/
  staged : List (Nat × Word)
  /-- First staging error: status code and offending register (R115). -/
  err : Option (Nat × Nat)
  /-- Registers committed by other transactions since this one's BEGIN (R116). -/
  foreign : List Nat
  /-- Command word of the COMMIT. -/
  cmd : Word
  /-- TXN_COMMIT_COUNT after the COMMIT, 0 before (R124). -/
  seq : Word
  /-- The first application point has passed (R122). -/
  begun : Bool
  /-- Order among armed transactions (R119). -/
  order : Nat
  /-- Affected heads that have not applied their writes yet. -/
  headsLeft : List Nat
  /-- JOB0 to JOB3 of the record: first field showing the writes, per head (R124). -/
  fields : List Word
  /-- The scheduled action ran late (R121). -/
  late : Bool
  deriving DecidableEq, Repr

/-- A transaction with nothing staged. -/
def Txn.free : Txn := ⟨[], none, [], 0, 0, false, 0, [], [], false⟩

/-- The transaction unit (R113, R114). -/
structure TxnSt where
  t0 : Txn
  t1 : Txn
  t2 : Txn
  t3 : Txn
  /-- TXN_LAST per requester (R114). -/
  lastHost : Word
  lastMgmt : Word
  /-- Commits so far, to order armed transactions. -/
  clock : Nat
  deriving DecidableEq, Repr

/-- A scheduler log record not yet written (R157): its words without PHASE and SEQ. -/
structure SchedRec where
  slot : Nat
  status : Nat
  whenNs : Nat
  target : Nat
  payload : Word
  ctrl : Word
  deriving DecidableEq, Repr

/-- The scheduler (R147 to R157) and the trigger outputs (R592). -/
structure SchedSt where
  /-- Records waiting for the SCHED_LOG ring, at most 256. -/
  buf : List SchedRec
  seq : Word
  /-- SCHED_LAST per requester (R147). -/
  lastHost : Word
  lastMgmt : Word
  /-- End of the pulse running on a trigger output, in ns; none when none runs. -/
  pulse : Tab (Option Nat)
  /-- Consecutive disagreeing read-backs per trigger output. -/
  bad : Tab Nat
  /-- ARMED slots whose target had passed when they armed (R151). -/
  late : List Nat
  deriving DecidableEq, Repr

/-- A maintenance-log record (R555): KIND 0 EVENT, 1 LIFETIME, 2 FIRMWARE. -/
structure MaintRec where
  ev : Nat
  sev : Nat
  kind : Nat
  coal : Nat
  time : Nat
  tai : Int
  powerOns : Nat
  detail : List Word
  fw : Word
  deriving DecidableEq, Repr

/-- A firmware image as held in a flash slot (R549). -/
structure FwImage where
  version : Word
  security : Word
  bodyLen : Nat
  handover : Nat
  /-- MAGIC, BODY_LEN, reserved fields and SECURITY_VERSION pass check 1 of R560. -/
  formatOk : Bool
  /-- The signature verifies (R549). -/
  sigOk : Bool
  deriving DecidableEq, Repr

/-- Firmware, maintenance log and profile store of the management core (R548 to R575). -/
structure MaintSt where
  /-- Records accepted and not yet written to flash, oldest first. -/
  wait : List MaintRec
  /-- Records held in flash, oldest first, with their SEQ. -/
  log : List (Nat × MaintRec)
  /-- SEQ of the last record ever written (R555). -/
  logSeq : Nat
  /-- Records written per source in the current hour (R555). -/
  hour : Nat
  hourCount : Tab Nat
  /-- Occurrences of a source counted since its last record (R555). -/
  coalesced : Tab Nat
  slotA : Option FwImage
  slotB : Option FwImage
  /-- The slot marked confirmed, false A, true B (R549). -/
  confirmed : Bool
  /-- The running slot, once an image runs. -/
  running : Option Bool
  /-- The image a staging in progress read (R550). -/
  staging : Option (Nat × Option FwImage)
  /-- A pending swap: head, device time of the command, FW_SWAP_DEFERRED raised (R551). -/
  swap : Option (Nat × Nat × Bool)
  /-- The swap has applied at a field start and the new image has not taken over yet: head (R552). -/
  takeover : Option Nat
  /-- The head of the last swap, whose FIELD a revert records (R556). -/
  swapHead : Nat
  /-- Device time of the last takeover (R554). -/
  takeoverAt : Option Nat
  /-- Flash profile copies and the current one (R562). -/
  profileA : List Byte
  profileB : List Byte
  profileCur : Bool
  /-- A profile installation in progress: the bytes that passed the checks (R565). -/
  install : Option (List Byte)
  /-- Standby buffers not yet released: (head, layer) (R571). -/
  standby : List (Nat × Nat)
  /-- Power-on hours recorded since LVIN was applied (R555). -/
  hours : Nat
  /-- Lifetime hours at level 7 or above (R555). -/
  hotHours : Nat
  /-- Heads whose standby configuration waits for the keeper to reach ON (R569), and the optic batch of R570. -/
  present : List Nat
  presentOptic : Bool
  /-- R567 has decided for this application of LVIN. -/
  decided : Bool
  /-- Heads whose pages are released at their next latch point (R571). -/
  handover : List Nat
  deriving DecidableEq, Repr

/-- A request that waits in the memory controller (R462). -/
structure MemWait where
  seq : Nat
  pc : Nat
  req : MemReq
  /-- Device time of arrival. -/
  at_ : Nat
  aged : Bool
  deriving DecidableEq, Repr

/-- A migration due or running (R471): the physical PC (64: none, a lost channel's rows), the logical channel, the reason
code, whether the PC is retired afterwards, and the target PC (64: the borrowed rows). -/
structure Mig where
  src : Nat
  chan : Nat
  reason : Nat
  retire : Bool
  tgt : Nat
  /-- USABLE_TOP has been lowered and M counts the channel (R474). -/
  shrunk : Bool
  /-- Granule rows copied, and the device time up to which they are known (R471, R481). -/
  copied : Nat
  seen : Nat
  deriving DecidableEq, Repr

/-- The memories (R458 to R477) beyond the MEM registers. -/
structure MemSt where
  /-- HBM bytes by address; an unlisted byte reads 0x00. DESIGN CHOICE: contents at power-on are undefined (R473). -/
  hbm : Tab Byte
  /-- Host-memory bytes by PCIe bus address; an unlisted byte reads 0x00. DESIGN CHOICE. -/
  host : Tab Byte
  /-- Check state of a 32 B block, by address / 32: 0 good, 1 one symbol corrupt, 2 two symbols corrupt, 3 poison
  code word (R470). An unlisted block of a channel of `dead` is 3, any other 0. -/
  ecc : Tab Nat
  /-- Check state of a 32 B block of a spare, by PC × 2^25 + its offset / 32 (R470); an unlisted one is 0. -/
  spareEcc : Tab Nat
  /-- M, the lost logical channels (R458), of which SPARE_STATUS shows four bits. -/
  lost : Nat
  /-- Logical channels whose data was lost, every block of them poisoned (R475). -/
  dead : List Nat
  /-- Waiting requests, oldest first, and the number of the next one. -/
  queue : List MemWait
  nextSeq : Nat
  /-- The request served last: its number, whether its data was poisoned, and its data (R461). -/
  served : Option (Nat × Bool × List Byte)
  /-- Activation table per physical PC × 32 + bank: (row, count) per entry in order (R468). -/
  acts : Tab (List (Nat × Nat))
  /-- The last 32 commands that each PC issued, oldest first (R469). -/
  kept : Tab (List MemCmd)
  /-- The open row per physical PC × 32 + bank. -/
  openRow : Tab (Option Nat)
  /-- Bytes moved per device time over the last 1 ms, newest first (R464). -/
  traffic : List (Nat × Nat)
  /-- Waits over the last 1 s: device time, class, wait in ns (R478). -/
  waits : List (Nat × Nat × Nat)
  /-- Device time since which requests are held, and of the last CEILING_EXCEEDED (R464). -/
  heldSince : Option Nat
  ceilTold : Option Nat
  /-- Start of the field in which SC0_AGED was last raised, per head (R463). -/
  sc0Told : Tab (Option Int)
  /-- Device time since which no request is pending; the memory is on its way out of sleep (R465, R466). -/
  idleSince : Nat
  exiting : Bool
  /-- The migration that runs, those due, and one whose shrink waits for SHRINK_ACK (R471, R474). -/
  mig : Option Mig
  due : List Mig
  shrink : Option Mig
  /-- Reason code of a PC in offline training, plus 16 when it is to be retired (R472). -/
  fate : Tab Nat
  /-- PCs at the reduced rate (R469). -/
  safe : List Nat
  /-- Device time of the last training per PC, and of its corrected errors within the last hour (R471). -/
  trainedAt : Tab Nat
  ceTimes : Tab (List Nat)
  /-- PCs retired in flash (R472). -/
  retired : List Nat
  /-- 32 B blocks read in the scrub pass in progress. -/
  scrubbed : Nat
  deriving DecidableEq, Repr

/-- The memories of a module that has never trained. -/
def MemSt.fresh : MemSt :=
  ⟨[], [], [], [], 0, [], [], 0, none, [], [], [], [], [], none, none, [], 0, false, none, [], none, [], [], [], [], [], 0⟩

/-- A Shuoc frame header (R196). -/
structure FrameHdr where
  key : Bool
  dir : Bool
  bd : Nat
  c : Nat
  width : Nat
  height : Nat
  npic : Nat
  twl : Nat
  thl : Nat
  near : List Nat
  tables : List (List Nat)
  tileCount : Nat
  tileBytes : Nat
  deriving DecidableEq, Repr

/-- Where bytes lie in HBM: (address, length) pieces in order. -/
abbrev Pieces := List (Nat × Nat)

/-- A coded tile of a scene frame in assembly or in decode (R182, R183, R221). -/
inductive TileSt where
  /-- Nothing of the tile has arrived. -/
  | missing
  /-- Some of its `count` fragments have arrived. -/
  | frag (count : Nat) (parts : List (Nat × Pieces))
  /-- Complete and not yet on a lane. -/
  | held (data : Pieces)
  /-- On a decode lane. -/
  | lane (data : Pieces)
  /-- Decoded or concealed. -/
  | done
  /-- Ended in a stream error; concealed when the frame closes. -/
  | bad
  deriving DecidableEq, Repr

/-- An assembly context (R181 to R183): a scene frame from its first packet until READY or refusal. -/
structure Asm where
  num : Word
  /-- P and D in device time. -/
  p : Int
  d : Int
  sec : Nat
  ns : Nat
  buf : Nat
  desc : Option (List Byte)
  hdr : Option FrameHdr
  tiles : Tab TileSt
  concealed : Nat
  /-- D has passed and the frame was not refused (R183). -/
  closed : Bool
  /-- SCENE_STREAM_ERROR has been raised for it (R223). -/
  erred : Bool
  /-- FRAME_CONCEALED has been raised for it (R183). -/
  noted : Bool
  /-- A latch that would have selected it has passed (R226). -/
  late : Bool
  /-- Pool slots its packets hold. -/
  slots : List Nat
  deriving DecidableEq, Repr

/-- A READY frame and the contents of its frame header block (R180). -/
structure RFrame where
  store : Nat
  num : Word
  p : Int
  buf : Nat
  desc : List Byte
  hdr : Option FrameHdr
  concealed : Nat
  deriving DecidableEq, Repr

/-- The outcome of a scene frame (R229), kept to tell its later packets (R183, R185). -/
structure Past where
  num : Word
  sec : Nat
  ns : Nat
  /-- 0 READY, 1 REFUSED. -/
  outcome : Nat
  detail : Nat
  readyAt : Word
  deriving DecidableEq, Repr

/-- A store (R176 to R188) beyond its registers. -/
structure StoreSt where
  asm : List Asm
  /-- READY frames not passed over by a newer selection or a reuse of their buffer (R187), oldest first. -/
  ready : List RFrame
  /-- The reference frame (R184). -/
  ref : Option RFrame
  /-- Current frame per head (R186). -/
  cur : Tab (Option RFrame)
  /-- Frame fetched by the field in progress per head (R184). -/
  shown : Tab (Option RFrame)
  /-- P of the latest frame accepted (R181). -/
  lastP : Option Int
  past : List Past
  deriving DecidableEq, Repr

/-- A flow's duplicate window and path monitor (R172, R173). -/
structure FlowSt where
  empty : Bool
  high : Word
  /-- SEQ modulo 16,384 of the numbers held in the window. -/
  bits : List Nat
  /-- FLOW_STALE has been raised since activation (R169). -/
  staleSeen : Bool
  /-- Device time of activation and of the last packet per port. -/
  act : Nat
  last0 : Option Nat
  last1 : Option Nat
  deriving DecidableEq, Repr

/-- A SCENE_RX entry on its ring: ring, index, pool slots, port (2 for the host path), and the length of the UDP payload
(R165). -/
structure RxEntry where
  ring : Nat
  index : Word
  slots : List Nat
  port : Nat
  len : Nat
  deriving DecidableEq, Repr

/-- NET, INGEST and the decode cluster (R159 to R230) beyond their registers. -/
structure IngestSt where
  /-- Pool slots in use. -/
  slots : List Nat
  rx : List RxEntry
  flows : Tab FlowSt
  stores : Tab StoreSt
  /-- Tiles on lanes: lane, store, FRAME, tile index (R221). -/
  lanes : List (Nat × Nat × Word × Nat)
  /-- Tiles decoded in the last second: device time and samples (R225). -/
  loads : List (Nat × Nat)
  /-- LOAD has exceeded 850 and not fallen below 800 since (R225). -/
  loadHigh : Bool
  deriving DecidableEq, Repr

/-- Progress of a job after each whole frame: next source offset or sequence length, bytes written, CRC so far, samples
processed, tiles fixed (R245, R251), and the tiles fixed in the frame itself as VERIFY_MISMATCH names them (R246). -/
structure JobMark where
  off : Nat
  out : Nat
  crc : Word
  samples : Nat
  fixed : Nat
  notes : List Nat
  deriving DecidableEq, Repr

/-- A running job of a job engine (R231 to R251) and what it produces frame by frame. -/
structure JobRun where
  job : Job
  /-- Index of the first frame of this job. -/
  first : Nat
  /-- The check byte of its continuation token (R245). -/
  check : Nat
  /-- Progress before the first frame and after each whole frame. -/
  marks : List JobMark
  /-- Status and stream error code that the job reaches when nothing stops it earlier. -/
  status : Nat
  code : Nat
  /-- Tiles found wrong in the frame at which the job stops, as VERIFY_MISMATCH names them, each with whether its RAW tile failed
  too (R246, R247). -/
  tail : List (Nat × Bool)
  /-- Frame and tile of the stream error (R239). -/
  err : Nat × Nat
  deriving DecidableEq, Repr

/-- A job engine beyond its registers. -/
structure EngineSt where
  run : Option JobRun
  /-- Ring served last, for round robin (R231). -/
  last : Nat
  deriving DecidableEq, Repr

/-- A layer of a field is eclipsed from a line on, with a cause of R319. -/
structure Eclipse where
  layer : Nat
  line : Nat
  cause : Nat
  deriving DecidableEq, Repr

/-- A buffer descriptor as read for a field (R303). -/
structure LayerBuf where
  addr : Nat
  pitch : Nat
  width : Nat
  height : Nat
  format : Nat
  kind : Nat
  bytes : Nat
  deriving DecidableEq, Repr

/-- A field of a head, from its latch on (R285, R346). -/
structure FieldSt where
  /-- Registers in effect for the field. -/
  cfg : Tab Word
  num : Word
  /-- A produced field carries composed data (R336). -/
  produced : Bool
  /-- KIND and number of the scene store, and its current frame (R271, R272). -/
  kind : Nat
  store : Nat
  scene : Option RFrame
  /-- Every ray is (0, 0) (R273, R295). -/
  noScene : Bool
  /-- The store layers, each with its current frame. -/
  flats : List (Nat × Option RFrame)
  /-- Bank of the ray map: 0, 1 or 3 (R267). -/
  bank : Nat
  /-- Blocks that use the CLEAR variant (R260). -/
  clear : List Nat
  /-- Blocks fetched, and those whose fetch failed (R269). -/
  fetched : List Nat
  bad : List Nat
  ecl : List Eclipse
  /-- Descriptors read, by layer. -/
  descs : Tab (Option LayerBuf)
  /-- The next active line whose ray deadline is due. -/
  next : Nat
  /-- Smallest margin and its line (R289). -/
  margin : Nat
  marginLine : Nat
  /-- Base polarity, and whether it is a hold (R357). -/
  pol : Bool
  held : Bool
  /-- Cache lines whose fill failed in the field (R295), and whether that was reported. -/
  failed : List Nat
  fetchSeen : Bool
  /-- Buffer of writeback, when the field is captured (R328). -/
  wb : Option Nat
  /-- LINE_REPEATED has been raised for the field (R350). -/
  repSeen : Bool
  /-- Largest number of rays in flight in the field (R294). -/
  peak : Nat
  /-- Smallest tolerance reported in the field (R351). -/
  tol : Nat
  /-- PLANES_TRUNCATED has been counted for the frame (R281). -/
  trunc : Bool
  /-- Device time from which the field is fetched: two lines after its latch (R285). -/
  fetchAt : Int
  /-- The frame header block has been read (R285, R295). -/
  hdrRead : Bool
  /-- Guard words found as expected: (layer, band) (R317). -/
  guards : List (Nat × Nat)
  /-- Layers that an ABORT took out of the field (R322). -/
  dropped : List Nat
  /-- The first line whose rays an ABORT of the RGU makes (0, 0) (R297). -/
  cut : Option Nat
  /-- The cache lines that the rays of the line in production looked up, each with the 1 KiB found in it (R291). -/
  lines : Tab (List Byte)
  deriving DecidableEq, Repr

/-- A line in the band buffer or sent: field, number, REPEAT, POL, subpixel words (R349). -/
structure BandLine where
  field : Word
  line : Nat
  rep : Bool
  pol : Bool
  words : List Nat
  deriving DecidableEq, Repr

/-- A replaced layer buffer that is not yet released (R323). -/
structure Release where
  layer : Nat
  descLo : Word
  descHi : Word
  guard_ : Word
  field : Word
  deriving DecidableEq, Repr

/-- A line captured for writeback (R324): its number, its samples as stored, the layers eclipsed on it, and NS32 when
it was produced. -/
structure WbLine where
  line : Nat
  samples : List Nat
  mask : Nat
  stamp : Word
  deriving DecidableEq, Repr

/-- A field being written to its buffer (R325 to R330). -/
structure WbField where
  num : Word
  buf : Nat
  /-- Registers in effect for the field. -/
  cfg : Tab Word
  /-- Lines captured and not yet written. -/
  lines : List WbLine
  /-- The next region to be written. -/
  region : Nat
  /-- Coded tiles so far. -/
  tiles : List (List Byte)
  /-- Tiles fixed by verification (R327). -/
  fixed : Nat
  /-- Status that every further region carries: 0 while none does. -/
  status : Nat
  /-- NS32 at the field start. -/
  stamp : Word
  /-- Current frame of the head. -/
  frame : Word
  /-- CRC-32C so far over the bytes of all lines (R326). -/
  crc : Word
  /-- Layers eclipsed in the field. -/
  mask : Nat
  /-- Bytes written. -/
  bytes : Nat
  deriving DecidableEq, Repr

/-- Writeback of a head (R324 to R330). -/
structure WbSt where
  capturing : Bool
  /-- EN was 1 at the last latch (R329). -/
  seen : Bool
  /-- Capture waits for a TEST_START (R329). -/
  armed : Bool
  /-- Fields still to cover; none without a limit. -/
  left : Option Nat
  /-- The buffer used last. -/
  prev : Option Nat
  /-- Skips since the last FIELD_END. -/
  skips : Nat
  /-- SEQ of the next record. -/
  seq : Word
  /-- Where the FIELD_END record of each buffer went: ring, its epoch, and PROD after the record. -/
  used : Tab (Option (Nat × Nat × Word))
  /-- Fields in capture or waiting for their records, oldest first. -/
  fields : List WbField
  deriving DecidableEq, Repr

/-- A head (R334 to R361) beyond its registers. -/
structure HeadSt where
  /-- The generator runs: the first latch has occurred. -/
  run : Bool
  /-- The schedule in force (R339): anchor, NUM, DEN, and the index of the field being sent. -/
  anchor : Int
  num : Nat
  den : Nat
  idx : Nat
  /-- Phase error as it was at device time `eAt` (R343). -/
  e : Int
  eAt : Nat
  /-- The schedule that takes effect at the next field start (R345): anchor, NUM, DEN, index, E, and the cause of
PHASE_PULLING (R343). -/
  switch : Option (Int × Nat × Nat × Nat × Int × Nat)
  /-- The latch for the next field has occurred. -/
  latched : Bool
  /-- Last line started in the field being sent. -/
  line : Option Nat
  /-- Device time of its field start. -/
  started : Int
  /-- A field start has passed since the generator began to run. -/
  sending : Bool
  /-- STOPPING under ABORT (R338). -/
  abort : Bool
  /-- No field has been produced since the head left DISABLED (R357). -/
  firstPol : Bool
  cur : FieldSt
  nxt : FieldSt
  band : List BandLine
  /-- The lines sent last, newest first (R359). -/
  sent : List BandLine
  releases : List Release
  /-- A TEST_START restarts patterns at the next latch (R315). -/
  restart : Bool
  /-- A TEST_START triggers capture at the next latch (R329). -/
  trigger : Bool
  /-- Generation of the ray cache (R292). -/
  gen : Nat
  /-- Per cache entry: its line's generation in full, and the number of the field whose rays asked for it (R292, R295). -/
  fills : Tab (Nat × Word)
  /-- Per valid cache entry: the 1 KiB that its fill brought (R291). -/
  data : Tab (List Byte)
  /-- The last field, no longer in production, for which SCENE_FETCH_ERROR has been raised (R295). -/
  fetchTold : Option Word
  /-- The field that the last latch before a stop fixed (R315, R323). -/
  last : Option FieldSt
  /-- A write to the head's timing has taken effect since the last latch (R344). -/
  timingDue : Bool
  /-- The lock group whose schedule the generator runs (R341). -/
  group : Nat
  wb : WbSt
  /-- Consecutive mismatches per lane (R360). -/
  mirror : Tab Nat
  /-- RECEIVE: device time of the last field start, and lines received in the field (R361). -/
  rxLast : Nat
  rxLines : Nat
  deriving DecidableEq, Repr

/-- A line packet of which a receiving lane has seen the LINE_START (R373): line, GROUP, POL, DATA_BLOCKS, and its payload bytes
so far. -/
structure RxOpen where
  line : Nat
  group : Nat
  pol : Bool
  blocks : Nat
  data : List Byte
  deriving DecidableEq, Repr

/-- What a port counts between two STATUS replies (R392): lock lost, and the invalid packets, control blocks and headers. -/
structure PortCount where
  lost : Bool
  crc : Nat
  ctl : Nat
  hdr : Nat
  deriving DecidableEq, Repr

/-- A PRBS checker (R396): its register, the bits loaded into it, the correct predictions before SYNC, and which of the last 1,024
predictions in sync were wrong, newest first. -/
structure PrbsChk where
  reg : Nat
  loaded : Nat
  good : Nat
  win : List Bool
  deriving DecidableEq, Repr

/-- A lane beyond its registers (R376 to R383, R396). -/
structure LaneSt where
  /-- Device time at which the state was entered. -/
  at_ : Nat
  /-- The round in progress started in DARK (R378). -/
  dark : Bool
  /-- The ports present in the round (R377): port A, port B. -/
  presA : Bool
  presB : Bool
  /-- Device time of the first lock report in TRAIN_A. -/
  firstLock : Option Nat
  /-- The wait for the other port has ended (R377). -/
  waitEnd : Bool
  /-- The module's own receiver holds block lock (R369). -/
  lock : Bool
  /-- EQUALIZE: preset being tried, its settle time has passed, and the best (FOM, preset) so far (R381). -/
  trying : Nat
  settled : Bool
  best : Option (Nat × Nat)
  /-- Resuming from standby since this device time (R383). -/
  resume : Option Nat
  /-- RX: what the lane counts as port A of its own group and as port B of the group before, each since the last STATUS of that group
  (R394). -/
  a : PortCount
  b : PortCount
  /-- RX: consecutive valid headers while hunting, and which of the last 256 headers were invalid, newest first (R369). -/
  good : Nat
  win : List Bool
  /-- RX: the descrambler, once synchronised by a SKEW_MARK (R368, R369). -/
  scr : Option Word
  /-- RX: the signal arrives inverted, and the lane id seen (R380, R392). -/
  inv : Bool
  seen : Option Nat
  /-- RX: MARK_COUNT of the last SKEW_MARK and the UI at which it began (R370). -/
  mark : Option (Nat × Nat)
  /-- RX: the line packet in progress. -/
  pkt : Option RxOpen
  /-- The block slot in which TRAIN_B last set the transmitter's scrambler (R368). -/
  seed : Nat
  /-- The PRBS checker. -/
  chk : PrbsChk
  deriving DecidableEq, Repr

/-- A sideband request of the module that waits for its reply (R392). -/
structure SbReq where
  dst : Byte
  typ : Byte
  payload : List Byte
  /-- The SEND job, for a host request (R393). -/
  job : Option Job
  /-- It has been repeated once. -/
  again : Bool
  /-- Device time at which it was sent. -/
  at_ : Nat
  deriving DecidableEq, Repr

/-- A head's link and sideband beyond their registers (R366 to R397). -/
structure LinkSt where
  lanes : Tab LaneSt
  /-- The last STATUS payload of each group since its lanes last changed stage. -/
  status : Tab (List Byte)
  /-- Groups whose CAPS record was read in the current round. -/
  capsRead : List Nat
  /-- Failures decided and not yet handled: lane, reason, device time of the decision (R388). -/
  fails : List (Nat × Nat × Nat)
  /-- A lane became ACTIVE while a group was lost: a restoration is due at the next line start (R389). -/
  restore : List Nat
  /-- Device time since which the gap has not been healthy while the head is ACTIVE (R390). -/
  gapBad : Option Nat
  /-- SPARE_UNAVAILABLE has been raised for that. -/
  gapTold : Bool
  req : Option SbReq
  /-- Consecutive missed polls per group. -/
  misses : Tab Nat
  /-- RECEIVE: groups seen on the current line, the line, and the first line with an error in the field (R395). -/
  rxLine : Option Nat
  rxGroups : List Nat
  rxErr : Option Nat
  rxBlank : Nat
  /-- RECEIVE: RX_TIMING_MISMATCH has been raised in the field (R361). -/
  rxTold : Bool
  /-- RECEIVE: the 12-bit-or-fewer values last shown per group, and those of the current line (R395). -/
  rxVals : Tab (List Nat)
  /-- RECEIVE: the polarity with which each group's line was last driven, and the base polarity that the last LINE_START showed
  (R356, R375). -/
  rxPol : Tab Bool
  rxBase : Bool
  /-- RECEIVE: groups of whose packet on the current line a LINE_START has arrived (R375). -/
  rxStarts : List Nat
  /-- RECEIVE: the line after the last one received, and V_ACTIVE of the last FRAME_START (R371, R395). -/
  rxNext : Nat
  rxActive : Nat
  /-- Device time at which block slot 0 began (R370). -/
  slot0 : Int
  /-- The orientation that ended with standby, REVERSED being true (R379, R383). -/
  kept : Option Bool
  deriving DecidableEq, Repr

/-- The rail keeper beyond the RAIL registers, which hold its journal as well (R402 to R427). -/
structure KeeperSt where
  /-- The rail section and the waveform section of the journal (R563, R436); empty before a profile is installed. -/
  record : List Byte
  wave : List Byte
  /-- The last step reached of the sequence in progress, or of the up sequence while ON (R412). -/
  last : Nat
  /-- Cause of the down sequence in progress, as PANEL_OFF reports it; none where R431 lists none. -/
  cause : Option Nat
  /-- The up sequence turns down once the step in progress ends: its cause (R407). -/
  turn : Option Nat
  /-- An HVIN loss, and a keeper start, that the logic side has not reported yet (R431). -/
  lossDue : Bool
  restoreDue : Bool
  /-- The pre-check and up sequence of R427 run once the channel is up. -/
  autoOn : Bool
  /-- KEEPER_LINK_LOST has been raised and KEEPER_LINK_RESTORED has not (R408, R431). -/
  linkGone : Bool
  /-- Heads whose gate clocks start at their next field start (R412), and heads whose gate clocks run. -/
  gatesDue : List Nat
  gateRun : List Nat
  /-- Outputs held at VGL for a fault, by head: bit k is GCKk, bit 16 is GST (R423). -/
  gateHeld : Tab Nat
  /-- Level of the gate outputs, by head: bit k is set while GCKk is at VGH, bit 16 for GST (R421). -/
  gateLevel : Tab Nat
  /-- Gate outputs that will fall, by head: the output and the lines to its falling edge (R421). -/
  gateFalls : Tab (List (Nat × Nat))
  /-- FAULT_CLEAR bit 31 acts at the next field start of these heads (R423). -/
  gateClear : List Nat
  /-- Consecutive readings above and below threshold per crack loop (R424). -/
  crackRun : Tab Nat
  crackOk : Tab Nat
  /-- The total power limit is in force (R419). -/
  limiting : Bool
  /-- Current limits of VSP and VSN in mA while it is (R419). -/
  capVsp : Nat
  capVsn : Nat
  /-- PVL_OVERLOAD has been raised since PVL_POWER last stayed low (R420). -/
  pvlTold : Bool
  /-- The panel's start is that of a wake, which lasts until the first produced field after GATES (R523, R524). -/
  waking : Bool
  deriving DecidableEq, Repr

/-- A row of the optic layer as the keeper holds it (R438 to R455). Bitmaps are numbers: bit c is column c. -/
structure OptRow where
  /-- Driven states, 1 CLEAR; presented from SETTLE_END on. -/
  driven : Nat
  /-- Presented states before SETTLE_END. -/
  prior : Nat
  /-- SETTLE_END. -/
  settle : Nat
  /-- ID of the batch that last addressed the row. -/
  batch : Nat
  /-- Addressed in the running batch. -/
  addressed : Bool
  /-- Cells requested and left out for want of a token (R441). -/
  pending : Nat
  uncertain : Bool
  /-- Journalled transitions of an UNCERTAIN row and their target states. -/
  moved : Nat
  target : Nat
  /-- Cells queued for re-drive (R445, R447); 0 when the row is not queued. -/
  redrive : Nat
  deriving DecidableEq, Repr

/-- A row update of a batch (R447): row, cells to CLEAR, cells to LENS, and the cells whose token was taken (R441). -/
structure RowJob where
  row : Nat
  toClear : Nat
  toLens : Nat
  paid : Nat
  deriving DecidableEq, Repr

/-- A RUNNING batch (R446 to R453). -/
structure Batch where
  id : Nat
  band : Nat
  /-- Rows still to address; the first is in progress. -/
  rows : List RowJob
  /-- Row phase in progress; compensation phases follow those of the band. -/
  phase : Nat
  /-- Compensation phases of the row and their row level code, once decided (R439). -/
  comp : Nat × Nat
  /-- Presented states of the row when its update began. -/
  prior : Nat
  /-- Rows addressed so far. -/
  count : Nat
  /-- TEMP_EXCURSION and LEDGER_HIGH have been raised, and a row has been queued for re-drive, in the batch. -/
  hot : Bool
  high : Bool
  queued : Bool
  /-- The row in progress is queued for re-drive (R445). -/
  rowHot : Bool
  /-- Ends after the row in progress (R451). -/
  stop : Bool
  deriving DecidableEq, Repr

/-- A record of the keeper's journal (R455). Bitmaps are numbers: bit c is column c. -/
inductive JournalRec where
  | batchBegin (id band time rows : Nat)
  | rowBegin (row target prior toClear toLens : Nat)
  | rowDone (row settle : Nat) (ledger : List Int)
  | terminated (row cause : Nat)
  | batchEnd (id outcome : Nat)
  deriving DecidableEq, Repr

/-- The optic layer (R432 to R457) beyond its registers. Cells are numbered row × 320 + column. -/
structure OptSt where
  rows : Tab OptRow
  /-- DC ledger per cell (R438). -/
  ledger : Tab Int
  /-- Units missing from each cell's bucket, and SWITCHES (R440). -/
  spent : Tab Nat
  switches : Tab Nat
  /-- Wear events raised per cell: 1 WEAR_WARN, 2 both (R442). -/
  worn : Tab Nat
  /-- The STAGED batch and its change set. -/
  staged : Option (Nat × List RowJob)
  marked : Bool
  run : Option Batch
  /-- Rows whose record waits for the channel to be written to the presented map (R450). -/
  unwritten : List Nat
  /-- No temperature band is available (R443). -/
  noBand : Bool
  /-- The logic side has disabled OPT while the channel was down, and the keeper does not know of it: whether under ABORT (R17, R451). -/
  offDue : Option Bool
  /-- Records of the batch begun last, oldest first (R455). -/
  journal : List JournalRec
  deriving DecidableEq, Repr

/-- An accepted AUDIO_OUT entry (R490, R491). -/
structure PlayBuf where
  job : Job
  host : Bool
  addr : Nat
  /-- Device time of the entry's acceptance (R491). -/
  at_ : Nat
  /-- Frame index of the next frame of the buffer, and the frames left. -/
  frame : Nat
  left : Nat
  /-- Frames sent and discarded, and the first frame sent. -/
  sent : Nat
  gone : Nat
  first : Option Nat
  deriving DecidableEq, Repr

/-- A serial audio port (R483 to R500) beyond its registers. -/
structure PortSt where
  /-- Index of the next frame to start. -/
  next : Nat
  /-- Phase error as it was at device time `eAt` (R485). -/
  e : Int
  eAt : Nat
  /-- Device time of the last frame start. -/
  at_ : Nat
  /-- Start group of the current start, 0xFF for none; the START record is still to be written. -/
  group : Nat
  greet : Bool
  /-- The port has stopped since ENABLE went to 0 (R497). -/
  halted : Bool
  /-- A mask written and not latched yet, with the device time of the write (R494). -/
  pend : Option (Nat × Nat)
  /-- Masks latched since the start, newest first: (first frame, mask). -/
  masks : List (Nat × Nat)
  queue : List PlayBuf
  /-- The frame after the last frame of the entry accepted last (R490). -/
  tail : Nat
  /-- First frame edge of an external clock since the start or the clock's return: its frame and stamp (R485). -/
  ref : Option (Nat × Nat)
  /-- Zero frames sent in the underrun in progress, and frames discarded since the last RESUME record (R493, R498). -/
  zeros : Nat
  dropped : Nat
  /-- Pins that disagreed in the previous frame (R500). -/
  badPins : List Nat
  /-- Capture: the buffer in rotation; its first frame, that frame's start, frames held and words held while it is open. -/
  buf : Nat
  open_ : Option (Nat × Int × Nat × Nat)
  /-- A closed buffer whose DATA record waits for room among the records: first frame, its start, mask, frames, buffer (R493). -/
  shut : Option (Nat × Int × Nat × Nat × Nat)
  /-- Closed buffers: PROD after the DATA record once it is written (R492). -/
  used : Tab (Option (Option Word))
  /-- Frames lost in the overrun in progress (R492). -/
  lost : Nat
  /-- Records waiting for IN_RING (R493): their words without PHASE, and the buffer of a DATA record. -/
  recs : List (List Word × Option Nat)
  seq : Word
  deriving DecidableEq, Repr

/-- A store with nothing in it. -/
def StoreSt.fresh : StoreSt := ⟨[], [], none, [], [], none, []⟩

/-- A flow that is not active. -/
def FlowSt.fresh : FlowSt := ⟨true, 0, [], false, 0, none, none⟩

/-- A field of which nothing is known yet. -/
def FieldSt.none_ : FieldSt :=
  ⟨[], 0, false, 0, 0, none, true, [], 3, [], [], [], [], [], 0, 0xFFFFFFFF, 0, false, false, [], false, none, false, 0,
    0xFFFFFFFF, false, 0, false, [], [], none, []⟩

/-- Writeback that captures nothing. -/
def WbSt.idle : WbSt := ⟨false, false, false, none, none, 0, 0, [], []⟩

/-- A head after LVIN is applied. -/
def HeadSt.fresh : HeadSt :=
  ⟨false, 0, 60, 1, 0, 0, 0, none, false, none, 0, false, false, true, FieldSt.none_, FieldSt.none_, [], [], [], false, false, 0,
    [], [], none, none, false, 0, WbSt.idle, [], 0, 0⟩

/-- Nothing counted. -/
def PortCount.zero : PortCount := ⟨false, 0, 0, 0⟩

/-- A checker that has seen no bit. -/
def PrbsChk.idle : PrbsChk := ⟨0, 0, 0, []⟩

/-- A lane that is OFF. -/
def LaneSt.fresh : LaneSt :=
  ⟨0, false, false, false, none, false, false, 0, false, none, none, PortCount.zero, PortCount.zero, 0, [], none, false, none, none, none,
    0, PrbsChk.idle⟩

/-- A link with nothing trained. -/
def LinkSt.fresh : LinkSt := ⟨[], [], [], [], [], none, false, none, [], none, [], none, 0, false, [], [], false, [], 0, 0, 0, none⟩

/-- A keeper with an empty journal (R566: a module leaves the factory with no profile). -/
def KeeperSt.fresh : KeeperSt :=
  ⟨[], [], 0, none, none, false, false, false, false, [], [], [], [], [], [], [], [], false, 0, 0, false, false⟩

/-- A row all of whose cells are LENS. DESIGN CHOICE: the spec gives no state of the cells of a new layer. -/
def OptRow.fresh : OptRow := ⟨0, 0, 0, 0, false, 0, false, 0, 0, 0⟩

/-- A port that has not started. -/
def PortSt.fresh : PortSt :=
  ⟨0, 0, 0, 0, 0xFF, false, true, none, [], [], 0, none, 0, 0, [], 0, none, none, [], 0, [], 0⟩

/-- A thermal zone (R511, R512, R516) beyond its registers. -/
structure ZoneSt where
  /-- Device time of the last change of D. -/
  changedAt : Nat
  /-- Device time since which T has stayed below WARM_T - HYST. -/
  coldSince : Option Nat
  /-- Consecutive samples at or above CRIT_T, and at or above 125.0 °C. -/
  crit : Nat
  trip : Nat
  /-- The sensor-loss floor: its demand and its end. -/
  floor : Option (Nat × Nat)
  deriving DecidableEq, Repr

/-- A sensor (R505, R507) beyond its register: its sensor value, and consecutive samples away from and near its
neighbours' mean. -/
structure SensorSt where
  value : Int
  dev : Nat
  calm : Nat
  deriving DecidableEq, Repr

/-- Thermal watch and power transitions (R504 to R524). -/
structure ThermSt where
  zones : Tab ZoneSt
  sensors : Tab SensorSt
  /-- WAKE_DEFERRED has been raised for the wake in progress. -/
  deferred : Bool
  /-- A wake cause held during entry, as LAST_WAKE codes it (R524). -/
  held : Option Nat
  /-- The wake in progress leads to REDUCED (R519). -/
  reduced : Bool
  deriving DecidableEq, Repr

/-- A tagged ray that has no record yet (R537, R539). -/
structure GlintRay where
  field : Word
  x : Nat
  y : Nat
  ch : Nat
  valid : Bool
  clear : Bool
  target : Bool
  taps : Nat
  misses : Nat
  steps : Nat
  /-- Ray value; none for a ray that was not delivered. -/
  value : Option (Nat × Nat)
  /-- Composed and output values, once composed. -/
  composed : Nat
  output : Nat
  eclipsed : Bool
  repeated : Bool
  abandoned : Bool
  /-- NS32 of the ray deadline, and the level at issue. -/
  deadline : Word
  level : Nat
  /-- Its last stage has been reached or has become unreachable. -/
  ended : Bool
  /-- The logical lane that carried the value, once sent (R539). -/
  lane : Option Nat
  deriving DecidableEq, Repr

/-- Glint sampling of a head (R537): the registers sampled at its last latch, and the generator. -/
structure GlintSt where
  en : Bool
  on : Bool
  target : Bool
  rate : Nat
  seed : Word
  tgt : Word
  state : Word
  /-- Tagged rays without a record, in issue order. -/
  rays : List GlintRay
  deriving DecidableEq, Repr

/-- A snapshot whose dump is not yet written (R535): trigger, device time, first counter, field, and (value, OVF). -/
structure Dump where
  trigger : Nat
  time : Nat
  first : Nat
  field : Word
  missed : Nat
  values : List (Nat × Bool)
  deriving DecidableEq, Repr

/-- Performance measurement (R530 to R541) beyond its registers. -/
structure PerfSt where
  dump : Option Dump
  /-- Triggers missed since the previous dump (R536). -/
  missed : Nat
  glint : Tab GlintSt
  /-- SEQ of the last glint record. -/
  seq : Word
  deriving DecidableEq, Repr

/-- A head without glint sampling. -/
def GlintSt.fresh : GlintSt := ⟨false, false, false, 0, 0, 0, 0, []⟩

/-- The whole state of the block. -/
structure State where
  /-- Commands waiting, first in first out. -/
  pending : List Instr
  /-- BAR0 registers by offset; an unlisted offset reads `Reg.reset`. -/
  regs : Tab Word
  /-- Values in effect of registers whose written value waits for a commit or a latch (R11, R320, R346). -/
  eff : Tab Word
  /-- What has left the block, newest first. -/
  out : List Output
  /-- Index of the next free value (the model's own field). -/
  freeCount : Nat
  power : PowerSt
  time : TimeSt
  router : RouterSt
  bus : BusSt
  ring : RingSt
  txn : TxnSt
  sched : SchedSt
  maint : MaintSt
  mem : MemSt
  ing : IngestSt
  /-- Job engines CJE0 to CJE7 by number. -/
  eng : Tab EngineSt
  /-- Heads by number. -/
  heads : Tab HeadSt
  /-- Links by head. -/
  links : Tab LinkSt
  keeper : KeeperSt
  opt : OptSt
  /-- Serial audio ports by number. -/
  audio : Tab PortSt
  therm : ThermSt
  perf : PerfSt
  deriving DecidableEq, Repr

/-- A PTP domain before any measurement. -/
def DomSt.reset : DomSt := ⟨none, 0, 0, false, false, none, false, false, false⟩

/-- The module before LVIN is applied: every register at its reset value, nothing pending. -/
def State.reset : State where
  pending := []
  regs := []
  eff := []
  out := []
  freeCount := 0
  power := ⟨false, false, false, false, 0, []⟩
  time := ⟨0, 0, 0, 0, [], 0, false, false, false, false, DomSt.reset, DomSt.reset⟩
  router := ⟨[], [], none, false, [], []⟩
  bus := ⟨[], []⟩
  ring := ⟨[], [], [], [], [], []⟩
  txn := ⟨Txn.free, Txn.free, Txn.free, Txn.free, 0, 0, 0⟩
  sched := ⟨[], 0, 0, 0, [], [], []⟩
  maint := ⟨[], [], 0, 0, [], [], none, none, false, none, none, none, none, 0, none, [], [], false, none, [], 0, 0, [], false, false, []⟩
  mem := MemSt.fresh
  ing := ⟨[], [], [], [], [], [], false⟩
  eng := []
  heads := []
  links := []
  keeper := KeeperSt.fresh
  opt := ⟨[], [], [], [], [], none, false, none, [], false, none, []⟩
  audio := []
  therm := ⟨[], [], false, none, false⟩
  perf := ⟨none, 0, [], 0⟩

end Sys2Proof.Machine
end

