-- ==== Sys2Proof/Machine/Ops.lean ====
section
/-!
DEFINITION. The named operations every meaning is built from: register and field access, 64-bit registers, saturating
counters, device time, the event router (R63 to R74), vectors (R68), and the guards of a bus access (R48 to R60, R521).
-/
namespace Sys2Proof.Machine

/-- The outcome of a command that completes. -/
abbrev done (s : State) : Host.Outcome State Fault Refusal := .next s

/-! ### Fields of words -/

/-- The `len`-bit field of a word at bit `lo`, as a number. -/
def fld (w : Word) (lo len : Nat) : Nat := (w >>> lo).toNat % 2 ^ len

/-- A word with its `len`-bit field at bit `lo` replaced by `v` modulo 2^len. -/
def setFld (w : Word) (lo len v : Nat) : Word :=
  (w &&& ~~~(BitVec.ofNat 32 (2 ^ len - 1) <<< lo)) ||| (BitVec.ofNat 32 (v % 2 ^ len) <<< lo)

/-- A bit of a word. -/
def bit (w : Word) (i : Nat) : Bool := w.getLsbD i

/-- A `len`-bit field read as a signed number. -/
def sfld (w : Word) (lo len : Nat) : Int :=
  let v := fld w lo len
  if v < 2 ^ (len - 1) then v else (v : Int) - 2 ^ len

/-- 1 for true, 0 for false. -/
def b2n (b : Bool) : Nat := if b then 1 else 0

/-- A number as a word, modulo 2^32. -/
def w32 (n : Nat) : Word := BitVec.ofNat 32 n

/-- An integer as a two's complement word. -/
def wInt (i : Int) : Word := BitVec.ofInt 32 i

/-- The value of a 64-bit two's complement number. -/
def s64 (n : Nat) : Int := if n % 2 ^ 64 < 2 ^ 63 then ((n % 2 ^ 64 : Nat) : Int) else ((n % 2 ^ 64 : Nat) : Int) - 2 ^ 64

/-- The 64-bit two's complement pattern of an integer. -/
def u64 (i : Int) : Nat := (i % 2 ^ 64).toNat

/-! ### Registers -/

/-- The stored value of a BAR0 word. -/
def State.rd (s : State) (a : Nat) : Word := tabGet Reg.reset s.regs a

/-- The state with a BAR0 word stored. -/
def State.wr (s : State) (a : Nat) (v : Word) : State := { s with regs := tabSet Reg.reset s.regs a v }

/-- The stored value of a BAR0 word as a number. -/
def State.rdN (s : State) (a : Nat) : Nat := (s.rd a).toNat

/-- A field of a stored BAR0 word. -/
def State.f (s : State) (a lo len : Nat) : Nat := fld (s.rd a) lo len

/-- The state with a field of a BAR0 word replaced. -/
def State.setF (s : State) (a lo len v : Nat) : State := s.wr a (setFld (s.rd a) lo len v)

/-- A bit of a stored BAR0 word. -/
def State.b (s : State) (a i : Nat) : Bool := bit (s.rd a) i

/-- The state with a bit of a BAR0 word replaced. -/
def State.setB (s : State) (a i : Nat) (v : Bool) : State := s.setF a i 1 (b2n v)

/-- A 64-bit register from its two words. -/
def State.rd64 (s : State) (lo hi : Nat) : Nat := s.rdN hi * 2 ^ 32 + s.rdN lo

/-- The state with both words of a 64-bit register stored. -/
def State.wr64 (s : State) (lo hi n : Nat) : State := (s.wr lo (w32 n)).wr hi (w32 (n / 2 ^ 32))

/-- The value of a register in effect, for registers that wait for a commit or a latch (R11). -/
def State.inEff (s : State) (a : Nat) : Word := tabGet Reg.reset s.eff a

/-- The state with a register's written value put into effect. -/
def State.putEff (s : State) (a : Nat) (v : Word) : State := { s with eff := tabSet Reg.reset s.eff a v }

/-- A counter advanced by `n`, saturating at `max`. -/
def satAdd (w : Word) (n max : Nat) : Word := w32 (min (w.toNat + n) max)

/-- The state with a 32-bit counter advanced by one, saturating. -/
def State.inc (s : State) (a : Nat) : State := s.wr a (satAdd (s.rd a) 1 0xFFFFFFFF)

/-- The state with a 32-bit counter advanced by `n`, saturating. -/
def State.incBy (s : State) (a n : Nat) : State := s.wr a (satAdd (s.rd a) n 0xFFFFFFFF)

/-- The state with a counter that saturates at `max` advanced by one. -/
def State.incTo (s : State) (a max : Nat) : State := s.wr a (satAdd (s.rd a) 1 max)

/-- The state with a free-running 48-bit counter advanced by `n`. -/
def State.inc48 (s : State) (lo hi n : Nat) : State := s.wr64 lo hi ((s.rd64 lo hi + n) % 2 ^ 48)

/-- Writes several registers, in order. -/
def State.wrAll (s : State) : List (Nat × Word) → State
  | [] => s
  | (a, v) :: t => (s.wr a v).wrAll t

/-- Applies an update when a condition holds. -/
def State.cond (s : State) (c : Bool) (g : State → State) : State := if c then g s else s

/-- Something that leaves the block. -/
def State.emit (s : State) (o : Output) : State := { s with out := o :: s.out }

/-! ### Device time -/

/-- Device time in ns (R127). -/
def State.now (s : State) : Nat := s.time.ns.toNat

/-- EPOCH_OFFSET, signed (R132). -/
def State.epochOffset (s : State) : Int := s64 (s.rd64 Reg.TIME_EPOCH_OFFSET_LO Reg.TIME_EPOCH_OFFSET_HI)

/-- NS32, the stamp of records (R131). -/
def State.ns32 (s : State) : Word := w32 s.now

/-- The module runs from LVIN. -/
def State.on (s : State) : Bool := s.power.lvin

/-- POWER_STATUS.STATE (R518): 0 ACTIVE, 1 REDUCED, 2 STANDBY. -/
def State.powerState (s : State) : Nat := s.f Reg.THERM_POWER_STATUS 0 2

/-- POWER_STATUS.TRANSITION: 0 none, 1 entering STANDBY, 2 waking. -/
def State.transition (s : State) : Nat := s.f Reg.THERM_POWER_STATUS 4 2

/-- The decode cluster and the job engines are suspended (R520, R523). -/
def State.suspended (s : State) : Bool := decide (s.powerState = 2 ∨ s.transition = 1)

/-- BOOT_STATUS.STAGE (R558). -/
def State.stage (s : State) : Nat := s.f Reg.MAINT_BOOT_STATUS 0 3

/-- The boot stage (R558), with its line on the UART (R594). -/
def setStage (s : State) (v : Nat) : State := (s.setF Reg.MAINT_BOOT_STATUS 0 3 v).emit (.uart (some v) 0)

/-- A bit of ACTIVE_FEATURES0 (R76). -/
def State.feat (s : State) (i : Nat) : Bool := s.b (Reg.FEAT_ACTIVE_FEATURES 0) i

/-! ### Vectors (R68) -/

/-- Sends or holds the message of a vector that is not in a hold-off: a masked vector sets its pending bit. -/
def sendVector (s : State) (v : Nat) : State :=
  if s.b (Reg.MSIX_TABLE v 3) 0 then s.setB (Reg.MSIX_PBA (v / 32)) (v % 32) true
  else
    let h := s.f (Reg.EVT0_VEC_HOLDOFF v) 0 16
    let s := s.emit (.msix v)
    if h = 0 then s
    else { s with router := { s.router with vecUntil := tabSet (fun _ => 0) s.router.vecUntil v (s.now + h * 1000) } }

/-- A trigger of vector `v` (R68): within the hold-off it is held back. -/
def triggerVector (s : State) (v : Nat) : State :=
  if s.now < tabGet (fun _ => 0) s.router.vecUntil v then
    if s.router.vecHeld.contains v then s
    else { s with router := { s.router with vecHeld := s.router.vecHeld ++ [v] } }
  else sendVector s v

/-! ### The event log (R69 to R74) and the maintenance log (R555) -/

/-- The lowest severity among event records. -/
def lowestSev : List LogRec → Nat
  | [] => 3
  | r :: t => if r.kind ≠ 0 then lowestSev t else min r.sev (lowestSev t)

/-- The oldest record of a severity, if any. -/
def oldestOf (sv : Nat) (l : List LogRec) : Option LogRec := l.find? fun r => decide (r.kind = 0 ∧ r.sev = sv)

/-- The LOG_GAP that a first discard leaves at the place of the discarded record (R72). -/
def gapOf (r : LogRec) : LogRec :=
  { ev := 0, sev := 0, forced := false, kind := 2, coal := 0, time := r.time,
    detail := if r.sev ≤ 1 then [1, 0] else [0, 1] }

/-- A LOG_GAP with one more discarded record counted (R72). -/
def gapAdd (g : LogRec) (sv : Nat) : LogRec :=
  match g.detail with
  | [x, y] => { g with detail := if sv ≤ 1 then [satAdd x 1 0xFFFFFFFF, y] else [x, satAdd y 1 0xFFFFFFFF] }
  | _ => g

/-- Removes the first record of severity `sv`; in its place a gap, when one is given. -/
def dropOldest (sv : Nat) (gap : Option LogRec) : List LogRec → List LogRec
  | [] => []
  | r :: t =>
    if r.kind = 0 ∧ r.sev = sv then (match gap with | some g => g :: t | none => t)
    else r :: dropOldest sv gap t

/-- Records that count toward the 1,024 (a LOG_GAP does not, R72). -/
def lanternCount (l : List LogRec) : Nat := (l.filter fun r => decide (r.kind = 0)).length

/-- A record enters the lantern buffer (R69, R72). The second component is the severity of a discarded record. -/
def lanternPush (s : State) (r : LogRec) : State × Option Nat :=
  let l := s.router.lantern
  if lanternCount l < 1024 then
    (({ s with router := { s.router with lantern := l ++ [r] } }).wr Reg.EVT0_LOG_FILL (w32 (lanternCount l + 1)), none)
  else
    let all := l ++ [r]
    let sv := lowestSev all
    let new :=
      if all.any fun x => decide (x.kind = 2) then
        (dropOldest sv none all).map fun x => if x.kind = 2 then gapAdd x sv else x
      else dropOldest sv ((oldestOf sv all).map gapOf) all
    let s := { s with router := { s.router with lantern := new } }
    let s := s.inc (if sv ≤ 1 then Reg.EVT0_LOG_DROPPED_LOW else Reg.EVT0_LOG_DROPPED_HIGH)
    (s, some sv)

/-- The source-map entry of an event number (R67). -/
def mapEntry (s : State) (n : Nat) : Nat :=
  if n % 2 = 0 then s.f (Reg.EVT1_MAP (n / 2)) 0 16 else s.f (Reg.EVT1_MAP (n / 2)) 16 16

/-- TAI of a maintenance record: 0 until a domain has been LOCKED (R555). -/
def taiOf (s : State) : Int := if s.time.epochSet then (s.now : Int) + s.epochOffset else 0

/-- One hour in ns. -/
def hourNs : Nat := 3600000000000

/-- A source's record for the maintenance log (R555): at most 16 per hour, the rest counted in COALESCED of the next. A source is
an event number, or one of the two other kinds. -/
def maintNote (s : State) (kind ev sv : Nat) (detail : List Word) : State :=
  let src := if kind = 0 then ev else 512 + kind
  let h := s.now / hourNs
  let counts := if s.maint.hour = h then s.maint.hourCount else []
  let n := tabGet (fun _ => 0) counts src
  let c := tabGet (fun _ => 0) s.maint.coalesced src
  if n < 16 then
    let r : MaintRec := ⟨ev, sv, kind, c, s.now, taiOf s, s.power.powerOns, detail, s.rd Reg.SYS_FW_VERSION⟩
    { s with maint := { s.maint with
        wait := s.maint.wait ++ [r]
        hour := h
        hourCount := tabSet (fun _ => 0) counts src (n + 1)
        coalesced := tabSet (fun _ => 0) s.maint.coalesced src 0 } }
  else
    { s with maint := { s.maint with
        hour := h
        hourCount := counts
        coalesced := tabSet (fun _ => 0) s.maint.coalesced src (min (c + 1) 0xFFFF) } }

/-- An accepted occurrence (R63): its log record, its maintenance record and its vector. The second component is the
severity of a record that the lantern buffer discarded. DESIGN CHOICE (log entry 13): the count that COALESCED carries starts anew
when the record enters the lantern buffer, also when the buffer then discards that record (R72). -/
def acceptEvent (s : State) (e : Ev) (forced : Bool) (detail : List Word) : State × Option Nat :=
  let n := evNumber e
  let m := mapEntry s n
  let p : State × Option Nat :=
    if m / 0x80 % 2 = 1 then
      let r : LogRec := ⟨n, evSev e, forced, 0, tabGet (fun _ => 0) s.router.coalesced n, s.now, detail⟩
      lanternPush { s with router := { s.router with coalesced := tabSet (fun _ => 0) s.router.coalesced n 0 } } r
    else (s, none)
  let s := if 1 ≤ evSev e then maintNote p.1 0 n (evSev e) detail else p.1
  (if m / 0x40 % 2 = 1 then triggerVector s (m % 0x40) else s, p.2)

/-- An occurrence of an event (R63, R64), with the discards of a full lantern buffer followed for `fuel` rounds (R72). -/
def raiseN : Nat → State → Ev → Bool → List Word → State
  | 0, s, _, _, _ => s
  | fuel + 1, s, e, forced, detail =>
    let a := Reg.PAGE_EVT_STATUS (evPage e)
    if s.b a (evBit e) then
      let n := evNumber e
      { s with router := { s.router with
          coalesced := tabSet (fun _ => 0) s.router.coalesced n (min (tabGet (fun _ => 0) s.router.coalesced n + 1) 255) } }
    else
      let s := s.setB a (evBit e) true
      if s.b (Reg.PAGE_EVT_ENABLE (evPage e)) (evBit e) then
        let p := acceptEvent s e forced detail
        let s := p.1
        match p.2 with
        | none => s
        | some sv =>
          if sv ≤ 1 then raiseN fuel s .logDropLow false [s.rd Reg.EVT0_LOG_DROPPED_LOW]
          else raiseN fuel s .logDropHigh false [s.rd Reg.EVT0_LOG_DROPPED_HIGH]
      else s

/-- An occurrence of an event with its detail words (R63). The lantern domain holds the router, so nothing happens
without LVIN. Five rounds cover every chain of discards: a drop event whose bit is set raises nothing further. -/
def State.raise (s : State) (e : Ev) (detail : List Word) : State :=
  if s.on then raiseN 5 s e false detail else s

/-- An occurrence made by EVT_FORCE: FORCED set, detail words 0 (R66). -/
def State.force (s : State) (e : Ev) : State :=
  if s.on then raiseN 5 s e true [0, 0, 0, 0, 0] else s

/-! ### Guards of a bus access -/

/-- R78: the page is available to host software. -/
def pageAvail (s : State) (p : PageId) : Bool :=
  if alwaysAvail p.typ then true
  else if p.typ = 0xC1 then false
  else if featRequired p.typ then (gateBits p.typ).any s.feat
  else s.b Reg.FEAT_FEAT_STATUS 0

/-- NOT_NEGOTIATED of a page (R78), and R559: before STAGE READY other pages behave as not negotiated. -/
def notNeg (s : State) (p : PageId) : Bool :=
  !(pageAvail s p && (alwaysAvail p.typ || decide (4 ≤ s.stage)))

/-- PAGE_STATUS.MGMT_HELD of a page. -/
def mgmtHeld (s : State) (p : PageId) : Bool := s.b (Reg.PAGE_STATUS p.base) 4

/-- R521: pages and regions whose accesses complete in STANDBY as in ACTIVE. -/
def standbyOpen (a : Nat) : Bool :=
  match pageAt a with
  | some p => decide (p.typ = 0x01 ∨ p.typ = 0x02 ∨ p.typ = 0x04 ∨ p.typ = 0x05 ∨ p.typ = 0x10 ∨ p.typ = 0x11 ∨ p.typ = 0xB0)
  | none => false

/-- What the guards make of a register write. -/
inductive Gate where
  /-- No access reaches the register bus. -/
  | absent
  /-- Discarded with UNMAPPED_ACCESS (R48). -/
  | unmapped
  /-- Discarded with NOT_NEGOTIATED_ACCESS (R59). -/
  | notNegotiated
  /-- Discarded with REG_REFUSED (R52, R521). -/
  | refused
  /-- The write goes to the register. -/
  | go
  deriving DecidableEq, Repr

/-- The requester can reach BAR0: host software through an up PCIe link, either requester only with LVIN. -/
def reaches (s : State) (r : Requester) : Bool :=
  s.on && (match r with | .host => s.power.pcieUp | .mgmt => true)

/-- The address is not mapped for the requester (R48): PERF privileged is unmapped for host software. -/
def unmappedFor (r : Requester) (a : Nat) : Bool :=
  !isMapped a || (match r, pageAt a with | .host, some p => decide (p.typ = 0xC1) | _, _ => false)

/-- The guards of a write to a register of a page, or to a table (R48, R52, R59, R521). R59 and R52 speak of the page's
configuration region, PAGE_CTRL and ROLE, so status regions and table windows lie outside them. `feature` is the feature
bit the register belongs to, if any (R78). -/
def cfgGate (s : State) (r : Requester) (a : Nat) (feature : Option Nat) : Gate :=
  if !reaches s r then .absent
  else if unmappedFor r a then .unmapped
  else if s.powerState = 2 && !standbyOpen a then .refused
  else match r, pageAt a with
    | .host, some p =>
      let cfg := decide (a - p.base < 0x800)
      if cfg && notNeg s p then .notNegotiated
      else if (match feature with | some i => !s.feat i | none => false) then .notNegotiated
      else if cfg && mgmtHeld s p then .refused
      else .go
    | _, _ => .go

/-- An unmapped access (R48). -/
def unmappedOp (s : State) (a : Nat) : State :=
  ((s.inc Reg.SYS_UNMAPPED_COUNT).wr Reg.SYS_LAST_BAD_ADDR (w32 a)).raise .unmappedAccess [w32 a]

/-- A discarded write with REG_REFUSED (R618, R75). -/
def refuse (s : State) (a : Nat) : State := s.raise .regRefused [w32 a]

/-- A guarded write: what the gate lets through acts by `g`. -/
def gated (s : State) (r : Requester) (a : Nat) (feature : Option Nat) (g : State → State) : State :=
  match cfgGate s r a feature with
  | .absent => s
  | .unmapped => unmappedOp s a
  | .notNegotiated => s.raise .notNegotiatedAccess [w32 a]
  | .refused => refuse s a
  | .go => g s

/-- A guarded write that is refused unless a condition holds. -/
def gatedIf (s : State) (r : Requester) (a : Nat) (feature : Option Nat) (ok : State → Bool) (g : State → State) : State :=
  gated s r a feature fun s => if ok s then g s else refuse s a

/-! ### Blocks -/

/-- PAGE_CTRL.ENABLE of a page. -/
def enabled (s : State) (base : Nat) : Bool := s.b (Reg.PAGE_CTRL base) 0

/-- PAGE_STATUS.QUIESCED of a page. -/
def quiesced (s : State) (base : Nat) : Bool := s.b (Reg.PAGE_STATUS base) 0

/-- The role code of a page's unit (R103). -/
def roleCode (s : State) (base : Nat) : Nat := s.f (Reg.PAGE_ROLE base) 0 8

/-- The role epoch of a page's unit (R103). -/
def roleEpoch (s : State) (base : Nat) : Nat := s.f (Reg.PAGE_ROLE base) 16 16

/-- A page's ENABLE goes to 1 (R108, R110). -/
def setOn (s : State) (base : Nat) : State := (s.setB (Reg.PAGE_CTRL base) 0 true).setB (Reg.PAGE_STATUS base) 0 false

/-- A page's ENABLE goes to 0, with DISABLE_MODE (R108). -/
def setOff (s : State) (base : Nat) (abort : Bool) : State := (s.setB (Reg.PAGE_CTRL base) 0 false).setB (Reg.PAGE_CTRL base) 1 abort

/-- A role is given to a unit: its code, and the next epoch (R105, R106). -/
def giveRole (s : State) (a code : Nat) : State :=
  (s.setF a 0 8 code).setF a 16 16 (s.f a 16 16 + 1)

/-- A cause that may last has been reported (R50). -/
def State.tell (s : State) (c : Lasting) : State :=
  if s.power.told.contains c then s else { s with power := { s.power with told := c :: s.power.told } }

/-- SPARE_LOW (R545, R557): a failure has used up the last spare of a kind: 0 lane, 1 memory, 2 phase, 3 domain, 4 path,
5 sensor. DESIGN CHOICE (log entry 39): DETAIL1 of memory, domain and path is 0. -/
def spareLow (s : State) (kind unit : Nat) : State := (s.tell (.spare kind unit)).raise .spareLow [w32 kind, w32 unit]

/-- The next free value's index is used up. -/
def State.useFree (s : State) : State := { s with freeCount := s.freeCount + 1 }

/-- The old image has stopped and the new one has not taken over yet (R553). -/
def mgmtPaused (s : State) : Bool := s.maint.takeover.isSome

end Sys2Proof.Machine
end

