-- ==== Sys2Proof/Machine/Clock.lean ====
section
/-!
DEFINITION. Device time: the tick of the running clock (R128, R129) and the slewer (R140).
-/
namespace Sys2Proof.Machine

/-- The nominal increment of the running clock in 2^-28 ns (R128): 4 ns, or 1,000 ns on the lantern clock. -/
def nominalIncr (s : State) : Int := if s.b Reg.TIME_TIME_STATUS 3 then 0x3E80000000 else 0x40000000

/-- Signed division that truncates toward zero. -/
def tdiv (a b : Int) : Int := Int.tdiv a b

/-- R128: the frequency part of an increment, rounded. -/
def freqPart (nominal freqPpb : Int) : Int :=
  tdiv (nominal * freqPpb + (if 0 ≤ freqPpb then 500000000 else -500000000)) 1000000000

/-- R128 incr_of: the increment in force. -/
def incrOf (nominal freqPpb slewStep : Int) : Int := nominal + freqPart nominal freqPpb + slewStep

/-- What the slewer adds in the next tick (R140): the step, or the rest when it is smaller than a step. -/
def slewNext (t : TimeSt) : Int := if t.slewRem.natAbs < t.slewStep.natAbs then t.slewRem else t.slewStep

/-- A slew is in progress: it ends in the tick that finds the rest smaller than a step (R140). -/
def slewing (t : TimeSt) : Bool := decide (t.slewStep ≠ 0)

/-- The signed whole nanoseconds of a count in 2^-28 ns, truncated toward zero. -/
def nsOf (x : Int) : Int := tdiv x 268435456

/-- SLEW_REMAINING, SLEWING and FAST_SLEW kept with the slewer (R133, R140). INCR reports the increment in force. -/
def showSlew (s : State) : State :=
  let s := s.wr64 Reg.TIME_SLEW_REMAINING_LO Reg.TIME_SLEW_REMAINING_HI (u64 (nsOf s.time.slewRem))
  let s := s.setB Reg.TIME_TIME_STATUS 1 (decide (s.time.slewRem ≠ 0))
  let s := if slewing s.time then s else s.setB Reg.TIME_TIME_STATUS 2 false
  s.wr64 Reg.TIME_INCR_LO Reg.TIME_INCR_HI (u64 (incrOf (nominalIncr s) s.time.freqPpb s.time.slewStep))

/-- R128 time_tick: device time advances by an increment of unsigned 12.28 ns. -/
def timeTick (s : State) (incr : Nat) : State :=
  let acc := s.time.frac.toNat + incr
  { s with time := { s.time with
      ns := s.time.ns + BitVec.ofNat 64 (acc / 2 ^ 28)
      frac := BitVec.ofNat 28 acc } }

/-- The magnitude of slew_step for a rate in ppm: round(nominal × ppm / 10^6). -/
def slewMag (nominal : Int) (ppm : Nat) : Int := (nominal * ppm + 500000) / 1000000

/-- A slew of `c` ns starts; `fast` is 1000 ppm (R139, R141). A correction of 0 leaves nothing to slew. -/
def startSlew (s : State) (c : Int) (fast : Bool) : State :=
  if c = 0 then s
  else
    let m := slewMag (nominalIncr s) (if fast then 1000 else s.rdN Reg.TIME_SLEW_MAX)
    let s := { s with time := { s.time with slewRem := c * 268435456, slewStep := if c < 0 then -m else m } }
    showSlew (s.setB Reg.TIME_TIME_STATUS 2 fast)

/-- A slew has ended: an accepted jump that waited for its end slews now (R137, R141). -/
def nextSlew (s : State) : State :=
  match s.time.slewQueue with
  | [] => s
  | c :: rest => startSlew { s with time := { s.time with slewQueue := rest } } c true

/-- One tick of the running clock (R128, R140), while LVIN is present. -/
def tick (s : State) : State :=
  if s.on then
    let t := s.time
    let part := if slewing t then slewNext t else 0
    let last := decide (t.slewRem.natAbs < t.slewStep.natAbs)
    let s := timeTick s (incrOf (nominalIncr s) t.freqPpb part).toNat
    if slewing t then
      let fast := s.b Reg.TIME_TIME_STATUS 2
      let s := showSlew { s with time := { s.time with slewRem := t.slewRem - part, slewStep := if last then 0 else t.slewStep } }
      if last then nextSlew (s.raise .slewDone [w32 (b2n fast)]) else s
    else s
  else s

end Sys2Proof.Machine
end

