-- ==== Sys2Proof/Machine/Count.lean ====
section
/-!
DEFINITION. Performance counters (R527 to R533): which events a counter counts, and how it advances and wraps. Occurrences that
the model's commands show are counted where they happen; those of the blocks' clocks come with COUNTER_WRAP.
-/
namespace Sys2Proof.Machine

/-- PERF privileged registers (R543). -/
def privCfg (j : Nat) : Nat := 0xC2100 + 4 * j
def privCtrl : Nat := 0xC2140
def privOvf : Nat := 0xC2C00

/-- Configuration, low value, high value and OVF word and bit of a counter; 256 + j is privileged counter j. -/
def cntCfg (c : Nat) : Nat := if c < 256 then Reg.PERF_COUNTER_CFG c else privCfg (c - 256)
def cntLo (c : Nat) : Nat := if c < 256 then Reg.PERF_VALUE_LO c else 0xC2800 + 8 * (c - 256)
def cntHi (c : Nat) : Nat := cntLo c + 4
def cntOvf (c : Nat) : Nat := if c < 256 then Reg.PERF_OVF (c / 128) (c % 128 / 32) else privOvf
def cntBit (c : Nat) : Nat := if c < 256 then c % 32 else c - 256

/-- The instances of a block (R47, R527); for MEM events the instance is 0. -/
def perfInstances (blk : Nat) : Nat :=
  if blk = 0x90 then 1
  else (regPages.filter fun b => match pageAt b with | some p => decide (p.typ = blk) | none => false).length
where
  /-- Every page base. -/
  regPages : List Nat := (List.range 0xD0).map (· * 0x1000)

/-- The events of a block code beyond 0x00 and 0x01 (R528). -/
def perfEvents (blk : Nat) : List Nat :=
  if blk = 0x20 then [0x10, 0x11] else if blk = 0x21 then [0x10, 0x11, 0x12] else if blk = 0x30 then [0x10, 0x11, 0x12]
  else if blk = 0x31 then [0x10, 0x11] else if blk = 0x40 then [0x10, 0x11, 0x12]
  else if blk = 0x41 then [0x10, 0x11, 0x12, 0x13, 0x14, 0x15, 0x16] else if blk = 0x43 then [0x10, 0x11]
  else if blk = 0x45 then [0x10, 0x11]
  else if blk = 0x90 then [0x10, 0x11, 0x12, 0x13, 0x14, 0x15, 0x18, 0x19, 0x1A]
  else if blk = 0xB0 then [0x10] else []

/-- A COUNTER_CFG word names an event and an instance that exist (R529). -/
def counterCfgOk (w : Word) : Bool :=
  let ev := fld w 0 8
  let blk := fld w 8 8
  let inst := fld w 16 8
  let n := perfInstances blk
  decide (0 < n) && (decide (ev ≤ 1) || (perfEvents blk).contains ev) && decide (inst = 0xFF ∨ inst < n)

/-- The events that the model's commands show, counted where they happen. -/
def perfShown (blk ev : Nat) : Bool :=
  decide ((blk = 0x20 ∧ (ev = 0x10 ∨ ev = 0x11)) ∨ (blk = 0x21 ∧ 0x10 ≤ ev) ∨ (blk = 0x30 ∧ (ev = 0x10 ∨ ev = 0x11))
    ∨ (blk = 0x31 ∧ 0x10 ≤ ev) ∨ (blk = 0x40 ∧ 0x10 ≤ ev)
    ∨ (blk = 0x41 ∧ 0x10 ≤ ev ∧ ev ≤ 0x14) ∨ (blk = 0x43 ∧ 0x10 ≤ ev)
    ∨ (blk = 0x90 ∧ 0x10 ≤ ev ∧ ev ≤ 0x19))

/-- The instance number of the page at a base (R47). -/
def instOf (base : Nat) : Nat := match pageAt base with | some p => p.inst | none => 0

/-- A counter runs: general ones while PERF0 is enabled and not frozen (R530, R531), privileged ones unless frozen (R543);
none in STANDBY (R532). -/
def cntRuns (s : State) (c : Nat) : Bool :=
  s.on && decide (s.powerState ≠ 2) && s.b (cntCfg c) 24 &&
  (if c < 256 then enabled s 0xC0000 && !s.b Reg.PERF0_PERF_CTRL 0 else !s.b privCtrl 0)

/-- Privileged counter j + 1 is chained to j (R533). -/
def cntChained (s : State) (c : Nat) : Bool := decide (256 ≤ c ∧ c % 2 = 0) && s.b (cntCfg (c + 1)) 25

/-- PERF_OVERFLOW of a wrap (R530): a wrap while the OVF bit is 1 coalesces. -/
def perfOverflow (s : State) (c : Nat) : State :=
  if 256 ≤ c then s.setB (cntOvf c) (cntBit c) true
  else
    let e : Ev := .perfOverflow ⟨c / 128 % 2, Nat.mod_lt _ (by decide)⟩
    if s.b (cntOvf c) (cntBit c) then
      let n := evNumber e
      { s with router := { s.router with
          coalesced := tabSet (fun _ => 0) s.router.coalesced n (min (tabGet (fun _ => 0) s.router.coalesced n + 1) 255) } }
    else (s.setB (cntOvf c) (cntBit c) true).raise e [w32 c]

/-- A counter advances by `n` modulo 2^48 (R530); the Nat is the number of wraps. -/
def cntStep (s : State) (c n : Nat) : State × Nat :=
  let v := s.rd64 (cntLo c) (cntHi c) + n
  (s.wr64 (cntLo c) (cntHi c) (v % 2 ^ 48), v / 2 ^ 48)

/-- A counter adds `n` occurrences (R530, R533): a chained pair counts the wraps of its lower half. -/
def cntAdd (s : State) (c n : Nat) : State :=
  let p := cntStep s c n
  if p.2 = 0 then p.1
  else if cntChained p.1 c then
    let q := cntStep p.1 (c + 1) p.2
    if q.2 = 0 then q.1 else perfOverflow q.1 (c + 1)
  else perfOverflow p.1 c

/-- The counter of a configuration register's address, if it is one. -/
def cntOfAddr (a : Nat) : Option Nat :=
  if 0xC0100 ≤ a ∧ a < 0xC0300 then some ((a - 0xC0100) / 4)
  else if 0xC1100 ≤ a ∧ a < 0xC1300 then some (128 + (a - 0xC1100) / 4)
  else if 0xC2100 ≤ a ∧ a < 0xC2140 then some (256 + (a - 0xC2100) / 4)
  else none

/-- The counters whose configuration selects event `ev` of block `blk`, instance `inst` (R527). -/
def cntFor (s : State) (blk inst ev : Nat) : List Nat :=
  s.regs.filterMap fun p => match cntOfAddr p.1 with
    | some c =>
      if bit p.2 24 ∧ fld p.2 0 16 = blk * 256 + ev ∧ (fld p.2 16 8 = inst ∨ fld p.2 16 8 = 0xFF)
        ∧ ¬(256 ≤ c ∧ c % 2 = 1 ∧ bit p.2 25) then some c
      else none
    | none => none

/-- `n` occurrences of an event (R528, R530). -/
def perfHit (s : State) (blk inst ev n : Nat) : State :=
  (cntFor s blk inst ev).foldl (fun s c => if cntRuns s c then cntAdd s c n else s) s

end Sys2Proof.Machine
end

