-- ==== Sys2Proof/Machine/Hbm.lean ====
section
/-!
DEFINITION. HBM and host memory as byte stores: the address map (R458), reads with their check codes and poison (R460,
R470), writes, and error injection (R470). DESIGN CHOICE (log entry 5): a command that moves data is one step, so its
reads and writes are done in it, in issue order (R461).
-/
namespace Sys2Proof.Machine

/-- An unlisted byte. -/
def byteDefault (_ : Nat) : Byte := 0

/-- Granule rows per channel (R458). -/
def chanRows : Nat := 732421

/-- M, the lost logical channels (R458, R481). -/
def lostCount (s : State) : Nat := s.mem.lost

/-- R = ⌈M × C / 62⌉ (R458). -/
def borrowedRows (m : Nat) : Nat := (m * chanRows + 61) / 62

/-- USABLE_TOP for M lost channels (R458). -/
def topFor (m : Nat) : Nat := 62 * (chanRows - borrowedRows m) * 1024

/-- USABLE_TOP in force (R481). -/
def usableTop (s : State) : Nat := s.rd64 Reg.MEM4_USABLE_TOP_LO Reg.MEM4_USABLE_TOP_HI

/-- SYSTEM_TOP (R459). -/
def systemTop (s : State) : Nat := s.rd64 Reg.MEM4_SYSTEM_TOP_LO Reg.MEM4_SYSTEM_TOP_HI

/-- CHAN_MAP_L.LOST. -/
def chanLost (s : State) (l : Nat) : Bool := s.b (Reg.MEM4_CHAN_MAP l) 8

/-- CHAN_MAP_L.UNBACKED (R476). -/
def chanUnbacked (s : State) (l : Nat) : Bool := s.b (Reg.MEM4_CHAN_MAP l) 9

/-- The logical channels that are not lost, ascending (R458). -/
def survivors (s : State) : List Nat := (List.range 62).filter fun l => !chanLost s l

/-- The rank of a channel among the lost channels (R458). -/
def lostRank (s : State) (l : Nat) : Nat := ((List.range l).filter (chanLost s)).length

/-- The lost channels of the map in force: M counts a channel from its shrink on, and the map changes when its rows have been
copied (R471, R474). -/
def mapLost (s : State) : Nat := 62 - (survivors s).length

/-- R458 hbm_map: physical PC and offset of an address. -/
def hbmMap (s : State) (a : Nat) : Nat × Nat :=
  let g := a / 1024
  let l := g % 62
  let j := g / 62
  if !chanLost s l then (s.f (Reg.MEM4_CHAN_MAP l) 0 6, j * 1024 + a % 1024)
  else
    let r := borrowedRows (mapLost s)
    let q := lostRank s l * (chanRows - r) + j
    let n := 62 - mapLost s
    (s.f (Reg.MEM4_CHAN_MAP ((survivors s).getD (q % n) 0)) 0 6, (chanRows - r + q / n) * 1024 + a % 1024)

/-- R458 pc_bank_row: bank and row of an offset within a PC. -/
def bankRow (off : Nat) : Nat × Nat :=
  let j := off / 1024
  ((Nat.xor (Nat.xor j (j / 32)) (j / 1024)) % 32, j / 32)

/-- The stack and index of a physical PC, for its MEM1 or MEM2 registers (R479). -/
def pcStack (p : Nat) : Nat := p / 32

/-- A byte of HBM as held. -/
def hbmByte (s : State) (a : Nat) : Byte := tabGet byteDefault s.mem.hbm a

/-- A byte of host memory. -/
def hostByte (s : State) (a : Nat) : Byte := tabGet byteDefault s.mem.host a

/-- Check state of an unlisted block: poison in a channel whose data was lost (R475). -/
def eccDefault (dead : List Nat) (blk : Nat) : Nat := if dead.contains (blk / 32 % 62) then 3 else 0

/-- Check state of a 32 B block. -/
def eccOf (s : State) (blk : Nat) : Nat := tabGet (eccDefault s.mem.dead) s.mem.ecc blk

/-- The state with a block's check state. -/
def setEcc (s : State) (blk v : Nat) : State :=
  { s with mem := { s.mem with ecc := tabSet (eccDefault s.mem.dead) s.mem.ecc blk v } }

/-- The 32 B blocks that hold poison (R480). -/
def poisonCount (s : State) : Nat :=
  let dead := fun (k : Nat) => s.mem.dead.contains (k / 32 % 62)
  (s.mem.ecc.filter fun p => decide (p.2 = 3)).length + (s.mem.spareEcc.filter fun p => decide (p.2 = 3)).length
    + s.mem.dead.length * (chanRows - borrowedRows (lostCount s)) * 32
    - (s.mem.ecc.filter fun p => dead p.1).length

/-- MEM_STATUS.SLEEP: 0 awake, 1 power-down, 2 self-refresh, 3 entering. -/
def memSleep (s : State) : Nat := s.f Reg.MEM0_MEM_STATUS 1 2

/-- The state with MEM_STATUS.SLEEP. -/
def setSleep (s : State) (v : Nat) : State := s.setF Reg.MEM0_MEM_STATUS 1 2 v

/-- A request that is served within its command (log entry 5) wakes the memory (R465, R466): an entry is cancelled, self-refresh is
waited for. -/
def memWake (s : State) : State :=
  if s.powerState = 2 then s
  else
    let v := memSleep s
    let s := if v = 3 then s.inc Reg.MEM0_SR_CANCELLED else if v = 2 then s.inc Reg.MEM0_SR_LATE_WAITS else s
    let s := { s with mem := { s.mem with exiting := false, idleSince := s.now } }
    if v = 0 then s else setSleep s 0

/-- `n` bytes move in service class `cls` (R462, R464, R478): CLASS_BYTES and the traffic of the last 1 ms. -/
def xfer (s : State) (cls n : Nat) : State :=
  let s := memWake s
  let s := s.inc48 (Reg.MEM0_CLASS_BYTES_LO cls) (Reg.MEM0_CLASS_BYTES_HI cls) n
  let l := s.mem.traffic.filter fun p => decide (s.now < p.1 + 1000000)
  let l := match l with
    | (t, b) :: r => if t = s.now then (t, b + n) :: r else (s.now, n) :: l
    | [] => [(s.now, n)]
  perfHit { s with mem := { s.mem with traffic := l } } 0x90 0 (0x10 + cls) n

/-! ### Commands to a PC: neighbouring-row disturbance and kept commands (R468, R469) -/

/-- Entries of an activation table. -/
def actEntries : Nat := 32

/-- The last row of a bank that holds a granule (R458). -/
def lastRow : Nat := (chanRows - 1) / 32

/-- Index of the first entry with the smallest count. -/
def minEntry : List (Nat × Nat) → Nat
  | [] => 0
  | [_] => 0
  | e :: t => let i := minEntry t; if e.2 ≤ (t.getD i (0, 0)).2 then 0 else i + 1

/-- An activation of row `r` in a table (R468), with the count it reaches. -/
def actUpdate (l : List (Nat × Nat)) (r : Nat) : List (Nat × Nat) × Nat :=
  match l.find? (·.1 = r) with
  | some e => (l.map fun x => if x.1 = r then (r, x.2 + 1) else x, e.2 + 1)
  | none =>
    if l.length < actEntries then (l ++ [(r, 1)], 1)
    else
      let i := minEntry l
      let c := (l.getD i (0, 0)).2 + 1
      (l.set i (r, c), c)

/-- The neighbours of a row that exist. -/
def neighbours (r : Nat) : List Nat :=
  (if 1 ≤ r then [r - 1] else []) ++ (if r + 1 ≤ lastRow then [r + 1] else [])
    ++ (if 2 ≤ r then [r - 2] else []) ++ (if r + 2 ≤ lastRow then [r + 2] else [])

/-- A row of a bank is activated unless it is open (R468): at 2,048 its neighbours are refreshed and its count is 0. -/
def activate (s : State) (p bank row : Nat) : State :=
  let k := p * 32 + bank
  if tabGet (fun _ => none) s.mem.openRow k = some row then s
  else
    let u := actUpdate (tabGet (fun _ => []) s.mem.acts k) row
    let full := decide (2048 ≤ u.2)
    let l := if full then u.1.map fun x => if x.1 = row then (row, 0) else x else u.1
    let s := { s with mem := { s.mem with
      acts := tabSet (fun _ => []) s.mem.acts k l
      openRow := tabSet (fun _ => none) s.mem.openRow k (some row) } }
    let s := perfHit s 0x90 0 0x18 1
    if full then
      perfHit (s.incBy (Reg.STACK_TARGETED_REFRESH (pcStack p) (p % 32)) (neighbours row).length) 0x90 0 0x19 (neighbours row).length
    else s

/-- The last 32 of a PC's commands. -/
def keepCmds (s : State) (p : Nat) (l : List MemCmd) : State :=
  let k := tabGet (fun _ => []) s.mem.kept p ++ l
  { s with mem := { s.mem with kept := tabSet (fun _ => []) s.mem.kept p (k.drop (k.length - 32)) } }

/-- A PC accesses `n` bytes from an offset within one granule: its row is activated, and the commands are kept. DESIGN CHOICE (log
entry 5): one command moves 32 B. -/
def issueAt (s : State) (p : Nat) (write : Bool) (off n : Nat) : State :=
  let br := bankRow off
  keepCmds (activate s p br.1 br.2) p ((List.range ((off + n - 1) / 32 - off / 32 + 1)).map fun i => ⟨write, off / 32 + i⟩)

/-- The part of a range that lies in one granule: address and length. -/
def granulePart (a n g : Nat) : Nat × Nat :=
  let lo := max a (g * 1024)
  (lo, min (a + n) (g * 1024 + 1024) - lo)

/-- A requester's access to a range reaches the PC of each granule in ascending order; while a channel is copied to a spare, a write
goes to both PCs (R471). What is unmapped or unbacked has no PC (R460, R476). -/
def issue (s : State) (write : Bool) (a n : Nat) : State :=
  (granulesOf a n).foldl (fun s g =>
    let q := granulePart a n g
    if usableTop s ≤ q.1 ∨ chanUnbacked s (g % 62) then s
    else
      let m := hbmMap s q.1
      let s := issueAt s m.1 write m.2 q.2
      match s.mem.mig with
      | some x => if write ∧ x.tgt < 64 ∧ x.chan = g % 62 then issueAt s x.tgt true m.2 q.2 else s
      | none => s) s
where
  /-- The granules of a range, ascending. -/
  granulesOf (a n : Nat) : List Nat := if n = 0 then [] else (List.range ((a + n - 1) / 1024 - a / 1024 + 1)).map (a / 1024 + ·)

/-- A corrected error of a PC is noted for reason ERRORS (R471). -/
def noteCe (s : State) (p : Nat) : State :=
  let l := (tabGet (fun _ => []) s.mem.ceTimes p).filter fun t => decide (s.now < t + hourNs)
  { s with mem := { s.mem with ceTimes := tabSet (fun _ => []) s.mem.ceTimes p (l ++ [s.now]) } }

/-- The address lies in an unbacked logical channel (R476). -/
def unbackedAt (s : State) (a : Nat) : Bool := chanUnbacked s (a / 1024 % 62)

/-- A read of the 32 B block returns poisoned data (R460, R470, R476). -/
def blockBad (s : State) (blk : Nat) : Bool :=
  decide (usableTop s ≤ blk * 32) || unbackedAt s (blk * 32) || decide (2 ≤ eccOf s blk)

/-- The 32 B blocks that `n` bytes at `a` touch, ascending. -/
def blocksOf (a n : Nat) : List Nat := if n = 0 then [] else (List.range ((a + n - 1) / 32 - a / 32 + 1)).map (a / 32 + ·)

/-- Some byte of the range reads poisoned. -/
def rangeBad (s : State) (a n : Nat) : Bool := (blocksOf a n).any (blockBad s)

/-- The bytes of a range as held, lowest address first. -/
def hbmBytes (s : State) (a n : Nat) : List Byte := (List.range n).map fun i => hbmByte s (a + i)

/-- The bytes of a host-memory range, lowest address first. -/
def hostBytes (s : State) (a n : Nat) : List Byte := (List.range n).map fun i => hostByte s (a + i)

/-- What a read by class `cls` does to one 32 B block: correction, poison, counts and events (R460, R470). -/
def touchBlock (cls : Nat) (s : State) (blk : Nat) : State :=
  let a := blk * 32
  if usableTop s ≤ a then
    ((s.wr64 Reg.MEM3_LAST_UE_ADDR_LO Reg.MEM3_LAST_UE_ADDR_HI a).inc Reg.MEM3_UE_TOTAL).raise .eccUncorrected
      [0x3F, w32 a, w32 (a / 2 ^ 32), w32 cls]
  else
    let p := (hbmMap s a).1
    let c := eccOf s blk
    if 2 ≤ c ∨ unbackedAt s a then
      let s := if c = 2 then setEcc s blk 3 else s
      let s := s.inc (Reg.STACK_UE_COUNT (pcStack p) (p % 32))
      ((s.wr64 Reg.MEM3_LAST_UE_ADDR_LO Reg.MEM3_LAST_UE_ADDR_HI a).inc Reg.MEM3_UE_TOTAL).raise .eccUncorrected
        [w32 p, w32 a, w32 (a / 2 ^ 32), w32 cls]
    else if c = 1 then
      let s := (noteCe (setEcc s blk 0) p).inc (Reg.STACK_CE_COUNT (pcStack p) (p % 32))
      (s.inc Reg.MEM3_CE_TOTAL).raise .eccCorrected [w32 p, w32 a, w32 (a / 2 ^ 32)]
    else s

/-- The effect on the memory system of a read of a range by class `cls`. -/
def touch (s : State) (cls a n : Nat) : State := (blocksOf a n).foldl (touchBlock cls) (issue (xfer s cls n) false a n)

/-- Stores bytes, lowest address first; those at or above USABLE_TOP or in an unbacked channel are discarded (R460, R476). -/
def putBytes (s : State) (a : Nat) : List Byte → State
  | [] => s
  | b :: t =>
    let s := if usableTop s ≤ a ∨ unbackedAt s a then s
      else { s with mem := { s.mem with hbm := tabSet byteDefault s.mem.hbm a b } }
    putBytes s (a + 1) t

/-- A full write of a 32 B block clears its poison (R470). -/
def cleanBlock (a n : Nat) (s : State) (blk : Nat) : State :=
  if a ≤ blk * 32 ∧ blk * 32 + 32 ≤ a + n ∧ blk * 32 < usableTop s then
    setEcc s blk 0
  else s

/-- ECC_INJECT (R470): the next write to the 32 B at INJECT_ADDR is corrupted. -/
def injectOn (s : State) (a n : Nat) : State :=
  let t := s.rd64 Reg.MEM3_INJECT_ADDR_LO Reg.MEM3_INJECT_ADDR_HI
  if s.b Reg.MEM3_ECC_INJECT 0 && (blocksOf a n).contains (t / 32) && decide (t < usableTop s) then
    let s := if eccOf s (t / 32) = 3 then s else setEcc s (t / 32) (if s.b Reg.MEM3_ECC_INJECT 1 then 2 else 1)
    s.setB Reg.MEM3_ECC_INJECT 0 false
  else s

/-- A write of bytes to HBM in service class `cls` (R460, R462, R470). -/
def hbmWrite (s : State) (cls a : Nat) (l : List Byte) : State :=
  let s := putBytes (issue (xfer s cls l.length) true a l.length) a l
  let s := (blocksOf a l.length).foldl (cleanBlock a l.length) s
  injectOn s a l.length

/-- A write of bytes to host memory. -/
def hostWrite (s : State) (a : Nat) : List Byte → State
  | [] => s
  | b :: t => hostWrite { s with mem := { s.mem with host := tabSet byteDefault s.mem.host a b } } (a + 1) t

/-- A write to HBM or host memory, by the SPACE bit (R87). -/
def memWrite (s : State) (hostSpace : Bool) (cls a : Nat) (l : List Byte) : State :=
  if hostSpace then hostWrite s a l else hbmWrite s cls a l

/-- Little-endian value of bytes. -/
def leNat : List Byte → Nat
  | [] => 0
  | b :: t => b.toNat + 256 * leNat t

/-- Big-endian value of bytes. -/
def beNat (l : List Byte) : Nat := leNat l.reverse

/-- The `n` little-endian bytes of a number. -/
def leBytes : Nat → Nat → List Byte
  | 0, _ => []
  | n + 1, v => BitVec.ofNat 8 v :: leBytes n (v / 256)

/-- The bytes of words, little-endian, in order. -/
def wordsBytes : List Word → List Byte
  | [] => []
  | w :: t => leBytes 4 w.toNat ++ wordsBytes t

/-- `n` bytes of a byte string from offset `o`, as a little-endian number; bytes past the end read 0. -/
def leAt (l : List Byte) (o n : Nat) : Nat := leNat ((l.drop o).take n)

/-- `n` bytes of a byte string from offset `o`, as a big-endian number. -/
def beAt (l : List Byte) (o n : Nat) : Nat := beNat ((l.drop o).take n)

end Sys2Proof.Machine
end

