-- ==== Sys2Proof/Machine/Rings.lean ====
section
/-!
DEFINITION. The ring engine (R86 to R112): descriptors, enable checks, doorbells, acceptance, completion records, disable.
-/
namespace Sys2Proof.Machine

/-! ### Descriptors (R86, R87) -/

/-- CFG.TYPE. -/
def ringType (s : State) (r : Nat) : Nat := s.f (Reg.RING_CFG r) 8 8

/-- 2^LOG2_COUNT entries. -/
def ringCount (s : State) (r : Nat) : Nat := 2 ^ s.f (Reg.RING_CFG r) 0 5

/-- Entry size in bytes. -/
def ringEsize (s : State) (r : Nat) : Nat := 32 * 2 ^ s.f (Reg.RING_CFG r) 5 2

/-- CFG.SPACE: the ring lies in host memory. -/
def ringHost (s : State) (r : Nat) : Bool := s.b (Reg.RING_CFG r) 7

/-- The ring's base address. -/
def ringBase (s : State) (r : Nat) : Nat := s.rd64 (Reg.RING_BASE_LO r) (Reg.RING_BASE_HI r)

/-- CTRL.ENABLE. -/
def ringEnabled (s : State) (r : Nat) : Bool := s.b (Reg.RING_CTRL r) 0

/-- STATUS.QUIESCED. -/
def ringQuiet (s : State) (r : Nat) : Bool := s.b (Reg.RING_STATUS r) 0

/-- COMP.COMP_EN. -/
def ringComp (s : State) (r : Nat) : Bool := s.b (Reg.RING_COMP r) 31

/-- COMP.RING_ID. -/
def ringCompId (s : State) (r : Nat) : Nat := s.f (Reg.RING_COMP r) 0 13

/-- RING_EPOCH. -/
def ringEpoch (s : State) (r : Nat) : Nat := s.f (Reg.RING_EPOCH_STAT r) 0 16

/-- OWNER.BLOCK and OWNER.INSTANCE. -/
def ringOwner (s : State) (r : Nat) : Nat × Nat := (s.f (Reg.RING_OWNER r) 0 16, s.f (Reg.RING_OWNER r) 16 8)

/-- DIR by type (R92); SIDEBAND takes it from CFG[16]. True: the module produces. -/
def ringDir (s : State) (r : Nat) : Bool :=
  let t := ringType s r
  if t = 0x0B then s.b (Reg.RING_CFG r) 16
  else decide (t = 0x01 ∨ t = 0x03 ∨ t = 0x04 ∨ t = 0x06 ∨ t = 0x07 ∨ t = 0x08 ∨ t = 0x09 ∨ t = 0x0A)

/-- The module consumes the ring's entries (R92). -/
def ringConsumed (s : State) (r : Nat) : Bool := !ringDir s r || decide (ringType s r = 0x01)

/-- Address of the entry with index `j`. -/
def entryAddr (s : State) (r : Nat) (j : Word) : Nat := ringBase s r + (j.toNat % ringCount s r) * ringEsize s r

/-- Entries held: PROD − CONS. -/
def ringFill (s : State) (r : Nat) : Nat := (s.rd (Reg.RING_PROD r) - s.rd (Reg.RING_CONS r)).toNat

/-- The page base of a ring owner. -/
def ownerBase (o : Nat × Nat) : Nat :=
  if o.1 = 0x04 then 0x3000
  else if o.1 = 0x11 then 0x11000
  else if o.1 = 0x21 then 0x22000
  else if o.1 = 0x30 then 0x30000
  else if o.1 = 0x31 then 0x31000 + 0x1000 * o.2
  else if o.1 = 0x40 then 0x40000 + 0x10000 * o.2
  else if o.1 = 0x46 then 0x4D000 + 0x10000 * o.2
  else if o.1 = 0xA0 then 0xA0000 + 0x1000 * o.2
  else 0xC0000 + 0x1000 * o.2

/-- The page whose ROLE an entry of the ring is checked against (R103, R106, R393: SBh uses the head's role). -/
def roleBase (o : Nat × Nat) : Nat := if o.1 = 0x46 then 0x40000 + 0x10000 * o.2 else ownerBase o

/-- R92: the entry sizes permitted for a type and owner; a job engine needs 128 B (R231). Reserved types are left to
check 3. -/
def sizeOk (t esz : Nat) (o : Nat × Nat) : Bool :=
  if esz = 3 then false
  else if t = 0x01 ∨ t = 0x08 ∨ t = 0x0C then decide (1 ≤ esz)
  else if t = 0x02 then (if o.1 = 0x31 then decide (esz = 2) else decide (1 ≤ esz))
  else if t = 0x03 ∨ t = 0x07 ∨ t = 0x0A then decide (esz = 0)
  else if t = 0x04 ∨ t = 0x09 ∨ t = 0x0B then decide (esz = 1)
  else if t = 0x05 ∨ t = 0x06 then decide (esz ≤ 1)
  else true

/-- R89 check 3 without its counts: OWNER names a page and unit that the type permits. -/
def ownerOk (t : Nat) (ow : Word) : Bool :=
  let blk := fld ow 0 16
  let ins := fld ow 16 8
  decide (fld ow 24 8 = 0) &&
  (if t = 0x01 ∨ t = 0x0C then decide (blk = 0x21 ∧ ins = 0)
   else if t = 0x02 then decide ((blk = 0x30 ∧ ins = 0) ∨ (blk = 0x31 ∧ ins < 8))
   else if t = 0x03 then decide (ow = 0)
   else if t = 0x04 then decide (blk = 0x40 ∧ ins < 4)
   else if t = 0x05 ∨ t = 0x06 then decide (blk = 0xA0 ∧ ins < 8)
   else if t = 0x07 then decide (blk = 0x04 ∧ ins = 0)
   else if t = 0x08 ∨ t = 0x09 then decide (blk = 0xC0 ∧ ins < 2)
   else if t = 0x0A then decide (blk = 0x11 ∧ ins < 2)
   else if t = 0x0B then decide (blk = 0x46 ∧ ins < 4)
   else false)

/-- The enabled rings: those whose CTRL word is listed with ENABLE set. -/
def enabledRings (s : State) : List Nat :=
  (s.regs.filter fun p => decide (0x100000 ≤ p.1 ∧ p.1 < 0x180000 ∧ p.1 % 64 = 0x18) && bit p.2 0).map
    fun p => (p.1 - 0x100000) / 64

/-- Enabled rings, other than `r`, of a type with an owner word. -/
def sameRings (s : State) (r t : Nat) (ow : Word) : List Nat :=
  (enabledRings s).filter fun q => decide (q ≠ r ∧ ringType s q = t ∧ s.rd (Reg.RING_OWNER q) = ow)

/-- R89 check 3: OWNER, and the largest number of enabled rings an owner serves (R157, R231). -/
def ownerCheck (s : State) (r : Nat) : Bool :=
  let t := ringType s r
  let ow := s.rd (Reg.RING_OWNER r)
  ownerOk t ow &&
  (if t = 0x02 ∧ fld ow 0 16 = 0x31 then decide ((sameRings s r t ow).length < 16)
   else if t = 0x0A ∧ ow = 0x11 then (sameRings s r t ow).isEmpty
   else true)

/-- The enable checks of R89 in order; the result is the code of the first that fails. `evlog` skips check 7 (R71). -/
def ringCheck (s : State) (r : Nat) (evlog : Bool) : Option Nat :=
  let lc := s.f (Reg.RING_CFG r) 0 5
  let t := ringType s r
  if lc < 4 ∨ 20 < lc then some 1
  else if !sizeOk t (s.f (Reg.RING_CFG r) 5 2) (ringOwner s r) then some 2
  else if !ownerCheck s r then some 3
  else if s.f (Reg.RING_BASE_LO r) 0 12 ≠ 0 then some 4
  else if (ringComp s r && !(ringEnabled s (ringCompId s r) && decide (ringType s (ringCompId s r) = 0x03)))
      || (!ringComp s r && decide (t = 0x02)) then some 5
  else if !ringHost s r && decide (usableTop s < ringBase s r + ringCount s r * ringEsize s r) then some 6
  else if !evlog && decide (t = 0x07) then some 7
  else none

/-- Enables a ring whose checks pass (R89, R91): the other CTRL fields take `ctrl`. DESIGN CHOICE (log entry 46): the spec states
nothing that clears STATUS.HOST_ERROR, so it stays set, over this enable too. -/
def ringTurnOn (s : State) (r : Nat) (ctrl : Word) : State :=
  let dirty := s.ring.dirty.contains r
  let s := if dirty then s.setF (Reg.RING_EPOCH_STAT r) 0 16 (ringEpoch s r + 1) else s
  let s := { s with ring := { s.ring with dirty := s.ring.dirty.filter (· ≠ r) } }
  let s := s.wr (Reg.RING_CTRL r) ((ctrl &&& 0x7F03) ||| 1)
  (s.setF (Reg.RING_STATUS r) 8 4 0).setB (Reg.RING_STATUS r) 0 false

/-! ### Signalling and production (R94, R96) -/

/-- The module advances an index it owns: CTRL.VECTOR is signalled if VEC_EN is 1 (R94). -/
def ringSignal (s : State) (r : Nat) : State :=
  if s.b (Reg.RING_CTRL r) 14 then triggerVector s (s.f (Reg.RING_CTRL r) 8 6) else s

/-- The ring is full. -/
def ringFull (s : State) (r : Nat) : Bool := decide (ringCount s r ≤ ringFill s r)

/-- PHASE of the next record of a ring (R100). -/
def ringPhase (s : State) (r : Nat) : Nat := 1 - (s.rdN (Reg.RING_PROD r) / ringCount s r) % 2

/-- Service class of a ring's HBM entries (R462): 5 for the event log and perf dumps, else 4. -/
def ringClass (s : State) (r : Nat) : Nat := if ringType s r ∈ [0x07, 0x08, 0x09] then 5 else 4

/-- The bytes of an entry: cut or filled with 0 to the entry size. -/
def pushBytes (s : State) (r : Nat) (l : List Byte) : List Byte := (l ++ List.replicate (ringEsize s r) 0).take (ringEsize s r)

/-- The module produces one entry (R94): the whole entry is written, then PROD advances. None: the ring is disabled or
full. Bytes past the entry size are cut and missing bytes are 0. -/
def ringPush (s : State) (r : Nat) (bytes : List Byte) : Option State :=
  if !ringEnabled s r || ringFull s r then none
  else
    let s := memWrite s (ringHost s r) (ringClass s r) (entryAddr s r (s.rd (Reg.RING_PROD r))) (pushBytes s r bytes)
    let s := s.wr (Reg.RING_PROD r) (s.rd (Reg.RING_PROD r) + 1)
    some (ringSignal s r)

/-- A producer waits for space (R96). -/
def ringStall (s : State) (r : Nat) : State :=
  if s.b (Reg.RING_STATUS r) 2 then s
  else
    let s := s.setB (Reg.RING_STATUS r) 2 true
    { s with ring := { s.ring with stallAt := tabSet (fun _ => none) s.ring.stallAt r (some s.now) } }

/-- A stall ends. -/
def ringUnstall (s : State) (r : Nat) : State :=
  let s := s.setB (Reg.RING_STATUS r) 2 false
  { s with ring := { s.ring with stallAt := tabSet (fun _ => none) s.ring.stallAt r none } }

/-! ### Jobs and completion records (R95, R100, R101) -/

/-- Index `a` comes before index `b` on a free-running ring. -/
def before (a b : Word) : Bool := decide (a ≠ b ∧ (b - a).toNat < 2 ^ 31)

/-- A held record is releasable: no earlier job of its ring is undecided or held (R101). -/
def releasable (s : State) (c : Comp) : Bool :=
  match c.jobRing with
  | none => true
  | some r =>
    !(s.ring.jobs.any fun j => decide (j.ring = r) && before j.index c.index) &&
    !(s.ring.held.any fun d => decide (d.jobRing = some r) && before d.index c.index)

/-- Moves held records that have become releasable to the ready queue, at most `fuel` of them, in order of SEQ. -/
def releaseN : Nat → State → State
  | 0, s => s
  | n + 1, s =>
    match s.ring.held.find? (releasable s) with
    | none => s
    | some c => releaseN n { s with ring := { s.ring with held := s.ring.held.erase c, ready := s.ring.ready ++ [c] } }

/-- Moves every releasable record to the ready queue. -/
def release (s : State) : State := releaseN s.ring.held.length s

/-- STATUS.BUSY of a ring follows its accepted jobs. -/
def ringBusy (s : State) (r : Nat) : State :=
  s.setB (Reg.RING_STATUS r) 1 (s.ring.jobs.any fun j => decide (j.ring = r))

/-- The words of a completion record without PHASE (R100). -/
def compWords (ring : Nat) (index : Word) (status : Nat) (stamp tag : Word) (job : List Word) : List Word :=
  [w32 (ring % 0x2000 + status * 0x10000), index, stamp, tag] ++ (job ++ [0, 0, 0, 0]).take 4

/-- Records wait for space in a full completion ring: STALLED of that ring, and of every job ring with such a record (R87, R96). -/
def stallComp (s : State) (cr : Nat) : State :=
  (s.ring.ready.filter fun c => decide (c.compRing = cr)).foldl
    (fun s c => match c.jobRing with | some r => ringStall s r | none => s) (ringStall s cr)

/-- An enabled COMPLETION ring. -/
def compOn (s : State) (cr : Nat) : Bool := ringEnabled s cr && decide (ringType s cr = 0x03)

/-- The module, as producer, waits for space in a completion ring when it is enabled and full and a record is ready for it. -/
def waitComp (s : State) (cr : Nat) : State :=
  if compOn s cr && ringFull s cr && s.ring.ready.any fun c => decide (c.compRing = cr) then stallComp s cr else s

/-- The outcome of an entry is decided: the job leaves the engine and, with COMP_EN, its record is held for release
(R101, R108); a full completion ring stalls (R96). -/
def finish (s : State) (r : Nat) (index tag : Word) (status : Nat) (job : List Word) : State :=
  let s := { s with ring := { s.ring with jobs := s.ring.jobs.filter fun j => decide (¬(j.ring = r ∧ j.index = index)) } }
  let s := ringBusy s r
  let s := if ringComp s r then
      { s with ring := { s.ring with
          held := s.ring.held ++ [⟨ringCompId s r, some r, index, compWords r index status s.ns32 tag job⟩] } }
    else s
  waitComp (release s) (ringCompId s r)

/-- `finish` for an accepted job. -/
def finishJob (s : State) (j : Job) (status : Nat) (job : List Word) : State := finish s j.ring j.index j.tag status job

/-- Writes the first ready record of a completion ring (R94, R100, R101). The stall of the ring and of the record's job ring is
over, and begins anew when another record finds no space (R96). -/
def writeComp (s : State) (cr : Nat) : State :=
  match s.ring.ready.find? fun c => decide (c.compRing = cr) with
  | none => s
  | some c =>
    let w := match c.words with
      | x :: t => setFld x 15 1 (ringPhase s cr) :: t
      | [] => []
    match if compOn s cr then ringPush s cr (wordsBytes w) else none with
    | some s =>
      let s := { s with ring := { s.ring with ready := s.ring.ready.erase c } }
      let s := ringUnstall s cr
      waitComp (match c.jobRing with | some r => ringUnstall s r | none => s) cr
    | none => waitComp s cr

/-! ### Acceptance (R95 to R99, R106) -/

/-- The entry at an index of a ring. -/
def entryBytes (s : State) (r : Nat) (j : Word) : List Byte :=
  let a := entryAddr s r j
  if ringHost s r then hostBytes s a (ringEsize s r) else hbmBytes s a (ringEsize s r)

/-- TAG of an entry. -/
def entryTag (e : List Byte) : Word := w32 (leAt e 4 4)

/-- TAG of the completion record of an entry. DESIGN CHOICE (log entry 46): an entry of a SCENE_RX ring holds a packet header and no
TAG (R170), and the spec states none for its record: it is a free value. -/
def recTag (s : State) (r : Nat) (e : List Byte) : Word := if ringType s r = 0x01 then Config.freeWord s.freeCount else entryTag e

/-- OPCODE of an entry. -/
def entryOp (e : List Byte) : Nat := leAt e 0 1

/-- EPOCH of an entry. -/
def entryEpoch (e : List Byte) : Nat := leAt e 2 2

/-- The module takes the entry at CONS: CONS advances and the vector is signalled (R95). -/
def takeEntry (s : State) (r : Nat) : State :=
  ringSignal (s.wr (Reg.RING_CONS r) (s.rd (Reg.RING_CONS r) + 1)) r

/-- The stale count of a unit, 16 bits (R104). -/
def staleCount (s : State) (base : Nat) : State := s.incTo (base + 0x8FC) 0xFFFF

/-- The page belongs to the decode cluster or a job engine. -/
def isEngine (base : Nat) : Bool := match pageAt base with | some p => decide (p.typ = 0x30 ∨ p.typ = 0x31) | none => false

/-- The page that owns a ring is not available to host software (R78). -/
def ownerGone (s : State) (r : Nat) : Bool :=
  match pageAt (ownerBase (ringOwner s r)) with | some p => notNeg s p | none => false

/-- The consumer can take an entry: ring enabled, something to take, host memory reachable for a host ring, and the unit not
suspended (R520). The page is enabled, or it is not available, and then its jobs complete with NOT_NEGOTIATED (R78). -/
def canAccept (s : State) (r : Nat) : Bool :=
  ringEnabled s r && decide (ringFill s r ≠ 0) && (enabled s (ownerBase (ringOwner s r)) || ownerGone s r) &&
  (!ringHost s r || s.power.pcieUp) &&
  decide (s.powerState ≠ 2) && !(s.suspended && isEngine (ownerBase (ringOwner s r)))

/-- Acceptance of the entry at CONS of a ring whose entries begin with the common header (R98; a HOST_SCENE entry has no
epoch, R174): an uncorrectable read
(R97), a marked target (R112), a page that is not negotiated (R78) and a stale epoch (R106) decide the outcome at
once. Otherwise the entry is held as an accepted job, which is the second component. -/
def acceptHead (s : State) (r : Nat) : State × Option Job :=
  if !canAccept s r then (s, none)
  else
    let idx := s.rd (Reg.RING_CONS r)
    let a := entryAddr s r idx
    let e := entryBytes s r idx
    let bad := !ringHost s r && rangeBad s a (ringEsize s r)
    let s := if ringHost s r then s else touch s 4 a (ringEsize s r)
    let o := ringOwner s r
    let unit := roleBase o
    let s := takeEntry s r
    if bad then
      let tag := if blockBad s (a / 32) then 0 else entryTag e
      ((finish s r idx tag 0x0E []).raise .ringMediaError [w32 r, idx], none)
    else if s.ring.marks.contains (r, idx) then
      let s := { s with ring := { s.ring with marks := s.ring.marks.filter (· ≠ (r, idx)) } }
      (finish s r idx (entryTag e) 0x02 [], none)
    else if ownerGone s r then
      (finish s r idx (entryTag e) 0x05 [], none)
    else if ringType s r ≠ 0x0C ∧ entryEpoch e ≠ roleEpoch s unit then
      let s := finish s r idx (entryTag e) 0x04 []
      ((staleCount s unit).raise .staleRoleSeen [w32 r, idx, w32 (entryEpoch e), w32 (roleEpoch s unit)], none)
    else
      let j : Job := ⟨r, idx, entryTag e, e, s.now⟩
      (ringBusy { s with ring := { s.ring with jobs := s.ring.jobs ++ [j] } } r, some j)

/-! ### Disable (R108, R111) -/

/-- The first of two indices, if any. -/
def firstOf (h : Option Word) (bad : Bool) (idx : Word) : Option Word := if h.isNone && bad then some idx else h

/-- Flushes the entries between CONS and PROD of a ring disabled in ABORT mode (R111), at most `fuel` of them. `fails` are the
indices whose host-memory read fails; every such read fails while the link is down (R579). The last two components are the first
entry whose host-memory read failed and the first whose HBM read failed. DESIGN CHOICE (log entry 46): an abort mark (R112) on an
entry that is accepted here goes with it; the entry completes with DISABLED. -/
def flushN (fails : List Word) (r : Nat) : Nat → State → Option Word → Option Word → State × Option Word × Option Word
  | 0, s, h, m => (s, h, m)
  | n + 1, s, h, m =>
    if ringFill s r = 0 then (s, h, m)
    else
      let idx := s.rd (Reg.RING_CONS r)
      let a := entryAddr s r idx
      let badH := ringHost s r && ringComp s r && (fails.contains idx || !s.power.pcieUp)
      let badM := !ringHost s r && ringComp s r && blockBad s (a / 32)
      let s := if ringComp s r && !ringHost s r then touch s 4 a 8 else s
      let tag := if badH || badM then 0 else recTag s r (entryBytes s r idx)
      let s := s.wr (Reg.RING_CONS r) (idx + 1)
      let s := { s with ring := { s.ring with marks := s.ring.marks.filter (· ≠ (r, idx)) } }
      let s := if ringComp s r then (finish s r idx tag 0x0D []).useFree else s
      flushN fails r n s (firstOf h badH idx) (firstOf m badM idx)

/-- The flush of R111 with its events. DESIGN CHOICE (log entry 46): where several entries cannot be read, the event that R111
raises once names the first of them. -/
def flushRing (s : State) (r : Nat) (fails : List Word) : State :=
  let n := ringFill s r
  let p := flushN fails r n s none none
  let s := p.1
  let s := if 0 < n then ringSignal s r else s
  let s := match p.2.1 with
    | some i => (s.setB (Reg.RING_STATUS r) 3 true).raise .ringHostError [w32 r, i]
    | none => s
  match p.2.2 with
  | some i => s.raise .ringMediaError [w32 r, i]
  | none => s

/-- The accepted jobs of a ring. -/
def jobsOf (s : State) (r : Nat) : List Job := s.ring.jobs.filter fun j => decide (j.ring = r)

/-- Quiescence of a ring (R108): disabled, no accepted job without outcome, every record written. -/
def ringIsQuiet (s : State) (r : Nat) : Bool :=
  !ringEnabled s r && (jobsOf s r).isEmpty &&
  !(s.ring.held.any fun c => decide (c.jobRing = some r)) && !(s.ring.ready.any fun c => decide (c.jobRing = some r))

/-- R90: an enabled ring with COMP_EN names completion ring `r`. -/
def compHeld (s : State) (r : Nat) : Bool :=
  decide (ringType s r = 0x03) && (enabledRings s).any fun q => ringComp s q && decide (ringCompId s q = r)

/-- R93 doorbell_check: 0 accepted, 1 range, 2 epoch, 3 size, 4 disabled. -/
def doorbellCheck (s : State) (r : Nat) (idx : Word) (epoch : BitVec 16) (bytes : Nat) : Nat :=
  if bytes ≠ 8 then 3
  else if !ringEnabled s r then 4
  else if epoch.toNat ≠ ringEpoch s r then 2
  else
    let cons := s.rd (Reg.RING_CONS r)
    let prod := s.rd (Reg.RING_PROD r)
    if ringDir s r then (if (prod - cons).toNat < (idx - cons).toNat then 1 else 0)
    else if ringCount s r < (idx - cons).toNat ∨ (idx - cons).toNat < (prod - cons).toNat then 1 else 0

end Sys2Proof.Machine
end

