-- ==== Sys2Proof/Machine/Net.lean ====
section
/-!
DEFINITION. The Ethernet ports, the flow table and the packet pool (R159 to R170).
-/
namespace Sys2Proof.Machine

/-! ### PST headers (R163 to R165) -/

/-- A PST header (R163). -/
structure PstHdr where
  ptype : Nat
  restart : Bool
  sid : Nat
  seq : Word
  frame : Word
  sec : Nat
  ns : Nat
  len : Nat
  ts0 : Nat
  ts1 : Nat
  deriving DecidableEq, Repr

/-- The header at the start of a packet; missing bytes read 0. -/
def pstHdr (b : List Byte) : PstHdr where
  ptype := beAt b 0 1 % 16
  restart := beAt b 1 1 / 128 = 1
  sid := beAt b 2 2
  seq := w32 (beAt b 4 4)
  frame := w32 (beAt b 8 4)
  sec := beAt b 12 6
  ns := beAt b 18 4
  len := beAt b 22 2
  ts0 := beAt b 24 4
  ts1 := beAt b 28 4

/-- R165: the conditions that a packet of `n` bytes with header bytes `b` shows by itself. DEDUCED: TS0 and TS1 of a
type whose row of R164 gives 0 count as reserved fields. -/
def pstBad (b : List Byte) (n : Nat) : Bool :=
  let h := pstHdr b
  decide (n < 32 ∨ beAt b 0 1 / 16 ≠ 1 ∨ h.ptype = 0 ∨ 5 ≤ h.ptype ∨ h.len + 32 ≠ n ∨ 999999999 < h.ns ∨
    beAt b 1 1 % 128 ≠ 0) ||
  (if h.ptype = 1 then decide (h.ts0 ≠ 0 ∨ h.ts1 ≠ 0)
   else if h.ptype = 2 then decide (65536 ≤ h.ts1 ∨ h.ts1 = 0)
   else if h.ptype = 3 then decide (h.ts1 / 65536 < 2 ∨ 4096 < h.ts1 / 65536 ∨ h.ts1 / 65536 ≤ h.ts1 % 65536)
   else decide (h.ts0 ≠ 0 ∨ h.ts1 ≠ 0 ∨ h.frame ≠ 0 ∨ h.sec ≠ 0 ∨ h.ns ≠ 0 ∨ h.len ≠ 0))

/-! ### The flow table (R166 to R168) -/

/-- The valid flow entries: those whose FLOW_CTRL word is listed with VALID set, in ascending number. -/
def validFlows (s : State) : List Nat :=
  (s.regs.filter fun p => decide (0x200000 ≤ p.1 ∧ p.1 < 0x240000 ∧ p.1 % 32 = 0) && bit p.2 0).map
    fun p => (p.1 - 0x200000) / 32

/-- FLOW_CTRL.STORE. -/
def flowStore (s : State) (i : Nat) : Nat := s.f (Reg.FLOW_FLOW_CTRL i) 16 4

/-- R168: the lowest-numbered valid entry that names its store. -/
def flowOwnsStore (s : State) (i : Nat) : Bool :=
  !((validFlows s).any fun j => decide (j < i ∧ flowStore s j = flowStore s i))

/-- R168 without VLAN and source: VALID, STREAM_HI, the path (0 NET0, 1 NET1, 2 host) and the store's owner. -/
def flowAdmits (s : State) (i path sid : Nat) : Bool :=
  s.b (Reg.FLOW_FLOW_CTRL i) 0 && decide (s.f (Reg.FLOW_FLOW_CTRL i) 8 3 = sid / 8192) &&
  s.b (Reg.FLOW_FLOW_CTRL i) (1 + path) && flowOwnsStore s i

/-- R168: VLAN and source of a packet from a port. -/
def flowSource (s : State) (i : Nat) (vlan : Option (BitVec 12)) (src : Word) : Bool :=
  (match vlan with
   | some v => s.b (Reg.FLOW_FLOW_MATCH i) 12 && decide (s.f (Reg.FLOW_FLOW_MATCH i) 0 12 = v.toNat)
   | none => !s.b (Reg.FLOW_FLOW_MATCH i) 12) &&
  (!s.b (Reg.FLOW_FLOW_MATCH i) 13 || decide (s.rd (Reg.FLOW_FLOW_SRC i) = src))

/-- A flow beyond its registers. -/
def flowOf (s : State) (i : Nat) : FlowSt := tabGet (fun _ => FlowSt.fresh) s.ing.flows i

/-- The state with a flow's internal part. -/
def putFlow (s : State) (i : Nat) (f : FlowSt) : State :=
  { s with ing := { s.ing with flows := tabSet (fun _ => FlowSt.fresh) s.ing.flows i f } }

/-- R167: an activation with FLOW_CTRL value `v` is allowed. -/
def flowActivateOk (s : State) (i : Nat) (v : Word) : Bool :=
  let ring := s.f (Reg.FLOW_FLOW_TARGET i) 0 13
  (!bit v 4 || (s.feat 12 && bit v 1 && bit v 2 &&
    decide (((validFlows s).filter fun j => decide (j ≠ i) && s.b (Reg.FLOW_FLOW_CTRL j) 4).length ≤ 63))) &&
  ((!bit v 1 && !bit v 2) || (ringEnabled s ring && decide (ringType s ring = 0x01)))

/-- The writable bits of FLOW_CTRL (R166). -/
def flowCtrlMask : Word := 0x000F071F

/-- R167: a write of FLOW_CTRL. -/
def flowCtrlWrite (s : State) (i : Nat) (v : Word) : State :=
  let a := Reg.FLOW_FLOW_CTRL i
  let v := v &&& flowCtrlMask
  if bit v 0 && !s.b a 0 then
    if flowActivateOk s i v then
      let s := ((s.wr a v).wr (Reg.FLOW_ACCEPTED i) 0).wr (Reg.FLOW_DUPLICATES i) 0
      let s := (s.wr (Reg.FLOW_LATE i) 0).wr (Reg.FLOW_PATH_STALE i) 0x30000
      putFlow s i { FlowSt.fresh with act := s.now }
    else refuse s a
  else s.wr a v

/-- FLOW_ACTIVATE (R167): a write of a flow's FLOW_CTRL. -/
def execFlowActivate (req : Requester) (flow : Fin 8192) (value : Word) (s : State) : Host.Outcome State Fault Refusal :=
  .next (gated s req (Reg.FLOW_FLOW_CTRL flow) none fun s => flowCtrlWrite s flow value)

/-! ### The packet pool (R170) -/

/-- Bytes of a pool slot. -/
def slotBytes : Nat := 9216

/-- Slots of the pool: POOL_SIZE MiB. -/
def poolSlots (s : State) : Nat := s.rdN Reg.INGEST_POOL_SIZE * 2 ^ 20 / slotBytes

/-- HBM address of a slot. -/
def slotAddr (s : State) (i : Nat) : Nat := s.rd64 Reg.INGEST_POOL_BASE_LO Reg.INGEST_POOL_BASE_HI + i * slotBytes

/-- The `n` lowest free slots, if there are so many. DESIGN CHOICE: the spec does not say which slot is taken. -/
def freeSlots (s : State) (n : Nat) : Option (List Nat) :=
  let l := (List.range (min (poolSlots s) (s.ing.slots.length + n))).filter fun i => !s.ing.slots.contains i
  if l.length < n then none else some (l.take n)

/-- The pieces of `len` bytes from offset `off` of data laid over slots. -/
def slotPieces (s : State) : List Nat → Nat → Nat → Pieces
  | [], _, _ => []
  | i :: t, off, len =>
    if len = 0 then []
    else if slotBytes ≤ off then slotPieces s t (off - slotBytes) len
    else (slotAddr s i + off, min len (slotBytes - off)) :: slotPieces s t 0 (len - min len (slotBytes - off))

/-- Bytes of pieces, in order. -/
def pieceBytes (s : State) (p : Pieces) : List Byte := p.flatMap fun q => hbmBytes s q.1 q.2

/-- Some piece reads poisoned (R171, R224). -/
def pieceBad (s : State) (p : Pieces) : Bool := p.any fun q => rangeBad s q.1 q.2

/-- The part of pieces from offset `off`, `len` bytes long. -/
def cutPieces : Pieces → Nat → Nat → Pieces
  | [], _, _ => []
  | (a, n) :: t, off, len =>
    if len = 0 then []
    else if n ≤ off then cutPieces t (off - n) len
    else (a + off, min len (n - off)) :: cutPieces t 0 (len - min len (n - off))

/-- Writes bytes over slots. -/
def fillSlots (s : State) : List Nat → List Byte → State
  | [], _ => s
  | i :: t, b => fillSlots (hbmWrite s 3 (slotAddr s i) (b.take slotBytes)) t (b.drop slotBytes)

/-- Slots taken. -/
def takeSlots (s : State) (l : List Nat) : State := { s with ing := { s.ing with slots := s.ing.slots ++ l } }

/-- Slots given back. -/
def giveSlots (s : State) (l : List Nat) : State :=
  { s with ing := { s.ing with slots := s.ing.slots.filter fun i => !l.contains i } }

/-! ### Ports (R159 to R162) -/

/-- The page base of a port. -/
def netBase (p : Nat) : Nat := 0x20000 + 0x1000 * p

/-- A 128-bit address from four words, word 0 highest. -/
def addr128 (s : State) (a : Nat) : Nat :=
  s.rdN a * 2 ^ 96 + s.rdN (a + 4) * 2 ^ 64 + s.rdN (a + 8) * 2 ^ 32 + s.rdN (a + 12)

/-- An IPv4 address in IPv4-mapped form. -/
def mapped4 (w : Word) : Nat := 0xFFFF * 2 ^ 32 + w.toNat

/-- R160: the port's own IPv4 or IPv6 address. -/
def ownAddr (s : State) (p dst : Nat) : Bool :=
  decide (s.rd (Reg.NET_IPV4_ADDR p) ≠ 0 ∧ dst = mapped4 (s.rd (Reg.NET_IPV4_ADDR p))) ||
  (s.b (Reg.NET_PORT_CTRL p) 3 && decide (dst = addr128 s (Reg.NET_IPV6_ADDR p 0)))

/-- R160: a group of the port's multicast table. DESIGN CHOICE (log entry 38): IPV4_ADDR 0 takes the port's own IPv4 address away (R161)
and not the IPv4 groups of the table. -/
def mcastAddr (s : State) (p dst : Nat) : Bool :=
  decide (dst ≠ 0) && (List.range 64).any fun m => decide (addr128 s (Reg.NET_MCAST p m) = dst)

/-- A packet discarded before the flow match (R159, R160, R162, R170). -/
def notPst (s : State) (p : Nat) : State := s.inc (Reg.NET_NOT_PST p)

/-- LINK_STATUS.UP. -/
def linkUp (s : State) (p : Nat) : Bool := s.b (Reg.NET_LINK_STATUS p) 0

/-- A malformed packet (R165). -/
def badPst (s : State) (h : PstHdr) : State :=
  (s.inc Reg.INGEST_BAD_PST_COUNT).raise .badPst [w32 h.sid, h.seq]

/-- A packet that fails the match (R168). -/
def noFlow (s : State) (h : PstHdr) (path : Nat) : State :=
  (s.inc Reg.INGEST_NO_FLOW_COUNT).raise .noFlow [w32 h.sid, w32 path]

/-- A packet discarded for lack of pool or ring space (R170). -/
def rxFull (s : State) (p : Fin 2) : State :=
  let s := s.inc (Reg.NET_RX_RING_FULL p)
  s.raise (.rxPoolExhausted p) [s.rd (Reg.NET_RX_RING_FULL p)]

/-- R170: the SCENE_RX entry of a packet. -/
def rxEntryBytes (hdr : List Byte) (slot port : Nat) (stamp : Word) : List Byte :=
  hdr.take 32 ++ leBytes 4 slot ++ [BitVec.ofNat 8 port, 0, 0, 0] ++ leBytes 4 stamp.toNat

/-- R170: a matched packet goes to a pool slot and to the flow's SCENE_RX ring, or is discarded. -/
def netPost (s : State) (p : Fin 2) (flow : Nat) (b : List Byte) : State :=
  let r := s.f (Reg.FLOW_FLOW_TARGET flow) 0 13
  ((freeSlots s 1).bind List.head?).elim (rxFull s p) fun i =>
    if ringEnabled s r && decide (ringType s r = 0x01) && !ringFull s r then
      let idx := s.rd (Reg.RING_PROD r)
      match ringPush (hbmWrite s 3 (slotAddr s i) b) r (rxEntryBytes b i p s.ns32) with
      | some s => { takeSlots s [i] with ing := { (takeSlots s [i]).ing with rx := s.ing.rx ++ [⟨r, idx, [i], p, b.length⟩] } }
      | none => rxFull s p
    else rxFull s p

/-- R160, R162, R168, R170: a UDP packet that reaches port `p` over an up link. DESIGN CHOICE (log entry 38): NET matches the flow before
INGEST makes the malformed checks of R165, all but that of a packet shorter than its header. -/
def netReceive (s : State) (p : Fin 2) (vlan : Option (BitVec 12)) (src : Word) (dst : Nat) (udp : Nat) (b : List Byte) :
    State :=
  if udp ≠ s.f (Reg.NET_PST_UDP_PORT p) 0 16 ∨ !(ownAddr s p dst || mcastAddr s p dst) then notPst s p
  else if s.powerState = 2 ∨ !enabled s (netBase p) ∨ s.rd Reg.INGEST_POOL_SIZE = 0 then notPst s p
  else
    let h := pstHdr b
    let i := h.sid % 8192
    if b.length < 32 then badPst s h
    else if flowAdmits s i p h.sid && flowSource s i vlan src then netPost s p i b
    else noFlow s h p

/-- Length, from destination address to FCS, of the frame that carries a packet of `n` bytes over UDP to `dst` (R159). -/
def pstFrameLen (tagged : Bool) (dst n : Nat) : Nat :=
  14 + (if tagged then 4 else 0) + (if dst / 2 ^ 32 = 0xFFFF then 20 else 40) + 8 + n + 4

/-- PST_PACKET_RECEIVED (R170). The frame that carries the packet is counted by ETHERNET_FRAME_RECEIVED, which also discards and
counts a frame longer than MAX_FRAME (R159): no packet of such a frame gets here. -/
def execPstPacketReceived (port : Fin 2) (vlan : Option (BitVec 12)) (src : Word) (dst : BitVec 128) (udp : BitVec 16)
    (packet : List Byte) (s : State) : Host.Outcome State Fault Refusal :=
  .next (
    if s.on && linkUp s port && decide (pstFrameLen vlan.isSome dst.toNat packet.length ≤ s.rdN (Reg.NET_MAX_FRAME port)) then
      netReceive s port vlan src dst.toNat udp.toNat packet
    else s)

/-- R159: a frame with good FCS that the port does not support. -/
def frameDiscarded (s : State) (p : Fin 2) (f : EthFrame) : Bool :=
  decide (2 ≤ f.tags ∨ s.rdN (Reg.NET_MAX_FRAME p) < f.length ∨ f.kind = .other) || f.fragment

/-- The RS-FEC counts of a frame (R161, R189). -/
def fecCount (s : State) (p : Fin 2) (f : EthFrame) : State :=
  let s := s.wr64 (Reg.NET_FEC_CORR_LO p) (Reg.NET_FEC_CORR_HI p)
    ((s.rd64 (Reg.NET_FEC_CORR_LO p) (Reg.NET_FEC_CORR_HI p) + f.fecCorrected) % 2 ^ 64)
  if f.fecUncorrected = 0 then s
  else
    let s := s.incBy (Reg.NET_FEC_UNCORR p) f.fecUncorrected
    s.raise (.fecUncorrected p) [s.rd (Reg.NET_FEC_UNCORR p)]

/-- ETHERNET_FRAME_RECEIVED (R159, R161): the frame is counted, and an unsupported one is discarded. -/
def execEthernetFrameReceived (port : Fin 2) (frame : EthFrame) (s : State) : Host.Outcome State Fault Refusal :=
  .next (
    if s.on && linkUp s port then
      let s := fecCount s port frame
      if !frame.fcsOk then s.inc (Reg.NET_BAD_FCS port)
      else
        let s := s.wr64 (Reg.NET_RX_FRAMES_LO port) (Reg.NET_RX_FRAMES_HI port)
          ((s.rd64 (Reg.NET_RX_FRAMES_LO port) (Reg.NET_RX_FRAMES_HI port) + 1) % 2 ^ 64)
        let s := perfHit (perfHit s 0x20 port.val 0x10 1) 0x20 port.val 0x11 frame.length
        if frameDiscarded s port frame then notPst s port else s
    else s)

/-- ARP_REQUEST (R160): with ARP_ND_EN, the port answers for its own addresses; in STANDBY the link is kept for PTP only (R162). -/
def execArpRequest (port : Fin 2) (v6 : Bool) (addr : BitVec 128) (s : State) : Host.Outcome State Fault Refusal :=
  .next (
    if s.on && linkUp s port && decide (s.powerState ≠ 2) && s.b (Reg.NET_PORT_CTRL port) 4 &&
        (if v6 then s.b (Reg.NET_PORT_CTRL port) 3 && decide (addr.toNat = addr128 s (Reg.NET_IPV6_ADDR port 0))
         else decide (s.rd (Reg.NET_IPV4_ADDR port) ≠ 0 ∧ addr.toNat = mapped4 (s.rd (Reg.NET_IPV4_ADDR port)))) then
      s.emit (.arpReply port v6)
    else s)

/-- A word of a multicast entry, and the membership report of a non-zero entry (R160). DESIGN CHOICE (log entry 38): R160 does not say
when reports are sent; one goes out at each write that leaves the entry non-zero. -/
def mcastWrite (s : State) (p : Fin 2) (m w : Nat) (v : Word) : State :=
  let s := s.wr (Reg.NET_MCAST p m + 4 * w) v
  if addr128 s (Reg.NET_MCAST p m) = 0 then s else s.emit (.membership p m)

/-- MULTICAST_ENTRY_WRITE (R160). -/
def execMulticastEntryWrite (req : Requester) (port : Fin 2) (m : Fin 64) (w : Fin 4) (value : Word) (s : State) :
    Host.Outcome State Fault Refusal :=
  .next (gated s req (Reg.NET_MCAST port m + 4 * w) none fun s => mcastWrite s port m w value)

/-- The port runs as CR4 (R161): MEDIA as written, or under AUTO a copper module. -/
def portCr4 (s : State) (p : Nat) : Bool :=
  let m := s.f (Reg.NET_PORT_CTRL p) 0 2
  decide (m = 2) || (decide (m = 0) && decide (s.f (Reg.NET_LINK_STATUS p) 2 2 = 2))

/-- LINK_STATUS of a link that is up (R161): as CR4 with AN_EN, Clause 73 and Clause 92 have completed; on an optical module
they do not run. -/
def linkUpWord (s : State) (p : Nat) : Word :=
  let m := s.f (Reg.NET_LINK_STATUS p) 2 2
  let cu := if m = 2 ∧ portCr4 s p ∧ s.b (Reg.NET_PORT_CTRL p) 2 then 0x30 else 0
  w32 (3 + 4 * m + cu)

/-- The port's link is kept in STANDBY (R138, R162): STBY_PTP is set and the serving domain runs PTP on it. -/
def standbyPort (s : State) (p : Nat) : Bool :=
  let d := s.f Reg.TIME_TIME_STATUS 0 1
  let c := Reg.TIME_DOM_CTRL d
  s.b Reg.TIME_TIME_CTRL 2 && decide (s.f c 0 2 = 1 ∨ s.f c 0 2 = 2) && decide (s.f c 6 1 = p)

/-- LINK_UP (R161): the link of a port whose cage holds a module comes up; in STANDBY, only one kept for PTP (R162). -/
def execLinkUp (port : Fin 2) (s : State) : Host.Outcome State Fault Refusal :=
  .next (
    if s.on && !linkUp s port && decide (s.f (Reg.NET_LINK_STATUS port) 2 2 ≠ 0) &&
        (decide (s.powerState ≠ 2) || standbyPort s port) then
      let s := s.wr (Reg.NET_LINK_STATUS port) (linkUpWord s port)
      s.raise (.linkUp port) [s.rd (Reg.NET_LINK_STATUS port)]
    else s)

/-- A port's link goes down (R161): the module field stays. -/
def linkDown (s : State) (p : Fin 2) : State :=
  if linkUp s p then
    let s := s.wr (Reg.NET_LINK_STATUS p) (w32 (4 * s.f (Reg.NET_LINK_STATUS p) 2 2))
    (s.tell (.port p)).raise (.linkDown p) [s.rd (Reg.NET_LINK_STATUS p)]
  else s

/-- LINK_DOWN (R161). -/
def execLinkDown (port : Fin 2) (s : State) : Host.Outcome State Fault Refusal :=
  .next (if s.on then linkDown s port else s)

end Sys2Proof.Machine
end

