-- ==== Sys2Proof/Machine/Connector.lean ====
section
/-!
DEFINITION. The auxiliary connector (R589 to R594) and the QSFP cages (R580). AUX_LEVEL holds the level driven on each
trigger output; a pin is driven while it is an output that contention has not released.
-/
namespace Sys2Proof.Machine

/-- TRIG_OE of a trigger GPIO. -/
def trigOut (s : State) (g : Nat) : Bool := s.b Reg.TIME_AUX_CTRL g

/-- TRIG_CONTENTION of a trigger GPIO (R592). -/
def trigReleased (s : State) (g : Nat) : Bool := s.b Reg.TIME_AUX_IN (16 + g)

/-- The pin is driven. -/
def trigDriven (s : State) (g : Nat) : Bool := trigOut s g && !trigReleased s g

/-- The end of the pulse that runs on a GPIO. -/
def pulseOf (s : State) (g : Nat) : Option Nat := tabGet (fun _ => none) s.sched.pulse g

/-- The state with the end of a GPIO's pulse. -/
def putPulse (s : State) (g : Nat) (e : Option Nat) : State :=
  { s with sched := { s.sched with pulse := tabSet (fun _ => none) s.sched.pulse g e } }

/-- A driven pin takes a level, which AUX_IN shows until a read-back tells otherwise (R591, R592). -/
def drivePin (s : State) (g : Nat) (v : Bool) : State :=
  if s.b Reg.TIME_AUX_IN g = v then s else (s.setB Reg.TIME_AUX_IN g v).emit (.trigger g v)

/-- The level of a GPIO is set (R592): the pin follows while it is driven. -/
def setTrig (s : State) (g : Nat) (v : Bool) : State :=
  let s := s.setB Reg.TIME_AUX_LEVEL g v
  if trigDriven s g then drivePin s g v else s

/-- A GPIO_EDGE slot acts on an output (R149, R592): `edge` 0 low, 1 high, 2 toggle, 3 pulse high of `width` ns. -/
def gpioEdge (s : State) (g edge width : Nat) : State :=
  if edge = 0 then setTrig s g false
  else if edge = 1 then setTrig s g true
  else if edge = 2 then setTrig s g !(s.b Reg.TIME_AUX_LEVEL g)
  else putPulse (setTrig s g true) g (some (s.now + width))

/-- GPIO_PULSE_END (R592). -/
def execGpioPulseEnd (g : Fin 8) (s : State) : Host.Outcome State Fault Refusal :=
  .next (match pulseOf s g.val with
    | some e => if s.on ∧ e ≤ s.now then setTrig (putPulse s g.val none) g.val false else s
    | none => s)

/-- A write of AUX_LEVEL (R592): every level is set and every pulse end cancelled. -/
def auxLevel (s : State) (v : Word) : State :=
  (List.range 8).foldl (fun s g => setTrig (putPulse s g none) g (bit v g)) s

/-- AUX_LEVEL_WRITE (R592). -/
def execAuxLevelWrite (req : Requester) (value : Word) (s : State) : Host.Outcome State Fault Refusal :=
  .next (gated s req Reg.TIME_AUX_LEVEL none fun s => auxLevel s value)

/-- TRIG_OE of a GPIO changes (R592): a pin that becomes an output is driven again. -/
def trigEnable (v : Word) (s : State) (g : Nat) : State :=
  if bit v g && !trigOut s g then
    let s := ({ s with sched := { s.sched with bad := tabSet (fun _ => 0) s.sched.bad g 0 } }).setB Reg.TIME_AUX_IN (16 + g) false
    drivePin (s.setB Reg.TIME_AUX_CTRL g true) g (s.b Reg.TIME_AUX_LEVEL g)
  else s.setB Reg.TIME_AUX_CTRL g (bit v g)

/-- The clock on REF10M_OUT: its next rising edge, at a multiple of 100 ns of device time, or none in STANDBY and without
REF10M_OUT_EN (R593). -/
def refOut (s : State) : Option Nat :=
  if s.b Reg.TIME_AUX_CTRL 8 ∧ s.powerState ≠ 2 then some ((s.now + 99) / 100 * 100) else none

/-- REF10M_OUT starts or stops after what happened since state `s`. -/
def showRefOut (s t : State) : State := if (refOut t).isSome = (refOut s).isSome then t else t.emit (.refOut (refOut t))

/-- A write of AUX_CTRL (R591 to R593). -/
def auxCtrl (s : State) (v : Word) : State :=
  showRefOut s (((List.range 8).foldl (trigEnable v) s).setB Reg.TIME_AUX_CTRL 8 (bit v 8))

/-- AUX_CTRL_WRITE (R591, R592). -/
def execAuxCtrlWrite (req : Requester) (value : Word) (s : State) : Host.Outcome State Fault Refusal :=
  .next (gated s req Reg.TIME_AUX_CTRL none fun s => auxCtrl s value)

/-- TRIGGER_OUTPUT_READBACK (R592): the third disagreement in a row releases the output. -/
def execTriggerOutputReadback (g : Fin 8) (level : Bool) (s : State) : Host.Outcome State Fault Refusal :=
  let g := g.val
  .next (
    if s.on && trigDriven s g then
      let s := s.setB Reg.TIME_AUX_IN g level
      let n := if level = s.b Reg.TIME_AUX_LEVEL g then 0 else tabGet (fun _ => 0) s.sched.bad g + 1
      let s := { s with sched := { s.sched with bad := tabSet (fun _ => 0) s.sched.bad g (if n < 3 then n else 0) } }
      if n < 3 then s else s.setB Reg.TIME_AUX_IN (16 + g) true
    else s)

/-- TRIGGER_INPUT_EDGE (R592): an edge of an input shows in AUX_IN and is captured where AUX_CAPTURE names it. Device time
moves in ticks of its clock, which is the granularity of the stamp. -/
def execTriggerInputEdge (g : Fin 8) (rising : Bool) (s : State) : Host.Outcome State Fault Refusal :=
  let g := g.val
  .next (
    if s.on && !trigOut s g then
      let s := s.setB Reg.TIME_AUX_IN g rising
      if s.b Reg.TIME_AUX_CAPTURE (if rising then g else 8 + g) then
        (s.wr64 (Reg.TIME_TRIG_STAMP_LO g) (Reg.TIME_TRIG_STAMP_HI g) s.now).inc (Reg.TIME_TRIG_COUNT g)
      else s
    else s)

/-- The device times at which PPS_OUT rises (R593), within the tick of the running clock. -/
def ppsDue (s : State) : Bool :=
  decide (((s.now : Int) + s.epochOffset) % 1000000000 < (if s.b Reg.TIME_TIME_STATUS 3 then 1001 else 5))

/-- PPS_OUT_PULSE (R593). -/
def execPpsOutPulse (s : State) : Host.Outcome State Fault Refusal :=
  .next (if s.on && s.b Reg.TIME_TIME_CTRL 3 && ppsDue s then s.emit (.pps (s.rdN Reg.TIME_PPS_OUT_WIDTH)) else s)

/-- QSFP_MODULE_INSERTED (R580): only -SR4, -LR4 and -CR4 media of power class 4 or less are powered. -/
def execQsfpModuleInserted (port : Fin 2) (media : QsfpMedia) (powerClass : Nat) (s : State) :
    Host.Outcome State Fault Refusal :=
  let m := if 4 < powerClass then 0 else match media with | .optical => 1 | .copper => 2 | .other => 0
  .next (if s.on && !linkUp s port.val then s.wr (Reg.NET_LINK_STATUS port.val) (w32 (4 * m)) else s)

/-- QSFP_MODULE_REMOVED (R580): the port goes down. -/
def execQsfpModuleRemoved (port : Fin 2) (s : State) : Host.Outcome State Fault Refusal :=
  .next (if s.on then linkDown (s.setF (Reg.NET_LINK_STATUS port.val) 2 2 0) port else s)

end Sys2Proof.Machine
end

