-- ==== Sys2Proof/Machine/RegMap.lean ====
section
/-!
DEFINITION. What a write to each configuration register may do: its access code and writable bits (R49, R54), the feature
it belongs to (R76, R78), and the range, alignment and codes of its fields (R618).
-/
namespace Sys2Proof.Machine

/-- Access codes of registers a write can reach (R11): RO stands for every word a write does not change. -/
inductive Acc where
  | ro
  | rw
  | rws
  | rwt
  deriving DecidableEq, Repr

/-- Access code and writable bits of SYS, FEAT, TXN, EVT0, EVT1 and MAINT registers (R61, R67, R68, R70, R84, R113, R556,
R575, R591). -/
def infoSystem (typ inst o : Nat) : Acc × Word :=
  if typ = 0x01 then
    (if o = 0x100 then (.rw, 0xFFF00000) else if o = 0x104 ∨ o = 0x108 then (.rw, 0xFFFFFFFF) else (.ro, 0))
  else if typ = 0x02 then (if 0x100 ≤ o ∧ o < 0x120 then (.rw, 0xFFFFFFFF) else (.ro, 0))
  else if typ = 0x03 then
    (if o = 0x104 then (.rw, 0x80001FFF)
     else if 0x110 ≤ o ∧ o < 0x130 ∧ o % 8 = 0 then (.rw, 0x00FFFFFC) else (.ro, 0))
  else if typ = 0x04 then
    (if inst = 0 then
       (if o = 0x100 then (.rw, 0x80001FFF) else if 0x200 ≤ o ∧ o < 0x300 then (.rw, 0xFFFF)
        else if 0xC00 ≤ o then (.rw, if o % 16 = 12 then 1 else 0xFFFFFFFF) else (.ro, 0))
     else if 0xC00 ≤ o then
       let lo := match sevOfNumber (2 * ((o - 0xC00) / 4)) with | some _ => 0xFF | none => 0
       let hi := match sevOfNumber (2 * ((o - 0xC00) / 4) + 1) with | some _ => 0xFF0000 | none => 0
       (.rw, BitVec.ofNat 32 (lo + hi))
     else (.ro, 0))
  else
    (if o = 0x104 ∨ o = 0x110 ∨ o = 0x114 ∨ o = 0x118 ∨ o = 0x11C ∨ o = 0x108 ∨ o = 0x10C ∨ o = 0x120 then (.rw, 0xFFFFFFFF) else (.ro, 0))

/-- The same for TIME and the SCHED pages (R133, R147). -/
def infoTime (typ o : Nat) : Acc × Word :=
  if typ = 0x10 then
    (if o = 0x100 then (.rw, 0xF) else if o = 0x124 then (.rw, 0x1FF) else if o = 0x128 then (.rw, 0xFF)
     else if o = 0x12C then (.rw, 0xFFFF) else if o = 0x110 ∨ o = 0x114 ∨ o = 0x118 ∨ o = 0x11C ∨ o = 0x120 then (.rw, 0xFFFFFFFF)
     else if o = 0x140 ∨ o = 0x180 then (.rw, 0x1FFFFF77) else if o = 0x144 ∨ o = 0x184 then (.rw, 0xFFFFFFFF)
     else if o = 0x148 ∨ o = 0x188 then (.rw, 0xFFFFFF) else if o = 0x14C ∨ o = 0x18C then (.rw, 0xFFFFFFFF) else (.ro, 0))
  else if 0x100 ≤ o ∧ o < 0x500 then (.rw, 0xFFFFFFFF)
  else if 0x500 ≤ o ∧ o < 0x700 then (.rw, 0xFFFFFF1F)
  else if 0xC00 ≤ o ∧ o < 0xE00 then (.rw, 0xFFFFFFFF) else (.ro, 0)

/-- The same for NETp, INGEST, CODEC and CJEj (R161, R176, R230, R252). -/
def infoIngest (typ o : Nat) : Acc × Word :=
  if typ = 0x20 then
    (if o = 0x100 ∨ o = 0x108 then (.rw, 0xFFFFFFFF) else if o = 0x104 then (.rw, 0xFFFF)
     else if 0x110 ≤ o ∧ o < 0x120 then (.rw, 0xFFFFFFFF) else if o = 0x120 then (.rw, 0x1F)
     else if o = 0x124 then (.rw, 0xFFFF) else if o = 0x128 then (.rw, 0xFFFFFFFF)
     else if 0xC00 ≤ o then (.rw, 0xFFFFFFFF) else (.ro, 0))
  else if typ = 0x21 then
    (if o = 0x100 ∨ o = 0x104 ∨ o = 0x108 then (.rw, 0xFFFFFFFF) else if o = 0x10C then (.rw, 0xFFFF)
     else if 0x200 ≤ o ∧ o < 0x400 then
       (if o % 0x20 = 0 then (.rwt, 0x7FF3) else if o % 0x20 < 0x18 then (.rwt, 0xFFFFFFFF) else (.ro, 0))
     else (.ro, 0))
  else if typ = 0x30 then
    (if o = 0x100 then (.rw, 1) else if o = 0x104 then (.rw, 0xFFFFFFFF) else (.ro, 0))
  else if o = 0x100 then (.rw, 0xFFFFFFFF) else (.ro, 0)

/-- The same for the pages of a head group (R262, R263, R298, R331, R332, R362 to R364, R398, R399). -/
def infoHead (typ o : Nat) : Acc × Word :=
  if typ = 0x40 then
    (if o = 0x100 then (.rwt, 0x31) else if o = 0x104 then (.rwt, 0xFFFFFFFF) else if o = 0x108 then (.rwt, 0xFFFF)
     else if o = 0x10C then (.rwt, 0xFFFFFFFF) else if o = 0x110 ∨ o = 0x114 then (.rwt, 0xFFFF)
     else if o = 0x118 ∨ o = 0x11C then (.rwt, 0xFFFFFFFF) else if o = 0x120 ∨ o = 0x124 then (.rw, 0xFFFFFFFF)
     else if o = 0x300 then (.rws, 0x0FFF0FFF) else if o = 0x304 then (.rws, 0xFFF) else if o = 0x310 then (.rws, 0xFFFF001F)
     else if o = 0x314 then (.rws, 0x1FFF) else if o = 0x318 ∨ o = 0x31C then (.rws, 0xFFFFFFFF)
     else if o = 0x320 then (.rws, 0xFFFF) else if o = 0x324 then (.rws, 0x1F) else if o = 0x328 then (.rws, 0xFFFFFFFF)
     else (.ro, 0))
  else if typ = 0x41 then
    (if 0x100 ≤ o ∧ o < 0x120 ∧ o % 0x10 < 0x0C then (.rw, 0xFFFFFFFF) else if o = 0x124 then (.rwt, 3)
     else if o = 0x130 then (.rwt, 0x7F17) else if o = 0x134 then (.rw, 0xFFFFFFFF) else (.ro, 0))
  else if typ = 0x42 then (if o = 0x100 then (.rwt, 3) else (.ro, 0))
  else if typ = 0x43 then
    (if o = 0x100 then (.rws, 0x137) else if o = 0x104 ∨ o = 0x108 then (.rws, 0xFFFFFFFF) else if o = 0x10C then (.rws, 0xFFF)
     else if o = 0x110 ∨ o = 0x114 ∨ o = 0x118 ∨ o = 0x11C then (.rws, 0xFFFFFFFF)
     else if 0x120 ≤ o ∧ o < 0x130 then (.rws, 0x0FFF0FFF) else if o = 0x130 then (.rws, 0xFF0017FF) else (.ro, 0))
  else if typ = 0x44 then
    (if o = 0x100 then (.rwt, 0x33) else if o = 0x104 then (.rwt, 3) else if o = 0x108 then (.rwt, 0x33)
     else if o = 0x10C then (.rw, 0xFFFFFFFF) else (.ro, 0))
  else if typ = 0x45 then
    (if o = 0x100 then (.rwt, 0x13) else if o = 0x104 then (.rw, 0xFF0F) else if 0x140 ≤ o ∧ o < 0x174 then (.rw, 3)
     else if 0x180 ≤ o ∧ o < 0x1B4 then (.rw, 0xFF) else if 0x1C0 ≤ o ∧ o < 0x1F4 then (.rw, 0xF3)
     else if o = 0x700 then (.rw, 0xFFFF03) else (.ro, 0))
  else if o = 0x100 then (.rw, 0xFFFF) else if o = 0x104 then (.rw, 0x80001FFF)
  else if 0xC00 ≤ o ∧ o < 0xC20 then (.rw, 0xFFFFFFFF) else (.ro, 0)

/-- The same for the RAIL pages and OPT (R428, R429, R456). -/
def infoPanel (typ inst o : Nat) : Acc × Word :=
  if typ = 0x80 then
    (if inst = 0 then
       (if 0x100 ≤ o ∧ o < 0x1D0 ∧ o % 0x10 < 0x0C then
          (if o % 0x10 = 0 then (if o < 0x1A0 then (.rwt, 0xFFFFFFFF) else (.ro, 0))
           else if o % 0x10 = 4 then (.rwt, 0xFFFFFFFF) else (.rw, 0xFFFFFFFF))
        else (.ro, 0))
     else if inst = 1 then
       (if 0x100 ≤ o ∧ o < 0x180 then
          (if o % 0x20 = 0 then (.rwt, 0x11F1F) else if o % 0x20 = 4 then (.rwt, 0xFFFFFFFF)
           else if o % 0x20 = 8 then (.rwt, 0xFFFF) else if o % 0x20 = 0x0C then (.rwt, 0xFFFFFF) else (.ro, 0))
        else (.ro, 0))
     else (.ro, 0))
  else if o = 0x100 then (.rwt, 0xFF01FF) else if o = 0x104 then (.rw, 1) else if o = 0x108 ∨ o = 0x10C then (.rwt, 0xFFFFFFFF)
  else if o = 0x110 ∨ o = 0x114 ∨ o = 0x118 ∨ o = 0x11C then (.rw, 0xFFFFFFFF) else if o = 0x124 then (.rw, 0xFFFF)
  else (.ro, 0)

/-- The same for the MEM, SAP, THERM and PERF pages (R478, R480, R481, R501, R502, R525, R542). -/
def infoRest (typ inst o : Nat) : Acc × Word :=
  if typ = 0x90 then
    (if inst = 0 then
       (if 0x100 ≤ o ∧ o < 0x118 then (.rw, 0xFFFFFF) else if o = 0x120 then (.rw, 0x7F) else if o = 0x124 then (.rw, 0xFF03)
        else (.ro, 0))
     else if inst = 3 then
       (if o = 0x100 ∨ o = 0x104 then (.rw, 0xFFFFFFFF) else if o = 0x108 then (.rw, 3)
        else if o = 0x10C ∨ o = 0x110 then (.rw, 0xFFFFFFFF) else (.ro, 0))
     else if inst = 4 then
       (if o = 0x100 ∨ o = 0x104 ∨ o = 0x108 then (.rw, 0xFFFFFFFF) else if o = 0x10C then (.rw, 1)
        else if o = 0x110 ∨ o = 0x114 then (.rw, 0xFFFFFFFF) else (.ro, 0))
     else (.ro, 0))
  else if typ = 0xA0 then
    (if o = 0x100 then (.rw, 0x03FF3F7D) else if o = 0x104 then (.rw, 0xFFFFFFFF) else if o = 0x108 then (.rw, 0xF)
     else if o = 0x10C ∨ o = 0x110 then (.rw, 0x1FFF) else if o = 0x114 ∨ o = 0x118 then (.rw, 0xFFFFFFFF)
     else if o = 0x11C then (.rw, 0x1FFFFF) else if o = 0x120 then (.rw, 0xFFFFFFFF)
     else if 0x140 ≤ o ∧ o < 0x158 then (.rw, 0xFFFFFFFF) else if o = 0x704 ∧ inst = 0 then (.rw, 7) else (.ro, 0))
  else if typ = 0xB0 then
    (if o = 0x100 then (.rw, 1) else if o = 0x104 then (.rw, 0xFFFFFFFF) else if o = 0x108 then (.rw, 0xFF)
     else if 0x120 ≤ o ∧ o < 0x160 then (.rw, 0xFFFFFFFF) else if o = 0x184 then (.rw, 0xF) else if o = 0x188 then (.rw, 0x1FF)
     else (.ro, 0))
  else if typ = 0xC0 then
    (if 0x100 ≤ o ∧ o < 0x300 then (.rw, 0x01FFFFFF)
     else if inst = 0 then
       (if o = 0x300 then (.rw, 1) else if o = 0x308 then (.rw, 0x33) else if o = 0x30C then (.rw, 0xFFFFFFFF)
        else if o = 0x310 then (.rw, 0x01FF00FF) else if o = 0x314 then (.rw, 0x1FFF) else if o = 0x320 then (.rw, 0x1FF3)
        else if o = 0x324 then (.rw, 0xFFFFFFFF) else if o = 0x328 then (.rw, 0xFFFF3FFF) else if o = 0x32C then (.rw, 0x1FFF)
        else (.ro, 0))
     else (.ro, 0))
  else if typ = 0xC1 then (if 0x100 ≤ o ∧ o < 0x140 then (.rw, 0x01FFFFFF) else if o = 0x140 then (.rw, 1) else (.ro, 0))
  else (.ro, 0)

/-- Access code and writable bits of a page's register. -/
def infoPage (p : PageId) (o : Nat) : Acc × Word :=
  if o < 0x100 then (if o = 0x18 then (.rw, BitVec.ofNat 32 (evMask p.base)) else (.ro, 0))
  else if p.typ ≤ 0x05 then infoSystem p.typ p.inst o
  else if p.typ ≤ 0x11 then infoTime p.typ o
  else if p.typ ≤ 0x31 then infoIngest p.typ o
  else if p.typ ≤ 0x46 then infoHead p.typ o
  else if p.typ ≤ 0x81 then infoPanel p.typ p.inst o
  else infoRest p.typ p.inst o

/-- Access code and writable bits of a ring descriptor word (R86, R87) or a flow-table word (R166). -/
def infoTable (a : Nat) : Acc × Word :=
  if 0x100000 ≤ a ∧ a < 0x180000 then
    let o := a % 64
    if o = 0x00 then (.rw, 0xFFFFFFFF) else if o = 0x04 ∨ o = 0x10 ∨ o = 0x14 then (.rw, 0xFFFFFFFF)
    else if o = 0x08 then (.rw, 0x1FFFF) else if o = 0x0C then (.rw, 0x0FFFFFFF) else if o = 0x18 then (.rw, 0x7F03)
    else if o = 0x1C then (.rw, 0x80001FFF) else (.ro, 0)
  else if 0x200000 ≤ a ∧ a < 0x240000 then
    let o := a % 32
    if o = 0x00 then (.rw, 0x000F071F) else if o = 0x04 then (.rw, 0x3FFF) else if o = 0x08 then (.rw, 0xFFFFFFFF)
    else if o = 0x0C then (.rw, 0xFFFF1FFF) else (.ro, 0)
  else if 0x300000 ≤ a ∧ a < 0x340000 then (if a % 0x10000 < 0xC000 then (.rw, 0x0FFF0FFF) else (.ro, 0))
  else (.ro, 0)

/-- Access code and writable bits of a BAR0 word. -/
def regInfo (a : Nat) : Acc × Word :=
  match pageAt a with
  | some p => infoPage p (a - p.base)
  | none => infoTable a

/-- The register takes part in transactions. -/
def isRwt (a : Nat) : Bool := decide ((regInfo a).1 = .rwt)

/-- The register is a shadow of the layer commit. -/
def isRws (a : Nat) : Bool := decide ((regInfo a).1 = .rws)

/-- A written value with its reserved bits 0 (R54) and read-only fields kept. -/
def regMasked (s : State) (a : Nat) (v : Word) : Word := (v &&& (regInfo a).2) ||| (s.rd a &&& ~~~(regInfo a).2)

/-- The feature bit that a register belongs to, where its page holds registers of other features (R76, R78). -/
def featureOf (a : Nat) : Option Nat :=
  if 0x10180 ≤ a ∧ a < 0x101C0 then some 6
  else match pageAt a with
    | some p =>
      let o := a - p.base
      if p.typ = 0x43 ∧ o = 0x11C then some 3
      else if p.typ = 0x43 ∧ o = 0x130 then some 18
      else if p.typ = 0x21 ∧ o = 0x10C then some 12
      else if p.typ = 0xC0 ∧ 0x320 ≤ o ∧ o < 0x330 then some 11
      else if p.typ = 0x90 ∧ p.inst = 4 ∧ (o = 0x10C ∨ o = 0x118) then some 14
      else none
    | none => none

/-- The low word of the 64-bit register whose high word lies at `a` (R57), among registers a write can reach. DEDUCED (log
entry 42): colour words that hold fields of their own (COLOR_A, COLOR_B, BG) are 32-bit registers. -/
def lowOf (a : Nat) : Option Nat :=
  match pageAt a with
  | none => if 0x100000 ≤ a ∧ a < 0x180000 ∧ a % 64 = 4 then some (a - 4) else none
  | some p =>
    let o := a - p.base
    let t := p.typ
    if (t = 0x01 ∧ o = 0x104) ∨ (t = 0x05 ∧ (o = 0x108 ∨ o = 0x114 ∨ o = 0x11C)) ∨ (t = 0x10 ∧ o = 0x11C) ∨
        (t = 0x11 ∧ 0x100 ≤ o ∧ o < 0x500 ∧ o % 8 = 4) ∨
        (t = 0x20 ∧ o = 0x104) ∨ (t = 0x21 ∧ (o = 0x104 ∨ (0x200 ≤ o ∧ o < 0x400 ∧ o % 0x20 = 8))) ∨
        (t = 0x40 ∧ (o = 0x11C ∨ o = 0x31C)) ∨ (t = 0x41 ∧ (o = 0x104 ∨ o = 0x114)) ∨
        (t = 0x43 ∧ o = 0x114) ∨ (t = 0x81 ∧ (o = 0x10C ∨ o = 0x114)) ∨
        (t = 0x90 ∧ ((p.inst = 3 ∧ o = 0x110) ∨ (p.inst = 4 ∧ o = 0x114))) ∨ (t = 0xA0 ∧ o = 0x118) then some (a - 4)
    else none

/-- The word is the low word of a 64-bit register that a write can reach. -/
def isLowWord (a : Nat) : Bool := lowOf (a + 4) = some a

/-! ### Ranges (R618) -/

/-- `lo ≤ n ≤ hi`. -/
def inRange (n lo hi : Nat) : Bool := decide (lo ≤ n ∧ n ≤ hi)

/-- Current limit of the rail table of R401, mA. -/
def railMaxCurrent (r : Nat) : Nat :=
  [1000, 1000, 6000, 3000, 200, 200, 200, 200, 300, 300, 4000, 4000, 6000].getD r 0

/-- Range and step of TARGET by R401, mV. -/
def railRange (r : Nat) : Int × Int × Int :=
  if r = 0 then (10000, 35000, 50) else if r = 1 then (-20000, -3000, 50) else if r = 2 then (5000, 20000, 10)
  else if r = 3 then (-20000, -5000, 10) else if r < 8 then (0, 10000, 2) else if r = 8 then (15000, 48000, 100)
  else if r = 9 then (-48000, -15000, 100) else if r = 10 then (3300, 3300, 1) else if r = 11 then (1800, 1800, 1)
  else (1200, 1200, 1)

/-- Ranges of a head's registers. -/
def headValOk (typ o : Nat) (v : Word) : Bool :=
  if typ = 0x40 then
    if o = 0x104 then inRange (fld v 0 20) 1 1048575 && inRange (fld v 20 12) 1 4095
    else if o = 0x108 then inRange v.toNat 1 15360
    else if o = 0x10C then inRange (fld v 0 16) 1 16384 && decide (fld v 0 16 + 3 ≤ fld v 16 16)
    else if o = 0x120 then inRange v.toNat 10 5000
    else if o = 0x124 then inRange v.toNat 0 100000
    else true
  else if typ = 0x41 then
    if o = 0x100 ∨ o = 0x110 then decide (fld v 0 12 = 0)
    else if o = 0x108 ∨ o = 0x118 then inRange v.toNat 64 536870912
    else if o = 0x124 then decide (v ≠ 2)
    else if o = 0x130 then inRange (fld v 8 7) 1 64
    else if o = 0x134 then inRange v.toNat 0 1000000
    else true
  else if typ = 0x42 then decide (v ≠ 3)
  else if typ = 0x44 then
    if o = 0x100 then decide (fld v 0 2 ≠ 3 ∧ fld v 4 2 ≠ 3)
    else if o = 0x10C then inRange v.toNat 1 1000000
    else true
  else if typ = 0x45 then
    if o = 0x104 then decide (fld v 8 8 ≠ 0)
    else if o = 0x700 then decide (fld v 0 2 ≠ 3 ∧ fld v 8 8 ≠ 0)
    else true
  else if typ = 0x46 then
    if o = 0x100 then inRange (fld v 0 8) 50 255 && inRange (fld v 8 8) 12 100 else true
  else true

/-- Ranges of the other pages' registers. -/
def otherValOk (typ inst o : Nat) (v : Word) : Bool :=
  if typ = 0x10 then
    if o = 0x110 then inRange v.toNat 1000 100000000
    else if o = 0x114 then inRange v.toNat 1 1000
    else if o = 0x120 then inRange v.toNat 1 500000
    else if o = 0x140 ∨ o = 0x180 then decide (fld v 4 2 ≠ 3 ∧ ¬(o = 0x180 ∧ fld v 0 2 = 3))
    else if o = 0x144 ∨ o = 0x184 then
      decide (-7 ≤ sfld v 0 8 ∧ sfld v 0 8 ≤ 1 ∧ -7 ≤ sfld v 8 8 ∧ sfld v 8 8 ≤ 5 ∧ -3 ≤ sfld v 16 8 ∧ sfld v 16 8 ≤ 3) &&
        inRange (fld v 24 8) 2 255
    else true
  else if typ = 0x20 then
    if o = 0x120 then decide (fld v 0 2 ≠ 3) else if o = 0x128 then inRange v.toNat 1518 9216 else true
  else if typ = 0x21 then
    if o = 0x100 then decide (fld v 0 16 = 0)
    else if o = 0x108 then decide (v = 0) || inRange v.toNat 16 1024
    else if o = 0x10C then inRange v.toNat 10 10000
    else if 0x200 ≤ o ∧ o < 0x400 ∧ o % 0x20 = 4 then decide (fld v 0 16 = 0)
    else if 0x200 ≤ o ∧ o < 0x400 ∧ o % 0x20 = 0x14 then decide (1000000 ≤ v.toNat)
    else true
  else if typ = 0x30 then (if o = 0x104 then inRange v.toNat 1 65535 else true)
  else if typ = 0x31 then (if o = 0x100 then inRange v.toNat 1 65535 else true)
  else if typ = 0x80 then
    if inst = 0 ∧ 0x100 ≤ o ∧ o < 0x1D0 ∧ o % 0x10 = 8 then inRange v.toNat 1 100 else true
  else if typ = 0x81 then
    if o = 0x100 then inRange (fld v 0 9) 1 320 && inRange (fld v 16 8) 1 160
    else if o = 0x108 then decide (fld v 0 12 = 0)
    else if o = 0x110 then decide (fld v 0 6 = 0)
    else if o = 0x118 then inRange v.toNat 1 3600
    else if o = 0x11C then inRange v.toNat 1 (2 ^ 31 - 1)
    else true
  else if typ = 0x90 then
    if inst = 0 then
      (if 0x100 ≤ o ∧ o < 0x118 then inRange v.toNat 100 16000000
       else if o = 0x120 then inRange v.toNat 50 95 else if o = 0x124 then decide (fld v 8 8 ≠ 0) else true)
    else if inst = 3 then
      (if o = 0x100 then inRange v.toNat 1 168 else if o = 0x10C then decide (fld v 0 5 = 0) else true)
    else if inst = 4 then
      (if o = 0x100 then inRange v.toNat 1 8760 else if o = 0x104 then inRange v.toNat 5 40
       else if o = 0x108 then inRange v.toNat 10 160 else true)
    else true
  else if typ = 0xA0 then
    if o = 0x100 then
      decide (fld v 2 2 ≠ 3 ∧ fld v 4 3 ≠ 7 ∧ fld v 16 2 ≠ 3 ∧ fld v 18 2 ≠ 3) && inRange (fld v 8 6) 1 32
    else if o = 0x114 then decide (fld v 0 6 = 0)
    else if o = 0x11C then inRange (fld v 0 16) 16 65535 && inRange (fld v 16 5) 2 16
    else if o = 0x120 then inRange v.toNat 10 1000
    else true
  else if typ = 0xB0 then
    if o = 0x104 then inRange (fld v 0 16) 5 1000 && inRange (fld v 16 16) 1000 60000
    else if o = 0x108 then inRange (fld v 0 8) 10 100
    else if o = 0x184 then inRange v.toNat 0 10
    else true
  else if typ = 0xC0 ∧ inst = 0 then
    if o = 0x308 then decide (fld v 0 2 ≠ 3)
    else if o = 0x30C then inRange v.toNat 100 10000000
    else if o = 0x310 then decide (1 ≤ fld v 16 9 ∧ fld v 0 8 + fld v 16 9 ≤ 256)
    else if o = 0x320 then inRange (fld v 8 5) 12 30
    else if o = 0x328 then decide (fld v 30 2 ≠ 3)
    else true
  else if typ = 0x05 then
    if o = 0x104 then decide (fld v 0 12 = 0) else if o = 0x118 then decide (fld v 0 6 = 0) else true
  else true

/-- R618: the value lies in the range, alignment and codes stated for the fields of the register at `a`. For a ring's base,
R89 states the outcome of a wrong alignment. -/
def valOk (a : Nat) (v : Word) : Bool :=
  match pageAt a with
  | some p => if 0x40 ≤ p.typ ∧ p.typ ≤ 0x46 then headValOk p.typ (a - p.base) v else otherValOk p.typ p.inst (a - p.base) v
  | none => true

end Sys2Proof.Machine
end

