-- ==== Sys2Proof/Machine/Shuoc.lean ====
section
/-!
DEFINITION. The Shuoc tile codec (R190 to R219): headers, tile groups, prefix codes, prediction, reconstruction and the
stream errors, as functions on byte strings. The decode cluster, the job engines, the ray-map decoders and layer fetch
all call these definitions (R29).
-/
namespace Sys2Proof.Machine

/-- The result of a check or a decode: a stream error code of R216, or a value. -/
abbrev Coded (α : Type) := Except Nat α

/-- Succeeds when the condition holds, else fails with the code. -/
def need (c : Bool) (e : Nat) : Coded Unit := if c then .ok () else .error e

/-- Bytes of a frame header: 24 + 8 × DYN_COUNT. -/
def FrameHdr.size (h : FrameHdr) : Nat := 24 + 8 * h.tables.length

/-- TX, the picture width in tiles (R190). -/
def FrameHdr.tx (h : FrameHdr) : Nat := (h.width + 2 ^ h.twl - 1) / 2 ^ h.twl

/-- TY, the picture height in tiles (R190). -/
def FrameHdr.ty (h : FrameHdr) : Nat := (h.height + 2 ^ h.thl - 1) / 2 ^ h.thl

/-- Samples of one frame. -/
def FrameHdr.samples (h : FrameHdr) : Nat := h.npic * h.c * h.height * h.width

/-- A tile's place: picture, origin and size (R190). -/
structure TileGeom where
  v : Nat
  x0 : Nat
  y0 : Nat
  tw : Nat
  th : Nat
  deriving DecidableEq, Repr

/-- R190: the place of tile `i`. -/
def tileGeom (h : FrameHdr) (i : Nat) : TileGeom :=
  let v := i / (h.ty * h.tx)
  let r := i % (h.ty * h.tx)
  let x0 := r % h.tx * 2 ^ h.twl
  let y0 := r / h.tx * 2 ^ h.thl
  ⟨v, x0, y0, min (2 ^ h.twl) (h.width - x0), min (2 ^ h.thl) (h.height - y0)⟩

/-- Samples of one component of a tile. -/
def TileGeom.n (g : TileGeom) : Nat := g.tw * g.th

/-! ### Bits and prefix codes (R210 to R213) -/

/-- The bits of a byte string, most significant first. -/
def bitsOf : List Byte → List Bool
  | [] => []
  | b :: t => [b.getLsbD 7, b.getLsbD 6, b.getLsbD 5, b.getLsbD 4, b.getLsbD 3, b.getLsbD 2, b.getLsbD 1, b.getLsbD 0] ++ bitsOf t

/-- The next `n` bits as a number; error TRUNCATED past the end. -/
def readBits : Nat → Nat → List Bool → Coded (Nat × List Bool)
  | 0, acc, l => .ok (acc, l)
  | _ + 1, _, [] => .error 0x0F
  | n + 1, acc, b :: l => readBits n (2 * acc + b2n b) l

/-- Symbols of a given code length. -/
def lenCount (len : List Nat) (b : Nat) : Nat := if b = 0 then 0 else (len.filter (· = b)).length

/-- R211: first code of length `b`. -/
def nextCode (len : List Nat) : Nat → Nat
  | 0 => 0
  | b + 1 => (nextCode len b + lenCount len b) * 2 % 2 ^ 16

/-- R211: code of symbol `i`. -/
def codeOf (len : List Nat) (i : Nat) : Nat :=
  nextCode len (len.getD i 0) + ((len.take i).filter (· = len.getD i 0)).length

/-- R211: a valid table. -/
def tableOk (len : List Nat) : Bool :=
  decide (len.length = 16 ∧ len.getD 14 0 = 0 ∧ len.getD 15 0 = 0 ∧
    ((len.filter (· ≠ 0)).map fun l => 2 ^ (15 - l)).foldl (· + ·) 0 = 32768)

/-- The symbol whose code is the `n` bits read so far, if there is one. -/
def symbolAt (len : List Nat) (n code : Nat) : Option Nat :=
  (List.range 16).find? fun i => decide (len.getD i 0 = n ∧ n ≠ 0 ∧ codeOf len i = code)

/-- R211: reads one symbol, bit by bit. -/
def readSymbol (len : List Nat) : Nat → Nat → Nat → List Bool → Coded (Nat × List Bool)
  | 0, _, _, _ => .error 0x0F
  | _ + 1, _, _, [] => .error 0x0F
  | fuel + 1, n, code, b :: l =>
    let code := 2 * code + b2n b
    match symbolAt len (n + 1) code with
    | some i => .ok (i, l)
    | none => readSymbol len fuel (n + 1) code l

/-- R212: the eight static tables. -/
def staticTables : List (List Nat) :=
  [[1, 3, 4, 5, 6, 7, 8, 9, 10, 11, 12, 13, 13, 2, 0, 0],
   [1, 2, 3, 5, 6, 7, 8, 9, 10, 11, 12, 13, 13, 4, 0, 0],
   [2, 2, 2, 4, 4, 5, 6, 7, 8, 9, 10, 11, 11, 4, 0, 0],
   [4, 3, 2, 2, 3, 4, 5, 5, 6, 7, 8, 9, 9, 5, 0, 0],
   [5, 5, 4, 3, 2, 2, 3, 4, 5, 6, 8, 8, 8, 8, 0, 0],
   [7, 7, 6, 5, 4, 3, 2, 2, 3, 4, 5, 6, 7, 7, 0, 0],
   [9, 8, 7, 6, 5, 5, 4, 3, 2, 2, 3, 4, 5, 9, 0, 0],
   [3, 3, 4, 4, 4, 4, 4, 4, 4, 4, 4, 4, 4, 4, 0, 0]]

/-- R213: a dynamic table from its eight bytes. -/
def dynTable : List Byte → List Nat
  | [] => []
  | b :: t => b.toNat / 16 :: b.toNat % 16 :: dynTable t

/-! ### Headers (R194 to R199) -/

/-- The feature bits of R218 for a consumer that needs them: (near-lossless, dynamic tables). -/
structure ShuocNeeds where
  /-- Memory form is expected, else PST form. -/
  memory : Bool
  /-- DIR_PRESENT must be 1. -/
  dirMust : Bool
  /-- NEAR > 0 is accepted by the consumer (R217). -/
  nearForm : Bool
  /-- NEAR > 0 and dynamic tables have their feature active or need none (R218). -/
  nearFeat : Bool
  dynFeat : Bool
  /-- Modes accepted (R217). -/
  modes : List Nat
  deriving DecidableEq, Repr

/-- R196: the fields of a frame header as they stand in `b`. -/
def hdrFields (b : List Byte) : FrameHdr where
  key := beAt b 1 1 % 2 = 1
  dir := beAt b 1 1 / 2 % 2 = 1
  bd := beAt b 2 1
  c := beAt b 3 1 % 16
  width := beAt b 4 2
  height := beAt b 6 2
  npic := beAt b 8 2
  twl := beAt b 10 1 % 16
  thl := beAt b 10 1 / 16
  near := (List.range 4).map fun c => beAt b 12 2 / 16 ^ c % 16
  tables := (List.range (beAt b 11 1 % 16)).map fun d => dynTable ((b.drop (24 + 8 * d)).take 8)
  tileCount := beAt b 16 4
  tileBytes := beAt b 20 4

/-- R196, R219: every field in range, reserved bits 0, TILE_COUNT right. -/
def hdrRangeOk (b : List Byte) (h : FrameHdr) : Bool :=
  decide (beAt b 1 1 < 4 ∧ (h.bd = 8 ∨ h.bd = 10 ∨ h.bd = 12) ∧ beAt b 3 1 < 16 ∧ 1 ≤ h.c ∧ h.c ≤ 4 ∧
    1 ≤ h.width ∧ h.width ≤ 16384 ∧ 1 ≤ h.height ∧ h.height ≤ 16384 ∧ 1 ≤ h.npic ∧ h.npic ≤ 256 ∧
    4 ≤ h.twl ∧ h.twl ≤ 7 ∧ 4 ≤ h.thl ∧ h.thl ≤ 7 ∧ beAt b 11 1 < 16 ∧ h.tables.length ≤ 8 ∧ beAt b 14 2 = 0 ∧
    h.tileCount = h.npic * h.ty * h.tx ∧ h.tileCount ≤ 16777216) &&
  ((List.range 4).all fun c => decide (c < h.c ∨ h.near.getD c 0 = 0))

/-- R196, R216, R217: reads a frame header; `agree` is the consumer's own comparison (R198, R238). The checks are made in
the order of their codes. -/
def parseHdr (nd : ShuocNeeds) (agree : FrameHdr → Bool) (b : List Byte) : Coded FrameHdr :=
  let h := hdrFields b
  if b.length < 24 then .error 0x02
  else if beAt b 0 1 ≠ 1 then .error 0x01
  else if !hdrRangeOk b h || decide (b.length < h.size) then .error 0x02
  else if (h.dir && !nd.memory) || (nd.dirMust && !h.dir) || (!nd.memory && decide (h.tileBytes ≠ 0))
      || (!nd.nearForm && h.near.any (· ≠ 0)) || !agree h then .error 0x03
  else if !h.tables.all tableOk then .error 0x04
  else if (!nd.nearFeat && h.near.any (· ≠ 0)) || (!nd.dynFeat && !h.tables.isEmpty) then .error 0x05
  else .ok h

/-- R194: the sequence header; the value is FRAME_COUNT. -/
def parseSeq (b : List Byte) : Coded Nat :=
  if b.length < 16 then .error 0x02
  else if beAt b 0 4 ≠ 0x53485543 ∨ beAt b 4 1 ≠ 1 then .error 0x01
  else if beAt b 5 3 ≠ 0 ∨ beAt b 8 4 = 0 ∨ 16777215 < beAt b 8 4 then .error 0x02
  else .ok (beAt b 8 4)

/-- R205: cuts a group of `n` tiles and `sz` bytes by the LEN of its tiles; error GROUP_LEN. `b` holds the bytes that can
be read: a tile that extends past them is marked true, and is empty when its LEN cannot be read (R239). Where every LEN can be read,
their sum is compared with `sz`, also when the last tile extends past `b`. -/
def splitGroup : Nat → Nat → List Byte → Coded (List (List Byte × Bool))
  | 0, 0, _ => .ok []
  | 0, _ + 1, _ => .error 0x06
  | n + 1, sz, b =>
    if b.length < 3 then
      if b.length < sz then .ok (List.replicate (n + 1) ([], true)) else .error 0x06
    else if sz < beAt b 0 3 ∨ (n = 0 ∧ beAt b 0 3 ≠ sz) then .error 0x06
    else if b.length < max 4 (beAt b 0 3) then .ok ((b, true) :: List.replicate n ([], true))
    else match splitGroup n (sz - beAt b 0 3) (b.drop (beAt b 0 3)) with
      | .ok l => .ok ((b.take (max 4 (beAt b 0 3)), false) :: l)
      | .error e => .error e

/-- R197: directory entries that agree with the LEN values, per tile. Behind a tile whose LEN cannot be read nothing disagrees. -/
def dirAgrees (dir : List Byte) : Nat → Nat → List (List Byte × Bool) → List Bool
  | _, _, [] => []
  | i, off, t :: l =>
    decide (beAt dir (4 * i) 4 = off) ::
      (if t.1.length < 3 then l.map fun _ => true else dirAgrees dir (i + 1) (off + beAt t.1 0 3) l)

/-! ### Tiles (R200 to R208, R214) -/

/-- clamp of R214. -/
def clampI (v lo hi : Int) : Int := if v < lo then lo else if hi < v then hi else v

/-- R206: med of R214. -/
def med (a b cc : Int) : Int :=
  if max a b ≤ cc then min a b else if cc ≤ min a b then max a b else a + b - cc

/-- R214 reconstruct(). -/
def reconstruct (p q : Int) (near bd : Nat) : Nat :=
  let maxv : Int := 2 ^ bd - 1
  let step : Int := 2 * near + 1
  let range : Int := (maxv + 2 * near) / step + 1
  let rx := p + q * step
  let rx := if rx < -(near : Int) then rx + range * step else if maxv + near < rx then rx - range * step else rx
  (clampI rx 0 maxv).toNat

/-- R208: RANGE. -/
def residualRange (near bd : Nat) : Nat := (2 ^ bd - 1 + 2 * near) / (2 * near + 1) + 1

/-- R208: q from m. -/
def unmap (m : Nat) : Int := if m % 2 = 1 then -(((m + 1) / 2 : Nat) : Int) else ((m / 2 : Nat) : Int)

/-- R206: the INTRA predictor of sample `k`; `rec` holds the samples before it, newest first. -/
def intraPred (bd w k : Nat) (rec : List Nat) : Int :=
  let a : Int := rec.getD 0 0
  let b : Int := rec.getD (w - 1) 0
  let cc : Int := rec.getD w 0
  if k = 0 then 2 ^ (bd - 1) else if k < w then a else if k % w = 0 then b else med a b cc

/-- Appends `cnt` samples with residual `q`. -/
def fillRun (pred : Nat → List Nat → Int) (q : Int) (near bd : Nat) : Nat → Nat → List Nat → List Nat
  | 0, _, rec => rec
  | n + 1, k, rec => fillRun pred q near bd n (k + 1) (reconstruct (pred k rec) q near bd :: rec)

/-- R214 decode_component: samples newest first, and the bits that remain. -/
def decodeComponent (len : List Nat) (pred : Nat → List Nat → Int) (near bd n : Nat) :
    Nat → Nat → List Nat → List Bool → Coded (List Nat × List Bool)
  | 0, _, rec, l => .ok (rec, l)
  | fuel + 1, k, rec, l =>
    if n ≤ k then .ok (rec, l)
    else
      match readSymbol len 15 0 0 l with
      | .error e => .error e
      | .ok (13, l) =>
        match readBits 6 0 l with
        | .error e => .error e
        | .ok (r, l) =>
          if n < k + r + 2 then .error 0x0E
          else decodeComponent len pred near bd n fuel (k + r + 2) (fillRun pred 0 near bd (r + 2) k rec) l
      | .ok (sym, l) =>
        match (if 2 ≤ sym then readBits (sym - 1) 1 l else .ok (sym, l)) with
        | .error e => .error e
        | .ok (m, l) =>
          if residualRange near bd ≤ m then .error 0x0D
          else decodeComponent len pred near bd n fuel (k + 1) (fillRun pred (unmap m) near bd 1 k rec) l

/-- Decodes components `c` to C − 1 in turn. -/
def decodeComponents (h : FrameHdr) (g : TileGeom) (tsel : Nat → Nat) (pred : Nat → Nat → List Nat → Int) :
    Nat → Nat → List Bool → Coded (List (List Nat) × List Bool)
  | 0, _, l => .ok ([], l)
  | m + 1, c, l =>
    let len := if tsel c < 8 then staticTables.getD (tsel c) [] else h.tables.getD (tsel c - 8) []
    match decodeComponent len (pred c) (h.near.getD c 0) h.bd g.n g.n 0 [] l with
    | .error e => .error e
    | .ok (rec, l) =>
      match decodeComponents h g tsel pred m (c + 1) l with
      | .error e => .error e
      | .ok (r, l) => .ok (rec.reverse :: r, l)

/-- `n` values of `w` bits each. -/
def readMany (w : Nat) : Nat → List Bool → Coded (List Nat × List Bool)
  | 0, l => .ok ([], l)
  | n + 1, l =>
    match readBits w 0 l with
    | .error e => .error e
    | .ok (v, l) => match readMany w n l with | .error e => .error e | .ok (r, l) => .ok (v :: r, l)

/-- Zero fill to a byte boundary and exactly LEN consumed (R204). -/
def trailingOk (l : List Bool) : Bool := decide (l.length < 8) && l.all (!·)

/-- Cuts a list into runs of `n`. -/
def chunks (n : Nat) : Nat → List Nat → List (List Nat)
  | 0, _ => []
  | m + 1, l => l.take n :: chunks n m (l.drop n)

/-- MODE of a coded tile. -/
def tileMode (t : List Byte) : Nat := beAt t 3 1 % 16

/-- NORES of a coded tile. -/
def tileNores (t : List Byte) : Bool := beAt t 3 1 / 16 % 2 = 1

/-- A signed 16-bit big-endian value. -/
def sbe16 (b : List Byte) (o : Nat) : Int :=
  let v := beAt b o 2
  if v < 0x8000 then v else (v : Int) - 0x10000

/-- rb of R201. -/
def rawBytes (h : FrameHdr) (g : TileGeom) : Nat := (h.c * g.n * h.bd + 7) / 8

/-- R201, R204: LEN fits the mode. -/
def tileLenOk (h : FrameHdr) (g : TileGeom) (t : List Byte) : Bool :=
  let len := beAt t 0 3
  let m := tileMode t
  if m = 0 ∨ m = 2 then decide (len = 4)
  else if m = 1 then decide (len = 4 + (h.c * h.bd + 7) / 8)
  else if m = 6 then decide (len = 4 + rawBytes h g)
  else if tileNores t then decide (len = if m = 4 then 9 else 8)
  else decide (4 ≤ len ∧ len ≤ 4 + rawBytes h g + 8)

/-- Bytes between the tile header and TSEL: the prediction fields of R201. -/
def predBytes (m : Nat) : Nat := if m = 4 then 5 else if m = 5 then 4 else 0

/-- The displacement of an INTERVIEW or INTERFRAME tile. -/
def tileVector (t : List Byte) : Int × Int := if tileMode t = 4 then (sbe16 t 5, sbe16 t 7) else (sbe16 t 4, sbe16 t 6)

/-- R207: the picture position that predicts sample `k`. -/
def predPos (h : FrameHdr) (g : TileGeom) (t : List Byte) (k : Nat) : Nat × Nat :=
  let d := if tileMode t = 2 then (0, 0) else tileVector t
  ((clampI (((g.x0 + k % g.tw : Nat) : Int) + d.1) 0 ((h.width : Int) - 1)).toNat,
   (clampI (((g.y0 + k / g.tw : Nat) : Int) + d.2) 0 ((h.height : Int) - 1)).toNat)

/-- The reference samples that a decoder reads: `frame` false for this frame's pictures, true for the reference frame;
then picture, component, column, row. -/
abbrev RefSample := Bool → Nat → Nat → Nat → Nat → Nat

/-- The displacement of a tile at byte `o`, each value checked as its bytes are read (R202, R216). -/
def vectorCheck (t : List Byte) (o : Nat) : Coded Unit :=
  let bad : Int → Bool := fun d => decide (d < -4095 ∨ 4095 < d)
  if t.length < o + 2 then .error 0x0F
  else if bad (sbe16 t o) then .error 0x0B
  else if t.length < o + 4 then .error 0x0F
  else if bad (sbe16 t (o + 2)) then .error 0x0B
  else .ok ()

/-- R216 checks 1 to 4 of one coded tile, in order. -/
def tileChecks (nd : ShuocNeeds) (h : FrameHdr) (i : Nat) (dirOk hasRef : Bool) (t : List Byte) : Coded Unit :=
  let g := tileGeom h i
  let m := tileMode t
  if !dirOk then .error 0x07
  else if 32 ≤ beAt t 3 1 ∨ 7 ≤ m ∨ !nd.modes.contains m ∨ (tileNores t ∧ m ≠ 4 ∧ m ≠ 5) then .error 0x09
  else if !tileLenOk h g t then .error 0x08
  else if (m = 2 ∨ m = 5) ∧ (h.key ∨ !hasRef) then .error 0x0A
  else if m = 4 then
    (if t.length < 5 then .error 0x0F else if g.v ≤ beAt t 4 1 then .error 0x0A else vectorCheck t 5)
  else if m = 5 then vectorCheck t 4
  else .ok ()

/-- The selector of component `c` (R203). -/
def tselOf (t : List Byte) (c : Nat) : Nat :=
  let b := beAt t (4 + predBytes (tileMode t) + c / 2) 1
  if c % 2 = 0 then b / 16 else b % 16

/-- R203, R216: the selector bytes in order: each is there, names tables of the frame, and leaves an unused nibble 0. -/
def tselCheck (h : FrameHdr) (t : List Byte) : Coded Unit :=
  (List.range ((h.c + 1) / 2)).foldl (fun r j =>
    match r with
    | .error e => .error e
    | .ok () =>
      if t.length < 4 + predBytes (tileMode t) + j + 1 then .error 0x0F
      else if tselOf t (2 * j) < 8 + h.tables.length ∧
          (if 2 * j + 1 < h.c then tselOf t (2 * j + 1) < 8 + h.tables.length else tselOf t (2 * j + 1) = 0) then .ok ()
      else .error 0x0C) (.ok ())

/-- R214 decode_tile: the samples of each component in raster order, or the first stream error (R216). -/
def decodeTile (nd : ShuocNeeds) (h : FrameHdr) (i : Nat) (dirOk hasRef : Bool) (ref : RefSample) (t : List Byte) :
    Coded (List (List Nat)) :=
  match tileChecks nd h i dirOk hasRef t with
  | .error e => .error e
  | .ok () =>
    let g := tileGeom h i
    let m := tileMode t
    let body := bitsOf (t.drop 4)
    let fromRef : Nat → Nat → Nat := fun c k =>
      let p := predPos h g t k
      if m = 4 then ref false (beAt t 4 1) c p.1 p.2 else ref true g.v c p.1 p.2
    let whole : List (List Nat) := (List.range h.c).map fun c => (List.range g.n).map (fromRef c)
    if m = 0 then .ok (List.replicate h.c (List.replicate g.n 0))
    else if m = 1 then
      match readMany h.bd h.c body with
      | .error e => .error e
      | .ok (l, rest) => if trailingOk rest then .ok (l.map (List.replicate g.n)) else .error 0x10
    else if m = 2 then .ok whole
    else if m = 6 then
      match readMany h.bd (h.c * g.n) body with
      | .error e => .error e
      | .ok (l, rest) => if trailingOk rest then .ok (chunks g.n h.c l) else .error 0x10
    else if tileNores t then .ok whole
    else match tselCheck h t with
    | .error e => .error e
    | .ok () =>
      let pred : Nat → Nat → List Nat → Int := fun c k rec =>
        if m = 3 then intraPred h.bd g.tw k rec else ((fromRef c k : Nat) : Int)
      match decodeComponents h g (tselOf t) pred h.c 0 (bitsOf (t.drop (4 + predBytes m + (h.c + 1) / 2))) with
      | .error e => .error e
      | .ok (r, rest) => if trailingOk rest then .ok r else .error 0x10

/-- R239: as `decodeTile`, for a tile cut short by the bytes available: the checks of what can be read come first, in the order of
R216, and what would need the missing bytes is TRUNCATED. A residual that ends within the bytes that can be read leaves bytes before
LEN: TRAILING. -/
def decodeCut (nd : ShuocNeeds) (h : FrameHdr) (i : Nat) (dirOk hasRef : Bool) (ref : RefSample) (t : List Byte × Bool) :
    Coded (List (List Nat)) :=
  if t.2 then
    if !dirOk then .error 0x07
    else if t.1.length < 4 then .error 0x0F
    else match decodeTile nd h i dirOk hasRef ref t.1 with
      | .error e => .error e
      | .ok _ => .error 0x10
  else decodeTile nd h i dirOk hasRef ref t.1

/-- Sample of a frame held as the samples of its tiles, in index order. -/
def frameSample (h : FrameHdr) (tiles : List (List (List Nat))) (v c x y : Nat) : Nat :=
  let i := (v * h.ty + y / 2 ^ h.thl) * h.tx + x / 2 ^ h.twl
  let g := tileGeom h i
  ((tiles.getD i []).getD c []).getD ((y - g.y0) * g.tw + (x - g.x0)) 0

/-- R207, R224: every reference sample that the tile reads, as arguments of a `RefSample`. -/
def tileReads (h : FrameHdr) (i : Nat) (t : List Byte) : List (Bool × Nat × Nat × Nat × Nat) :=
  let g := tileGeom h i
  let m := tileMode t
  if m = 2 ∨ m = 4 ∨ m = 5 then
    (List.range h.c).flatMap fun c => (List.range g.n).map fun k =>
      let p := predPos h g t k
      (decide (m ≠ 4), if m = 4 then beAt t 4 1 else g.v, c, p.1, p.2)
  else []

/-- R182, R221: the tiles of this frame whose samples an INTERVIEW tile reads. -/
def tileDeps (h : FrameHdr) (i : Nat) (t : List Byte) : List Nat :=
  if tileMode t = 4 ∧ beAt t 4 1 < (tileGeom h i).v then
    let g := tileGeom h i
    let p := predPos h g t 0
    let q := predPos h g t (g.n - 1)
    let v := beAt t 4 1
    (List.range (q.2 / 2 ^ h.thl - p.2 / 2 ^ h.thl + 1)).flatMap fun j =>
      (List.range (q.1 / 2 ^ h.twl - p.1 / 2 ^ h.twl + 1)).map fun k =>
        (v * h.ty + p.2 / 2 ^ h.thl + j) * h.tx + p.1 / 2 ^ h.twl + k
  else []

/-- R199: a frame can serve as reference of another. -/
def refFits (h r : FrameHdr) : Bool :=
  decide (h.bd = r.bd ∧ h.c = r.c ∧ h.width = r.width ∧ h.height = r.height ∧ h.npic = r.npic ∧ h.twl = r.twl ∧ h.thl = r.thl)

/-- R193: a sample of BD bits widened to 12. -/
def widen12 (bd s : Nat) : Nat := (s * 2 ^ (12 - bd) ||| s / 2 ^ (2 * bd - 12)) % 4096

/-! ### CRC-32C (reflected polynomial 0x82F63B78) -/

/-- One bit of the CRC. -/
def crcBit (c : Word) : Word := if c.getLsbD 0 then (c >>> 1) ^^^ 0x82F63B78 else c >>> 1

/-- One byte of the CRC. -/
def crcByte (c : Word) (b : Byte) : Word :=
  crcBit (crcBit (crcBit (crcBit (crcBit (crcBit (crcBit (crcBit (c ^^^ b.setWidth 32))))))))

/-- The running CRC over bytes, before the final inversion. -/
def crcRun (c : Word) : List Byte → Word
  | [] => c
  | b :: t => crcRun (crcByte c b) t

/-- CRC-32C of a byte string. -/
def crc32c (l : List Byte) : Word := ~~~(crcRun 0xFFFFFFFF l)

end Sys2Proof.Machine
end

