-- ==== Sys2Proof/Machine/Keeper.lean ====
section
/-!
DEFINITION. The rail keeper's registers, its record (R402, R563) and the guards of the RAIL pages (R404, R405). The RAIL
registers hold what the keeper holds; while it is unpowered their status regions read 0 (R404), which is a matter of the read.
-/
namespace Sys2Proof.Machine

/-! ### Registers -/

/-- KEEPER_STATUS.STATE (R406): 0 NO_HVIN, 1 OFF, 2 PRECHECK, 3 SEQ_UP, 4 ON, 5 SEQ_DOWN, 6 HOLDUP, 7 LOCKED. -/
def kState (s : State) : Nat := s.f Reg.RAIL2_KEEPER_STATUS 0 3

/-- The keeper in a state of R406. -/
def setKState (s : State) (v : Nat) : State := s.setF Reg.RAIL2_KEEPER_STATUS 0 3 v

/-- The keeper has power. -/
def kOn (s : State) : Bool := decide (kState s ≠ 0)

/-- KEEPER_STATUS.LINK_OK: the isolated channel delivers. -/
def chanUp (s : State) : Bool := s.on && s.b Reg.RAIL2_KEEPER_STATUS 3

/-- PANEL_REQ. -/
def panelReq (s : State) : Bool := s.b Reg.RAIL2_KEEPER_STATUS 4

/-- PANEL_REQ set or cleared, in the journal too (R407). -/
def setReq (s : State) (v : Bool) : State := s.setB Reg.RAIL2_KEEPER_STATUS 4 v

/-- PANEL_REQ cleared, in the journal too (R407); a wake that waits for the panel ends with it (R524). -/
def dropReq (s : State) : State := setReq { s with keeper := { s.keeper with waking := false } } false

/-- STEP in progress. -/
def kStep (s : State) : Nat := s.f Reg.RAIL2_KEEPER_STATUS 8 4

/-- RAIL_STATUS_r.STATE: 0 OFF, 1 RAMPING, 2 REGULATING, 3 LIMITED, 4 HICCUP, 5 LATCHED, 6 DISCHARGING. -/
def railState (s : State) (r : Nat) : Nat := s.f (Reg.RAIL0_RAIL_STATUS r) 0 3

/-- The rail is latched off, in the journal too (R415). -/
def railLatched (s : State) (r : Nat) : Bool := decide (railState s r = 5)

/-- The rail regulates, limited or not. -/
def regulating (s : State) (r : Nat) : Bool := decide (railState s r = 2 ∨ railState s r = 3)

/-- The rail delivers: ramping or regulating. -/
def railRuns (s : State) (r : Nat) : Bool := decide (railState s r = 1) || regulating s r

/-- The rails. -/
def railList : List Nat := List.range 13

/-- A rail without which no picture shows (R401). -/
def critical (r : Nat) : Bool := decide (r ≠ 8 ∧ r ≠ 9)

/-- A critical rail is latched. -/
def criticalLatched (s : State) : Bool := railList.any fun r => critical r && railLatched s r

/-- RAIL_SUMMARY after a change of a rail's state (R428). -/
def railSummary (s : State) : State :=
  let m := fun (p : Nat → Bool) => (railList.map fun r => if p r then 2 ^ r else 0).foldl (· + ·) 0
  s.wr Reg.RAIL0_RAIL_SUMMARY (w32 (m (railRuns s) + m (railLatched s) * 2 ^ 16))

/-- A rail in a state; one that no longer regulates reports neither NO_LOAD nor POWER_LIMITED (R417, R419). -/
def setRail (s : State) (r st : Nat) : State :=
  let a := Reg.RAIL0_RAIL_STATUS r
  let s := s.setF a 0 3 st
  let s := if st = 2 ∨ st = 3 then s else (s.setB a 7 false).setB a 12 false
  railSummary s

/-- Several rails in a state. -/
def setRails (s : State) (l : List Nat) (st : Nat) : State := l.foldl (fun s r => setRail s r st) s

/-- A field of step `i` of the sequence table (R411). -/
def stepAction (s : State) (i : Nat) : Nat := s.f (Reg.RAIL2_SEQ_A i) 0 4
def stepArg (s : State) (i : Nat) : Nat := s.f (Reg.RAIL2_SEQ_A i) 4 4
def stepDir (s : State) (i : Nat) : Nat := s.f (Reg.RAIL2_SEQ_A i) 8 2
def stepRamp (s : State) (i : Nat) : Nat := s.f (Reg.RAIL2_SEQ_A i) 16 16
def stepDelay (s : State) (i : Nat) : Nat := s.f (Reg.RAIL2_SEQ_B i) 0 20

/-- PROFILE_EN of a rail. -/
def profileEn (s : State) (r : Nat) : Bool := s.b (Reg.RAIL0_RAIL_STATUS r) 3

/-- CRACK_STATUS.LATCHED of a loop. -/
def crackLatched (s : State) (c : Nat) : Bool := s.b Reg.RAIL1_CRACK_STATUS (8 + c)

/-- Safe action of a loop (R424): 0 REPORT, 1 GATES_OFF, 2 PANEL_OFF, 3 OPTIC_HOLD. -/
def crackAction (s : State) (c : Nat) : Nat := s.f (Reg.RAIL1_CRACK_PROFILE c) 16 4

/-- Threshold of a loop in Ω. -/
def crackThreshold (s : State) (c : Nat) : Nat := s.f (Reg.RAIL1_CRACK_PROFILE c) 0 16

/-- Loop 4 or 5 holds optic updates (R435). -/
def opticHold (s : State) : Bool := [4, 5].any fun c => crackLatched s c && decide (crackAction s c = 3)

/-- PANEL_TEMP in 0.1 °C while it is valid (R425). -/
def panelTemp (s : State) : Option Int :=
  if s.b Reg.RAIL1_PANEL_TEMP 16 then some (sfld (s.rd Reg.RAIL1_PANEL_TEMP) 0 16) else none

/-! ### The rail record (R402, R563) -/

/-- PVL_LOSS of the rail record: DOWN. -/
def pvlDown (s : State) : Bool := decide (leAt s.keeper.record 0x2B8 4 % 2 = 1)

/-- The registers whose reset is "Rail record" take the values of a record, and their reserved bits are 0 (R411, R429). DESIGN
CHOICE (log entry 32): a journal without a record leaves them 0. -/
def loadRecord (s : State) : State :=
  let l := s.keeper.record
  let v := fun o => w32 (leAt l o 4)
  let s := railList.foldl (fun s r =>
    let s := s.setB (Reg.RAIL0_RAIL_STATUS r) 3 (bit (v (32 * r)) 0)
    s.wrAll [(Reg.RAIL0_TARGET r, v (4 + 32 * r)), (Reg.RAIL0_LIMIT_MIN r, v (8 + 32 * r)),
      (Reg.RAIL0_LIMIT_MAX r, v (0xC + 32 * r)), (Reg.RAIL0_ILIM r, v (0x10 + 32 * r)),
      (Reg.RAIL0_PRE_WIN1 r, v (0x14 + 32 * r)), (Reg.RAIL0_PRE_WIN2 r, v (0x18 + 32 * r))]) s
  let s := (List.range 16).foldl (fun s i =>
    s.wrAll [(Reg.RAIL2_SEQ_A i, v (0x1A0 + 8 * i) &&& 0xFFFF03FF), (Reg.RAIL2_SEQ_B i, v (0x1A4 + 8 * i) &&& 0x0FFFFFFF)]) s
  let s := (List.range 6).foldl (fun s c => s.wr (Reg.RAIL1_CRACK_PROFILE c) (v (0x220 + 4 * c) &&& 0x000FFFFF)) s
  let s := (List.range 4).foldl (fun s h =>
    s.wrAll [(Reg.RAIL1_GATE_CFG h, v (0x278 + 16 * h) &&& 0x00011F1F), (Reg.RAIL1_GATE_EDGE h, v (0x27C + 16 * h)),
      (Reg.RAIL1_GATE_OFFSET h, v (0x280 + 16 * h) &&& 0x0000FFFF), (Reg.RAIL1_GST_CFG h, v (0x284 + 16 * h) &&& 0x00FFFFFF)]) s
  s.wr Reg.RAIL2_PROFILE_CRC (if l.isEmpty then 0 else crc32c l)

/-! ### The profile in flash (R562, R566) -/

/-- The current profile copy; empty before one is installed. -/
def curProfile (s : State) : List Byte := if s.maint.profileCur then s.maint.profileB else s.maint.profileA

/-- OPT_GEOM of a profile. -/
def profGeom (l : List Byte) : Nat := leAt l 32 4

/-- OPT_GEOM takes its reset value, that of the panel profile (R456). DESIGN CHOICE (log entry 33): while a batch runs the keeper
keeps the geometry of its rows (R433). -/
def resetGeom (s : State) : State :=
  if s.opt.run.isSome then s else s.wr Reg.OPT_OPT_GEOM (w32 (profGeom (curProfile s)))

/-- The rail section of a profile. -/
def railSection (l : List Byte) : List Byte := (l.drop (leAt l 16 4)).take 704

/-- The waveform section of a profile; none when it has no optic layer. -/
def waveSection (l : List Byte) : List Byte := if leAt l 20 4 = 0 then [] else (l.drop (leAt l 20 4)).take 1024

/-- PROFILE_STATUS.JOURNAL: 0 NONE, 1 MATCH, 2 UPDATED, 3 DEFERRED. -/
def setJournal (s : State) (v : Nat) : State := s.setF Reg.MAINT_PROFILE_STATUS 4 4 v

/-- The rail and waveform sections of the flash profile are copied to the journal, and the registers follow (R566). -/
def copyProfile (s : State) : State :=
  let l := curProfile s
  setJournal (loadRecord { s with keeper := { s.keeper with record := railSection l, wave := waveSection l } }) 2

/-- R566: a copy that was DEFERRED is made when the keeper is OFF. -/
def journalCopy (s : State) : State :=
  if s.f Reg.MAINT_PROFILE_STATUS 4 4 = 3 ∧ kState s = 1 ∧ chanUp s then copyProfile s else s

/-! ### Gate edges (R421) -/

/-- A head's generator has stopped: its gate edges stop, and every output holds its level. -/
def gateEdgesStop (s : State) (h : Nat) : State :=
  { s with keeper := { s.keeper with gateFalls := tabSet (fun _ => []) s.keeper.gateFalls h [] } }

/-! ### Guards (R404, R405) -/

/-- A write or command of a RAIL page: refused while the keeper is unpowered, and to host software while ENABLE is 0. DEDUCED (log
entry 32): also while the isolated channel, the only way to the keeper, is down (R17, R408). -/
def railGate (s : State) (req : Requester) (page a : Nat) (g : State → State) : State :=
  gatedIf s req a none (fun s => kOn s && chanUp s && (decide (req = .mgmt) || enabled s page)) g

end Sys2Proof.Machine
end

