-- ==== Sys2Proof/Machine/Ingest.lean ====
section
/-!
DEFINITION. INGEST and the decode cluster: stores, duplicate detection, frame assembly, decode lanes, concealment, READY
frames and frame reports (R165 to R188, R220 to R229).
-/
namespace Sys2Proof.Machine

/-! ### Stores (R176 to R184) -/

/-- A store beyond its registers. -/
def storeOf (s : State) (n : Nat) : StoreSt := tabGet (fun _ => StoreSt.fresh) s.ing.stores n

/-- The state with a store's internal part. -/
def putStore (s : State) (n : Nat) (t : StoreSt) : State :=
  { s with ing := { s.ing with stores := tabSet (fun _ => StoreSt.fresh) s.ing.stores n t } }

/-- STORE_CFG.KIND. -/
def storeKind (s : State) (n : Nat) : Nat := s.f (Reg.INGEST_STORE_CFG n) 0 2

/-- STORE_CFG.NBUF. -/
def storeNbuf (s : State) (n : Nat) : Nat := s.f (Reg.INGEST_STORE_CFG n) 4 4

/-- STORE_CFG.HEADS names head `h`. -/
def storeHead (s : State) (n h : Nat) : Bool := s.b (Reg.INGEST_STORE_CFG n) (8 + h)

/-- STORE_STRIDE in bytes. -/
def storeStride (s : State) (n : Nat) : Nat := s.rdN (Reg.INGEST_STORE_STRIDE n) * 2 ^ 20

/-- HBM address of buffer `b`. -/
def bufAddr (s : State) (n b : Nat) : Nat :=
  s.rd64 (Reg.INGEST_STORE_BASE_LO n) (Reg.INGEST_STORE_BASE_HI n) + b * storeStride s n

/-- The frames that a per-head table names. -/
def headFrames (t : Tab (Option RFrame)) : List RFrame := (List.range 4).filterMap fun h => tabGet (fun _ => none) t h

/-- The store frames that a field fetches: of its scene store and of its FLAT stores. -/
def fieldFrames (F : FieldSt) : List RFrame := F.scene.toList ++ F.flats.filterMap (·.2)

/-- The frames of store `n` that latched fields not yet begun will fetch (R178, R184). -/
def latchedFrames (s : State) (n : Nat) : List RFrame :=
  ((s.heads.filter fun p => p.2.latched && p.2.nxt.produced).flatMap fun p => fieldFrames p.2.nxt).filter fun r => decide (r.store = n)

/-- Buffers of a store that are not free (R178, R184): in assembly or decode, the reference, current, still being fetched or to be
fetched by a field already latched. -/
def bufsUsed (s : State) (n : Nat) : List Nat :=
  let t := storeOf s n
  (t.asm.map (·.buf)) ++ ((t.ref.toList ++ headFrames t.cur ++ headFrames t.shown ++ latchedFrames s n).map (·.buf))

/-- The free buffers, ascending (R184). -/
def freeBufs (s : State) (n : Nat) : List Nat :=
  (List.range (storeNbuf s n)).filter fun b => !(bufsUsed s n).contains b

/-- Frames in assembly: contexts before their D (R181). -/
def openFrames (t : StoreSt) : Nat := (t.asm.filter fun f => !f.closed).length

/-- STORE_STATUS_s as it reads (R176). -/
def storeStatus (s : State) (n : Nat) : Word :=
  let free := if storeKind s n = 0 then 0 else (freeBufs s n).length
  w32 (free + 16 * min 7 (openFrames (storeOf s n)) + 256 * s.f (Reg.INGEST_STORE_STATUS n) 8 1)

/-- The context of a FRAME. -/
def findAsm (t : StoreSt) (num : Word) : Option Asm := t.asm.find? fun f => decide (f.num = num)

/-- The store with a context replaced. -/
def setAsm (t : StoreSt) (f : Asm) : StoreSt :=
  { t with asm := t.asm.map fun g => if g.num = f.num then f else g }

/-- The store without a context. -/
def dropAsm (t : StoreSt) (num : Word) : StoreSt := { t with asm := t.asm.filter fun g => decide (g.num ≠ num) }

/-- The outcome of a FRAME, once it has one. -/
def findPast (t : StoreSt) (num : Word) : Option Past := t.past.find? fun p => decide (p.num = num)

/-! ### Frame reports (R229) -/

/-- STORE and FRAME of a FRAME_REPORT entry. -/
def reportTarget (e : List Byte) : Nat × Word := (leAt e 8 1 % 16, w32 (leAt e 12 4))

/-- The accepted FRAME_REPORT jobs that wait on a frame. -/
def reportsOn (s : State) (n : Nat) (num : Word) : List Job :=
  s.ring.jobs.filter fun j => decide (ringOwner s j.ring = (0x30, 0) ∧ reportTarget j.entry = (n, num))

/-- A frame has its outcome (R229): it is remembered and its reports complete DONE. DESIGN CHOICE (log entry 38): an outcome is remembered
with PT_SEC and PT_NS until the store next leaves OFF. -/
def frameOutcome (s : State) (n : Nat) (p : Past) : State :=
  let t := storeOf s n
  let s := putStore s n { t with past := p :: t.past }
  (reportsOn s n p.num).foldl (fun s j => finishJob s j 0 [w32 p.outcome, w32 p.detail, p.readyAt]) s

/-! ### Refusal (R185) -/

/-- A frame is refused, at creation or later: counted, reported, remembered. -/
def refuseFrame (s : State) (n : Nat) (num : Word) (sec ns reason : Nat) : State :=
  let s := s.inc (Reg.INGEST_REFUSED n)
  let s := s.raise .frameRefused [w32 n, num, w32 reason]
  frameOutcome s n ⟨num, sec, ns, 1, reason, 0⟩

/-- A frame in assembly is refused: its lanes, slots and buffer are released. -/
def refuseAsm (s : State) (n : Nat) (f : Asm) (reason : Nat) : State :=
  let s := putStore s n (dropAsm (storeOf s n) f.num)
  let s := { s with ing := { s.ing with lanes := s.ing.lanes.filter fun l => decide (¬(l.2.1 = n ∧ l.2.2.1 = f.num)) } }
  refuseFrame (giveSlots s f.slots) n f.num f.sec f.ns reason

/-- R178: a store goes to KIND OFF. -/
def storeOff (s : State) (n : Nat) : State :=
  let s := (storeOf s n).asm.foldl (fun s f => refuseAsm s n f 8) s
  let t := storeOf s n
  putStore s n { t with ready := [], ref := none, cur := [] }

/-- R177, R178: a new STORE_CFG takes effect. Going from OFF to another KIND advances the store epoch and starts the
store afresh; EMPTY counts from this enable (R176). -/
def storeCfgWrite (s : State) (n : Nat) (v : Word) : State :=
  let old := storeKind s n
  let s := s.wr (Reg.INGEST_STORE_CFG n) v
  if old ≠ 0 ∧ storeKind s n = 0 then storeOff s n
  else if old = 0 ∧ storeKind s n ≠ 0 then
    let s := s.setF (Reg.INGEST_STORE_EPOCH n) 0 16 (s.f (Reg.INGEST_STORE_EPOCH n) 0 16 + 1)
    let s := s.setB (Reg.INGEST_STORE_STATUS n) 8 true
    putStore s n { storeOf s n with asm := [], ready := [], ref := none, cur := [], lastP := none, past := [] }
  else s

/-! ### Descriptors (R179, R180, R198) -/

/-- Scene descriptor geometry: WIDTH, HEIGHT, NS or NP or FORMAT, NT, C. -/
def descGeom (d : List Byte) : Nat × Nat × Nat × Nat × Nat :=
  (beAt d 4 2, beAt d 6 2, beAt d 8 1, beAt d 9 1, beAt d 10 1)

/-- V of R180: pictures of the frame. -/
def descPics (d : List Byte) : Nat :=
  let k := beAt d 0 1
  if k = 1 then beAt d 8 1 * beAt d 9 1 else if k = 2 then beAt d 8 1 else 1

/-- Bytes before the Shuoc frame header (R179). -/
def descLen (d : List Byte) : Nat := if beAt d 0 1 = 2 then 24 + 4 * beAt d 8 1 else 24

/-- Components of a layer format code (R305). -/
def formatComps (f : Nat) : Nat :=
  if f = 3 ∨ f = 4 then 3 else if f = 7 ∨ f = 8 then 1 else if 1 ≤ f ∧ f ≤ 6 then 4 else 0

/-- R179: a descriptor whose fields are in range. -/
def descOk (d : List Byte) : Bool :=
  let k := beAt d 0 1
  decide (24 ≤ d.length ∧ beAt d 1 1 < 2 ∧ beAt d 2 2 = 0 ∧ beAt d 11 1 = 0 ∧ beAt d 20 4 = 0 ∧
    1 ≤ beAt d 4 2 ∧ beAt d 4 2 ≤ 16384 ∧ 1 ≤ beAt d 6 2 ∧ beAt d 6 2 ≤ 16384) &&
  (if k = 1 then decide (1 ≤ beAt d 8 1 ∧ 1 ≤ beAt d 9 1 ∧ descPics d ≤ 256 ∧ beAt d 10 1 = 3)
   else if k = 2 then decide (1 ≤ beAt d 8 1 ∧ beAt d 8 1 ≤ 64 ∧ beAt d 9 1 = 0 ∧ beAt d 10 1 = 4)
   else decide (k = 3 ∧ beAt d 9 1 = 0 ∧ formatComps (beAt d 8 1) ≠ 0 ∧ beAt d 10 1 = formatComps (beAt d 8 1)))

/-- R165, R179: a reserved field of a descriptor is not 0. -/
def descReserved (d : List Byte) : Bool :=
  decide (2 ≤ beAt d 1 1 ∨ beAt d 2 2 ≠ 0 ∨ beAt d 11 1 ≠ 0 ∨ beAt d 20 4 ≠ 0)

/-- R180: a descriptor fits its store. -/
def descFits (s : State) (n : Nat) (d : List Byte) : Bool :=
  descOk d && decide (beAt d 0 1 = storeKind s n) &&
  decide (2 * 65536 + beAt d 4 2 * beAt d 6 2 * beAt d 10 1 * descPics d * 3 ≤ 2 * storeStride s n) &&
  (match (storeOf s n).ref with
   | some r => decide (descGeom r.desc = descGeom d ∨ beAt d 1 1 % 2 = 1)
   | none => true)

/-- What the decode cluster accepts (R217, R218). -/
def sceneNeeds (s : State) : ShuocNeeds := ⟨false, false, true, s.feat 8, s.feat 9, [0, 1, 2, 3, 4, 5, 6]⟩

/-- R198: the frame header agrees with the descriptor. -/
def hdrAgrees (d : List Byte) (h : FrameHdr) : Bool :=
  decide (h.width = beAt d 4 2 ∧ h.height = beAt d 6 2 ∧ h.c = beAt d 10 1 ∧ h.npic = descPics d ∧
    h.tileCount = beAt d 12 4 ∧ h.key = decide (beAt d 1 1 % 2 = 1) ∧ beAt d 16 4 = h.size)

/-- The frame header of a SCENE_DESC payload. -/
def descHdr (s : State) (d : List Byte) : Coded FrameHdr := parseHdr (sceneNeeds s) (hdrAgrees d) (d.drop (descLen d))

/-! ### Stored samples (R193, R275) -/

/-- Position of a sample in a stored frame of geometry (C, WIDTH, HEIGHT). -/
def samplePos (c w h : Nat) (v comp x y : Nat) : Nat := ((v * c + comp) * h + y) * w + x

/-- Address of the 3-byte group that holds sample `n` of the frame at `base` (R180, R275). -/
def sampleAddr (base n : Nat) : Nat := base + 65536 + 3 * (n / 2)

/-- The 12-bit sample `n` of the frame at `base`. -/
def sampleAt (s : State) (base n : Nat) : Nat :=
  let v := leNat (hbmBytes s (sampleAddr base n) 3)
  if n % 2 = 1 then v / 4096 else v % 4096

/-- Sample `n` reads poisoned. -/
def sampleBad (s : State) (base n : Nat) : Bool := rangeBad s (sampleAddr base n) 3

/-- Stores samples from position `n` on. -/
def putSamples (s : State) (base : Nat) : Nat → List Nat → State
  | _, [] => s
  | n, v :: t =>
    let w := leNat (hbmBytes s (sampleAddr base n) 3)
    let w := if n % 2 = 1 then w % 4096 + v % 4096 * 4096 else w / 4096 * 4096 + v % 4096
    putSamples (hbmWrite s 2 (sampleAddr base n) (leBytes 3 w)) base (n + 1) t

/-- Stores the rows of one component of a tile, each sample widened by `f`. -/
def putRows (base : Nat) (hd : FrameHdr) (g : TileGeom) (c : Nat) (f : Nat → Nat) (l : List Nat) (s : State) : State :=
  (List.range g.th).foldl (fun s y =>
    putSamples s base (samplePos hd.c hd.width hd.height g.v c g.x0 (g.y0 + y)) (((l.drop (y * g.tw)).take g.tw).map f)) s

/-- Stores a decoded tile (R193). -/
def putTile (s : State) (base : Nat) (hd : FrameHdr) (i : Nat) (comps : List (List Nat)) : State :=
  (List.range hd.c).foldl (fun s c => putRows base hd (tileGeom hd i) c (widen12 hd.bd) (comps.getD c []) s) s

/-- The address of a READY frame's buffer. -/
def frameBase (s : State) (f : RFrame) : Nat := bufAddr s f.store f.buf

/-- R183: the samples that conceal a tile: the co-located tile of the reference frame, or 0. -/
def concealRow (s : State) (ref : Option RFrame) (d : List Byte) (hd : FrameHdr) (g : TileGeom) (c y : Nat) : List Nat :=
  match ref with
  | some r =>
    if descGeom r.desc = descGeom d then
      (List.range g.tw).map fun x =>
        sampleAt s (frameBase s r) (samplePos hd.c hd.width hd.height g.v c (g.x0 + x) (g.y0 + y))
    else List.replicate g.tw 0
  | none => List.replicate g.tw 0

/-- R183: conceals tile `i` of a context. -/
def concealTile (n : Nat) (f : Asm) (d : List Byte) (hd : FrameHdr) (s : State) (i : Nat) : State :=
  let g := tileGeom hd i
  (List.range hd.c).foldl (fun s c => (List.range g.th).foldl (fun s y =>
    putSamples s (bufAddr s n f.buf) (samplePos hd.c hd.width hd.height g.v c g.x0 (g.y0 + y))
      (concealRow s (storeOf s n).ref d hd g c y)) s) s

/-- A frame header for frames whose own header is in error: one tile per picture of the descriptor's geometry. -/
def wholeHdr (d : List Byte) : FrameHdr :=
  ⟨true, false, 12, beAt d 10 1, beAt d 4 2, beAt d 6 2, descPics d, 14, 14, [0, 0, 0, 0], [], descPics d, 0⟩

/-! ### Decode lanes (R220 to R225) -/

/-- A scene tile ends in error (R223): counted, and reported once per frame. -/
def tileError (s : State) (n : Nat) (f : Asm) (i code count : Nat) : State × Asm :=
  let s := s.incBy Reg.CODEC_TILE_ERRORS count
  if f.erred then (s, f)
  else (s.raise .sceneStreamError [w32 n, f.num, w32 i, w32 code], { f with erred := true })

/-- State of tile `i` of a context. -/
def tileOf (f : Asm) (i : Nat) : TileSt := tabGet (fun _ => TileSt.missing) f.tiles i

/-- The context with the state of a tile. -/
def setTile (f : Asm) (i : Nat) (t : TileSt) : Asm := { f with tiles := tabSet (fun _ => TileSt.missing) f.tiles i t }

/-- R221: tile `i` is complete and its reference tiles are decoded. -/
def dispatchable (s : State) (f : Asm) (hd : FrameHdr) (i : Nat) : Bool :=
  match tileOf f i with
  | .held p => (tileDeps hd i (pieceBytes s p)).all fun j => decide (tileOf f j = .done)
  | _ => false

/-- The first dispatchable tile of a context. -/
def firstTile (s : State) (n : Nat) (f : Asm) : Option Nat :=
  match f.hdr, f.desc with
  | some hd, some d =>
    if descFits s n d then (f.tiles.map (·.1)).find? (dispatchable s f hd) else none
  | _, _ => none

/-- Contexts with a dispatchable tile: (D, store, FRAME, tile). -/
def readyTiles (s : State) : List (Int × Nat × Word × Nat) :=
  (List.range 16).flatMap fun n => (storeOf s n).asm.filterMap fun f => (firstTile s n f).map fun i => (f.d, n, f.num, i)

/-- The element with the smallest first component, the earlier one when equal. -/
def earliest : List (Int × Nat × Word × Nat) → Option (Int × Nat × Word × Nat)
  | [] => none
  | x :: t => match earliest t with
    | some y => if y.1 < x.1 then some y else some x
    | none => some x

/-- A context still has tiles to decode: held or on a lane. -/
def tilesLeft (f : Asm) : Bool := f.tiles.any fun p => match p.2 with | .held _ => true | .lane _ => true | _ => false

/-- R222: a closed frame that overruns its D finishes before any tile of a frame with a later D starts. -/
def mayStart (s : State) (d : Int) : Bool :=
  (List.range 16).all fun n => (storeOf s n).asm.all fun f => !(f.closed && tilesLeft f) || decide (d ≤ f.d)

/-- Lanes of the cores in service (R221, R227). -/
def lanesIn (s : State) : List Nat := (List.range 128).filter fun l => s.b Reg.CODEC_CORE_MASK (l / 4)

/-- The lowest free lane. -/
def freeLane (s : State) : Option Nat := (lanesIn s).find? fun l => !(s.ing.lanes.any fun x => decide (x.1 = l))

/-- R221, R222, R228: gives free lanes tiles, at most `fuel` of them. -/
def dispatchN : Nat → State → State
  | 0, s => s
  | fuel + 1, s =>
    if !enabled s 0x30000 || s.suspended then s
    else match freeLane s, earliest ((readyTiles s).filter fun q => mayStart s q.1) with
      | some l, some (_, n, num, i) =>
        match findAsm (storeOf s n) num with
        | some f =>
          match tileOf f i with
          | .held p =>
            let s := putStore s n (setAsm (storeOf s n) (setTile f i (.lane p)))
            dispatchN fuel { s with ing := { s.ing with lanes := s.ing.lanes ++ [(l, n, num, i)] } }
          | _ => s
        | none => s
      | _, _ => s

/-- R221: fills the free lanes. -/
def dispatch (s : State) : State := dispatchN 128 s

/-- The reference of a scene frame, when its header fits (R195, R199). -/
def sceneRef (s : State) (n : Nat) (hd : FrameHdr) : Option RFrame :=
  match (storeOf s n).ref with
  | some r => match r.hdr with
    | some rh => if refFits hd rh then some r else none
    | none => none
  | none => none

/-- Reference samples of a scene tile, at BD bits (R193). -/
def sceneRefs (s : State) (n : Nat) (f : Asm) (hd : FrameHdr) : RefSample := fun inter v c x y =>
  let pos := samplePos hd.c hd.width hd.height v c x y
  let w := if inter then
      (match (storeOf s n).ref with | some r => sampleAt s (frameBase s r) pos | none => 0)
    else sampleAt s (bufAddr s n f.buf) pos
  w / 2 ^ (12 - hd.bd)

/-- R224: a reference sample of the tile reads poisoned. -/
def sceneRefsBad (s : State) (n : Nat) (f : Asm) (hd : FrameHdr) (i : Nat) (b : List Byte) : Bool :=
  (tileReads hd i b).any fun q =>
    let pos := samplePos hd.c hd.width hd.height q.2.1 q.2.2.1 q.2.2.2.1 q.2.2.2.2
    if q.1 then (match (storeOf s n).ref with | some r => sampleBad s (frameBase s r) pos | none => false)
    else sampleBad s (bufAddr s n f.buf) pos

/-- R221 to R224: decodes tile `i`, which is on a lane with bytes at `p`, into the context's buffer. -/
def decodeScene (s : State) (n : Nat) (f : Asm) (hd : FrameHdr) (i : Nat) (p : Pieces) : State × Asm :=
  let b := pieceBytes s p
  let r : Coded (List (List Nat)) :=
    if pieceBad s p then .error 0x21
    else match decodeTile (sceneNeeds s) hd i true (sceneRef s n hd).isSome (sceneRefs s n f hd) b with
      | .error e => .error e
      | .ok v => if sceneRefsBad s n f hd i b then .error 0x21 else .ok v
  let s := p.foldl (fun s q => touch s 2 q.1 q.2) s
  match r with
  | .ok v =>
    let g := tileGeom hd i
    let s := (putTile s (bufAddr s n f.buf) hd i v).inc48 Reg.CODEC_TILES_LO Reg.CODEC_TILES_HI 1
    let s := perfHit (perfHit s 0x30 0 0x10 (hd.c * g.n)) 0x30 0 0x11 1
    ({ s with ing := { s.ing with loads := s.ing.loads ++ [(s.now, hd.c * g.n)] } }, setTile f i .done)
  | .error e =>
    let got := tileError s n f i e 1
    let s := got.1
    let f := got.2
    if f.closed then
      (perfHit (concealTile n f (f.desc.getD []) hd s i) 0x21 0 0x12 1, { setTile f i .done with concealed := f.concealed + 1 })
    else (s, setTile f i .bad)

/-- TILE_DECODE_COMPLETE (R221): a lane finishes its tile and the free lanes take the next. -/
def execTileDecodeComplete (store : Fin 16) (frame : Word) (tile : Nat) (s : State) : Host.Outcome State Fault Refusal :=
  .next (
    match findAsm (storeOf s store) frame with
    | none => s
    | some f =>
      match tileOf f tile, f.hdr with
      | .lane p, some hd =>
        let s := { s with ing := { s.ing with
          lanes := s.ing.lanes.filter fun l => decide (¬(l.2.1 = store ∧ l.2.2.1 = frame ∧ l.2.2.2 = tile)) } }
        let got := decodeScene s store f hd tile p
        let s := got.1
        let f := got.2
        dispatch (putStore s store (setAsm (storeOf s store) f))
      | _, _ => s)

/-- R225: the loads of the last second. -/
def recentLoads (s : State) : List (Nat × Nat) := s.ing.loads.filter fun p => decide (s.now < p.1 + 1000000000)

/-- DECODE_LOAD_UPDATE (R225): LOAD over the last second, in 0.1 % of 204.8 G samples. -/
def execDecodeLoadUpdate (s : State) : Host.Outcome State Fault Refusal :=
  .next (
    if !s.on then s
    else
      let l := recentLoads s
      let load : Nat := min 2047 ((l.map (·.2)).foldl (· + ·) 0 * 1000 / 204800000000)
      let s := { s with ing := { s.ing with loads := l } }
      let s := s.wr Reg.CODEC_LOAD (w32 load)
      if 850 < load ∧ !s.ing.loadHigh then
        let s := { s with ing := { s.ing with loadHigh := true } }
        s.raise .decodeLoadHigh [w32 load]
      else if load < 800 then { s with ing := { s.ing with loadHigh := false } } else s)

/-- Tiles on the lanes of a core go back to held (R227, R228). -/
def unlane (s : State) (keep : Nat → Bool) : State :=
  let back := s.ing.lanes.filter fun l => !keep l.1
  let s := { s with ing := { s.ing with lanes := s.ing.lanes.filter fun l => keep l.1 } }
  back.foldl (fun s l =>
    match findAsm (storeOf s l.2.1) l.2.2.1 with
    | some f => match tileOf f l.2.2.2 with
      | .lane p => putStore s l.2.1 (setAsm (storeOf s l.2.1) (setTile f l.2.2.2 (.held p)))
      | _ => s
    | none => s) s

/-- DECODE_SELFTEST (R227): a core that fails its test is retired and its tiles are dispatched again. -/
def execDecodeSelftest (core : Fin 32) (pass : Bool) (s : State) : Host.Outcome State Fault Refusal :=
  .next (
    if s.on && s.b Reg.CODEC_SELFTEST_CTRL 0 && s.b Reg.CODEC_CORE_MASK core && !pass then
      let s := s.setB Reg.CODEC_CORE_MASK core false
      let s := unlane s fun l => decide (l / 4 ≠ core.val)
      dispatch (s.raise .coreRetired [w32 core, s.rd Reg.CODEC_CORE_MASK])
    else s)

/-! ### Closing and READY (R183, R184, R226) -/

/-- Tiles that are concealed at D: missing, incomplete or bad, and every undecoded one while the cluster is disabled
(R183, R228). -/
def concealedAtD (s : State) (f : Asm) (count : Nat) : List Nat :=
  (List.range count).filter fun i =>
    match tileOf f i with
    | .missing => true
    | .frag _ _ => true
    | .bad => true
    | .held _ => !enabled s 0x30000
    | .lane _ => false
    | .done => false

/-- R183: FRAME_CONCEALED of a frame with `k` concealed tiles. -/
def noteConcealed (s : State) (n : Nat) (num : Word) (k : Nat) : State :=
  (s.inc (Reg.INGEST_CONCEALED n)).raise .frameConcealed [w32 n, num, w32 k]

/-- R183: assembly of a context closes at D. -/
def closeAsm (s : State) (n : Nat) (f : Asm) : State :=
  match f.desc with
  | none => refuseAsm s n f 6
  | some d =>
    if !descFits s n d then refuseAsm s n f 7
    else
      let hd := f.hdr.getD (wholeHdr d)
      let l := match f.hdr with | some h => concealedAtD s f h.tileCount | none => List.range hd.tileCount
      let k := match f.hdr with | some _ => l.length | none => beAt d 12 4
      let s := perfHit (l.foldl (concealTile n f d hd) s) 0x21 0 0x12 k
      let f := l.foldl (fun f i => setTile f i .done) f
      let f := if f.hdr.isNone then { f with tiles := [] } else f
      let f := { f with closed := true, concealed := k, noted := decide (k ≠ 0) }
      let s := putStore s n (setAsm (storeOf s n) f)
      dispatch (if k = 0 then s else noteConcealed s n f.num k)

/-- ASSEMBLY_CLOSE (R183): applies when D has been reached. -/
def execAssemblyClose (store : Fin 16) (frame : Word) (s : State) : Host.Outcome State Fault Refusal :=
  .next (
    match findAsm (storeOf s store) frame with
    | some f => if !f.closed && decide (f.d ≤ s.now) then closeAsm s store f else s
    | none => s)

/-- R188: every context whose deadline has passed closes at once. -/
def closeOverdue (s : State) : State :=
  (List.range 16).foldl (fun s n => (storeOf s n).asm.foldl (fun s g =>
    match findAsm (storeOf s n) g.num with
    | some f => if !f.closed && decide (f.d ≤ s.now) then closeAsm s n f else s
    | none => s) s) s

/-- Every tile of a closed context is decoded or concealed (R183). -/
def asmDone (f : Asm) : Bool := f.closed && !tilesLeft f

/-- Free bytes for contents that the spec does not lay out. -/
def freeBytes (s : State) (n : Nat) : List Byte := (List.range n).map (Config.freeByte s.freeCount)

/-- R183, R184: a closed frame becomes READY and the reference of its store. The layout of the 64 KiB frame header block
is not in the spec, so its bytes are free; what it holds is kept in the frame's record (R180). -/
def frameReady (s : State) (n : Nat) (f : Asm) : State :=
  let d := f.desc.getD []
  let r : RFrame := ⟨n, f.num, f.p, f.buf, d, f.hdr, f.concealed⟩
  let s := (hbmWrite s 3 (bufAddr s n f.buf) (freeBytes s 65536)).useFree
  let t := dropAsm (storeOf s n) f.num
  let s := putStore s n { t with ready := t.ready ++ [r], ref := some r }
  let s := giveSlots s f.slots
  let s := s.wr (Reg.INGEST_CUR_FRAME n) f.num
  let s := s.setB (Reg.INGEST_STORE_STATUS n) 8 false
  let s := if decide (0 < f.concealed) && !f.noted then noteConcealed s n f.num f.concealed else s
  let s := if f.late then (s.inc Reg.CODEC_FRAMES_LATE).raise .decodeLate [w32 n, f.num] else s
  frameOutcome s n ⟨f.num, f.sec, f.ns, 0, f.concealed, s.ns32⟩

/-- FRAME_READY (R183): applies when every tile of a closed frame is decoded or concealed. -/
def execFrameReady (store : Fin 16) (frame : Word) (s : State) : Host.Outcome State Fault Refusal :=
  .next (
    match findAsm (storeOf s store) frame with
    | some f => if asmDone f then dispatch (frameReady s store f) else s
    | none => s)

/-! ### Packets (R165, R169, R172, R180 to R182) -/

/-- R172 dup_check: 0 accept, 1 duplicate, 2 old, with the flow after it. -/
def dupCheck (f : FlowSt) (seq : Word) (restart : Bool) : Nat × FlowSt :=
  let d := (seq - f.high).toInt
  let b := seq.toNat % 16384
  if f.empty || (restart && decide (0 < d ∨ d ≤ -16384)) then
    (0, { f with bits := [b], high := seq, empty := false })
  else if 0 < d then
    let left := if 16384 ≤ d then [] else f.bits.filter fun k => decide (d ≤ (((k + 16384) - (f.high + 1).toNat % 16384) % 16384 : Nat))
    (0, { f with bits := b :: left, high := seq })
  else if d ≤ -16384 then (2, f)
  else if f.bits.contains b then (1, f)
  else (0, { f with bits := b :: f.bits })

/-- R173: a packet of a DUP flow from port `p` counts as delivered, and restores a lost path. -/
def pathDelivered (s : State) (i p : Nat) : State :=
  if !s.b (Reg.FLOW_FLOW_CTRL i) 4 ∨ 2 ≤ p then s
  else
    let f := flowOf s i
    let s := putFlow s i (if p = 0 then { f with last0 := some s.now } else { f with last1 := some s.now })
    if s.b (Reg.FLOW_PATH_STALE i) (16 + p) then s
    else (s.setB (Reg.FLOW_PATH_STALE i) (16 + p) true).raise .pathRestored [w32 i, w32 p]

/-- R169: a matched packet with a stale store epoch. -/
def flowStale (s : State) (i n : Nat) : State :=
  let s := s.setF (Reg.FLOW_PATH_STALE i) 0 16 (min 0xFFFF (s.f (Reg.FLOW_PATH_STALE i) 0 16 + 1))
  let f := flowOf s i
  if f.staleSeen then s
  else
    (putFlow s i { f with staleSeen := true }).raise .flowStale
      [w32 i, w32 (s.f (Reg.FLOW_FLOW_TARGET i) 16 16), w32 (s.f (Reg.INGEST_STORE_EPOCH n) 0 16)]

/-- R165, R180, R182: the packet contradicts what is known of its frame. DESIGN CHOICE (log entry 38): where a tile is complete or
decoded, its fragment count is known no more, so that a fragment with another count is the duplicate of R182 and not malformed. -/
def frameContradicts (t : StoreSt) (h : PstHdr) (payload : List Byte) : Bool :=
  match findAsm t h.frame with
  | none => (match findPast t h.frame with | some p => decide ((p.sec, p.ns) ≠ (h.sec, h.ns)) | none => false)
  | some f =>
    decide ((f.sec, f.ns) ≠ (h.sec, h.ns)) ||
    (!f.closed &&
      (if h.ptype = 1 then (match f.desc with | some d => decide (d ≠ payload) | none => false)
       else
        let last := if h.ptype = 2 then h.ts0 + h.ts1 % 65536 else h.ts0 + 1
        (match f.desc with | some d => decide (beAt d 12 4 < last) | none => false) ||
        (decide (h.ptype = 3) &&
          (match tileOf f h.ts0 with | .frag c _ => decide (c ≠ h.ts1 / 65536) | _ => false))))

/-- R181: P of a frame, in device time. -/
def presentTime (s : State) (sec ns : Nat) : Int := (sec * 1000000000 + ns : Nat) - s.epochOffset

/-- R181: why a new frame is refused, 0 when it is not. -/
def refuseReason (s : State) (n : Nat) (p d : Int) : Nat :=
  let t := storeOf s n
  if d ≤ s.now then 1
  else if (match t.lastP with | some q => decide (p ≤ q) | none => false) then 2
  else if (s.rdN (Reg.INGEST_MAX_AHEAD n) : Int) < p - s.now then 3
  else if (freeBufs s n).isEmpty then 4
  else if 4 ≤ openFrames t then 5
  else 0

/-- R181: the context of a frame's first packet, which takes the lowest free buffer. DESIGN CHOICE: which one is not
stated. -/
def newAsm (s : State) (n : Nat) (h : PstHdr) : Asm :=
  let p := presentTime s h.sec h.ns
  { num := h.frame, p := p, d := p - s.rdN (Reg.INGEST_DECODE_LEAD n), sec := h.sec, ns := h.ns,
    buf := (freeBufs s n).headD 0, desc := none, hdr := none, tiles := [], concealed := 0, closed := false,
    erred := false, noted := false, late := false, slots := [] }

/-- R181: the new context enters its store; a READY frame in the buffer it takes is passed over (R187). -/
def addAsm (s : State) (n : Nat) (f : Asm) : State :=
  let t := storeOf s n
  putStore s n { t with asm := t.asm ++ [f], lastP := some f.p, ready := t.ready.filter fun r => decide (r.buf ≠ f.buf) }

/-- Marks every tile of `[first, first + cnt)` that is not held as `st`. -/
def markTiles (f : Asm) (l : List Nat) (st : TileSt) : Asm := l.foldl (fun f i => setTile f i st) f

/-- The frame header of a context is in error, which has ended every tile of the frame (R216). -/
def hdrBad (f : Asm) : Bool := f.desc.isSome && f.hdr.isNone

/-- The SCENE_DESC payload of a context (R179, R196): a frame-scope error ends every tile that has not ended in an error before
(R223). -/
def takeDesc (s : State) (n : Nat) (f : Asm) (d : List Byte) : State × Asm :=
  let f := { f with desc := some d, tiles := f.tiles.filter fun p => decide (p.1 < beAt d 12 4) }
  match descHdr s d with
  | .ok h => (s, { f with hdr := some h })
  | .error e => tileError s n f 0 e (beAt d 12 4 - (f.tiles.filter fun p => decide (p.2 = .bad)).length)

/-- A tile that has not ended in an error of its frame's header ends in one of its group (R223). -/
def groupError (s : State) (n : Nat) (f : Asm) (i code count : Nat) : State × Asm :=
  if hdrBad f then (s, f) else tileError s n f i code count

/-- The tiles of a group with their places: (index, pieces). -/
def groupPieces (p : Pieces) : Nat → Nat → List (List Byte × Bool) → List (Nat × Pieces)
  | _, _, [] => []
  | i, off, t :: l => (i, cutPieces p off t.1.length) :: groupPieces p (i + 1) (off + beAt t.1 0 3) l

/-- A tile of a context of which a whole coded tile is still taken: neither complete nor decoded (R182). DESIGN CHOICE (log entry 38): a
tile that ended in BAD_STREAM is held, so a fresh copy of it is a duplicate and it is concealed at D. -/
def tileOpen (f : Asm) (i : Nat) : Bool := match tileOf f i with | .missing => true | .frag _ _ => true | _ => false

/-- A TILES packet (R164, R182, R205). True when some tile was new. -/
def takeTiles (s : State) (n : Nat) (f : Asm) (h : PstHdr) (p : Pieces) (b : List Byte) : State × Asm × Bool :=
  let idx := (List.range (h.ts1 % 65536)).map (h.ts0 + ·)
  let fresh := idx.filter (tileOpen f)
  if fresh.isEmpty then (s, f, false)
  else match splitGroup (h.ts1 % 65536) b.length b with
    | .error e =>
      let got := groupError s n f (fresh.headD 0) e fresh.length
      let s := got.1
      let f := got.2
      (s, markTiles f fresh .bad, true)
    | .ok l =>
      (s, (groupPieces p h.ts0 0 l).foldl (fun f q => if fresh.contains q.1 then setTile f q.1 (.held q.2) else f) f, true)

/-- A TILE_FRAG packet (R164, R182). True when the fragment was new. -/
def takeFrag (s : State) (n : Nat) (f : Asm) (h : PstHdr) (p : Pieces) : State × Asm × Bool :=
  let i := h.ts0
  let k := h.ts1 % 65536
  let cnt := h.ts1 / 65536
  let parts : Option (List (Nat × Pieces)) :=
    match tileOf f i with
    | .missing => some [(k, p)]
    | .frag _ l => if l.any fun q => decide (q.1 = k) then none else some (l ++ [(k, p)])
    | _ => none
  match parts with
  | none => (s, f, false)
  | some l =>
    if l.length < cnt then (s, setTile f i (.frag cnt l), true)
    else
      let all := (List.range cnt).flatMap fun k => ((l.find? fun q => decide (q.1 = k)).map (·.2)).getD []
      let b := pieceBytes s all
      match splitGroup 1 b.length b with
      | .ok _ => (s, setTile f i (.held all), true)
      | .error e =>
        let got := groupError s n f i e 1
        let s := got.1
        let f := got.2
        (s, setTile f i .bad, true)

/-- What a packet of an open frame gives (R180, R182): the disposition of R175. -/
def takePacket (s : State) (n : Nat) (f : Asm) (h : PstHdr) (p : Pieces) (b : List Byte) (slots : List Nat) : State × Nat :=
  let (s, f, new) : State × Asm × Bool :=
    if h.ptype = 1 then
      (if f.desc.isSome then (s, f, false) else let got := takeDesc s n f b; (got.1, got.2, true))
    else if h.ptype = 2 then takeTiles s n f h p b
    else takeFrag s n f h p
  let f := if new then { f with slots := f.slots ++ slots } else f
  let s := putStore s n (setAsm (storeOf s n) f)
  (dispatch (if new then s else giveSlots s slots), if new then 0 else 1)

/-- R181 to R185: an accepted packet reaches its frame. -/
def assemble (s : State) (n : Nat) (h : PstHdr) (p : Pieces) (b : List Byte) (slots : List Nat) : State × Nat :=
  let t := storeOf s n
  if storeKind s n = 0 then (giveSlots s slots, 2)
  else match findAsm t h.frame with
    | some f => if f.closed then (giveSlots s slots, 2) else takePacket s n f h p b slots
    | none =>
      if (findPast t h.frame).isSome then (giveSlots s slots, 2)
      else
        let f := newAsm s n h
        let r := refuseReason s n f.p f.d
        if r ≠ 0 then (refuseFrame (giveSlots s slots) n h.frame h.sec h.ns r, 2)
        else takePacket (addAsm s n f) n f h p b slots

/-- Counts a disposition at the flow (R166, R172, R182, R185). -/
def countFlow (s : State) (i d : Nat) : State :=
  if d = 0 then perfHit (s.inc (Reg.FLOW_ACCEPTED i)) 0x21 0 0x10 1
  else if d = 1 then perfHit (s.inc (Reg.FLOW_DUPLICATES i)) 0x21 0 0x11 1
  else s.inc (Reg.FLOW_LATE i)

/-- A whole PST packet at INGEST (R165, R168, R169, R172): path 0 or 1 a port, 2 the host. The packet lies in `slots`; the
result is the disposition of R175, or 5 for a malformed packet. DESIGN CHOICE (log entry 38): the checks of a packet alone come before
the flow match, and the store epoch (R169) before what the packet says of its frame; every packet that the flow admits counts as
delivered by its path (R173), stale and contradicting ones too. -/
def ingestPacket (s : State) (path : Nat) (b : List Byte) (slots : List Nat) : State × Nat :=
  let h := pstHdr b
  let i := h.sid % 8192
  if pstBad b b.length || (decide (h.ptype = 1) && descReserved (b.drop 32)) then (badPst (giveSlots s slots) h, 5)
  else if !flowAdmits s i path h.sid then (noFlow (giveSlots s slots) h path, 3)
  else
    let n := flowStore s i
    let s := pathDelivered s i path
    if s.f (Reg.FLOW_FLOW_TARGET i) 16 16 ≠ s.f (Reg.INGEST_STORE_EPOCH n) 0 16 then
      (flowStale (giveSlots s slots) i n, 4)
    else if decide (h.ptype ≠ 4) && frameContradicts (storeOf s n) h (b.drop 32) then (badPst (giveSlots s slots) h, 5)
    else
      let dup := s.b (Reg.FLOW_FLOW_CTRL i) 4
      let got := if dup then dupCheck (flowOf s i) h.seq h.restart else (0, flowOf s i)
      let cls := got.1
      let fl := got.2
      let s := putFlow s i fl
      if cls ≠ 0 then (countFlow (giveSlots s slots) i 1, 1)
      else if h.ptype = 4 then (countFlow (giveSlots s slots) i 0, 0)
      else
        let got := assemble s n h (slotPieces s slots 32 (b.length - 32)) (b.drop 32) slots
        let s := got.1
        let d := got.2
        (countFlow s i d, d)

/-- R171: a packet or buffer discarded for poison. -/
def mediaDiscard (s : State) (slots : List Nat) : State := (giveSlots s slots).inc Reg.INGEST_MEDIA_COUNT

/-- The record of a SCENE_RX entry whose ring has COMP_EN (R87, R101). DESIGN CHOICE (log entry 46): JOB0 to JOB3 are free values, since
the spec lays out none for such a record. -/
def rxRecord (s : State) (r : Nat) (idx tag : Word) (status : Nat) : State :=
  if ringComp s r then
    finish { s with freeCount := s.freeCount + 5 } r idx tag status ((List.range 4).map fun i => Config.freeWord (s.freeCount + 1 + i))
  else s

/-- The packet of an accepted SCENE_RX entry, and the status of the entry. DEDUCED (log entry 46): as R175 says of a HOST_SCENE entry, a
malformed packet gives BAD_STREAM, a poisoned one MEDIA_ERROR (R171), any other DONE. -/
def rxPacketIn (s : State) (x : RxEntry) : State × Nat :=
  let p := slotPieces s x.slots 0 x.len
  if pieceBad s p then (mediaDiscard (p.foldl (fun s q => touch s 3 q.1 q.2) s) x.slots, 0x0E)
  else
    let got := ingestPacket s x.port (pieceBytes s p) x.slots
    (got.1, if got.2 = 5 then 0x08 else 0)

/-- What an accepted SCENE_RX entry does, with its status: an entry that cannot be read ends MEDIA_ERROR (R97), one whose page is not
available NOT_NEGOTIATED (R78); otherwise its packet goes on. -/
def rxEntry (s : State) (r : Nat) (idx : Word) (bad : Bool) : State × Nat :=
  match s.ing.rx.find? fun x => decide (x.ring = r ∧ x.index = idx) with
  | none => (if bad then s.raise .ringMediaError [w32 r, idx] else s, if bad then 0x0E else 0)
  | some x =>
    let s := { s with ing := { s.ing with rx := s.ing.rx.filter fun y => decide (¬(y.ring = r ∧ y.index = idx)) } }
    if bad then ((giveSlots s x.slots).raise .ringMediaError [w32 r, idx], 0x0E)
    else if ownerGone s r then (giveSlots s x.slots, 0x05)
    else rxPacketIn s x

/-- INGEST takes the entry at CONS of a SCENE_RX ring (R95, R97, R170). -/
def rxAccept (s : State) (r : Nat) : State :=
  let idx := s.rd (Reg.RING_CONS r)
  let a := entryAddr s r idx
  let bad := !ringHost s r && rangeBad s a (ringEsize s r)
  let tag := if !ringHost s r && blockBad s (a / 32) then 0 else recTag s r (entryBytes s r idx)
  let s := takeEntry (if ringHost s r then s else touch s 4 a (ringEsize s r)) r
  let got := rxEntry s r idx bad
  rxRecord got.1 r idx tag got.2

/-- SCENE_RX_ENTRY_ACCEPT (R170 to R172): INGEST takes the entry at CONS of a SCENE_RX ring. -/
def execSceneRxEntryAccept (ring : Fin 8192) (s : State) : Host.Outcome State Fault Refusal :=
  .next (if decide (ringType s ring = 0x01) && canAccept s ring then rxAccept s ring else s)

/-- R170: entries that a doorbell moves CONS past are discarded and counted. -/
def rxSkipped (s : State) (r : Nat) (upTo : Word) : State :=
  let gone := s.ing.rx.filter fun x => decide (x.ring = r) && before x.index upTo
  gone.foldl (fun s x =>
    let s := giveSlots { s with ing := { s.ing with rx := s.ing.rx.erase x } } x.slots
    if h : x.port < 2 then rxFull s ⟨x.port, h⟩ else s) s

/-! ### Host path (R174, R175) -/

/-- R174, R175: an accepted HOST_SCENE entry. None: no pool slots are free and the entry waits. -/
def hostScene (s : State) (j : Job) : Option State :=
  let len := leAt j.entry 16 4
  let a := leAt j.entry 8 8
  let host := leAt j.entry 1 1 % 2 = 1
  if leAt j.entry 0 1 ≠ 1 ∨ leAt j.entry 1 3 / 2 ≠ 0 ∨ len < 32 ∨ 65535 < len ∨
      (j.entry.drop 20).any (· ≠ 0) ∨ s.rd Reg.INGEST_POOL_SIZE = 0 then
    some (finishJob s j 0x0C [])
  else if !host && rangeBad s a len then
    some (finishJob ((touch s 3 a len).inc Reg.INGEST_MEDIA_COUNT) j 0x0E [])
  else
    let b := if host then hostBytes s a len else hbmBytes s a len
    (freeSlots s ((len + slotBytes - 1) / slotBytes)).elim none fun l =>
      let s := if host then s else touch s 3 a len
      let got := ingestPacket (takeSlots (fillSlots s l b) l) 2 b l
      let s := got.1
      let d := got.2
      some (if d = 5 then finishJob s j 0x08 [] else finishJob s j 0 [w32 d])

/-- R229: an accepted FRAME_REPORT entry. DEDUCED: a frame whose outcome is already known completes the job at once. -/
def frameReport (s : State) (j : Job) : State :=
  let got := reportTarget j.entry
  let n := got.1
  let num := got.2
  if leAt j.entry 0 1 ≠ 0x10 ∨ (j.entry.drop 64).any (· ≠ 0) ∨ storeKind s n = 0 then finishJob s j 0x0C []
  else match findPast (storeOf s n) num with
    | some p => finishJob s j 0 [w32 p.outcome, w32 p.detail, p.readyAt]
    | none => s

/-- FRAME_REPORT_TIMEOUT (R229): an accepted report whose REPORT_TIMEOUT has expired completes TIMEOUT. -/
def execFrameReportTimeout (ring : Fin 8192) (index : Word) (s : State) : Host.Outcome State Fault Refusal :=
  .next (
    match s.ring.jobs.find? fun j => decide (j.ring = ring.val ∧ j.index = index ∧ ringOwner s j.ring = (0x30, 0)) with
    | some j =>
      if j.at_ + s.f Reg.CODEC_REPORT_TIMEOUT 0 16 * 1000000 ≤ s.now then finishJob s j 0x0F [] else s
    | none => s)

/-- PATH_LOST (R173): port `port` of a DUP flow has delivered nothing for PATH_TIMEOUT while the other has. -/
def execPathLost (flow : Fin 8192) (port : Fin 2) (s : State) : Host.Outcome State Fault Refusal :=
  .next (
    let f := flowOf s flow
    let t := s.f Reg.INGEST_DUP_CTRL 0 16 * 1000000
    let mine := if port = 0 then f.last0 else f.last1
    let other := if port = 0 then f.last1 else f.last0
    if s.b (Reg.FLOW_FLOW_CTRL flow) 0 && s.b (Reg.FLOW_FLOW_CTRL flow) 4 && s.b (Reg.FLOW_PATH_STALE flow) (16 + port) &&
        decide (mine.getD f.act + t ≤ s.now) && (match other with | some o => decide (s.now < o + t) | none => false) then
      spareLow ((s.setB (Reg.FLOW_PATH_STALE flow) (16 + port) false).raise .pathLost [w32 flow, w32 port]) 4 0
    else s)

/-! ### Selection at a latch (R186, R187, R226) -/

/-- R186: the newest READY frame with P ≤ S. -/
def newestReady (S : Int) : List RFrame → Option RFrame
  | [] => none
  | f :: t => match newestReady S t with
    | some g => if f.p ≤ S ∧ g.p < f.p then some f else some g
    | none => if f.p ≤ S then some f else none

/-- R226: the latch would select a frame of presentation time `p`, were it READY: no READY frame is preferred to it, and it is newer
than the current frame `cur`. -/
def wouldSelect (S p : Int) (ready : List RFrame) (cur : Option RFrame) : Bool :=
  decide (p ≤ S) && (match newestReady S ready with | some g => decide (g.p < p) | none => true) &&
  (match cur with | some c => decide (c.p < p) | none => true)

/-- R186, R187, R226: store `n` at a latch of head `h` whose next field starts at `S`. -/
def selectFrame (h : Nat) (S : Int) (s : State) (n : Nat) : State :=
  if storeKind s n = 0 || !storeHead s n h then s
  else
    let t := storeOf s n
    let cur := tabGet (fun _ => none) t.cur h
    let t := { t with asm := t.asm.map fun f => if wouldSelect S f.p t.ready cur then { f with late := true } else f }
    match newestReady S t.ready with
    | none => putStore s n t
    | some f =>
      let newer := match cur with | some c => decide (c.p < f.p) | none => true
      putStore s n (if newer then { t with cur := tabSet (fun _ => none) t.cur h (some f) } else t)

/-- R186: every store of head `h`. -/
def selectFrames (s : State) (h : Nat) (S : Int) : State := (List.range 16).foldl (selectFrame h S) s

/-- The scene store of head `h`: the store of kind 1 or 2 that names it (R271). -/
def sceneStore (s : State) (h : Nat) : Option Nat :=
  (List.range 16).find? fun n => decide (storeKind s n = 1 ∨ storeKind s n = 2) && storeHead s n h

/-- The FLAT store of layer `k` of head `h`. -/
def flatStore (s : State) (h k : Nat) : Option Nat :=
  (List.range 16).find? fun n => decide (storeKind s n = 3) && storeHead s n h && decide (s.f (Reg.INGEST_STORE_CFG n) 12 3 = k)

/-- The current frame that store `n` has for head `h`. -/
def currentOf (s : State) (n h : Nat) : Option RFrame := tabGet (fun _ => none) (storeOf s n).cur h

end Sys2Proof.Machine
end

