-- ==== Sys2Proof/Machine/RayMap.lean ====
section
/-!
DEFINITION. Hexvati ray maps: the HRM image, the ray record, and the loading of a bank (R254 to R266).
-/
namespace Sys2Proof.Machine

/-- Page base of the RGU of head `h`. -/
def rguBase (h : Nat) : Nat := 0x41000 + 0x10000 * h

/-- Page base of the RMAP page of head `h`. -/
def rmapBase (h : Nat) : Nat := 0x42000 + 0x10000 * h

/-! ### The image (R255 to R258) -/

/-- The HRM header (R255). -/
structure HrmHdr where
  order : Bool
  nvar : Nat
  w : Nat
  h : Nat
  bx : Nat
  bY : Nat
  cols : Nat
  rows : Nat
  tabOff : Nat
  tabBytes : Nat
  shOff : Nat
  shBytes : Nat
  cal : Word
  deriving DecidableEq, Repr

/-- The header fields at the start of an image. -/
def hrmHdr (b : List Byte) : HrmHdr where
  order := leAt b 5 1 % 2 = 1
  nvar := leAt b 5 1 / 2 % 4
  w := leAt b 8 2
  h := leAt b 10 2
  bx := leAt b 12 2
  bY := leAt b 14 2
  cols := leAt b 16 2
  rows := leAt b 18 2
  tabOff := leAt b 20 4
  tabBytes := leAt b 24 4
  shOff := leAt b 28 4
  shBytes := leAt b 32 4
  cal := w32 (leAt b 36 4)

/-- The requirements of R255 on a header and on its parts, which lie within `len` bytes without overlap: each with the byte offset of
the field that it is about, in ascending order. -/
def hrmChecks (b : List Byte) (len : Nat) : List (Nat × Bool) :=
  let h := hrmHdr b
  [(0, decide (leAt b 0 4 = 0x314D5248)), (4, decide (leAt b 4 1 = 1)), (5, decide (leAt b 5 1 < 8 ∧ (h.nvar = 1 ∨ h.nvar = 2))),
   (6, decide (leAt b 6 1 = 0)), (7, decide (leAt b 7 1 = 0)), (8, decide (1 ≤ h.w ∧ h.w ≤ 16384)), (10, decide (1 ≤ h.h ∧ h.h ≤ 16384)),
   (12, decide (h.bx = (h.w + 63) / 64)), (14, decide (h.bY = (h.h + 63) / 64)), (16, decide (h.cols ≤ 320)),
   (18, decide (h.rows ≤ 160 ∧ (h.rows = 0 ↔ h.cols = 0))), (20, decide (h.tabOff % 64 = 0 ∧ 64 ≤ h.tabOff)),
   (24, decide (h.tabBytes = h.nvar * h.bY * h.bx * 64 ∧ h.tabOff + h.tabBytes ≤ len)),
   (28, decide (h.shOff % 64 = 0 ∧ 64 ≤ h.shOff ∧ (h.tabOff + h.tabBytes ≤ h.shOff ∨ h.shOff + h.shBytes ≤ h.tabOff))),
   (32, decide (h.shOff + h.shBytes ≤ len))] ++
  (List.range 20).map fun i => (40 + i, decide (leAt b (40 + i) 1 = 0))

/-- R255: the header is as specified and its parts lie within `len` bytes without overlap. -/
def hrmHdrOk (b : List Byte) (len : Nat) : Bool := (hrmChecks b len).all (·.2)

/-- The offset of the first check that fails. -/
def firstOff (l : List (Nat × Bool)) : Nat := ((l.find? fun c => !c.2).map (·.1)).getD 0

/-- A 24-bit two's complement field. -/
def sx24 (n : Nat) : Int := if n % 2 ^ 24 < 2 ^ 23 then ((n % 2 ^ 24 : Nat) : Int) else ((n % 2 ^ 24 : Nat) : Int) - 2 ^ 24

/-- A 16-bit two's complement field. -/
def sx16 (n : Nat) : Int := if n % 2 ^ 16 < 2 ^ 15 then ((n % 2 ^ 16 : Nat) : Int) else ((n % 2 ^ 16 : Nat) : Int) - 2 ^ 16

/-- A block record (R256). -/
structure BlkRec where
  s0 : Nat
  sDx : Int
  sDy : Int
  sDr : Int
  tDr : Int
  t0 : Nat
  tDx : Int
  tDy : Int
  u0 : Nat
  uDx : Int
  uDy : Int
  v0 : Nat
  vDx : Int
  vDy : Int
  g : List Nat
  cell : Nat
  valid : Bool
  wrap : Bool
  deriving DecidableEq, Repr

/-- The record in 64 bytes. -/
def blkRec (b : List Byte) : BlkRec where
  s0 := leAt b 0 3
  sDx := sx24 (leAt b 4 3)
  sDy := sx24 (leAt b 8 3)
  sDr := sx16 (leAt b 12 2)
  tDr := sx16 (leAt b 14 2)
  t0 := leAt b 16 3
  tDx := sx24 (leAt b 20 3)
  tDy := sx24 (leAt b 24 3)
  u0 := leAt b 28 4
  uDx := sx24 (leAt b 32 3)
  uDy := sx24 (leAt b 36 3)
  v0 := leAt b 40 4
  vDx := sx24 (leAt b 44 3)
  vDy := sx24 (leAt b 48 3)
  g := [leAt b 52 2, leAt b 54 2, leAt b 56 2]
  cell := leAt b 58 2
  valid := leAt b 60 1 % 2 = 1
  wrap := leAt b 60 1 / 2 % 2 = 1

/-- R256: the reserved bits of a record are 0. -/
def blkRecOk (b : List Byte) : Bool :=
  ([4, 8, 20, 24, 32, 36, 44, 48, 0, 16].all fun o => decide (leAt b (o + 3) 1 = 0)) && decide (leAt b 60 4 < 4)

/-- R256: offset of the record of block (bx, by) in variant `var`. -/
def blkOff (h : HrmHdr) (var bx bY : Nat) : Nat := h.tabOff + ((var * h.bY + bY) * h.bx + bx) * 64

/-- R257: the CELL of a record is allowed, and that of a CLEAR record equals the LENS record's. -/
def cellOk (h : HrmHdr) (b : List Byte) (i : Nat) : Bool :=
  let c := (blkRec ((b.drop (h.tabOff + i * 64)).take 64)).cell
  decide (c = 0xFFFF ∨ c < h.rows * h.cols) &&
  decide (i < h.bY * h.bx ∨ c = (blkRec ((b.drop (h.tabOff + (i - h.bY * h.bx) * 64)).take 64)).cell)

/-- What the RGU ray-map decoder accepts (R217). -/
def mapNeeds : ShuocNeeds := ⟨true, true, false, true, true, [0, 1, 3, 4, 6]⟩

/-- The requirements of R258 on the frame header of the residuals, each with the offset of its field in the header. -/
def mapHdrChecks (h : HrmHdr) (f : FrameHdr) : List (Nat × Bool) :=
  [(1, f.key && f.dir), (2, decide (f.bd = 8)), (3, decide (f.c = 3)), (4, decide (f.width = h.w)), (6, decide (f.height = h.h)),
   (8, decide (f.npic = h.nvar)), (10, decide (f.twl = 6 ∧ f.thl = 6)), (12, f.near.all (· = 0))]

/-- R258: the frame header of the residuals. -/
def mapHdrOk (h : HrmHdr) (f : FrameHdr) : Bool := (mapHdrChecks h f).all (·.2)

/-- R258: an INTERVIEW tile predicts from the co-located LENS tile. -/
def mapVectorOk (t : List Byte) : Bool := tileMode t ≠ 4 || decide (beAt t 4 1 = 0 ∧ beAt t 5 2 = 0 ∧ beAt t 7 2 = 0)

/-! ### The ray record (R259) -/

/-- A ray record. -/
structure Ray where
  s : Nat
  t : Nat
  u : Nat
  v : Nat
  g : Nat
  valid : Bool
  clear : Bool
  ch : Nat
  deriving DecidableEq, Repr

/-- phase() of R259. -/
def phase (acc : Int) (wrap : Bool) : Nat :=
  let r := (acc + 128) / 256
  if wrap then (r % 0x10000).toNat else (clampI r 0 0xFFFF).toNat

/-- coord() of R259. -/
def coord (acc : Int) : Nat := (clampI ((acc + 128) / 256) 0 0xFFFFFF).toNat

/-- ray_record() of R259. -/
def rayRecord (b : BlkRec) (var lx ly ch : Nat) (order : Bool) (r8 : Nat) : Ray :=
  let xs : Int := 3 * lx + (if order then 2 - ch else ch : Nat)
  let y : Int := ly
  let rho : Int := (r8 : Int) - 128
  { s := phase (b.s0 + b.sDx * xs + b.sDy * y + b.sDr * rho) b.wrap
    t := phase (b.t0 + b.tDx * xs + b.tDy * y + b.tDr * rho) b.wrap
    u := coord (b.u0 + b.uDx * xs + b.uDy * y)
    v := coord (b.v0 + b.vDx * xs + b.vDy * y)
    g := b.g.getD ch 0
    valid := b.valid && decide (r8 ≠ 0)
    clear := decide (var = 1)
    ch := ch }

/-! ### Reading an image in HBM -/

/-- The base address of bank `b`. -/
def bankBase (s : State) (h b : Nat) : Nat := s.rd64 (Reg.RGU_MAP_BASE_LO h b) (Reg.RGU_MAP_BASE_HI h b)

/-- BANK_STATUS.STATE of a bank. -/
def bankState (s : State) (h b : Nat) : Nat := s.f (Reg.RGU_BANK_STATUS h b) 0 2

/-- The HRM header of a bank's image. -/
def bankHdr (s : State) (h b : Nat) : HrmHdr := hrmHdr (hbmBytes s (bankBase s h b) 64)

/-- The record of a block of a bank's image. -/
def bankBlk (s : State) (h b var bx bY : Nat) : BlkRec :=
  blkRec (hbmBytes s (bankBase s h b + blkOff (bankHdr s h b) var bx bY) 64)

/-- The Shuoc frame of an image: its frame header and the offset of the frame header from the image start. -/
def mapFrame (s : State) (base : Nat) (m : HrmHdr) : Coded FrameHdr :=
  parseHdr mapNeeds (mapHdrOk m) (hbmBytes s (base + m.shOff + 16) 88)

/-- A residual tile of an image by its directory entry: its address and bytes. -/
def mapTileAt (s : State) (base : Nat) (m : HrmHdr) (f : FrameHdr) (i : Nat) : Nat × List Byte :=
  let dir := base + m.shOff + 16 + f.size
  let a := dir + 4 * f.tileCount + beNat (hbmBytes s (dir + 4 * i) 4)
  (a, hbmBytes s a (beNat (hbmBytes s a 3)))

/-- The decoded residuals of tile `i` (R258, R269): a CLEAR tile in INTERVIEW mode reads the co-located LENS tile. -/
def mapResiduals (s : State) (base : Nat) (m : HrmHdr) (f : FrameHdr) (i : Nat) : Coded (List (List Nat)) :=
  let t := (mapTileAt s base m f i).2
  let lens := i % (m.bY * m.bx)
  match (if tileMode t = 4 ∧ lens ≠ i then decodeTile mapNeeds f lens true false (fun _ _ _ _ _ => 0) (mapTileAt s base m f lens).2
    else .ok []) with
  | .error e => .error e
  | .ok l =>
    let g := tileGeom f i
    decodeTile mapNeeds f i true false (fun _ _ c x y => (l.getD c []).getD ((y - g.y0) * g.tw + (x - g.x0)) 0) t

/-! ### Loading a bank (R264, R265) -/

/-- The first item for which a check fails. -/
def firstBad (l : List Nat) (ok : Nat → Bool) : Option Nat := l.find? fun i => !ok i

/-- Checks 2 to 4 of R265 on an image of `len` bytes at `base` whose header can be read. A check passes over what reads
poisoned. -/
def loadTable (s : State) (base len : Nat) (img : List Byte) : Option (Nat × Word) :=
  let m := hrmHdr img
  let rec_ := fun i => rangeBad s (base + m.tabOff + i * 64) 64
  if !hrmHdrOk img len then some (2, w32 (firstOff (hrmChecks img len)))
  else if !rangeBad s base len ∧ (crc32c (img.take 60 ++ [0, 0, 0, 0] ++ img.drop 64)).toNat ≠ leAt img 60 4 then some (3, 60)
  else (firstBad (List.range (m.nvar * m.bY * m.bx)) fun i =>
      rec_ i || rec_ (i % (m.bY * m.bx)) || (blkRecOk ((img.drop (m.tabOff + i * 64)).take 64) && cellOk m img i)).map
    fun i => (4, w32 (m.tabOff + i * 64))

/-- The LENs of the `n` tiles that follow one another from `a` can be read. -/
def lensReadable (s : State) : Nat → Nat → Bool
  | 0, _ => true
  | n + 1, a => !rangeBad s a 3 && lensReadable s n (a + beNat (hbmBytes s a 3))

/-- Offset of a tile in its group. -/
def tileOff (tiles : List (List Byte × Bool)) (i : Nat) : Nat := ((tiles.take i).map fun t => beAt t.1 0 3).foldl (· + ·) 0

/-- Checks 6 and 7 of R265 on the tiles of a group at `dir + 4 × TILE_COUNT`, behind their directory at `dir`. A tile that reads
poisoned, or is predicted from one, is passed over. -/
def loadTiles (s : State) (dir : Nat) (m : HrmHdr) (f : FrameHdr) (tiles : List (List Byte × Bool)) : Option (Nat × Word) :=
  let per := m.bY * m.bx
  let tile := fun i => tiles.getD i ([], true)
  let dirs := dirAgrees (hbmBytes s dir (4 * f.tileCount)) 0 0 tiles
  let poison := fun i => rangeBad s (dir + 4 * i) 4 ||
    rangeBad s (dir + 4 * f.tileCount + tileOff tiles i) (tile i).1.length
  let skip := fun i => poison i || (tileMode (tile i).1 = 4 && poison (i % per))
  let dec := fun i =>
    let g := tileGeom f i
    let l := match decodeCut mapNeeds f (i % per) true false (fun _ _ _ _ _ => 0) (tile (i % per)) with | .ok l => l | .error _ => []
    match decodeCut mapNeeds f i (dirs.getD i false) false
      (fun _ _ c x y => (l.getD c []).getD ((y - g.y0) * g.tw + (x - g.x0)) 0) (tile i) with
    | .ok _ => 0
    | .error e => e
  match firstBad (List.range f.tileCount) fun i => skip i || decide (dec i = 0) with
  | some i => some (6, w32 (i + dec i * 2 ^ 24))
  | none => (firstBad (List.range f.tileCount) fun i => skip i || mapVectorOk (tile i).1).map fun i => (7, w32 i)

/-- Checks 5 to 7 of R265, on the bytes from SHUOC_OFFSET to the end of MAP_LEN (R216). Where a header or a LEN reads poisoned, what depends on it is not checked. DEDUCED (log entry 31): code 5
is a requirement of R258's list, every other error of the stream, a frame-scope one as tile 0, code 6. -/
def loadStream (s : State) (base : Nat) (m : HrmHdr) (img : List Byte) : Option (Nat × Word) :=
  let seq := img.drop m.shOff
  let at_ := base + m.shOff
  let f := hdrFields (seq.drop 16)
  if rangeBad s at_ (min seq.length (16 + f.size)) then none
  else if beAt seq 8 4 ≠ 1 then some (5, w32 (m.shOff + 8))
  else if !mapHdrOk m f then some (5, w32 (m.shOff + 16 + firstOff (mapHdrChecks m f)))
  else
    let dir := at_ + 16 + f.size
    let body := seq.drop (16 + f.size + 4 * f.tileCount)
    match parseSeq seq, parseHdr mapNeeds (mapHdrOk m) (seq.drop 16) with
    | .error e, _ => some (6, w32 (e * 2 ^ 24))
    | .ok _, .error e => some (6, w32 (e * 2 ^ 24))
    | .ok _, .ok f =>
      if seq.length < 16 + f.size + 4 * f.tileCount then some (6, w32 (2 * 2 ^ 24))
      else if !lensReadable s f.tileCount (dir + 4 * f.tileCount) then none
      else match splitGroup f.tileCount f.tileBytes body with
        | .error e => some (6, w32 (e * 2 ^ 24))
        | .ok tiles => loadTiles s dir m f tiles

/-- R265, check 1: the image's length and place. -/
def loadRangeOk (s : State) (base len : Nat) : Bool := decide (64 ≤ len ∧ len ≤ 536870912 ∧ base + len ≤ systemTop s)

/-- R265: the load checks in order: the error code and detail of the first failure. -/
def loadCheck (s : State) (h b : Nat) : Option (Nat × Word) :=
  let base := bankBase s h b
  let len := s.rdN (Reg.RGU_MAP_LEN h b)
  let media := (firstBad (blocksOf base len) fun k => !blockBad s k).map fun k => (8, w32 (k * 32 - base))
  let img := hbmBytes s base len
  if !loadRangeOk s base len then some (1, 0)
  else if rangeBad s base 64 then media
  else match loadTable s base len img with
    | some r => some r
    | none => match loadStream s base (hrmHdr img) img with
      | some r => some r
      | none => media

/-- MAP_CMD with LOAD (R265): a bank that is EMPTY or FAILED and not IN_USE becomes LOADING. -/
def mapCmdLoad (s : State) (h : Fin 4) (b : Nat) : State :=
  if (bankState s h b = 0 ∨ bankState s h b = 3) ∧ !s.b (Reg.RGU_BANK_STATUS h b) 2 then
    s.wr (Reg.RGU_BANK_STATUS h b) 1
  else refuse s (Reg.RGU_MAP_CMD h)

/-- MAP_CMD_LOAD (R265). -/
def execMapCmdLoad (req : Requester) (h : Fin 4) (bank : Fin 2) (s : State) : Host.Outcome State Fault Refusal :=
  .next (gated s req (Reg.RGU_MAP_CMD h) none fun s => mapCmdLoad s h bank)

/-- The end of a bank's load: VALID, or FAILED with the first failure (R265). -/
def mapLoadEnd (s : State) (h : Fin 4) (b : Nat) : State :=
  let r := loadCheck s h b
  let base := bankBase s h b
  let len := s.rdN (Reg.RGU_MAP_LEN h b)
  let s := if loadRangeOk s base len then touch s 5 base len else s
  match r with
  | some (e, d) =>
    let s := (s.wr (Reg.RGU_BANK_STATUS h b) (w32 (3 + e * 256))).wr (Reg.RGU_ERR_DETAIL h b) d
    s.raise (.mapRefused h) [w32 b, w32 e, d]
  | none =>
    let m := bankHdr s h b
    let s := s.wr (Reg.RGU_BANK_STATUS h b) (w32 (2 + (if m.nvar = 2 then 8 else 0)))
    (s.wr (Reg.RGU_CAL_ID h b) m.cal).raise (.mapLoaded h) [w32 b, m.cal]

/-- MAP_LOAD_COMPLETE (R265). -/
def execMapLoadComplete (h : Fin 4) (bank : Fin 2) (s : State) : Host.Outcome State Fault Refusal :=
  .next (if bankState s h bank = 1 then mapLoadEnd s h bank else s)

end Sys2Proof.Machine
end

