-- ==== Sys2Proof/Machine/Rays.lean ====
section
/-!
DEFINITION. Ray gathering: taps, view-stack and plane-stack sampling, and the ray cache (R271 to R280, R291 to R296).
-/
namespace Sys2Proof.Machine

/-! ### Heads in State -/

/-- Page base of head `h`. -/
def headBase (h : Nat) : Nat := 0x40000 + 0x10000 * h

/-- A head beyond its registers. -/
def headOf (s : State) (h : Nat) : HeadSt := tabGet (fun _ => HeadSt.fresh) s.heads h

/-- The state with a head's internal part. -/
def putHead (s : State) (h : Nat) (t : HeadSt) : State := { s with heads := tabSet (fun _ => HeadSt.fresh) s.heads h t }

/-- A register in effect for a field. -/
def FieldSt.c (F : FieldSt) (a : Nat) : Word := tabGet Reg.reset F.cfg a

/-- A field of a register in effect for a field. -/
def FieldSt.f (F : FieldSt) (a lo len : Nat) : Nat := fld (F.c a) lo len

/-- A bit of a register in effect for a field. -/
def FieldSt.b (F : FieldSt) (a i : Nat) : Bool := bit (F.c a) i

/-- V_ACTIVE in effect. -/
def FieldSt.vActive (F : FieldSt) (h : Nat) : Nat := F.f (Reg.HEAD_V_LINES h) 0 16

/-- H_ACTIVE in effect. -/
def FieldSt.hActive (F : FieldSt) (h : Nat) : Nat := F.f (Reg.HEAD_H_ACTIVE h) 0 16

/-! ### The rounding primitive (R276) -/

/-- mul4095 of R276. -/
def mul4095 (a b : Nat) : Nat := (a * b + 2047) / 4095

/-- apply_gain of R276. -/
def applyGain (x g : Nat) : Nat := min 4095 ((x * g + 8192) / 16384)

/-! ### Taps (R275, R278, R295) -/

/-- Geometry of a scene frame: WIDTH, HEIGHT, components, and NS, NT or NP. -/
structure SceneGeom where
  w : Nat
  h : Nat
  c : Nat
  ns : Nat
  nt : Nat
  deriving DecidableEq, Repr

/-- The geometry in a frame's header block (R272). -/
def sceneGeom (r : RFrame) : SceneGeom :=
  ⟨beAt r.desc 4 2, beAt r.desc 6 2, beAt r.desc 10 1, beAt r.desc 8 1, beAt r.desc 9 1⟩

/-- The addresses of the two bytes that hold a sample. -/
def tapAddr (base n : Nat) : Nat := sampleAddr base n + n % 2

/-- A byte as the rays of the line in production read it: out of the cache line that they looked up (R291). -/
def FieldSt.byte (s : State) (F : FieldSt) (a : Nat) : Byte :=
  match tabGet (fun _ => []) F.lines (a / 1024) with
  | [] => hbmByte s a
  | l => l.getD (a % 1024) 0

/-- `n` bytes as the rays of the line in production read them. -/
def FieldSt.bytes (s : State) (F : FieldSt) (a n : Nat) : List Byte := (List.range n).map fun i => F.byte s (a + i)

/-- A tap of R277: the sample, or 0 on a cache line whose fill failed in the field. -/
def tap (s : State) (F : FieldSt) (base n : Nat) : Nat :=
  if F.failed.contains (tapAddr base n / 1024) || F.failed.contains ((tapAddr base n + 1) / 1024) then 0
  else
    let v := leNat (F.bytes s (sampleAddr base n) 3)
    if n % 2 = 1 then v / 4096 else v % 4096

/-- The four corners of spatial(): columns, rows and weights. -/
structure Corners where
  xa : Nat
  xb : Nat
  ya : Nat
  yb : Nat
  fu : Nat
  fv : Nat
  deriving DecidableEq, Repr

/-- The corners of a position in unsigned 14.10 coordinates. -/
def corners (w h u v : Nat) : Corners :=
  ⟨min (u / 1024) (w - 1), min (u / 1024 + 1) (w - 1), min (v / 1024) (h - 1), min (v / 1024 + 1) (h - 1),
    u / 4 % 256, v / 4 % 256⟩

/-- spatial() of R277, over a tap function of column and row. -/
def spatial (t : Nat → Nat → Nat) (k : Corners) : Nat :=
  let h0 := t k.xa k.ya * (256 - k.fu) + t k.xb k.ya * k.fu
  let h1 := t k.xa k.yb * (256 - k.fu) + t k.xb k.yb * k.fu
  h0 * (256 - k.fv) + h1 * k.fv

/-- R278: the columns and rows of the taps that are fetched. -/
def cornerTaps (k : Corners) : List (Nat × Nat) :=
  [(k.xa, k.ya)] ++ (if k.fu = 0 then [] else [(k.xb, k.ya)]) ++ (if k.fv = 0 then [] else [(k.xa, k.yb)]) ++
  (if k.fu = 0 ∨ k.fv = 0 then [] else [(k.xb, k.yb)])

/-! ### View stacks (R277 to R279) -/

/-- view_pos() of R277: i0, i1 and the weight. -/
def viewPos (s n : Nat) (flat : Bool) : Nat × Nat × Nat :=
  let p : Int := (s : Int) * n - 32768
  let i := if flat then (p + 32768) / 65536 else p / 65536
  let w := if flat then 0 else ((p / 256) % 256).toNat
  if i < 0 then (0, 0, 0)
  else if (n : Int) - 1 ≤ i then (n - 1, n - 1, 0)
  else (i.toNat, if w = 0 then i.toNat else i.toNat + 1, w)

/-- The value of a ray: colour and alpha. -/
abbrev RayValue := Nat × Nat

/-- view_ray() of R277, over taps of picture, column and row. -/
def viewRay (g : SceneGeom) (t : Nat → Nat → Nat → Nat) (r : Ray) (clearFlat : Bool) : RayValue :=
  let flat := r.clear && clearFlat
  let got := viewPos r.s g.ns flat
  let i0 := got.1
  let i1 := got.2.1
  let ws := got.2.2
  let got := viewPos r.t g.nt flat
  let j0 := got.1
  let j1 := got.2.1
  let wt := got.2.2
  let k := corners g.w g.h r.u r.v
  let sp := fun j i => spatial (t (j * g.ns + i)) k
  let a0 := sp j0 i0 * (256 - ws) + sp j0 i1 * ws
  let a1 := sp j1 i0 * (256 - ws) + sp j1 i1 * ws
  (applyGain (((a0 * (256 - wt) + a1 * wt) + 2 ^ 31) / 2 ^ 32) r.g, 4095)

/-- R278: the (picture, column, row) taps of a view-stack ray. -/
def viewTaps (g : SceneGeom) (r : Ray) (clearFlat : Bool) : List (Nat × Nat × Nat) :=
  let flat := r.clear && clearFlat
  let got := viewPos r.s g.ns flat
  let i0 := got.1
  let i1 := got.2.1
  let ws := got.2.2
  let got := viewPos r.t g.nt flat
  let j0 := got.1
  let j1 := got.2.1
  let wt := got.2.2
  let pics := [j0 * g.ns + i0] ++ (if ws = 0 then [] else [j0 * g.ns + i1]) ++ (if wt = 0 then [] else [j1 * g.ns + i0]) ++
    (if ws = 0 ∨ wt = 0 then [] else [j1 * g.ns + i1])
  pics.flatMap fun p => (cornerTaps (corners g.w g.h r.u r.v)).map fun q => (p, q.1, q.2)

/-! ### Plane stacks (R280, R281) -/

/-- round16() of R280. -/
def round16 (x : Nat) : Nat := (x + 32768) / 65536

/-- PAR_S_j and PAR_T_j of a frame (R179). -/
def planePar (r : RFrame) (j : Nat) : Int × Int := (sbe16 r.desc (24 + 4 * j), sbe16 r.desc (26 + 4 * j))

/-- The corners at which a ray meets plane `j` (R280). -/
def planeCorners (g : SceneGeom) (par : Int × Int) (r : Ray) (flat : Bool) : Corners :=
  let ds : Int := if flat then 0 else (r.s : Int) - 32768
  let dt : Int := if flat then 0 else (r.t : Int) - 32768
  let u := clampI ((r.u : Int) + (par.1 * ds + 2048) / 4096) 0 0xFFFFFF
  let v := clampI ((r.v : Int) + (par.2 * dt + 2048) / 4096) 0 0xFFFFFF
  corners g.w g.h u.toNat v.toNat

/-- A plane-stack ray in progress. -/
structure PlaneAcc where
  ac : Nat
  aa : Nat
  steps : Nat
  /-- (plane, component, column, row) taps, last plane first. -/
  taps : List (Nat × Nat × Nat × Nat)

/-- plane_ray() of R280 from plane `j` on, for at most `n` planes; `t` reads plane, component, column and row. -/
def planeSteps (g : SceneGeom) (par : Nat → Int × Int) (t : Nat → Nat → Nat → Nat → Nat) (r : Ray) (flat : Bool) :
    Nat → Nat → PlaneAcc → PlaneAcc
  | 0, _, a => a
  | n + 1, j, p =>
    if 4080 ≤ p.aa then p
    else
      let k := planeCorners g (par j) r flat
      let a := round16 (spatial (t j 3) k)
      let c := min (round16 (spatial (t j r.ch) k)) a
      let tr := 4095 - p.aa
      let new := ([3, r.ch].flatMap fun m => (cornerTaps k).map fun q => (j, m, q.1, q.2))
      planeSteps g par t r flat n (j + 1) ⟨p.ac + mul4095 c tr, p.aa + mul4095 a tr, p.steps + 1, new ++ p.taps⟩

/-! ### Scene rays -/

/-- The tap function of the field's scene frame. -/
def sceneTap (s : State) (F : FieldSt) (r : RFrame) (v c x y : Nat) : Nat :=
  let g := sceneGeom r
  tap s F (frameBase s r) (samplePos g.c g.w g.h v c x y)

/-- PLANE_LIMIT in effect. -/
def planeLimit (F : FieldSt) (h : Nat) : Nat := F.f (Reg.RGU_RGU_CFG h) 8 7

/-- CLEAR_FLAT in effect. -/
def clearFlat (F : FieldSt) (h : Nat) : Bool := F.b (Reg.RGU_RGU_CFG h) 4

/-- The plane-stack pass of a ray. -/
def scenePlanes (s : State) (F : FieldSt) (h : Nat) (f : RFrame) (r : Ray) : PlaneAcc :=
  planeSteps (sceneGeom f) (planePar f) (sceneTap s F f) r (r.clear && clearFlat F h)
    (min (sceneGeom f).ns (planeLimit F h)) 0 ⟨0, 0, 0, []⟩

/-- R273, R274, R277, R280: the ray value of a ray of the field. -/
def rayValue (s : State) (F : FieldSt) (h : Nat) (r : Ray) : RayValue :=
  if F.noScene || !r.valid then (0, 0)
  else match F.scene with
    | none => (0, 0)
    | some f =>
      if F.kind = 2 then
        let p := scenePlanes s F h f r
        (applyGain p.ac r.g, p.aa)
      else viewRay (sceneGeom f) (fun v x y => sceneTap s F f v r.ch x y) r (clearFlat F h)

/-- The HBM addresses that a ray's taps read, in no stated order, and its plane steps. -/
def rayTaps (s : State) (F : FieldSt) (h : Nat) (r : Ray) : List Nat × Nat :=
  if F.noScene || !r.valid then ([], 0)
  else match F.scene with
    | none => ([], 0)
    | some f =>
      let g := sceneGeom f
      let at_ := fun v c x y => tapAddr (frameBase s f) (samplePos g.c g.w g.h v c x y)
      if F.kind = 2 then
        let p := scenePlanes s F h f r
        (p.taps.reverse.map fun q => at_ q.1 q.2.1 q.2.2.1 q.2.2.2, p.steps)
      else ((viewTaps g r (clearFlat F h)).map fun q => at_ q.1 r.ch q.2.1 q.2.2, 0)

/-- The ray record of a subpixel of the field (R259, R260, R269). A block whose fetch failed has invalid rays. -/
def fieldRay (s : State) (F : FieldSt) (h x y ch : Nat) : Ray :=
  let b := F.bank
  let m := bankHdr s h b
  let blk := y / 64 * m.bx + x / 64
  let var := if F.clear.contains blk then 1 else 0
  let rec_ := bankBlk s h b var (x / 64) (y / 64)
  let none_ : Ray := { rayRecord rec_ var (x % 64) (y % 64) ch m.order 0 with valid := false }
  if 3 ≤ b ∨ F.bad.contains blk ∨ !rec_.valid then none_
  else match mapFrame s (bankBase s h b) m with
    | .error _ => none_
    | .ok f =>
      let i := (var * m.bY + y / 64) * m.bx + x / 64
      match mapResiduals s (bankBase s h b) m f i with
      | .error _ => none_
      | .ok l => rayRecord rec_ var (x % 64) (y % 64) ch m.order ((l.getD ch []).getD (y % 64 * (tileGeom f i).tw + x % 64) 0)

/-! ### The ray cache (R291 to R296) -/

/-- The set index of a line address (R291). -/
def cacheSet (line : Nat) : Nat := Nat.xor (line % 1024) (line / 1024 % 1024)

/-- A directory entry: the state of way `w` of set `set` (R296). -/
def dirLo (s : State) (h e : Nat) : Word := s.rd (Reg.CACHE_DIR h e)

/-- AGE of an entry. -/
def dirAge (s : State) (h e : Nat) : Nat := fld (dirLo s h e) 28 4

/-- The entry holds or awaits data. -/
def dirUsed (s : State) (h e : Nat) : Bool := bit (dirLo s h e) 26 || bit (dirLo s h e) 27

/-- The entries of a set. -/
def setEntries (line : Nat) : List Nat := (List.range 16).map (cacheSet line * 16 + ·)

/-- Generation in full and asking field of an entry's line. -/
def fillOf (s : State) (h e : Nat) : Nat × Word := tabGet (fun _ => (0, 0)) (headOf s h).fills e

/-- The state with the generation and the asking field of an entry's line. -/
def putFill (s : State) (h e : Nat) (v : Nat × Word) : State :=
  putHead s h { headOf s h with fills := tabSet (fun _ => (0, 0)) (headOf s h).fills e v }

/-- The 1 KiB in a valid entry (R291). -/
def dataOf (s : State) (h e : Nat) : List Byte := tabGet (fun _ => []) (headOf s h).data e

/-- The state with the data of an entry. -/
def putData (s : State) (h e : Nat) (b : List Byte) : State :=
  putHead s h { headOf s h with data := tabSet (fun _ => []) (headOf s h).data e b }

/-- The field whose rays have looked up a line with these data. -/
def FieldSt.looked (F : FieldSt) (line : Nat) (b : List Byte) : FieldSt := { F with lines := tabSet (fun _ => []) F.lines line b }

/-- The entry that a lookup of `line` finds: same address and generation, valid or pending (R292, R293). -/
def dirFind (s : State) (h gen line : Nat) : Option Nat :=
  (setEntries line).find? fun e =>
    dirUsed s h e && decide (fld (dirLo s h e) 0 26 = line % 2 ^ 26) && decide ((fillOf s h e).1 = gen)

/-- A fill is outstanding for the entry. -/
def dirPending (s : State) (h e : Nat) : Bool := bit (dirLo s h e) 27

/-- Lines pending in the cache of a head (R293). -/
def pendingLines (s : State) (h : Nat) : List Nat := ((headOf s h).fills.map (·.1)).filter (dirPending s h)

/-- Makes an entry the most recent of its set: entries that were more recent than `age` grow older. -/
def dirTouch (s : State) (h line e age : Nat) : State :=
  ((setEntries line).foldl (fun s f =>
    if f ≠ e ∧ dirUsed s h f ∧ dirAge s h f < age then s.setF (Reg.CACHE_DIR h f) 28 4 (dirAge s h f + 1) else s) s).setF
      (Reg.CACHE_DIR h e) 28 4 0

/-- Frees an entry: the entries of its set that are older take the ranks after it (R291, R295). -/
def dirDrop (s : State) (h line e : Nat) : State :=
  let age := dirAge s h e
  let s := (setEntries line).foldl (fun s f =>
    if f ≠ e ∧ dirUsed s h f ∧ age < dirAge s h f then s.setF (Reg.CACHE_DIR h f) 28 4 (dirAge s h f - 1) else s) s
  putData (putFill ((s.wr (Reg.CACHE_DIR h e) 0).wr (Reg.CACHE_DIR h e + 4) 0) h e (0, 0)) h e []

/-- The entry with the largest age. -/
def oldest (s : State) (h : Nat) : List Nat → Option Nat
  | [] => none
  | e :: t => match oldest s h t with
    | some f => if dirAge s h e < dirAge s h f then some f else some e
    | none => some e

/-- The entry that a miss takes: an unused way, else the least recently used one that is not pending (R291). -/
def dirVictim (s : State) (h line : Nat) : Option Nat :=
  match (setEntries line).find? fun e => !dirUsed s h e with
  | some e => some e
  | none => oldest s h ((setEntries line).filter fun e => !dirPending s h e)

/-- R293: a fill can be issued for a line: fewer than 4,096 lines are pending, and a way of its set is not. -/
def fillRoom (s : State) (h line : Nat) : Bool :=
  decide ((pendingLines s h).length < 4096) && (dirVictim s h line).isSome

/-- A fill is issued for a line on behalf of field `num`: the victim of its set becomes PENDING (R293), and FILLS counts it (R528). -/
def dirPut (s : State) (h gen line e : Nat) (num : Word) : State :=
  let age := if dirUsed s h e then dirAge s h e else 16
  let s := dirTouch s h line e age
  perfHit (putData (putFill ((s.wr (Reg.CACHE_DIR h e) (w32 (line % 2 ^ 26 + 2 ^ 27))).wr (Reg.CACHE_DIR h e + 4) (w32 (gen % 16))) h e
    (gen, num)) h e []) 0x41 h 0x13 1

/-- The address of the first poisoned block of a line. -/
def lineBadAt (s : State) (line : Nat) : Nat := ((blocksOf (line * 1024) 1024).find? (blockBad s)).getD 0 * 32

/-- A fill or a header read has failed: SCENE_FETCH_ERRORS counts it (R298), and SCENE_FETCH_ERROR is raised once per field, with the
first failing address (R295). -/
def noteFetch (s : State) (h : Fin 4) (told : Bool) (a : Nat) : State :=
  let s := s.inc (Reg.RGU_SCENE_FETCH_ERRORS h)
  if told then s
  else s.raise (.sceneFetchError h) [w32 a, w32 (a / 2 ^ 32), s.rd (Reg.RGU_CUR_FRAME h)]

/-- The read of a line in SC1, and its installation, with the 1 KiB read, where it does not meet an error; the Bool says that it does
(R291, R295). -/
def dirInstall (s : State) (h line e : Nat) : State × Bool :=
  let bad := rangeBad s (line * 1024) 1024
  let s := touch s 1 (line * 1024) 1024
  if bad then (dirDrop s h line e, true)
  else (putData ((s.setB (Reg.CACHE_DIR h e) 27 false).setB (Reg.CACHE_DIR h e) 26 true) h e (hbmBytes s (line * 1024) 1024), false)

/-- A fill returns for an entry on behalf of field `F` (R295): installed, or failed on poison. -/
def dirFill (s : State) (h : Fin 4) (F : FieldSt) (line e : Nat) : State × FieldSt :=
  let a := lineBadAt s line
  let p := dirInstall s h line e
  if p.2 then (noteFetch p.1 h F.fetchSeen a, { F with failed := line :: F.failed, fetchSeen := true })
  else (p.1, F.looked line (dataOf p.1 h e))

/-- R293: room for a fill of `line` that a delivered ray took. Where none was left, a fill has returned. DESIGN CHOICE (log entry
31): that of the oldest pending line of the set, or else of the first pending entry. -/
def makeRoom (s : State) (h : Fin 4) (F : FieldSt) (line : Nat) : State × FieldSt :=
  if fillRoom s h line then (s, F)
  else
    let l := (setEntries line).filter (dirPending s h)
    match (if (dirVictim s h line).isSome then (pendingLines s h).head? else oldest s h l) with
    | some e => dirFill s h F (fld (dirLo s h e) 0 26) e
    | none => (s, F)

/-- A lookup that missed, joined or issued, is counted (R298). -/
def countMiss (s : State) (h : Nat) : State := s.inc48 (Reg.RGU_MISSES_LO h) (Reg.RGU_MISSES_HI h) 1

/-- A lookup hits a valid line: HITS (R296). -/
def countHit (s : State) (h e : Nat) : State :=
  s.setF (Reg.CACHE_DIR h e + 4) 4 16 (min 0xFFFF (s.f (Reg.CACHE_DIR h e + 4) 4 16 + 1))

/-- A lookup of the tap at `a` of a ray that was delivered (R291 to R295): a hit, or a miss whose fill has returned. -/
def cacheLookup (h : Fin 4) (gen : Nat) (p : State × FieldSt) (a : Nat) : State × FieldSt :=
  let line := a / 1024
  let s := p.1.inc48 (Reg.RGU_LOOKUPS_LO h) (Reg.RGU_LOOKUPS_HI h) 1
  (dirFind s h gen line).elim
    (let s := countMiss s h
     if p.2.failed.contains line then (s, p.2)
     else
       let q := makeRoom s h p.2 line
       (dirVictim q.1 h line).elim q fun e => dirFill (dirPut q.1 h gen line e p.2.num) h q.2 line e)
    fun e =>
      let s := dirTouch s h line e (dirAge s h e)
      if dirPending s h e then dirFill (countMiss s h) h p.2 line e else (countHit s h e, p.2.looked line (dataOf s h e))

/-- A lookup of a ray that is issued and still waits: a miss leaves its line pending, or joins (R293). The Bool says that issue
stalls. -/
def cacheIssue (h : Fin 4) (gen : Nat) (F : FieldSt) (p : State × Bool) (a : Nat) : State × Bool :=
  let line := a / 1024
  if p.2 then p
  else
    let s := p.1
    match dirFind s h gen line with
    | none =>
      if !F.failed.contains line && !fillRoom s h line then (s, true)
      else
        let s := countMiss (s.inc48 (Reg.RGU_LOOKUPS_LO h) (Reg.RGU_LOOKUPS_HI h) 1) h
        if F.failed.contains line then (s, false)
        else ((dirVictim s h line).elim s fun e => dirPut s h gen line e F.num, false)
    | some e =>
      let s := s.inc48 (Reg.RGU_LOOKUPS_LO h) (Reg.RGU_LOOKUPS_HI h) 1
      let s := dirTouch s h line e (dirAge s h e)
      if dirPending s h e then (putFill (countMiss s h) h e (gen, F.num), false) else (countHit s h e, false)

end Sys2Proof.Machine
end

