-- ==== Sys2Proof/Machine/Layers.lean ====
section
/-!
DEFINITION. Layers: sources, buffer descriptors, formats, placement, blending, patterns, eclipse and the fetch commands
(R300 to R319).
-/
namespace Sys2Proof.Machine

/-! ### Heads in State -/

/-- Page base of layer `k` of head `h`. -/
def layerBase (h k : Nat) : Nat := 0x43000 + 0x10000 * h + 0x1000 * k

/-- Page base of the output page of head `h`. -/
def outBase (h : Nat) : Nat := 0x4B000 + 0x10000 * h

/-- HEAD_STATUS.STATE (R334). -/
def headState (s : State) (h : Nat) : Nat := s.f (Reg.HEAD_HEAD_STATUS h) 0 3

/-- The field in production is the next one: it is latched, and every line of the current one has passed its deadline. -/
def prodNext (s : State) (h : Nat) : Bool :=
  let t := headOf s h
  t.latched && (!t.cur.produced || decide (t.cur.vActive h ≤ t.cur.next))

/-- The field in production (R285). -/
def prodField (s : State) (h : Nat) : FieldSt := if prodNext s h then (headOf s h).nxt else (headOf s h).cur

/-- The state with the field in production replaced. -/
def putProd (s : State) (h : Nat) (nx : Bool) (F : FieldSt) : State :=
  putHead s h (if nx then { headOf s h with nxt := F } else { headOf s h with cur := F })

/-! ### Sources (R300 to R302) -/

/-- What a layer of a field shows. -/
inductive LayerSrc where
  | off
  | rgu
  | store (f : Option RFrame)
  | buffer
  | compressed
  | solid
  | pattern
  deriving DecidableEq, Repr

/-- R300: the source of layer `k`. -/
def layerAssigned (F : FieldSt) (h k : Nat) : LayerSrc :=
  if k = F.f (Reg.RGU_RGU_CFG h) 0 3 then .rgu
  else match F.flats.find? fun p => decide (p.1 = k) with
    | some p => .store p.2
    | none =>
      let c := F.f (Reg.LAYER_LAYER_CFG h k) 0 3
      if c = 1 then .buffer else if c = 2 then .compressed else if c = 3 then .solid else if c = 4 then .pattern else .off

/-- The source of a layer as the latch fixed it: a disabled layer is transparent (R322). -/
def layerSet (F : FieldSt) (h k : Nat) : LayerSrc :=
  if F.b (Reg.PAGE_CTRL (layerBase h k)) 0 then layerAssigned F h k else .off

/-- The source of a layer for the lines not yet composed: an ABORT has taken it out of the field (R322). -/
def layerSrc (F : FieldSt) (h k : Nat) : LayerSrc := if F.dropped.contains k then .off else layerSet F h k

/-- A source that DEPTH places along rays: a store layer with a frame, or BUFFER (R302, R310). -/
def depthSrc : LayerSrc → Bool
  | .store (some _) => true
  | .buffer => true
  | _ => false

/-- The layer is depth-placed (R310). -/
def layerDepth (F : FieldSt) (h k : Nat) : Bool := F.b (Reg.LAYER_LAYER_CFG h k) 8 && depthSrc (layerSrc F h k)

/-- DESC in effect. -/
def layerDesc (F : FieldSt) (h k : Nat) : Nat :=
  (F.c (Reg.LAYER_DESC_HI h k)).toNat * 2 ^ 32 + (F.c (Reg.LAYER_DESC_LO h k)).toNat

/-- Layer `k` is eclipsed on line `y` (R319). -/
def eclipsedAt (F : FieldSt) (k y : Nat) : Bool := F.ecl.any fun e => decide (e.layer = k ∧ e.line ≤ y)

/-- Layer `k` is eclipsed in the field. -/
def eclipsedIn (F : FieldSt) (k : Nat) : Bool := F.ecl.any fun e => decide (e.layer = k)

/-! ### Formats (R305 to R307) -/

/-- R306: a field of `n` bits widened to 12. -/
def widenTo12 (n x : Nat) : Nat :=
  if n = 2 then x * 1365
  else if n = 5 then x * 128 ||| x * 4 ||| x / 8
  else if n = 6 then x * 64 ||| x
  else widen12 n x

/-- Bytes per pixel of a format. -/
def formatBytes (f : Nat) : Nat :=
  if f = 6 then 8 else if f = 3 then 3 else if f = 4 then 2 else if f = 7 ∨ f = 8 then 1 else 4

/-- The widened components of a raw pixel, from its bytes (R305, R306). -/
def rawPixel (f : Nat) (b : List Byte) : List Nat :=
  let w := leNat b
  if f = 1 ∨ f = 2 then (List.range 4).map fun c => widenTo12 8 (w / 2 ^ (8 * c) % 256)
  else if f = 3 then (List.range 3).map fun c => widenTo12 8 (w / 2 ^ (8 * c) % 256)
  else if f = 4 then [widenTo12 5 (w / 2 ^ 11 % 32), widenTo12 6 (w / 32 % 64), widenTo12 5 (w % 32)]
  else if f = 5 then [widenTo12 10 (w % 1024), widenTo12 10 (w / 2 ^ 10 % 1024), widenTo12 10 (w / 2 ^ 20 % 1024), widenTo12 2 (w / 2 ^ 30)]
  else if f = 6 then (List.range 4).map fun c => w / 2 ^ (16 * c) % 4096
  else [widenTo12 8 (w % 256)]

/-- Channel `ch` of a colour register pair (R331). -/
def colorCh (lo hi : Word) (ch : Nat) : Nat :=
  if ch = 0 then fld lo 0 12 else if ch = 1 then fld lo 16 12 else if ch = 2 then fld hi 0 12 else fld hi 16 12

/-- R307: the layer value of channel `ch` from the widened components. -/
def pixelValue (f : Nat) (comps : List Nat) (colA ch : Nat) : RayValue :=
  if f = 7 then (mul4095 colA (comps.getD 0 0), comps.getD 0 0)
  else if f = 8 then (comps.getD 0 0, 4095)
  else if f = 3 ∨ f = 4 then (comps.getD ch 0, 4095)
  else if f = 2 then (mul4095 (comps.getD ch 0) (comps.getD 3 0), comps.getD 3 0)
  else (comps.getD ch 0, comps.getD 3 0)

/-- COLOR_A channel `ch` in effect. -/
def colorA (F : FieldSt) (h k ch : Nat) : Nat := colorCh (F.c (Reg.LAYER_COLOR_A_LO h k)) (F.c (Reg.LAYER_COLOR_A_HI h k)) ch

/-- COLOR_B channel `ch` in effect. -/
def colorB (F : FieldSt) (h k ch : Nat) : Nat := colorCh (F.c (Reg.LAYER_COLOR_B_LO h k)) (F.c (Reg.LAYER_COLOR_B_HI h k)) ch

/-! ### Compressed layers (R304) -/

/-- What layer fetch accepts (R217). -/
def layerNeeds : ShuocNeeds := ⟨true, true, true, true, true, [0, 1, 3, 6]⟩

/-- A frame header of a compressed layer, as the descriptor requires it. -/
def layerFrameHdr (d : LayerBuf) (b : List Byte) : Coded FrameHdr :=
  parseHdr layerNeeds (fun f => decide (f.width = d.width ∧ f.height = d.height ∧ f.npic = 1 ∧ f.c = formatComps d.format ∧ f.thl ≤ 6)) b

/-- The header of the frame that a compressed layer shows, the first of its sequence. -/
def layerHdr (s : State) (d : LayerBuf) : Coded FrameHdr :=
  match parseSeq (hbmBytes s d.addr (min 16 d.bytes)) with
  | .error e => .error e
  | .ok _ => layerFrameHdr d (hbmBytes s (d.addr + 16) (min 88 (d.bytes - 16)))

/-- The frame headers of a compressed layer's sequence (R194, R197): those of the next frames, from offset `off` on, as far as each is
accepted and its frame ends within BYTES. The first component holds where they lie, the second whether all were found. -/
def layerFrames (s : State) (d : LayerBuf) : Nat → Nat → Pieces × Bool
  | 0, _ => ([], true)
  | n + 1, off =>
    let b := hbmBytes s (d.addr + off) (min 88 (d.bytes - off))
    let own := (d.addr + off, min (hdrFields b).size (d.bytes - off))
    match layerFrameHdr d b with
    | .error _ => ([own], false)
    | .ok f =>
      let stop := off + f.size + 4 * f.tileCount + f.tileBytes
      if d.bytes < stop then ([own], false)
      else
        let r := layerFrames s d n stop
        (own :: r.1, r.2)

/-- The tiles of a compressed layer's group (R205), or GROUP_LEN. -/
def layerTiles (s : State) (d : LayerBuf) (f : FrameHdr) : Coded (List (List Byte × Bool)) :=
  splitGroup f.tileCount f.tileBytes (hbmBytes s (d.addr + 16 + f.size + 4 * f.tileCount) f.tileBytes)

/-- Tile `i` of a compressed layer: its samples, or a stream error (R197, R205, R216). -/
def layerTile (s : State) (d : LayerBuf) (f : FrameHdr) (i : Nat) : Coded (List (List Nat)) :=
  match layerTiles s d f with
  | .error e => .error e
  | .ok tiles =>
    let dirs := dirAgrees (hbmBytes s (d.addr + 16 + f.size) (4 * f.tileCount)) 0 0 tiles
    decodeCut layerNeeds f i (dirs.getD i false) false (fun _ _ _ _ _ => 0) (tiles.getD i ([], true))

/-- The samples of a compressed layer's pixel, widened. -/
def layerPixel (s : State) (d : LayerBuf) (x y : Nat) : List Nat :=
  match layerHdr s d with
  | .error _ => []
  | .ok f =>
    let i := y / 2 ^ f.thl * f.tx + x / 2 ^ f.twl
    let g := tileGeom f i
    match layerTile s d f i with
    | .error _ => []
    | .ok l => l.map fun c => widenTo12 f.bd (c.getD ((y - g.y0) * g.tw + (x - g.x0)) 0)

/-! ### Pixels of a layer -/

/-- Width and height of a layer (R308). -/
def layerSize (F : FieldSt) (h k : Nat) : Nat × Nat :=
  match layerSrc F h k with
  | .store (some r) => (beAt r.desc 4 2, beAt r.desc 6 2)
  | .buffer => ((tabGet (fun _ => none) F.descs k).map fun d => (d.width, d.height)).getD (0, 0)
  | .compressed => ((tabGet (fun _ => none) F.descs k).map fun d => (d.width, d.height)).getD (0, 0)
  | .solid => (F.f (Reg.LAYER_SIZE h k) 0 16, F.f (Reg.LAYER_SIZE h k) 16 16)
  | .pattern => (F.f (Reg.LAYER_SIZE h k) 0 16, F.f (Reg.LAYER_SIZE h k) 16 16)
  | _ => (0, 0)

/-- noise12() of R314. -/
def noise12 (x y ch n : Nat) : Nat :=
  let h : Word := (w32 x * 0x9E3779B1) ^^^ (w32 y * 0x85EBCA77) ^^^ (w32 (ch + 4 * n) * 0xC2B2AE3D)
  let h := h ^^^ (h >>> 15)
  let h := h * 0x2C1B3C6D
  let h := h ^^^ (h >>> 12)
  (h >>> 20).toNat

/-- pattern() of R314; `n` is PCOUNT. -/
def patternValue (F : FieldSt) (h k lx ly ch n : Nat) : Nat :=
  let p := F.c (Reg.LAYER_PATTERN h k)
  let got := layerSize F h k
  let w := got.1
  let hh := got.2
  let on := b2n (bit p (8 + ch))
  let ty := fld p 0 4
  let cell := fld p 4 4
  if ty = 1 then on * (if w = 1 then 0 else (lx * 4095 + (w - 1) / 2) / (w - 1))
  else if ty = 2 then on * (if hh = 1 then 0 else (ly * 4095 + (hh - 1) / 2) / (hh - 1))
  else if ty = 3 then
    (if Nat.xor (lx / 2 ^ cell) (ly / 2 ^ cell) % 2 = 1 then colorB F h k ch else colorA F h k ch)
  else if ty = 4 then
    (if ([7, 6, 3, 2, 5, 4, 1, 0].getD (lx * 8 / w) 0) / 2 ^ (2 - ch) % 2 = 1 then 4095 else 0)
  else if ty = 5 then
    let m := n * fld p 24 8 % (w * hh * 3) % 2 ^ 32
    (if m / 3 % w = lx ∧ m / (3 * w) = ly ∧ m % 3 = ch then colorA F h k ch else colorB F h k ch)
  else on * noise12 lx ly ch n

/-- texel() of R310 and the value of a flat layer's pixel (R307, R314): colour and alpha of channel `ch`. -/
def layerTexel (s : State) (F : FieldSt) (h k x y ch : Nat) : RayValue :=
  match layerSrc F h k with
  | .store (some r) =>
    let g := sceneGeom r
    let fmt := beAt r.desc 8 1
    let at_ := fun c => samplePos g.c g.w g.h 0 c x y
    pixelValue fmt ((List.range g.c).map fun c =>
      if layerDepth F h k then tap s F (frameBase s r) (at_ c) else sampleAt s (frameBase s r) (at_ c)) (colorA F h k ch) ch
  | .buffer =>
    match tabGet (fun _ => none) F.descs k with
    | some d =>
      let a := d.addr + y * d.pitch + x * formatBytes d.format
      let n := formatBytes d.format
      let b := if !layerDepth F h k then hbmBytes s a n
        else if F.failed.contains (a / 1024) then List.replicate n 0 else F.bytes s a n
      pixelValue d.format (rawPixel d.format b) (colorA F h k ch) ch
    | none => (0, 0)
  | .compressed =>
    match tabGet (fun _ => none) F.descs k with
    | some d => pixelValue d.format (layerPixel s d x y) (colorA F h k ch) ch
    | none => (0, 0)
  | .solid => (colorA F h k ch, colorA F h k 3)
  | .pattern => (patternValue F h k x y ch (F.c (Reg.LAYER_PCOUNT h k)).toNat, 4095)
  | _ => (0, 0)

/-! ### Placement (R308 to R310) -/

/-- A signed 16-bit register half. -/
def shalf (w : Word) (lo : Nat) : Int := sfld w lo 16

/-- R308: the value of a flat layer at head pixel (x, y), if it covers it. -/
def flatValue (s : State) (F : FieldSt) (h k x y ch : Nat) : Option RayValue :=
  let lx := (x : Int) - shalf (F.c (Reg.LAYER_POS h k)) 0
  let ly := (y : Int) - shalf (F.c (Reg.LAYER_POS h k)) 16
  let got := layerSize F h k
  let w := got.1
  let hh := got.2
  if 0 ≤ lx ∧ lx < w ∧ 0 ≤ ly ∧ ly < hh then some (layerTexel s F h k lx.toNat ly.toNat ch) else none

/-- texel() of R310 with its bounds. -/
def depthTexel (s : State) (F : FieldSt) (h k : Nat) (x y : Int) (ch : Nat) : RayValue :=
  let got := layerSize F h k
  let w := got.1
  let hh := got.2
  if 0 ≤ x ∧ x < w ∧ 0 ≤ y ∧ y < hh then layerTexel s F h k x.toNat y.toNat ch else (0, 0)

/-- The position of a ray in a depth-placed layer (R310), 14.10 fixed point. -/
def depthPos (F : FieldSt) (h k : Nat) (r : Ray) : Int × Int :=
  let flat := r.clear && clearFlat F h
  let ds : Int := if flat then 0 else (r.s : Int) - 32768
  let dt : Int := if flat then 0 else (r.t : Int) - 32768
  let par := F.c (Reg.LAYER_DEPTH_PAR h k)
  let pos := F.c (Reg.LAYER_POS h k)
  ((r.u : Int) - shalf pos 0 * 1024 + (shalf par 0 * ds + 2048) / 4096,
   (r.v : Int) - shalf pos 16 * 1024 + (shalf par 16 * dt + 2048) / 4096)

/-- bilerp() of R310 on four values. -/
def bilerp (t00 t10 t01 t11 fu fv : Nat) : Nat :=
  let h0 := t00 * (256 - fu) + t10 * fu
  let h1 := t01 * (256 - fu) + t11 * fu
  (h0 * (256 - fv) + h1 * fv + 32768) / 65536

/-- depth_sample() of R310. -/
def depthSample (s : State) (F : FieldSt) (h k : Nat) (r : Ray) : Option RayValue :=
  if !r.valid then none
  else
    let got := depthPos F h k r
    let u := got.1
    let v := got.2
    let x0 := u / 1024
    let y0 := v / 1024
    let fu := (u / 4 % 256).toNat
    let fv := (v / 4 % 256).toNat
    let got := layerSize F h k
    let w := got.1
    let hh := got.2
    if x0 < -1 ∨ y0 < -1 ∨ (w : Int) ≤ x0 ∨ (hh : Int) ≤ y0 then none
    else
      let t := fun x y => depthTexel s F h k x y r.ch
      let a := t x0 y0
      let b := t (x0 + 1) y0
      let c := t x0 (y0 + 1)
      let d := t (x0 + 1) (y0 + 1)
      some (bilerp a.1 b.1 c.1 d.1 fu fv, bilerp a.2 b.2 c.2 d.2 fu fv)

/-! ### Blending (R313) -/

/-- Every ray of line `y` is (0, 0): the field has no scene (R273), or an ABORT has cut it before (R297). -/
def FieldSt.noRays (F : FieldSt) (y : Nat) : Bool := F.noScene || F.cut.any (fun c => decide (c ≤ y))

/-- layer_value() of R313. -/
def layerValue (s : State) (F : FieldSt) (h k x y ch : Nat) : Option RayValue :=
  if eclipsedAt F k y then none
  else match layerSrc F h k with
    | .off => none
    | .rgu => if F.noRays y then none else some (rayValue s F h (fieldRay s F h x y ch))
    | .store none => none
    | _ =>
      if layerDepth F h k then (if F.noRays y then none else depthSample s F h k (fieldRay s F h x y ch))
      else flatValue s F h k x y ch

/-- One blend step of R313: mode, destination, colour and alpha after opacity. -/
def blendStep (mode cd c a : Nat) : Nat :=
  if mode = 0 then min 4095 (c + mul4095 cd (4095 - a))
  else if mode = 1 then min 4095 (cd + c)
  else if mode = 2 then c
  else min 4095 (mul4095 cd c + mul4095 cd (4095 - a))

/-- compose() of R313. -/
def compose (s : State) (F : FieldSt) (h x y ch : Nat) : Nat :=
  (List.range 8).foldl (fun cd k =>
    match layerValue s F h k x y ch with
    | none => cd
    | some (c, a) =>
      let op := F.f (Reg.LAYER_OPACITY h k) 0 12
      blendStep (F.f (Reg.LAYER_LAYER_CFG h k) 4 2) cd (mul4095 c op) (mul4095 a op))
    (colorCh (F.c (Reg.HEAD_BG_LO h)) (F.c (Reg.HEAD_BG_HI h)) ch)

/-! ### Eclipse (R318, R319) -/

/-- Layer `k` of the field in production is eclipsed from line `y` with a cause; an eclipsed layer stays as it is. -/
def eclipse (s : State) (h : Fin 4) (nx : Bool) (F : FieldSt) (k y cause : Nat) : State × FieldSt :=
  if eclipsedIn F k then (s, F)
  else
    let F := { F with ecl := F.ecl ++ [⟨k, y, cause⟩] }
    let s := s.inc (Reg.LAYER_ECLIPSE_COUNT h k)
    let s := s.wr (Reg.LAYER_ECLIPSE_LINE h k) (w32 (y % 65536 + cause * 65536))
    let s := if nx then s else (s.setB (Reg.HEAD_HEAD_STATUS h) (8 + k) true).setB (Reg.LAYER_LAYER_STATUS h k) 1 true
    let s := perfHit s 0x43 (instOf (layerBase h k)) 0x11 1
    (s.raise (.layerEclipsed h) [w32 k, w32 y, w32 cause, F.num], F)

/-- A source that the layer fetcher reads from a buffer. -/
def bufferSrc : LayerSrc → Bool
  | .buffer => true
  | .compressed => true
  | _ => false

/-- The layer is read by the layer fetcher from a buffer. -/
def layerFetched (F : FieldSt) (h k : Nat) : Bool := bufferSrc (layerSrc F h k)

/-- R303: the descriptor in 64 bytes. -/
def layerBuf (b : List Byte) : LayerBuf :=
  ⟨leAt b 0 8, leAt b 8 4, leAt b 12 2, leAt b 14 2, leAt b 16 1, leAt b 17 1, leAt b 20 4⟩

/-- R304, checks 1 to 3 of a descriptor: reserved fields, SOURCE and ranges, and usable HBM. -/
def layerBufOk (s : State) (comp : Bool) (b : List Byte) : Bool :=
  let d := layerBuf b
  decide (leAt b 18 2 = 0 ∧ leAt b 28 4 = 0 ∧ d.kind = b2n comp ∧ d.addr % 64 = 0 ∧ 1 ≤ d.width ∧ d.width ≤ 16384 ∧
    1 ≤ d.height ∧ d.height ≤ 16384 ∧ 1 ≤ d.format ∧ d.format ≤ 8 ∧ d.addr + d.bytes ≤ usableTop s) &&
  (if comp then decide (d.pitch = 0)
   else decide (d.pitch % 64 = 0 ∧ d.width * formatBytes d.format ≤ d.pitch ∧ d.pitch * d.height ≤ d.bytes))

/-- The headers of a compressed layer's sequence: where they lie, and whether all of them pass (R303, R304, check 4): BYTES is at least
the length of the sequence. -/
def layerHdrs (s : State) (d : LayerBuf) : Pieces × Bool :=
  let own := (d.addr, min 16 d.bytes)
  match parseSeq (hbmBytes s d.addr (min 16 d.bytes)) with
  | .error _ => ([own], false)
  | .ok n =>
    let r := layerFrames s d n 16
    (own :: r.1, r.2)

/-- The result of a descriptor read: 0 accepted, else the cause of R319: 3 for what reads poisoned, 2 for a check. -/
def descCause (s : State) (comp : Bool) (a : Nat) : Nat :=
  let b := hbmBytes s a 64
  let d := layerBuf b
  if rangeBad s a 64 then 3
  else if !layerBufOk s comp b then 2
  else if !comp then 0
  else if (layerHdrs s d).1.any fun q => rangeBad s q.1 q.2 then 3
  else if (layerHdrs s d).2 then 0
  else 2

/-- The layer's reads, in service class SC0 (R303, R528). -/
def layerTouch (h k : Nat) (s : State) (q : Nat × Nat) : State :=
  perfHit (touch s 0 q.1 q.2) 0x43 (instOf (layerBase h k)) 0x10 q.2

/-- The field has the descriptor of a layer. -/
def descRead (F : FieldSt) (k : Nat) : Bool := (tabGet (fun _ => none) F.descs k).isSome

/-- The descriptor read of a layer in a field (R304), once per field. -/
def readDescriptor (h : Fin 4) (nx : Bool) (k : Nat) (p : State × FieldSt) : State × FieldSt :=
  let F := p.2
  if !layerFetched F h k || eclipsedIn F k || descRead F k then p
  else
    let a := layerDesc F h k
    let comp := decide (layerSrc F h k = .compressed)
    let d := layerBuf (hbmBytes p.1 a 64)
    let c := descCause p.1 comp a
    let ok := !rangeBad p.1 a 64 && layerBufOk p.1 comp (hbmBytes p.1 a 64)
    let s := layerTouch h k p.1 (a, 64)
    let s := if comp && ok then (layerHdrs p.1 d).1.foldl (layerTouch h k) s else s
    if c = 0 then (s, { F with descs := tabSet (fun _ => none) F.descs k (some d) }) else eclipse s h nx F k 0 c

/-- Width and height of a layer on the head; those of a buffer whose descriptor has not been read are the ones in memory. -/
def layerExtent (s : State) (F : FieldSt) (h k : Nat) : Nat × Nat :=
  if layerFetched F h k && !descRead F k then
    let d := layerBuf (hbmBytes s (layerDesc F h k) 64)
    (d.width, d.height)
  else layerSize F h k

/-- R308: a layer of width and height `n` covers a subpixel of the lines from `a` to before `b`, at columns of the active area. -/
def coversRows (F : FieldSt) (h k : Nat) (n : Nat × Nat) (a b : Nat) : Bool :=
  let px := shalf (F.c (Reg.LAYER_POS h k)) 0
  let py := shalf (F.c (Reg.LAYER_POS h k)) 16
  decide (px < (F.hActive h : Int) ∧ 0 < px + (n.1 : Int) ∧ py < (b : Int) ∧ (a : Int) < py + (n.2 : Int))

/-- R308: the layer covers a subpixel of line `y`. A depth-placed layer may cover any. -/
def coversLine (s : State) (F : FieldSt) (h k y : Nat) : Bool :=
  layerDepth F h k || coversRows F h k (layerExtent s F h k) y (y + 1)

/-- R308: the layer covers a subpixel of band `b`. -/
def coversBand (s : State) (F : FieldSt) (h k b : Nat) : Bool :=
  layerDepth F h k || coversRows F h k (layerExtent s F h k) (64 * b) (min (64 * b + 64) (F.vActive h))

/-- The guard read of a band that the layer covers (R317), once per layer and band. -/
def readGuard (h : Fin 4) (nx : Bool) (k band : Nat) (p : State × FieldSt) : State × FieldSt :=
  let F := p.2
  if !layerFetched F h k || eclipsedIn F k || F.guards.contains (k, band) || !coversBand p.1 F h k band ||
      decide (F.vActive h ≤ 64 * band) then p
  else
    let a := layerDesc F h k + 24
    let bad := rangeBad p.1 a 4
    let g := w32 (leNat (hbmBytes p.1 a 4))
    let s := layerTouch h k p.1 (a, 4)
    if bad then eclipse s h nx F k (64 * band) 3
    else if g = F.c (Reg.LAYER_GUARD h k) then (s, { F with guards := (k, band) :: F.guards })
    else eclipse s h nx F k (64 * band) 1

/-- The byte ranges that line `y` of a fetched or store layer needs. -/
def layerRanges (s : State) (F : FieldSt) (h k y : Nat) : List (Nat × Nat) :=
  match layerSrc F h k, tabGet (fun _ => none) F.descs k with
  | .buffer, some d => [(d.addr + y * d.pitch, d.width * formatBytes d.format)]
  | .compressed, some d =>
    match layerHdr s d with
    | .ok f =>
      let dir := d.addr + 16 + f.size
      (dir + 4 * (y / 2 ^ f.thl * f.tx), 4 * f.tx) :: (List.range f.tx).map fun x =>
        let a := dir + 4 * f.tileCount + beNat (hbmBytes s (dir + 4 * (y / 2 ^ f.thl * f.tx + x)) 4)
        (a, beNat (hbmBytes s a 3))
    | .error _ => [(d.addr, 16)]
  | .store (some r), _ =>
    let g := sceneGeom r
    (List.range g.c).map fun c => (sampleAddr (frameBase s r) (samplePos g.c g.w g.h 0 c 0 y), 3 * ((g.w + 1) / 2) + 3)
  | _, _ => []

/-- A tile of the row that holds line `y` ends in a stream error (R318). -/
def layerStreamBad (s : State) (F : FieldSt) (h k y : Nat) : Bool :=
  match layerSrc F h k, tabGet (fun _ => none) F.descs k with
  | .compressed, some d =>
    match layerHdr s d with
    | .ok f => (List.range f.tx).any fun x => match layerTile s d f (y / 2 ^ f.thl * f.tx + x) with | .ok _ => false | .error _ => true
    | .error _ => true
  | _, _ => false

/-- The error of the data that line `ly` of a layer needs (R318, R319): 3 memory, 4 stream. -/
def layerDataCause (s : State) (F : FieldSt) (h k ly : Nat) : Option Nat :=
  if (layerRanges s F h k ly).any fun q => rangeBad s q.1 q.2 then some 3
  else if layerStreamBad s F h k ly then some 4
  else none

/-- The read of the data that head line `line` needs of a flat layer (R318), after the guard of its band (R317). A depth-placed
layer is read by the RGU (R311). -/
def readLayerData (h : Fin 4) (nx : Bool) (k line : Nat) (p : State × FieldSt) : State × FieldSt :=
  let ly := (line : Int) - shalf (p.2.c (Reg.LAYER_POS h k)) 16
  if layerDepth p.2 h k || eclipsedIn p.2 k || !coversLine p.1 p.2 h k line || (layerFetched p.2 h k && !descRead p.2 k) then p
  else
    let p := readGuard h nx k (line / 64) p
    if eclipsedIn p.2 k then p
    else
      let F := p.2
      let s := (layerRanges p.1 F h k ly.toNat).foldl (layerTouch h k) p.1
      match layerDataCause p.1 F h k ly.toNat with
      | some c => eclipse s h nx F k (line / 64 * 64) c
      | none => (s, F)

end Sys2Proof.Machine
end

