-- ==== Sys2Proof/Machine/Output.lean ====
section
/-!
DEFINITION. Output processing: LUT, dither, data inversion, polarity and the balance ledger (R352 to R358).
-/
namespace Sys2Proof.Machine

/-! ### Values (R352 to R356) -/

/-- The output LUT (R353). -/
def lutValue (s : State) (F : FieldSt) (h ch v : Nat) : Nat :=
  if F.b (Reg.OUT_LUT_BANK h) 1 then v
  else s.f (Reg.LUT h + (ch * 4096 + v) * 4) (if F.b (Reg.OUT_LUT_BANK h) 0 then 16 else 0) 12

/-- The panel depth in bits (R363). -/
def panelDepth (F : FieldSt) (h : Nat) : Nat := 8 + 2 * F.f (Reg.OUT_OUT_CFG h) 0 2

/-- The 4 × 4 thresholds of R355. -/
def bayer (y x : Nat) : Nat :=
  (([[0, 8, 2, 10], [12, 4, 14, 6], [3, 11, 1, 9], [15, 7, 13, 5]].getD (y % 4) []).getD (x % 4) 0)

/-- dither() of R355. -/
def dither (v x y ch n b mode : Nat) : Nat :=
  if b = 12 then v
  else
    let t := (v * (2 ^ b - 1) * 16 + 2047) / 4095
    let r := if mode = 2 then 9 * (n % 16) else 0
    let d := if mode = 0 then 8 else (bayer y x + 5 * ch + r) % 16
    (t + d) / 16

/-- R356: the POL flag of active line `y`. -/
def linePol (F : FieldSt) (h y : Nat) : Bool :=
  let m := F.f (Reg.OUT_POL_CTRL h) 0 2
  if m = 0 then false
  else if m = 1 then F.pol
  else if m = 2 then F.pol != decide (y % 2 = 1)
  else F.pol != decide (y / 2 % 2 = 1)

/-- Steps 1 to 3 of R352 on a composed value. -/
def outputValue (s : State) (F : FieldSt) (h x y ch v : Nat) : Nat :=
  let b := panelDepth F h
  let o := dither (lutValue s F h ch v) x y ch F.num.toNat b (F.f (Reg.OUT_OUT_CFG h) 4 2)
  if F.b (Reg.OUT_POL_CTRL h) 4 && linePol F h y then 2 ^ b - 1 - o else o

/-- The subpixel values of an active line, three per pixel in channel order, from a value function. -/
def lineOf (F : FieldSt) (h : Nat) (f : Nat → Nat → Nat) : List Nat :=
  (List.range (F.hActive h)).flatMap fun x => (List.range 3).map fun ch => f x ch

/-- The composed values of a line (R313). -/
def composedLine (s : State) (F : FieldSt) (h y : Nat) : List Nat := lineOf F h fun x ch => compose s F h x y ch

/-- The output values of a line from its composed values. -/
def outputLine (s : State) (F : FieldSt) (h y : Nat) (l : List Nat) : List Nat :=
  lineOf F h fun x ch => outputValue s F h x y ch (l.getD (3 * x + ch) 0)

/-- R336: the output values of a line before the first produced field: the head background. -/
def backgroundLine (s : State) (F : FieldSt) (h y : Nat) : List Nat :=
  lineOf F h fun x ch => outputValue s F h x y ch (colorCh (F.c (Reg.HEAD_BG_LO h)) (F.c (Reg.HEAD_BG_HI h)) ch)

/-! ### The LUT window (R353, R354) -/

/-- The offset of LUT_BANK is staged with a value that selects `bank` in an OPEN or ARMED transaction. -/
def lutStaged (s : State) (h bank : Nat) : Bool :=
  [s.txn.t0, s.txn.t1, s.txn.t2, s.txn.t3].any fun t =>
    t.staged.any fun p => decide (p.1 = Reg.OUT_LUT_BANK h) && !bit p.2 1 && decide (fld p.2 0 1 = bank)

/-- LUT_BANK value `w` selects bank `b` without BYPASS. -/
def selectsBank (w : Word) (b : Nat) : Bool := !bit w 1 && decide (fld w 0 1 = b)

/-- The output processing of the field being sent has finished: its last active line is composed, or sent where the field shows BG
(R336, R350). -/
def outputDone (t : HeadSt) (h : Nat) : Bool :=
  if t.cur.produced then decide (t.cur.vActive h ≤ t.cur.next) else decide (t.cur.vActive h ≤ (t.line.map (· + 1)).getD 0)

/-- LUT_BANK as the last latch fixed it. -/
def lutLatched (t : HeadSt) (h : Nat) : Word := (if t.latched then t.nxt else t.cur).c (Reg.OUT_LUT_BANK h)

/-- R354: a bank is in use: by a field whose output processing has not finished, by a staged selection, or by a direct write that
waits for its latch. The fields of a RECEIVE head have no output processing (R361). -/
def lutInUse (s : State) (h bank : Nat) : Bool :=
  let t := headOf s h
  let w := s.rd (Reg.OUT_LUT_BANK h)
  (t.run && decide (roleCode s (headBase h) = 1) && ((selectsBank (t.cur.c (Reg.OUT_LUT_BANK h)) bank && !outputDone t h) ||
    (t.latched && selectsBank (t.nxt.c (Reg.OUT_LUT_BANK h)) bank) || (decide (w ≠ lutLatched t h) && selectsBank w bank))) ||
  lutStaged s h bank

/-- OUT_STATUS as it reads (R363): the banks in use. -/
def outStatus (s : State) (h : Nat) : Word :=
  setFld (setFld (s.rd (Reg.OUT_OUT_STATUS h)) 2 1 (b2n (lutInUse s h 0))) 3 1 (b2n (lutInUse s h 1))

/-- A write to a LUT entry (R354). -/
def lutWrite (s : State) (h : Fin 4) (ch index : Nat) (v : Word) : State :=
  let a := Reg.LUT h + (ch * 4096 + index) * 4
  let u0 := lutInUse s h 0
  let u1 := lutInUse s h 1
  let s := if u0 then s else s.setF a 0 12 (fld v 0 12)
  let s := if u1 then s else s.setF a 16 12 (fld v 16 12)
  if u0 || u1 then (s.inc (Reg.OUT_LUT_IGNORED h)).raise (.lutWriteIgnored h) [w32 a] else s

/-- LUT_ENTRY_WRITE (R354). -/
def execLutEntryWrite (req : Requester) (h : Fin 4) (ch : Fin 3) (index : Fin 4096) (value : Word) (s : State) :
    Host.Outcome State Fault Refusal :=
  .next (gated s req (Reg.LUT h + (ch * 4096 + index) * 4) none fun s => lutWrite s h ch index value)

/-! ### The balance ledger (R357, R358) -/

/-- LEDGER, signed ns. -/
def ledger (s : State) (h : Nat) : Int := s64 (s.rd64 (Reg.OUT_LEDGER_LO h) (Reg.OUT_LEDGER_HI h))

/-- The state with a new LEDGER. -/
def setLedger (s : State) (h : Nat) (v : Int) : State := s.wr64 (Reg.OUT_LEDGER_LO h) (Reg.OUT_LEDGER_HI h) (u64 v)

/-- LEDGER_CLEAR (R358): bit 0 sets the ledger to 0. -/
def execLedgerClear (req : Requester) (h : Fin 4) (value : Word) (s : State) : Host.Outcome State Fault Refusal :=
  .next (gated s req (Reg.OUT_LEDGER_CLEAR h) none fun s => if bit value 0 then setLedger s h 0 else s)

/-- +D for polarity 0, −D for polarity 1. -/
def polSign (p : Bool) (d : Int) : Int := if p then -d else d

/-- Magnitude of an integer. -/
def mag (i : Int) : Nat := i.natAbs

/-- R357: the base polarity of the next field and whether it is a hold, from the ledger, the polarity `p` of the field
being sent, the nominal period `d0` and the configuration in effect. -/
def nextPol (s : State) (h : Nat) (F : FieldSt) (p : Bool) (d0 : Int) (first : Bool) : Bool × Bool :=
  if F.f (Reg.OUT_POL_CTRL h) 0 2 = 0 then (false, false)
  else if first then (decide (0 < ledger s h), false)
  else
    let l1 := ledger s h + polSign p d0
    let opp := mag (l1 + polSign (!p) d0)
    let keep := mag (l1 + polSign p d0)
    if F.b (Reg.OUT_POL_CTRL h) 5 && decide (s.rdN (Reg.OUT_LEDGER_LIMIT h) * 1000 < opp ∧ keep < opp) then (p, true)
    else (!p, false)

end Sys2Proof.Machine
end

