-- ==== Sys2Proof/Machine/Checks.lean ====
section
/-!
DEFINITION. The rules a resulting configuration must meet (R34, R177, R261, R266, R271, R283, R284, R301, R311, R340, R374,
R403, R422, R433), over any assignment of register values: a commit, a direct write, a handover and an enable judge the
same rules over different assignments (R60, R116, R122, R571).
-/
namespace Sys2Proof.Machine

/-- Page base of the link page of head `h`. -/
def zlBase (h : Nat) : Nat := 0x4C000 + 0x10000 * h

/-- Page base of the sideband page of head `h`. -/
def sbBase (h : Nat) : Nat := 0x4D000 + 0x10000 * h

/-! ### Driver groups (R372) -/

/-- group_x0() of R372. -/
def groupX0 (g w : Nat) : Nat := g * w / 12

/-- group_w() of R372. -/
def groupW (g w : Nat) : Nat := groupX0 (g + 1) w - groupX0 g w

/-- PAYLOAD_BYTES of a group's line at depth `b`. -/
def payloadBytes (g w b : Nat) : Nat := (3 * groupW g w * b + 7) / 8

/-- DATA_BLOCKS of a group's line. -/
def dataBlocks (g w b : Nat) : Nat := (payloadBytes g w b + 15) / 16

/-- The lane rate of a code in Gb/s (R366). -/
def laneRate (code : Nat) : Nat := 8 * (code % 4 + 1)

/-! ### Assignments and checks -/

/-- An assignment to judge: resulting values, values before, and active features. -/
structure CfgEnv where
  c : Nat → Word
  old : Nat → Word
  feat : Nat → Bool

/-- A field of a resulting value. -/
def CfgEnv.f (e : CfgEnv) (a lo len : Nat) : Nat := fld (e.c a) lo len

/-- A bit of a resulting value. -/
def CfgEnv.b (e : CfgEnv) (a i : Nat) : Bool := bit (e.c a) i

/-- A 64-bit resulting value. -/
def CfgEnv.c64 (e : CfgEnv) (lo hi : Nat) : Nat := (e.c hi).toNat * 2 ^ 32 + (e.c lo).toNat

/-- A rule with the registers that take part in it. -/
structure Check where
  parts : List Nat
  ok : Bool
  deriving Repr

/-- Registers that hold a head's timing. -/
def timingParts (h : Nat) : List Nat := [Reg.HEAD_FIELD_TIMING h, Reg.HEAD_V_LINES h]

/-- The head is enabled with a role. -/
def CfgEnv.headOn (e : CfgEnv) (h role : Nat) : Bool :=
  e.b (Reg.PAGE_CTRL (headBase h)) 0 && decide (e.f (Reg.PAGE_ROLE (headBase h)) 0 8 = role)

/-- NUM, DEN, V_ACTIVE, V_TOTAL, H_ACTIVE and the panel depth in bits. -/
def CfgEnv.num (e : CfgEnv) (h : Nat) : Nat := e.f (Reg.HEAD_FIELD_TIMING h) 0 20
def CfgEnv.den (e : CfgEnv) (h : Nat) : Nat := e.f (Reg.HEAD_FIELD_TIMING h) 20 12
def CfgEnv.vAct (e : CfgEnv) (h : Nat) : Nat := e.f (Reg.HEAD_V_LINES h) 0 16
def CfgEnv.vTot (e : CfgEnv) (h : Nat) : Nat := e.f (Reg.HEAD_V_LINES h) 16 16
def CfgEnv.w (e : CfgEnv) (h : Nat) : Nat := e.f (Reg.HEAD_H_ACTIVE h) 0 16
def CfgEnv.depth (e : CfgEnv) (h : Nat) : Nat := 8 + 2 * e.f (Reg.OUT_OUT_CFG h) 0 2

/-- The shortest field period floor(10^9 × den / num), ns. -/
def CfgEnv.period (e : CfgEnv) (h : Nat) : Nat := 1000000000 * e.den h / e.num h

/-- The latch line that LATCH_LINE stands for (R340). -/
def CfgEnv.latchLine (e : CfgEnv) (h : Nat) : Nat :=
  if e.f (Reg.HEAD_LATCH_LINE h) 0 16 = 0xFFFF then e.vAct h else e.f (Reg.HEAD_LATCH_LINE h) 0 16

/-- link_load() per second times den, and the active subpixel rate times den (R34). -/
def CfgEnv.loadDen (e : CfgEnv) (h : Nat) : Nat := (e.w h * 3 * e.depth h * 1015 + 999) / 1000 * e.vTot h * e.num h
def CfgEnv.subpixDen (e : CfgEnv) (h : Nat) : Nat := e.w h * 3 * e.vAct h * e.num h

/-- The heads whose lock-group rules involve `h` and another head (R340). -/
def groupPair (e : CfgEnv) (h g : Nat) : List Check :=
  let same := decide (e.f (Reg.HEAD_TIMING_CTRL h) 4 2 = e.f (Reg.HEAD_TIMING_CTRL g) 4 2)
  let parts := [h, g].flatMap fun x =>
    [Reg.HEAD_TIMING_CTRL x, Reg.HEAD_FIELD_TIMING x, Reg.HEAD_V_LINES x, Reg.HEAD_ANCHOR_LO x, Reg.HEAD_ANCHOR_HI x,
      Reg.PAGE_CTRL (headBase x)]
  let tx := e.headOn h 1 && e.headOn g 1
  let rx := (e.headOn h 2 && e.b (Reg.PAGE_CTRL (headBase g)) 0) || (e.headOn g 2 && e.b (Reg.PAGE_CTRL (headBase h)) 0)
  [⟨parts, !(tx && same) ||
      decide (e.c (Reg.HEAD_FIELD_TIMING h) = e.c (Reg.HEAD_FIELD_TIMING g) ∧ e.vTot h = e.vTot g ∧
        e.f (Reg.HEAD_TIMING_CTRL h) 0 1 = e.f (Reg.HEAD_TIMING_CTRL g) 0 1 ∧
        (e.f (Reg.HEAD_TIMING_CTRL h) 0 1 = 1 →
          e.c64 (Reg.HEAD_ANCHOR_LO h) (Reg.HEAD_ANCHOR_HI h) = e.c64 (Reg.HEAD_ANCHOR_LO g) (Reg.HEAD_ANCHOR_HI g)))⟩,
   ⟨[Reg.HEAD_TIMING_CTRL h, Reg.HEAD_TIMING_CTRL g, Reg.PAGE_CTRL (headBase h), Reg.PAGE_CTRL (headBase g)], !(rx && same)⟩]

/-- R34 and R340 of one head. -/
def timingChecks (e : CfgEnv) (h : Nat) : List Check :=
  let ft := Reg.HEAD_FIELD_TIMING h
  let vl := Reg.HEAD_V_LINES h
  let ha := Reg.HEAD_H_ACTIVE h
  [⟨[ft], inRange (e.num h) 1 1048575 && inRange (e.den h) 1 4095⟩,
   ⟨[ft], decide (e.den h ≤ e.num h ∧ e.num h ≤ (if e.feat 20 then 240 else 72) * e.den h)⟩,
   ⟨[ha], inRange (e.w h) 1 15360⟩,
   ⟨[vl], inRange (e.vAct h) 1 16384 && decide (e.vAct h + 3 ≤ e.vTot h)⟩,
   ⟨[vl, Reg.HEAD_LATCH_LINE h],
     decide (e.f (Reg.HEAD_LATCH_LINE h) 0 16 = 0xFFFF ∨ e.f (Reg.HEAD_LATCH_LINE h) 0 16 + 3 ≤ e.vTot h)⟩,
   ⟨[ft, vl, Reg.HEAD_LINE_SKEW h], decide (e.f (Reg.HEAD_LINE_SKEW h) 0 16 < e.period h / e.vTot h)⟩,
   ⟨[Reg.HEAD_TIMING_CTRL h], e.feat 19 || decide (e.f (Reg.PAGE_ROLE (headBase h)) 0 8 ≠ 1) ||
     decide (e.f (Reg.HEAD_TIMING_CTRL h) 4 2 = 0)⟩,
   ⟨[ft, ha, vl], decide (e.subpixDen h ≤ 30000000000 * e.den h)⟩,
   ⟨[ft, ha, vl, Reg.OUT_OUT_CFG h], decide (e.loadDen h ≤ 340000000000 * e.den h)⟩,
   ⟨[ft, ha, vl, Reg.OUT_OUT_CFG h, Reg.ZL_LINK_CFG h],
     decide (e.loadDen h * 1300 ≤ 9 * 12 * 128 * laneRate (e.f (Reg.ZL_LINK_CFG h) 0 2) * 1000000000 * e.den h)⟩]

/-- R374 of one TRANSMIT head; RATE changes only while it is DISABLED. -/
def linkChecks (s : State) (e : CfgEnv) (h : Nat) : List Check :=
  let tx := decide (e.f (Reg.PAGE_ROLE (headBase h)) 0 8 = 1)
  let r := laneRate (e.f (Reg.ZL_LINK_CFG h) 0 2)
  let bpl := e.period h / e.vTot h * r / 130
  let caps := fun g => s.b (Reg.SB_CAPS_RESULT h g) 8
  [⟨[Reg.HEAD_FIELD_TIMING h, Reg.HEAD_V_LINES h, Reg.HEAD_H_ACTIVE h, Reg.OUT_OUT_CFG h, Reg.ZL_LINK_CFG h],
     !tx || (List.range 12).all fun g => decide (10 * (dataBlocks g (e.w h) (e.depth h) + 4) ≤ 9 * bpl)⟩,
   ⟨[Reg.OUT_OUT_CFG h],
     !tx || (List.range 12).all fun g => !caps g || s.b (Reg.SB_CAPS h g) (16 + e.f (Reg.OUT_OUT_CFG h) 0 2)⟩,
   ⟨[Reg.HEAD_H_ACTIVE h],
     !tx || (List.range 12).all fun g => !caps g || decide (groupW g (e.w h) = s.f (Reg.SB_CAPS h g + 4) 0 16)⟩,
   ⟨[Reg.ZL_LINK_CFG h], decide (headState s h = 0 ∨ fld (e.old (Reg.ZL_LINK_CFG h)) 0 2 = e.f (Reg.ZL_LINK_CFG h) 0 2)⟩]

/-- Optic geometry: COLS and ROWS. -/
def CfgEnv.geom (e : CfgEnv) : Nat × Nat := (e.f Reg.OPT_OPT_GEOM 0 9, e.f Reg.OPT_OPT_GEOM 16 8)

/-- R261, R266 and R284 of one head. -/
def mapChecks (s : State) (e : CfgEnv) (h : Nat) : List Check :=
  let sel := e.f (Reg.RGU_MAP_SEL h) 0 2
  let m := bankHdr s h sel
  let on := decide (sel < 2)
  let vm := e.f (Reg.RMAP_VARIANT_MODE h) 0 2
  [⟨[Reg.RGU_MAP_SEL h], decide (sel ≠ 2) && (!on || decide (bankState s h sel = 2))⟩,
   ⟨[Reg.RGU_MAP_SEL h, Reg.HEAD_H_ACTIVE h, Reg.HEAD_V_LINES h], !on || decide (m.w = e.w h ∧ m.h = e.vAct h)⟩,
   ⟨[Reg.RGU_MAP_SEL h, Reg.OPT_OPT_GEOM], !on || !e.feat 4 || decide (m.cols = 0 ∨ (m.cols, m.rows) = e.geom)⟩,
   ⟨[Reg.RMAP_VARIANT_MODE h], decide (vm ≠ 3)⟩,
   ⟨[Reg.RMAP_VARIANT_MODE h, Reg.RGU_MAP_SEL h],
     !e.feat 4 || !on || decide (vm = 1) || decide (bankState s h sel ≠ 2) || s.b (Reg.RGU_BANK_STATUS h sel) 3⟩,
   ⟨[Reg.RGU_RGU_CFG h], inRange (e.f (Reg.RGU_RGU_CFG h) 8 7) 1 64⟩,
   ⟨[Reg.OUT_OUT_CFG h], decide (e.f (Reg.OUT_OUT_CFG h) 0 2 ≠ 3 ∧ e.f (Reg.OUT_OUT_CFG h) 4 2 ≠ 3)⟩]

/-! ### Stores and planes -/

/-- Unordered pairs of numbers below `n`. -/
def pairs (n : Nat) : List (Nat × Nat) := (List.range n).flatMap fun i => (List.range i).map fun j => (j, i)

/-- KIND of a store. -/
def CfgEnv.kind (e : CfgEnv) (n : Nat) : Nat := e.f (Reg.INGEST_STORE_CFG n) 0 2

/-- Head `h` is in HEADS of a store. -/
def CfgEnv.shows (e : CfgEnv) (n h : Nat) : Bool := e.b (Reg.INGEST_STORE_CFG n) (8 + h)

/-- LAYER of a FLAT store. -/
def CfgEnv.layer (e : CfgEnv) (n : Nat) : Nat := e.f (Reg.INGEST_STORE_CFG n) 12 3

/-- Layer `k` of head `h` is a store layer (R300). -/
def CfgEnv.storeLayer (e : CfgEnv) (h k : Nat) : Bool :=
  (List.range 16).any fun n => decide (e.kind n = 3) && e.shows n h && decide (e.layer n = k)

/-- Layer `k` of head `h` is depth-placed (R310, R311). -/
def CfgEnv.depthPlaced (e : CfgEnv) (h k : Nat) : Bool :=
  e.b (Reg.LAYER_LAYER_CFG h k) 8 && decide (k ≠ e.f (Reg.RGU_RGU_CFG h) 0 3) &&
  (e.storeLayer h k || decide (e.f (Reg.LAYER_LAYER_CFG h k) 0 3 = 1))

/-- The number of depth-placed layers of a head. -/
def CfgEnv.depthLayers (e : CfgEnv) (h : Nat) : Nat := ((List.range 8).filter (e.depthPlaced h)).length

/-- R283 with R311: plane steps per ray of a head that store `n` feeds, within 153.6 G per second. -/
def planeOk (e : CfgEnv) (h : Nat) (plane : Bool) : Bool :=
  decide (e.subpixDen h * ((if plane then e.f (Reg.RGU_RGU_CFG h) 8 7 else 0) + e.depthLayers h) ≤ 153600000000 * e.den h)

/-- The time from a head's latch point to the start of the following field (R177). -/
def CfgEnv.latchLead (e : CfgEnv) (h : Nat) : Nat :=
  e.period h - e.latchLine h * e.period h / e.vTot h - e.f (Reg.HEAD_LINE_SKEW h) 0 16

/-- R301: a FLAT store does not name the RGU layer of head `h`. -/
def flatRgu (e : CfgEnv) (h n : Nat) : Check :=
  ⟨[Reg.INGEST_STORE_CFG n, Reg.RGU_RGU_CFG h],
    decide (e.kind n ≠ 3) || !e.shows n h || decide (e.layer n ≠ e.f (Reg.RGU_RGU_CFG h) 0 3)⟩

/-- R177 and R283 of one store. -/
def storeChecks (s : State) (e : CfgEnv) (n : Nat) : List Check :=
  let cfg := Reg.INGEST_STORE_CFG n
  let lo := Reg.INGEST_STORE_BASE_LO n
  let hi := Reg.INGEST_STORE_BASE_HI n
  let st := Reg.INGEST_STORE_STRIDE n
  let k := e.kind n
  let ok0 := fld (e.old cfg) 0 2
  [⟨[cfg], (decide (k ≠ 1) || e.feat 1) && (decide (k ≠ 2) || e.feat 2)⟩,
   ⟨[cfg], decide (k = 0) || inRange (e.f cfg 4 4) 3 8⟩,
   ⟨[lo], decide (e.f lo 0 16 = 0)⟩,
   ⟨[cfg, lo, hi, st],
     decide (k = 0 ∨ e.c64 lo hi + e.f cfg 4 4 * ((e.c st).toNat * 2 ^ 20) ≤ usableTop s)⟩,
   ⟨[Reg.INGEST_MAX_AHEAD n], decide (1000000 ≤ (e.c (Reg.INGEST_MAX_AHEAD n)).toNat)⟩,
   ⟨[cfg], decide (ok0 = 0 ∨ k = 0 ∨ (e.c cfg &&& 0x7FF3) = (e.old cfg &&& 0x7FF3))⟩,
   ⟨[lo, hi, cfg], decide (ok0 = 0 ∨ k = 0 ∨ (e.c lo = e.old lo ∧ e.c hi = e.old hi))⟩,
   ⟨[st, cfg], decide (ok0 = 0 ∨ k = 0 ∨ e.c st = e.old st)⟩] ++
  (List.range 4).flatMap fun h =>
    [⟨[cfg, Reg.INGEST_DECODE_LEAD n, Reg.HEAD_LATCH_LINE h, Reg.HEAD_LINE_SKEW h] ++ timingParts h,
       decide (k = 0) || !e.shows n h ||
         decide (e.latchLead h + 200000 ≤ (e.c (Reg.INGEST_DECODE_LEAD n)).toNat)⟩,
     ⟨[cfg, Reg.HEAD_H_ACTIVE h, Reg.RGU_RGU_CFG h] ++ timingParts h,
       decide (k ≠ 2) || !e.shows n h || planeOk e h true⟩,
     flatRgu e h n]

/-- R301: two FLAT stores name one layer of head `h`. -/
def CfgEnv.flatClash (e : CfgEnv) (h m n : Nat) : Bool :=
  e.shows m h && e.shows n h && decide (e.kind m = 3 ∧ e.kind n = 3 ∧ e.layer m = e.layer n)

/-- R271 and R301: no two scene stores of one head, no two store layers on one layer. -/
def storePair (e : CfgEnv) (m n : Nat) : Check :=
  let scene := fun k => decide (k = 1 ∨ k = 2)
  ⟨[Reg.INGEST_STORE_CFG m, Reg.INGEST_STORE_CFG n],
    (List.range 4).all fun h => !((e.shows m h && e.shows n h && scene (e.kind m) && scene (e.kind n)) || e.flatClash h m n)⟩

/-- The STORE_CFG of every store. -/
def storeCfgs : List Nat := (List.range 16).map Reg.INGEST_STORE_CFG

/-- The plane-step rule for a head without a plane-stack store (R311). -/
def depthCheck (e : CfgEnv) (h : Nat) : Check :=
  ⟨[Reg.HEAD_H_ACTIVE h, Reg.RGU_RGU_CFG h] ++ storeCfgs ++ timingParts h, planeOk e h false⟩

/-! ### Layers and writeback -/

/-- R301 of head `h`. -/
def flatChecks (e : CfgEnv) (h : Nat) : List Check :=
  ((List.range 16).map (flatRgu e h)) ++
  ((pairs 16).map fun p => ⟨[Reg.INGEST_STORE_CFG p.1, Reg.INGEST_STORE_CFG p.2], !e.flatClash h p.1 p.2⟩)

/-- R304's ranges, R310, R311 and the register ranges of R331 for layer `k`. -/
def layerChecks (e : CfgEnv) (h k : Nat) : List Check :=
  let cfg := Reg.LAYER_LAYER_CFG h k
  let all := [cfg, Reg.RGU_RGU_CFG h] ++ storeCfgs
  let src := e.f cfg 0 3
  let pos := fun lo => let v := sfld (e.c (Reg.LAYER_POS h k)) lo 16; decide (-16384 ≤ v ∧ v ≤ 16383)
  let depth := e.b cfg 8 && decide (k ≠ e.f (Reg.RGU_RGU_CFG h) 0 3)
  let pat := decide (src = 4)
  [⟨[cfg], decide (src ≤ 4) && (!pat || e.feat 18)⟩,
   ⟨all, !depth || (e.feat 3 && (e.storeLayer h k || decide (src = 1)))⟩,
   ⟨all, !depth || decide (e.depthLayers h ≤ 4)⟩,
   ⟨all ++ [Reg.HEAD_H_ACTIVE h] ++ timingParts h, !depth ||
     (((List.range 16).all fun n => !(e.shows n h && decide (e.kind n = 2)) || planeOk e h true) && planeOk e h false)⟩,
   ⟨[Reg.LAYER_POS h k], pos 0 && pos 16⟩,
   ⟨[Reg.LAYER_SIZE h k], inRange (e.f (Reg.LAYER_SIZE h k) 0 16) 1 16384 && inRange (e.f (Reg.LAYER_SIZE h k) 16 16) 1 16384⟩,
   ⟨[Reg.LAYER_DESC_LO h k], decide (e.f (Reg.LAYER_DESC_LO h k) 0 6 = 0)⟩,
   ⟨[Reg.LAYER_DEPTH_PAR h k, cfg, Reg.RGU_RGU_CFG h], !depth || decide ((sfld (e.c (Reg.LAYER_DEPTH_PAR h k)) 16 16).natAbs ≤ 4096)⟩,
   ⟨[Reg.LAYER_PATTERN h k], !pat || inRange (e.f (Reg.LAYER_PATTERN h k) 0 4) 1 6⟩,
   ⟨[Reg.LAYER_PATTERN h k], decide (e.f (Reg.LAYER_PATTERN h k) 4 4 ≤ 12) && inRange (e.f (Reg.LAYER_PATTERN h k) 24 8) 1 255⟩]

/-- R325: LB of a width. -/
def wbLineBytes (width : Nat) : Nat := 3 * ((3 * width + 1) / 2)

/-- R329, R332 for the writeback registers. -/
def wbChecks (s : State) (e : CfgEnv) (h : Nat) : List Check :=
  let cfg := Reg.HEAD_WB_CFG h
  let en := e.b cfg 0
  let comp := e.b cfg 3
  let tap := e.f cfg 1 2
  let role := e.f (Reg.PAGE_ROLE (headBase h)) 0 8
  let r := e.f (Reg.HEAD_WB_RING h) 0 13
  let nb := e.f (Reg.HEAD_WB_NBUF h) 0 5
  let stride := (e.c (Reg.HEAD_WB_STRIDE h)).toNat * 2 ^ 20
  let pitch := (e.c (Reg.HEAD_WB_PITCH h)).toNat
  let lo := Reg.HEAD_WB_BASE_LO h
  let hi := Reg.HEAD_WB_BASE_HI h
  [⟨[cfg], decide (tap ≠ 3)⟩,
   ⟨[lo], decide (e.f lo 0 16 = 0)⟩,
   ⟨[cfg], !en || (if role = 2 then decide (tap = 2) else decide (role = 1 ∧ tap ≠ 2))⟩,
   ⟨[cfg], !en || !comp || e.feat 10⟩,
   ⟨[cfg, Reg.HEAD_WB_RING h], !en || (ringEnabled s r && decide (ringType s r = 0x04 ∧ ringOwner s r = (0x40, h)))⟩,
   ⟨[cfg, Reg.HEAD_WB_NBUF h], !en || inRange nb 2 16⟩,
   ⟨[cfg, Reg.HEAD_WB_PITCH h, Reg.HEAD_H_ACTIVE h], !en || comp || decide (pitch % 64 = 0 ∧ wbLineBytes (e.w h) ≤ pitch)⟩,
   ⟨[cfg, Reg.HEAD_WB_PITCH h, Reg.HEAD_WB_STRIDE h, Reg.HEAD_V_LINES h], !en || comp || decide (pitch * e.vAct h ≤ stride)⟩,
   ⟨[cfg, lo, hi, Reg.HEAD_WB_STRIDE h, Reg.HEAD_WB_NBUF h], !en || decide (e.c64 lo hi + nb * stride ≤ usableTop s)⟩]

/-- The rules of R311 and R329 that a commit of other registers than shadows can break. -/
def shadowChecks (s : State) (e : CfgEnv) (h : Nat) : List Check :=
  (((List.range 8).flatMap (layerChecks e h)) ++ wbChecks s e h).filter fun k => k.parts.any fun a => !isRws a

/-! ### Rails, gates and the optic layer -/

/-- TARGET and limits are signed mV. -/
def mvOf (w : Word) : Int := w.toInt

/-- ILIM_MAX of a rail in the rail record (R402, R563). -/
def ilimMax (s : State) (r : Nat) : Nat := leNat ((s.keeper.record.drop (0x10 + 32 * r)).take 4)

/-- A TARGET meets R401. -/
def targetOk (r : Nat) (t : Int) : Bool :=
  let got := railRange r
  let lo := got.1
  let hi := got.2.1
  let st := got.2.2
  decide (lo ≤ t ∧ t ≤ hi ∧ t % st = 0)

/-- R402, R403 of one rail. -/
def railChecks (s : State) (e : CfgEnv) (r : Nat) : List Check :=
  let t := mvOf (e.c (Reg.RAIL0_TARGET r))
  [⟨[Reg.RAIL0_TARGET r], targetOk r t && decide (mvOf (s.rd (Reg.RAIL0_LIMIT_MIN r)) ≤ t ∧ t ≤ mvOf (s.rd (Reg.RAIL0_LIMIT_MAX r)))⟩,
   ⟨[Reg.RAIL0_ILIM r], inRange (e.c (Reg.RAIL0_ILIM r)).toNat 1 (min (ilimMax s r) (railMaxCurrent r))⟩]

/-- R422 of one head. -/
def gateChecks (e : CfgEnv) (h : Nat) : List Check :=
  let cfg := Reg.RAIL1_GATE_CFG h
  let edge := Reg.RAIL1_GATE_EDGE h
  let gst := Reg.RAIL1_GST_CFG h
  let lp := e.period h / e.vTot h
  [⟨[cfg], inRange (e.f cfg 0 5) 1 16 && inRange (e.f cfg 8 5) 1 (e.f cfg 0 5)⟩,
   ⟨[edge] ++ timingParts h, decide (e.f edge 0 16 < lp ∧ e.f edge 16 16 < lp)⟩,
   ⟨[cfg, edge], decide (e.f cfg 8 5 ≠ 1 ∨ e.f edge 0 16 < e.f edge 16 16)⟩,
   ⟨[gst], decide (1 ≤ e.f gst 0 16 ∧ 1 ≤ e.f gst 16 8 ∧ e.f gst 16 8 ≤ e.f gst 0 16)⟩,
   ⟨[gst, Reg.HEAD_V_LINES h], decide (e.f gst 0 16 + e.vAct h ≤ e.vTot h)⟩,
   ⟨[Reg.RAIL1_GATE_OFFSET h], decide ((sfld (e.c (Reg.RAIL1_GATE_OFFSET h)) 0 16).natAbs ≤ 10000)⟩]

/-- R433, R449 and R456. -/
def opticChecks (s : State) (e : CfgEnv) : List Check :=
  [⟨[Reg.OPT_OPT_GEOM], inRange (e.f Reg.OPT_OPT_GEOM 0 9) 1 320 && inRange (e.f Reg.OPT_OPT_GEOM 16 8) 1 160⟩,
   ⟨[Reg.OPT_OPT_GEOM], decide (e.c Reg.OPT_OPT_GEOM = e.old Reg.OPT_OPT_GEOM) ||
     (!enabled s 0x84000 && decide (s.f Reg.OPT_OPT_STATUS 0 2 = 0))⟩,
   ⟨[Reg.OPT_MAP_BASE_LO], decide (e.f Reg.OPT_MAP_BASE_LO 0 12 = 0)⟩,
   ⟨[Reg.OPT_MAP_BASE_LO, Reg.OPT_MAP_BASE_HI],
     decide (e.c64 Reg.OPT_MAP_BASE_LO Reg.OPT_MAP_BASE_HI + 160 * 256 ≤ systemTop s)⟩]

/-- Every rule of R340 and R422 on head `h`'s timing (R565 checks a profile by them). -/
def headChecks (e : CfgEnv) (h : Nat) : List Check := timingChecks e h ++ gateChecks e h

/-- Every rule on a resulting configuration (R116). -/
def allChecks (s : State) (e : CfgEnv) : List Check :=
  ((List.range 4).flatMap fun h => headChecks e h ++ linkChecks s e h ++ mapChecks s e h ++ [depthCheck e h] ++ shadowChecks s e h) ++
  ((pairs 4).flatMap fun p => groupPair e p.1 p.2) ++
  ((List.range 16).flatMap (storeChecks s e)) ++ ((pairs 16).map fun p => storePair e p.1 p.2) ++
  ((List.range 13).flatMap (railChecks s e)) ++ opticChecks s e

/-- The lowest address of a list. -/
def lowest : List Nat → Option Nat
  | [] => none
  | a :: t => match lowest t with | none => some a | some b => some (min a b)

/-- The lowest register written that takes part in a rule that fails. A rule in which no written register takes part is
not judged (R60, R321). -/
def offender (l : List Check) (written : Nat → Bool) : Option Nat :=
  lowest (l.filterMap fun k => if k.ok then none else lowest (k.parts.filter written))

/-- The value of a register in effect: a shadow's latest commit, any other register's stored value. -/
def inEffect (s : State) (a : Nat) : Word := if isRws a then s.inEff a else s.rd a

/-- The assignment in effect overlaid with a table of writes. -/
def overlay (s : State) (w : Tab Word) : CfgEnv := ⟨fun a => tabGet (inEffect s) w a, inEffect s, s.feat⟩

/-- A table of writes laid over another. -/
def lay (base w : Tab Word) : Tab Word := w.foldl (fun t p => tabInsert (tabErase t p.1) p.1 p.2) base

/-- Every check of the writes `w` over those of `base`: each value's own range, then every rule. -/
def writeChecks (s : State) (base w : Tab Word) : List Check :=
  (w.map fun p => ⟨[p.1], valOk p.1 p.2⟩) ++ allChecks s (overlay s (lay base w))

/-- The first offending register of a direct write `w` (R60): it is judged only by the rules in which it takes part. -/
def badWrite (s : State) (base w : Tab Word) : Option Nat :=
  offender (writeChecks s base w) fun a => w.any fun p => decide (p.1 = a)

/-- The register to which a failing rule of a COMMIT is attributed: the lowest staged one that takes part in it (R116). DESIGN
CHOICE (log entry 14): the lowest that takes part, where none is staged. -/
def attributed (staged : Nat → Bool) (k : Check) : Option Nat :=
  match lowest (k.parts.filter staged) with
  | some a => some a
  | none => lowest k.parts

/-- A register whose value comes with the panel's profile, in a module whose journal holds none (R563, R566). -/
def noProfile (s : State) (a : Nat) : Bool :=
  s.keeper.record.isEmpty && decide ((0x80000 ≤ a ∧ a < 0x82000) ∨ a = Reg.OPT_OPT_GEOM)

/-- The first offending register of a COMMIT of `w` over the writes of `base` (R6, R116): the resulting configuration is judged by
every rule, in ascending offset. DESIGN CHOICE (log entry 14): a register that has no value for want of a profile is judged only
when it is staged. -/
def badCommit (s : State) (base w : Tab Word) : Option Nat :=
  let staged := fun a => w.any fun p => decide (p.1 = a)
  lowest ((writeChecks s base w).filterMap fun k =>
    if k.ok || (k.parts.any (noProfile s) && !k.parts.any staged) then none else attributed staged k)

end Sys2Proof.Machine
end

