-- ==== Sys2Proof/Machine/Wire.lean ====
section
/-!
DEFINITION. The blocks of the Zalen link (R366 to R373): control blocks, scrambling, SKEW_MARKs and block slots, line packets, and
what a receiver makes of the blocks it sees (R369, R371, R375). The block slots of a head are counted from one device time on.
-/
namespace Sys2Proof.Machine

/-! ### Scrambling (R368) -/

/-- zl_seed() of R368. -/
def zlSeed (lane : Nat) : Word := (0x12345678#32 + w32 lane * 0x00876543#32) &&& 0x7FFFFFFF

/-- One scrambled bit of R368: the next state and the key bit. -/
def zlBit (x : Word) : Word × Bool :=
  let fb := x.getLsbD 30 != x.getLsbD 27
  (((x <<< 1) ||| w32 (b2n fb)) &&& 0x7FFFFFFF, fb)

/-- zl_scramble() of R368: a payload byte, least significant bit first. -/
def zlScramble (x : Word) (b : Byte) : Word × Byte :=
  (List.range 8).foldl (fun p i =>
    let q := zlBit p.1
    (q.1, p.2 ||| BitVec.ofNat 8 (b2n (b.getLsbD i != q.2) * 2 ^ i))) (x, 0)

/-- Scrambles, or descrambles, payload bytes in order. -/
def zlBytes (x : Word) : List Byte → Word × List Byte
  | [] => (x, [])
  | b :: l =>
    let p := zlScramble x b
    let q := zlBytes p.1 l
    (q.1, p.2 :: q.2)

/-- The state after `n` scrambled bits. -/
def zlAdvance : Nat → Word → Word
  | 0, x => x
  | n + 1, x => zlAdvance n (zlBit x).1

/-! ### Control blocks (R367, R371) -/

/-- The headers of data and control blocks (R367). -/
def dataHeader : Nat := 1
def controlHeader : Nat := 2

/-- A control block from its bytes 0 to 11; bytes 12 to 15 hold their CRC. -/
def controlBlock (b : List Byte) : Block :=
  let p := (b ++ List.replicate 12 0).take 12
  ⟨controlHeader, p ++ wordsBytes [crc32c p]⟩

/-- The control blocks of R371. -/
def idleBlock : Block := controlBlock [0x1E]
def skewMark (count lane rate : Nat) : Block := controlBlock ([0x2D] ++ leBytes 4 count ++ leBytes 1 lane ++ leBytes 1 rate)
def trainABlock (phys h : Nat) : Block := controlBlock ([0x33] ++ leBytes 1 phys ++ leBytes 1 h ++ List.replicate 9 0x0F)
def trainBBlock (lane : Nat) (inv : Bool) : Block := controlBlock ([0x4B] ++ leBytes 1 lane ++ leBytes 1 (b2n inv))

/-- FRAME_START of a field, with the gap lane (R371, R386). -/
def frameStartBlock (F : FieldSt) (h gap : Nat) : Block :=
  controlBlock ([0x55] ++ leBytes 4 F.num.toNat ++ leBytes 2 (F.hActive h) ++ leBytes 2 (F.vActive h) ++
    leBytes 1 (F.f (Reg.OUT_OUT_CFG h) 0 2 + 4 * b2n (F.b (Reg.OUT_POL_CTRL h) 4) + 8 * F.f (Reg.OUT_POL_CTRL h) 0 2) ++ leBytes 1 gap)

/-- LINE_START. -/
def lineStartBlock (y g : Nat) (pol rep blank : Bool) (blocks : Nat) (field : Word) : Block :=
  controlBlock ([0x66] ++ leBytes 2 y ++ leBytes 1 (g + 16 * b2n pol + 32 * b2n rep + 64 * b2n blank) ++ leBytes 2 blocks ++
    leBytes 2 field.toNat)

/-- LINE_END. -/
def lineEndBlock (y g : Nat) (crc : Word) (bytes : Nat) : Block :=
  controlBlock ([0x78] ++ leBytes 2 y ++ leBytes 1 g ++ leBytes 4 crc.toNat ++ leBytes 2 bytes)

/-! ### Line packets (R372, R373) -/

/-- pack_line() of R372: values of `b` bits into payload bytes. -/
def packLine (vals : List Nat) (b bytes : Nat) : List Byte :=
  let bits := vals.flatMap fun v => (List.range b).map fun i => decide (v / 2 ^ i % 2 = 1)
  (List.range bytes).map fun k =>
    BitVec.ofNat 8 ((List.range 8).foldl (fun a i => a + b2n (bits.getD (8 * k + i) false) * 2 ^ i) 0)

/-- The payload bytes of group `g` on a line (R372). -/
def groupPayload (F : FieldSt) (h g : Nat) (words : List Nat) : List Byte :=
  let w := F.hActive h
  let b := panelDepth F h
  packLine ((words.drop (3 * groupX0 g w)).take (3 * groupW g w)) b (payloadBytes g w b)

/-- Data blocks of payload bytes; bytes after the last are 0. -/
def dataBlocksOf (n : Nat) (p : List Byte) : List Block :=
  (List.range n).map fun i => ⟨dataHeader, ((p.drop (16 * i)).take 16 ++ List.replicate 16 0).take 16⟩

/-- The packet of group `g` for a line (R373): line data, REPEAT, or, without a line, a blank line. -/
def groupPacket (F : FieldSt) (h g y : Nat) (b : Option BandLine) : List Block :=
  match b with
  | none => [lineStartBlock y g false false true 0 F.num]
  | some b =>
    if b.rep then [lineStartBlock y g b.pol true false 0 F.num]
    else
      let p := groupPayload F h g b.words
      let n := dataBlocks g (F.hActive h) (panelDepth F h)
      [lineStartBlock y g b.pol false false n F.num] ++ dataBlocksOf n p ++ [lineEndBlock y g (crc32c p) p.length]

/-! ### Block slots (R370) -/

/-- The first block slot that begins at or after device time `t`, where slot 0 began at `t0` and a block takes 130 UI. -/
def slotFrom (t0 t : Int) (code : Nat) : Nat := (((t - t0) * (laneRate code : Nat) + 129) / 130).toNat

/-- The scrambler of a lane before slot `k` (R368): set after the last SKEW_MARK, or in slot `seed` where TRAIN_B started after it, it has
passed the payloads since. -/
def scrBefore (lane seed k : Nat) : Word :=
  if seed ≤ k / 4096 * 4096 then zlAdvance (128 * (k % 4096 - 1)) (zlSeed lane) else zlAdvance (128 * (k - seed)) (zlSeed lane)

/-- The blocks that a lane sends from slot `k` on for a packet: a SKEW_MARK takes precedence in its slot. -/
def laneSlots (lane rate : Nat) : Nat → Word → List Block → List Block
  | _, _, [] => []
  | k, x, b :: l =>
    if k % 4096 = 0 then
      let p := zlBytes (zlSeed lane) b.payload
      skewMark (k / 4096) lane rate :: ⟨b.header, p.2⟩ :: laneSlots lane rate (k + 2) p.1 l
    else
      let p := zlBytes x b.payload
      ⟨b.header, p.2⟩ :: laneSlots lane rate (k + 1) p.1 l

/-- A block as an inverted lane sends it (R379). -/
def Block.inverted (b : Block) : Block := ⟨3 - b.header, b.payload.map fun x => ~~~x⟩

/-- A packet on a lane from slot `k` on, as serialised. -/
def laneBlocks (lane rate seed k : Nat) (inv : Bool) (l : List Block) : List Block :=
  let out := laneSlots lane rate k (scrBefore lane seed k) l
  if inv then out.map Block.inverted else out

/-- The block is TRAIN_A, which is not scrambled and leaves no slot to SKEW_MARKs (R368, R377). -/
def Block.isTrainA (b : Block) : Bool := decide (b.payload.head? = some 0x33#8)

/-- The first `n` blocks of a stream of block `b` from slot `k` on, with the scrambler at `x` (R368, R370): a SKEW_MARK in every slot whose
index is a multiple of 4,096, behind which the scrambler is set anew. -/
def streamBlocks (lane rate : Nat) (b : Block) : Nat → Nat → Word → List Block
  | 0, _, _ => []
  | n + 1, k, x =>
    if Block.isTrainA b then b :: streamBlocks lane rate b n (k + 1) x
    else if k % 4096 = 0 then skewMark (k / 4096) lane rate :: streamBlocks lane rate b n (k + 1) (zlSeed lane)
    else
      let p := zlBytes x b.payload
      ⟨b.header, p.2⟩ :: streamBlocks lane rate b n (k + 1) p.1

/-! ### PRBS (R396) -/

/-- Length and tap of a POLY. -/
def prbsPoly (poly : Nat) : Nat × Nat := [(7, 6), (15, 14), (23, 18), (31, 28)].getD poly (31, 28)

/-- prbs_next() of R396: the next register and the bit. -/
def prbsNext (poly reg : Nat) : Nat × Bool :=
  let p := prbsPoly poly
  let fb := reg.testBit (p.1 - 1) != reg.testBit (p.2 - 1)
  ((2 * reg + b2n fb) % 2 ^ p.1, fb)

/-- `n` bits of a generator from a register on. -/
def prbsBits (poly : Nat) (inv : Bool) : Nat → Nat → List Bool
  | 0, _ => []
  | n + 1, reg =>
    let p := prbsNext poly reg
    (p.2 != inv) :: prbsBits poly inv n p.1

/-- The first `n` bits that a generator sends: it starts from all ones. -/
def prbsSent (poly : Nat) (inv : Bool) (n : Nat) : List Bool := prbsBits poly inv n (2 ^ (prbsPoly poly).1 - 1)

/-! ### A receiver (R369, R371, R375) -/

/-- A header is valid (R367). -/
def headerOk (b : Block) : Bool := decide (b.header = 1 ∨ b.header = 2)

/-- The CRC of a control payload matches. -/
def controlOk (p : List Byte) : Bool := decide (p.length = 16 ∧ p.drop 12 = wordsBytes [crc32c (p.take 12)])

/-- The types of R371. -/
def controlType (t : Nat) : Bool := [0x1E, 0x2D, 0x33, 0x4B, 0x55, 0x66, 0x78].contains t

/-- A packet that does not become valid. -/
def RxOpen.invalid (q : RxOpen) : RxPacket := ⟨q.line, q.group, false, false, false, q.pol, []⟩

/-- The packet in progress ends without its LINE_END. -/
def LaneSt.cut (x : LaneSt) : List RxPacket := x.pkt.toList.map RxOpen.invalid

/-- A receiver without block lock hunts, and its descrambler is not synchronised (R369). -/
def LaneSt.hunts (x : LaneSt) : LaneSt := { x with lock := false, good := 0, win := [], scr := none, pkt := none }

/-- Both ports that a lane stands for count. -/
def LaneSt.counts (x : LaneSt) (f : PortCount → PortCount) : LaneSt := { x with a := f x.a, b := f x.b }

/-- Block lock (R369): 64 consecutive valid headers gain it, 16 invalid ones in a window of 256 lose it, and with it the packet in
progress. -/
def LaneSt.header (x : LaneSt) (ok : Bool) : LaneSt × List RxPacket :=
  if x.lock then
    let w := ((!ok) :: x.win).take 256
    if 16 ≤ (w.filter id).length then (x.hunts.counts fun c => { c with lost := true }, x.cut)
    else ({ x with win := w }, [])
  else if !ok then ({ x with good := 0 }, [])
  else if 64 ≤ x.good + 1 then ({ x.hunts with lock := true }, [])
  else ({ x with good := x.good + 1 }, [])

/-- R375: LINE_END `p` closes the packet; `bytes` is PAYLOAD_BYTES of its group. -/
def RxOpen.close (q : RxOpen) (p : List Byte) (bytes : Nat) : RxPacket :=
  let d := q.data.take bytes
  let ok := decide (q.data.length = 16 * q.blocks ∧ leAt p 1 2 = q.line ∧ leAt p 3 1 % 16 = q.group ∧ leAt p 8 2 = bytes ∧
    leAt p 4 4 = (crc32c d).toNat)
  if ok then ⟨q.line, q.group, true, false, false, q.pol, d⟩ else q.invalid

/-- A LINE_START opens a packet, or is one. -/
def LaneSt.begin_ (x : LaneSt) (p : List Byte) : LaneSt × List RxPacket :=
  let f := leAt p 3 1
  let y := leAt p 1 2
  let g := f % 16
  let pol := decide (f / 16 % 2 = 1)
  let rep := decide (f / 32 % 2 = 1)
  let blank := decide (f / 64 % 2 = 1)
  if rep || blank then ({ x with pkt := none }, x.cut ++ [⟨y, g, decide (leAt p 4 2 = 0), rep, blank, pol, []⟩])
  else ({ x with pkt := some ⟨y, g, pol, leAt p 4 2, []⟩ }, x.cut)

/-- A descrambled control block whose CRC matches. `bytes` gives PAYLOAD_BYTES by group. -/
def LaneSt.control (x : LaneSt) (p : List Byte) (bytes : Nat → Nat) : LaneSt × List RxPacket :=
  let t := leAt p 0 1
  if t = 0x4B then ({ x with seen := some (leAt p 1 1) }, [])
  else if t = 0x55 then ({ x with pkt := none }, x.cut)
  else if t = 0x66 then x.begin_ p
  else if t = 0x78 then
    match x.pkt with
    | some q => ({ x with pkt := none }, [q.close p (bytes q.group)])
    | none => (x, [])
  else (x, [])

/-- A block with a valid header at a locked receiver, where TRAIN_A shows in either polarity and a SKEW_MARK shows that the signal does not
arrive inverted (R371, R379, R380), which begins at `ui`: the lane, the line packets it ends, and whether it is
counted as a discarded control block (R371). -/
def LaneSt.block (x : LaneSt) (b : Block) (ui : Nat) (bytes : Nat → Nat) : LaneSt × List RxPacket × Bool :=
  let raw := b.payload
  let neg := raw.map fun v => ~~~v
  if b.header = 2 ∧ controlOk raw ∧ leAt raw 0 1 = 0x2D then
    ({ x with scr := some (zlSeed (leAt raw 5 1)), seen := some (leAt raw 5 1), mark := some (leAt raw 1 4, ui), inv := false }, [], false)
  else if b.header = 2 ∧ controlOk raw ∧ leAt raw 0 1 = 0x33 then ({ x with inv := false, seen := some (leAt raw 1 1) }, [], false)
  else if b.header = 1 ∧ controlOk neg ∧ leAt neg 0 1 = 0x33 then ({ x with inv := true, seen := some (leAt neg 1 1) }, [], false)
  else match x.scr with
    | none => (x, [], false)
    | some k =>
      let p := zlBytes k raw
      let x := { x with scr := some p.1 }
      if b.header = 1 then ({ x with pkt := x.pkt.map fun q => { q with data := q.data ++ p.2 } }, [], false)
      else if controlOk p.2 && controlType (leAt p.2 0 1) then
        let r := x.control p.2 bytes
        (r.1, r.2, false)
      else (x, [], true)

end Sys2Proof.Machine
end

