-- ==== Sys2Proof/Machine/Lane.lean ====
section
/-!
DEFINITION. Lanes of the Zalen link: their state and mapping (R376, R386), what they send (R373, R377), orientation (R379), and how
a head's start and stop reach them (R383).
-/
namespace Sys2Proof.Machine

/-! ### Links in State -/

/-- The link of head `h` beyond its registers. -/
def linkOf (s : State) (h : Nat) : LinkSt := tabGet (fun _ => LinkSt.fresh) s.links h

/-- The state with a link's internal part. -/
def putLink (s : State) (h : Nat) (l : LinkSt) : State := { s with links := tabSet (fun _ => LinkSt.fresh) s.links h l }

/-- Lane `n` beyond its registers. -/
def laneOf (s : State) (h n : Nat) : LaneSt := tabGet (fun _ => LaneSt.fresh) (linkOf s h).lanes n

/-- The state with a lane's internal part. -/
def putLane (s : State) (h n : Nat) (x : LaneSt) : State :=
  putLink s h { linkOf s h with lanes := tabSet (fun _ => LaneSt.fresh) (linkOf s h).lanes n x }

/-- LANE_STATUS.STATE (R376). -/
def laneState (s : State) (h n : Nat) : Nat := s.f (Reg.ZL_LANE_STATUS h n) 0 3

/-- The lane role code (R103). -/
def laneRole (s : State) (h n : Nat) : Nat := s.f (Reg.ZL_LANE_ROLE h n) 0 8

/-- The lane is ACTIVE. -/
def laneUp (s : State) (h n : Nat) : Bool := decide (laneState s h n = 5)

/-- SPARE_STATUS.GAP. -/
def gapLane (s : State) (h : Nat) : Nat := s.f (Reg.ZL_SPARE_STATUS h) 0 4

/-- The group that the mapping of R386 gives a lane. -/
def laneGroup (s : State) (h n : Nat) : Option Nat :=
  let i := gapLane s h
  if n < i then some n else if i < n then some (n - 1) else none

/-- The lane that the mapping gives a group. -/
def groupLane (s : State) (h g : Nat) : Nat := if g < gapLane s h then g else g + 1

/-- The group is lost (R389). -/
def groupLost (s : State) (h g : Nat) : Bool := s.b (Reg.ZL_SPARE_STATUS h) (16 + g)

/-- The group that a lane carries: the mapped one, while the lane is ACTIVE and the group is not lost. -/
def carried (s : State) (h n : Nat) : Option Nat :=
  match laneGroup s h n with
  | some g => if laneUp s h n && !groupLost s h g then some g else none
  | none => none

/-- The head is a sideband master (R392). -/
def sbMaster (s : State) (h : Nat) : Bool := s.on && decide (roleCode s (headBase h) = 1)

/-- The lanes of a link. -/
def laneList : List Nat := List.range 13

/-- DESIGN CHOICE (log entry 30): "every configured lane" is every lane to which the mapping gives a group. -/
def allLanesUp (s : State) (h : Nat) : Bool := laneList.all fun n => (laneGroup s h n).isNone || laneUp s h n

/-- Some configured lane of the head is ACTIVE. -/
def anyMappedUp (s : State) (h : Nat) : Bool := laneList.any fun n => (laneGroup s h n).isSome && laneUp s h n

/-- Some lane of the head is ACTIVE. -/
def anyLaneUp (s : State) (h : Nat) : Bool := laneList.any (laneUp s h)

/-! ### What a lane is set up to do (R383, R384) -/

/-- The lane generates; the lane checks (R397). -/
def prbsGens (s : State) (h n : Nat) : Bool :=
  s.b (Reg.ZL_PRBS_CTRL h n) 4 && decide (laneRole s h n = 1 ∨ laneRole s h n = 3 ∨ laneRole s h n = 4)
def prbsChecks (s : State) (h n : Nat) : Bool :=
  s.b (Reg.ZL_PRBS_CTRL h n) 5 && decide (laneRole s h n = 2 ∨ laneRole s h n = 3)

/-- A lane may train: the page and the lane are enabled, the role is TX, RX or SPARE, the head runs or the link is kept, and
no PRBS test is on. Without LANE_SPARING, a transmitting lane 12 stays OFF (R390). -/
def laneTrains (s : State) (h n : Nat) : Bool :=
  let r := laneRole s h n
  (decide (n ≠ 12 ∨ r = 2) || s.feat 13) && s.on && enabled s (zlBase h) && s.b (Reg.ZL_LANE_CTRL h n) 0 && decide (r = 1 ∨ r = 2 ∨ r = 4) &&
  (s.b (Reg.ZL_LINK_CFG h) 4 || decide (headState s h ≠ 0)) && !s.b (Reg.ZL_LANE_STATUS h n) 10

/-- GROUP of every lane and GAP_OK follow the lanes (R386, R398). -/
def showLanes (s : State) (h : Nat) : State :=
  let s := laneList.foldl (fun s n => s.setF (Reg.ZL_LANE_STATUS h n) 12 4 ((carried s h n).getD 15)) s
  s.setB (Reg.ZL_SPARE_STATUS h) 4 (laneUp s h (gapLane s h))

/-! ### Orientation (R379) -/

/-- Lanes 0 and 12, 1 and 11, … change places: registers are indexed by logical lane (R379). `pin` gives the physical lane. -/
def swapLanes (s : State) (h : Nat) (pin : Nat → Nat) : State :=
  let s := (List.range 6).foldl (fun s i =>
    let a := s.rd (Reg.ZL_LANE_STATUS h i)
    let s := (s.wr (Reg.ZL_LANE_STATUS h i) (s.rd (Reg.ZL_LANE_STATUS h (12 - i)))).wr (Reg.ZL_LANE_STATUS h (12 - i)) a
    let x := laneOf s h i
    putLane (putLane s h i (laneOf s h (12 - i))) h (12 - i) x) s
  laneList.foldl (fun s n => s.setF (Reg.ZL_LANE_STATUS h n) 4 4 (pin n)) s

/-- The orientation ends when every lane has left ACTIVE (R379). -/
def clearOrientation (s : State) (h : Nat) : State :=
  if anyLaneUp s h || s.f (Reg.ZL_SPARE_STATUS h) 6 1 = 0 then s
  else
    let s := if s.b (Reg.ZL_SPARE_STATUS h) 5 then swapLanes s h fun n => n else s
    s.setF (Reg.ZL_SPARE_STATUS h) 5 2 0

/-! ### States of a lane (R376, R383) -/

/-- The physical lane that serves logical lane `n` (R379). -/
def physLane (s : State) (h n : Nat) : Nat := if s.b (Reg.ZL_SPARE_STATUS h) 5 then 12 - n else n

/-- The rate code of a lane in a state (R366): code 0 in TRAIN_A, TRAIN_B and CAPS, else RATE. -/
def stageRate (s : State) (h st : Nat) : Nat := if 1 ≤ st ∧ st ≤ 3 then 0 else s.f (Reg.ZL_LINK_CFG h) 0 2

/-- What a transmitting lane sends in a state where no packet is (R373, R377). -/
def stageBlock (s : State) (h n st : Nat) : Option Block :=
  if st = 1 then some (trainABlock (physLane s h n) h)
  else if st = 2 then some (trainBBlock n (s.b (Reg.ZL_LANE_STATUS h n) 8))
  else if 3 ≤ st ∧ st ≤ 5 then some idleBlock
  else none

/-- The block slot that begins next at a rate code (R370). -/
def nextSlot (s : State) (h rate : Nat) : Nat := slotFrom (linkOf s h).slot0 s.now rate

/-- A lane sends a block in every slot from the next on, or nothing: the scrambler goes on (R368), and a corrected lane is inverted from
TRAIN_B on (R379). -/
def laneStream (s : State) (h n rate : Nat) (b : Option Block) : State :=
  let k := nextSlot s h rate
  let inv := s.b (Reg.ZL_LANE_STATUS h n) 8 && !b.any Block.isTrainA
  s.emit (.stream h n rate k (scrBefore n (laneOf s h n).seed k) inv b)

/-- A transmitting lane sends what its state asks for from now on; it says so where that changes from or to silence or to another
block. The scrambler is set when TRAIN_B starts (R368); at another rate it counts slots from the start of the module on (log entry 47). -/
def laneSends (s : State) (h n st : Nat) : State :=
  if laneRole s h n = 2 ∨ (laneState s h n = st ∧ st ≠ 2) then s
  else
    let rate := stageRate s h st
    let s := if st = 2 then putLane s h n { laneOf s h n with seed := nextSlot s h rate }
      else if st = 4 then putLane s h n { laneOf s h n with seed := 0 } else s
    laneStream s h n rate (stageBlock s h n st)

/-- TRAINED_RATE (R398): VALID while a lane is ACTIVE, with the code at which lanes became ACTIVE; else the code at which lanes train
(log entry 47). -/
def showRate (s : State) (h : Nat) : State :=
  if anyLaneUp s h then s.setB (Reg.ZL_TRAINED_RATE h) 4 true
  else
    let c := if laneList.any fun n => decide (laneState s h n = 4) then s.f (Reg.ZL_LINK_CFG h) 0 2 else 0
    s.wr (Reg.ZL_TRAINED_RATE h) (w32 c)

/-- A lane enters a state. Its groups' status reports are forgotten: they described the stage before. -/
def enterLane (s : State) (h n st : Nat) : State :=
  let s := (laneSends s h n st).setF (Reg.ZL_LANE_STATUS h n) 0 3 st
  let s := if st = 7 then s else s.setB (Reg.ZL_LANE_STATUS h n) 3 false
  let l := linkOf s h
  let s := putLink s h { l with status := tabSet (fun _ => []) (tabSet (fun _ => []) l.status n []) (n - 1) [] }
  showRate (putLane s h n { laneOf s h n with at_ := s.now }) h

/-- Detecting begins for every lane that is OFF and may train and has nothing in standby (R383). -/
def lanesWake (s : State) (h : Fin 4) : State :=
  laneList.foldl (fun s n =>
    if laneState s h n = 7 ∧ laneTrains s h n ∧ !s.b (Reg.ZL_LANE_STATUS h n) 9 then enterLane s h n 0 else s) s

/-- A lane goes OFF. -/
def laneOff (s : State) (h n : Nat) : State :=
  let s := putLane (enterLane s h n 7) h n LaneSt.fresh
  let s := s.setB (Reg.ZL_LANE_STATUS h n) 9 false
  (s.setF (Reg.ZL_LANE_STATUS h n) 16 2 0).setB (Reg.ZL_LANE_STATUS h n) 11 false

/-- Lanes in standby that may train resume: they send IDLE again, and those in the RX role listen (R383). -/
def resumeLanes (s : State) (h : Nat) : State :=
  laneList.foldl (fun s n =>
    if s.b (Reg.ZL_LANE_STATUS h n) 9 ∧ laneTrains s h n then
      let s := putLane s h n { laneOf s h n with resume := some s.now }
      if laneRole s h n = 2 then s else laneStream s h n (s.f (Reg.ZL_LINK_CFG h) 0 2) (some idleBlock)
    else s) s

/-- The link at a head enable (R383, R386): GAP is 12, no group is lost, standby lanes resume and the others train. Block slots are
counted from here on unless lanes are sending already (log entry 47). -/
def linkEnable (s : State) (h : Fin 4) : State :=
  let s := (s.setF (Reg.ZL_SPARE_STATUS h) 0 4 12).setF (Reg.ZL_SPARE_STATUS h) 16 12 0
  let t0 := if laneList.all fun n => decide (laneState s h n = 7) then (s.now : Int) else (linkOf s h).slot0
  let s := putLink s h { linkOf s h with fails := [], restore := [], gapBad := none, gapTold := false, slot0 := t0 }
  showLanes (lanesWake (resumeLanes s h) h) h

/-- A lane of a stopped head whose link is not kept (R383): from ACTIVE it enters standby, else it goes OFF. In standby a receiver has no
signal and no block lock. -/
def laneStand (h : Nat) (s : State) (n : Nat) : State :=
  let st := laneState s h n
  if st = 5 then (putLane (enterLane s h n 7) h n { (if laneRole s h n = 2 then (laneOf s h n).hunts else laneOf s h n) with resume := none }).setB (Reg.ZL_LANE_STATUS h n) 9 true
  else if st = 7 then s
  else laneOff s h n

/-- The link when a head has stopped (R383): kept, or ACTIVE lanes in standby and the others OFF. Lanes in standby keep in mind the
orientation with which they will resume. -/
def linkStop (s : State) (h : Fin 4) : State :=
  let s := putLink s h { linkOf s h with fails := [], restore := [] }
  if s.b (Reg.ZL_LINK_CFG h) 4 then s
  else
    let kept := if anyLaneUp s h ∧ s.b (Reg.ZL_SPARE_STATUS h) 6 then some (s.b (Reg.ZL_SPARE_STATUS h) 5) else (linkOf s h).kept
    let s := laneList.foldl (laneStand h) s
    clearOrientation (showLanes (putLink s h { linkOf s h with kept := kept }) h) h

/-- KEEP_LINK has been written while the head is DISABLED (R383): lanes may train from now on, or no longer. -/
def keepLink (s : State) (h : Fin 4) : State :=
  if headState s h ≠ 0 then s
  else if s.b (Reg.ZL_LINK_CFG h) 4 then showLanes (lanesWake (resumeLanes s h) h) h
  else linkStop s h

end Sys2Proof.Machine
end

