-- ==== Sys2Proof/Machine/Sched.lean ====
section
/-!
DEFINITION. The scheduler: slots, arming, outcomes and the scheduler log (R147 to R157). What each action does at its
execution is in Actions.lean.
-/
namespace Sys2Proof.Machine

/-! ### Slots (R147 to R149) -/

/-- SLOT_STATUS.STATE: 0 IDLE, 1 ARMED, 2 EXECUTING. -/
def slotState (s : State) (i : Nat) : Nat := s.f (Reg.SCHED_SLOT_STATUS i) 0 2

/-- SLOT_CTRL.ACTION. -/
def slotAction (s : State) (i : Nat) : Nat := s.f (Reg.SCHED_SLOT_CTRL i) 0 4

/-- SLOT_CTRL.LATE_POLICY is RUN. -/
def slotRuns (s : State) (i : Nat) : Bool := s.b (Reg.SCHED_SLOT_CTRL i) 4

/-- SLOT_CTRL.TARGET. -/
def slotTarget (s : State) (i : Nat) : Nat := s.f (Reg.SCHED_SLOT_CTRL i) 8 8

/-- SLOT_CTRL.EPOCH. -/
def slotEpoch (s : State) (i : Nat) : Nat := s.f (Reg.SCHED_SLOT_CTRL i) 16 16

/-- SLOT_TIME. -/
def slotTime (s : State) (i : Nat) : Nat := s.rd64 (Reg.SCHED_SLOT_TIME_LO i) (Reg.SCHED_SLOT_TIME_HI i)

/-- SLOT_PAYLOAD. -/
def slotPayload (s : State) (i : Nat) : Word := s.rd (Reg.SCHED_SLOT_PAYLOAD i)

/-- The scheduler is enabled: SCHED0.PAGE_CTRL governs it (R147). -/
def schedOn (s : State) : Bool := enabled s 0x11000

/-- The ARMED slots, ascending. -/
def armedSlots (s : State) : List Nat := (List.range 256).filter fun i => decide (slotState s i = 1)

/-- ARMED_COUNT follows the slots. -/
def countArmed (s : State) : State := s.wr Reg.SCHED_ARMED_COUNT (w32 (armedSlots s).length)

/-! ### The log (R157) -/

/-- One record for an outcome of a slot; a full buffer discards its oldest record. -/
def schedRecord (s : State) (i status : Nat) : State :=
  let r : SchedRec := ⟨i, status, s.now, slotTime s i, slotPayload s i, s.rd (Reg.SCHED_SLOT_CTRL i)⟩
  let b := s.sched.buf ++ [r]
  if b.length ≤ 256 then { s with sched := { s.sched with buf := b } }
  else
    let s := ({ s with sched := { s.sched with buf := b.drop 1 } } : State).inc Reg.SCHED_LOG_DROPPED
    s.raise .schedLogLost [s.rd Reg.SCHED_LOG_DROPPED]

/-- The 32 bytes of a record. -/
def schedBytes (r : SchedRec) (phase : Nat) (seq : Word) : List Byte :=
  wordsBytes [w32 (r.slot + fld r.ctrl 0 4 * 256 + phase * 32768 + r.status * 65536), seq, w32 r.whenNs, w32 (r.whenNs / 2 ^ 32),
    w32 r.target, w32 (r.target / 2 ^ 32), r.payload, r.ctrl]

/-- The one enabled SCHED_LOG ring of SCHED0. -/
def schedRing (s : State) : Option Nat :=
  (enabledRings s).find? fun r => decide (ringType s r = 0x0A ∧ ringOwner s r = (0x11, 0))

/-- SCHED_LOG_RECORD_WRITE (R157): the oldest waiting record goes to the ring when there is one with space. -/
def execSchedLogRecordWrite (s : State) : Host.Outcome State Fault Refusal :=
  .next (
    match s.sched.buf, schedRing s with
    | r :: rest, some q =>
      (match ringPush s q (schedBytes r (ringPhase s q) (s.sched.seq + 1)) with
       | some s => ringUnstall { s with sched := { s.sched with buf := rest, seq := s.sched.seq + 1 } } q
       | none => ringStall s q)
    | _, _ => s)

/-! ### Arming (R150, R151) -/

/-- A slot's outcome: the slot returns to IDLE, LAST takes the status and a record is written. -/
def slotEnd (s : State) (i status : Nat) : State :=
  let s := s.wr (Reg.SCHED_SLOT_STATUS i) (w32 (status * 256))
  let s : State := { s with sched := { s.sched with late := s.sched.late.filter (· ≠ i) } }
  schedRecord (countArmed s) i status

/-- Check 3 of R150: ACTION, TARGET, PAYLOAD and EPOCH. -/
def slotValid (s : State) (i : Nat) : Bool :=
  let a := slotAction s i
  let t := slotTarget s i
  let p := slotPayload s i
  let e := decide (slotEpoch s i = 0)
  if a = 2 then decide (t < 4 ∧ p = 0)
  else if a = 3 then decide (t < 8 ∧ p = 0) && e
  else if a = 4 then decide (t = 0 ∧ 1 ≤ p.toNat ∧ p.toNat ≤ 255) && e
  else if a = 5 then decide (t < 8 ∧ fld p 2 6 = 0 ∧ (fld p 0 2 = 3 → fld p 8 24 ≠ 0)) && e
  else if a = 6 then decide (t < 4) && (inRange3 p.toNat || decide (0x80 ≤ p.toNat ∧ p.toNat ≤ 0x83))
  else if a = 7 then decide (t = 0 ∧ p = 0) && e
  else false
where
  /-- The TEST_START ids of R316. -/
  inRange3 (n : Nat) : Bool := decide (1 ≤ n ∧ n ≤ 3)

/-- Check 4 of R150: the feature of the action, and SCHEDULED_ACTIONS itself, without which a use of a slot completes with
NOT_NEGOTIATED (R77). -/
def slotFeature (s : State) (i : Nat) : Bool :=
  let a := slotAction s i
  s.feat 16 && (decide (a ≠ 3) || s.feat 7) && (decide (a ≠ 4) || s.feat 4) && (decide (a ≠ 6) || s.feat 18)

/-- R151: the target is passed. -/
def slotPassed (s : State) (i : Nat) : Bool := decide (slotTime s i ≤ s.now + 200)

/-- The late check and the arming of a slot that passed the other checks: the status of the command. -/
def armSlot (s : State) (i : Nat) : State × Nat :=
  if slotPassed s i && !slotRuns s i then ((slotEnd s i 0x0A).raise .schedLate [w32 i], 0x0A)
  else
    let s : State := if slotPassed s i then { s with sched := { s.sched with late := s.sched.late ++ [i] } } else s
    (countArmed (s.setF (Reg.SCHED_SLOT_STATUS i) 0 2 1), 0)

/-- SCHED_LAST of a requester (R147). -/
def schedLast (s : State) (req : Requester) (i status : Nat) : State :=
  let w := w32 (i + status * 256 + 65536)
  match req with
  | .host => { s with sched := { s.sched with lastHost := w } }
  | .mgmt => { s with sched := { s.sched with lastMgmt := w } }

/-- SLOT_CMD with ARM (R150). -/
def armCommand (s : State) (req : Requester) (i : Nat) : State :=
  if slotState s i ≠ 0 then schedLast s req i (if schedOn s then 0x0C else 0x0D)
  else
    let bad := fun st => schedLast (slotEnd s i st) req i st
    if !schedOn s then bad 0x0D
    else if !slotValid s i then bad 0x0C
    else if !slotFeature s i then bad 0x05
    else let got := armSlot s i; schedLast got.1 req i got.2

/-- ARM (R150). -/
def execArm (req : Requester) (slot : Fin 256) (s : State) : Host.Outcome State Fault Refusal :=
  .next (gated s req Reg.SCHED_SLOT_CMD none fun s => armCommand s req slot)

/-- SLOT_CMD with DISARM (R155). -/
def disarmCommand (s : State) (req : Requester) (i : Nat) : State :=
  if slotAction s i = 1 then refuse s Reg.SCHED_SLOT_CMD
  else if slotState s i = 1 then schedLast (slotEnd s i 0x02) req i 0
  else schedLast s req i 0x03

/-- DISARM (R155). -/
def execDisarm (req : Requester) (slot : Fin 256) (s : State) : Host.Outcome State Fault Refusal :=
  .next (gated s req Reg.SCHED_SLOT_CMD none fun s => disarmCommand s req slot)

end Sys2Proof.Machine
end

