-- ==== Sys2Proof/Machine/Txn.lean ====
section
/-!
DEFINITION. Transactions: staging, commit validation, application points and outcomes (R113 to R125).
-/
namespace Sys2Proof.Machine

/-! ### Transactions in State -/

/-- Transaction `t`. -/
def txnOf (s : State) (t : Nat) : Txn :=
  if t = 0 then s.txn.t0 else if t = 1 then s.txn.t1 else if t = 2 then s.txn.t2 else s.txn.t3

/-- The state with transaction `t` replaced. -/
def putTxn (s : State) (t : Nat) (x : Txn) : State :=
  if t = 0 then { s with txn := { s.txn with t0 := x } }
  else if t = 1 then { s with txn := { s.txn with t1 := x } }
  else if t = 2 then { s with txn := { s.txn with t2 := x } }
  else { s with txn := { s.txn with t3 := x } }

/-- TXN_STATE.STATE: 0 FREE, 1 OPEN, 2 ARMED. -/
def txnState (s : State) (t : Nat) : Nat := s.f (Reg.TXN_TXN_STATE t) 0 2

/-- TXN_STATE.OWNER. -/
def txnOwner (s : State) (t : Nat) : Nat := s.f (Reg.TXN_TXN_STATE t) 2 2

/-- TXN_RESULT.PENDING. -/
def txnPending (s : State) (t : Nat) : Bool := s.b (Reg.TXN_TXN_RESULT t) 8

/-- A requester's number in OWNER. -/
def reqNum (r : Requester) : Nat := match r with | .host => 0 | .mgmt => 1

/-- TXN_LAST of a requester (R114). -/
def txnLast (s : State) (r : Requester) (id status : Nat) : State :=
  let w := w32 (1 + id * 16 + status * 256)
  match r with
  | .host => { s with txn := { s.txn with lastHost := w } }
  | .mgmt => { s with txn := { s.txn with lastMgmt := w } }

/-- Apply mode, LOCKSTEP and SLOT of a transaction's COMMIT. -/
def Txn.apply (x : Txn) : Nat := fld x.cmd 8 2
def Txn.lockstep (x : Txn) : Bool := bit x.cmd 10
def Txn.slot (x : Txn) : Nat := fld x.cmd 16 8

/-- The head whose group holds a register (R118), if it is a head register. -/
def headOfReg (a : Nat) : Option Nat := if 0x40000 ≤ a ∧ a < 0x80000 then some ((a - 0x40000) / 0x10000) else none

/-- The affected heads of a set of staged writes, ascending. -/
def affected (w : Tab Word) : List Nat := (List.range 4).filter fun h => w.any fun p => decide (headOfReg p.1 = some h)

/-- A head has ENABLE 1. -/
def headOn (s : State) (h : Nat) : Bool := enabled s (headBase h)

/-- The other ARMED transactions, in commit order. -/
def armedTxns (s : State) (t : Nat) : List Nat :=
  let l := (List.range 4).filter fun i => decide (i ≠ t ∧ txnState s i = 2)
  l.foldr (fun i acc => acc.filter (fun j => decide ((txnOf s j).order < (txnOf s i).order)) ++ [i] ++
    acc.filter (fun j => decide ((txnOf s i).order < (txnOf s j).order))) []

/-- The staged writes of the other ARMED transactions, laid over one another in commit order. -/
def armedWrites (s : State) (t : Nat) : Tab Word := (armedTxns s t).foldl (fun b i => lay b (txnOf s i).staged) []

/-! ### Applying writes -/

/-- The store whose STORE_CFG lies at an address. -/
def storeCfgAt (a : Nat) : Option Nat := (List.range 16).find? fun n => decide (Reg.INGEST_STORE_CFG n = a)

/-- The registers that hold a head's timing (R340). -/
def timingRegs (h : Nat) : List Nat :=
  [Reg.HEAD_TIMING_CTRL h, Reg.HEAD_FIELD_TIMING h, Reg.HEAD_H_ACTIVE h, Reg.HEAD_V_LINES h, Reg.HEAD_LATCH_LINE h,
    Reg.HEAD_LINE_SKEW h, Reg.HEAD_ANCHOR_LO h, Reg.HEAD_ANCHOR_HI h]

/-- A timing commit of the head whose timing an address holds is due at its next latch (R344, R345). -/
def noteTiming (s : State) (a : Nat) : State :=
  match headOfReg a with
  | some h => if (timingRegs h).contains a ∧ (headOf s h).run then putHead s h { headOf s h with timingDue := true } else s
  | none => s

/-- A committed or direct write to an RWT register takes effect. -/
def applyReg (s : State) (a : Nat) (v : Word) : State :=
  match storeCfgAt a with
  | some n => storeCfgWrite s n (v &&& 0x7FF3)
  | none =>
    let s := noteTiming (s.wr a (regMasked s a v)) a
    match (List.finRange 4).find? fun h : Fin 4 => decide (a = Reg.ZL_LINK_CFG h) with
    | some h => keepLink s h
    | none => s

/-- A write of a transaction of owner `o` to a RAIL page does not take effect: the keeper is unpowered (R404), its channel, the only
way to it, is down (R16, R18), or host software's page has ENABLE 0 (R405). DEDUCED (log entry 32). -/
def railShut (s : State) (o a : Nat) : Bool :=
  decide (0x80000 ≤ a ∧ a < 0x83000) &&
  !(kOn s && chanUp s && (decide (o = reqNum .mgmt) || enabled s (a / 0x1000 * 0x1000)))

/-- A staged write of a transaction of owner `o` takes effect. -/
def applyStaged (o : Nat) (s : State) (a : Nat) (v : Word) : State := if railShut s o a then refuse s a else applyReg s a v

/-- The staged writes of a transaction of owner `o` that satisfy `p` take effect, in ascending address. -/
def applyWrites (s : State) (o : Nat) (w : Tab Word) (p : Nat → Bool) : State :=
  w.foldl (fun s q => if p q.1 then applyStaged o s q.1 q.2 else s) s

/-! ### Outcomes (R116, R124) -/

/-- A transaction reaches its outcome and becomes FREE: result, completion record. DESIGN CHOICE (log entry 15): where RING_ID of
TXN_COMP does not name an enabled COMPLETION ring, the record waits until it does. -/
def txnOutcome (s : State) (t status : Nat) : State :=
  let x := txnOf s t
  let s := (s.wr (Reg.TXN_TXN_RESULT t) (w32 status)).wr (Reg.TXN_TXN_STATE t) 0
  let job := if x.fields.isEmpty then List.replicate 4 (0xFFFFFFFF : Word) else x.fields
  let s := putTxn s t Txn.free
  if s.b Reg.TXN_TXN_COMP 31 then
    { s with ring := { s.ring with ready := s.ring.ready ++
        [⟨s.f Reg.TXN_TXN_COMP 0 13, none, x.seq, [w32 (0x2000 + status * 0x10000), x.seq, s.ns32, w32 t] ++ job⟩] } }
  else s

/-- A commit fails (R116). -/
def txnFail (s : State) (t status offset : Nat) : State :=
  let x := txnOf s t
  let s := putTxn s t { x with fields := [] }
  let s := s.wr (Reg.TXN_TXN_FAIL_OFFSET t) (w32 offset)
  (txnOutcome s t status).raise .txnRefused [w32 t, w32 status, w32 offset]

/-- A commit is applied in full (R124). -/
def txnDone (s : State) (t : Nat) : State :=
  let x := txnOf s t
  let st := if x.late then 1 else 0
  (txnOutcome s t st).raise .txnApplied [w32 t, w32 x.apply, w32 st]

/-- The transaction's last part has applied. -/
def txnSettle (s : State) (t : Nat) : State :=
  let x := txnOf s t
  if x.begun && x.headsLeft.isEmpty then txnDone s t else s

/-- The first application point (R118, R122): a failing recheck ends the transaction; otherwise the non-head registers and
those of heads with ENABLE 0 apply. The Bool says that the check passed. -/
def txnBegin (s : State) (t : Nat) (recheck : Bool) : State × Bool :=
  let x := txnOf s t
  match (if recheck then badCommit s (armedWrites s t) x.staged else none) with
  | some a => (txnFail s t 0x0C a, false)
  | none =>
    let off := (affected x.staged).filter fun h => !headOn s h
    let s := applyWrites s (txnOwner s t) x.staged fun a => match headOfReg a with | none => true | some h => off.contains h
    (txnSettle (putTxn s t { x with begun := true, headsLeft := x.headsLeft.filter fun h => !off.contains h }) t, true)

/-- Head `h` applies its writes; `field` is the first field that shows them, or 0xFFFFFFFF. -/
def txnApplyHead (s : State) (t h : Nat) (field : Word) : State :=
  let x := txnOf s t
  let s := applyWrites s (txnOwner s t) x.staged fun a => decide (headOfReg a = some h)
  txnSettle (putTxn s t { x with headsLeft := x.headsLeft.filter (· ≠ h), fields := x.fields.set h field }) t

/-- R119: the writes of ARMED transactions at a latch of ACTIVE head `h`, in commit order. -/
def latchTxns (s : State) (h : Nat) (field : Word) : State :=
  (armedTxns s 4).foldl (fun s t =>
    let x := txnOf s t
    if txnState s t ≠ 2 ∨ !(x.headsLeft.contains h) then s
    else
      let p := if !x.begun && decide (x.apply = 1) then txnBegin s t true else (s, x.begun)
      if p.2 && (txnOf p.1 t).headsLeft.contains h && decide (txnState p.1 t = 2) then txnApplyHead p.1 t h field else p.1) s

/-- R118: a head that reaches DISABLED applies the writes that began before. -/
def disabledTxns (s : State) (h : Nat) : State :=
  (armedTxns s 4).foldl (fun s t =>
    let x := txnOf s t
    if x.begun && x.headsLeft.contains h then txnApplyHead s t h 0xFFFFFFFF else s) s

/-! ### Commands (R114 to R123) -/

/-- Validation of some COMMIT is in progress. -/
def anyPending (s : State) : Bool := (List.range 4).any (txnPending s)

/-- A TXN command is discarded while one is PENDING (R114). -/
def txnCommand (s : State) (req : Requester) (g : State → State) : State :=
  gatedIf s req Reg.TXN_TXN_CMD none (fun s => !anyPending s) g

/-- BEGIN takes the lowest FREE id. -/
def txnOpen (s : State) (req : Requester) : State :=
  match (List.range 4).find? fun t => decide (txnState s t = 0) with
  | none => txnLast s req 0 0x07
  | some t =>
    let s := putTxn (s.wr (Reg.TXN_TXN_STATE t) (w32 (1 + reqNum req * 4))) t Txn.free
    txnLast s req t 0

/-- BEGIN (R114). -/
def execBeginTxn (req : Requester) (s : State) : Host.Outcome State Fault Refusal :=
  .next (txnCommand s req fun s => txnOpen s req)

/-- The staging error of a write, as a status code (R115). -/
def stageError (s : State) (x : Txn) (a : Nat) : Option Nat :=
  if !isRwt a then some 0x0C
  else if (match pageAt a with | some p => notNeg s p | none => false) ||
      (match featureOf a with | some i => !s.feat i | none => false) then some 0x05
  else if !(x.staged.any fun p => decide (p.1 = a)) && decide (4096 ≤ x.staged.length) then some 0x07
  else none

/-- STAGE_DATA_t: stages (STAGE_ADDR_t, value), then adds 4 to STAGE_ADDR_t. -/
def stage (s : State) (t : Nat) (v : Word) : State :=
  let a := s.rdN (Reg.TXN_STAGE_ADDR t)
  let x := txnOf s t
  let s := match stageError s x a with
    | some e => if x.err.isSome then s else putTxn s t { x with err := some (e, a) }
    | none =>
      let y := { x with staged := lay x.staged [(a, v &&& (regInfo a).2)] }
      (putTxn s t y).setF (Reg.TXN_TXN_STATE t) 16 13 y.staged.length
  s.wr (Reg.TXN_STAGE_ADDR t) (w32 ((a + 4) % 2 ^ 24))

/-- STAGE_DATA_WRITE (R113 to R115). -/
def execStageDataWrite (req : Requester) (t : Fin 4) (value : Word) (s : State) : Host.Outcome State Fault Refusal :=
  .next (gatedIf s req (Reg.TXN_STAGE_DATA t) none
    (fun s => decide (txnState s t = 1 ∧ txnOwner s t = reqNum req) && !txnPending s t) fun s => stage s t value)

/-- COMMIT of the transaction that a command word names: validation starts (R116). -/
def commitCommand (s : State) (req : Requester) (v : Word) : State :=
  let t := fld v 4 2
  if txnState s t = 1 ∧ txnOwner s t = reqNum req then
    let s := s.wr Reg.TXN_TXN_COMMIT_COUNT (s.rd Reg.TXN_TXN_COMMIT_COUNT + 1)
    let s := putTxn s t { txnOf s t with cmd := v, seq := s.rd Reg.TXN_TXN_COMMIT_COUNT }
    txnLast (s.setB (Reg.TXN_TXN_RESULT t) 8 true) req t 0
  else refuse s Reg.TXN_TXN_CMD

/-- COMMIT (R116). -/
def execCommitTxn (req : Requester) (value : Word) (s : State) : Host.Outcome State Fault Refusal :=
  .next (txnCommand s req fun s => commitCommand s req value)

/-- ROLLBACK (R123). -/
def rollbackCommand (s : State) (req : Requester) (t : Nat) : State :=
  if txnState s t = 0 ∨ txnOwner s t ≠ reqNum req then refuse s Reg.TXN_TXN_CMD
  else
    let x := txnOf s t
    if txnState s t = 2 ∧ x.begun then txnLast s req t 0x03
    else
      let s := if txnState s t = 2 ∧ x.apply = 2 then slotEnd s x.slot 0x02 else s
      let s := putTxn s t { x with fields := [] }
      txnLast ((txnOutcome s t 0x02).raise .txnRolledBack [w32 t, 0]) req t 0

/-- ROLLBACK (R123). -/
def execRollback (req : Requester) (t : Fin 4) (s : State) : Host.Outcome State Fault Refusal :=
  .next (txnCommand s req fun s => rollbackCommand s req t)

/-- A TXN_APPLY slot ends without executing: its transaction is ABORTED (R154, R156). -/
def txnSlotEnded (s : State) (t : Nat) : State :=
  (txnOutcome (putTxn s t { txnOf s t with fields := [] }) t 0x02).raise .txnRolledBack [w32 t, 2]

/-- An armed slot ends ABORTED, its transaction with it (R154, R156). -/
def slotAborted (s : State) (i : Nat) : State :=
  let t := fld (slotPayload s i) 0 2
  let own := decide (slotAction s i = 1)
  let s := slotEnd s i 0x02
  if own then txnSlotEnded s t else s

/-- The phase error of a head at device time `now`, which LOCK_PULL pulls toward 0 (R343). -/
def pulled (e : Int) (eAt now pull : Nat) : Int :=
  let gone := if pull = 0 then 0 else (now - eAt) / (1000000 / pull)
  if e < 0 then min 0 (e + gone) else max 0 (e - gone)

/-- sched_start() of R339. -/
def schedStart (anchor : Int) (num den n : Nat) : Int :=
  anchor + (n / num : Nat) * 1000000000 * (den : Int) + ((n % num * 1000000000 * den / num : Nat) : Int)

/-- The running TRANSMIT heads of a lock group, ascending (R341). -/
def groupHeads (s : State) (g : Nat) : List Nat :=
  (List.range 4).filter fun h => decide (roleCode s (headBase h) = 1 ∧ (headOf s h).group = g) && (headOf s h).run

/-- LOCK_PULL of a lock group (R343). DESIGN CHOICE (log entry 30): that of its lowest running head; of the head itself where none
runs. -/
def groupPull (s : State) (h : Nat) : Nat := s.rdN (Reg.HEAD_LOCK_PULL ((groupHeads s (headOf s h).group).headD h))

/-- The phase error in force of a head. -/
def headE (s : State) (h : Nat) : Int :=
  let t := headOf s h
  pulled t.e t.eAt s.now (groupPull s h)

/-- The start of the field after the one being sent, under the schedule in force (R339, R345). -/
def nextFieldStart (s : State) (h : Nat) : Int :=
  let t := headOf s h
  schedStart t.anchor t.num t.den (t.idx + 1) + headE s h

/-- The start of line `y` of the field being sent (R339). -/
def lineStart (s : State) (h y : Nat) : Int :=
  let t := headOf s h
  let a := schedStart t.anchor t.num t.den t.idx
  let d := schedStart t.anchor t.num t.den (t.idx + 1) - a
  a + headE s h + (y : Int) * d / (t.cur.f (Reg.HEAD_V_LINES h) 16 16 : Nat) + (t.cur.f (Reg.HEAD_LINE_SKEW h) 0 16 : Nat)

/-- The latch line in effect for the field being sent (R340). -/
def latchLine (F : FieldSt) (h : Nat) : Nat :=
  let l := F.f (Reg.HEAD_LATCH_LINE h) 0 16
  if l = 0xFFFF then F.vActive h else l

/-- The device time of the next latch of a running head (R120): this field's, or the next field's once it has passed. -/
def nextLatch (s : State) (h : Nat) : Int :=
  let t := headOf s h
  let here := lineStart s h (latchLine t.cur h)
  if t.latched then here + (schedStart t.anchor t.num t.den (t.idx + 1) - schedStart t.anchor t.num t.den t.idx) else here

/-- The nominal line period of a head. -/
def linePeriod (s : State) (h : Nat) : Nat :=
  1000000000 * s.f (Reg.HEAD_FIELD_TIMING h) 20 12 / s.f (Reg.HEAD_FIELD_TIMING h) 0 20 / s.f (Reg.HEAD_V_LINES h) 16 16

/-- R120: the first affected head out of step. DESIGN CHOICE (log entry 15): the first is the lowest head that is not ACTIVE or whose
next latch is later than another's by more than the span. -/
def outOfStep (s : State) (l : List Nat) : Option Nat :=
  let span := (l.map (linePeriod s)).foldl max 0
  l.find? fun h => decide (headState s h ≠ 3) ||
    l.any fun g => decide (headState s g = 3 ∧ (span : Int) < nextLatch s h - nextLatch s g)

/-- Check 3 of R116: the apply mode and its arguments; a failure is a status with the offset it names. -/
def applyCheck (s : State) (x : Txn) : Option (Nat × Nat) :=
  let slotReg := Reg.SCHED_SLOT_TIME_LO x.slot
  if x.apply = 3 then some (0x0C, Reg.TXN_TXN_CMD)
  else if x.apply = 2 then
    if !s.feat 16 then some (0x05, Reg.TXN_TXN_CMD)
    else if !schedOn s then some (0x0D, slotReg)
    else if slotState s x.slot ≠ 0 then some (0x0C, slotReg)
    else none
  else if x.apply = 1 ∧ x.lockstep then (outOfStep s (affected x.staged)).map fun h => (0x0C, Reg.HEAD_LATCH_LINE h)
  else none

/-- Registers committed by `t` are foreign to the transactions that are OPEN (R116). DESIGN CHOICE (log entry 15): a COMMIT that passes
validation counts as committed, also where its slot is then refused as late, so that nothing of it is applied. -/
def noteForeign (s : State) (t : Nat) : State :=
  let w := (txnOf s t).staged.map (·.1)
  (List.range 4).foldl (fun s i =>
    if i ≠ t ∧ txnState s i = 1 then putTxn s i { txnOf s i with foreign := (txnOf s i).foreign ++ w } else s) s

/-- A validated transaction is ARMED. -/
def txnArm (s : State) (t : Nat) : State :=
  let x := txnOf s t
  let s := putTxn s t { x with order := s.txn.clock, headsLeft := affected x.staged, fields := List.replicate 4 0xFFFFFFFF }
  let s := { s with txn := { s.txn with clock := s.txn.clock + 1 } }
  (s.setF (Reg.TXN_TXN_STATE t) 0 2 2).wr (Reg.TXN_TXN_RESULT t) 0

/-- The transaction of a slot that is refused as late ends LATE_REFUSED (R121). DESIGN CHOICE (log entry 15): TXN_REFUSED is raised,
with offending offset 0, and TXN_FAIL_OFFSET keeps its value, since R121 names no register. -/
def txnLate (s : State) (t : Nat) : State :=
  (txnOutcome (putTxn s t { txnOf s t with fields := [] }) t 0x0A).raise .txnRefused [w32 t, 0x0A, 0]

/-- The slot registers that an AT_TIME commit writes, and the arming of the slot (R121). -/
def txnSlot (s : State) (t : Nat) : State :=
  let x := txnOf s t
  let i := x.slot
  let s := s.wr (Reg.SCHED_SLOT_CTRL i) (w32 (1 + b2n (slotRuns s i) * 16))
  let s := s.wr (Reg.SCHED_SLOT_PAYLOAD i) (w32 t)
  let got := armSlot s i
  let s := got.1
  let st := got.2
  if st = 0 then s else txnLate s t

/-- Check 4 of R116: the resulting configuration. A commit with no staged register applies nothing and is not judged by it. DESIGN
CHOICE (log entry 15): checks 1 to 3 are made of it too. -/
def resultCheck (s : State) (t : Nat) : Option Nat :=
  let w := (txnOf s t).staged
  if w.isEmpty then none else badCommit s (armedWrites s t) w

/-- Validation ends (R116, R118, R121). -/
def validate (s : State) (t : Nat) : State :=
  let x := txnOf s t
  match x.err with
  | some (e, a) => txnFail s t e a
  | none =>
    match lowest ((x.staged.map (·.1)).filter x.foreign.contains) with
    | some a => (txnFail s t 0x0B a)
    | none =>
      match applyCheck s x with
      | some (e, a) => txnFail s t e a
      | none =>
        match resultCheck s t with
        | some a => txnFail s t 0x0C a
        | none =>
          let s := txnArm (noteForeign s t) t
          if x.staged.isEmpty then txnDone (putTxn s t { txnOf s t with fields := [] }) t
          else if x.apply = 2 then txnSlot s t
          else if x.apply = 0 ∨ !((affected x.staged).any (headOn s)) then (txnBegin s t false).1
          else s

/-- COMMIT_VALIDATION_COMPLETE (R116). -/
def execCommitValidationComplete (t : Fin 4) (s : State) : Host.Outcome State Fault Refusal :=
  .next (if txnPending s t then validate s t else s)

end Sys2Proof.Machine
end

