-- ==== Sys2Proof/Machine/Audio.lean ====
section
/-!
DEFINITION. Serial audio ports: configuration, frames, AUDIO_OUT entries, capture, slot masks, records, start and stop (R483
to R503).
-/
namespace Sys2Proof.Machine

/-- Page base of SAPp. -/
def sapBase (p : Nat) : Nat := 0xA0000 + 0x1000 * p

/-- Port `p`. -/
def portOf (s : State) (p : Nat) : PortSt := tabGet (fun _ => PortSt.fresh) s.audio p

/-- The state with a port replaced. -/
def putPort (s : State) (p : Nat) (x : PortSt) : State := { s with audio := tabSet (fun _ => PortSt.fresh) s.audio p x }

/-! ### Configuration (R483 to R485) -/

/-- PORT_STATUS.PORT_STATE: 0 DISABLED, 1 WAITING, 2 RUNNING, 3 STOPPING. -/
def portState (s : State) (p : Nat) : Nat := s.f (Reg.SAP_PORT_STATUS p) 0 2

/-- The port in a state of R495. -/
def setPortState (s : State) (p st : Nat) : State := s.setF (Reg.SAP_PORT_STATUS p) 0 2 st

/-- CLOCK_LOST, CONTENTION and UNDERRUN. -/
def clockLost (s : State) (p : Nat) : Bool := s.b (Reg.SAP_PORT_STATUS p) 2
def contended (s : State) (p : Nat) : Bool := s.b (Reg.SAP_PORT_STATUS p) 3
def underrun (s : State) (p : Nat) : Bool := s.b (Reg.SAP_PORT_STATUS p) 4

/-- fs in Hz; 0 for the invalid code. -/
def portRate (s : State) (p : Nat) : Nat := [32000, 44100, 48000, 88200, 96000, 176400, 192000, 0].getD (s.f (Reg.SAP_PORT_CFG p) 4 3) 0

/-- CLOCK_MODE: 0 MASTER, 1 SLAVE, 2 WCLK_IN. -/
def clockMode (s : State) (p : Nat) : Nat := s.f (Reg.SAP_PORT_CFG p) 2 2

/-- SLOTS, SLOT_W and SAMPLE_W in bits. -/
def slots (s : State) (p : Nat) : Nat := s.f (Reg.SAP_PORT_CFG p) 8 6
def slotW (s : State) (p : Nat) : Nat := [16, 24, 32, 0].getD (s.f (Reg.SAP_PORT_CFG p) 16 2) 0
def sampleW (s : State) (p : Nat) : Nat := [16, 20, 24, 0].getD (s.f (Reg.SAP_PORT_CFG p) 18 2) 0

/-- SLOT_FMT is PCM_FLAGS. -/
def flagsFmt (s : State) (p : Nat) : Bool := s.b (Reg.SAP_PORT_CFG p) 23

/-- The port plays, or captures. -/
def isOutput (s : State) (p : Nat) : Bool := decide (roleCode s (sapBase p) = 1)
def isInput (s : State) (p : Nat) : Bool := decide (roleCode s (sapBase p) = 2)

/-- The resulting port configuration is valid (R484, R489). -/
def portCfgOk (s : State) (p : Nat) : Bool :=
  let n := slots s p
  decide (clockMode s p ≠ 3 ∧ portRate s p ≠ 0 ∧ slotW s p ≠ 0 ∧ sampleW s p ≠ 0) && inRange n 1 32 &&
  decide (n * slotW s p * portRate s p ≤ 24576000 ∧ sampleW s p ≤ slotW s p) &&
  (s.b (Reg.SAP_PORT_CFG p) 0 || decide (n = 2)) && decide (s.rdN (Reg.SAP_SLOT_MASK p) < 2 ^ n) &&
  (!flagsFmt s p || decide (slotW s p = 32))

/-- A ring of a type that names the port and is enabled (R490). -/
def portRing (s : State) (p r typ : Nat) : Bool :=
  ringEnabled s r && decide (ringType s r = typ ∧ ringOwner s r = (0xA0, p))

/-- DATA_RING and IN_RING. -/
def dataRing (s : State) (p : Nat) : Nat := s.f (Reg.SAP_DATA_RING p) 0 13
def inRing (s : State) (p : Nat) : Nat := s.f (Reg.SAP_IN_RING p) 0 13

/-- ANCHOR of the current start. -/
def portAnchor (s : State) (p : Nat) : Nat := s.rd64 (Reg.SAP_ANCHOR_LO p) (Reg.SAP_ANCHOR_HI p)

/-- The phase error in force (R485). -/
def portE (s : State) (p : Nat) : Int := pulled (portOf s p).e (portOf s p).eAt s.now (s.rdN (Reg.SAP_PULL_PPM p))

/-- The start of frame `k` (R485). DESIGN CHOICE (log entry 34): for an external clock, the nominal time after the last frame
start, which only the rule on passed frames needs. -/
def frameStart (s : State) (p k : Nat) : Int :=
  let x := portOf s p
  if clockMode s p = 0 then (portAnchor s p : Int) + (k * 1000000000 / portRate s p : Nat) + portE s p
  else if x.next = 0 then (portAnchor s p : Int) + (k * 1000000000 / portRate s p : Nat)
  else (x.at_ : Int) + ((k : Int) - ((x.next : Int) - 1)) * 1000000000 / (portRate s p : Int)

/-- The slots of a mask, ascending. -/
def maskSlots (m : Nat) : List Nat := (List.range 32).filter m.testBit

/-- Words of the frames from `a` up to `b`: one per set bit of the mask in force at each (R490). -/
def wordsIn : List (Nat × Nat) → Nat → Nat → Nat
  | [], _, _ => 0
  | (f, m) :: rest, a, b => (b - max a f) * (maskSlots m).length + wordsIn rest a (min b f)

/-- Words of a buffer before its next frame: those of the frames sent and discarded, by the masks in force at them (R490, R494). -/
def PlayBuf.words (x : PortSt) (b : PlayBuf) : Nat := wordsIn x.masks (b.frame - b.sent - b.gone) b.frame

/-- Frame-rate deviation from fs in 0.01 ppm (R485, R501). DESIGN CHOICE (log entry 34): over the frames since the first edge, cut
toward 0; 0 before the second edge. -/
def ratePpm (s : State) (p : Nat) : Int :=
  let x := portOf s p
  match x.ref with
  | none => 0
  | some (k, t) =>
    let n : Int := ((x.next - 1 - k : Nat) : Int) * 1000000000
    let d : Int := ((x.at_ - t) * portRate s p : Nat)
    if d = 0 then 0 else Int.tdiv ((n - d) * 100000000) d

/-! ### Records (R493) -/

/-- A record enters the port's buffer: KIND, FRAME, MASK, and the last two words. DESIGN CHOICE (log entry 34): a record that
is not a DATA record and finds the buffer full is lost, with its SEQ. -/
def audioRecord (s : State) (p kind frame : Nat) (stamp : Int) (mask a b : Nat) (data : Option Nat) : State :=
  let x := portOf s p
  let w := [w32 kind, x.seq, w32 frame, w32 (frame / 2 ^ 32), w32 (u64 stamp), w32 mask, w32 a, w32 b]
  putPort s p { x with recs := if x.recs.length < 64 then x.recs ++ [(w, data)] else x.recs, seq := x.seq + 1 }

/-- The DATA record of a closed buffer that waits is made once the port's record buffer has room (R493). -/
def shutRecord (s : State) (p : Nat) : State :=
  let x := portOf s p
  match x.shut with
  | some (first, t, mask, n, b) =>
    if x.recs.length < 64 then audioRecord (putPort s p { x with shut := none }) p 1 first t mask n b (some b) else s
  | none => s

/-- AUDIO_RECORD_WRITE (R493): the oldest waiting record goes to IN_RING. -/
def execAudioRecordWrite (p : Fin 8) (s : State) : Host.Outcome State Fault Refusal :=
  .next (
    let x := portOf s p
    let r := inRing s p
    match x.recs with
    | [] => s
    | (w, d) :: rest =>
      let w := match w with | h :: t => setFld h 15 1 (ringPhase s r) :: t | [] => []
      match ringPush s r (wordsBytes w) with
      | some s =>
        let used := match d with
          | some b => tabSet (fun _ => none) x.used b (some (some (s.rd (Reg.RING_PROD r))))
          | none => x.used
        shutRecord (ringUnstall (putPort s p { x with recs := rest, used := used }) r) p
      | none => if ringEnabled s r then ringStall s r else s)

/-! ### AUDIO_OUT entries (R490, R491) -/

/-- An AUDIO_OUT entry is a valid PLAY. -/
def playOk (e : List Byte) : Bool :=
  let f := leAt e 1 1
  decide (entryOp e = 1 ∧ f < 4 ∧ inRange (leAt e 16 4) 1 16777215 ∧ leAt e 20 4 = 0) &&
  (decide (f / 2 % 2 = 0) || decide (leAt e 24 8 = 0)) && (e.drop 32).all fun b => decide (b = 0)

/-- An entry of the queue reaches its outcome. -/
def playDone (s : State) (b : PlayBuf) (status : Nat) : State :=
  let k := b.first.getD 0
  finishJob s b.job status [w32 b.sent, w32 b.gone, w32 k, w32 (k / 2 ^ 32)]

/-- `n` frames at the front of a buffer are passed over. -/
def skipFrames (b : PlayBuf) (n : Nat) : PlayBuf := { b with frame := b.frame + n, left := b.left - n, gone := b.gone + n }

/-- Frames of the first buffers that lie before frame `k` are discarded; a buffer with none left completes (R491). -/
def dropPassed (p k : Nat) : Nat → State → State
  | 0, s => s
  | n + 1, s =>
    let x := portOf s p
    match x.queue with
    | [] => s
    | b :: rest =>
      let d := min b.left (k - b.frame)
      if d = 0 then s
      else
        let b := skipFrames b d
        let s := s.incBy (Reg.SAP_DISCARDED p) d
        let s := putPort s p { x with queue := if b.left = 0 then rest else b :: rest, dropped := x.dropped + d }
        if b.left = 0 then dropPassed p k n (playDone s b 0) else s

/-- The first frame that starts at or after a device time (R485): ceil((t − T(j)) × fs / 10^9) frames after frame j, where
frame j is frame 0, or the last frame of an external clock. -/
def firstFrom (s : State) (p : Nat) (t : Int) : Nat :=
  let j := if clockMode s p = 0 then 0 else (portOf s p).next - 1
  let d := t - frameStart s p j
  if d ≤ 0 then j else j + ((d * (portRate s p : Int) + 999999999) / 1000000000).toNat

/-- The frames of a buffer from `k` on, at most `n`, that have passed for an entry accepted at `t` (R491). A port that waits for its
group has no T(k) yet. -/
def passedCount (s : State) (p k n t : Nat) : Nat :=
  if portState s p = 2 ∨ portState s p = 3 then min n (firstFrom s p ((t : Int) + 50000) - k) else 0

/-- An accepted PLAY entry is queued, its passed frames discarded (R490, R491). -/
def playAccept (s : State) (p : Nat) (j : Job) : State :=
  let e := j.entry
  if !playOk e then finishJob s j 0x0C []
  else
    let f := leAt e 1 1
    let x := portOf s p
    let n := leAt e 16 4
    let k := if f / 2 % 2 = 1 then x.tail else leAt e 24 8
    let b : PlayBuf := ⟨j, decide (f % 2 = 1), leAt e 8 8, s.now, k, n, 0, 0, none⟩
    let d := passedCount s p k n s.now
    let s := s.incBy (Reg.SAP_DISCARDED p) d
    let b := skipFrames b d
    let s := putPort s p { x with tail := k + n, dropped := x.dropped + d, queue := if b.left = 0 then x.queue else x.queue ++ [b] }
    if b.left = 0 then playDone s b 0 else s

/-- The port's frames have their T(k) now: entries accepted while it waited lose the frames that had passed (R491, R496). -/
def rejudge (s : State) (p : Nat) : State :=
  let q := (portOf s p).queue
  q.foldl (fun s b =>
    let x := portOf s p
    let d := passedCount s p b.frame b.left b.at_
    let c := skipFrames b d
    let s := s.incBy (Reg.SAP_DISCARDED p) d
    let s := putPort s p { x with dropped := x.dropped + d, queue := x.queue.flatMap fun y => if y = b then (if c.left = 0 then [] else [c]) else [y] }
    if c.left = 0 then playDone s c 0 else s) s

/-- The frame being sent has ended: an entry whose last frame it was completes DONE (R491). -/
def sentDone (s : State) (p : Nat) : State :=
  let x := portOf s p
  match x.queue with
  | b :: rest => if b.left = 0 then playDone (putPort s p { x with queue := rest }) b 0 else s
  | [] => s

/-! ### The wire (R483, R488, R489) -/

/-- SAMPLE of a word, cut to SAMPLE_W. -/
def sampleBits (s : State) (p : Nat) (w : Word) : Word := w &&& w32 (2 ^ 32 - 2 ^ (32 - sampleW s p))

/-- C of frame `k` under CS_MODE = PORT. -/
def csBit (s : State) (p k : Nat) : Bool :=
  let n := k % 192
  s.b (Reg.SAP_CS p (n / 32)) (n % 32)

/-- The word that a slot sends for a memory word; `none` is a zero frame, with V = 1. -/
def wireWord (s : State) (p k : Nat) (w : Option Word) : Word :=
  if !flagsFmt s p then (match w with | some w => sampleBits s p w | none => 0)
  else
    let b := w32 (b2n (decide (k % 192 = 0)) * 2 ^ 7)
    let port := s.b (Reg.SAP_PORT_CFG p) 24
    let c := w32 (b2n (csBit s p k) * 2 ^ 4)
    match w with
    | some w => sampleBits s p w ||| b ||| (if port then c else w &&& 0x70)
    | none => b ||| 0x40 ||| (if port then c else 0)

/-- The word clock over the bits of a frame (R483): low in slot 0 and high in slot 1 for I2S; for TDM high in the first bit, or
with DELAY in the last bit, which is the one before the next frame. -/
def wordClock (s : State) (p : Nat) : List Bool :=
  let n := slots s p * slotW s p
  let tdm := s.b (Reg.SAP_PORT_CFG p) 0
  let high := if s.b (Reg.SAP_PORT_CFG p) 20 then n - 1 else 0
  (List.range n).map fun i => s.b (Reg.SAP_PORT_CFG p) 21 != (if tdm then decide (i = high) else decide (slotW s p ≤ i))

/-- Bits of delay between the frame start and the data of slot 0 (R483). -/
def dataDelay (s : State) (p : Nat) : Nat :=
  if s.b (Reg.SAP_PORT_CFG p) 0 then b2n (s.b (Reg.SAP_PORT_CFG p) 20) else 1

/-- The device times of the bits of frame `k` (R485). -/
def bitTimes (s : State) (p k : Nat) : List Int :=
  let n := slots s p * slotW s p
  let t := frameStart s p k
  if clockMode s p = 0 then (List.range n).map fun (i : Nat) => t + (i : Int) * (frameStart s p (k + 1) - t) / (n : Int) else []

/-- The bits of a slot's word, most significant first; released outside the mask with TRISTATE (R494). -/
def slotBits (s : State) (p : Nat) (driven : Bool) (w : Word) : List (Option Bool) :=
  (List.range (slotW s p)).map fun i => if driven || !s.b (Reg.SAP_PORT_CFG p) 25 then some (w.getLsbD (31 - i)) else none

/-- The pins of a port over frame `k` (R483, R485). -/
def audioWire (s : State) (p k mask : Nat) (words : List Word) : AudioWire :=
  { wordClock := if clockMode s p = 1 then [] else wordClock s p
    delay := dataDelay s p
    data := words.zipIdx.flatMap fun q => slotBits s p (mask.testBit q.2) q.1
    rising := s.b (Reg.SAP_PORT_CFG p) 22
    times := bitTimes s p k }

/-- The words of a frame, one per slot: 0 outside the mask (R494). -/
def slotWords (s : State) (p k mask : Nat) (ws : List (Option Word)) : List Word :=
  let m := maskSlots mask
  (List.range (slots s p)).map fun i =>
    match m.findIdx? (· == i) with
    | some n => wireWord s p k (ws.getD n none)
    | none => 0

/-- The frame sent. Released pins send nothing (R500). -/
def sendFrame (s : State) (p k mask : Nat) (ws : List (Option Word)) : State :=
  if contended s p then s
  else
    let words := slotWords s p k mask ws
    s.emit (.audio p words (audioWire s p k mask words))

/-! ### Output frames (R491, R498, R499) -/

/-- Frame `k` without data: zeros with V = 1; the first one of an underrun is recorded. -/
def zeroFrame (s : State) (p : Fin 8) (k mask : Nat) (t : Int) : State :=
  let s := if underrun s p then s
    else
      let s := (s.setB (Reg.SAP_PORT_STATUS p) 4 true).inc (Reg.SAP_UNDERRUNS p)
      let s := putPort s p { portOf s p with zeros := 0 }
      (audioRecord s p 3 k t mask 0 0 none).raise (.audioUnderrun p) [w32 k, w32 (k / 2 ^ 32)]
  let s := putPort s p { portOf s p with zeros := (portOf s p).zeros + 1 }
  sendFrame s p k mask []

/-- Frame `k` from the first buffer: the read, which fails in host memory without the link or as `hostOk` says (R97), a media error
(R499), and the end of an underrun. -/
def dataFrame (s : State) (p : Fin 8) (b : PlayBuf) (rest : List PlayBuf) (k mask : Nat) (t : Int) (hostOk : Bool) : State :=
  let n := (maskSlots mask).length
  let a := b.addr + 4 * b.words (portOf s p)
  let bad := if b.host then !s.power.pcieUp || !hostOk else rangeBad s a (4 * n)
  let bytes := if b.host then hostBytes s a (4 * n) else hbmBytes s a (4 * n)
  let s := if b.host then s else touch s 4 a (4 * n)
  let s := if bad then s.inc (Reg.SAP_MEDIA_FRAMES p) else s
  let s := if underrun s p then
      let x := portOf s p
      audioRecord (putPort (s.setB (Reg.SAP_PORT_STATUS p) 4 false) p { x with dropped := 0 }) p 4 k t mask x.zeros x.dropped none
    else s
  let s := sendFrame s p k mask (if bad then [] else (List.range n).map fun i => some (w32 (leAt bytes (4 * i) 4)))
  let c := { b with frame := b.frame + 1, left := b.left - 1, sent := b.sent + 1, first := some (b.first.getD k) }
  putPort s p { portOf s p with queue := c :: rest }

/-- R500: a pin that disagrees on 4 bits or more in two consecutive frames releases the pins. Pin 0 is data, 1 the bit clock,
2 the word clock; the clocks count where the port drives them. -/
def readBack (s : State) (p : Fin 8) (k mask : Nat) (t : Int) (bad : List Nat) : State :=
  let x := portOf s p
  let now := (if clockMode s p = 1 then [0] else [0, 1, 2]).filter fun i => decide (4 ≤ bad.getD i 0)
  let s := putPort s p { x with badPins := now }
  if contended s p then s
  else
    match now.find? x.badPins.contains with
    | none => s
    | some i =>
      let s := (s.setB (Reg.SAP_PORT_STATUS p) 3 true).inc (Reg.SAP_CONTENTIONS p)
      (audioRecord s p 7 k t mask i 0 none).raise (.audioContention p) [w32 i]

/-- Frame `k` of an OUTPUT port. With the clock lost it sends nothing, and no pin is compared (R486, R500). -/
def outputFrame (s : State) (p : Fin 8) (k mask : Nat) (t : Int) (bad : List Nat) (hostOk : Bool) : State :=
  if clockLost s p then putPort s p { portOf s p with badPins := [] }
  else
    let s := dropPassed p k (portOf s p).queue.length s
    let s := match (portOf s p).queue with
      | b :: rest => if b.frame = k then dataFrame s p b rest k mask t hostOk else zeroFrame s p k mask t
      | [] => zeroFrame s p k mask t
    readBack s p k mask t bad

/-! ### Input frames (R492) -/

/-- BUF_FRAMES and NBUF. -/
def bufFrames (s : State) (p : Nat) : Nat := s.f (Reg.SAP_IN_BUF p) 0 16
def bufCount (s : State) (p : Nat) : Nat := s.f (Reg.SAP_IN_BUF p) 16 5

/-- Address of capture buffer `b`. -/
def captureAddr (s : State) (p b : Nat) : Nat :=
  s.rd64 (Reg.SAP_IN_BASE_LO p) (Reg.SAP_IN_BASE_HI p) + b * bufFrames s p * slots s p * 4

/-- A buffer is free: it holds nothing, or CONS has passed its DATA record. -/
def captureFree (s : State) (p b : Nat) : Bool :=
  match tabGet (fun _ => none) (portOf s p).used b with
  | none => true
  | some none => false
  | some (some w) => !before (s.rd (Reg.RING_CONS (inRing s p))) w

/-- The open buffer closes: a DATA record, once it has room, and the next buffer is in rotation. -/
def closeCapture (s : State) (p : Nat) (mask : Nat) : State :=
  let x := portOf s p
  match x.open_ with
  | none => s
  | some (first, t, n, _) =>
    shutRecord (putPort s p { x with
      open_ := none
      shut := some (first, t, mask, n, x.buf)
      buf := (x.buf + 1) % bufCount s p
      used := tabSet (fun _ => none) x.used x.buf (some none) }) p

/-- The words that an INPUT port stores for a frame, by slot of the mask. With the clock lost they are 0 with V = 1 (R486). -/
def captured (s : State) (p k mask : Nat) (input : List Word) : List Word :=
  let b := w32 (b2n (decide (k % 192 = 0)) * 2 ^ 7)
  (maskSlots mask).map fun i =>
    if clockLost s p then 0x40 ||| b
    else
      let w := input.getD i 0
      if flagsFmt s p then sampleBits s p w ||| (w &&& 0xF0) else sampleBits s p w ||| b

/-- Frame `k` of an INPUT port. While its records fill their buffer its capture buffers are held closed (R493). -/
def inputFrame (s : State) (p : Fin 8) (k mask : Nat) (t : Int) (input : List Word) : State :=
  let x := portOf s p
  let room := decide (x.recs.length < 64) && x.shut.isNone && (x.open_.isSome || captureFree s p x.buf)
  if !room then
    let s := closeCapture s p mask
    let x := portOf s p
    let s := s.inc (Reg.SAP_OVERRUNS p)
    let s := putPort s p { x with lost := x.lost + 1 }
    if x.lost = 0 then s.raise (.audioOverrun p) [w32 k, w32 (k / 2 ^ 32)] else s
  else
    let s := if x.lost = 0 then s
      else audioRecord (putPort s p { x with lost := 0 }) p 5 k t mask x.lost 0 none
    let x := portOf s p
    let got := x.open_.getD (k, t, 0, 0)
    let first := got.1
    let n := got.2.2.1
    let w := got.2.2.2
    let ws := captured s p k mask input
    let s := hbmWrite s 4 (captureAddr s p x.buf + 4 * w) (wordsBytes ws)
    let s := putPort s p { portOf s p with open_ := some (first, got.2.1, n + 1, w + ws.length) }
    if bufFrames s p ≤ n + 1 then closeCapture s p mask else s

/-! ### Frames (R485, R494, R497) -/

/-- The pending mask latches at frame `k` if that frame starts later than the write (R494). -/
def latchMask (s : State) (p k : Nat) (t : Int) : State :=
  let x := portOf s p
  match x.pend with
  | none => s
  | some (m, w) =>
    if t ≤ (w : Int) then s
    else
    let old := s.rdN (Reg.SAP_MASK_IN_EFFECT p)
    let s := if isInput s p then closeCapture s p old else s
    let s := putPort s p { portOf s p with pend := none, masks := (k, m) :: x.masks }
    let s := (s.wr (Reg.SAP_MASK_IN_EFFECT p) (w32 m)).wr64 (Reg.SAP_LAST_MASK_FRAME_LO p) (Reg.SAP_LAST_MASK_FRAME_HI p) k
    audioRecord s p 2 k t m old 0 none

/-- The port stops: its capture buffer closes and unfinished entries complete ABORTED (R497). -/
def portHalt (s : State) (p : Nat) : State :=
  let s := if isInput s p then closeCapture s p (s.rdN (Reg.SAP_MASK_IN_EFFECT p)) else s
  let s := sentDone s p
  let q := (portOf s p).queue
  let s := putPort s p { portOf s p with queue := [], halted := true, pend := none }
  let s := ((s.setB (Reg.SAP_PORT_STATUS p) 2 false).setB (Reg.SAP_PORT_STATUS p) 3 false).setB (Reg.SAP_PORT_STATUS p) 4 false
  let s := if clockMode s p = 0 then s.emit (.audioStop p (s.b (Reg.SAP_PORT_CFG p) 21)) else s
  q.foldl (fun s b => playDone s b 0x02) s

/-- A STOPPING port stops at this frame boundary: always, but for a draining OUTPUT port with frames left. -/
def stopsNow (s : State) (p : Nat) : Bool :=
  decide (portState s p = 3) &&
  (s.b (Reg.PAGE_CTRL (sapBase p)) 1 || isInput s p || (portOf s p).queue.isEmpty)

/-- The first edge of an external clock since it started or came back is what its rate is measured from (R485). -/
def markRef (s : State) (p k : Nat) : State :=
  let x := portOf s p
  if clockMode s p = 0 ∨ clockLost s p ∨ x.ref.isSome then s else putPort s p { x with ref := some (k, s.now) }

/-- The START record of the current start. -/
def greet (s : State) (p : Nat) (t : Int) : State :=
  let x := portOf s p
  if x.greet then audioRecord (putPort s p { x with greet := false }) p 6 0 t (s.rdN (Reg.SAP_MASK_IN_EFFECT p)) x.group 0 none else s

/-- An INPUT port that drives its clocks (R485). -/
def clocksOnly (s : State) (p k mask : Nat) : State :=
  if isInput s p ∧ clockMode s p ≠ 1 ∧ clockLost s p = false then s.emit (.audio p [] (audioWire s p k mask [])) else s

/-- Frame `k` starts. -/
def audioFrame (s : State) (p : Fin 8) (input : List Word) (bad : List Nat) (hostOk : Bool) : State :=
  let k := (portOf s p).next
  let t : Int := if clockMode s p = 0 then frameStart s p k else (s.now : Int)
  let s := greet s p t
  let s := latchMask s p k t
  let s := s.wr64 (Reg.SAP_FRAME_LO p) (Reg.SAP_FRAME_HI p) k
  let s := markRef (putPort s p { portOf s p with next := k + 1, at_ := s.now }) p k
  let mask := s.rdN (Reg.SAP_MASK_IN_EFFECT p)
  if isOutput s p then outputFrame s p k mask t bad hostOk
  else inputFrame (clocksOnly s p k mask) p k mask t input

/-- The next frame may start: a MASTER port's and a lost clock's at its T(k); an external clock's first one at or after ANCHOR
(R485, R486, R496). -/
def frameDue (s : State) (p : Nat) : Bool :=
  let k := (portOf s p).next
  if clockMode s p = 0 ∨ clockLost s p then decide (frameStart s p k ≤ (s.now : Int))
  else decide (0 < k ∨ portAnchor s p ≤ s.now)

/-- AUDIO_FRAME (R485): words received by slot, bits per pin that read back wrong, and whether a read of host memory succeeds. -/
def execAudioFrame (p : Fin 8) (input : List Word) (bad : List Nat) (hostOk : Bool) (s : State) :
    Host.Outcome State Fault Refusal :=
  .next (if (portOf s p).halted ∨ (portState s p ≠ 2 ∧ portState s p ≠ 3) ∨ frameDue s p = false then s
    else
      let s := sentDone s p
      if stopsNow s p then portHalt s p else audioFrame s p input bad hostOk)

/-! ### Starting and stopping (R495 to R497) -/

/-- A port starts with an anchor and its start group, 0xFF for none. -/
def startPort (s : State) (p anchor group : Nat) : State :=
  let m := s.rdN (Reg.SAP_SLOT_MASK p)
  let x := portOf s p
  let s := setPortState (s.wr64 (Reg.SAP_ANCHOR_LO p) (Reg.SAP_ANCHOR_HI p) anchor) p 2
  let s := s.wr64 (Reg.SAP_FRAME_LO p) (Reg.SAP_FRAME_HI p) 0
  let s := putPort (s.wr (Reg.SAP_MASK_IN_EFFECT p) (w32 m)) p { x with
    next := 0
    e := 0
    group := group
    greet := true
    halted := false
    pend := none
    masks := [(0, m)]
    ref := none
    zeros := 0
    dropped := 0
    badPins := []
    buf := 0
    open_ := none
    used := []
    lost := 0 }
  rejudge (if clockMode s p = 0 then greet s p (anchor : Int) else s) p

/-- The WAITING members of a group start with one anchor (R496). -/
def startGroup (s : State) (g anchor : Nat) : State :=
  ((List.range 8).filter fun p => decide (portState s p = 1) && decide (s.f (Reg.SAP_GROUP p) 0 3 = g)).foldl
    (fun s p => startPort s p anchor g) s

/-- A port is enabled (R110, R484, R490, R496). -/
def portEnable (s : State) (p : Nat) : State :=
  let a := Reg.PAGE_CTRL (sapBase p)
  if enabled s (sapBase p) then s
  else if !quiesced s (sapBase p) || !portCfgOk s p ||
      (isOutput s p && !portRing s p (dataRing s p) 0x05) ||
      ((isOutput s p || isInput s p) && !portRing s p (inRing s p) 0x06) then refuse s a
  else
    let s := setOn s (sapBase p)
    if !(isOutput s p || isInput s p) then s
    else if s.b (Reg.SAP_GROUP p) 3 then setPortState (putPort s p { portOf s p with halted := false, tail := 0 }) p 1
    else startPort (putPort s p { portOf s p with tail := 0 }) p (s.now + 10000) 0xFF

/-- SAP_ENABLE (R496). -/
def execSapEnable (req : Requester) (p : Fin 8) (s : State) : Host.Outcome State Fault Refusal :=
  .next (gated s req (Reg.PAGE_CTRL (sapBase p)) none fun s => portEnable s p)

/-- GROUP_CMD_START (R496). -/
def execGroupCmdStart (req : Requester) (g : Fin 8) (s : State) : Host.Outcome State Fault Refusal :=
  .next (gated s req Reg.SAPM_GROUP_CMD none fun s => startGroup s g (s.now + 10000))

/-- A port's ENABLE goes to 0 (R497). DESIGN CHOICE (log entry 34): a WAITING port stops at once. -/
def portDisable (s : State) (p : Nat) (abort : Bool) : State :=
  let st := portState s p
  let s := setOff s (sapBase p) abort
  if st = 1 then portHalt (setPortState s p 3) p
  else if st = 2 then setPortState s p 3
  else s

/-- The port's in-flight work has ended and every record is written (R497). -/
def portQuiet (s : State) (p : Nat) : Bool :=
  (portOf s p).halted && (portOf s p).queue.isEmpty && (portOf s p).recs.isEmpty && (portOf s p).shut.isNone

/-! ### Masks, clocks, contention, MCLK -/

/-- A write of SLOT_MASK (R484, R494): pending while the port runs. -/
def slotMaskWrite (s : State) (p : Nat) (v : Word) : State :=
  if enabled s (sapBase p) ∧ 2 ^ slots s p ≤ v.toNat then refuse s (Reg.SAP_SLOT_MASK p)
  else
    let s := s.wr (Reg.SAP_SLOT_MASK p) v
    if portState s p = 2 ∨ portState s p = 3 then putPort s p { portOf s p with pend := some (v.toNat, s.now) } else s

/-- SLOT_MASK_WRITE (R494). -/
def execSlotMaskWrite (req : Requester) (p : Fin 8) (value : Word) (s : State) : Host.Outcome State Fault Refusal :=
  .next (gated s req (Reg.SAP_SLOT_MASK p) none fun s => slotMaskWrite s p value)

/-- The clock is lost (R486): no edge for two nominal frame periods since the last frame start, or ANCHOR; or a frame rate, measured in
0.01 ppm for 1 s, more than 1,000 ppm from fs. -/
def clockGone (s : State) (p : Nat) (outOfRange : Bool) (ppm : Word) : Bool :=
  let t := if (portOf s p).next = 0 then portAnchor s p else (portOf s p).at_
  if outOfRange then decide (100000 < ppm.toInt.natAbs) else decide (2000000000 ≤ (s.now - t) * portRate s p)

/-- AUDIO_CLOCK_LOSS (R486). -/
def execAudioClockLoss (p : Fin 8) (outOfRange : Bool) (ppm : Word) (s : State) : Host.Outcome State Fault Refusal :=
  .next (if clockMode s p = 0 ∨ clockLost s p ∨ (portState s p ≠ 2 ∧ portState s p ≠ 3) ∨ clockGone s p outOfRange ppm = false then s
    else
      let s := (s.setB (Reg.SAP_PORT_STATUS p) 2 true).wr (Reg.SAP_RATE_PPM p) ppm
      s.raise (.audioClock p) [w32 (b2n outOfRange), ppm])

/-- An open capture buffer without its last frame. -/
def dropLast (mask : Nat) : Option (Nat × Int × Nat × Nat) → Option (Nat × Int × Nat × Nat)
  | some (first, t, n, w) => if n ≤ 1 then none else some (first, t, n - 1, w - (maskSlots mask).length)
  | none => none

/-- AUDIO_CLOCK_RETURN (R486): the first frame edge carries the index that FRAME has reached. DEDUCED (log entry 34): the frame of that
index, which the lost clock has counted, starts at the edge, and an open capture buffer holds it once. -/
def execAudioClockReturn (p : Fin 8) (s : State) : Host.Outcome State Fault Refusal :=
  .next (if !clockLost s p then s
    else
      let x := portOf s p
      putPort (s.setB (Reg.SAP_PORT_STATUS p) 2 false) p { x with
        next := x.next - 1
        ref := none
        open_ := dropLast (s.rdN (Reg.SAP_MASK_IN_EFFECT p)) x.open_ })

/-- A write of CONT_CLEAR (R500). -/
def contClear (s : State) (p : Nat) (v : Word) : State :=
  if bit v 0 then putPort (s.setB (Reg.SAP_PORT_STATUS p) 3 false) p { portOf s p with badPins := [] } else s

/-- CONT_CLEAR (R500). -/
def execContClear (req : Requester) (p : Fin 8) (value : Word) (s : State) : Host.Outcome State Fault Refusal :=
  .next (gated s req (Reg.SAP_CONT_CLEAR p) none fun s => contClear s p value)

/-- MCLK's frequency at an MCLK_CFG value: 0 without EN (R487). -/
def mclkHz (v : Word) : Nat :=
  if bit v 0 then (if bit v 1 then 44100 else 48000) * (if bit v 2 then 512 else 256) else 0

/-- The time of rising edge `m` of MCLK (R487). -/
def mclkEdge (hz m : Nat) : Nat := m * 1000000000 / hz

/-- A write of MCLK_CFG (R487): EN, FAMILY and X512; MCLK follows the register, from the first edge that device time has not passed. -/
def mclkWrite (s : State) (v : Word) : State :=
  let hz := mclkHz v
  (s.wr Reg.SAPM_MCLK_CFG (v &&& 7)).emit (.mclk hz (mclkEdge hz ((s.now * hz + 999999999) / 1000000000)))

/-- MCLK_CFG_WRITE (R487). -/
def execMclkCfgWrite (req : Requester) (value : Word) (s : State) : Host.Outcome State Fault Refusal :=
  .next (gated s req Reg.SAPM_MCLK_CFG none fun s => mclkWrite s value)

/-- A forward step of `c` reaches a running MASTER port as a phase error (R142, R485); `e` is its phase error before it. -/
def portJump (c e : Int) (s : State) (p : Nat) : State :=
  if (portState s p = 2 ∨ portState s p = 3) ∧ clockMode s p = 0 then
    putPort s p { portOf s p with e := e + c, eAt := s.now }
  else s

end Sys2Proof.Machine
end

