-- ==== Sys2Proof/Machine/Glint.lean ====
section
/-!
DEFINITION. Glint sampling (R537 to R540): which rays are tagged, and what is kept of a tagged ray until its record.
-/
namespace Sys2Proof.Machine

/-- Glint sampling of a head. -/
def glintOf (s : State) (h : Nat) : GlintSt := tabGet (fun _ => GlintSt.fresh) s.perf.glint h

/-- The state with a head's glint sampling. -/
def putGlint (s : State) (h : Nat) (g : GlintSt) : State :=
  { s with perf := { s.perf with glint := tabSet (fun _ => GlintSt.fresh) s.perf.glint h g } }

/-- R537 glint_seed. -/
def glintSeed (h : Nat) (seed : Word) : Word :=
  let x := seed ^^^ (0x9E3779B9#32 * w32 (h + 1))
  if x = 0 then 1 else x

/-- R537 glint_draw: the next state. -/
def glintNext (x : Word) : Word :=
  let x := x ^^^ (x <<< 13)
  let x := x ^^^ (x >>> 17)
  x ^^^ (x <<< 5)

/-- R537 glint_draw: the ray is tagged. -/
def glintHit (x : Word) (rate : Nat) : Bool := decide (x >>> (32 - rate) = 0)

/-- GLINT_CTRL, GLINT_SEED and GLINT_TARGET are sampled at a latch of the head; a new SEED or EN going 1 seeds (R537, R542). -/
def glintLatch (s : State) (h : Nat) : State :=
  let c := s.rd Reg.PERF0_GLINT_CTRL
  let seed := s.rd Reg.PERF0_GLINT_SEED
  let g := glintOf s h
  let en := enabled s 0xC0000 && bit c 0
  let st := if en ∧ (!g.en ∨ g.seed ≠ seed) then glintSeed h seed else g.state
  let new : GlintSt := ⟨en, en && bit c (4 + h), bit c 1, fld c 8 5, seed, s.rd Reg.PERF0_GLINT_TARGET, st, g.rays⟩
  if en ∨ g.en then putGlint s h new else s

/-- An issued ray at column `x` of a line: the draw, or the comparison with the target (R537). The Bool says that it is
tagged; with 64 tagged rays waiting it is suppressed. -/
def glintDraw (s : State) (h x y ch : Nat) : State × Bool :=
  let g := glintOf s h
  let nxt := glintNext g.state
  let hit := if g.target then
      decide (fld g.tgt 0 14 = x ∧ fld g.tgt 16 14 = y ∧ fld g.tgt 30 2 = ch)
    else glintHit nxt g.rate
  let s := if g.target then s else putGlint s h { g with state := nxt }
  if !hit then (s, false)
  else if 64 ≤ g.rays.length then (s.inc Reg.PERF0_GLINT_SUPPRESSED, false)
  else (s.inc Reg.PERF0_GLINT_TAGGED, true)

/-- A tagged ray is kept. -/
def glintPush (s : State) (h : Nat) (r : GlintRay) : State :=
  let g := glintOf s h
  putGlint s h { g with rays := g.rays ++ [r] }

/-- Updates the tagged rays of a line of a field. -/
def glintMap (s : State) (h : Nat) (field : Word) (y : Nat) (f : GlintRay → GlintRay) : State :=
  let g := glintOf s h
  if g.rays.isEmpty then s
  else putGlint s h { g with rays := g.rays.map fun r => if r.field = field ∧ r.y = y ∧ !r.ended then f r else r }

/-- A line is composed: the values of its tagged rays (R539), `ecl` for a line eclipsed at its deadline (R540). -/
def glintCompose (s : State) (h : Nat) (field : Word) (y : Nat) (ecl : Bool) (v o : List Nat) : State :=
  glintMap s h field y fun r =>
    { r with eclipsed := ecl, composed := v.getD (3 * r.x + r.ch) 0, output := o.getD (3 * r.x + r.ch) 0 }

/-- A line is sent, as REPEAT or with its data, each column on its lane (R539, R540). -/
def glintSent (s : State) (h : Nat) (field : Word) (y : Nat) (rep : Bool) (lane : Nat → Nat) : State :=
  glintMap s h field y fun r =>
    let r := { r with ended := true, lane := some (lane r.x) }
    if rep then { r with repeated := true, composed := 0, output := 0 } else r

/-- The head's fields are abandoned (R540). -/
def glintAbandon (s : State) (h : Nat) : State :=
  let g := glintOf s h
  if g.rays.isEmpty then s
  else putGlint s h { g with rays := g.rays.map fun r => if r.ended then r else { r with abandoned := true, ended := true } }

end Sys2Proof.Machine
end

