-- ==== Sys2Proof/Machine/HeadCore.lean ====
section
/-!
DEFINITION. What heads and links share: lane states, the mapping of groups to lanes (R386), a head's state (R334 to R337)
and the configuration snapshot of a latch (R346).
-/
namespace Sys2Proof.Machine

/-! ### The state of a head (R334 to R337) -/

/-- The state with HEAD_STATUS.STATE. -/
def setHeadState (s : State) (h st : Nat) : State := s.setF (Reg.HEAD_HEAD_STATUS h) 0 3 st

/-- The number of the field that the next latch fixes. -/
def nextLatchField (s : State) (h : Nat) : Word :=
  let t := headOf s h
  if t.latched then t.cur.num + 2 else t.cur.num + 1

/-- LOCKED, PULLING and PHASE_ERR follow the phase error (R343). -/
def showPhase (s : State) (h : Nat) : State :=
  let e := headE s h
  let run := (headOf s h).run
  let s := s.wr64 (Reg.HEAD_PHASE_ERR_LO h) (Reg.HEAD_PHASE_ERR_HI h) (u64 e)
  let s := s.setB (Reg.HEAD_HEAD_STATUS h) 3 (run && decide (e = 0))
  s.setB (Reg.HEAD_HEAD_STATUS h) 4 (run && decide (e ≠ 0))

/-! ### The snapshot of a latch (R346) -/

/-- A register of the configuration regions of head `h`'s pages, PAGE_CTRL included. -/
def inHeadCfg (h a : Nat) : Bool := decide (headBase h ≤ a ∧ a < headBase h + 0x10000 ∧ a % 0x1000 < 0x800)

/-- The registers in effect at a latch: shadows as last committed, every other register as written. -/
def snapshot (s : State) (h : Nat) : Tab Word :=
  let live := s.regs.filter fun p => inHeadCfg h p.1 && !isRws p.1
  (s.eff.filter fun p => inHeadCfg h p.1 && isRws p.1).foldl (fun t p => tabSet Reg.reset t p.1 p.2) live

/-- The anchor under the timing of a table of registers (R339). -/
def anchorOf (s : State) (h : Nat) (cfg : Tab Word) : Int :=
  let c := fun a => tabGet Reg.reset cfg a
  if bit (c (Reg.HEAD_TIMING_CTRL h)) 0 then
    s64 ((c (Reg.HEAD_ANCHOR_HI h)).toNat * 2 ^ 32 + (c (Reg.HEAD_ANCHOR_LO h)).toNat)
  else -s.epochOffset

/-- GROUP of a head as written. -/
def lockGroup (s : State) (h : Nat) : Nat := s.f (Reg.HEAD_TIMING_CTRL h) 4 2

/-- The other heads of the lock group of a head whose generators run (R341). -/
def groupRunning (s : State) (h : Nat) : List Nat := (groupHeads s (lockGroup s h)).filter fun g => decide (g ≠ h)

/-- A head is time-locked: its generator runs a schedule (R141, R142). -/
def timeLocked (s : State) (h : Nat) : Bool := (headOf s h).run && decide (roleCode s (headBase h) = 1)

/-! ### The phase of a lock group (R343) -/

/-- The phase error of a head is settled at the present pull: PHASE_LOCKED where it has reached 0. -/
def settleHead (s : State) (h : Fin 4) : State :=
  let t := headOf s h
  let e := headE s h
  let s := showPhase (putHead s h { t with e := e, eAt := s.now }) h
  if t.e ≠ 0 ∧ e = 0 then s.raise (.phaseLocked h) [s.rd (Reg.HEAD_FIELD h)] else s

/-- The phase error of a lock group is settled before its pull changes. -/
def settleGroup (s : State) (g : Nat) : State :=
  (List.finRange 4).foldl (fun (s : State) (h : Fin 4) => if timeLocked s h ∧ (headOf s h).group = g then settleHead s h else s) s

end Sys2Proof.Machine
end

