-- ==== Sys2Proof/Machine/Jobs.lean ====
section
/-!
DEFINITION. The codec job engines (R231 to R251): DECOMPRESS, CHECK and COMPRESS jobs, continuation tokens, chained
output, self-verification, stops and completions.
-/
namespace Sys2Proof.Machine

/-! ### Descriptors (R233 to R236) -/

/-- A flag of a job descriptor: bit `i` of its first word (R234). -/
def jobFlag (e : List Byte) (i : Nat) : Bool := leAt e 0 4 / 2 ^ i % 2 = 1

/-- RAW_PITCH. -/
def jobPitch (e : List Byte) : Nat := leAt e 52 2

/-- RAW_FMT: PACKED12. -/
def jobPacked (e : List Byte) : Bool := leAt e 54 1 % 2 = 1

/-- WIDTH, HEIGHT, NPIC, BD, C of the descriptor. -/
def jobGeom (e : List Byte) : Nat × Nat × Nat × Nat × Nat := (leAt e 56 2, leAt e 58 2, leAt e 60 2, leAt e 62 1, leAt e 63 1 % 16)

/-- The four NEAR nibbles (R233: as in the frame header). -/
def jobNear (e : List Byte) : List Nat := (List.range 4).map fun c => beAt e 66 2 / 16 ^ c % 16

/-- TABLES. -/
def jobTables (e : List Byte) : Nat := leAt e 65 1 % 4

/-- FRAMES of a compress job. -/
def jobFrames (e : List Byte) : Nat := leAt e 68 3

/-- Bytes of a source range by SRC_SPACE or DST_SPACE. -/
def spaceBytes (s : State) (host : Bool) (a n : Nat) : List Byte := if host then hostBytes s a n else hbmBytes s a n

/-- The range reads poisoned; host memory does not. -/
def spaceBad (s : State) (host : Bool) (a n : Nat) : Bool := !host && rangeBad s a n

/-- A read of a range in service class SC4 (R462). -/
def spaceTouch (s : State) (host : Bool) (a n : Nat) : State := if host then s else touch s 4 a n

/-- Row bytes that a width needs (R235). -/
def rowNeed (packed : Bool) (w : Nat) : Nat := if packed then 3 * ((w + 1) / 2) else 2 * w

/-- Bytes of one raw frame (R235). -/
def rawFrame (npic c h pitch : Nat) : Nat := npic * c * h * pitch

/-- The expected-geometry fields of a DECOMPRESS or CHECK job: each 0 or in range (R233). -/
def expectOk (e : List Byte) : Bool :=
  let got := jobGeom e
  let w := got.1
  let h := got.2.1
  let n := got.2.2.1
  let bd := got.2.2.2.1
  let c := got.2.2.2.2
  decide (w ≤ 16384 ∧ h ≤ 16384 ∧ n ≤ 256 ∧ (bd = 0 ∨ bd = 8 ∨ bd = 10 ∨ bd = 12) ∧ c ≤ 4 ∧ leAt e 63 1 < 16)

/-- The geometry and settings of a COMPRESS job (R233). -/
def compressOk (e : List Byte) : Bool :=
  let got := jobGeom e
  let w := got.1
  let h := got.2.1
  let n := got.2.2.1
  let bd := got.2.2.2.1
  let c := got.2.2.2.2
  decide (1 ≤ w ∧ w ≤ 16384 ∧ 1 ≤ h ∧ h ≤ 16384 ∧ 1 ≤ n ∧ n ≤ 256 ∧ (bd = 8 ∨ bd = 10 ∨ bd = 12) ∧
    1 ≤ c ∧ c ≤ 4 ∧ leAt e 63 1 < 16 ∧ 4 ≤ leAt e 64 1 % 16 ∧ leAt e 64 1 % 16 ≤ 7 ∧ 4 ≤ leAt e 64 1 / 16 ∧ leAt e 64 1 / 16 ≤ 7 ∧
    jobTables e ≤ 2 ∧ leAt e 65 1 / 4 % 4 = 0 ∧ leAt e 65 1 < 128 ∧ 1 ≤ jobFrames e ∧ leAt e 71 1 = 0 ∧
    rowNeed (jobPacked e) w ≤ jobPitch e ∧ jobFrames e * rawFrame n c h (jobPitch e) ≤ leAt e 32 4) &&
  ((List.range 4).all fun i => decide (i < c ∨ (jobNear e).getD i 0 = 0))

/-- R236: fields that every job shares. -/
def commonOk (e : List Byte) : Bool :=
  decide (leAt e 54 2 < 2 ∧ jobPitch e % 16 = 0) && !((e.drop 74).any (· ≠ 0)) &&
  (!jobFlag e 10 || decide (1 ≤ leAt e 36 4 ∧ leAt e 36 4 ≤ 16))

/-- The (address, length) segments of a chained output (R244). -/
def segList (s : State) (e : List Byte) : List (Nat × Nat) :=
  let b := spaceBytes s (jobFlag e 9) (leAt e 16 8) (16 * leAt e 36 4)
  (List.range (leAt e 36 4)).map fun i => (leAt b (16 * i) 8, leAt b (16 * i + 8) 4)

/-- R244: the segment list is valid. -/
def segsOk (s : State) (e : List Byte) : Bool :=
  let b := spaceBytes s (jobFlag e 9) (leAt e 16 8) (16 * leAt e 36 4)
  (List.range (leAt e 36 4)).all fun i =>
    decide (leAt b (16 * i + 12) 4 = 0 ∧ leAt b (16 * i + 8) 4 % 64 = 0 ∧ 4096 ≤ leAt b (16 * i + 8) 4)

/-- The output of a job as segments; without CHAIN, one segment of DST_LEN bytes. -/
def outSegs (s : State) (e : List Byte) : List (Nat × Nat) :=
  if jobFlag e 10 then segList s e else [(leAt e 16 8, leAt e 36 4)]

/-- The destination space. -/
def outSpace (segs : List (Nat × Nat)) : Nat := (segs.map (·.2)).foldl (· + ·) 0

/-- Writes a byte of the output string at position `n` (R244). -/
def outByte (host : Bool) : List (Nat × Nat) → State → Nat → Byte → State
  | [], s, _, _ => s
  | (a, len) :: t, s, n, b => if n < len then memWrite s host 4 (a + n) [b] else outByte host t s (n - len) b

/-- Writes bytes of the output string from position `n` on. -/
def outWrite (host : Bool) (segs : List (Nat × Nat)) : State → Nat → List Byte → State
  | s, _, [] => s
  | s, n, b :: t => outWrite host segs (outByte host segs s n b) (n + 1) t

/-- R245: the check byte of a job's token. -/
def tokenCheck (s : State) (e : List Byte) (compress : Bool) : Nat :=
  (crc32c (if compress then (e.drop 52).take 28 else spaceBytes s (jobFlag e 8) (leAt e 8 8) 16)).toNat % 256

/-- R245: a CONT token is valid: the check byte agrees and the next frame exists. -/
def tokenOk (s : State) (e : List Byte) (compress : Bool) (frames : Nat) : Bool :=
  !jobFlag e 12 || decide (leAt e 48 4 / 2 ^ 24 = tokenCheck s e compress ∧ leAt e 48 3 < frames ∧
    (compress ∨ leAt e 44 4 < leAt e 32 4))

/-- The opcode is defined for the role code of the engine (R232). -/
def jobRoleOk (op role : Nat) : Bool :=
  if op = 2 then decide (role = 1 ∨ role = 3) else decide (role = 2 ∨ role = 3)

/-- R232, R236: the status with which acceptance refuses a job, if it does. -/
def jobRefusal (s : State) (eng : Nat) (e : List Byte) : Option Nat :=
  let op := leAt e 0 1
  let segBad := jobFlag e 10 && decide (op ≠ 3) && spaceBad s (jobFlag e 9) (leAt e 16 8) (16 * leAt e 36 4)
  if !(decide (op = 1 ∨ op = 2 ∨ op = 3) && jobRoleOk op (roleCode s (0x31000 + 0x1000 * eng))) then some 0x0C
  else if !commonOk e then some 0x0C
  else if !(if op = 2 then compressOk e else expectOk e && !((e.drop 64).take 10).any (· ≠ 0)) then some 0x0C
  else if op = 3 && decide (leAt e 16 8 ≠ 0) then some 0x0C
  else if segBad then some 0x0E
  else if op ≠ 3 && jobFlag e 10 && !segsOk s e then some 0x0C
  else if !tokenOk s e (decide (op = 2))
      (if op = 2 then jobFrames e else beAt (spaceBytes s (jobFlag e 8) (leAt e 8 8) 16) 8 4) then some 0x0C
  else if op = 2 ∧ (((jobNear e).any (· ≠ 0) ∧ !s.feat 8) ∨ (jobTables e = 2 ∧ !s.feat 9)) then some 0x05
  else none

/-! ### Raw frames (R235) -/

/-- Address of a raw sample. -/
def rawSampleAddr (e : List Byte) (base c h v comp x y : Nat) : Nat :=
  base + ((v * c + comp) * h + y) * jobPitch e + (if jobPacked e then 3 * (x / 2) else 2 * x)

/-- A raw sample as it lies in memory: 16 bits, or 12 bits of a packed group. -/
def rawSample (s : State) (host : Bool) (e : List Byte) (base c h v comp x y : Nat) : Nat :=
  let a := rawSampleAddr e base c h v comp x y
  if jobPacked e then
    let w := leNat (spaceBytes s host a 3)
    if x % 2 = 1 then w / 4096 else w % 4096
  else leNat (spaceBytes s host a 2)

/-- A raw sample read back at BD bits (R235). -/
def rawValue (e : List Byte) (bd w : Nat) : Nat := if jobPacked e then w / 2 ^ (12 - bd) else w

/-- The bytes of a row of samples at BD bits. -/
def rowBytes (packed : Bool) (bd : Nat) : List Nat → List Byte
  | [] => []
  | [a] => if packed then leBytes 3 (widen12 bd a) else leBytes 2 a
  | a :: b :: t =>
    if packed then leBytes 3 (widen12 bd a + 4096 * widen12 bd b) ++ rowBytes packed bd t
    else leBytes 2 a ++ leBytes 2 b ++ rowBytes packed bd t

/-- The rows of a decoded frame with their offsets in the raw frame. -/
def frameRows (e : List Byte) (h : FrameHdr) (tiles : List (List (List Nat))) : List (Nat × List Byte) :=
  (List.range h.npic).flatMap fun v => (List.range h.c).flatMap fun c => (List.range h.height).map fun y =>
    (((v * h.c + c) * h.height + y) * jobPitch e,
     rowBytes (jobPacked e) h.bd ((List.range h.width).map fun x => frameSample h tiles v c x y))

/-- R238: the bytes of a decoded frame as WORD16 with RAW_PITCH = 2 × WIDTH. -/
def checkBytes (h : FrameHdr) (tiles : List (List (List Nat))) : List Byte :=
  (List.range h.npic).flatMap fun v => (List.range h.c).flatMap fun c => (List.range h.height).flatMap fun y =>
    (List.range h.width).flatMap fun x => leBytes 2 (frameSample h tiles v c x y)

/-! ### Decoding a memory-form sequence (R194 to R199, R238, R239) -/

/-- A decoded frame: its header and the samples of its tiles. -/
abbrev DecFrame := FrameHdr × List (List (List Nat))

/-- Decodes the tiles of a frame in index order; a tile in error has samples 0 (R239). The result is the tiles and the
first error with its tile. -/
def decodeTiles (nd : ShuocNeeds) (h : FrameHdr) (hasRef : Bool) (ref : Nat → Nat → Nat → Nat → Nat) :
    Nat → List (List Byte × Bool) → List Bool → List (List (List Nat)) → Option (Nat × Nat) →
    List (List (List Nat)) × Option (Nat × Nat)
  | _, [], _, acc, err => (acc, err)
  | i, t :: l, dirs, acc, err =>
    let look : RefSample := fun inter v c x y => if inter then ref v c x y else frameSample h acc v c x y
    match decodeCut nd h i (dirs.headD true) hasRef look t with
    | .ok r => decodeTiles nd h hasRef ref (i + 1) l dirs.tail (acc ++ [r]) err
    | .error e =>
      decodeTiles nd h hasRef ref (i + 1) l dirs.tail
        (acc ++ [List.replicate h.c (List.replicate (tileGeom h i).n 0)]) (err.or (some (i, e)))

/-- Where the parts of a memory-form frame lie: header, directory, tile group. -/
structure FrameParts where
  hdr : FrameHdr
  /-- Bytes of header and directory. -/
  head : Nat
  dir : List Byte
  tiles : List (List Byte × Bool)

/-- R196, R197, R205: header, directory and tile group of the memory-form frame at the start of `b`. -/
def frameParts (nd : ShuocNeeds) (agree : FrameHdr → Bool) (b : List Byte) : Coded FrameParts :=
  match parseHdr nd agree b with
  | .error e => .error e
  | .ok h =>
    let head := h.size + (if h.dir then 4 * h.tileCount else 0)
    if b.length < head then .error 0x02
    else match splitGroup h.tileCount h.tileBytes (b.drop head) with
      | .error e => .error e
      | .ok l => .ok ⟨h, head, (b.drop h.size).take (head - h.size), l⟩

/-- The directory check of every tile (R197). -/
def FrameParts.dirs (p : FrameParts) : List Bool :=
  if p.hdr.dir then dirAgrees p.dir 0 0 p.tiles else p.tiles.map fun _ => true

/-- What a job engine decodes (R217, R218). -/
def jobNeeds (s : State) : ShuocNeeds := ⟨true, false, true, s.feat 8, s.feat 9, [0, 1, 2, 3, 4, 5, 6]⟩

/-- R238: the stream agrees with the job: expected geometry, and a pitch that holds a row. -/
def jobAgrees (e : List Byte) (check : Bool) (h : FrameHdr) : Bool :=
  let got := jobGeom e
  let w := got.1
  let ht := got.2.1
  let n := got.2.2.1
  let bd := got.2.2.2.1
  let c := got.2.2.2.2
  decide ((w = 0 ∨ w = h.width) ∧ (ht = 0 ∨ ht = h.height) ∧ (n = 0 ∨ n = h.npic) ∧ (bd = 0 ∨ bd = h.bd) ∧ (c = 0 ∨ c = h.c) ∧
    (check ∨ rowNeed (jobPacked e) h.width ≤ jobPitch e))

/-- The state of a decompression between frames. -/
structure Decomp where
  s : State
  marks : List JobMark
  prev : Option DecFrame

/-- Where a job stops by itself: status and stream error code, with frame and tile for the event, and the mismatches of a frame
that it leaves unfinished. -/
structure JobStop where
  status : Nat
  code : Nat
  frame : Nat
  tile : Nat
  tail : List (Nat × Bool) := []

/-- Reference samples of a frame: the frame before it, or the raw frame at REF_ADDR. -/
def jobRef (s : State) (e : List Byte) (h : FrameHdr) (prev : Option DecFrame) : Option (Nat → Nat → Nat → Nat → Nat) :=
  match prev with
  | some p => if refFits h p.1 then some (frameSample p.1 p.2) else none
  | none =>
    if jobFlag e 13 then
      some fun v c x y => rawValue e h.bd (rawSample s (jobFlag e 8) e (leAt e 24 8) h.c h.height v c x y)
    else none

/-- Tile `i` of a frame comes to read reference samples: the checks of R216 that go before its prediction pass. -/
def readsRef (nd : ShuocNeeds) (p : FrameParts) (i : Nat) : Bool :=
  match decodeCut nd p.hdr i (p.dirs.getD i true) true (fun _ _ _ _ _ => 0) (p.tiles.getD i ([], true)) with
  | .ok _ => true
  | .error e => decide (0x0D ≤ e) && decide (4 ≤ (p.tiles.getD i ([], true)).1.length)

/-- A tile of the frame reads a poisoned sample of the raw reference frame. -/
def jobRefBad (s : State) (e : List Byte) (p : FrameParts) (prev : Option DecFrame) : Bool :=
  prev.isNone && jobFlag e 13 && !jobFlag e 8 &&
  (List.range p.tiles.length).any fun i => readsRef (jobNeeds s) p i &&
    (tileReads p.hdr i ((p.tiles.getD i ([], true)).1)).any fun q =>
      q.1 && rangeBad s (rawSampleAddr e (leAt e 24 8) p.hdr.c p.hdr.height q.2.1 q.2.2.1 q.2.2.2.1 q.2.2.2.2)
        (if jobPacked e then 3 else 2)

/-- The progress so far. -/
def lastMark (l : List JobMark) : JobMark := l.getLastD ⟨0, 0, 0, 0, 0, []⟩

/-- Bytes of the memory-form frame at the start of `b` that a decoder reads before it can report a frame- or group-scope error:
its header, and with a readable header its directory and tile group, as far as they are there. -/
def frameSpan (nd : ShuocNeeds) (agree : FrameHdr → Bool) (b : List Byte) : Nat :=
  match parseHdr nd agree b with
  | .error _ => min (hdrFields b).size b.length
  | .ok h => min (h.size + (if h.dir then 4 * h.tileCount else 0) + h.tileBytes) b.length

/-- R238, R239, R243: decodes frames `f`, f + 1, … of a job, at most `fuel` of them. Poison in the bytes read goes before a
stream error (R250). -/
def decompN (e : List Byte) (check : Bool) (segs : List (Nat × Nat)) (b : List Byte) :
    Nat → Nat → Decomp → Decomp × JobStop
  | 0, f, d => (d, ⟨0, 0, f, 0, []⟩)
  | fuel + 1, f, d =>
    let m := lastMark d.marks
    let host := jobFlag e 8
    let base := leAt e 8 8 + m.off
    let hostD := jobFlag e 9
    let span := frameSpan (jobNeeds d.s) (jobAgrees e check) (b.drop m.off)
    if spaceBad d.s host base span then ({ d with s := spaceTouch d.s host base span }, ⟨0x0E, 0, f, 0, []⟩)
    else match frameParts (jobNeeds d.s) (jobAgrees e check) (b.drop m.off) with
      | .error c => ({ d with s := spaceTouch d.s host base span }, ⟨0x08, c, f, 0, []⟩)
      | .ok p =>
        let h := p.hdr
        let raw := rawFrame h.npic h.c h.height (jobPitch e)
        let out := m.out + (if check then 0 else raw)
        let len := p.head + h.tileBytes
        let s := spaceTouch d.s host base span
        if jobRefBad d.s e p d.prev then ({ d with s := s }, ⟨0x0E, 0, f, 0, []⟩)
        else if !check && decide (leAt e 40 4 ≠ 0 ∧ leAt e 40 4 < out) then ({ d with s := s }, ⟨0x06, 0, f, 0, []⟩)
        else if !check && decide (outSpace segs < out) then ({ d with s := s }, ⟨0x07, 0, f, 0, []⟩)
        else
          let ref := jobRef s e h d.prev
          let got := decodeTiles (jobNeeds s) h ref.isSome (ref.getD fun _ _ _ _ => 0) 0 p.tiles p.dirs [] none
          let tiles := got.1
          let err := got.2
          let s := if check then s
            else (frameRows e h tiles).foldl (fun s r => outWrite hostD segs s (m.out + r.1) r.2) s
          let crc := if check then crcRun m.crc (checkBytes h tiles) else m.crc
          let d : Decomp := ⟨s, d.marks ++ [⟨m.off + len, out, crc, m.samples + h.samples, 0, []⟩], some (h, tiles)⟩
          match err with
          | some (i, c) => (d, ⟨0x08, c, f, i, []⟩)
          | none => decompN e check segs b fuel (f + 1) d

/-- R238: runs a DECOMPRESS or CHECK job to the point where nothing but its outcome is left. -/
def runDecomp (s : State) (j : Job) (check : Bool) : State × JobRun :=
  let e := j.entry
  let host := jobFlag e 8
  let b := spaceBytes s host (leAt e 8 8) (leAt e 32 4)
  let chk := tokenCheck s e false
  let cont := jobFlag e 12
  let first := if cont then leAt e 48 3 else 0
  let m0 : JobMark := ⟨if cont then leAt e 44 4 else 16, 0, 0xFFFFFFFF, 0, 0, []⟩
  if spaceBad s host (leAt e 8 8) (min 16 b.length) then
    (spaceTouch s host (leAt e 8 8) 16, ⟨j, first, chk, [m0], 0x0E, 0, [], (0, 0)⟩)
  else match parseSeq b with
    | .error c => (s, ⟨j, first, chk, [m0], 0x08, c, [], (first, 0)⟩)
    | .ok n =>
      let got := decompN e check (outSegs s e) b (n - first) first ⟨s, [m0], none⟩
      let d := got.1
      let stop := got.2
      (d.s, ⟨j, first, chk, d.marks, stop.status, stop.code, [], (stop.frame, stop.tile)⟩)

/-! ### Compression (R240 to R243, R246) -/

/-- Bits of a number, most significant first. -/
def numBits : Nat → Nat → List Bool
  | 0, _ => []
  | n + 1, v => numBits n (v / 2) ++ [decide (v % 2 = 1)]

/-- Bytes of bits, most significant first, zero-filled. -/
def packBits : Nat → List Bool → List Byte
  | 0, _ => []
  | n + 1, l =>
    BitVec.ofNat 8 ((List.range 8).foldl (fun a i => 2 * a + b2n (l.getD i false)) 0) :: packBits n (l.drop 8)

/-- Big-endian bytes of a number. -/
def beBytes (n v : Nat) : List Byte := (leBytes n v).reverse

/-- A RAW tile (R201). -/
def rawTile (h : FrameHdr) (g : TileGeom) (comps : List (List Nat)) : List Byte :=
  beBytes 3 (4 + rawBytes h g) ++ [6] ++ packBits (rawBytes h g) (comps.flatten.flatMap (numBits h.bd))

/-- A frame header without dynamic tables (R196). -/
def hdrBytes (h : FrameHdr) (bytes : Nat) : List Byte :=
  [1, BitVec.ofNat 8 (b2n h.key + 2 * b2n h.dir), BitVec.ofNat 8 h.bd, BitVec.ofNat 8 h.c] ++ beBytes 2 h.width ++
  beBytes 2 h.height ++ beBytes 2 h.npic ++ [BitVec.ofNat 8 (h.twl + 16 * h.thl), 0] ++
  beBytes 2 ((List.range 4).foldl (fun a c => a + h.near.getD c 0 * 16 ^ c) 0) ++ [0, 0] ++ beBytes 4 h.tileCount ++ beBytes 4 bytes

/-- A tile directory (R197). -/
def dirBytes : Nat → List (List Byte) → List Byte
  | _, [] => []
  | off, t :: l => beBytes 4 off ++ dirBytes (off + t.length) l

/-- The memory-form frame of given coded tiles. -/
def frameBytes (h : FrameHdr) (tiles : List (List Byte)) : List Byte :=
  hdrBytes h tiles.flatten.length ++ (if h.dir then dirBytes 0 tiles else []) ++ tiles.flatten

/-- The samples of a tile of a source frame. -/
def sourceTile (h : FrameHdr) (src : Nat → Nat → Nat → Nat → Nat) (i : Nat) : List (List Nat) :=
  let g := tileGeom h i
  (List.range h.c).map fun c => (List.range g.n).map fun k => src g.v c (g.x0 + k % g.tw) (g.y0 + k / g.tw)

/-- The frame with every tile RAW: always conforming output (R209). -/
def allRaw (h : FrameHdr) (src : Nat → Nat → Nat → Nat → Nat) : List Byte :=
  frameBytes h ((List.range h.tileCount).map fun i => rawTile h (tileGeom h i) (sourceTile h src i))

/-- Two samples differ by at most `near`. -/
def within (near a b : Nat) : Bool := decide (a ≤ b + near ∧ b ≤ a + near)

/-- R209, R240: a frame the engine may emit for a source frame: expected header, modes that the job allows, RAW where
self-verification fixed a tile, and every sample within NEAR. -/
def conforms (nd : ShuocNeeds) (e : List Byte) (h : FrameHdr) (src : Nat → Nat → Nat → Nat → Nat)
    (ref : Option (Nat → Nat → Nat → Nat → Nat)) (fixes : List Nat) (b : List Byte) : Bool :=
  match frameParts nd (fun g => decide ({ g with tables := [], tileBytes := 0 } = { h with tables := [], tileBytes := 0 }) &&
      (decide (jobTables e = 2) || g.tables.isEmpty)) b with
  | .error _ => false
  | .ok p =>
    let got := decodeTiles nd p.hdr ref.isSome (ref.getD fun _ _ _ _ => 0) 0 p.tiles p.dirs [] none
    let tiles := got.1
    let err := got.2
    err.isNone && decide (b.length = p.head + p.hdr.tileBytes) &&
    (List.range h.tileCount).all fun i =>
      let t := (p.tiles.getD i ([], true)).1
      let m := tileMode t
      (decide (m = 0 ∨ m = 1 ∨ m = 3 ∨ m = 6) || (decide (m = 4) && jobFlag e 14) ||
        (decide (m = 2 ∨ m = 5) && jobFlag e 15 && !h.key)) &&
      (!fixes.contains i || decide (m = 6)) &&
      (decide (jobTables e ≠ 1 ∨ m < 3 ∨ 5 < m ∨ tileNores t) ||
        (List.range h.c).all fun c => decide (tselOf t c = leAt e 65 1 / 16)) &&
      (List.range h.c).all fun c => (List.range (tileGeom h i).n).all fun k =>
        within (h.near.getD c 0) (((tiles.getD i []).getD c []).getD k 0) (((sourceTile h src i).getD c []).getD k 0)

/-- The header of frame `f` of a COMPRESS job (R233, R242). -/
def compressHdr (e : List Byte) (f : Nat) (first : Nat) : FrameHdr :=
  let got := jobGeom e
  let w := got.1
  let h := got.2.1
  let n := got.2.2.1
  let bd := got.2.2.2.1
  let c := got.2.2.2.2
  let ki := leAt e 72 2
  let lossy := (jobNear e).any (· ≠ 0)
  let key := if f = 0 then !jobFlag e 13
    else (decide (ki ≠ 0) && decide (f % ki = 0)) || (decide (f = first) && lossy)
  let g : FrameHdr := ⟨key, jobFlag e 11, bd, c, w, h, n, leAt e 64 1 % 16, leAt e 64 1 / 16, jobNear e, [], 0, 0⟩
  { g with tileCount := n * g.ty * g.tx }

/-- R246: the tiles of frame `f` that verification found wrong, given as frame × TILE_COUNT + tile. -/
def fixesOf (mism : List Nat) (count f : Nat) : List Nat :=
  (mism.filter fun k => decide (k / count = f)).map (· % count)

/-- The state of a compression between frames. -/
structure Comping where
  s : State
  marks : List JobMark
  prev : Option (Nat → Nat → Nat → Nat → Nat)

/-- R246, R247: the mismatches of a job: one VERIFY_MISMATCH each, and one count for each tile that its RAW tile fixed. -/
def noteFixes (s : State) (eng : Fin 8) (j : Job) (l : List (Nat × Bool)) : State :=
  l.foldl (fun s q =>
    ((if q.2 then s else s.inc (Reg.CJE_VERIFY_FIXED_COUNT eng)).raise (.verifyMismatch eng)
      [w32 j.ring, j.index, w32 q.1, w32 (b2n q.2)])) s

/-- The samples of a frame in the order of R235, as 16-bit words. -/
def planeBytes (h : FrameHdr) (src : Nat → Nat → Nat → Nat → Nat) : List Byte :=
  (List.range h.npic).flatMap fun v => (List.range h.c).flatMap fun c => (List.range h.height).flatMap fun y =>
    (List.range h.width).flatMap fun x => leBytes 2 (src v c x y)

/-- R242: the frame that frame `f` of a job predicts from, when it is not KEY and INTERFRAME is allowed: its source address when it
lies in memory (REF_ADDR for frame 0, source frame f − 1 for a resumed job), and its samples. -/
def compRef (s : State) (e : List Byte) (h : FrameHdr) (f base raw : Nat) (prev : Option (Nat → Nat → Nat → Nat → Nat)) :
    Option (Option Nat × (Nat → Nat → Nat → Nat → Nat)) :=
  let from_ : Nat → Option (Option Nat × (Nat → Nat → Nat → Nat → Nat)) := fun a =>
    some (some a, fun v c x y => rawValue e h.bd (rawSample s (jobFlag e 8) e a h.c h.height v c x y))
  if h.key || !jobFlag e 15 then none
  else match prev with
    | some p => some (none, p)
    | none => if f = 0 then (if jobFlag e 13 then from_ (leAt e 24 8) else none) else from_ (base - raw)

/-- The tiles of an emitted frame that end within `room` bytes of its start: those verified before a limit stops it (R243, R246). -/
def tilesWithin (p : FrameParts) (room : Nat) : List Nat :=
  (List.range p.tiles.length).filter fun i =>
    decide (p.head + ((p.tiles.take (i + 1)).map fun t => t.1.length).foldl (· + ·) 0 ≤ room)

/-- Output that would reach `out` bytes passes a limit, OUT_LIMIT (0: none) or the destination space. -/
def pastLimit (lim room out : Nat) : Bool := decide (lim ≠ 0 ∧ lim < out) || decide (room < out)

/-- The limit that such output passes first as it is written, OUT_LIMIT where both lie at one byte (R243, R250). -/
def limitStatus (lim room out : Nat) : Nat := if lim ≠ 0 ∧ lim < out ∧ lim ≤ room then 0x06 else 0x07

/-- R240, R243, R246, R247: codes frames `f`, f + 1, … of a job, at most `fuel` of them. With `rawFails` the RAW tile of the last
mismatch of `mism` fails too. DESIGN CHOICE: of a frame that a limit stops, the mismatches of the tiles that end within the limit
are found. -/
def compN (j : Job) (segs : List (Nat × Nat)) (mism : List Nat) (rawFails : Bool) (first : Nat) :
    Nat → Nat → Comping → Comping × JobStop
  | 0, f, d => (d, ⟨0, 0, f, 0, []⟩)
  | fuel + 1, f, d =>
    let e := j.entry
    let m := lastMark d.marks
    let host := jobFlag e 8
    let h := compressHdr e f first
    let raw := rawFrame h.npic h.c h.height (jobPitch e)
    let base := leAt e 8 8 + f * raw
    let s := spaceTouch d.s host base raw
    let src := fun v c x y => rawValue e h.bd (rawSample d.s host e base h.c h.height v c x y)
    let ref := compRef d.s e h f base raw d.prev
    let refBad := match ref with | some (some a, _) => spaceBad d.s host a raw | _ => false
    if spaceBad d.s host base raw || refBad then ({ d with s := s }, ⟨0x0E, 0, f, 0, []⟩)
    else if !jobPacked e && ((List.range h.tileCount).any fun i => (sourceTile h src i).any fun l => l.any fun v => decide (2 ^ h.bd ≤ v)) then
      ({ d with s := s }, ⟨0x08, 0x20, f, 0, []⟩)
    else
      let fixes := fixesOf mism h.tileCount f
      let name : Nat → Nat := fun i => f * 2 ^ 24 + i % 2 ^ 24
      let try_ := Config.compressFrame ((e.drop 52).take 28) (planeBytes h src) ((ref.map fun r => planeBytes h r.2).getD []) f fixes
      let nd : ShuocNeeds := ⟨true, false, true, true, true, [0, 1, 2, 3, 4, 5, 6]⟩
      let bytes := if conforms nd e h src (ref.map (·.2)) fixes try_ then try_ else allRaw h src
      let out := m.out + bytes.length
      let room := outSpace segs
      let lim := leAt e 40 4
      let partialOut := fun (s : State) => (outWrite (jobFlag e 9) segs s m.out
        (freeBytes s (min bytes.length ((if lim ≠ 0 then min lim room else room) - m.out)))).useFree
      let parts := frameParts nd (fun _ => true) bytes
      let past := pastLimit lim room out
      let seen := if past then
          (match parts with
           | .ok p => let w := tilesWithin p ((if lim ≠ 0 then min lim room else room) - m.out); fixes.filter fun i => w.contains i
           | .error _ => [])
        else fixes
      let failed := if rawFails then mism.getLast?.filter fun k => decide (k / h.tileCount = f) && seen.contains (k % h.tileCount) else none
      match failed with
      | some k =>
        let bad := k % h.tileCount
        ({ d with s := partialOut s },
          ⟨0x0E, 0, f, 0, ((seen.filter fun i => decide (i ≠ bad)).map fun i => (name i, false)) ++ [(name bad, true)]⟩)
      | none =>
        if past then
          ({ d with s := partialOut s }, ⟨limitStatus lim room out, 0, f, 0, seen.map fun i => (name i, false)⟩)
        else
          let s := outWrite (jobFlag e 9) segs s m.out bytes
          let prev : Option (Nat → Nat → Nat → Nat → Nat) :=
            match parts with
            | .ok p =>
              some (frameSample p.hdr
                (decodeTiles nd p.hdr ref.isSome ((ref.map (·.2)).getD fun _ _ _ _ => 0) 0 p.tiles p.dirs [] none).1)
            | .error _ => none
          compN j segs mism rawFails first fuel (f + 1)
            ⟨s, d.marks ++ [⟨0, out, 0, m.samples + h.samples, m.fixed + fixes.length, fixes.map name⟩], prev⟩

/-- The sequence header that stands before frame 0 (R233). -/
def seqHeader (e : List Byte) : List Byte := [0x53, 0x48, 0x55, 0x43, 1, 0, 0, 0] ++ beBytes 4 (jobFrames e) ++ [0, 0, 0, 0]

/-- R240: runs a COMPRESS job. The sequence header stands before frame 0 (R245: not in a continuation). -/
def runComp (s : State) (j : Job) (mism : List Nat) (rawFails : Bool) : State × JobRun :=
  let e := j.entry
  let segs := outSegs s e
  let cont := jobFlag e 12
  let first := if cont then leAt e 48 3 else 0
  let seqHdr : List Byte := if cont then [] else seqHeader e
  let m0 : JobMark := ⟨if cont then leAt e 44 4 else 0, seqHdr.length, 0, 0, 0, []⟩
  let chk := tokenCheck s e true
  if pastLimit (leAt e 40 4) (outSpace segs) seqHdr.length then
    (s, ⟨j, first, chk, [{ m0 with out := 0 }], limitStatus (leAt e 40 4) (outSpace segs) seqHdr.length, 0, [], (0, 0)⟩)
  else
    let s := outWrite (jobFlag e 9) segs s 0 seqHdr
    let got := compN j segs mism rawFails first (jobFrames e - first) first ⟨s, [m0], none⟩
    let d := got.1
    let stop := got.2
    (d.s, ⟨j, first, chk, d.marks.map fun m => { m with off := m0.off + m.out }, stop.status, stop.code, stop.tail, (stop.frame, stop.tile)⟩)

/-! ### Engines (R231, R248 to R251) -/

/-- A job engine beyond its registers. -/
def engOf (s : State) (j : Nat) : EngineSt := tabGet (fun _ => ⟨none, 0⟩) s.eng j

/-- The state with a job engine's internal part. -/
def putEng (s : State) (j : Nat) (e : EngineSt) : State := { s with eng := tabSet (fun _ => ⟨none, 0⟩) s.eng j e }

/-- The mismatches of the frame in which a job ends with `status`: those of the frame at which it stops by itself (R246). -/
def tailOf (r : JobRun) (status : Nat) : List (Nat × Bool) := if status = r.status then r.tail else []

/-- The tiles that a job fixed (R246) when it ends with `status` after mark `m`. -/
def fixedOf (r : JobRun) (status : Nat) (m : JobMark) : Nat := m.fixed + ((tailOf r status).filter fun q => !q.2).length

/-- R251: JOB0 to JOB3 of a job that stops with `status` after mark `k`. The token comes with every stop of R245 and with
MEDIA_ERROR (R224). -/
def jobWords (r : JobRun) (status code k : Nat) : List Word :=
  let m := r.marks.getD k ⟨0, 0, 0, 0, 0, []⟩
  let stopped := decide (status = 0x06 ∨ status = 0x07 ∨ status = 0x0F ∨ status = 0x02 ∨ status = 0x0E)
  let j0 := (r.first + k) + (if status = 8 then code else min 255 (fixedOf r status m)) * 2 ^ 24
  let j1 := if leAt r.job.entry 0 1 = 3 then ~~~m.crc else w32 m.out
  [w32 j0, j1, if stopped then w32 m.off else 0, if stopped then w32 (r.first + k + r.check * 2 ^ 24) else 0]

/-- What a job reports of its frames up to mark `k` (R239, R246): the mismatches, and the stream error that ends it. DESIGN CHOICE:
they are reported when its outcome is decided. -/
def jobReports (s : State) (eng : Fin 8) (r : JobRun) (status code k : Nat) : State :=
  let s := noteFixes s eng r.job
    (((r.marks.take (k + 1)).flatMap fun m => m.notes.map fun i => (i, false)) ++ tailOf r status)
  if status = 8 then s.raise (.jobStreamError eng) [w32 r.job.ring, r.job.index, w32 r.err.1, w32 (r.err.2 + code * 2 ^ 24)] else s

/-- R249, R251: the outcome of an engine's running job is decided after mark `k`. -/
def endJob (s : State) (eng : Nat) (r : JobRun) (status code k : Nat) : State :=
  let m := r.marks.getD k ⟨0, 0, 0, 0, 0, []⟩
  let s := jobReports s (Fin.ofNat 8 eng) r status code k
  let fixed := fixedOf r status m
  let status := if status = 0 ∧ m.fixed ≠ 0 then 9 else status
  let s := putEng s eng { engOf s eng with run := none }
  let s := (s.wr (Reg.CJE_ENGINE_STATUS eng) 0).wr (Reg.CJE_CUR_INDEX eng) 0
  let s := s.inc48 (Reg.CJE_JOBS_LO eng) (Reg.CJE_JOBS_HI eng) 1
  let s := s.inc48 (Reg.CJE_SAMPLES_LO eng) (Reg.CJE_SAMPLES_HI eng) m.samples
  let s := perfHit (perfHit s 0x31 eng 0x10 m.samples) 0x31 eng 0x11 fixed
  finishJob s r.job status (jobWords r status code k)

/-- The frame of the job's stream error is complete: a tile-scope error (R239). -/
def errWhole (r : JobRun) : Bool := decide (r.status = 8 ∧ r.err.1 + 2 = r.first + r.marks.length)

/-- The stops that a job with these frames can make: after a mark before its own outcome is decided; and, the number of marks, at
its own poison or stream error, which goes before the stop (R249, R250). -/
def stopPoints (r : JobRun) : Nat :=
  if r.status = 0x0E then r.marks.length + 1
  else if r.status = 8 then (if errWhole r then r.marks.length else r.marks.length + 1)
  else if r.status = 0 then max 1 (r.marks.length - 1)
  else r.marks.length

/-- The stop points of a job: where a stop that arrives now takes it, a free value within those it can make (R248 to R250). -/
def stopPoint (s : State) (r : JobRun) : Nat := (Config.freeWord s.freeCount).toNat % stopPoints r

/-- A stop that arrives now comes after the job's own poison or stream error: the job keeps its own outcome (R112, R249, R250). -/
def ownOutcome (s : State) (r : JobRun) : Bool :=
  decide (stopPoint s r = r.marks.length) || (errWhole r && decide (stopPoint s r = r.marks.length - 1))

/-- A job stopped before its outcome was decided (R248 to R250): how many whole frames it has reached is not stated, so
that number is a free value within the frames it can produce, and the output after the last of them is free. -/
def stopJob (s : State) (eng : Nat) (r : JobRun) (status : Nat) : State :=
  let p := stopPoint s r
  let own := ownOutcome s r
  let s := s.useFree
  if own then endJob s eng r r.status r.code (r.marks.length - 1)
  else
    let a := (r.marks.getD p ⟨0, 0, 0, 0, 0, []⟩).out
    let n := (lastMark r.marks).out - a
    let s := if leAt r.job.entry 0 1 = 3 then s
      else (outWrite (jobFlag r.job.entry 9) (outSegs s r.job.entry) s a (freeBytes s n)).useFree
    endJob s eng r status 0 p

/-- The progress of a job before its first frame, for a job that reads a poisoned segment list (R224). -/
def startRun (s : State) (j : Job) : JobRun :=
  let e := j.entry
  let cont := jobFlag e 12
  let comp := decide (leAt e 0 1 = 2)
  ⟨j, if cont then leAt e 48 3 else 0, tokenCheck s e comp, [⟨if cont then leAt e 44 4 else if comp then 0 else 16, 0, 0, 0, 0, []⟩],
    0x0E, 0, [], (0, 0)⟩

/-- Starts an accepted job on a free engine: refused at acceptance (R232, R236), or run. -/
def startJob (s : State) (eng : Fin 8) (j : Job) (mism : List Nat) (rawFails : Bool) : State :=
  match jobRefusal s eng j.entry with
  | some st => finishJob s j st (if st = 0x0E then jobWords (startRun s j) 0x0E 0 0 else [])
  | none =>
    let op := leAt j.entry 0 1
    let got := if op = 2 then runComp s j mism rawFails else runDecomp s j (decide (op = 3))
    let s := got.1
    let r := got.2
    let s := putEng s eng ⟨some r, j.ring⟩
    (s.wr (Reg.CJE_ENGINE_STATUS eng) (w32 (j.ring + 0x10000))).wr (Reg.CJE_CUR_INDEX eng) j.index

/-- The enabled rings that a job engine serves, starting after the one served last (R231). -/
def engRings (s : State) (eng : Nat) : List Nat :=
  let l := (enabledRings s).filter fun r => decide (ringType s r = 0x02 ∧ ringOwner s r = (0x31, eng))
  let last := (engOf s eng).last
  l.filter (fun r => decide (last < r)) ++ l.filter fun r => decide (r ≤ last)

end Sys2Proof.Machine
end

