-- ==== Sys2Proof/Machine/Writeback.lean ====
section
/-!
DEFINITION. Writeback (R324 to R330): capture of lines, buffers in rotation, REGION and FIELD_END records. DESIGN CHOICE (log
entry 31): the lines of a region are held as captured and reach memory when the region completes.
-/
namespace Sys2Proof.Machine

/-! ### Registers in effect for a captured field -/

/-- A register in effect for the field. -/
def WbField.c (w : WbField) (a : Nat) : Word := tabGet Reg.reset w.cfg a

/-- A field of a register in effect. -/
def WbField.f (w : WbField) (a lo len : Nat) : Nat := fld (w.c a) lo len

/-- Active width and lines. -/
def WbField.width (w : WbField) (h : Nat) : Nat := w.f (Reg.HEAD_H_ACTIVE h) 0 16
def WbField.height (w : WbField) (h : Nat) : Nat := w.f (Reg.HEAD_V_LINES h) 0 16

/-- COMPRESS. -/
def WbField.comp (w : WbField) (h : Nat) : Bool := bit (w.c (Reg.HEAD_WB_CFG h)) 3

/-- TAP. -/
def WbField.tap (w : WbField) (h : Nat) : Nat := w.f (Reg.HEAD_WB_CFG h) 1 2

/-- Bits of a sample by TAP (R324, R327): 12, the panel depth, or the received depth that RX_FRAME gave. -/
def WbField.bits (w : WbField) (h : Nat) : Nat :=
  if w.tap h = 0 then 12
  else if w.tap h = 1 then 8 + 2 * w.f (Reg.OUT_OUT_CFG h) 0 2
  else 8 + 2 * w.f (Reg.ZL_RX_FRAME h) 0 2

/-- Regions of a field of `v` lines, and the lines of region `r` (R326). -/
def wbRegions (v : Nat) : Nat := (v + 255) / 256
def wbRegionLines (v r : Nat) : Nat := min 256 (v - 256 * r)

/-- The address of the field's buffer (R325). -/
def WbField.base (w : WbField) (h : Nat) : Nat :=
  (w.c (Reg.HEAD_WB_BASE_HI h)).toNat * 2 ^ 32 + (w.c (Reg.HEAD_WB_BASE_LO h)).toNat +
    w.buf * ((w.c (Reg.HEAD_WB_STRIDE h)).toNat * 2 ^ 20)

/-- Bytes of a buffer. -/
def WbField.space (w : WbField) (h : Nat) : Nat := (w.c (Reg.HEAD_WB_STRIDE h)).toNat * 2 ^ 20

/-- The WRITEBACK ring. -/
def WbField.ring (w : WbField) (h : Nat) : Nat := w.f (Reg.HEAD_WB_RING h) 0 13

/-- R325: the LB bytes of a line. -/
def wbRow (l : List Nat) : List Byte := rowBytes true 12 l

/-! ### Compressed fields (R327) -/

/-- The frame header of a compressed field, without its size. -/
def WbField.hdr (w : WbField) (h : Nat) : FrameHdr :=
  let g : FrameHdr := ⟨true, true, w.bits h, 3, w.width h, w.height h, 1, 6, 6, [0, 0, 0, 0], [], 0, 0⟩
  { g with tileCount := g.ty * g.tx }

/-- What writeback emits: static tables, NEAR 0, the modes of R327. -/
def wbNeeds : ShuocNeeds := ⟨true, true, false, false, false, [0, 1, 3, 6]⟩

/-- A coded tile: what the compressor chose when it reproduces the samples, else and where verification fixed it RAW. -/
def wbTile (f : FrameHdr) (src : Nat → Nat → Nat → Nat → Nat) (fixed : Bool) (i : Nat) : List Byte :=
  let g := tileGeom f i
  let comps := sourceTile f src i
  let raw := rawTile f g comps
  let t := Config.codeTile f.bd g.tw g.th raw
  let good := match decodeTile wbNeeds f i true false (fun _ _ _ _ _ => 0) t with
    | .ok l => decide (l = comps ∧ beAt t 0 3 = t.length)
    | .error _ => false
  if fixed || !good then raw else t

/-- The tile indices of region `r`: tile rows 4r to 4r + 3. -/
def wbRegionTiles (f : FrameHdr) (r : Nat) : List Nat := (List.range f.tileCount).filter fun i => decide (i / f.tx / 4 = r)

/-- Offset of the tile group in a compressed buffer. -/
def wbGroupOff (f : FrameHdr) : Nat := 16 + f.size + 4 * f.tileCount

/-- The sequence header, frame header and directory, written after the last tile. -/
def wbHead (f : FrameHdr) (tiles : List (List Byte)) : List Byte :=
  [0x53, 0x48, 0x55, 0x43, 1, 0, 0, 0] ++ beBytes 4 1 ++ beBytes 4 (wbGroupOff f + tiles.flatten.length) ++
    hdrBytes f tiles.flatten.length ++ dirBytes 0 tiles

/-! ### State -/

/-- Writeback of head `h`. -/
def wbOf (s : State) (h : Nat) : WbSt := (headOf s h).wb

/-- The state with a head's writeback. -/
def putWb (s : State) (h : Nat) (w : WbSt) : State := putHead s h { headOf s h with wb := w }

/-- WB_STATUS follows the writeback (R332). -/
def showWb (s : State) (h : Nat) : State :=
  let w := wbOf s h
  let n := max 1 (fld (s.inEff (Reg.HEAD_WB_NBUF h)) 0 5)
  let next := match w.prev with | some p => (p + 1) % n | none => 0
  let a := Reg.HEAD_WB_STATUS h
  ((s.setB a 0 w.capturing).setB a 1 w.armed).setF a 4 4 next

/-- Records of fields in progress that are not yet on the ring. -/
def wbOwed (h : Nat) (l : List WbField) : Nat := (l.map fun w => wbRegions (w.height h) - w.region + 1).foldl (· + ·) 0

/-! ### The latch (R328, R329) -/

/-- The buffer that follows in rotation. -/
def wbNext (w : WbSt) (nbuf : Nat) : Nat := match w.prev with | some p => (p + 1) % nbuf | none => 0

/-- R328: why a field is skipped, 0 when it is written. -/
def wbSkip (s : State) (h : Nat) (F : FieldSt) (b : Nat) : Nat :=
  let w := wbOf s h
  let r := F.f (Reg.HEAD_WB_RING h) 0 13
  let free := !(w.fields.any fun x => decide (x.buf = b)) &&
    (match tabGet (fun _ => none) w.used b with
     | none => true
     | some (q, ep, p) => decide (ringEpoch s q ≠ ep) || !before (s.rd (Reg.RING_CONS q)) p)
  if 1 ≤ s.f Reg.THERM_LEVEL 0 4 then 3
  else if !free then 1
  else if ringCount s r < ringFill s r + wbOwed h w.fields + wbRegions (F.vActive h) + 1 then 2
  else 0

/-- A new capture takes effect at a latch (R329). -/
def wbStart (h : Nat) (F : FieldSt) (trigger : Bool) (w : WbSt) : WbSt :=
  let en := F.b (Reg.HEAD_WB_CFG h) 0
  let trig := F.b (Reg.HEAD_WB_CFG h) 4
  let count := F.f (Reg.HEAD_WB_CFG h) 16 16
  let fresh := en && !w.seen
  let armed := en && trig && (fresh || w.armed)
  let start := (fresh && !trig) || (armed && trigger)
  let w := { w with seen := en, armed := armed && !trigger, capturing := w.capturing && en && decide (w.left ≠ some 0) }
  if start then
    { w with capturing := true, left := if count = 0 then none else some count }
  else w

/-- R328: the field `F`, which a latch has begun, is captured or skipped. -/
def wbField (s : State) (h : Fin 4) (F : FieldSt) : State × FieldSt :=
  let w := wbOf s h
  let b := wbNext w (max 1 (F.f (Reg.HEAD_WB_NBUF h) 0 5))
  let r := wbSkip s h F b
  let w := { w with left := w.left.map (· - 1) }
  if r = 0 then
    let frame := match F.scene with | some f => f.num | none => 0
    let x : WbField := ⟨F.num, b, F.cfg, [], 0, [], 0, 0, 0, frame, 0xFFFFFFFF, 0, 0⟩
    (putWb s h { w with prev := some b, fields := w.fields ++ [x] }, { F with wb := some b })
  else
    let s := putWb s h { w with skips := w.skips + 1 }
    let s := (s.inc (Reg.HEAD_WB_SKIPPED h)).setF (Reg.HEAD_WB_STATUS h) 8 2 r
    (s.raise (.wbSkippedField h) [w32 r, s.rd (Reg.HEAD_WB_SKIPPED h)], F)

/-- Order 7 of R346 for writeback, at the latch that begins field `F`. -/
def wbLatch (s : State) (h : Fin 4) (F : FieldSt) : State × FieldSt :=
  let s := putWb s h (wbStart h F (headOf s h).trigger (wbOf s h))
  let s := putHead s h { headOf s h with trigger := false }
  let p := if (wbOf s h).capturing then wbField s h F else (s, F)
  (showWb p.1 h, p.2)

/-! ### Capture -/

/-- Captures a line of field `num`. -/
def wbCapture (s : State) (h : Nat) (num : Word) (l : WbLine) : State :=
  let w := wbOf s h
  putWb s h { w with fields := w.fields.map fun x =>
    if x.num = num then { x with lines := x.lines ++ [l], mask := x.mask ||| l.mask } else x }

/-- The samples of a line whose composition was abandoned (R350): the spec does not say what is written. -/
def freeSamples (s : State) (n bits : Nat) : List Nat :=
  (List.range n).map fun i =>
    ((Config.freeByte s.freeCount (2 * i)).toNat + 256 * (Config.freeByte s.freeCount (2 * i + 1)).toNat) % 2 ^ bits

/-- The field start stamps the field (R330). -/
def wbStamp (s : State) (h : Nat) (num : Word) : State :=
  let w := wbOf s h
  putWb s h { w with fields := w.fields.map fun x => if x.num = num then { x with stamp := s.ns32 } else x }

/-- A field in capture that will not be complete: its further records carry ABORTED (R330, R338). -/
def WbField.abandon (x : WbField) (h : Nat) : WbField :=
  if x.region * 256 + x.lines.length < x.height h then { x with status := 0x02 } else x

/-- The fields in capture are abandoned. -/
def wbAbandon (s : State) (h : Nat) : State :=
  let w := wbOf s h
  putWb s h { w with fields := w.fields.map (·.abandon h) }

/-- R338: the records of a field that is not sent carry ABORTED, and capture ends. -/
def wbAbort (s : State) (h : Nat) : State :=
  let s := wbAbandon s h
  showWb (putWb s h { wbOf s h with capturing := false, armed := false, seen := false }) h

/-! ### Regions (R326, R327, R330) -/

/-- The captured lines of a region, ascending. -/
def wbLinesOf (w : WbField) (r : Nat) : List WbLine := w.lines.filter fun l => decide (l.line / 256 = r)

/-- Every line of the region has been produced, or none will be any more. -/
def wbRegionReady (w : WbField) (h : Nat) : Bool :=
  w.status = 0x02 || decide ((wbLinesOf w w.region).length = wbRegionLines (w.height h) w.region)

/-- A sample of the captured lines. -/
def wbSample (l : List WbLine) (x y ch : Nat) : Nat :=
  match l.find? fun k => decide (k.line = y) with | some k => k.samples.getD (3 * x + ch) 0 | none => 0

/-- Stores the first pieces. -/
def wbStore (s : State) (l : List (Nat × List Byte)) : State := l.foldl (fun s p => hbmWrite s 4 p.1 p.2) s

/-- Bytes of pieces. -/
def wbSize (l : List (Nat × List Byte)) : Nat := (l.map fun p => p.2.length).foldl (· + ·) 0

/-- Places coded tiles one after another. -/
def wbPlace : Nat → List (List Byte) → List (Nat × List Byte)
  | _, [] => []
  | a, t :: l => (a, t) :: wbPlace (a + t.length) l

/-- A record of 64 bytes (R330). -/
def wbRecord (s : State) (ring kind status : Nat) (seq : Word) (l : List Word) : List Byte :=
  wordsBytes ([w32 (kind + ringPhase s ring * 32768 + status * 65536), seq] ++ l)

/-- What the completion of a region makes of the field: the state after the writes, the field, and the words of its
REGION record from STAMP on with its status. -/
def wbRegion (s : State) (h : Fin 4) (w : WbField) (accepted : Bool) (mism : List Nat) : State × WbField × Nat × List Word :=
  let r := w.region
  let ls := wbLinesOf w r
  let n := wbRegionLines (w.height h) r
  let raw := ls.flatMap fun l => wbRow l.samples
  let crcRaw := crc32c raw
  let f := w.hdr h
  let idx := if w.comp h then wbRegionTiles f r else []
  let fixes := if accepted && decide (w.status = 0) then idx.filter mism.contains else []
  let tiles := idx.map fun i => wbTile f (fun _ c x y => wbSample ls x y c) (fixes.contains i) i
  let off := w.base h + wbGroupOff f + w.tiles.flatten.length
  let pieces := if w.comp h then wbPlace off tiles
    else ls.map fun l => (w.base h + l.line * (w.c (Reg.HEAD_WB_PITCH h)).toNat, wbRow l.samples)
  let full := w.comp h && decide (w.space h < wbGroupOff f + w.tiles.flatten.length + tiles.flatten.length)
  let st := if w.status ≠ 0 then w.status else if !accepted then 0x0F else if full then 0x07 else 0
  let stamp := match ls.getLast? with | some l => l.stamp | none => s.ns32
  let mask := (ls.map (·.mask)).foldl (· ||| ·) 0
  let first := decide (w.status = 0)
  let left := w.lines.filter fun l => decide (l.line / 256 ≠ r)
  let w := { w with region := r + 1, lines := left, status := st, crc := crcRun w.crc raw }
  let rec_ := fun (c1 c2 : Word) => [stamp, w32 (r + n * 65536), c1, c2, w32 w.buf, w.frame, w32 mask, 0, 0, 0, 0, 0, 0]
  if st = 0 then
    let s := wbStore s pieces
    let s := fixes.foldl (fun s i => (s.inc (Reg.HEAD_WB_VERIFY_FIXED h)).raise (.wbVerifyMismatch h) [w.num, w32 i]) s
    (s, { w with tiles := w.tiles ++ tiles, fixed := w.fixed + fixes.length, bytes := w.bytes + wbSize pieces }, 0,
      rec_ crcRaw (if w.comp h then crc32c tiles.flatten else crcRaw))
  else if st = 0x07 then
    let s := if first then s.raise (.wbOutOfSpace h) [w.num, w32 r] else s
    (s.useFree, w, st, rec_ crcRaw (Config.freeWord s.freeCount))
  else
    let k := (Config.freeWord s.freeCount).toNat % (pieces.length + 1)
    let part := if first ∨ st = 0x02 then pieces.take k else []
    let s := wbStore s.useFree part
    let c := if ls.length = n then crcRaw else Config.freeWord s.freeCount
    (s.useFree, { w with bytes := w.bytes + wbSize part }, st, rec_ c (if w.comp h then Config.freeWord s.freeCount else c))

/-- The FIELD_END record of a field all of whose regions are recorded: the state with it on the ring, if it has room. -/
def wbFieldEnd (s : State) (h : Fin 4) (w : WbField) : State :=
  let b := wbOf s h
  let r := w.ring h
  let s := if w.status = 0 ∧ w.comp h then hbmWrite s 4 (w.base h) (wbHead (w.hdr h) w.tiles) else s
  let bytes := if w.status = 0 ∧ w.comp h then w.bytes + wbGroupOff (w.hdr h) else w.bytes
  let open_ := decide (w.status = 0x02)
  let crc := if open_ then Config.freeWord s.freeCount else ~~~w.crc
  let s := if open_ then s.useFree else s
  match ringPush s r (wbRecord s r 2 w.status b.seq
      [w.num, w.stamp, w32 (wbRegions (w.height h)), crc, w32 bytes, w32 w.buf, w.frame, w32 w.mask, w32 b.skips, w32 w.fixed,
        0, 0, 0, 0]) with
  | none => s
  | some s =>
    let s := ringUnstall s r
    let used := tabSet (fun _ => none) b.used w.buf (some (r, ringEpoch s r, s.rd (Reg.RING_PROD r)))
    let s := putWb s h { b with seq := b.seq + 1, skips := 0, fields := b.fields.drop 1, used := used }
    let s := if w.status = 0 then s.inc (Reg.HEAD_WB_FIELDS h) else s
    s.wr (Reg.HEAD_WB_LAST_FIELD h) w.num

/-- The ring can take `n` more records. -/
def wbRoom (s : State) (r n : Nat) : Bool := ringEnabled s r && decide (ringFill s r + n ≤ ringCount s r)

/-- The first field in writeback completes its next region (R330). -/
def wbComplete (s : State) (h : Fin 4) (accepted : Bool) (mism : List Nat) : State :=
  match (wbOf s h).fields with
  | [] => s
  | w :: _ =>
    let r := w.ring h
    let all := wbRegions (w.height h)
    if w.region < all then
      if !wbRegionReady w h then s
      else if !wbRoom s r 1 then ringStall s r
      else
        let got := wbRegion s h w accepted mism
        let s := got.1
        let x := got.2.1
        let st := got.2.2.1
        let words := got.2.2.2
        let b := wbOf s h
        match ringPush s r (wbRecord s r 1 st b.seq (w.num :: words)) with
        | none => s
        | some s =>
          let s := putWb (ringUnstall s r) h { b with seq := b.seq + 1, fields := b.fields.map fun y => if y.num = w.num then x else y }
          if x.region < all then s else if wbRoom s r 1 then wbFieldEnd s h x else ringStall s r
    else if wbRoom s r 1 then wbFieldEnd s h w else ringStall s r

/-- WRITEBACK_REGION_COMPLETE (R330). -/
def execWritebackRegionComplete (h : Fin 4) (accepted : Bool) (mismatches : List Nat) (s : State) :
    Host.Outcome State Fault Refusal :=
  .next (wbComplete s h accepted mismatches)

end Sys2Proof.Machine
end

