-- ==== Sys2Proof/Machine/Link.lean ====
section
/-!
DEFINITION. The Zalen link: training, lane failures, shift sparing, lane commands and PRBS (R366 to R390, R396, R397). The
sideband is in Sideband.lean. Commands name lanes by logical number, which is the register index.
-/
namespace Sys2Proof.Machine

/-! ### A head follows its lanes (R335, R337) -/

/-- The head has left ACTIVE: it produces nothing more (R336). DESIGN CHOICE (log entry 30): the fields in production and in capture
are abandoned as under R338. -/
def leaveActive (s : State) (h : Fin 4) : State :=
  let s := glintAbandon (wbAbandon s h) h
  let t := headOf s h
  let s := putHead s h { t with cur := { t.cur with produced := false }, nxt := { t.nxt with produced := false }, band := [] }
  s.setB (Reg.RGU_RGU_STATUS h) 3 false

/-- A head follows its lanes: TRAINING to ACTIVE (R335), ACTIVE to TRAINING when no configured lane is left (R337). A RECEIVE head
waits for a field in TRAINING (R334). -/
def headFollows (s : State) (h : Fin 4) : State :=
  let st := headState s h
  if st = 2 ∧ allLanesUp s h ∧ (headOf s h).run then
    let f := nextLatchField s h
    let s := setHeadState s h 3
    let s := if s.b (Reg.HEAD_COMMIT h) 0 then s.wr (Reg.HEAD_COMMIT_FIELD h) f else s
    s.raise (.headActive h) [f]
  else if st = 3 ∧ !anyMappedUp s h then
    let s := leaveActive (setHeadState s h 2) h
    let s := if s.b (Reg.HEAD_COMMIT h) 0 then s.wr (Reg.HEAD_COMMIT_FIELD h) 0xFFFFFFFF else s
    (s.tell (.head h)).raise (.headLeftActive h) [s.rd (Reg.HEAD_FIELD h), s.rd (Reg.HEAD_LINE h)]
  else if st = 1 ∧ roleCode s (headBase h) = 2 ∧ allLanesUp s h then setHeadState s h 2
  else s

/-! ### Changes of lanes (R378, R390) -/

/-- The time for which the gap has been unhealthy while the head is ACTIVE (R390). -/
def watchGap (s : State) (h : Nat) : State :=
  let l := linkOf s h
  if laneUp s h (gapLane s h) ∨ headState s h ≠ 3 then putLink s h { l with gapBad := none, gapTold := false }
  else if l.gapBad.isNone then putLink s h { l with gapBad := some s.now }
  else s

/-- The lanes of a head have changed: registers, head state and gap follow. -/
def lanesMoved (s : State) (h : Fin 4) : State := watchGap (headFollows (showLanes s h) h) h

/-- SPARE_UNAVAILABLE (R390). -/
def spareGone (s : State) (h : Fin 4) : State :=
  let g := gapLane s h
  s.raise (.spareUnavailable h) [w32 g, s.rd (Reg.ZL_LANE_STATUS h g)]

/-- A lane goes to DARK (R378, R390). -/
def laneDark (s : State) (h : Fin 4) (n : Nat) (first : Bool) : State :=
  let s := enterLane s h n 6
  let s := if first then s.raise (.laneDark h) [w32 n, w32 (s.f (Reg.ZL_LANE_STATUS h n) 20 4)] else s
  if first && decide (gapLane s h = n) then spareGone s h else s

/-- A round of a lane fails (R378). -/
def roundFail (s : State) (h : Fin 4) (n reason : Nat) : State :=
  let a := Reg.ZL_LANE_STATUS h n
  let st := laneState s h n
  let dark := (laneOf s h n).dark || decide (st = 6)
  let s := s.setF a 20 4 reason
  let s := s.setF a 16 2 (min 3 (s.f a 16 2 + 1))
  let s := s.raise (.laneTrainFail h) [w32 n, w32 st, w32 reason, w32 (s.f a 16 2)]
  let s := if dark then laneDark s h n false
    else if 3 ≤ s.f a 16 2 then laneDark s h n true
    else enterLane s h n 0
  lanesMoved s h

/-- A lane in ACTIVE fails or leaves ACTIVE (R378, R387): it goes to `st`, and a group that it carried waits for a move (R388). A receiving
head makes no move: it follows the mapping of the far end. -/
def laneFails (s : State) (h : Fin 4) (n reason st : Nat) : State :=
  if !laneUp s h n then s
  else
    let had := (carried s h n).isSome && decide (laneRole s h n ≠ 2)
    let s := s.setF (Reg.ZL_LANE_STATUS h n) 20 4 reason
    let s := enterLane s h n st
    let l := linkOf s h
    let s := if had then putLink s h { l with fails := l.fails ++ [(n, reason, s.now)] } else s
    lanesMoved s h

/-- The same, with the orientation ended where no lane is left in ACTIVE (R379). -/
def laneFail (s : State) (h : Fin 4) (n reason st : Nat) : State :=
  if laneUp s h n then clearOrientation (laneFails s h n reason st) h else s

/-! ### Ports and reports (R377, R379, R392) -/

/-- The ports at a logical position: (group, port B). -/
def posPorts (pos : Nat) : List (Nat × Bool) := (if pos ≤ 11 then [(pos, false)] else []) ++ (if 1 ≤ pos then [(pos - 1, true)] else [])

/-- The last STATUS payload of a group. -/
def reportOf (s : State) (h g : Nat) : List Byte := tabGet (fun _ => []) (linkOf s h).status g

/-- A bit of byte 0 of a group's report. -/
def repBit (b : List Byte) (i : Nat) : Bool := leAt b 0 1 / 2 ^ i % 2 = 1

/-- What a port reports: lock, inversion, descrambler, lane id, figure of merit. -/
def portLock (s : State) (h : Nat) (p : Nat × Bool) : Bool := repBit (reportOf s h p.1) (if p.2 then 1 else 0)
def portInv (s : State) (h : Nat) (p : Nat × Bool) : Bool := repBit (reportOf s h p.1) (if p.2 then 3 else 2)
def portDescr (s : State) (h : Nat) (p : Nat × Bool) : Bool := repBit (reportOf s h p.1) (if p.2 then 5 else 4)
def portId (s : State) (h : Nat) (p : Nat × Bool) : Nat := leAt (reportOf s h p.1) (if p.2 then 2 else 1) 1
def portFom (s : State) (h : Nat) (p : Nat × Bool) : Nat := leAt (reportOf s h p.1) (if p.2 then 7 else 6) 1

/-- The ports at a position that report lock. -/
def lockedPorts (s : State) (h pos : Nat) : List (Nat × Bool) := (posPorts pos).filter (portLock s h)

/-- The orientation is fixed; the head is REVERSED. -/
def oriented (s : State) (h : Nat) : Bool := s.b (Reg.ZL_SPARE_STATUS h) 6
def reversed (s : State) (h : Nat) : Bool := s.b (Reg.ZL_SPARE_STATUS h) 5

/-- The position at which lane `n` is heard in TRAIN_A: its own once the orientation is fixed, else the one whose ports see
its physical number. -/
def heardAt (s : State) (h n : Nat) : Nat :=
  if oriented s h then n
  else if (lockedPorts s h n).any fun p => decide (portId s h p = n) then n
  else if (lockedPorts s h (12 - n)).any fun p => decide (portId s h p = n) then 12 - n
  else n

/-- The present ports of a lane in its round (R377). A lane that resumes from standby is heard where its orientation puts it. -/
def presentPorts (s : State) (h n : Nat) : List (Nat × Bool) :=
  let x := laneOf s h n
  let pos := if !oriented s h && decide ((linkOf s h).kept = some true) && x.resume.isSome then 12 - n else n
  (posPorts pos).filter fun p => if p.2 then x.presB else x.presA

/-- R379, R383: the first lane that resumes from standby brings back the orientation with which it went there. The second component
is its logical number (DESIGN CHOICE, log entry 47). -/
def resumeOriented (s : State) (h n : Nat) : State × Nat :=
  match (linkOf s h).kept, oriented s h with
  | some r, false =>
    let s := (s.setB (Reg.ZL_SPARE_STATUS h) 6 true).setB (Reg.ZL_SPARE_STATUS h) 5 r
    if r then (swapLanes s h fun n => 12 - n, 12 - n) else (s, n)
  | _, _ => (s, n)

/-! ### Stages (R377 to R382) -/

/-- The transmit presets to try, ascending (R381). -/
def presets (s : State) (h : Nat) : List Nat :=
  if s.b (Reg.ZL_EQ_CTRL h) 3 then [s.f (Reg.ZL_EQ_CTRL h) 0 3]
  else (List.range 8).filter fun i => s.b (Reg.ZL_EQ_CTRL h) (8 + i)

/-- A TX lane in EQUALIZE starts to try presets; 8 stands for none left. -/
def startEq (s : State) (h n : Nat) : State :=
  let s := enterLane s h n 4
  let p := (presets s h).headD 8
  putLane (s.setF (Reg.ZL_LANE_STATUS h n) 24 3 p) h n { laneOf s h n with trying := p, settled := false, best := none }

/-- The next preset after the one tried, with the best so far; after the last the best one is applied (R381). -/
def nextPreset (s : State) (h : Fin 4) (n fom : Nat) : State :=
  let x := laneOf s h n
  let best := match x.best with | some (f, p) => if f < fom then (fom, x.trying) else (f, p) | none => (fom, x.trying)
  let l := linkOf s h
  match (presets s h).find? fun p => decide (x.trying < p) with
  | some p => putLane (s.setF (Reg.ZL_LANE_STATUS h n) 24 3 p) h n { x with trying := p, settled := false, best := some best }
  | none =>
    if best.1 = 0 then roundFail s h n 6
    else
      let s := putLink s h { l with status := tabSet (fun _ => []) (tabSet (fun _ => []) l.status n []) (n - 1) [] }
      putLane (s.setF (Reg.ZL_LANE_STATUS h n) 24 3 best.2) h n { x with trying := 8, settled := false, best := some best }

/-- A lane becomes ACTIVE: `round` says that a round reached it (R378, R383). -/
def laneActive (s : State) (h : Fin 4) (n : Nat) (round : Bool) : State :=
  let a := Reg.ZL_LANE_STATUS h n
  let s := (enterLane s h n 5).setB a 9 false
  let s := putLane s h n { laneOf s h n with resume := none, dark := false }
  let rate := s.f (Reg.ZL_LINK_CFG h) 0 2
  let s := s.wr (Reg.ZL_TRAINED_RATE h) (w32 (rate + 16))
  let s := if round then ((s.setF a 16 2 0).setB a 11 false).raise (.laneActive h) [w32 n, w32 rate, w32 (s.f a 24 3)] else s
  let l := linkOf s h
  let s := if s.f (Reg.ZL_SPARE_STATUS h) 16 12 = 0 then s else putLink s h { l with restore := l.restore ++ [n] }
  lanesMoved s h

/-- The end of TRAIN_A for a transmitting lane (R377, R379). -/
def endTrainA (s : State) (h : Fin 4) (n : Nat) : State :=
  let pos := heardAt s h n
  let ports := lockedPorts s h pos
  if ports.isEmpty ∨ (ports.length < (posPorts pos).length ∧ !(laneOf s h n).waitEnd) then s
  else if ports.any fun p => decide (portId s h p ≠ physLane s h n) then roundFail s h n 3
  else
    let inv := ports.any (portInv s h)
    let fix := !oriented s h && decide (n ≠ 6)
    let rev := fix && decide (pos ≠ n)
    let s := putLane s h n { laneOf s h n with presA := ports.any fun p => !p.2, presB := ports.any fun p => p.2 }
    let s := s.setB (Reg.ZL_LANE_STATUS h n) 8 inv
    let s := if fix then (s.setB (Reg.ZL_SPARE_STATUS h) 6 true).setB (Reg.ZL_SPARE_STATUS h) 5 rev else s
    let s := if rev then swapLanes s h fun n => 12 - n else s
    let m := if rev then 12 - n else n
    let s := enterLane s h m 2
    let s := if inv then s.raise (.linkCorrected h) [w32 m, 1] else s
    if rev then s.raise (.linkCorrected h) [w32 m, 2] else s

/-- SKEW of a group's report, signed UI. -/
def repSkew (b : List Byte) : Int :=
  let v := leAt b 4 2
  if v < 32768 then v else (v : Int) - 65536

/-- The end of a stage of a transmitting lane: nothing while its condition is not met (R377). -/
def endStage (s : State) (h : Fin 4) (n : Nat) : State :=
  let st := laneState s h n
  let ports := presentPorts s h n
  if st = 1 then endTrainA s h n
  else if st = 2 then
    if !(ports.all (portDescr s h)) then s
    else if ports.any fun p => decide (512 < (repSkew (reportOf s h p.1)).natAbs) then roundFail s h n 4
    else
      let s := enterLane s h n 3
      putLink s h { linkOf s h with capsRead := (linkOf s h).capsRead.filter fun g => decide (g ≠ n ∧ g + 1 ≠ n) }
  else if st = 3 then
    if !(ports.all fun p => (linkOf s h).capsRead.contains p.1) then s
    else if ports.any fun p => decide (s.f (Reg.SB_CAPS_RESULT h p.1) 0 4 ≠ 0) then roundFail s h n 5
    else startEq s h n
  else if st = 4 then
    if (laneOf s h n).trying = 8 ∧ ports.all (portLock s h) then laneActive s h n true else s
  else s

/-- The stage that the far transmitter has told for lane `n` in its last STATUS_REQ (R380, R392). -/
def farStage (s : State) (h n : Nat) : Nat :=
  if n ≤ 11 then leAt (reportOf s h n) 0 1 else leAt (reportOf s h 11) 1 1

/-- The end of a stage of a receiving lane (R380): its own lock, and the far transmitter has gone on. -/
def endRxStage (s : State) (h : Fin 4) (n : Nat) : State :=
  let st := laneState s h n
  if (laneOf s h n).lock ∧ st < farStage s h n then (if st = 4 then laneActive s h n true else enterLane s h n (st + 1)) else s

/-- TRAINING_STAGE_COMPLETE (R377). -/
def execTrainingStageComplete (h : Fin 4) (lane : Fin 13) (s : State) : Host.Outcome State Fault Refusal :=
  .next (if 1 ≤ laneState s h lane ∧ laneState s h lane ≤ 4 then
      (if laneRole s h lane = 2 then endRxStage s h lane else endStage s h lane)
    else s)

/-- TRAINING_STAGE_TIMEOUT (R378). -/
def execTrainingStageTimeout (h : Fin 4) (lane : Fin 13) (s : State) : Host.Outcome State Fault Refusal :=
  .next (if 1 ≤ laneState s h lane ∧ laneState s h lane ≤ 4 ∧ (laneOf s h lane).at_ + 2000000 ≤ s.now then
      roundFail s h lane 2
    else s)

/-- TRAIN_A_PORT_WAIT_END (R377). -/
def execTrainAPortWaitEnd (h : Fin 4) (lane : Fin 13) (s : State) : Host.Outcome State Fault Refusal :=
  .next (match (laneOf s h lane).firstLock with
    | some t =>
      if laneState s h lane = 1 ∧ t + 200000 ≤ s.now then putLane s h lane { laneOf s h lane with waitEnd := true } else s
    | none => s)

/-- EQ_PRESET_SETTLE (R381): from now on the ports' next reports count for the preset. -/
def execEqPresetSettle (h : Fin 4) (lane : Fin 13) (s : State) : Host.Outcome State Fault Refusal :=
  .next (
    let n : Nat := lane
    let x := laneOf s h n
    if laneState s h n = 4 ∧ x.trying < 8 ∧ !x.settled ∧ laneRole s h n ≠ 2 then
      let l := linkOf s h
      let s := putLink s h { l with status := tabSet (fun _ => []) (tabSet (fun _ => []) l.status n []) (n - 1) [] }
      putLane s h n { laneOf s h n with settled := true }
    else s)

/-- DETECT_POLL (R377): a lane in DETECT or DARK senses a partner. In the pause of a swap it waits (R553). -/
def execDetectPoll (h : Fin 4) (lane : Fin 13) (found : Bool) (s : State) : Host.Outcome State Fault Refusal :=
  .next (
    let st := laneState s h lane
    if (st = 0 ∨ st = 6) ∧ laneTrains s h lane ∧ mgmtPaused s = false then
      if found then
        let s := (enterLane s h lane 1).setB (Reg.ZL_LANE_STATUS h lane) 8 false
        let x := laneOf s h lane
        putLane s h lane { x with dark := decide (st = 6), presA := false, presB := false, firstLock := none, waitEnd := false }
      else roundFail s h lane 1
    else s)

/-- LANE_STANDBY_RESUME_TIMEOUT (R383). -/
def execLaneStandbyResumeTimeout (h : Fin 4) (lane : Fin 13) (s : State) : Host.Outcome State Fault Refusal :=
  .next (match (laneOf s h lane).resume with
    | some t =>
      if t + 2000000 ≤ s.now then
        let s := (enterLane s h lane 0).setB (Reg.ZL_LANE_STATUS h lane) 9 false
        lanesMoved (putLane s h lane { laneOf s h lane with resume := none }) h
      else s
    | none => s)

/-- READBACK_LOCK_LOSS (R387): only a lane that carries a group fails. -/
def execReadbackLockLoss (h : Fin 4) (lane : Fin 13) (s : State) : Host.Outcome State Fault Refusal :=
  .next (if (carried s h lane).isSome ∧ laneRole s h lane ≠ 2 then laneFail s h lane 8 0 else s)

/-! ### Shift sparing (R386 to R390) -/

/-- The port that receives group `g` on lane `n` is present and has no fault. -/
def portOk (s : State) (h g n : Nat) : Bool :=
  let x := laneOf s h n
  (if n = g then x.presA else x.presB) && !s.b (Reg.ZL_LANE_STATUS h n) 11

/-- The lane that a group moves to when lane `f` becomes the gap in place of `i`: groups from `f` up to `i` shift toward `i`. -/
def movedLane (f i g n : Nat) : Nat :=
  if f < i then (if f ≤ n ∧ n < i then g + 1 else n) else (if i < n ∧ n ≤ f then g else n)

/-- A move of R388 with `f` as the new gap can be made. -/
def canMove (s : State) (h f : Nat) : Bool :=
  let i := gapLane s h
  decide (f ≠ i) && laneUp s h i &&
  (List.range 12).all fun g =>
    let n := groupLane s h g
    let m := movedLane f i g n
    decide (m = n) || portOk s h g m

/-- The line that follows the last one started. -/
def nextLine (s : State) (h : Nat) : Nat := match (headOf s h).line with | some y => y + 1 | none => 0

/-- Makes the move at the next line start (R388). -/
def makeMove (s : State) (h : Fin 4) (f reason : Nat) : State :=
  let s := (s.setF (Reg.ZL_SPARE_STATUS h) 0 4 f).inc (Reg.ZL_SPARE_MOVES h)
  (showLanes s h).raise (.laneSpared h) [w32 f, w32 reason, s.rd (Reg.HEAD_FIELD h), w32 (nextLine s h)]

/-- A decided failure of lane `f` at its line start: a move, or the loss of the group (R388, R389). MOVE_GAP names a lane that
still works, which loses nothing. -/
def settleFail (h : Fin 4) (s : State) (x : Nat × Nat × Nat) : State :=
  let f := x.1
  match laneGroup s h f with
  | none => s
  | some g =>
    if groupLost s h g then s
    else if canMove s h f then
      let t := makeMove s h f x.2.1
      if laneUp s h f then t else spareLow t 0 h
    else if laneUp s h f then s
    else
      let s := showLanes (s.setB (Reg.ZL_SPARE_STATUS h) (16 + g) true) h
      s.raise (.groupLost h) [w32 g, w32 f, s.rd (Reg.HEAD_FIELD h), w32 (nextLine s h)]

/-- A lost group is carried again (R389). -/
def groupBack (s : State) (h : Fin 4) (g : Nat) : State :=
  let s := showLanes (s.setB (Reg.ZL_SPARE_STATUS h) (16 + g) false) h
  s.raise (.groupRestored h) [w32 g, w32 (groupLane s h g), s.rd (Reg.HEAD_FIELD h), w32 (nextLine s h)]

/-- A lost group is restored (R389) when its own lane is among those that became ACTIVE, or the gap lane is, through a move. -/
def settleRestore (h : Fin 4) (restore : List Nat) (s : State) (g : Nat) : State :=
  let f := groupLane s h g
  let i := gapLane s h
  if !groupLost s h g then s
  else if restore.contains f && laneUp s h f then groupBack s h g
  else if restore.contains i && laneUp s h i && canMove s h f then
    groupBack (makeMove s h f (s.f (Reg.ZL_LANE_STATUS h f) 20 4)) h g
  else s

/-- Failures in the order in which they were decided, those decided together by ascending lane (R388). -/
def byLane : List (Nat × Nat × Nat) → List (Nat × Nat × Nat)
  | [] => []
  | x :: t =>
    let l := byLane t
    let before_ := fun y : Nat × Nat × Nat => decide (y.2.2 < x.2.2 ∨ (y.2.2 = x.2.2 ∧ y.1 < x.1))
    l.filter before_ ++ [x] ++ l.filter fun y => !before_ y

/-- What a line start that begins at `T` brings to the mapping (R388, R389): moves and losses of the failures decided at least 2 µs before,
then the restorations, the lowest-numbered lost group first. -/
def settleLine (s : State) (h : Fin 4) (T : Int) : State :=
  let l := linkOf s h
  let due := fun x : Nat × Nat × Nat => decide ((x.2.2 : Int) + 2000 ≤ T)
  if (l.fails.filter due).isEmpty && l.restore.isEmpty then s
  else
    let s := putLink s h { l with fails := l.fails.filter fun x => !due x, restore := [] }
    let s := (byLane (l.fails.filter due)).foldl (settleFail h) s
    lanesMoved ((List.range 12).foldl (settleRestore h l.restore) s) h

/-- The next line of the field being sent is due (R349). -/
def lineDue (s : State) (h : Nat) : Bool :=
  let t := headOf s h
  let y := nextLine s h
  t.run && t.sending && decide (roleCode s (headBase h) = 1 ∧ y < t.cur.f (Reg.HEAD_V_LINES h) 16 16 ∧ lineStart s h y ≤ (s.now : Int))

/-- SPARING_MOVE (R388, R389): at the start of a line, active or blank, before its packets leave. -/
def execSparingMove (h : Fin 4) (s : State) : Host.Outcome State Fault Refusal :=
  .next (if lineDue s h then settleLine s h (lineStart s h (nextLine s h)) else s)

/-- GAP_UNHEALTHY_TIMEOUT (R390). -/
def execGapUnhealthyTimeout (h : Fin 4) (s : State) : Host.Outcome State Fault Refusal :=
  .next (match (linkOf s h).gapBad with
    | some t =>
      if t + 1000000000 ≤ s.now ∧ headState s h = 3 ∧ !(linkOf s h).gapTold then
        spareGone (putLink s h { linkOf s h with gapTold := true }) h
      else s
    | none => s)

/-! ### Lane commands (R385) -/

/-- LANE_CMD past its guards: the epoch check, then the operation. -/
def laneEpoch (s : State) (h : Fin 4) (n : Nat) (epoch : BitVec 16) (g : State → State) : State :=
  let e := s.f (Reg.ZL_LANE_ROLE h n) 16 16
  if epoch.toNat = e then g s
  else (s.incTo (Reg.ZL_STALE_COUNT h n) 0xFFFF).raise (.laneCmdStale h) [w32 n, w32 epoch.toNat, w32 e]

/-- LANE_CMD: the guard of the bus and the epoch check, then the operation. -/
def laneCommand (s : State) (req : Requester) (h : Fin 4) (n : Nat) (epoch : BitVec 16) (g : State → State) : State :=
  gated s req (Reg.ZL_LANE_CMD h) none fun s => laneEpoch s h n epoch g

/-- RETRAIN (R385). -/
def execRetrain (req : Requester) (h : Fin 4) (lane : Fin 13) (epoch : BitVec 16) (s : State) : Host.Outcome State Fault Refusal :=
  .next (laneCommand s req h lane epoch fun s => laneFail s h lane 10 0)

/-- The move that MOVE_GAP asks for, or its refusal (R385). -/
def moveGap (s : State) (h : Fin 4) (n : Nat) : State :=
  if (carried s h n).isSome && laneUp s h (gapLane s h) then
    putLink s h { linkOf s h with fails := (linkOf s h).fails ++ [(n, 10, s.now)] }
  else refuse s (Reg.ZL_LANE_CMD h)

/-- MOVE_GAP (R385). -/
def execMoveGap (req : Requester) (h : Fin 4) (lane : Fin 13) (epoch : BitVec 16) (s : State) : Host.Outcome State Fault Refusal :=
  .next (laneCommand s req h lane epoch fun s => moveGap s h lane)

/-- Zeroes a lane's PRBS counters. -/
def clearPrbs (s : State) (h n : Nat) : State :=
  ((s.wr (Reg.ZL_PRBS_ERR h n) 0).wr64 (Reg.ZL_PRBS_BITS_LO h n) (Reg.ZL_PRBS_BITS_HI h n) 0).setB (Reg.ZL_PRBS_STATUS h n) 1 false

/-- PRBS_CLEAR (R385). -/
def execPrbsClear (req : Requester) (h : Fin 4) (lane : Fin 13) (epoch : BitVec 16) (s : State) : Host.Outcome State Fault Refusal :=
  .next (laneCommand s req h lane epoch fun s => clearPrbs s h lane)

/-- A checker counts errors (R396): the first after a clear raises PRBS_ERROR. -/
def prbsErrors (s : State) (h : Fin 4) (n k : Nat) : State :=
  let s := s.incBy (Reg.ZL_PRBS_ERR h n) k
  if s.b (Reg.ZL_PRBS_STATUS h n) 1 ∨ k = 0 then s
  else (s.setB (Reg.ZL_PRBS_STATUS h n) 1 true).raise (.prbsError h) [w32 n, s.rd (Reg.ZL_PRBS_ERR h n)]

/-- A checker sees a bit (R396): it loads, then predicts. SYNC comes after 64 consecutive correct predictions, and 64 errors in 1,024 bits
lose it. DESIGN CHOICE (log entry 47): before SYNC, a wrong prediction makes it load again. -/
def chkBit (h : Fin 4) (n : Nat) (s : State) (r : Bool) : State :=
  let poly := s.f (Reg.ZL_PRBS_CTRL h n) 0 2
  let x := laneOf s h n
  let c := x.chk
  let st := Reg.ZL_PRBS_STATUS h n
  if c.loaded < (prbsPoly poly).1 then
    putLane s h n { x with chk := { c with reg := (2 * c.reg + b2n r) % 2 ^ (prbsPoly poly).1, loaded := c.loaded + 1 } }
  else
    let p := prbsNext poly c.reg
    let wrong := p.2 != r
    if !s.b st 0 then
      let s := putLane s h n { x with chk := if wrong then PrbsChk.idle else { c with reg := p.1, good := c.good + 1, win := [] } }
      if !wrong && decide (64 ≤ c.good + 1) then s.setB st 0 true else s
    else
      let win := (wrong :: c.win).take 1024
      let bits := min (s.rd64 (Reg.ZL_PRBS_BITS_LO h n) (Reg.ZL_PRBS_BITS_HI h n) + 1) (2 ^ 48 - 1)
      let s := prbsErrors (s.wr64 (Reg.ZL_PRBS_BITS_LO h n) (Reg.ZL_PRBS_BITS_HI h n) bits) h n (b2n wrong)
      if 64 ≤ (win.filter id).length then (putLane s h n { laneOf s h n with chk := PrbsChk.idle }).setB st 0 false
      else putLane s h n { laneOf s h n with chk := { c with reg := p.1, win := win } }

/-- One transmitted bit of a generating lane is flipped; the checker of a LOOP lane, once loaded, sees the bit on its read-back receiver
(R385, R397). -/
def flipBit (s : State) (h : Fin 4) (n : Nat) : State :=
  if !prbsGens s h n then s
  else
    let s := s.emit (.prbsFlip h n)
    let poly := s.f (Reg.ZL_PRBS_CTRL h n) 0 2
    let c := (laneOf s h n).chk
    if prbsChecks s h n && decide ((prbsPoly poly).1 ≤ c.loaded) then chkBit h n s (!(prbsNext poly c.reg).2) else s

/-- PRBS_INJECT (R385). -/
def execPrbsInject (req : Requester) (h : Fin 4) (lane : Fin 13) (epoch : BitVec 16) (s : State) : Host.Outcome State Fault Refusal :=
  .next (laneCommand s req h lane epoch fun s => flipBit s h lane)

/-- A write of LANE_CMD (R385, R398). A lane number above 12 or an OP outside R385 names no operation and has no effect
(DESIGN CHOICE, log entry 42). -/
def laneCmdWrite (s : State) (h : Fin 4) (v : Word) : State :=
  let n := fld v 0 4
  let op := fld v 4 4
  if n ≤ 12 ∧ 1 ≤ op ∧ op ≤ 4 then
    laneEpoch s h n (BitVec.ofNat 16 (fld v 16 16)) fun s =>
      if op = 1 then laneFail s h n 10 0 else if op = 2 then moveGap s h n
      else if op = 3 then clearPrbs s h n else flipBit s h n
  else s

/-- The end of a reversed orientation has given lane numbers other lanes (R379): those that may not train go OFF, and those that may
detect. -/
def lanesFit (s : State) (h : Fin 4) : State :=
  showLanes (lanesWake (laneList.foldl (fun s n => if laneTrains s h n ∨ laneState s h n = 7 then s else laneOff s h n) s) h) h

/-- Lane `n` is taken out by command: it goes OFF, and the orientation may end with it. -/
def laneOut (s : State) (h : Fin 4) (n : Nat) : State :=
  let t := clearOrientation (showLanes (laneOff s h n) h) h
  if reversed s h && !reversed t h then lanesFit t h else t

/-- A PRBS test starts: the checker loads, and a generating lane sends and is not QUIESCED (R384, R396). -/
def prbsRun (s : State) (h n : Nat) : State :=
  let s := (putLane s h n { laneOf s h n with chk := PrbsChk.idle }).setB (Reg.ZL_PRBS_STATUS h n) 0 false
  if prbsGens s h n then
    (s.setB (Reg.ZL_LANE_STATUS h n) 3 false).emit
      (.prbs h n (s.f (Reg.ZL_LINK_CFG h) 0 2) (s.f (Reg.ZL_PRBS_CTRL h n) 0 2) (s.b (Reg.ZL_PRBS_CTRL h n) 6))
  else s

/-- A write of PRBS_CTRL (R397). -/
def prbsCtrl (s : State) (h : Fin 4) (n : Nat) (v : Word) : State :=
  let a := Reg.ZL_PRBS_CTRL h n
  if headState s h ≠ 0 then refuse s a
  else
    let was := s.f a 4 2
    let gen := prbsGens s h n
    let s := s.wr a (v &&& 0xF3)
    let test := prbsGens s h n || prbsChecks s h n
    if test then prbsRun ((laneOff (laneOut s h n) h n).setB (Reg.ZL_LANE_STATUS h n) 10 true) h n
    else
      let s := (s.setB (Reg.ZL_LANE_STATUS h n) 10 false).setB (Reg.ZL_PRBS_STATUS h n) 0 false
      let s := if gen then laneStream s h n (s.f (Reg.ZL_LINK_CFG h) 0 2) none else s
      if was ≠ 0 ∧ laneTrains s h n then showLanes (enterLane s h n 0) h else s

/-- PRBS_CTRL_WRITE (R397). -/
def execPrbsCtrlWrite (req : Requester) (h : Fin 4) (lane : Fin 13) (value : Word) (s : State) : Host.Outcome State Fault Refusal :=
  .next (gated s req (Reg.ZL_PRBS_CTRL h lane) none fun s => prbsCtrl s h lane value)

/-- PRBS_SYNC (R396): bits that a checker out of sync receives. -/
def execPrbsSync (h : Fin 4) (lane : Fin 13) (bits : List Bool) (s : State) : Host.Outcome State Fault Refusal :=
  .next (if prbsChecks s h lane && !s.b (Reg.ZL_PRBS_STATUS h lane) 0 then bits.foldl (chkBit h lane) s else s)

/-- PRBS_SYNC_LOSS (R396): bits that a checker in sync receives. -/
def execPrbsSyncLoss (h : Fin 4) (lane : Fin 13) (bits : List Bool) (s : State) : Host.Outcome State Fault Refusal :=
  .next (if prbsChecks s h lane && s.b (Reg.ZL_PRBS_STATUS h lane) 0 then bits.foldl (chkBit h lane) s else s)

/-- A TEST_START sequence id of 0x80 to 0xFF (R397). -/
def prbsTest (s : State) (h : Fin 4) (id : Nat) : State :=
  let s := if id % 2 = 1 then laneList.foldl (fun s n => if prbsChecks s h n then clearPrbs s h n else s) s else s
  if id / 2 % 2 = 1 then
    laneList.foldl (fun s n => if prbsGens s h n && s.b (Reg.ZL_PRBS_CTRL h n) 7 then flipBit s h n else s) s
  else s

/-! ### Lane and page enables (R383, R384) -/

/-- A write of LANE_CTRL (R378, R383, R384): an ACTIVE lane that is disabled fails with COMMAND. -/
def laneCtrl (s : State) (h : Fin 4) (n : Nat) (v : Word) : State :=
  let a := Reg.ZL_LANE_CTRL h n
  let was := s.b a 0
  if bit v 0 && !was && !s.b (Reg.ZL_LANE_STATUS h n) 3 then refuse s a
  else
    let s := s.wr a (v &&& 3)
    if was && !bit v 0 then
      lanesMoved (laneOut (laneFails s h n 10 7) h n) h
    else if !was && bit v 0 then
      (if laneTrains s h n ∧ laneState s h n = 7 then enterLane s h n 0 else s)
    else s

/-- ZLh enabled (R383): its lanes may train. -/
def zlEnable (s : State) (h : Fin 4) : State := lanesWake (setOn s (zlBase h)) h

/-- ZLh disabled (R383): every lane goes OFF and the orientation ends. -/
def zlOff (s : State) (h : Fin 4) (abort : Bool) : State :=
  let s := setOff s (zlBase h) abort
  let s := laneList.foldl (fun s n => if laneState s h n = 7 then s.setB (Reg.ZL_LANE_STATUS h n) 9 false else laneOff s h n) s
  clearOrientation (showLanes s h) h

/-- ZL_DISABLE (R383). -/
def execZlDisable (req : Requester) (h : Fin 4) (abort : Bool) (s : State) : Host.Outcome State Fault Refusal :=
  .next (gatedIf s req (Reg.PAGE_CTRL (zlBase h)) none (fun s => decide (headState s h = 0))
    fun s => if enabled s (zlBase h) then zlOff s h abort else s)

/-- R384: the lanes match a head's role. -/
def lanesMatch (s : State) (h role : Nat) : Bool :=
  let on := fun n => s.b (Reg.ZL_LANE_CTRL h n) 0
  ((List.range 12).all fun n => decide (laneRole s h n = role) && on n) &&
  (decide (laneRole s h 12 = 0) ||
    (on 12 && (if role = 1 then decide (laneRole s h 12 = 4) && s.feat 13 else decide (laneRole s h 12 = 2))))

end Sys2Proof.Machine
end

