-- ==== Sys2Proof/Machine/Fields.lean ====
section
/-!
DEFINITION. The fields of a head: the layer commit (R320, R321, R347), the latch point (R346), the field start (R342), the
release of banks and buffers (R268, R323), enable and stop (R335, R338).
-/
namespace Sys2Proof.Machine

/-! ### The layer-shadow commit (R320, R321, R329) -/

/-- The number of a head whose group holds an address. -/
def ofHead (h a : Nat) : Bool := inHeadCfg h a

/-- The assignment that a layer-shadow commit of head `h` would put into effect. -/
def commitEnv (s : State) (h : Nat) : CfgEnv :=
  ⟨fun a => if isRws a && ofHead h a then s.rd a else inEffect s a, inEffect s, s.feat⟩

/-- R321: the lowest offending register of a layer-shadow commit: a shadow where one takes part in the rule that fails. -/
def commitBad (s : State) (h : Nat) : Option Nat :=
  let e := commitEnv s h
  lowest ((((List.range 8).flatMap (layerChecks e h)) ++ wbChecks s e h ++ flatChecks e h).filterMap fun k =>
    if k.ok then none else attributed (fun a => isRws a && ofHead h a) k)

/-- Every shadow of head `h` takes effect (R320). -/
def putShadows (s : State) (h : Nat) : State :=
  ((s.regs.map (·.1) ++ s.eff.map (·.1)).filter fun a => isRws a && ofHead h a).foldl (fun s a => s.putEff a (s.rd a)) s

/-- R321: a layer-shadow commit applies, or is refused; `field` is the field of the latch. -/
def layerCommit (s : State) (h : Fin 4) (field : Word) : State :=
  let s := s.setB (Reg.HEAD_COMMIT h) 0 false
  match commitBad s h with
  | some a => s.raise (.layerCommitRefused h) [w32 a, field]
  | none => putShadows s h

/-! ### Timing at a latch (R344, R345) -/

/-- A register of a configuration. -/
def cfgReg (cfg : Tab Word) (a : Nat) : Word := tabGet Reg.reset cfg a

/-- NUM and DEN of a configuration. -/
def cfgRate (cfg : Tab Word) (h : Nat) : Nat × Nat :=
  (fld (cfgReg cfg (Reg.HEAD_FIELD_TIMING h)) 0 20, fld (cfgReg cfg (Reg.HEAD_FIELD_TIMING h)) 20 12)

/-- R345: the field whose schedule start is nearest to `T`, the earlier on a tie. -/
def nearestField (anchor : Int) (num den : Nat) (T : Int) : Nat :=
  let m := ((T - anchor) * num / (den * 1000000000 : Nat)).toNat
  let err := fun n => (T - schedStart anchor num den n).natAbs
  [m, m + 1, m + 2].foldl (fun b n => if err n < err b then n else b) (m - 1)

/-- R344: why new timing changes E: 1 TIMING, 2 ANCHOR, none when the schedule stays. -/
def timingCause (s : State) (h : Nat) (old cfg : Tab Word) : Option Nat :=
  if cfgRate old h ≠ cfgRate cfg h ∨
      fld (cfgReg old (Reg.HEAD_V_LINES h)) 16 16 ≠ fld (cfgReg cfg (Reg.HEAD_V_LINES h)) 16 16 then some 1
  else if anchorOf s h cfg ≠ (headOf s h).anchor then some 2
  else none

/-- R341, R345: the heads of a lock group share one schedule: new timing takes effect for all of them at the same field start. -/
def putSwitch (s : State) (g : Nat) (q : Int × Nat × Nat × Nat × Int × Nat) : State :=
  (groupHeads s g).foldl (fun s i => putHead s i { headOf s i with switch := some q }) s

/-- R345: timing that takes effect at the latch for the field numbered `num1`, which starts at `T`. A write that gives a register
the value it has is a timing commit all the same (DEDUCED from R344, log entry 30). -/
def takeTiming (s : State) (h : Fin 4) (T : Int) (old cfg : Tab Word) (num1 : Word) : State :=
  if !((timingRegs h).any fun a => decide (cfgReg old a ≠ cfgReg cfg a)) && !(headOf s h).timingDue then s
  else
    let s := putHead s h { headOf s h with timingDue := false }
    let got := cfgRate cfg h
    let num := got.1
    let den := got.2
    let anchor := anchorOf s h cfg
    let m := nearestField anchor num den T
    let e := T - schedStart anchor num den m
    let got : State × Int := match timingCause s h old cfg with
      | none => (s, headE s h)
      | some c => (putSwitch s (headOf s h).group (anchor, num, den, m, e, c), e)
    let s := got.1
    let e := got.2
    (s.wr (Reg.HEAD_TIMING_FIELD h) num1).raise (.timingApplied h) [num1, w32 (u64 e), w32 (u64 e / 2 ^ 32)]

/-! ### Ray-map variants (R257, R260, R261) -/

/-- The presented state of a cell at device time `S`, CLEAR being true (R260, R449). DESIGN CHOICE (log entry 31): a
poisoned record leaves it free. -/
def presentedClear (s : State) (S : Int) (cols cell : Nat) : Bool :=
  let a := s.rd64 Reg.OPT_MAP_BASE_LO Reg.OPT_MAP_BASE_HI + 256 * (cell / cols)
  let c := cell % cols
  if rangeBad s a 104 then (Config.freeByte s.freeCount cell).getLsbD 0
  else (hbmByte s (a + (if s64 (leNat (hbmBytes s a 8)) ≤ S then 16 else 64) + c / 8)).getLsbD (c % 8)

/-- The blocks of a bank's image that use CLEAR in a field that starts at `S`. -/
def clearBlocks (s : State) (h bank mode : Nat) (S : Int) : List Nat :=
  let m := bankHdr s h bank
  if 3 ≤ bank ∨ !s.feat 4 ∨ m.nvar ≠ 2 ∨ mode = 1 then []
  else (List.range (m.bY * m.bx)).filter fun i =>
    let c := (bankBlk s h bank 0 (i % m.bx) (i / m.bx)).cell
    decide (c ≠ 0xFFFF) && (decide (mode = 2) || presentedClear s S m.cols c)

/-- The reads of the presented map that the choice needs (R449, R462). -/
def readPresented (s : State) (h bank mode : Nat) : State :=
  let m := bankHdr s h bank
  if 3 ≤ bank ∨ !s.feat 4 ∨ m.nvar ≠ 2 ∨ mode ≠ 0 then s
  else
    let base := s.rd64 Reg.OPT_MAP_BASE_LO Reg.OPT_MAP_BASE_HI
    (List.range m.rows).foldl (fun s r => touch s 0 (base + 256 * r) 104) s.useFree

/-! ### Patterns (R315) -/

/-- SOURCE of layer `k` in a field is PATTERN. -/
def isPattern (F : FieldSt) (h k : Nat) : Bool := decide (F.f (Reg.LAYER_LAYER_CFG h k) 0 3 = 4)

/-- PCOUNT of layer `k` in the field `nx` after `cur`. -/
def nextPcount (cur nx : FieldSt) (h k : Nat) (restart : Bool) : Word :=
  if !isPattern nx h k then 0
  else if !isPattern cur h k || decide (cur.c (Reg.LAYER_PATTERN h k) ≠ nx.c (Reg.LAYER_PATTERN h k)) ||
      (restart && nx.b (Reg.LAYER_PATTERN h k) 12) then 0
  else cur.c (Reg.LAYER_PCOUNT h k) + 1

/-- The field with the PCOUNT of its layers. -/
def withPcounts (cur nx : FieldSt) (h : Nat) (restart : Bool) : FieldSt :=
  { nx with cfg := (List.range 8).foldl (fun t k => tabSet Reg.reset t (Reg.LAYER_PCOUNT h k) (nextPcount cur nx h k restart)) nx.cfg }

/-! ### Releases (R268, R323) -/

/-- The (DESC, GUARD) pair of layer `k`. -/
def layerPair (F : FieldSt) (h k : Nat) : Word × Word × Word :=
  (F.c (Reg.LAYER_DESC_LO h k), F.c (Reg.LAYER_DESC_HI h k), F.c (Reg.LAYER_GUARD h k))

/-- R323: the buffers that `nx` replaces. -/
def replaced (cur nx : FieldSt) (h : Nat) : List Release :=
  (List.range 8).filterMap fun k =>
    let p := layerPair cur h k
    if bufferSrc (layerSet cur h k) && (!bufferSrc (layerSet nx h k) || decide (p ≠ layerPair nx h k)) then
      some ⟨k, p.1, p.2.1, p.2.2, cur.num⟩
    else none

/-- The field being sent has been fetched, or nothing of it is. -/
def curFetched (s : State) (h : Nat) : Bool :=
  let t := headOf s h
  !t.run || !t.cur.produced || decide (t.cur.vActive h ≤ t.cur.next)

/-- R268: a bank is in use by head `h`. -/
def bankUsed (s : State) (h b : Nat) : Bool :=
  let t := headOf s h
  t.run && ((decide (t.cur.bank = b) && (!t.latched || !curFetched s h)) || (t.latched && decide (t.nxt.bank = b)))

/-- R268: IN_USE clears for banks that no field uses any more. -/
def settleBanks (s : State) (h : Fin 4) : State :=
  [0, 1].foldl (fun s b =>
    if s.b (Reg.RGU_BANK_STATUS h b) 2 && !bankUsed s h b then
      (s.setB (Reg.RGU_BANK_STATUS h b) 2 false).raise (.mapReleased h) [w32 b]
    else s) s

/-- R178, R184: the frames that head `h` was fetching are no longer fetched. -/
def storesFetched (s : State) (h : Nat) : State :=
  (List.range 16).foldl (fun s n =>
    let t := storeOf s n
    if (tabGet (fun _ => none) t.shown h).isSome then putStore s n { t with shown := tabSet (fun _ => none) t.shown h none } else s) s

/-- The last band of the field being sent has been fetched. -/
def fieldFetched (s : State) (h : Fin 4) : State := if curFetched s h then settleBanks (storesFetched s h) h else s

/-- R323: the fetcher has finished the last field that fetched a replaced buffer. -/
def releaseDue (s : State) (h : Nat) (r : Release) : Bool :=
  let F := (headOf s h).cur
  decide (r.field ≠ F.num) || curFetched s h || eclipsedIn F r.layer || F.dropped.contains r.layer ||
    (!layerDepth F h r.layer &&
      decide (shalf (F.c (Reg.LAYER_POS h r.layer)) 16 + ((layerSize F h r.layer).2 : Int) ≤ (F.next : Int)))

/-- R323: releases the oldest replaced buffer of layer `k` when it is due. -/
def releaseBuffer (s : State) (h : Fin 4) (k : Nat) : State :=
  let t := headOf s h
  match t.releases.find? fun r => decide (r.layer = k) with
  | none => s
  | some r =>
    if releaseDue s h r then
      let s := putHead s h { t with releases := t.releases.erase r }
      let s := (s.wr (Reg.LAYER_REL_DESC_LO h k) r.descLo).wr (Reg.LAYER_REL_DESC_HI h k) r.descHi
      let s := (s.wr (Reg.LAYER_REL_GUARD h k) r.guard_).wr (Reg.LAYER_REL_FIELD h k) r.field
      let s := s.wr (Reg.LAYER_REL_COUNT h k) (s.rd (Reg.LAYER_REL_COUNT h k) + 1)
      s.raise (.layerReleased h) [w32 k, r.descLo, r.descHi, s.rd (Reg.LAYER_REL_COUNT h k)]
    else s

/-! ### The latch point (R346) -/

/-- RGU_STATUS.ISSUING: rays of the field in production are being issued (R298). -/
def showIssuing (s : State) (h : Nat) : State :=
  let F := prodField s h
  s.setB (Reg.RGU_RGU_STATUS h) 3 ((headOf s h).run && F.produced && !F.noScene &&
    !eclipsedIn F (F.f (Reg.RGU_RGU_CFG h) 0 3) && decide (F.next < F.vActive h) && !F.noRays F.next)

/-- What the RGU fixes at a latch (R272, R273, R285): scene store, frame, and whether the field has a scene. -/
def sceneOf (s : State) (h : Nat) (F : FieldSt) : FieldSt :=
  match sceneStore s h with
  | none => { F with kind := 0, store := 0, scene := none, noScene := true }
  | some n =>
    let fr := currentOf s n h
    { F with
      kind := storeKind s n
      store := n
      scene := fr
      noScene := fr.isNone || !F.b (Reg.PAGE_CTRL (rguBase h)) 0 || decide (3 ≤ F.bank) }

/-- R285, R295: the read of the frame header block, once per field from two lines after its latch on. -/
def readHeader (s : State) (h : Fin 4) (F : FieldSt) : State × FieldSt :=
  match F.scene with
  | none => (s, F)
  | some r =>
    if F.noScene || F.cut.isSome || F.hdrRead || !F.produced || decide ((s.now : Int) < F.fetchAt) then (s, F)
    else
      let a := frameBase s r
      let bad := rangeBad s a 65536
      let s := touch s 1 a 65536
      if bad then (noteFetch s h F.fetchSeen a, { F with noScene := true, hdrRead := true, fetchSeen := true })
      else (s, { F with hdrRead := true })

/-- What a depth-placed layer is read from: its store frame, or the descriptor of its buffer (R312). -/
def depthKey (F : FieldSt) (h k : Nat) : Option RFrame × Option (Word × Word × Word) :=
  match layerSet F h k with
  | .store f => (f, none)
  | .buffer => (none, some (layerPair F h k))
  | _ => (none, none)

/-- R292, R312: the generation advances. -/
def genMoves (cur nx : FieldSt) (h : Nat) : Bool :=
  decide (cur.scene ≠ nx.scene) ||
  (List.range 8).any fun k => layerDepth nx h k && decide (depthKey cur h k ≠ depthKey nx h k)

/-- The field's current frame has more planes than PLANE_LIMIT (R281). -/
def truncated (F : FieldSt) (h : Nat) : Bool :=
  match F.scene with
  | some f => decide (F.kind = 2 ∧ planeLimit F h < (sceneGeom f).ns)
  | none => false

/-- R281: PLANES_TRUNCATED counts a frame once, in the first field in which it is current with too many planes. -/
def notePlanes (s : State) (h : Nat) (cur nx : FieldSt) : State × FieldSt :=
  let told := cur.trunc && decide (cur.scene = nx.scene)
  (if truncated nx h && !told then s.inc (Reg.RGU_PLANES_TRUNCATED h) else s, { nx with trunc := told || truncated nx h })

/-- Order 5 of R346 (R260): the block variants of the field, and VARIANT_FLIPS. DEDUCED from R262 (log entry 31): blocks are
compared between fields that both have a map. -/
def fixVariants (s : State) (h : Fin 4) (S : Int) (cur F : FieldSt) : State × FieldSt :=
  let mode := F.f (Reg.RMAP_VARIANT_MODE h) 0 2
  let F := { F with clear := clearBlocks s h F.bank mode S }
  let s := readPresented s h F.bank mode
  let flips := (F.clear.filter fun b => !cur.clear.contains b).length + (cur.clear.filter fun b => !F.clear.contains b).length
  (if cur.bank < 3 ∧ F.bank < 3 then s.incBy (Reg.RMAP_VARIANT_FLIPS h) flips else s, F)

/-- Orders 4 and 5 of R346 for the picture: the field that a latch fixes. `cur` is the field that the latch before fixed. -/
def fixField (s : State) (h : Fin 4) (S : Int) (cur : FieldSt) (num : Word) (produced : Bool) : State × FieldSt :=
  let cfg := snapshot s h
  let base : FieldSt := { FieldSt.none_ with
    cfg := cfg, num := num, produced := produced, fetchAt := lineStart s h (latchLine (headOf s h).cur h + 2) }
  let sel := fld (cfgReg cfg (Reg.RGU_MAP_SEL h)) 0 2
  let base := { base with
    bank := if sel = 2 then 3 else sel
    flats := (List.range 8).filterMap fun k =>
      if k = base.f (Reg.RGU_RGU_CFG h) 0 3 then none else (flatStore s h k).map fun n => (k, currentOf s n h) }
  let got := fixVariants s h S cur (withPcounts cur base h (headOf s h).restart)
  let s := got.1
  let base := got.2
  if !produced then (s, { base with scene := cur.scene, kind := cur.kind, store := cur.store, trunc := cur.trunc })
  else
    let got := notePlanes s h cur (sceneOf s h base)
    let s := got.1
    let F := got.2
    (if genMoves cur F h then putHead s h { headOf s h with gen := (headOf s h).gen + 1 } else s, F)

/-- Order 6 of R346: the base polarity of the field (R357). -/
def fixPolarity (s : State) (h : Fin 4) (F : FieldSt) : State × FieldSt :=
  let t := headOf s h
  let got := cfgRate F.cfg h
  let num := got.1
  let den := got.2
  let got := nextPol s h F t.cur.pol ((1000000000 * den / num : Nat) : Int) (t.firstPol && F.produced)
  let p := got.1
  let held := got.2
  let l := u64 (ledger s h)
  let s := if held then (s.inc (Reg.OUT_POL_HOLDS h)).raise (.polHold h) [F.num, w32 l, w32 (l / 2 ^ 32)] else s
  (putHead s h { headOf s h with firstPol := t.firstPol && !F.produced }, { F with pol := p, held := held })

/-- The field whose choices a latch compares with: the one before, or the last one before the head stopped (R315, R323). -/
def lastFixed (t : HeadSt) (first : Bool) : FieldSt := if first then t.last.getD FieldSt.none_ else t.cur

/-- The first latch of a head starts its generator (R335, R342); it takes over a pending switch of its lock group (R341), whose phase
error is settled before the group's pull changes (R343). -/
def startGenerator (s : State) (h : Fin 4) : State :=
  let t := headOf s h
  let sw := match groupRunning s h with | g :: _ => (headOf s g).switch | [] => none
  let e := headE s h
  let s := settleGroup s t.group
  let s := putHead s h { t with e := e, eAt := s.now, run := true, line := none, sending := false, firstPol := true, switch := sw, timingDue := false }
  let s := (setHeadState s h 2).wr (Reg.HEAD_FIELD h) t.cur.num
  headFollows s h

/-- R346: the latch event of a TRANSMIT head. -/
def latchWork (s : State) (h : Fin 4) : State :=
  let first := decide (headState s h = 1)
  let s := if first then startGenerator s h else s
  let cur := (headOf s h).cur
  let was := lastFixed (headOf s h) first
  let S := nextFieldStart s h
  let num1 := cur.num + 1
  let s := selectFrames s h S
  let produced := decide (headState s h = 3)
  let s := if produced then latchTxns s h num1 else s
  let s := if produced && s.b (Reg.HEAD_COMMIT h) 0 then layerCommit s h num1 else s
  let got := fixField s h S was num1 produced
  let s := got.1
  let F := got.2
  let s := takeTiming s h S cur.cfg F.cfg num1
  let got := fixPolarity s h F
  let s := got.1
  let F := got.2
  let s := glintLatch s h
  let got := if produced then wbLatch s h F else (s, F)
  let s := got.1
  let F := got.2
  let t := headOf s h
  let s := putHead s h { t with
    nxt := F, latched := true, restart := false, releases := t.releases ++ replaced was F h, last := none }
  let s := if F.bank < 2 then s.setB (Reg.RGU_BANK_STATUS h F.bank) 2 true else s
  showIssuing (showPhase (fieldFetched s h) h) h

/-- The guard of LATCH_POINT: the head runs or starts its schedule, this field's latch is due and has not occurred. From the entry to
STANDBY until the wake no head latches a field: its generator stops after the last line (R520). -/
def latchDue (s : State) (h : Nat) : Bool :=
  let t := headOf s h
  decide (roleCode s (headBase h) = 1 ∧ 1 ≤ headState s h ∧ headState s h ≤ 3) && !t.latched &&
  !s.suspended && decide (lineStart s h (latchLine t.cur h) ≤ (s.now : Int))

/-! ### Stop (R338) -/

/-- The generator of a head has stopped. -/
def headStop (s : State) (h : Fin 4) : State :=
  let s := gateEdgesStop (settleGroup (glintAbandon (wbAbort s h) h) (headOf s h).group) h
  let t := headOf s h
  let s := putHead s h { t with run := false, latched := false, switch := none, line := none, sending := false, abort := false, firstPol := true, e := 0, cur := { t.cur with produced := false, bank := 3, ecl := [] }, nxt := FieldSt.none_, band := [], sent := [], last := some (if t.latched then t.nxt else t.cur), timingDue := false }
  let s := settleBanks (storesFetched s h) h
  let s := (s.wr (Reg.RGU_ACTIVE_MAP h) 3).setF (Reg.HEAD_HEAD_STATUS h) 8 8 0
  let s := s.wr (Reg.HEAD_TOLERANCE h) 0xFFFFFFFF
  let s := s.setB (Reg.ZL_MIRROR_STATUS h) 8 false
  showIssuing (showPhase (linkStop (setHeadState s h 4) h) h) h

/-! ### The field start (R342 to R345, R357) -/

/-- Layer `k` covers a subpixel of the head (R331). -/
def covers (s : State) (F : FieldSt) (h k : Nat) : Bool :=
  let F := { F with ecl := [] }
  let got := layerSize F h k
  let w := got.1
  let hh := got.2
  match layerSrc F h k with
  | .off => false
  | .rgu => true
  | .store none => false
  | _ =>
    if layerDepth F h k then
      (List.range (F.vActive h)).any fun y => (List.range (F.hActive h)).any fun x => (List.range 3).any fun ch =>
        (layerValue s F h k x y ch).isSome
    else
      let px := shalf (F.c (Reg.LAYER_POS h k)) 0
      let py := shalf (F.c (Reg.LAYER_POS h k)) 16
      decide (px < (F.hActive h : Int) ∧ 0 < px + (w : Int) ∧ py < (F.vActive h : Int) ∧ 0 < py + (hh : Int))

/-- LAYER_STATUS, ACTIVE_DESC, ACTIVE_GUARD and PCOUNT of a layer for the field (R331). -/
def showLayer (F : FieldSt) (h : Nat) (s : State) (k : Nat) : State :=
  let src := layerAssigned F h k
  let isStore := match src with | .store _ => true | _ => false
  let st := b2n (F.produced && covers s F h k) + 2 * b2n (eclipsedIn F k) + 4 * b2n (decide (src = .store none)) +
    8 * b2n (decide (src = .rgu)) + 16 * b2n isStore
  let s := s.wr (Reg.LAYER_LAYER_STATUS h k) (w32 st)
  let s := (s.wr (Reg.LAYER_ACTIVE_DESC_LO h k) (F.c (Reg.LAYER_DESC_LO h k))).wr (Reg.LAYER_ACTIVE_DESC_HI h k) (F.c (Reg.LAYER_DESC_HI h k))
  (s.wr (Reg.LAYER_ACTIVE_GUARD h k) (F.c (Reg.LAYER_GUARD h k))).wr (Reg.LAYER_PCOUNT h k) (F.c (Reg.LAYER_PCOUNT h k))

/-- The RGU registers of the field being sent (R262, R263, R267, R298). -/
def showRgu (s : State) (h : Fin 4) (F : FieldSt) : State :=
  let lay := F.f (Reg.RGU_RGU_CFG h) 0 3
  let a := Reg.RGU_RGU_STATUS h
  let s := s.setB a 0 (F.noScene || !F.produced)
  let s := s.setB a 1 (F.produced && eclipsedIn F lay)
  let s := (s.setF a 4 2 (if F.produced then F.kind else 0)).setF a 8 4 F.store
  let s := s.wr (Reg.RGU_CUR_FRAME h) (match F.scene with | some f => if F.produced then f.num else 0 | none => 0)
  let s := s.wr (Reg.RMAP_CLEAR_BLOCKS h) (w32 F.clear.length)
  if s.f (Reg.RGU_ACTIVE_MAP h) 0 2 = F.bank then s
  else ((s.wr (Reg.RGU_ACTIVE_MAP h) (w32 F.bank)).wr (Reg.RGU_ACTIVE_FIELD h) F.num).raise (.mapSwitched h) [w32 F.bank, F.num]

/-- The margins of the field that ended (R289): 0 with an eclipse of the RGU layer, else the smallest. A field without a scene raises no
event (R273). -/
def endMargin (s : State) (h : Fin 4) (F : FieldSt) : State :=
  if !F.produced then s
  else if eclipsedIn F (F.f (Reg.RGU_RGU_CFG h) 0 3) then s.wr (Reg.RGU_MIN_MARGIN h) 0
  else
    let s := s.wr (Reg.RGU_MIN_MARGIN h) (w32 F.margin)
    let lim := s.rdN (Reg.RGU_MARGIN_THRESHOLD h)
    if !F.noScene ∧ lim ≠ 0 ∧ F.margin < lim then s.raise (.lowMargin h) [w32 F.margin, w32 F.marginLine] else s

/-- R294: INFLIGHT_PEAK of the field that ended. -/
def endInflight (s : State) (h : Nat) (F : FieldSt) : State := s.wr (Reg.RGU_INFLIGHT_PEAK h) (w32 F.peak)

/-- The end of the field being sent (R289, R294, R351, R357). -/
def endField (s : State) (h : Fin 4) (T : Int) : State :=
  let t := headOf s h
  if !t.sending then s
  else
    let F := t.cur
    let s := if F.f (Reg.OUT_POL_CTRL h) 0 2 = 0 then s else setLedger s h (ledger s h + polSign F.pol (T - t.started))
    let s := endInflight (endMargin s h F) h F
    s.wr (Reg.HEAD_TOL_MIN h) (w32 F.tol)

/-- The schedule of the field that begins at `T`: the next field of the one in force, or the one that timing put in its place
(R345). -/
def nextSchedule (s : State) (t : HeadSt) (T : Int) : HeadSt :=
  match t.switch with
  | some (anchor, num, den, m, _, _) =>
    { t with anchor := anchor, num := num, den := den, idx := m, e := T - schedStart anchor num den m, eAt := s.now, switch := none }
  | none => { t with idx := t.idx + 1 }

/-- R341: a running head whose GROUP has changed takes over schedule, phase error and FIELD of the lock group it joins. DESIGN CHOICE
(log entry 30): at the next field start, with the group's field that lies nearest to it. -/
def changeGroup (s : State) (h : Nat) (T : Int) (t : HeadSt) : HeadSt :=
  let g := t.cur.f (Reg.HEAD_TIMING_CTRL h) 4 2
  if t.group = g then t
  else match (groupHeads s g).filter fun i => decide (i ≠ h) with
    | [] => { t with group := g }
    | i :: _ =>
      let u := headOf s i
      let m := nearestField u.anchor u.num u.den (T - headE s i)
      { t with
        group := g, anchor := u.anchor, num := u.num, den := u.den, idx := m, e := u.e, eAt := u.eAt, switch := u.switch
        cur := { t.cur with num := u.cur.num + w32 m - w32 u.idx } }

/-- A field takes another number before it starts: its capture and its tagged rays follow. -/
def renameField (s : State) (h : Nat) (old new : Word) : State :=
  if old = new then s
  else
    let t := headOf s h
    let s := putHead s h { t with band := t.band.map fun b => if b.field = old then { b with field := new } else b }
    let w := wbOf s h
    let s := putWb s h { w with fields := w.fields.map fun x => if x.num = old then { x with num := new } else x }
    let g := glintOf s h
    putGlint s h { g with rays := g.rays.map fun r => if r.field = old then { r with field := new } else r }

/-- PHASE_PULLING or PHASE_LOCKED where the phase error of a head was `was` and is another now (R343); `cause` as in R344. -/
def notePhase (s : State) (h : Fin 4) (was : Int) (cause : Nat) : State :=
  let e := headE s h
  if was = 0 ∧ e ≠ 0 then s.raise (.phasePulling h) [w32 (u64 e), w32 (u64 e / 2 ^ 32), w32 cause]
  else if was ≠ 0 ∧ e = 0 then s.raise (.phaseLocked h) [(headOf s h).cur.num]
  else s

/-- Cause of a pending switch (R344). -/
def switchCause (t : HeadSt) : Nat := match t.switch with | some q => q.2.2.2.2.2 | none => 2

/-- R343: the phase error of the lock groups that a head leaves and joins at this field start is settled before their pull changes. -/
def settleMove (s : State) (h : Nat) : State :=
  let t := headOf s h
  let g := t.nxt.f (Reg.HEAD_TIMING_CTRL h) 4 2
  if t.group = g then s else settleGroup (settleGroup s t.group) g

/-- The field that the last latch fixed begins at `T` (R342, R345). -/
def beginField (s : State) (h : Fin 4) (T : Int) : State :=
  let s := settleMove (if headE s h = 0 then settleHead s h else s) h
  let got := readHeader s h (headOf s h).nxt
  let s := got.1
  let t := headOf s h
  let was := headE s h
  let cause := switchCause t
  let band := t.band.filter fun b => decide (b.field = got.2.num)
  let t := nextSchedule s { t with cur := got.2, latched := false, line := none, started := T, sending := true, band := band } T
  let s := putHead s h (changeGroup s h T t)
  let F := (headOf s h).cur
  let s := renameField s h got.2.num F.num
  let s := perfHit s 0x40 h.val 0x10 1
  let s := (s.wr (Reg.HEAD_FIELD h) F.num).wr64 (Reg.HEAD_FIELD_START_LO h) (Reg.HEAD_FIELD_START_HI h) (u64 T)
  let s := notePhase s h was cause
  let mask := (List.range 8).foldl (fun m k => m + b2n (eclipsedIn F k) * 2 ^ k) 0
  let s := s.setF (Reg.HEAD_HEAD_STATUS h) 8 8 mask
  let s := showRgu ((List.range 8).foldl (showLayer F h) s) h F
  let s := (s.setB (Reg.OUT_OUT_STATUS h) 0 F.pol).setB (Reg.OUT_OUT_STATUS h) 1 F.held
  let mode := F.f (Reg.ZL_MIRROR_CTRL h) 0 2
  let s := s.setB (Reg.ZL_MIRROR_STATUS h) 8 (F.produced && decide (mode = 1 ∨ mode = 2))
  let s := wbStamp s h F.num
  let s := if F.produced then
      (List.range 16).foldl (fun s n =>
        match (fieldFrames F).find? fun r => decide (r.store = n) with
        | some r => putStore s n { storeOf s n with shown := tabSet (fun _ => none) (storeOf s n).shown h (some r) }
        | none => s) s
    else s
  showIssuing (showPhase s h) h

/-- The guard of FIELD_START: the next field is due, or the end of the last one (R338, R520). -/
def fieldDue (s : State) (h : Nat) : Bool :=
  let t := headOf s h
  t.run && decide (roleCode s (headBase h) = 1 ∧ nextFieldStart s h ≤ (s.now : Int)) &&
    (t.latched || decide (headState s h = 4 ∨ s.transition = 1))

/-- FIELD_START without what other chapters add to it (R342): a STOPPING head stops at the end of its field (R338). -/
def fieldStart (s : State) (h : Fin 4) : State :=
  let T := nextFieldStart s h
  let s := endField s h T
  if headState s h = 4 then headStop s h else beginField s h T

/-! ### Enable (R335, R341, R384) -/

/-- R335: the first field of a schedule whose latch lies at least 10 µs after now, with phase error `e`. -/
def joinField (now anchor : Int) (num den : Nat) (e : Int) (latch vTotal skew from_ : Nat) : Nat :=
  let at_ := fun n => schedStart anchor num den n + e + (latch : Int) * (schedStart anchor num den (n + 1) - schedStart anchor num den n) / (vTotal : Nat) + (skew : Nat)
  let m := ((now - e - anchor) * num / (den * 1000000000 : Nat)).toNat
  ([m - 1, m, m + 1, m + 2].find? fun n => decide (from_ ≤ n ∧ now + 10000 ≤ at_ n)).getD (max from_ (m + 3))

/-- A TRANSMIT head becomes STARTING and joins its schedule (R335), or that of its running lock group (R341). -/
def joinSchedule (s : State) (h : Nat) : State :=
  let cfg := snapshot s h
  let F : FieldSt := { FieldSt.none_ with cfg := cfg }
  let latch := latchLine F h
  let vt := F.f (Reg.HEAD_V_LINES h) 16 16
  let skew := F.f (Reg.HEAD_LINE_SKEW h) 0 16
  let t := headOf s h
  match groupRunning s h with
  | g :: _ =>
    let u := headOf s g
    let n := joinField (s.now : Int) u.anchor u.num u.den (headE s g) latch vt skew u.idx
    putHead s h { t with anchor := u.anchor, num := u.num, den := u.den, idx := n, e := u.e, eAt := u.eAt, group := lockGroup s h, latched := false, switch := none, cur := { F with num := u.cur.num + w32 (n - u.idx) } }
  | [] =>
    let got := cfgRate cfg h
    let num := got.1
    let den := got.2
    let anchor := anchorOf s h cfg
    let n := joinField (s.now : Int) anchor num den 0 latch vt skew 0
    putHead s h { t with anchor := anchor, num := num, den := den, idx := n, e := 0, eAt := s.now, group := lockGroup s h, latched := false, switch := none, cur := { F with num := w32 n } }

/-- The schedule that a STARTING head joined is no longer that of its timing, or of its lock group (R339, R341). -/
def joinStale (s : State) (h : Nat) : Bool :=
  let t := headOf s h
  decide (t.group ≠ lockGroup s h) ||
  (match groupRunning s h with
   | g :: _ =>
     let u := headOf s g
     decide ((t.anchor, t.num, t.den) ≠ (u.anchor, u.num, u.den) ∨ headE s h ≠ headE s g)
   | [] =>
     let cfg := snapshot s h
     decide ((t.num, t.den) ≠ cfgRate cfg h ∨ t.anchor ≠ anchorOf s h cfg) || (timingRegs h).any fun a =>
       decide (cfgReg t.cur.cfg a ≠ cfgReg cfg a))

/-- A latch event: a STARTING head whose schedule has changed since it joined joins anew and has no latch yet (R335, R339). -/
def latchEvent (s : State) (h : Fin 4) : State :=
  if headState s h = 1 ∧ joinStale s h then joinSchedule s h else latchWork s h

/-- R384, R340: the enable of a head is refused. -/
def enableRefused (s : State) (h : Nat) : Bool :=
  let role := roleCode s (headBase h)
  let a := Reg.PAGE_CTRL (headBase h)
  decide (role ≠ 1 ∧ role ≠ 2) || !lanesMatch s h role ||
  (offender (allChecks s (overlay s [(a, s.rd a ||| 1)])) fun b => decide (b = a)).isSome

/-- A head starts (R335): it is enabled and joins its schedule, or waits for the link that it receives. -/
def headStart (s : State) (h : Fin 4) : State :=
  let s := setOn s (headBase h)
  let s := setHeadState s h 1
  let s := if roleCode s (headBase h) = 1 then joinSchedule s h
    else putHead s h { headOf s h with cur := { FieldSt.none_ with cfg := snapshot s h, num := s.rd (Reg.HEAD_FIELD h) } }
  headFollows (linkEnable s h) h

/-- A head is enabled (R110, R335, R384). -/
def headOnCmd (s : State) (h : Fin 4) : State :=
  if enabled s (headBase h) then s
  else if !quiesced s (headBase h) || enableRefused s h then refuse s (Reg.PAGE_CTRL (headBase h))
  else headStart s h

/-- HEAD_ENABLE (R335). -/
def execHeadEnable (req : Requester) (h : Fin 4) (s : State) : Host.Outcome State Fault Refusal :=
  .next (gated s req (Reg.PAGE_CTRL (headBase h)) none fun s => headOnCmd s h)

/-! ### COMMIT.GO (R347) -/

/-- ACTIVE_DESC and ACTIVE_GUARD of a layer of a DISABLED head (R331): the values that are in effect. -/
def showActive (h : Nat) (s : State) (k : Nat) : State :=
  let s := (s.wr (Reg.LAYER_ACTIVE_DESC_LO h k) (inEffect s (Reg.LAYER_DESC_LO h k))).wr (Reg.LAYER_ACTIVE_DESC_HI h k)
    (inEffect s (Reg.LAYER_DESC_HI h k))
  s.wr (Reg.LAYER_ACTIVE_GUARD h k) (inEffect s (Reg.LAYER_GUARD h k))

/-- A write of 1 to COMMIT.GO. On a DISABLED head the commit is in effect at once (R347). -/
def commitGo (s : State) (h : Fin 4) : State :=
  let st := headState s h
  if s.b (Reg.HEAD_COMMIT h) 0 ∧ st ≠ 0 then s
  else if st = 0 then ((List.range 8).foldl (showActive h) (layerCommit s h 0xFFFFFFFF)).wr (Reg.HEAD_COMMIT_FIELD h) 0xFFFFFFFF
  else
    let s := s.setB (Reg.HEAD_COMMIT h) 0 true
    s.wr (Reg.HEAD_COMMIT_FIELD h) (if st = 3 then nextLatchField s h else 0xFFFFFFFF)

/-- COMMIT_GO (R347). -/
def execCommitGo (req : Requester) (h : Fin 4) (s : State) : Host.Outcome State Fault Refusal :=
  .next (gated s req (Reg.HEAD_COMMIT h) none fun s => commitGo s h)

/-! ### Phase (R343) -/

/-- PHASE_LOCK_REACHED (R343): E of a lock group has reached 0. -/
def execPhaseLockReached (group : Fin 4) (s : State) : Host.Outcome State Fault Refusal :=
  .next ((List.finRange 4).foldl (fun (s : State) (h : Fin 4) =>
    let t := headOf s h
    if t.group = group ∧ timeLocked s h ∧ t.e ≠ 0 ∧ headE s h = 0 then settleHead s h else s) s)

end Sys2Proof.Machine
end

