-- ==== Sys2Proof/Machine/Memory.lean ====
section
/-!
DEFINITION. The HBM memory system (R462 to R482): the command slot of a pseudo-channel, sleep, disturbance, the failure
ladder, scrub, and migration with retirement and borrowing. The requests of other commands are served within those
commands (log entry 5), so only requests that a MEMORY_REQUEST brings wait at a command slot.
-/
namespace Sys2Proof.Machine

/-! ### Registers of a physical PC -/

/-- PC_STATUS of a physical PC (R479). -/
def pcReg (p : Nat) : Nat := Reg.STACK_PC_STATUS (pcStack p) (p % 32)

/-- PC_STATUS.STATE: 0 ACTIVE, 1 SPARE, 2 SOURCE, 3 TARGET, 4 OFFLINE_TRAINING, 5 SAFE, 6 RETIRED, 7 UNTRAINED. -/
def pcState (s : State) (p : Nat) : Nat := s.f (pcReg p) 0 4

/-- PC_STATUS.LOGICAL; 0x3F when the PC serves none. -/
def pcLogical (s : State) (p : Nat) : Nat := s.f (pcReg p) 8 6

/-- The state with STATE and LOGICAL of a PC. -/
def setPc (s : State) (p st l : Nat) : State := (s.setF (pcReg p) 0 4 st).setF (pcReg p) 8 6 l

/-- Temperature of a stack as last read, signed °C. -/
def stackTemp (s : State) (k : Nat) : Int := sfld (s.rd (Reg.STACK_STACK_STATUS k)) 0 8

/-- TRAIN_TEMP of a PC. -/
def trainTemp (s : State) (p : Nat) : Int := sfld (s.rd (pcReg p)) 16 8

/-- The PC serves a logical channel. -/
def pcServes (s : State) (p : Nat) : Bool := decide (pcState s p = 0 ∨ pcState s p = 2 ∨ pcState s p = 5) && decide (pcLogical s p < 62)

/-- The free spares, lowest number first. -/
def freeSpares (s : State) : List Nat := (List.range 64).filter fun p => decide (pcState s p = 1)

/-- SPARE_STATUS and SAFE_LIMIT shown from the migration state (R469, R478, R481). -/
def showSpares (s : State) : State :=
  let s := s.setF Reg.MEM4_SPARE_STATUS 0 2 (min (freeSpares s).length 3)
  let s := s.setB Reg.MEM4_SPARE_STATUS 8 s.mem.mig.isSome
  let s := s.setB Reg.MEM4_SPARE_STATUS 9 s.mem.shrink.isSome
  s.setB Reg.MEM0_MEM_STATUS 4 (!s.mem.safe.isEmpty)

/-- The memory has trained (MEM_STATUS.READY). -/
def memReady (s : State) : Bool := s.b Reg.MEM0_MEM_STATUS 0

/-! ### Service classes (R462 to R464) -/

/-- CLASS_AGE of a class in ns. -/
def classAge (s : State) (c : Nat) : Nat := s.f (Reg.MEM0_CLASS_AGE c) 0 24

/-- Data rate of the active PCs in MB/s (R37, R464, R469): 25.6 GB/s each, a PC in safe mode three quarters of it. -/
def activeRate (s : State) : Nat :=
  let n := ((List.range 64).filter (pcServes s)).length
  25600 * (n - s.mem.safe.length) + 19200 * s.mem.safe.length

/-- Bytes moved over the last `ns`. -/
def movedIn (s : State) (ns : Nat) : Nat := ((s.mem.traffic.filter fun p => decide (s.now < p.1 + ns)).map fun p => p.2).sum

/-- Utilisation over the last `ns` in 0.1 %. -/
def utilOver (s : State) (ns : Nat) : Nat := min (movedIn s ns * 1000000 / (activeRate s * ns)) 1000

/-- UTIL (R464): utilisation over the last 1 ms. -/
def memUtil (s : State) : Nat := utilOver s 1000000

/-- CLASS_MAX_WAIT_c (R478). -/
def maxWait (s : State) (c : Nat) : Nat :=
  (s.mem.waits.filter fun w => decide (w.2.1 = c ∧ s.now < w.1 + 1000000000)).foldl (fun m w => max m w.2.2) 0

/-- The held state of R464 follows the utilisation of the last 10 µs: the bytes moved against CEILING percent of what the active PCs
could move. -/
def holdEval (s : State) : State :=
  let u := movedIn s 10000 * 100000
  let c := s.f Reg.MEM0_CEILING 0 7 * (activeRate s * 10000)
  if c < u ∧ s.mem.heldSince = none then
    ({ s with mem := { s.mem with heldSince := some s.now } } : State).setB Reg.MEM0_MEM_STATUS 3 true
  else if u < c ∧ s.mem.heldSince ≠ none then
    ({ s with mem := { s.mem with heldSince := none } } : State).setB Reg.MEM0_MEM_STATUS 3 false
  else s

/-- A request becomes aged (R462, R463): CLASS_AGED, and SC0_AGED once per field of the head that issued it. -/
def ageOne (s : State) (w : MemWait) : State :=
  let s := s.inc (Reg.MEM0_CLASS_AGED w.req.cls)
  let h := w.req.requester.head
  let f := (tabGet (fun _ => HeadSt.fresh) s.heads h).started
  if w.req.cls = 0 ∧ tabGet (fun _ => none) s.mem.sc0Told h ≠ some f then
    let s := { s with mem := { s.mem with sc0Told := tabSet (fun _ => none) s.mem.sc0Told h (some f) } }
    s.raise .sc0Aged [w32 h, w32 (s.now - w.at_), w32 w.pc]
  else s

/-- The request has waited for longer than CLASS_AGE of its class (R462). -/
def overAge (s : State) (w : MemWait) : Bool := decide (classAge s w.req.cls < s.now - w.at_)

/-- Every waiting request that a condition names becomes aged if its wait is long enough. -/
def ageIf (s : State) (c : MemWait → Bool) : State :=
  let l := s.mem.queue.filter fun w => c w && !w.aged && overAge s w
  let s := l.foldl ageOne s
  { s with mem := { s.mem with queue := s.mem.queue.map fun w => if l.any (·.seq = w.seq) then { w with aged := true } else w } }

/-- Place of a request in the order of R463: SC0, aged requests, then the classes. -/
def memRank (w : MemWait) : Nat := if w.req.cls = 0 then 0 else if w.aged then 1 else 1 + w.req.cls

/-- Two requests of one requester touch a granule in common: they complete in issue order (R461). -/
def sameGranule (v w : MemWait) : Bool :=
  decide (v.req.requester = w.req.requester ∧ v.req.addr / 1024 ≤ (w.req.addr + w.req.len - 1) / 1024 ∧
    w.req.addr / 1024 ≤ (v.req.addr + v.req.len - 1) / 1024)

/-- The request issued at a command slot of a PC (R463, R464): the oldest of the first group that holds one which may be issued. -/
def memPick (s : State) (p : Nat) : Option MemWait :=
  let held := s.mem.heldSince.isSome
  let l := s.mem.queue.filter fun w => decide (w.pc = p) && !(held && decide (2 ≤ w.req.cls) && !w.aged) &&
    !s.mem.queue.any fun v => decide (v.seq < w.seq) && sameGranule v w
  l.foldl (fun b w => match b with
    | none => some w
    | some v => if memRank w < memRank v then some w else some v) none

/-! ### Sleep (R465 to R467) -/

/-- The smallest tolerance that the heads report (R24, MIN_TOLERANCE). -/
def minTolerance (s : State) : Nat := (List.range 4).foldl (fun m h => min m (s.rdN (Reg.HEAD_TOLERANCE h))) 0xFFFFFFFF

/-- A migration, a scrub burst or retraining of a PC is under way (R465). -/
def memBusy (s : State) : Bool :=
  s.mem.mig.isSome || (List.range 64).any fun p => decide (pcState s p = 4)

/-- Sleep may be entered: no request, nothing under way, not in STANDBY, and the tolerance is at least `t` (R465). -/
def maySleep (s : State) (t : Nat) : Bool :=
  memReady s && s.mem.queue.isEmpty && !memBusy s && decide (s.powerState ≠ 2) && decide (t ≤ minTolerance s)

/-- POWER_DOWN_ENTRY (R465). -/
def execPowerDownEntry (s : State) : Host.Outcome State Fault Refusal :=
  done (if maySleep s 200 && s.b Reg.MEM0_SLEEP_CTRL 0 && decide (memSleep s = 0) then setSleep s 1 else s)

/-- SELF_REFRESH_ENTRY (R465, R466): the first closes the open rows, the second issues the entry command, which is the
point of no return. -/
def execSelfRefreshEntry (s : State) : Host.Outcome State Fault Refusal :=
  done (
    if maySleep s 1300 && s.b Reg.MEM0_SLEEP_CTRL 1 && !s.mem.exiting then
      if memSleep s = 3 then (setSleep s 2).inc Reg.MEM0_SR_ENTRIES
      else if memSleep s ≠ 2 ∧ s.mem.idleSince + 100 * s.f Reg.MEM0_SLEEP_CTRL 8 8 ≤ s.now then
        setSleep { s with mem := { s.mem with openRow := [] } } 3
      else s
    else s)

/-- Exit begins, or an entry is cancelled (R465, R466); `req`: a request arrived. In STANDBY the stacks stay in
self-refresh (R467). -/
def sleepOut (s : State) (req : Bool) : State :=
  if s.powerState = 2 ∨ memSleep s = 0 then s
  else
    let low := decide (minTolerance s < (if memSleep s = 1 then 200 else 1300))
    if !(req || low) then s
    else if memSleep s = 3 then (setSleep s 0).inc Reg.MEM0_SR_CANCELLED
    else
      let s := if req && decide (memSleep s = 2) then s.inc Reg.MEM0_SR_LATE_WAITS else s
      { s with mem := { s.mem with exiting := true } }

/-- SLEEP_EXIT (R465, R466). -/
def execSleepExit (req : Bool) (s : State) : Host.Outcome State Fault Refusal := done (sleepOut s req)

/-- SLEEP_EXIT_COMPLETE (R465, R466): the stacks are awake. -/
def execSleepExitComplete (s : State) : Host.Outcome State Fault Refusal :=
  done (if s.mem.exiting && decide (s.powerState ≠ 2) then
      setSleep { s with mem := { s.mem with exiting := false, idleSince := s.now } } 0
    else s)

/-! ### The command slot -/

/-- The PC at which a request waits (R458): the one its address maps to. Behind an unmapped address lies none (R460): the request
waits where it is named. -/
def memPc (s : State) (p : Nat) (r : MemReq) : Nat := if r.addr < usableTop s then (hbmMap s r.addr).1 else p

/-- A request arrives (R462). -/
def memArrive (s : State) (p : Nat) (r : MemReq) : State :=
  if s.powerState = 2 then s
  else
    let s := { s with mem := { s.mem with
      queue := s.mem.queue ++ [⟨s.mem.nextSeq, memPc s p r, r, s.now, false⟩]
      nextSeq := s.mem.nextSeq + 1 } }
    sleepOut s true

/-- The map has changed between two requests (R471): those that wait follow it. -/
def remapQueue (s : State) : State :=
  { s with mem := { s.mem with queue := s.mem.queue.map fun w => { w with pc := memPc s w.pc w.req } } }

/-- A request is served (R461, R468, R470): its wait is noted, its rows are activated and its data moved. -/
def memServe (s : State) (w : MemWait) : State :=
  let s := { s with mem := { s.mem with
    queue := s.mem.queue.filter (·.seq ≠ w.seq)
    waits := (s.now, w.req.cls, s.now - w.at_) :: s.mem.waits.filter fun x => decide (s.now < x.1 + 1000000000) } }
  let s := if s.mem.queue.isEmpty then { s with mem := { s.mem with idleSince := s.now } } else s
  let a := w.req.addr
  match w.req.write with
  | some l => { hbmWrite s w.req.cls a l with mem.served := some (w.seq, false, l) }
  | none =>
    let bad := rangeBad s a w.req.len
    let d := hbmBytes s a w.req.len
    { touch s w.req.cls a w.req.len with mem.served := some (w.seq, bad, d) }

/-- MEMORY_REQUEST (R463): a request arrives at a PC, or a command slot of the PC issues one. -/
def execMemoryRequest (pc : Fin 64) (arrive : Option MemReq) (s : State) : Host.Outcome State Fault Refusal :=
  done (
    if memReady s then
      match arrive with
      | some r => memArrive (holdEval s) pc.val r
      | none =>
        let s := ageIf (holdEval s) (·.pc = pc.val)
        if memSleep s = 0 ∧ s.powerState ≠ 2 then
          match memPick s pc.val with
          | some w => memServe s w
          | none => s
        else s
    else s)

/-- REQUEST_AGED (R462, R463). -/
def execRequestAged (seq : Nat) (s : State) : Host.Outcome State Fault Refusal := done (holdEval (ageIf s (·.seq = seq)))

/-- CEILING_HOLD_TIMEOUT (R464): the held state has lasted 10 ms; no more than one event per second. -/
def execCeilingHoldTimeout (s : State) : Host.Outcome State Fault Refusal :=
  let s := holdEval s
  let due := s.mem.heldSince.any fun t => decide (t + 10000000 ≤ s.now)
  let told := s.mem.ceilTold.any fun u => decide (s.now < u + 1000000000)
  done (
    if due && !told then { s with mem := { s.mem with ceilTold := some s.now } }.raise .ceilingExceeded [w32 (memUtil s)]
    else s)

/-! ### Migration (R471 to R477) -/

/-- Number of no PC: the rows of lost channels. -/
def noPc : Nat := 64

/-- A PC number as the registers and events show it: 0x3F for none. -/
def pcShow (p : Nat) : Nat := if p = noPc then 0x3F else p

/-- Reason codes (R471). -/
def migCode : MigReason → Nat
  | .periodic => 1
  | .temperature => 2
  | .errors => 3
  | .failure => 4
  | .command => 5
  | .borrow => 6

/-! ### The copy (R471, R481) -/

/-- Granule rows of a channel (R458). -/
def migRows (s : State) : Nat := chanRows - borrowedRows (lostCount s)

/-- Blocks of rows `a` up to `b` of a channel whose check state is not good, ascending. -/
def badBlocks (s : State) (l a b : Nat) : List Nat :=
  (s.mem.ecc.filter fun p => decide (p.1 / 32 % 62 = l ∧ a ≤ p.1 / 32 / 62 ∧ p.1 / 32 / 62 < b)).map (·.1)

/-- A row of the channel being copied is read from the source and written to the target (R468, R471). -/
def copyRow (m : Mig) (s : State) (j : Nat) : State :=
  let s := issueAt s (hbmMap s ((62 * j + m.chan) * 1024)).1 false (j * 1024) 1024
  if m.tgt < 64 then issueAt s m.tgt true (j * 1024) 1024 else s

/-- `n` more rows of the running migration are copied (R471): read and written in SC5, errors of the source treated as by any read
(R470), poison copied as poison. DESIGN CHOICE (log entry 5): rows become known at a read of a MEM register, a refresh window or the
end of the copy; the traffic of the last 1 ms takes no more of them than MIGRATE_BW moves in 10 µs. -/
def copyRows (s : State) (m : Mig) (n : Nat) : State :=
  let k := min (2048 * n) (s.f Reg.MEM4_MIGRATE_BW 0 8 * 1000)
  let s := xfer s 5 k
  let s := perfHit (s.inc48 (Reg.MEM0_CLASS_BYTES_LO 5) (Reg.MEM0_CLASS_BYTES_HI 5) (2048 * n - k)) 0x90 0 0x15 (2048 * n - k)
  let s := ((List.range n).map (m.copied + ·)).foldl (copyRow m) s
  let s := (badBlocks s m.chan m.copied (m.copied + n)).foldl (touchBlock 5) s
  { s with mem := { s.mem with mig := some { m with copied := m.copied + n, seen := s.now } } }

/-- What the running migration has copied by now: a free number of rows within MIGRATE_BW, the last row left (R471). -/
def migLook (s : State) : State :=
  match s.mem.mig with
  | none => s
  | some m =>
    let most := min (s.f Reg.MEM4_MIGRATE_BW 0 8 * (s.now - m.seen) / 10240) (migRows s - 1 - m.copied)
    if most = 0 ∨ s.powerState = 2 then s
    else copyRows s.useFree m ((Config.freeWord s.freeCount).toNat % (most + 1))

/-- MIGRATION.PROGRESS in 0.1 % (R481). -/
def migProgress (s : State) : Nat :=
  match s.mem.mig with | some m => m.copied * 1000 / max 1 (migRows s) | none => s.f Reg.MEM4_MIGRATION 16 10

/-- What a read of a MEM register finds: the held state and the copy as they are now (R464, R481). -/
def memLook (s : State) : State := if memReady s then holdEval (migLook s) else s

/-- REFRESH_WINDOW (R468): a new 32 ms window clears every table. -/
def execRefreshWindow (s : State) : Host.Outcome State Fault Refusal :=
  let s := migLook s
  done { s with mem := { s.mem with acts := [], openRow := [] } }

/-- The state with the migration unit's lists. -/
def setMig (s : State) (m : Option Mig) (due : List Mig) : State := { s with mem := { s.mem with mig := m, due := due } }

/-- A migration starts to copy (R471); its first request wakes the memory (R465). -/
def runMig (s : State) (m : Mig) (due : List Mig) : State :=
  let s := memWake s
  let s := setMig s (some { m with copied := 0, seen := s.now }) due
  let s := if m.src = noPc then s else s.setF (pcReg m.src) 0 4 2
  let s := if m.tgt = noPc then s else setPc s m.tgt 3 m.chan
  let s := s.wr Reg.MEM4_MIGRATION (w32 (pcShow m.src + 64 * pcShow m.tgt + 4096 * m.reason))
  showSpares s

/-- USABLE_TOP after one more channel is lost (R474). -/
def nextTop (s : State) : Nat := topFor (lostCount s + 1)

/-- A borrow may be made: the new top stays 1 GiB above SYSTEM_TOP (R459, R474). -/
def mayBorrow (s : State) : Bool := decide (systemTop s + 2 ^ 30 ≤ nextTop s)

/-- M increments (R474). -/
def oneLost (s : State) : State :=
  let s := { s with mem := { s.mem with lost := s.mem.lost + 1 } }
  s.setF Reg.MEM4_SPARE_STATUS 4 4 (lostCount s)

/-- Data at or above a new top is discarded (R474). -/
def dropAbove (s : State) (top : Nat) : State :=
  { s with mem := { s.mem with hbm := s.mem.hbm.filter fun p => decide (p.1 < top) } }

/-- The shrink of R474 comes into force: M and USABLE_TOP change, data above the new top is discarded, and the rows of
the other lost channels are due to move. -/
def shrinkTop (s : State) : State :=
  let top := nextTop s
  let lost := (List.range 62).filter (chanLost s)
  let s := oneLost s
  let s := s.wr64 Reg.MEM4_USABLE_TOP_LO Reg.MEM4_USABLE_TOP_HI top
  let s := dropAbove s top
  let s := { s with mem := { s.mem with
    ecc := s.mem.ecc.filter fun p => decide (p.1 * 32 < top)
    due := s.mem.due ++ lost.map fun l => Mig.mk noPc l 6 false noPc true 0 0 } }
  s.raise .bulkShrunk [w32 top, w32 (top / 2 ^ 32), w32 (lostCount s)]

/-- The next migration due that can start (R471, R472, R474): FAILURE first, then the oldest. With no spare free a
PERIODIC or TEMPERATURE migration is dropped, a COMMAND waits, and ERRORS or FAILURE borrows; a borrow that R459 forbids, or one
beside a held shrink, waits; one whose shrink is made already starts. `fuel` bounds the entries looked at. -/
def startNext : Nat → State → State
  | 0, s => s
  | fuel + 1, s =>
    if s.mem.mig.isSome then showSpares s
    else
      let spare := (freeSpares s).head?
      let fails := s.mem.due.filter (·.reason = 4)
      let can := fun (m : Mig) => m.shrunk || spare.isSome || decide (m.reason ≤ 2)
        || (decide (m.reason = 3 ∨ m.reason = 4) && mayBorrow s && s.mem.shrink.isNone)
      match (fails ++ s.mem.due.filter (·.reason ≠ 4)).find? can with
      | none => showSpares s
      | some m =>
        let due := s.mem.due.filter (· ≠ m)
        if m.shrunk then runMig s { m with tgt := noPc } due
        else if !pcServes s m.src then startNext fuel (setMig s none due)
        else match spare with
          | some t => runMig s { m with tgt := t } due
          | none =>
            if m.reason ≤ 2 then startNext fuel ((setMig s none due).raise .spareExhausted [])
            else
              let s := s.raise .spareExhausted []
              if s.feat 14 && s.b Reg.MEM4_SHRINK_POLICY 0 then
                let s := { setMig s none due with mem.shrink := some m }
                (showSpares s).raise .shrinkRequested [w32 (nextTop s), w32 (nextTop s / 2 ^ 32)]
              else
                let s := shrinkTop (setMig s none due)
                runMig s { m with tgt := noPc, shrunk := true } s.mem.due

/-- Starts what can start. -/
def migNext (s : State) : State := startNext (s.mem.due.length + 1) s

/-- The migration that runs is abandoned (R471): CHAN_MAP is unchanged and the spare is freed. -/
def abandonMig (s : State) : State :=
  match s.mem.mig with
  | none => s
  | some m =>
    let s := setMig s none s.mem.due
    let s := if m.src = noPc then s else s.setF (pcReg m.src) 0 4 (if s.mem.safe.contains m.src then 5 else 0)
    if m.tgt = noPc then s else setPc s m.tgt 1 0x3F

/-- A migration of a PC takes up a further reason of it: FAILURE (R469), and RETIRE of a command (R477). DEDUCED (log entry 48): a PC
moves once for all the reasons that have come up before it has moved. -/
def alsoDue (p reason : Nat) (retire : Bool) (m : Mig) : Mig :=
  if m.src = p then { m with reason := if reason = 4 then 4 else m.reason, retire := m.retire || retire } else m

/-- A PC is due for a migration (R471): it is queued once; FAILURE abandons a migration that holds the last spare. -/
def migDue (s : State) (p reason : Nat) (retire : Bool) : State :=
  let dup := s.mem.due.any (fun m => decide (m.src = p)) || s.mem.mig.any (fun m => decide (m.src = p))
    || s.mem.shrink.any fun m => decide (m.src = p)
  let g := alsoDue p reason retire
  let s := if dup then
      let s := { setMig s (s.mem.mig.map g) (s.mem.due.map g) with mem.shrink := s.mem.shrink.map g }
      match s.mem.mig with
      | some m => s.setF Reg.MEM4_MIGRATION 12 4 m.reason
      | none => s
    else setMig s s.mem.mig (s.mem.due ++ [⟨p, pcLogical s p, reason, retire, noPc, false, 0, 0⟩])
  let s := match s.mem.mig with
    | some m =>
      if reason = 4 ∧ m.reason ≠ 4 ∧ m.tgt ≠ noPc ∧ m.src ≠ p ∧ (freeSpares s).isEmpty then abandonMig s else s
    | none => s
  migNext s

/-- The reason's condition holds for a PC (R471). -/
def migMeets (s : State) (p : Nat) : MigReason → Bool
  | .periodic =>
    decide (tabGet (fun _ => 0) s.mem.trainedAt p + s.rdN Reg.MEM4_RETRAIN_PERIOD * hourNs < s.now + 1)
  | .temperature => decide (s.rdN Reg.MEM4_RETRAIN_DELTA_T < (stackTemp s (pcStack p) - trainTemp s p).natAbs)
  | .errors =>
    let l := (tabGet (fun _ => []) s.mem.ceTimes p).filter fun t => decide (s.now < t + hourNs)
    decide (s.rdN Reg.MEM3_CE_RETIRE ≠ 0 ∧ s.rdN Reg.MEM3_CE_RETIRE < l.length)
  | .failure => decide (pcState s p = 5)
  | .command => false
  | .borrow => false

/-- MIGRATION_START (R471, R472, R474): a PC is due; COMMAND and BORROW start only what is already due. -/
def execMigrationStart (pc : Fin 64) (reason : MigReason) (s : State) : Host.Outcome State Fault Refusal :=
  done (
    if !memReady s || decide (s.powerState = 2) then s
    else if migMeets s pc.val reason && pcServes s pc.val then migDue s pc.val (migCode reason) false
    else migNext s)

/-- MIGRATION_COMPLETE (R471): the last rows are copied, CHAN_MAP switches and the source is released for offline training (R472).
Memory copies nothing in STANDBY (R467). -/
def execMigrationComplete (s : State) : Host.Outcome State Fault Refusal :=
  done (match s.mem.mig with
    | none => s
    | some m => if s.powerState = 2 then s else
      let s := setMig (copyRows s m (migRows s - m.copied)) none s.mem.due
      let s := if m.src = noPc then s
        else
          let s := if m.tgt = noPc then s.setB (Reg.MEM4_CHAN_MAP m.chan) 8 true
            else
              let s := setPc (s.setF (Reg.MEM4_CHAN_MAP m.chan) 0 6 m.tgt) m.tgt 0 m.chan
              { s with mem := { s.mem with spareEcc := s.mem.spareEcc.filter fun q => decide (q.1 / 2 ^ 25 ≠ m.tgt) } }
          let s := setPc s m.src 4 0x3F
          { s with mem := { s.mem with
            fate := tabSet (fun _ => 0) s.mem.fate m.src (m.reason + (if m.retire then 16 else 0))
            safe := s.mem.safe.filter (· ≠ m.src) } }
      let s := ((remapQueue s).inc Reg.MEM4_MIGRATIONS).setF Reg.MEM4_MIGRATION 16 10 1000
      let s := s.raise .migrationDone [w32 (pcShow m.src), w32 (pcShow m.tgt), w32 m.reason]
      migNext s)

/-- A PC is retired (R472): for good when it is recorded in flash. -/
def retirePc (s : State) (p : Nat) (flash : Bool) : State :=
  let s := setPc s p 6 0x3F
  let s := if p < 32 then s.setB Reg.MEM4_RETIRED_MASK_LO p true else s.setB Reg.MEM4_RETIRED_MASK_HI (p - 32) true
  if flash ∧ p ∉ s.mem.retired then { s with mem := { s.mem with retired := s.mem.retired ++ [p] } } else s

/-- OFFLINE_RETRAIN_COMPLETE (R472): a released PC becomes a spare, or is retired. Retraining is suspended in STANDBY (R467). -/
def execOfflineRetrainComplete (pc : Fin 64) (ok : Bool) (s : State) : Host.Outcome State Fault Refusal :=
  let p := pc.val
  done (
    if pcState s p ≠ 4 ∨ s.powerState = 2 then s
    else
      let f := tabGet (fun _ => 0) s.mem.fate p
      let s := { s with mem := { s.mem with fate := tabSet (fun _ => 0) s.mem.fate p 0 } }
      if ok ∧ f < 16 ∧ f ≠ 3 then
        let s := (setPc s p 1 0x3F).setF (pcReg p) 16 8 (stackTemp s (pcStack p) % 256).toNat
        let s := { s with mem := { s.mem with trainedAt := tabSet (fun _ => 0) s.mem.trainedAt p s.now } }
        migNext ((showSpares s).raise .retrainDone [w32 p, w32 (f % 16)])
      else
        let s := showSpares (retirePc s p true)
        let s := s.raise .pcRetired [w32 p, w32 (freeSpares s).length]
        migNext (if (freeSpares s).isEmpty then spareLow (s.raise .spareExhausted []) 1 0 else s))

/-- MEM_CMD RETRAIN or RETIRE (R477). -/
def memCommand (s : State) (r : Requester) (p : Nat) (retire : Bool) : State :=
  gatedIf s r Reg.MEM4_MEM_CMD (some 14) (fun s => pcServes s p && !(freeSpares s).isEmpty) fun s => migDue s p 5 retire

/-- MEM_CMD_RETRAIN (R477). -/
def execMemCmdRetrain (req : Requester) (pc : Fin 64) (s : State) : Host.Outcome State Fault Refusal :=
  done (memCommand s req pc.val false)

/-- MEM_CMD_RETIRE (R477). -/
def execMemCmdRetire (req : Requester) (pc : Fin 64) (s : State) : Host.Outcome State Fault Refusal :=
  done (memCommand s req pc.val true)

/-- A held shrink proceeds as under AUTO (R474). -/
def ackShrink (s : State) : State :=
  match s.mem.shrink with
  | none => s
  | some m =>
    let s := { s with mem := { s.mem with shrink := none } }
    if pcServes s m.src && mayBorrow s then
      let s := shrinkTop s
      migNext (setMig s s.mem.mig ({ m with tgt := noPc, shrunk := true } :: s.mem.due))
    else migNext s

/-- SHRINK_ACK (R474, R477). -/
def execShrinkAck (req : Requester) (s : State) : Host.Outcome State Fault Refusal :=
  done (gated s req Reg.MEM4_MEM_CMD (some 14) ackShrink)

/-! ### The failure ladder (R469, R475, R476) -/

/-- The stacks take commands: trained, and not held in self-refresh by STANDBY (R467, R473). -/
def memRuns (s : State) : Bool := memReady s && decide (s.powerState ≠ 2)

/-- Each attempt reissues the kept commands from the one in error onward, in order (R469). -/
def replay (s : State) (p first : Nat) : Nat → State
  | 0 => s
  | n + 1 => replay (s.emit (.reissue p ((tabGet (fun _ => []) s.mem.kept p).drop first))) p first n

/-- PARITY_ERROR (R469): the kept command `first` was in error; up to three replays, counted; the event tells of the first. -/
def execParityError (pc : Fin 64) (first attempts : Nat) (s : State) : Host.Outcome State Fault Refusal :=
  let p := pc.val
  done (if memRuns s ∧ 1 ≤ attempts then
      let s := s.incBy (Reg.STACK_PARITY_REPLAYS (pcStack p) (p % 32)) (min attempts 3)
      (replay s p first (min attempts 3)).raise .parityReplayed [w32 p, 1]
    else s)

/-- QUICK_RETRAIN (R469): the interface of a PC is retrained in place. -/
def execQuickRetrain (pc : Fin 64) (ok : Bool) (s : State) : Host.Outcome State Fault Refusal :=
  done (if memRuns s then s.raise .quickRetrain [w32 pc.val, w32 (b2n (!ok))] else s)

/-- A PC that is the target of the running migration fails: the migration is abandoned and its source stays due. -/
def dropTarget (s : State) (p : Nat) : State :=
  match s.mem.mig with
  | some m => if m.tgt = p then let s := abandonMig s; setMig s none ({ m with tgt := noPc } :: s.mem.due) else s
  | none => s

/-- SAFE_MODE (R469): the PC serves at 4.8 Gb/s and is due to migrate with reason FAILURE. DESIGN CHOICE (log entry 48): STATE of the
source of a running migration stays SOURCE. -/
def execSafeMode (pc : Fin 64) (s : State) : Host.Outcome State Fault Refusal :=
  let p := pc.val
  done (
    if !memRuns s || !decide (pcState s p ≤ 3) then s
    else
      let s := dropTarget s p
      let serves := pcServes s p
      let moving := match s.mem.mig with | some m => decide (m.src = p) | none => false
      let s := if moving then s else s.setF (pcReg p) 0 4 5
      let s := if serves then { s with mem := { s.mem with safe := s.mem.safe.filter (· ≠ p) ++ [p] } } else s
      let s := (showSpares s).raise .safeMode [w32 p]
      if serves then migDue s p 4 false else migNext s)

/-- A logical channel becomes unbacked (R476). -/
def unback (s : State) (l p : Nat) : State :=
  (s.setB (Reg.MEM4_CHAN_MAP l) 9 true).raise .dataLost [w32 l, w32 (pcShow p), 1]

/-- DATA_LOST (R475, R476): safe mode finds no setting. The channel is borrowed for at once, unless it is already, and its data is
poisoned; or it becomes unbacked. -/
def execDataLost (pc : Fin 64) (s : State) : Host.Outcome State Fault Refusal :=
  let p := pc.val
  done (
    if !memRuns s || !pcServes s p then s
    else
      let l := pcLogical s p
      let counted := (s.mem.mig.toList ++ s.mem.due).any fun m => decide (m.src = p) && m.shrunk
      let s := match s.mem.mig with | some m => if m.src = p then abandonMig s else s | none => s
      let s := { s with mem := { s.mem with
        safe := s.mem.safe.filter (· ≠ p)
        due := s.mem.due.filter (·.src ≠ p)
        shrink := match s.mem.shrink with | some m => if m.src = p then none else some m | none => none } }
      let s := setPc s p 7 0x3F
      let s :=
        if counted ∨ mayBorrow s then
          let s := if counted then s else shrinkTop s
          let s := remapQueue (s.setB (Reg.MEM4_CHAN_MAP l) 8 true)
          let s := { s with mem := { s.mem with
            ecc := s.mem.ecc.filter fun q => decide (q.1 / 32 % 62 ≠ l)
            dead := s.mem.dead.filter (· ≠ l) ++ [l] } }
          s.raise .dataLost [w32 l, w32 p, 0]
        else unback s l p
      migNext (showSpares s))

/-! ### ECC injection and scrub (R470) -/

/-- ECC_INJECT_WRITE (R470): arms, replaces or disarms an injection. -/
def eccInject (s : State) (value : Word) : State := s.wr Reg.MEM3_ECC_INJECT (value &&& 3)

/-- ECC_INJECT_WRITE (R470). -/
def execEccInjectWrite (req : Requester) (value : Word) (s : State) : Host.Outcome State Fault Refusal :=
  done (gated s req Reg.MEM3_ECC_INJECT none fun s => eccInject s value)

/-- 32 B blocks in service, the spares included (R470). -/
def scrubTotal (s : State) : Nat :=
  ((List.range 64).filter fun p => decide (pcState s p ≤ 3 ∨ pcState s p = 5)).length * chanRows * 32

/-- SCRUB_STATUS and SCRUB_PASSES after one more 32 B block (R480). -/
def scrubStep (s : State) : State :=
  let n := s.mem.scrubbed + 1
  let t := scrubTotal s
  if t ≤ n then
    ({ s with mem := { s.mem with scrubbed := 0 } }).wr Reg.MEM3_SCRUB_STATUS 0 |>.inc Reg.MEM3_SCRUB_PASSES
  else ({ s with mem := { s.mem with scrubbed := n } }).wr Reg.MEM3_SCRUB_STATUS (w32 (n * 1000 / t + 0x10000))

/-- An uncorrectable error found by scrub (R470). -/
def scrubBad (s : State) (p a : Nat) : State :=
  let s := s.inc (Reg.STACK_UE_COUNT (pcStack p) (p % 32))
  ((s.wr64 Reg.MEM3_LAST_UE_ADDR_LO Reg.MEM3_LAST_UE_ADDR_HI a).inc Reg.MEM3_UE_TOTAL).raise .scrubUncorrected
    [w32 p, w32 a, w32 (a / 2 ^ 32)]

/-- What scrub makes of the 32 B at an address of a serving PC; `result` is an error that arose in them. -/
def scrubServed (s : State) (p a : Nat) (result : EccResult) : State :=
  let blk := a / 32
  let new := match result with | .clean => 0 | .corrected => 1 | .uncorrected => 2
  let s := if eccOf s blk < new then setEcc s blk new else s
  if eccOf s blk ≤ 1 then touchBlock 5 s blk
  else scrubBad (if eccOf s blk = 2 then setEcc s blk 3 else s) p (blk * 32)

/-- What scrub makes of the 32 B at an offset of a spare, which have no address: the address words are free. -/
def scrubSpare (s : State) (p off : Nat) (result : EccResult) : State :=
  let a := Config.freeWord s.freeCount
  let b := Config.freeWord (s.freeCount + 1)
  let k := p * 2 ^ 25 + off / 32
  let c := max (tabGet (fun _ => 0) s.mem.spareEcc k) (match result with | .clean => 0 | .corrected => 1 | .uncorrected => 3)
  let s := issueAt s p false (off / 32 * 32) 32
  if c = 0 then s
  else if c = 1 then
    (((noteCe s p).inc (Reg.STACK_CE_COUNT (pcStack p) (p % 32))).inc Reg.MEM3_CE_TOTAL).useFree.useFree.raise .eccCorrected
      [w32 p, a, b]
  else
    let s := { s with mem := { s.mem with spareEcc := tabSet (fun _ => 0) s.mem.spareEcc k 3 } }
    scrubBad s.useFree.useFree p (b.toNat * 2 ^ 32 + a.toNat)

/-- SCRUB_BURST (R470): a burst reads one 32 B block of a PC in service: at an address, or at an offset of a spare. Scrub is suspended
in STANDBY (R467). -/
def execScrubBurst (pc : Fin 64) (addr : Nat) (result : EccResult) (s : State) : Host.Outcome State Fault Refusal :=
  let p := pc.val
  done (
    if !memRuns s then s
    else if pcState s p = 1 then (if addr < chanRows * 1024 then scrubStep (scrubSpare (xfer s 5 32) p addr result) else s)
    else if addr < usableTop s ∧ (hbmMap s addr).1 = p ∧ pcServes s p then
      scrubStep (scrubServed (issue (xfer s 5 32) false (addr / 32 * 32) 32) p addr result)
    else s)

/-! ### Power-on training (R473) -/

/-- Channels with no PC at power-on (R473, R476): `k` of them are lost while the top allows it, the others unbacked. -/
def missing (s : State) : List Nat → State
  | [] => s
  | l :: t =>
    if mayBorrow s then
      let s := oneLost s
      missing (s.setB (Reg.MEM4_CHAN_MAP l) 8 true) t
    else missing (unback s l noPc) t

/-- Maps the trained PCs to channels from `l` on (R473). -/
def mapChans (s : State) (l : Nat) : List Nat → State
  | [] => s
  | p :: t => mapChans (setPc (s.wr (Reg.MEM4_CHAN_MAP l) (w32 p)) p 0 l) (l + 1) t

/-- Marks trained PCs (R473): TRAIN_TEMP and the time of the training. -/
def markTrained (s : State) (p : Nat) : State :=
  let s := s.setF (pcReg p) 16 8 (stackTemp s (pcStack p) % 256).toNat
  { s with mem := { s.mem with trainedAt := tabSet (fun _ => 0) s.mem.trainedAt p s.now } }

/-- STACK_STATUS of a stack that reads a temperature (R467, R479). -/
def putTemp (s : State) (k : Nat) (t : Int) : State :=
  s.wr (Reg.STACK_STACK_STATUS k) (w32 ((t % 256).toNat + (if 85 ≤ t then 256 else 0) + 512))

/-- Power-on training (R473): retired PCs, spares, channels in ascending order, USABLE_TOP, MEM_READY. -/
def trainMemory (s : State) (trained : BitVec 64) (t0 t1 : Int) : State :=
  let s := putTemp (putTemp s 0 t0) 1 t1
  let good := (List.range 64).filter fun p => trained.getLsbD p && !s.mem.retired.contains p
  let bad := (List.range 64).filter fun p => !good.contains p
  let n := min good.length 62
  let s := bad.foldl (fun s p => retirePc s p false) s
  let s := good.foldl markTrained s
  let s := mapChans s 0 (good.take n)
  let s := (good.drop n).foldl (fun s p => setPc s p 1 0x3F) s
  let s := missing s ((List.range 62).drop n)
  let top := topFor (lostCount s)
  let s := s.wr64 Reg.MEM4_USABLE_TOP_LO Reg.MEM4_USABLE_TOP_HI top
  let s := showSpares (s.setB Reg.MEM0_MEM_STATUS 0 true)
  let s := { s with mem := { s.mem with idleSince := s.now } }
  s.raise .memReady [w32 top, w32 (top / 2 ^ 32)]

/-- MEMORY_TRAINING_COMPLETE (R473, R558): memory is ready and STAGE becomes MEMORY. -/
def execMemoryTrainingComplete (trained : BitVec 64) (temp0 temp1 : Int) (s : State) : Host.Outcome State Fault Refusal :=
  done (if s.on && s.power.fastClk && !memReady s && decide (1 ≤ s.stage ∧ s.stage ≤ 2) then
      setStage (trainMemory s trained temp0 temp1) 3
    else s)

/-- STACK_TEMPERATURE_READ (R467, R471, R479): the temperature of a stack, and the PCs that are due for it. -/
def execStackTemperatureRead (stack : Fin 2) (temp : Int) (s : State) : Host.Outcome State Fault Refusal :=
  let k := stack.val
  done (
    if !s.on || !s.power.fastClk then s
    else
      let s := putTemp s k temp
      if memReady s ∧ s.powerState ≠ 2 then
        ((List.range 32).map (k * 32 + ·)).foldl (fun s p =>
          if pcServes s p && migMeets s p .temperature then migDue s p 2 false else s) s
      else s)

/-! ### SYSTEM_TOP (R459) -/

/-- A value SYSTEM_TOP may take: a multiple of 64 MiB from 1 GiB to 16 GiB. -/
def systemTopOk (v : Nat) : Bool := decide (v % 2 ^ 26 = 0 ∧ 2 ^ 30 ≤ v ∧ v ≤ 2 ^ 34)

/-- A write of SYSTEM_TOP (R459): only before FEATURES_ACTIVE. -/
def systemTopWrite (s : State) (n : Nat) : State :=
  if !s.b Reg.FEAT_FEAT_STATUS 0 && systemTopOk n then s.wr64 Reg.MEM4_SYSTEM_TOP_LO Reg.MEM4_SYSTEM_TOP_HI n
  else refuse s Reg.MEM4_SYSTEM_TOP_LO

/-- SYSTEM_TOP_WRITE (R459). -/
def execSystemTopWrite (req : Requester) (value : BitVec 64) (s : State) : Host.Outcome State Fault Refusal :=
  done (gated s req Reg.MEM4_SYSTEM_TOP_LO none fun s => systemTopWrite s value.toNat)

end Sys2Proof.Machine
end

