-- ==== Sys2Proof/Machine/Direct.lean ====
section
/-!
DEFINITION. Direct writes to RWT registers (R60, R117).
-/
namespace Sys2Proof.Machine

/-- A register staged in an ARMED transaction (R117). -/
def armedAt (s : State) (a : Nat) : Bool :=
  (List.range 4).any fun t => decide (txnState s t = 2) && (txnOf s t).staged.any fun p => decide (p.1 = a)

/-- A direct write to an RWT register (R60, R117): it takes effect, or is discarded with REG_REFUSED. -/
def directWrite (s : State) (a : Nat) (v : Word) : State :=
  let w := v &&& (regInfo a).2
  if armedAt s a || (badWrite s [] [(a, w)]).isSome then refuse s a else applyReg s a w

end Sys2Proof.Machine
end

