-- ==== Sys2Proof/Machine/Optic.lean ====
section
/-!
DEFINITION. The bistable optic layer: waveform table, DC ledger, wear governor, batches, interruption and recovery (R432 to
R457). Cells are keyed by row × 320 + column, so a change of geometry moves no cell's ledger, bucket or count.
-/
namespace Sys2Proof.Machine

/-- Page base of OPT. -/
def optBase : Nat := 0x84000

/-- COLS and ROWS of OPT_GEOM. -/
def optCols (s : State) : Nat := s.f Reg.OPT_OPT_GEOM 0 9
def optRows (s : State) : Nat := s.f Reg.OPT_OPT_GEOM 16 8

/-- Row `r` as the keeper holds it. -/
def optRow (s : State) (r : Nat) : OptRow := tabGet (fun _ => OptRow.fresh) s.opt.rows r

/-- The state with a row replaced. -/
def putRow (s : State) (r : Nat) (x : OptRow) : State :=
  { s with opt := { s.opt with rows := tabSet (fun _ => OptRow.fresh) s.opt.rows r x } }

/-- The state with the RUNNING batch replaced. -/
def putRun (s : State) (b : Option Batch) : State := { s with opt := { s.opt with run := b } }

/-- The bits of a bitmap, ascending. -/
def colsOf (m : Nat) : List Nat := (List.range 320).filter m.testBit

/-- A bitmap without the bits of another. -/
def without (a b : Nat) : Nat := Nat.xor a (a &&& b)

/-- The key of a cell. -/
def cellKey (r c : Nat) : Nat := 320 * r + c

/-! ### Waveform table (R436, R437) -/

/-- A row phase of a band (R436): µs, row level code, and column level codes for cells to CLEAR, to LENS and kept. -/
structure WavePhase where
  dur : Nat
  row : Nat
  clear : Nat
  lens : Nat
  keep : Nat
  deriving DecidableEq, Repr

/-- Phase `p` of band `b` of a table. -/
def wavePhase (w : List Byte) (b p : Nat) : WavePhase :=
  let v := leAt w (128 * b + 16 + 8 * p) 8
  ⟨v % 2 ^ 16, v / 2 ^ 16 % 8, v / 2 ^ 20 % 4, v / 2 ^ 22 % 4, v / 2 ^ 24 % 4⟩

/-- LOWER, NPH, COL_FRAC, SETTLE_US, COMP_US and COMP_MAX of a band. -/
def bandLower (w : List Byte) (b : Nat) : Int := sfld (w32 (leAt w (128 * b) 4)) 0 16
def bandNph (w : List Byte) (b : Nat) : Nat := leAt w (128 * b) 4 / 2 ^ 16 % 16
def bandFrac (w : List Byte) (b : Nat) : Nat := leAt w (128 * b) 4 / 2 ^ 24 % 16
def bandSettle (w : List Byte) (b : Nat) : Nat := leAt w (128 * b + 4) 4
def bandComp (w : List Byte) (b : Nat) : Nat := leAt w (128 * b + 8) 4 % 2 ^ 16
def bandCompMax (w : List Byte) (b : Nat) : Nat := leAt w (128 * b + 8) 4 / 2 ^ 16 % 256

/-- Sign of a column level (R437). -/
def colSign (c : Nat) : Int := if c = 1 then 1 else if c = 2 then -1 else 0

/-- The column balance of a band for one class of cells (R437). -/
def colSum (w : List Byte) (b : Nat) (g : WavePhase → Nat) : Int :=
  ((List.range (bandNph w b)).map fun p => colSign (g (wavePhase w b p)) * ((wavePhase w b p).dur : Int)).foldl (· + ·) 0

/-- A phase entry is within its ranges; entries past NPH are reserved. -/
def phaseEntryOk (w : List Byte) (b p : Nat) : Bool :=
  let v := leAt w (128 * b + 16 + 8 * p) 8
  let q := wavePhase w b p
  if p < bandNph w b then
    inRange q.dur 10 15000 && decide (q.row ≤ 4 ∧ q.clear ≤ 2 ∧ q.lens ≤ 2 ∧ q.keep ≤ 2 ∧ v / 2 ^ 19 % 2 = 0 ∧ v < 2 ^ 26)
  else decide (v = 0)

/-- The checks of R437 on a band, each with the byte offset it names: that of the entry of R436 it concerns. -/
def bandChecks (w : List Byte) (b : Nat) : List (Nat × Bool) :=
  let v0 := leAt w (128 * b) 4
  let v8 := leAt w (128 * b + 8) 4
  [(0, decide (if b = 0 then bandLower w 0 = -100 else bandLower w (b - 1) < bandLower w b) &&
      inRange (bandNph w b) 1 8 && inRange (bandFrac w b) 1 8 && decide (v0 / 2 ^ 20 % 16 = 0 ∧ v0 / 2 ^ 28 = 0)),
   (4, inRange (bandSettle w b) 1000 1000000),
   (8, inRange (bandComp w b) 10 15000 && decide (bandCompMax w b ≤ 8 ∧ v8 / 2 ^ 24 = 0)),
   (12, decide (leAt w (128 * b + 12) 4 = 0))] ++
  ((List.range 8).map fun p => (16 + 8 * p, phaseEntryOk w b p)) ++
  [(80, decide (leAt w (128 * b + 80) 48 = 0)),
   (16, decide (colSum w b (·.clear) = 0 ∧ colSum w b (·.lens) = 0 ∧ colSum w b (·.keep) = 0))]

/-- The first failing check of a table: band and byte offset (R437). -/
def waveBad (w : List Byte) : Option (Nat × Nat) :=
  ((List.range 8).flatMap fun b => (bandChecks w b).map fun p => (b, p.1, p.2)).findSome? fun p =>
    if p.2.2 then none else some (p.1, p.2.1)

/-- TABLE_OK: the keeper holds a valid table. -/
def waveOk (s : State) : Bool := kOn s && (waveBad s.keeper.wave).isNone

/-- The band in which PANEL_TEMP lies (R437, R443). -/
def bandNow (s : State) : Option Nat :=
  match panelTemp s with
  | none => none
  | some t =>
    if t < -100 ∨ 600 ≤ t then none
    else some (((List.range 8).filter fun b => decide (bandLower s.keeper.wave b ≤ t)).getLastD 0)

/-- VOP and VON are REGULATING. -/
def opticRails (s : State) : Bool := regulating s 8 && regulating s 9

/-- The conditions of R435, R437 and R443 for a batch. -/
def opticReady (s : State) : Bool := waveOk s && opticRails s && !opticHold s && (bandNow s).isSome

/-! ### Status (R456) -/

/-- The rows of the keeper and of the presented map (R449). -/
def allRows : List Nat := List.range 160

/-- The rows of the layer (R432). A row beyond the geometry is never selected. -/
def rowList (s : State) : List Nat := List.range (min 160 (optRows s))

/-- A bitmap without the columns beyond the geometry, which are never selected (R432). -/
def inCols (s : State) (m : Nat) : Nat := m % 2 ^ optCols s

/-- PENDING_CELLS: cells marked PENDING. -/
def pendingCells (s : State) : Nat := ((rowList s).map fun r => (colsOf (inCols s (optRow s r).pending)).length).foldl (· + ·) 0

/-- The UNCERTAIN rows, and those queued for re-drive, ascending. -/
def uncertainRows (s : State) : List Nat := (rowList s).filter fun r => (optRow s r).uncertain
def redriveRows (s : State) : List Nat := (rowList s).filter fun r => decide (inCols s (optRow s r).redrive ≠ 0)

/-- The status registers that follow the optic layer's state. -/
def optShow (s : State) : State :=
  let o := s.opt
  let st := if o.run.isSome then 2 else if o.staged.isSome then 1 else 0
  let a := Reg.OPT_OPT_STATUS
  let s := s.setF a 0 2 st
  let s := (((s.setB a 5 (bandNow s).isSome).setB a 6 (opticRails s)).setB a 7 (opticHold s)).setB a 8 (waveOk s)
  let b := Reg.OPT_BATCH_STATUS
  let s := (s.setF b 0 8 (match o.run with | some r => r.id | none => 0)).setF b 8 8 (match o.staged with | some p => p.1 | none => 0)
  let s := s.setB b 19 (o.marked && o.staged.isSome)
  s.wrAll [(Reg.OPT_ROWS_LEFT, w32 (match o.run with | some r => r.rows.length | none => 0)),
    (Reg.OPT_PENDING_CELLS, w32 (pendingCells s)), (Reg.OPT_UNCERTAIN_ROWS, w32 (uncertainRows s).length),
    (Reg.OPT_REDRIVE_ROWS, w32 (redriveRows s).length)]

/-- TEMP_UNAVAILABLE on entry into the condition of R443. -/
def bandWatch (s : State) : State :=
  let gone := (bandNow s).isNone
  let s := if gone ∧ !s.opt.noBand then s.raise .tempUnavailable [s.rd Reg.RAIL1_PANEL_TEMP] else s
  { s with opt := { s.opt with noBand := gone } }

/-! ### DC ledger (R434, R438, R439) -/

/-- VOP and VON in mV: TARGET of rails 8 and 9. -/
def vop (s : State) : Int := (s.rd (Reg.RAIL0_TARGET 8)).toInt
def von (s : State) : Int := (s.rd (Reg.RAIL0_TARGET 9)).toInt

/-- VC and VCN of a band in mV (R434). -/
def vcOf (s : State) (b : Nat) : Int := (vop s * (bandFrac s.keeper.wave b : Int) + 8) / 16
def vcnOf (s : State) (b : Nat) : Int := (((von s).natAbs : Int) * (bandFrac s.keeper.wave b : Int) + 8) / 16

/-- level_mv() of R438. -/
def levelMv (s : State) (b code : Nat) (isRow : Bool) : Int :=
  if code = 1 then (if isRow then vop s else vcOf s b)
  else if code = 2 then (if isRow then von s else -vcnOf s b)
  else if code = 3 then vcOf s b
  else if code = 4 then -vcnOf s b
  else 0

/-- vus() of R438. -/
def vus (mv us : Int) : Int :=
  let p := mv * us
  if 0 ≤ p then (p + 500) / 1000 else -((-p + 500) / 1000)

/-- sat32() of R438: saturation at ±(2^31 − 1). -/
def sat32 (v : Int) : Int := max (-2147483647) (min 2147483647 v)

/-- LEDGER of a cell. -/
def ledgerOf (s : State) (key : Nat) : Int := tabGet (fun _ => 0) s.opt.ledger key

/-- The ledgers of the layer's cells that are not 0. -/
def ledgerCells (s : State) : List (Nat × Int) :=
  s.opt.ledger.filter fun p => decide (p.1 / 320 < optRows s ∧ p.1 % 320 < optCols s)

/-- MAX_LEDGER (R439): the largest |LEDGER|. -/
def showLedger (s : State) : State := s.wr Reg.OPT_MAX_LEDGER (w32 (((ledgerCells s).map fun p => p.2.natAbs).foldl max 0))

/-- LEDGER_HIGH after a row update (R439), and whether a |LEDGER| exceeds LEDGER_WARN. -/
def ledgerHigh (s : State) (told : Bool) : State × Bool :=
  match (ledgerCells s).find? fun p => decide (s.rdN Reg.OPT_LEDGER_WARN < p.2.natAbs) with
  | some (k, v) => (if told then s else s.raise .ledgerHigh [w32 (k / 320 * optCols s + k % 320), wInt v], true)
  | none => (s, told)

/-- The ledger with a change of one cell. -/
def ledgerAdd (t : Tab Int) (key : Nat) (d : Int) : Tab Int :=
  if d = 0 then t else tabSet (fun _ => 0) t key (sat32 (tabGet (fun _ => 0) t key + d))

/-- The column level code of a column in a row phase, by the class of the addressed row's cell (R438). -/
def colCode (j : RowJob) (q : WavePhase) (c : Nat) : Nat :=
  if j.toClear.testBit c then q.clear else if j.toLens.testBit c then q.lens else q.keep

/-- A row phase of band `b` on the row of job `j` for `us` µs: ledger_phase() of R438 on that row, and the column residue on
the cells of every other row. -/
def ledgerPhase (s : State) (b : Nat) (j : RowJob) (q : WavePhase) (us : Nat) : State :=
  let row := levelMv s b q.row true
  let cols := List.range (optCols s)
  let t := (List.range (optRows s)).foldl (fun t r =>
    cols.foldl (fun t c =>
      ledgerAdd t (cellKey r c) (vus ((if r = j.row then row else 0) - levelMv s b (colCode j q c) false) us)) t) s.opt.ledger
  { s with opt := { s.opt with ledger := t } }

/-- comp_phases() of R439: number of compensation phases of a row and their row level code. -/
def compPhases (s : State) (b row : Nat) : Nat × Nat :=
  let sum := ((List.range (optCols s)).map fun c => ledgerOf s (cellKey row c)).foldl (· + ·) 0
  let w := s.keeper.wave
  let q := vus (if 0 < sum then vcnOf s b else vcOf s b) (bandComp w b)
  if q = 0 ∨ sum = 0 then (0, 0)
  else (min (sum.natAbs / (optCols s * q.toNat)) (bandCompMax w b), if 0 < sum then 4 else 3)

/-- The phase in progress of a batch: a phase of its band, or a compensation phase. -/
def phaseNow (s : State) (x : Batch) : WavePhase :=
  let w := s.keeper.wave
  if x.phase < bandNph w x.band then wavePhase w x.band x.phase else ⟨bandComp w x.band, x.comp.2, 0, 0, 0⟩

/-- Every phase of the row in progress has ended. -/
def phasesOver (s : State) (x : Batch) : Bool :=
  let n := bandNph s.keeper.wave x.band
  decide (n ≤ x.phase ∧ n + x.comp.1 ≤ x.phase)

/-! ### Presented map (R449, R450) -/

/-- What a row presents at a device time. -/
def presented (x : OptRow) (now : Nat) : Nat := if x.settle ≤ now then x.driven else x.prior

/-- The record of a row (R449). -/
def rowRecord (x : OptRow) : List Byte :=
  leBytes 8 x.settle ++ leBytes 4 (b2n x.uncertain + 2 * b2n (decide (x.redrive ≠ 0)) + 4 * b2n x.addressed) ++
  leBytes 4 x.batch ++ leBytes 40 x.driven ++ leBytes 8 0 ++ leBytes 40 x.prior ++ leBytes 24 0 ++ leBytes 40 x.pending ++
  leBytes 88 0

/-- A row's record is written to the map, or once the channel returns (R450). DESIGN CHOICE (log entry 33): rows that change
while OPT is disabled and no batch runs are written by the next enable. -/
def writeRow (s : State) (r : Nat) : State :=
  if !(enabled s optBase || s.opt.run.isSome) then s
  else if chanUp s then hbmWrite s 4 (s.rd64 Reg.OPT_MAP_BASE_LO Reg.OPT_MAP_BASE_HI + 256 * r) (rowRecord (optRow s r))
  else { s with opt := { s.opt with unwritten := s.opt.unwritten.filter (· ≠ r) ++ [r] } }

/-- The channel is back: the rows that waited are written with their true SETTLE_END (R450). -/
def writeWaiting (s : State) : State :=
  let l := s.opt.unwritten
  l.foldl (fun (s : State) (r : Nat) =>
    hbmWrite s 4 (s.rd64 Reg.OPT_MAP_BASE_LO Reg.OPT_MAP_BASE_HI + 256 * r) (rowRecord (optRow s r)))
    { s with opt := { s.opt with unwritten := [] } }

/-! ### Wear governor (R440 to R442) -/

/-- Capacity of a bucket, and the cost of a switching, in units of 1/3,600 token. -/
def bucketCap : Nat := 36000000
def switchCost : Nat := 3600

/-- The bucket of a cell. -/
def bucketOf (s : State) (key : Nat) : Nat := bucketCap - tabGet (fun _ => 0) s.opt.spent key

/-- Units are taken from a bucket, down to 0. -/
def takeUnits (s : State) (key : Nat) : State :=
  let v := min bucketCap (tabGet (fun _ => 0) s.opt.spent key + switchCost)
  { s with opt := { s.opt with spent := tabSet (fun _ => 0) s.opt.spent key v } }

/-- One more switching of a cell, with its wear events, each once per cell. -/
def countSwitch (s : State) (r c : Nat) : State :=
  let key := cellKey r c
  let n := min (tabGet (fun _ => 0) s.opt.switches key + 1) 0xFFFFFFFF
  let was := tabGet (fun _ => 0) s.opt.worn key
  let now := if 100000000 ≤ n then 2 else if 80000000 ≤ n then 1 else 0
  let o := s.opt
  let s := { s with opt := { o with switches := tabSet (fun _ => 0) o.switches key n, worn := tabSet (fun _ => 0) o.worn key (max was now) } }
  let cell := w32 (r * optCols s + c)
  let s := if was < 1 ∧ 1 ≤ now then s.raise .wearWarn [cell] else s
  if was < 2 ∧ 2 ≤ now then s.raise .wearLimit [cell] else s

/-- Cells of a row are charged one switching each. -/
def charge (s : State) (r m : Nat) : State :=
  (colsOf m).foldl (fun s c => countSwitch (takeUnits s (cellKey r c)) r c) s

/-- Tokens of cells that are not driven after all are returned, and their switchings not counted (R451, R452). -/
def giveBack (s : State) (j : RowJob) : State :=
  (colsOf j.paid).foldl (fun s c =>
    let key := cellKey j.row c
    let o := s.opt
    { s with opt := { o with
        spent := tabSet (fun _ => 0) o.spent key (tabGet (fun _ => 0) o.spent key - switchCost)
        switches := tabSet (fun _ => 0) o.switches key (tabGet (fun _ => 0) o.switches key - 1) } }) s

/-! ### The journal (R455) -/

/-- A record is added to the journal. DESIGN CHOICE (log entry 33): records of earlier batches, whose effect the rows hold, go when a
batch begins. -/
def journal (s : State) (r : JournalRec) : State := { s with opt := { s.opt with journal := s.opt.journal ++ [r] } }

/-! ### Rows of a batch (R445, R447, R448) -/

/-- The cells a row job switches. -/
def RowJob.cells (j : RowJob) : Nat := j.toClear ||| j.toLens

/-- PANEL_TEMP lies outside a band widened by 3.0 °C, or is invalid (R445). -/
def outOfBand (s : State) (b : Nat) : Bool :=
  match panelTemp s with
  | none => true
  | some t =>
    let w := s.keeper.wave
    decide (t < bandLower w b - 30 ∨ (if b < 7 then bandLower w (b + 1) else 600) + 30 ≤ t)

/-- The row update of the first row of a batch begins: temperature check, and the switchings that the governor does not
hold back (R441, R445). -/
def startRow (s : State) (x : Batch) : State :=
  match x.rows with
  | [] => putRun s (some x)
  | j :: _ =>
    let out := outOfBand s x.band
    let s := if out ∧ !x.hot then s.raise .tempExcursion [w32 x.id, w32 x.band, s.rd Reg.RAIL1_PANEL_TEMP] else s
    let s := charge s j.row (without j.cells j.paid)
    let p := presented (optRow s j.row) s.now
    let s := journal s (.rowBegin j.row (without (optRow s j.row).driven j.cells ||| j.toClear) p j.toClear j.toLens)
    let y := { x with phase := 0, comp := (0, 0), prior := p }
    putRun s (some { y with hot := x.hot || out, queued := x.queued || out, rowHot := out })

/-- A batch ends with an outcome: no row stays ADDRESSED, counts and BATCH_DONE (R448). -/
def endBatch (s : State) (x : Batch) (outcome : Nat) : State :=
  let s := (allRows.filter fun r => (optRow s r).addressed).foldl
    (fun s r => writeRow (putRow s r { optRow s r with addressed := false }) r) s
  let s := (putRun s none).setF Reg.OPT_BATCH_STATUS 16 3 outcome
  let s := journal (s.inc Reg.OPT_BATCHES) (.batchEnd x.id outcome)
  if outcome = 2 then s else s.raise .batchDone [w32 x.id, w32 outcome, w32 x.count, w32 x.band]

/-- The job of a row: UNCERTAIN cells toward their journalled target, queued cells toward their driven state, and the change
set. DESIGN CHOICE (log entry 33): where groups want a cell in different states, the change set goes before the
UNCERTAIN target, and that before a re-drive. -/
def rowJob (s : State) (cs : List RowJob) (r : Nat) : RowJob :=
  let x := optRow s r
  let j := (cs.find? fun j => decide (j.row = r)).getD ⟨r, 0, 0, 0⟩
  let um := if x.uncertain then without (inCols s x.moved) j.cells else 0
  let rm := without (inCols s x.redrive) (j.cells ||| um)
  ⟨r, j.toClear ||| (um &&& x.target) ||| (rm &&& x.driven), j.toLens ||| without um x.target ||| without rm x.driven, j.paid⟩

/-- The rows a batch addresses, in the order of R447. -/
def batchRows (s : State) (cs : List RowJob) : List RowJob :=
  let u := uncertainRows s
  let q := (redriveRows s).filter fun r => !u.contains r
  let c := ((rowList s).filter fun r => cs.any fun j => decide (j.row = r)).filter fun r => !u.contains r && !q.contains r
  ((u ++ q ++ c).map (rowJob s cs)).filter fun j => decide (j.cells ≠ 0)

/-- The cells of a change-set row whose bucket holds a token (R441). -/
def withToken (s : State) (r m : Nat) : Nat :=
  ((colsOf m).map fun c => if switchCost ≤ bucketOf s (cellKey r c) then 2 ^ c else 0).foldl (· + ·) 0

/-- A batch starts with a change set (R441, R444, R447): the band is locked, tokens are taken, and cells without one are
PENDING. -/
def beginBatch (s : State) (id : Nat) (cs : List RowJob) : State :=
  let band := (bandNow s).getD 0
  let s := s.setF Reg.OPT_OPT_STATUS 2 3 band
  let cs := cs.map fun j =>
    let p := withToken s j.row j.cells
    (j, ⟨j.row, j.toClear &&& p, j.toLens &&& p, p⟩)
  let s := cs.foldl (fun s (j, k) =>
    let x := optRow s j.row
    let left := without j.cells k.paid
    let p := without x.pending j.cells ||| left
    let s := if p = x.pending then s else writeRow (putRow s j.row { x with pending := p }) j.row
    charge s j.row k.paid) s
  let s := if cs.any fun (j, k) => decide (without j.cells k.paid ≠ 0) then
      s.raise .cellsPending [w32 id, w32 (pendingCells s)] else s
  let rows := batchRows s ((cs.map (·.2)).filter fun k => decide (k.paid ≠ 0))
  let s := { s with opt := { s.opt with journal := [.batchBegin id band s.now (cs.filter fun p => decide (p.2.paid ≠ 0)).length] } }
  let x : Batch := ⟨id, band, rows, 0, (0, 0), 0, 0, false, false, false, false, false⟩
  if rows.isEmpty then endBatch s x 0 else startRow s x

/-- The STAGED batch starts. -/
def startStaged (s : State) : State :=
  match s.opt.staged with
  | none => s
  | some (id, cs) => beginBatch { s with opt := { s.opt with staged := none, marked := false } } id cs

/-- A batch has ended: a batch marked to start does so, or is refused and stays STAGED (R446). -/
def afterBatch (s : State) : State :=
  if s.opt.marked && s.opt.staged.isSome then
    if opticReady s then startStaged s
    else
      let id := (s.opt.staged.map (·.1)).getD 0
      ({ s with opt := { s.opt with marked := false } }).raise .batchRefused [w32 id, 6]
  else s

/-- The row update in progress has ended (R448, R449): the row's record, MAX_LEDGER and LEDGER_HIGH. -/
def finishRow (s : State) (x : Batch) (j : RowJob) : State × Batch :=
  let r := optRow s j.row
  let settle := s.now + bandSettle s.keeper.wave x.band * 1000
  let driven := without r.driven j.cells ||| j.toClear
  let row : OptRow := { r with
    driven := driven
    prior := presented r s.now
    settle := settle
    batch := x.id
    addressed := true
    uncertain := false
    moved := 0
    target := 0
    redrive := if x.rowHot then j.cells else 0 }
  let s := writeRow (putRow s j.row row) j.row
  let s := journal s (.rowDone j.row settle ((List.range (optCols s)).map fun c => ledgerOf s (cellKey j.row c)))
  let s := s.wr64 Reg.OPT_LAST_SETTLE_LO Reg.OPT_LAST_SETTLE_HI settle
  let p := ledgerHigh (showLedger s) x.high
  (p.1, { x with high := p.2 })

/-- The next row update starts, or the batch ends (R448, R451). -/
def nextRow (s : State) (x : Batch) (rest : List RowJob) : State :=
  let y := { x with rows := rest, count := x.count + 1 }
  if x.stop then afterBatch (endBatch (rest.foldl giveBack s) y 3)
  else if rest.isEmpty then afterBatch (endBatch s y (b2n x.queued))
  else startRow s y

/-! ### Interruption (R452, R453) -/

/-- The DC-neutral termination: the row cut is UNCERTAIN and keeps PRIOR, the rows not addressed are unchanged and give their
tokens back, and the batch ends TERMINATED. -/
def terminate (s : State) (cause : Nat) : State :=
  match s.opt.run with
  | none => s
  | some x =>
    match x.rows with
    | [] => s
    | j :: rest =>
      let r := optRow s j.row
      let s := putRow s j.row { r with
        driven := x.prior
        prior := x.prior
        batch := x.id
        uncertain := true
        moved := r.moved ||| j.cells
        target := without r.target j.cells ||| j.toClear }
      let s := rest.foldl giveBack s
      let s := journal (writeRow s j.row) (.terminated j.row cause)
      let s := (endBatch (s.inc Reg.OPT_TERMINATIONS) x 2).raise .batchTerminated [w32 x.id, w32 j.row, w32 cause]
      let u := uncertainRows s
      afterBatch (s.raise .rowsUncertain [w32 u.length, w32 (u.headD 0)])

/-- The row phase in progress ends, having run for `us` µs at most, and the termination follows (R452, R453). DESIGN CHOICE
(log entry 5): the command that causes it is one step. -/
def cutRow (s : State) (cause : Nat) (us : Nat) : State :=
  match s.opt.run with
  | none => s
  | some x =>
    match x.rows with
    | [] => s
    | j :: _ =>
      let q := phaseNow s x
      let s := if phasesOver s x then s else ledgerPhase s x.band j q (min us q.dur)
      terminate s cause

/-- VOP or VON may have left REGULATING (R452): a running batch is cut with cause RAIL. -/
def opticWatch (s : State) : State :=
  optShow (if s.opt.run.isSome ∧ !opticRails s then cutRow s 3 15000 else s)

/-! ### Commands (R446, R447, R451) -/

/-- The states that a row's cells will hold when the RUNNING batch ends. -/
def futureRow (s : State) (r : Nat) : Nat :=
  let d := (optRow s r).driven
  inCols s (match s.opt.run with
    | none => d
    | some x =>
      match x.rows.find? fun j => decide (j.row = r) with
      | none => d
      | some j => without d j.cells ||| j.toClear)

/-- The request map: the requested states of a row. A poisoned record leaves them free. -/
def requestRow (s : State) (r : Nat) : Nat :=
  let a := s.rd64 Reg.OPT_REQ_BASE_LO Reg.OPT_REQ_BASE_HI + 64 * r
  inCols s (if rangeBad s a 40 then leNat ((List.range 40).map fun i => Config.freeByte s.freeCount (40 * r + i)) else leNat (hbmBytes s a 40))

/-- A batch command that is not acted on (R446). -/
def batchRefuse (s : State) (id why : Nat) : State := s.raise .batchRefused [w32 id, w32 why]

/-- STAGE (R446). DESIGN CHOICE (log entry 33): refused while OPT is disabled or the channel to the keeper is down, as START is. -/
def stageBatch (s : State) (id : Nat) : State :=
  if !chanUp s ∨ !enabled s optBase ∨ s.opt.staged.isSome ∨ id = 0 then batchRefuse s id 5
  else
    let rows := List.range (optRows s)
    let s := rows.foldl (fun s r => touch s 4 (s.rd64 Reg.OPT_REQ_BASE_LO Reg.OPT_REQ_BASE_HI + 64 * r) 40) s
    let cs := rows.filterMap fun r =>
      let q := requestRow s r
      let f := futureRow s r
      if q = f then none else some ⟨r, without q f, without f q, 0⟩
    let s := rows.foldl (fun s r =>
      let x := optRow s r
      let q := requestRow s r
      let p := inCols s (x.pending &&& Nat.xor q x.driven)
      if p = x.pending then s else writeRow (putRow s r { x with pending := p }) r) s
    optShow { s.useFree with opt := { s.opt with staged := some (id, cs), marked := false } }

/-- START (R435, R446): the status with which it is refused, or none. -/
def startBatch (s : State) (id : Nat) : State × Option Nat :=
  match s.opt.staged with
  | none => (s, some 5)
  | some (sid, _) =>
    if !chanUp s ∨ !enabled s optBase ∨ sid ≠ id ∨ id = 0 then (s, some 5)
    else if s.opt.run.isSome then (optShow { s with opt := { s.opt with marked := true } }, none)
    else if opticReady s then (optShow (startStaged s), none)
    else (s, some 6)

/-- START with its refusal reported. -/
def startCommand (s : State) (id : Nat) : State :=
  let p := startBatch s id
  match p.2 with
  | none => p.1
  | some why => batchRefuse p.1 id why

/-- A STAGED batch is discarded. -/
def dropStaged (s : State) : State :=
  optShow (({ s with opt := { s.opt with staged := none, marked := false } }).setF Reg.OPT_BATCH_STATUS 16 3 4)

/-- CANCEL (R446). -/
def cancelBatch (s : State) (id : Nat) : State :=
  match s.opt.staged with
  | none => batchRefuse s id 5
  | some (sid, _) => if !chanUp s ∨ sid ≠ id ∨ id = 0 then batchRefuse s id 5 else dropStaged s

/-- A write of BATCH_CMD. -/
def batchCommand (s : State) (v : Word) : State :=
  let id := fld v 0 8
  let op := fld v 8 2
  if op = 1 then stageBatch s id else if op = 2 then startCommand s id else if op = 3 then cancelBatch s id else batchRefuse s id 5

/-- BATCH_STAGE (R446). -/
def execBatchStage (req : Requester) (id : Byte) (s : State) : Host.Outcome State Fault Refusal :=
  .next (gated s req Reg.OPT_BATCH_CMD none fun s => stageBatch s id.toNat)

/-- BATCH_START (R446). -/
def execBatchStart (req : Requester) (id : Byte) (s : State) : Host.Outcome State Fault Refusal :=
  .next (gated s req Reg.OPT_BATCH_CMD none fun s => startCommand s id.toNat)

/-- BATCH_CANCEL (R446). -/
def execBatchCancel (req : Requester) (id : Byte) (s : State) : Host.Outcome State Fault Refusal :=
  .next (gated s req Reg.OPT_BATCH_CMD none fun s => cancelBatch s id.toNat)

/-- The row phase in progress of a RUNNING batch ends (R438, R439). -/
def phaseEnd (s : State) (x : Batch) (j : RowJob) : State :=
  let s := ledgerPhase s x.band j (phaseNow s x) (phaseNow s x).dur
  let y := { x with phase := x.phase + 1 }
  putRun s (some (if y.phase = bandNph s.keeper.wave x.band then { y with comp := compPhases s x.band j.row } else y))

/-- ROW_PHASE_END (R438). -/
def execRowPhaseEnd (s : State) : Host.Outcome State Fault Refusal :=
  .next (match s.opt.run with
    | none => s
    | some x =>
      match x.rows with
      | [] => s
      | j :: _ => if phasesOver s x then s else phaseEnd s x j)

/-- ROW_UPDATE_END (R448). -/
def execRowUpdateEnd (s : State) : Host.Outcome State Fault Refusal :=
  .next (match s.opt.run with
    | none => s
    | some x =>
      match x.rows with
      | [] => s
      | j :: rest =>
        if phasesOver s x then
          let p := finishRow s x j
          optShow (nextRow p.1 p.2 rest)
        else s)

/-- TOKEN_REFILL (R440): 456 units into every bucket below capacity while HVIN is in range. -/
def execTokenRefill (s : State) : Host.Outcome State Fault Refusal :=
  .next (if kState s = 0 ∨ kState s = 6 ∨ s.b Reg.RAIL2_KEEPER_STATUS 5 then s
    else { s with opt := { s.opt with spent := s.opt.spent.filterMap fun p => if p.2 ≤ 456 then none else some (p.1, p.2 - 456) } })

/-- The pending cells that hold a token, as a change set (R447). -/
def autoSet (s : State) : List RowJob :=
  (rowList s).filterMap fun r =>
    let x := optRow s r
    let m := withToken s r (inCols s x.pending)
    if m = 0 then none else some ⟨r, without m x.driven, m &&& x.driven, 0⟩

/-- AUTO_BATCH_START (R447). -/
def execAutoBatchStart (s : State) : Host.Outcome State Fault Refusal :=
  .next (if s.on && enabled s optBase && s.b Reg.OPT_OPT_CFG 0 && s.opt.run.isNone && s.opt.staged.isNone && opticReady s &&
      (!(redriveRows s).isEmpty || !(autoSet s).isEmpty) then optShow (beginBatch s 0 (autoSet s)) else s)

/-- OPT is enabled (R110, R450): all 160 records of the map are written from the journal (R449), with every SETTLE_END in the
past. -/
def optEnable (s : State) : State :=
  let a := Reg.PAGE_CTRL optBase
  if enabled s optBase then s
  else if !quiesced s optBase then refuse s a
  else
    let s := setOn s optBase
    optShow (allRows.foldl (fun s r =>
      let x := optRow s r
      writeRow (putRow s r { x with settle := min x.settle s.now }) r) s)

/-- OPT_ENABLE (R450). -/
def execOptEnable (req : Requester) (s : State) : Host.Outcome State Fault Refusal :=
  .next (gated s req (Reg.PAGE_CTRL optBase) none optEnable)

/-- The keeper learns that OPT is disabled (R451). DESIGN CHOICE (log entry 33): ABORT cancels every STAGED batch. -/
def optStop (s : State) (abort : Bool) : State :=
  let s := if s.opt.staged.isSome ∧ (abort ∨ !s.opt.marked) then dropStaged s else s
  if abort then putRun s (s.opt.run.map fun x => { x with stop := true }) else s

/-- OPT's ENABLE goes to 0 (R451). DEDUCED (log entry 33): the batches are in the keeper, which learns of it over the isolated
channel, or once the channel returns (R17, R450). -/
def optDisable (s : State) (abort : Bool) : State :=
  let s := setOff s optBase abort
  if chanUp s then optStop s abort else { s with opt := { s.opt with offDue := some abort } }

/-- The channel is back: the keeper learns of a disable that waited for it. -/
def optStopDue (s : State) : State :=
  match s.opt.offDue with
  | none => s
  | some abort => optStop { s with opt := { s.opt with offDue := none } } abort

/-- OPT has no batch RUNNING or marked to start (R451), and the keeper knows that it is disabled. -/
def optQuiet (s : State) : Bool := s.opt.run.isNone && !(s.opt.marked && s.opt.staged.isSome) && s.opt.offDue.isNone

/-! ### Recovery (R454) -/

/-- Every phase of a row update, compensation included, applied at once. -/
def wholeRow (s : State) (b : Nat) (j : RowJob) : State :=
  let w := s.keeper.wave
  let s := (List.range (bandNph w b)).foldl (fun s p => ledgerPhase s b j (wavePhase w b p) (wavePhase w b p).dur) s
  let c := compPhases s b j.row
  (List.range c.1).foldl (fun s _ => ledgerPhase s b j ⟨bandComp w b, c.2, 0, 0, 0⟩ (bandComp w b)) s

/-- An UNCERTAIN row is re-addressed: its journalled targets are driven (R454). -/
def recoverRow (b : Nat) (s : State) (r : Nat) : State :=
  let x := optRow s r
  let m := inCols s x.moved
  let j : RowJob := ⟨r, m &&& x.target, without m x.target, 0⟩
  let s := charge s r j.cells
  let p := presented x s.now
  let s := wholeRow (journal s (.rowBegin r (without x.driven j.cells ||| j.toClear) p j.toClear j.toLens)) b j
  let s := journal s (.rowDone r (s.now + bandSettle s.keeper.wave b * 1000)
    ((List.range (optCols s)).map fun c => ledgerOf s (cellKey r c)))
  putRow s r { x with
    driven := without x.driven j.cells ||| j.toClear
    prior := presented x s.now
    settle := s.now + bandSettle s.keeper.wave b * 1000
    uncertain := false
    moved := 0
    target := 0 }

/-- Optic recovery over the UNCERTAIN rows with a locked band. -/
def recoverRows (s : State) (b : Nat) : State :=
  let u := uncertainRows s
  let s := u.foldl (recoverRow b) (s.setF Reg.OPT_OPT_STATUS 2 3 b)
  let s := u.foldl writeRow s
  let s := s.wr64 Reg.OPT_LAST_SETTLE_LO Reg.OPT_LAST_SETTLE_HI (s.now + bandSettle s.keeper.wave b * 1000)
  (ledgerHigh (showLedger s) false).1.raise .rowsRecovered [w32 u.length, w32 b]

/-! ### The journal at a keeper start (R455) -/

/-- The ROW_BEGIN records of a journal without their ROW_DONE. -/
def rowsBegun (l : List JournalRec) : List (Nat × Nat × Nat × Nat) :=
  l.foldl (fun t x =>
    match x with
    | .rowBegin r _ prior toClear toLens => t.filter (·.1 ≠ r) ++ [(r, prior, toClear, toLens)]
    | .rowDone r _ _ => t.filter (·.1 ≠ r)
    | _ => t) []

/-- A keeper that starts reads its journal: a row begun and not done is UNCERTAIN, and PRIOR is what it presents and what it
holds (R452, R455). DEDUCED (log entry 33): a record is whole before its action begins, so one torn by a loss of power is of an
action that never began; a command adds a record with its action, so the journal holds no torn one. -/
def readJournal (s : State) : State :=
  (rowsBegun s.opt.journal).foldl (fun s (r, prior, toClear, toLens) =>
    let x := optRow s r
    if x.uncertain then s
    else putRow s r { x with
      driven := prior, prior := prior, uncertain := true
      moved := toClear ||| toLens
      target := toClear }) s

end Sys2Proof.Machine
end

