-- ==== Sys2Proof/Machine/Rails.lean ====
section
/-!
DEFINITION. Panel rails, gate clocks and panel integrity: the keeper's sequences, protection, crack loops, thermistors and
input loss (R401 to R431).
-/
namespace Sys2Proof.Machine

/-! ### Gate clocks (R412, R421 to R423) -/

/-- The outputs of a head held at VGL, for a fault (R423) or for GATES_OFF of its crack loop (R424). -/
def gateHold (s : State) (h : Nat) : Nat :=
  tabGet (fun _ => 0) s.keeper.gateHeld h ||| (if crackLatched s h && decide (crackAction s h = 1) then 0xFFFF else 0)

/-- The level of a head's gate outputs. -/
def gateLevel (s : State) (h : Nat) : Nat := tabGet (fun _ => 0) s.keeper.gateLevel h

/-- A gate output of a head goes to a level at a device time, unless it is held or there already. -/
def setGate (h : Nat) (time : Int) (v : Bool) (s : State) (k : Nat) : State :=
  let l := gateLevel s h
  if l.testBit k = v ∨ (v ∧ (gateHold s h).testBit k) then s
  else
    let l := if v then l ||| 2 ^ k else without l (2 ^ k)
    { s with keeper := { s.keeper with gateLevel := tabSet (fun _ => 0) s.keeper.gateLevel h l } }.emit (.gate h k v time)

/-- The gate outputs of a head: GCK0 to GCK15, and GST as 16. -/
def gateList : List Nat := List.range 17

/-- Every gate output of a head goes to VGH or to VGL (R412). -/
def gatesTo (v : Bool) (s : State) (h : Nat) : State := gateList.foldl (setGate h s.now v) s

/-- GATE_STATUS of a head: held outputs, which go to VGL, and RUNNING. -/
def gateShow (s : State) (h : Nat) : State :=
  let m := gateHold s h
  let s := (gateList.filter m.testBit).foldl (setGate h s.now false) s
  s.wr (Reg.RAIL1_GATE_STATUS h) (w32 (m + b2n (s.keeper.gateRun.contains h) * 2 ^ 17))

/-- The gate clocks stop and every output is held at VGL (R412). -/
def gatesStop (s : State) : State :=
  let s := { s with keeper := { s.keeper with gatesDue := [], gateRun := [], gateFalls := [] } }
  (List.range 4).foldl gateShow ((List.range 4).foldl (gatesTo false) s)

/-- R421: the gate edges placed against line `y` of a head, which starts at `start`. `active` and `total` are V_ACTIVE and V_TOTAL of
its field. Without the line markers of the isolated channel edges stop. -/
def gateLine (s : State) (h y active total : Nat) (start : Int) : State :=
  if !(kOn s && chanUp s && s.keeper.gateRun.contains h) then gateEdgesStop s h
  else
    let c := s.inEff (Reg.RAIL1_GATE_CFG h)
    let e := s.inEff (Reg.RAIL1_GATE_EDGE h)
    let g := s.inEff (Reg.RAIL1_GST_CFG h)
    let at_ := start + sfld (s.inEff (Reg.RAIL1_GATE_OFFSET h)) 0 16
    let rise := (if (y < active ∨ bit c 16) ∧ 1 ≤ fld c 0 5 then [(y % fld c 0 5, fld c 8 5 - 1)] else []) ++
      (if y + fld g 0 16 = total then [(16, fld g 16 8 - 1)] else [])
    let l := ((tabGet (fun _ => []) s.keeper.gateFalls h).map fun p => (p.1, p.2 - 1)) ++ rise
    let up := fun s => (rise.map (·.1)).foldl (setGate h (at_ + (fld e 0 16 : Nat)) true) s
    let down := fun s => ((l.filter fun p => decide (p.2 = 0)).map (·.1)).foldl (setGate h (at_ + (fld e 16 16 : Nat)) false) s
    let s := { s with keeper := { s.keeper with
      gateFalls := tabSet (fun _ => []) s.keeper.gateFalls h (l.filter fun p => decide (p.2 ≠ 0)) } }
    if fld e 16 16 < fld e 0 16 then up (down s) else down (up s)

/-- The gate configuration registers of a head. -/
def gateRegs (h : Nat) : List Nat :=
  [Reg.RAIL1_GATE_CFG h, Reg.RAIL1_GATE_EDGE h, Reg.RAIL1_GATE_OFFSET h, Reg.RAIL1_GST_CFG h]

/-- Outputs `k ≥ NPH` of a head whose clocks run are at VGL (R421). DEDUCED (log entry 32): an output held high when edges stopped,
which a new configuration no longer drives, goes to VGL at the field start at which that applies, unless its falling edge is
still to come. -/
def gateUnused (s : State) (h : Nat) : State :=
  if s.keeper.gateRun.contains h then
    ((List.range 16).filter fun k =>
      decide (fld (s.inEff (Reg.RAIL1_GATE_CFG h)) 0 5 ≤ k) && !(tabGet (fun _ => []) s.keeper.gateFalls h).any fun p => decide (p.1 = k)).foldl
      (setGate h s.now false) s
  else s

/-- What a head's field start does to its gate clocks: the configuration applies (R422), clocks due start (R412), and held
outputs due are released (R423). -/
def gateField (s : State) (h : Nat) : State :=
  let s := (gateRegs h).foldl (fun s a => s.putEff a (s.rd a)) s
  let k := s.keeper
  let k := if k.gatesDue.contains h then
      { k with gatesDue := k.gatesDue.filter (· ≠ h), gateRun := k.gateRun.filter (· ≠ h) ++ [h] } else k
  let k := if k.gateClear.contains h then
      { k with gateClear := k.gateClear.filter (· ≠ h), gateHeld := tabSet (fun _ => 0) k.gateHeld h 0 } else k
  gateShow (gateUnused { s with keeper := k } h) h

/-! ### Sequences (R411 to R414) -/

/-- A rail changes state. VSP or VSN that regulates while the total power is limited is LIMITED (R419), and the optic layer
follows VOP and VON (R452). -/
def railTo (s : State) (r st : Nat) : State :=
  let cut := decide (st = 2 ∧ (r = 2 ∨ r = 3)) && s.keeper.limiting
  let s := setRail s r (if cut then 3 else st)
  let s := if cut then s.setB (Reg.RAIL0_RAIL_STATUS r) 12 true else s
  if r = 8 ∨ r = 9 then opticWatch s else s

/-- A DISCHARGE step closes or opens the discharge switch of a rail (R412); a rail that is latched off stays latched (R416). -/
def discharge (s : State) (r st : Nat) : State := if railLatched s r then s else railTo s r st

/-! ### Phases (R401, R418) -/

/-- Converter phases of a rail (R401). -/
def railPhases (r : Nat) : Nat := if r ≤ 1 then 3 else if r = 2 then 7 else if r = 3 then 4 else 2

/-- PHASES_FAILED and ATTEMPTS of a rail. -/
def phasesFailed (s : State) (r : Nat) : Nat := s.f (Reg.RAIL0_RAIL_STATUS r) 8 4
def attempts (s : State) (r : Nat) : Nat := s.f (Reg.RAIL0_RAIL_STATUS r) 4 3

/-- No phase of a rail is left: it is in fault (R418). -/
def noPhase (s : State) (r : Nat) : Bool := decide (railPhases r ≤ phasesFailed s r)

/-! ### Sequences: steps -/

/-- STEP in progress. -/
def setStep (s : State) (i : Nat) : State :=
  { s.setF Reg.RAIL2_KEEPER_STATUS 8 4 i with keeper := { s.keeper with last := i } }

/-- The keeper loses its supply: every rail is off (R426). -/
def powerGone (s : State) : State :=
  let s := railList.foldl (fun s r => if railLatched s r then s else setRail s r 0) s
  let s := gatesStop ((setKState s 0).setF Reg.RAIL2_KEEPER_STATUS 8 4 0)
  let s := s.setB Reg.RAIL2_KEEPER_STATUS 5 false
  opticWatch { s with keeper := { s.keeper with turn := none, cause := none, limiting := false } }

/-- A down sequence has run to its end: the balance ledgers are 0 (R358, R412), and the keeper is OFF, LOCKED, or without
supply after HOLDUP. -/
def downDone (s : State) : State :=
  let c := s.keeper.cause
  let s := if s.on then (List.range 4).foldl (fun s h => setLedger s h 0) s else s
  let s := if kState s = 6 then powerGone s
    else (setKState s (if criticalLatched s then 7 else 1)).setF Reg.RAIL2_KEEPER_STATUS 8 4 0
  let s := { s with keeper := { s.keeper with cause := none } }
  let s := match c with
    | some c => s.raise .panelOff [w32 c]
    | none => s
  optShow (journalCopy s)

/-- The down sequence from step `n - 1` (R412): up-only steps and RAIL steps of rails that are off are passed over. -/
def downFrom : Nat → State → State
  | 0, s => downDone s
  | n + 1, s =>
    let r := stepArg s n
    let act := stepAction s n
    if stepDir s n = 1 ∨ act = 0 ∨ (act = 1 ∧ (railState s r = 0 ∨ railState s r = 5)) then downFrom n s
    else
      let s := setStep s n
      if act = 1 then railTo s r 6
      else if act = 3 then gatesStop s
      else if act = 4 then (List.range 4).foldl (gatesTo true) s
      else if act = 5 then discharge s r 6
      else s

/-- A down sequence starts from the last step reached, once (R407, R412). Attempts in progress end. -/
def downStart (s : State) (cause : Option Nat) : State :=
  let s := if kState s = 6 then s else setKState s 5
  let s := railList.foldl (fun s r => if railState s r = 4 then setRail s r 0 else s) s
  downFrom (s.keeper.last + 1) { s with keeper := { s.keeper with cause := cause, turn := none } }

/-- The up sequence has reached its END: PANEL_ON (R412). With no head to send a field, a wake ends here (R523). -/
def upDone (s : State) : State :=
  let sends := (List.finRange 4).any fun h => enabled s (headBase h) && decide (roleCode s (headBase h) = 1)
  let s := { s with keeper := { s.keeper with waking := s.keeper.waking && sends } }
  let s := ((setKState s 4).setF Reg.RAIL2_KEEPER_STATUS 8 4 0).inc Reg.RAIL2_ON_COUNT
  s.raise .panelOn [s.rd Reg.RAIL2_ON_COUNT]

/-- The up sequence from step 16 - `n`: down-only steps and RAIL steps of latched rails are passed over. -/
def upFrom : Nat → State → State
  | 0, s => upDone s
  | n + 1, s =>
    let i := 15 - n
    let act := stepAction s i
    let r := stepArg s i
    if act = 0 then upDone s
    else
      let s := setStep s i
      if stepDir s i = 2 ∨ (act = 1 ∧ railLatched s r) then upFrom n s
      else if act = 1 then railTo s r 1
      else if act = 3 then { s with keeper := { s.keeper with gatesDue := [0, 1, 2, 3] } }
      else if act = 4 then (List.range 4).foldl (gatesTo true) s
      else if act = 5 then discharge s r 6
      else s

/-- An up sequence fails at the step in progress (R414). -/
def seqFail (s : State) (reason : Nat) : State :=
  let w := w32 (s.keeper.last + reason * 16)
  let s := (s.wr Reg.RAIL2_SEQ_RESULT w).raise .seqFail [w]
  downStart (dropReq s) s.keeper.turn

/-- A rail that ramps in an up sequence is in fault: it switches off, and the sequence fails (R414, R415). -/
def rampFault (s : State) (r : Nat) (above : Bool) : State :=
  seqFail (railTo (s.raise .railFault [w32 r, w32 (b2n above)]) r 0) 2

/-- The step in progress has ended (R412); after GATES_ALL_HIGH every gate output goes to VGL. A rail without a phase reaches no
power good: it is in fault (R418). -/
def stepEnd (s : State) : State :=
  let i := s.keeper.last
  let r := stepArg s i
  let act := stepAction s i
  let s := if act = 4 ∧ (kState s = 3 ∨ kState s = 5 ∨ kState s = 6) then (List.range 4).foldl (gatesTo false) s else s
  if kState s = 3 then
    match s.keeper.turn with
    | some c => downStart s (some c)
    | none =>
      if act = 1 ∧ noPhase s r then rampFault s r false
      else upFrom (15 - i) (if act = 1 then railTo s r 2 else if act = 5 then discharge s r 0 else s)
  else if kState s = 5 ∨ kState s = 6 then
    downFrom i (if act = 1 then railTo s r 0 else if act = 5 then discharge s r 0 else s)
  else s

/-- POWER_GOOD_TIMEOUT (R414): a RAIL step that has not reached power good within PG_MS. -/
def execPowerGoodTimeout (s : State) : Host.Outcome State Fault Refusal :=
  .next (if kState s = 3 ∧ stepAction s s.keeper.last = 1 then
      match s.keeper.turn with
      | some c => downStart s (some c)
      | none => seqFail s 1
    else s)

/-- A down sequence run to its end at once, for a command that is one step (R520). -/
def downAll : Nat → State → State
  | 0, s => s
  | n + 1, s => if kState s = 5 then downAll n (stepEnd s) else s

/-! ### PANEL_CMD (R407, R413) -/

/-- The step of the END, if any. -/
def endStep (s : State) : Option Nat := (List.range 16).find? fun i => decide (stepAction s i = 0)

/-- A step is encoded as R411 allows, and as R413 wants it after the steps before it. -/
def stepOk (s : State) (i : Nat) : Bool :=
  let act := stepAction s i
  let r := stepArg s i
  let before_ := fun (a : Nat) (p : Nat → Bool) => (List.range i).any fun j => decide (stepAction s j = a) && p (stepArg s j)
  decide (act ≤ 5 ∧ stepDir s i ≠ 3) &&
  (if act = 1 ∨ act = 5 then decide (r ≤ 12) else decide (r = 0)) &&
  (decide (act ≠ 1) || (profileEn s r && !before_ 1 (fun q => decide (q = r)))) &&
  (decide (act ≠ 3) || (!before_ 3 (fun _ => true) && before_ 1 (fun q => decide (q = 0)) && before_ 1 (fun q => decide (q = 1))))

/-- Time of the down sequence in µs (R413). -/
def downTime (s : State) (n : Nat) : Nat :=
  ((List.range n).map fun i => if stepDir s i = 1 then 0 else stepRamp s i + stepDelay s i).foldl (· + ·) 0

/-- The first failing step of the sequence table (R413). DESIGN CHOICE (log entry 32): what no single step shows (a rail or
GATES step that is missing, the down time) fails at the END, and a table without END at step 15. -/
def tableFail (s : State) : Option Nat :=
  match endStep s with
  | none => some 15
  | some n =>
    match (List.range n).find? fun i => !stepOk s i with
    | some i => some i
    | none =>
      let has := fun (a : Nat) (p : Nat → Bool) => (List.range n).any fun j => decide (stepAction s j = a) && p (stepArg s j)
      if has 3 (fun _ => true) && (railList.all fun r => !profileEn s r || has 1 (fun q => decide (q = r))) &&
          decide (downTime s n ≤ 20000) then none
      else some n

/-- The pre-check starts (R409). -/
def startPrecheck (s : State) : State := (setKState s 2).setF Reg.RAIL2_KEEPER_STATUS 8 4 0

/-- PANEL_CMD ON (R407, R413). -/
def panelOn (s : State) : State :=
  if kState s ≠ 1 then refuse s Reg.RAIL2_PANEL_CMD
  else
    match tableFail s with
    | some i => refuse (s.wr Reg.RAIL2_SEQ_RESULT (w32 (i + 4 * 16))) Reg.RAIL2_PANEL_CMD
    | none => startPrecheck (setReq s true)

/-- The panel is switched off for a cause: PANEL_REQ is cleared, and a pre-check ends, an up sequence turns, or the down
sequence runs (R407, R424). -/
def panelDown (s : State) (cause : Nat) : State :=
  let s := dropReq s
  if kState s = 2 then optShow (journalCopy (setKState s 1))
  else if kState s = 3 then
    { s with keeper := { s.keeper with turn := some (s.keeper.turn.getD cause) } }
  else if kState s = 4 then downStart s (some cause)
  else s

/-- PANEL_CMD OFF (R407). -/
def panelOff (s : State) : State :=
  if kState s = 2 ∨ kState s = 3 ∨ kState s = 4 then panelDown s 0 else refuse s Reg.RAIL2_PANEL_CMD

/-- PANEL_CMD_ON (R407). -/
def execPanelCmdOn (req : Requester) (s : State) : Host.Outcome State Fault Refusal :=
  .next (railGate s req 0x82000 Reg.RAIL2_PANEL_CMD panelOn)

/-- PANEL_CMD_OFF (R407). -/
def execPanelCmdOff (req : Requester) (s : State) : Host.Outcome State Fault Refusal :=
  .next (railGate s req 0x82000 Reg.RAIL2_PANEL_CMD panelOff)

/-- A write of PANEL_CMD: any OP but ON and OFF is refused. -/
def panelCommand (s : State) (v : Word) : State :=
  if fld v 0 2 = 1 then panelOn s else if fld v 0 2 = 2 then panelOff s else refuse s Reg.RAIL2_PANEL_CMD

/-! ### Pre-check (R409, R410) -/

/-- The result code of a rail: 1 PASS, 2 SHORT, 3 OPEN, 4 LOW, 5 HIGH, 6 CROSS. -/
def preResult (s : State) (r : Nat) (x : PreReading) : Nat :=
  let v1 := min 2000 x.v1
  let v2 := min 2000 x.v2
  let w1 := s.rd (Reg.RAIL0_PRE_WIN1 r)
  let w2 := s.rd (Reg.RAIL0_PRE_WIN2 r)
  if x.cross.isSome then 6
  else if fld w1 0 16 ≤ v1 ∧ v1 ≤ fld w1 16 16 ∧ fld w2 0 16 ≤ v2 ∧ v2 ≤ fld w2 16 16 then 1
  else if v2 < 20 then 2
  else if 1950 ≤ v1 then 3
  else if v1 < fld w1 0 16 ∨ v2 < fld w2 0 16 then 4
  else 5

/-- PRECHECK_r after the test of a rail. -/
def preRail (s : State) (r : Nat) (x : PreReading) : State :=
  s.wr (Reg.RAIL0_PRECHECK r)
    (w32 (preResult s r x + x.cross.getD 0 % 16 * 2 ^ 4 + min 2000 x.v1 * 2 ^ 8 + min 2000 x.v2 * 2 ^ 20))

/-- RESULT of a rail. -/
def preCode (s : State) (r : Nat) : Nat := s.f (Reg.RAIL0_PRECHECK r) 0 3

/-- The pre-check ends (R410). -/
def precheckEnd (s : State) (readings : List PreReading) : State :=
  let s := railList.foldl (fun s r => preRail s r (readings.getD r ⟨0, 0, none⟩)) s
  (railList.find? fun r => decide (preCode s r ≠ 1)).elim (upFrom 16 (setKState s 3)) fun r =>
    let s := (setKState (dropReq s) 1).wr Reg.RAIL2_SEQ_RESULT (w32 (5 * 16))
    optShow (journalCopy (s.raise .precheckFail [w32 r, s.rd (Reg.RAIL0_PRECHECK r)]))

/-- PRECHECK_COMPLETE (R410). -/
def execPrecheckComplete (readings : List PreReading) (s : State) : Host.Outcome State Fault Refusal :=
  .next (if kState s = 2 then precheckEnd s readings else s)

/-! ### Protection (R415 to R420) -/

/-- A rail latches off (R415, R416). -/
def latchRail (s : State) (r : Nat) : State :=
  let s := (railTo s r 5).raise .railLatched [w32 r]
  if critical r then downStart s (some 1)
  else if railState s (17 - r) = 5 then s
  else railTo s (17 - r) 0

/-- A rail in fault (R414, R415): it switches off and discharges; an up sequence fails, and a panel that is ON attempts it
again unless its attempts are used up. -/
def railFault (s : State) (r : Nat) (above : Bool) : State :=
  if kState s = 3 then rampFault s r above
  else
    let s := s.raise .railFault [w32 r, w32 (b2n above)]
    if kState s = 4 then (if 5 ≤ attempts s r then latchRail s r else railTo s r 4) else railTo s r 0

/-- RAIL_FAULT (R415). -/
def execRailFault (r : Fin 13) (above : Bool) (s : State) : Host.Outcome State Fault Refusal :=
  .next (if kOn s ∧ railRuns s r ∧ (above = false ∨ regulating s r) then railFault s r above else s)

/-- HICCUP_ATTEMPT (R415): an attempt reaches power good or faults; a rail without a phase always faults (R418). -/
def execHiccupAttempt (r : Fin 13) (good : Bool) (s : State) : Host.Outcome State Fault Refusal :=
  .next (if railState s r ≠ 4 then s
    else
      let s := s.setF (Reg.RAIL0_RAIL_STATUS r) 4 3 (attempts s r + 1)
      let n := attempts s r
      if good ∧ !noPhase s r then (railTo s r 2).raise .railRecovered [w32 r, w32 n]
      else
        let s := s.raise .railFault [w32 r, 0]
        if 5 ≤ n then latchRail s r else s)

/-- ATTEMPT_COUNT_RESET (R415): 10 s of regulation. -/
def execAttemptCountReset (r : Fin 13) (s : State) : Host.Outcome State Fault Refusal :=
  .next (if regulating s r then s.setF (Reg.RAIL0_RAIL_STATUS r) 4 3 0 else s)

/-- RAIL_NO_LOAD (R417), once while the rail regulates. -/
def execRailNoLoad (r : Fin 13) (s : State) : Host.Outcome State Fault Refusal :=
  .next (if regulating s r ∧ !s.b (Reg.RAIL0_RAIL_STATUS r) 7 then
      (s.setB (Reg.RAIL0_RAIL_STATUS r) 7 true).raise .railNoLoad [w32 r.val]
    else s)

/-- ILIM in effect of a rail: capped after the second phase lost (R418), and lowered on VSP and VSN by the total power (R419). -/
def ilimNow (s : State) (r : Nat) : Nat :=
  let n := railPhases r - 1
  let k := phasesFailed s r
  let v := if k < 2 then s.rdN (Reg.RAIL0_ILIM r) else min (s.rdN (Reg.RAIL0_ILIM r)) ((n + 1 - k) * railMaxCurrent r / n)
  let x := s.keeper
  if !x.limiting then v else if r = 2 then min v x.capVsp else if r = 3 then min v x.capVsn else v

/-- PHASE_LOST (R418). -/
def execPhaseLost (r : Fin 13) (phase : Nat) (s : State) : Host.Outcome State Fault Refusal :=
  .next (if !kOn s ∨ railPhases r ≤ phasesFailed s r then s
    else
      let s := s.setF (Reg.RAIL0_RAIL_STATUS r) 8 4 (phasesFailed s r + 1)
      let s := (s.setB Reg.MAINT_RAIL_PHASE_LOST r true).raise .phaseLost [w32 r, w32 phase]
      let k := phasesFailed s r
      let s := if k = 1 then spareLow s 2 r else s
      if 2 ≤ k ∧ k < railPhases r then s.raise .railDerated [w32 r, w32 (ilimNow s r)]
      else if railPhases r ≤ k ∧ railRuns s r then railFault s r false
      else s)

/-- The demand of a list of rails in mW. -/
def loadOf (l : List RailLoad) (p : Nat → Bool) : Nat :=
  (l.map fun x => if p x.rail ∧ x.rail < 10 then x.milliwatt else 0).foldl (· + ·) 0

/-- The limit on VSP and VSN starts or ends. -/
def limitRails (s : State) (on : Bool) : State :=
  let s := [2, 3].foldl (fun s r =>
    if regulating s r then (setRail s r (if on then 3 else 2)).setB (Reg.RAIL0_RAIL_STATUS r) 12 on else s) s
  { s with keeper := { s.keeper with limiting := on } }

/-- The current in mA that a rail draws for a power at its TARGET. -/
def railCurrent (s : State) (r milliwatt : Nat) : Nat :=
  milliwatt * 1000 / (max 1 (s.rd (Reg.RAIL0_TARGET r)).toInt.natAbs)

/-- R419: the current limits of VSP and VSN, lowered in proportion to their currents until the demands come to 150 W, and P_TOTAL. -/
def limitPower (s : State) (loads : List RailLoad) : State :=
  let p := fun r => loadOf loads fun q => decide (q = r)
  let rest := loadOf loads fun r => decide (r ≠ 2 ∧ r ≠ 3)
  let room := min (150000 - rest) (p 2 + p 3)
  let cap := fun r => railCurrent s r (p r) * room / max 1 (p 2 + p 3)
  { s with keeper := { s.keeper with capVsp := cap 2, capVsn := cap 3 } }.wr Reg.RAIL0_P_TOTAL (w32 (rest + room))

/-- RAIL_POWER_LIMIT (R40, R419), from the demands of the high-voltage rails. -/
def execRailPowerLimit (loads : List RailLoad) (s : State) : Host.Outcome State Fault Refusal :=
  .next (if !kOn s then s
    else
      let sum := loadOf loads fun _ => true
      if s.keeper.limiting then
        if sum < 147000 then limitRails (s.wr Reg.RAIL0_P_TOTAL (w32 sum)) false else limitPower s loads
      else
        let s := s.wr Reg.RAIL0_P_TOTAL (w32 sum)
        if 150000 < sum then limitPower ((limitRails s true).raise .railPowerLimit [w32 sum]) loads else s)

/-- PVL_OVERLOAD (R420): PVL_POWER has been at a value for 1 s. -/
def execPvlOverload (milliwatt : Word) (s : State) : Host.Outcome State Fault Refusal :=
  .next (if !kOn s then s
    else
      let s := s.wr Reg.RAIL0_PVL_POWER milliwatt
      if 15000 < milliwatt.toNat ∧ !s.keeper.pvlTold then
        ({ s with keeper := { s.keeper with pvlTold := true } }).raise .pvlOverload [milliwatt]
      else if milliwatt.toNat < 14000 then { s with keeper := { s.keeper with pvlTold := false } }
      else s)

/-- The PVL rails. -/
def pvlRails : List Nat := [10, 11, 12]

/-- PVL_LOSS (R408): the PVL rails have fallen; the keeper holds the others, or sequences them down. -/
def execPvlLoss (s : State) : Host.Outcome State Fault Refusal :=
  .next (if !kOn s then s
    else
      let s := pvlRails.foldl (fun s r => if railLatched s r then s else setRail s r 0) s
      if pvlDown s ∧ (kState s = 3 ∨ kState s = 4) then downStart s none else s)

/-- KEEPER_LINK_LOST (R17, R408): every rail, switch and gate level holds. -/
def execKeeperLinkLost (s : State) : Host.Outcome State Fault Refusal :=
  .next (if chanUp s then
      let s := { s with keeper := { s.keeper with linkGone := true } }
      (s.setB Reg.RAIL2_KEEPER_STATUS 3 false).raise .keeperLinkLost []
    else s)

/-! ### Writes (R403, R416, R424) -/

/-- A register of R403: TARGET_r or ILIM_r of RAIL0, or a gate register of RAIL1. -/
def railReg (a : Nat) : Bool :=
  ((List.range 10).any fun r => decide (a = Reg.RAIL0_TARGET r)) || (railList.any fun r => decide (a = Reg.RAIL0_ILIM r)) ||
  ((List.range 4).any fun h => (gateRegs h).contains a)

/-- RAIL_TARGET_WRITE (R403). -/
def execRailTargetWrite (req : Requester) (addr : Nat) (value : Word) (s : State) : Host.Outcome State Fault Refusal :=
  .next (if railReg addr then railGate s req (addr / 0x1000 * 0x1000) addr fun s => directWrite s addr value else s)

/-- The latches that a FAULT_CLEAR names are cleared, and a keeper LOCKED for none is OFF (R416). -/
def clearLatches (s : State) (v : Word) : State :=
  let s := railList.foldl (fun s r =>
    if bit v r ∧ railLatched s r then setRail (s.setF (Reg.RAIL0_RAIL_STATUS r) 4 3 0) r 0 else s) s
  if kState s = 7 ∧ !criticalLatched s then optShow (journalCopy (setKState s 1)) else s

/-- A write of FAULT_CLEAR (R416, R423). Its rails are unlatched only in OFF and LOCKED; its bit 31 acts in every state. DESIGN
CHOICE (log entry 32): one that names rails elsewhere raises REG_REFUSED for them. -/
def faultClear (s : State) (v : Word) : State :=
  let s := if kState s = 1 ∨ kState s = 7 then clearLatches s v
    else if fld v 0 13 = 0 then s
    else refuse s Reg.RAIL0_FAULT_CLEAR
  if bit v 31 then { s with keeper := { s.keeper with gateClear := [0, 1, 2, 3] } } else s

/-- FAULT_CLEAR (R416). -/
def execFaultClear (req : Requester) (value : Word) (s : State) : Host.Outcome State Fault Refusal :=
  .next (railGate s req 0x80000 Reg.RAIL0_FAULT_CLEAR fun s => faultClear s value)

/-- GATE_OUTPUT_FAULT (R423). -/
def execGateOutputFault (h : Fin 4) (output : Fin 17) (s : State) : Host.Outcome State Fault Refusal :=
  .next (if !s.keeper.gateRun.contains h.val ∨ s.b (Reg.RAIL1_GATE_STATUS h) output then s
    else
      let k := s.keeper
      let held := tabGet (fun _ => 0) k.gateHeld h
      let s := { s with keeper := { k with gateHeld := tabSet (fun _ => 0) k.gateHeld h (held ||| 2 ^ output.val) } }
      (gateShow s h).raise .gateOutputFault [w32 h.val, w32 output.val])

/-- A crack loop is declared open: its safe action (R424). -/
def crackOpen (s : State) (c ohm : Nat) : State :=
  let act := crackAction s c
  let s := s.setB Reg.RAIL1_CRACK_STATUS (8 + c) true
  let s := s.raise .crackDetected [w32 c, w32 (min ohm 65535), w32 act]
  if act = 1 ∧ c < 4 then gateShow s c
  else if act = 2 then panelDown s 2
  else if act = 3 ∧ 4 ≤ c then optShow (cutRow s 2 15000)
  else s

/-- One measurement of a loop (R424). -/
def crackRead (s : State) (c ohm : Nat) : State :=
  let t := crackThreshold s c
  let k := s.keeper
  let run := if t < ohm then min 3 (tabGet (fun _ => 0) k.crackRun c + 1) else 0
  let ok := if ohm < t then min 3 (tabGet (fun _ => 0) k.crackOk c + 1) else 0
  let s := { s with keeper := { k with crackRun := tabSet (fun _ => 0) k.crackRun c run, crackOk := tabSet (fun _ => 0) k.crackOk c ok } }
  let s := (s.wr (Reg.RAIL1_CRACK_R c) (w32 (min ohm 65535))).setB Reg.RAIL1_CRACK_STATUS c (decide (run = 3))
  if run = 3 ∧ !crackLatched s c then crackOpen s c ohm else s

/-- CRACK_LOOP_MEASUREMENT (R424): the resistances of the six loops. -/
def execCrackLoopMeasurement (ohms : List Nat) (s : State) : Host.Outcome State Fault Refusal :=
  .next (if kOn s then (List.range 6).foldl (fun s c => crackRead s c (ohms.getD c 0)) s else s)

/-- BATCH_CRACK_MEASUREMENT (R453): a reading above threshold ends the phase at once, whatever the loop's action; declaring the loop
open, and its action, follow R424. -/
def execBatchCrackMeasurement (ohm4 ohm5 ranUs : Nat) (s : State) : Host.Outcome State Fault Refusal :=
  .next (if s.opt.run.isNone then s
    else
      let s := if crackThreshold s 4 < ohm4 ∨ crackThreshold s 5 < ohm5 then optShow (cutRow s 2 ranUs) else s
      crackRead (crackRead s 4 ohm4) 5 ohm5)

/-- A write of CRACK_ACK (R424): it releases the loops that have read closed three times; another loop named is refused. -/
def crackAck (s : State) (v : Word) : State :=
  let named := (List.range 6).filter fun c => bit v c
  let closed := fun c => decide (tabGet (fun _ => 0) s.keeper.crackOk c = 3)
  let bad := named.any fun c => !closed c
  let s := (named.filter closed).foldl (fun s c =>
    let s := s.setB Reg.RAIL1_CRACK_STATUS (8 + c) false
    if c < 4 then gateShow s c else s) s
  optShow (if bad then refuse s Reg.RAIL1_CRACK_ACK else s)

/-- CRACK_ACK (R424). -/
def execCrackAck (req : Requester) (value : Word) (s : State) : Host.Outcome State Fault Refusal :=
  .next (railGate s req 0x81000 Reg.RAIL1_CRACK_ACK fun s => crackAck s value)

/-! ### Thermistors (R425, R443) -/

/-- The temperature of a thermistor in 0.1 °C, by its resistance at 25 °C and its B constant in the rail record (R425, R563). -/
def thermTemp (s : State) (t ohm : Nat) : Int :=
  Config.thermistor (leAt s.keeper.record (0x238 + 8 * t) 4) (leAt s.keeper.record (0x23C + 8 * t) 2) ohm

/-- A thermistor reads: TEMP_t, and THERMISTOR_INVALID on a change to invalid. -/
def thermistor (s : State) (t ohm : Nat) : State :=
  let a := Reg.RAIL1_TEMP t
  if ohm < 100 ∨ 2000000 < ohm then
    let was := s.b a 16
    let s := s.wr a 0
    if was then (s.tell (.thermistor t)).raise .thermistorInvalid [w32 t] else s
  else s.wr a (setFld 0x10000 0 16 (u64 (thermTemp s t ohm)))

/-- The highest valid reading. -/
def highestTemp (s : State) : Option Int :=
  ((List.range 8).filterMap fun t => if s.b (Reg.RAIL1_TEMP t) 16 then some (sfld (s.rd (Reg.RAIL1_TEMP t)) 0 16) else none).foldl
    (fun m x => match m with | none => some x | some y => some (max x y)) none

/-- THERMISTOR_READ (R425): the resistances of the eight inputs in Ω. -/
def execThermistorRead (ohms : List Nat) (s : State) : Host.Outcome State Fault Refusal :=
  .next (if !s.on then s
    else
      let s := (List.range 8).foldl (fun s t => thermistor s t (ohms.getD t 0)) s
      let s := s.wr Reg.RAIL1_PANEL_TEMP (match highestTemp s with | some x => setFld 0x10000 0 16 (u64 x) | none => 0)
      optShow (bandWatch s))

/-! ### Input loss and keeper start (R426, R427, R454, R568) -/

/-- HVIN_LOW (R426): HVIN reads a value. -/
def execHvinLow (millivolt : Word) (s : State) : Host.Outcome State Fault Refusal :=
  .next (if kState s = 0 ∨ kState s = 6 then s
    else
      let s := s.wr Reg.RAIL0_HVIN millivolt
      let v := millivolt.toNat
      let was := s.b Reg.RAIL2_KEEPER_STATUS 5
      let s := s.setB Reg.RAIL2_KEEPER_STATUS 5 (decide (33000 ≤ v ∧ v < 36000))
      if 33000 ≤ v ∧ v < 36000 ∧ !was then s.raise .hvinLow [millivolt] else s)

/-- The report of an HVIN loss, from the journal once the channel is up (R431). -/
def reportLoss (s : State) : State :=
  if s.keeper.lossDue ∧ chanUp s then
    ({ s with keeper := { s.keeper with lossDue := false } }).raise .hvinLost [s.rd Reg.RAIL2_HVIN_LOSSES]
  else s

/-- HVIN_LOSS (R426): the loss is journalled, the row update is cut, and the down sequence runs. -/
def execHvinLoss (s : State) : Host.Outcome State Fault Refusal :=
  .next (
    let k := kState s
    if k = 0 ∨ k = 6 then s
    else
      let s := s.inc Reg.RAIL2_HVIN_LOSSES
      let s := reportLoss { s with keeper := { s.keeper with lossDue := true } }
      let s := setKState s 6
      let s := optShow (cutRow s 1 15000)
      let s := if k = 2 ∨ k = 3 then s.wr Reg.RAIL2_SEQ_RESULT (w32 ((if k = 3 then s.keeper.last else 0) + 3 * 16)) else s
      if k = 3 ∨ k = 4 then downStart s (some (s.keeper.turn.getD 3))
      else if k = 5 then s
      else powerGone s)

/-- HOLDUP_BUS_COLLAPSE (R426): every rail is cut and discharged at once. -/
def execHoldupBusCollapse (s : State) : Host.Outcome State Fault Refusal :=
  .next (if kState s = 6 then powerGone s else s)

/-- The RAIL steps of VOP and VON exist. -/
def opticSteps (s : State) : Bool :=
  [8, 9].all fun r => (List.range ((endStep s).getD 16)).any fun i => decide (stepAction s i = 1 ∧ stepArg s i = r)

/-- Optic recovery (R454): rails 8 and 9 pass their pre-check and ramp, and every UNCERTAIN row is re-addressed. A failed
step, or no band, leaves the rows UNCERTAIN. -/
def opticRecovery (s : State) (readings : List PreReading) : State :=
  if (uncertainRows s).isEmpty then s
  else
    let s := preRail (preRail s 8 (readings.getD 0 ⟨0, 0, none⟩)) 9 (readings.getD 1 ⟨0, 0, none⟩)
    match bandNow s with
    | none => s
    | some b =>
      if preCode s 8 = 1 ∧ preCode s 9 = 1 ∧ opticSteps s ∧ !railLatched s 8 ∧ !railLatched s 9 ∧ waveOk s ∧ !opticHold s then
        recoverRows s b
      else s

/-- KEEPER_START (R427, R437, R568): the journal is read; a keeper with PANEL_REQ set and no critical rail latched runs
optic recovery, and waits for the channel before its pre-check. -/
def execKeeperStart (readings : List PreReading) (s : State) : Host.Outcome State Fault Refusal :=
  .next (if kOn s then s
    else
      let s := readJournal (loadRecord s)
      let s := railList.foldl (fun s r => s.wr (Reg.RAIL0_PRECHECK r) 0) s
      let s := (s.setB Reg.RAIL2_KEEPER_STATUS 3 false).wr Reg.RAIL0_HVIN (Config.freeWord s.freeCount)
      let s := setKState s.useFree (if criticalLatched s then 7 else 1)
      let s := railSummary s
      let go := panelReq s && !criticalLatched s
      let s := { s with keeper := { s.keeper with restoreDue := true, autoOn := go, crackRun := [], crackOk := [] } }
      let s := match waveBad s.keeper.wave with
        | some (b, o) => s.raise .tableInvalid [w32 b, w32 o]
        | none => s
      optShow (if go then opticRecovery s readings else s))

end Sys2Proof.Machine
end

