-- ==== Sys2Proof/Machine/Therm.lean ====
section
/-!
DEFINITION. The thermal watch (R504 to R517): sensors, zones, demand and level. The transitions that a trip starts are in
`Sys2Proof.Machine.Power`.
-/
namespace Sys2Proof.Machine

/-! ### Sensors (R504 to R508) -/

/-- R505 div_round: half away from zero. -/
def divRound (a b : Int) : Int :=
  let q : Int := ((a.natAbs + b.natAbs / 2) / b.natAbs : Nat)
  if decide (a < 0) != decide (b < 0) then -q else q

/-- R505 ro_temp: the sensor value of a count, in 0.1 °C. -/
def roTemp (n n25 n85 : Nat) : Int := 250 + divRound (((n : Int) - n25) * 600) ((n85 : Int) - n25)

/-- SENSOR_s.STATE: 0 OK, 1 SUSPECT, 2 FAILED. -/
def sensorState (s : State) (i : Nat) : Nat := s.f (Reg.THERM_SENSOR i) 16 2

/-- The effective value of a sensor. -/
def sensorEff (s : State) (i : Nat) : Int := sfld (s.rd (Reg.THERM_SENSOR i)) 0 16

/-- A sensor that has not been sampled. -/
def SensorSt.fresh : SensorSt := ⟨0, 0, 0⟩

/-- A sensor beyond its register. -/
def sensorOf (s : State) (i : Nat) : SensorSt := tabGet (fun _ => SensorSt.fresh) s.therm.sensors i

/-- The state with a sensor's internal part. -/
def putSensor (s : State) (i : Nat) (x : SensorSt) : State :=
  { s with therm := { s.therm with sensors := tabSet (fun _ => SensorSt.fresh) s.therm.sensors i x } }

/-- The sensors of a zone (R509). -/
def zoneSensors (z : Nat) : List Nat := (List.range 6).map (6 * z + ·)

/-- The OK sensors of a zone. -/
def okSensors (s : State) (z : Nat) : List Nat := (zoneSensors z).filter fun i => decide (sensorState s i = 0)

/-- Sum of the sensor values of some sensors. -/
def valueSum (s : State) : List Nat → Int
  | [] => 0
  | i :: t => (sensorOf s i).value + valueSum s t

/-- The greatest sensor value of some sensors. -/
def valueMax (s : State) (l : List Nat) : Option Int := (l.map fun i => (sensorOf s i).value).max?

/-- Step 1 of R507, with R506: a sensor's count is converted; an impossible one fails the sensor. -/
def convert (s : State) (i n : Nat) : State :=
  let c := s.rd (Reg.THERM_SENSOR_CAL i)
  let v := roTemp n (fld c 0 16) (fld c 16 16)
  let s := putSensor s i { sensorOf s i with value := v }
  if sensorState s i ≠ 2 ∧ (n = 0 ∨ n = 65535 ∨ v < -550 ∨ 1500 < v) then
    (s.setF (Reg.THERM_SENSOR i) 16 2 2).raise .sensorFailed [w32 i, w32 n]
  else s

/-- The check of R507 of one sensor against the OK sensors `ok` of its zone. -/
def checkSensor (ok : List Nat) (s : State) (i : Nat) : State :=
  let nb := ok.filter (· ≠ i)
  if sensorState s i = 2 ∨ nb.isEmpty then s
  else
    let x := sensorOf s i
    let m := divRound (valueSum s nb) nb.length
    let d := (x.value - m).natAbs
    if ok.contains i then
      let n := if 80 < d then x.dev + 1 else 0
      if 3 ≤ n then
        ((putSensor s i { x with dev := 0, calm := 0 }).setF (Reg.THERM_SENSOR i) 16 2 1).raise .sensorSuspect
          [w32 i, wInt x.value, wInt m]
      else putSensor s i { x with dev := n }
    else
      let n := if d ≤ 40 then x.calm + 1 else 0
      if 1000 ≤ n then
        ((putSensor s i { x with dev := 0, calm := 0 }).setF (Reg.THERM_SENSOR i) 16 2 0).raise .sensorRecovered [w32 i]
      else putSensor s i { x with calm := n }

/-- R508: the effective value of a sensor; one without a neighbour that is not OK has none, so its value is free. -/
def formEff (z : Nat) (s : State) (i : Nat) : State :=
  let v := if sensorState s i = 0 then some (sensorOf s i).value
    else (valueMax s ((okSensors s z).filter (· ≠ i))).map (· + 30)
  match v with
  | some v => s.setF (Reg.THERM_SENSOR i) 0 16 (v % 65536).toNat
  | none => (s.setF (Reg.THERM_SENSOR i) 0 16 (Config.freeWord s.freeCount).toNat).useFree

/-- R508: the zone temperature. -/
def zoneTempOf (s : State) (z : Nat) : Option Int :=
  if (okSensors s z).isEmpty then none else ((zoneSensors z).map (sensorEff s)).max?

/-! ### Zones (R509, R510) -/

/-- The fallback level of a zone (R509). -/
def fallbackLevel (z : Nat) : Nat := if z < 4 then 9 else if z = 5 then 2 else 5

/-- The thresholds of a zone. -/
def coldT (s : State) (z : Nat) : Int := sfld (s.rd (Reg.THERM_ZONE_T0 z)) 0 16
def warmT (s : State) (z : Nat) : Int := sfld (s.rd (Reg.THERM_ZONE_T0 z)) 16 16
def hotT (s : State) (z : Nat) : Int := sfld (s.rd (Reg.THERM_ZONE_T1 z)) 0 16
def critT (s : State) (z : Nat) : Int := sfld (s.rd (Reg.THERM_ZONE_T1 z)) 16 16

/-- The zone temperature as ZONE_STATUS holds it. -/
def zoneTemp (s : State) (z : Nat) : Option Int :=
  if s.f (Reg.THERM_ZONE_STATUS z) 0 16 = 0x8000 then none else some (sfld (s.rd (Reg.THERM_ZONE_STATUS z)) 0 16)

/-- DEMAND of a zone. -/
def demand (s : State) (z : Nat) : Nat := s.f (Reg.THERM_ZONE_STATUS z) 20 4

/-- R510: the state of a zone at a temperature. -/
def zoneStateAt (s : State) (z : Nat) (T : Int) : Nat :=
  if T < coldT s z then 0 else if T < warmT s z then 1 else if T < hotT s z then 2 else if T < critT s z then 3 else 4

/-- R510: the zone takes the state of its temperature; an entry to WARM, HOT or CRITICAL is told. -/
def zoneFollow (s : State) (z : Nat) : State :=
  match zoneTemp s z with
  | none => s
  | some T =>
    let old := s.f (Reg.THERM_ZONE_STATUS z) 16 3
    let new := zoneStateAt s z T
    let s := s.setF (Reg.THERM_ZONE_STATUS z) 16 3 new
    let d := [w32 z, w32 (T % 65536).toNat]
    if new = old then s
    else if new = 2 then s.raise .zoneWarm d
    else if new = 3 then s.raise .zoneHot d
    else if new = 4 then s.raise .zoneCritical d
    else s

/-- The thresholds that a write of one word of a zone would give pass R510. -/
def thresholdsOk (w0 w1 : Word) : Bool :=
  decide (-400 ≤ sfld w0 0 16 ∧ sfld w0 0 16 < sfld w0 16 16 ∧ sfld w0 16 16 < sfld w1 0 16 ∧ sfld w1 0 16 < sfld w1 16 16
    ∧ sfld w1 16 16 ≤ 1200)

/-- A write of ZONE_T0_z or ZONE_T1_z (R510). -/
def thresholdWrite (s : State) (z : Nat) (second : Bool) (v : Word) : State :=
  let a := if second then Reg.THERM_ZONE_T1 z else Reg.THERM_ZONE_T0 z
  let ok := if second then thresholdsOk (s.rd (Reg.THERM_ZONE_T0 z)) v else thresholdsOk v (s.rd (Reg.THERM_ZONE_T1 z))
  if ok then zoneFollow (s.wr a v) z else refuse s a

/-! ### Demand and level (R511 to R513, R515) -/

/-- A zone that has not been sampled. -/
def ZoneSt.fresh : ZoneSt := ⟨0, none, 0, 0, none⟩

/-- A zone beyond its register. -/
def zoneOf (s : State) (z : Nat) : ZoneSt := tabGet (fun _ => ZoneSt.fresh) s.therm.zones z

/-- The state with a zone's internal part. -/
def putZone (s : State) (z : Nat) (x : ZoneSt) : State :=
  { s with therm := { s.therm with zones := tabSet (fun _ => ZoneSt.fresh) s.therm.zones z x } }

/-- Milliseconds in ns. -/
def msNs : Nat := 1000000

/-- R511: the demand of a zone at temperature `T`, before the floors. -/
def demandAt (s : State) (z : Nat) (x : ZoneSt) (T : Int) : Nat :=
  let d := demand s z
  let step := s.f Reg.THERM_THERM_TIMING 0 16 * msNs
  let dwell := s.f Reg.THERM_THERM_TIMING 16 16 * msNs
  let cold := match x.coldSince with | some t => decide (t + dwell ≤ s.now) | none => false
  if 3 ≤ x.crit then 10
  else if hotT s z ≤ T ∧ x.changedAt + step ≤ s.now then min 10 (d + 1)
  else if warmT s z ≤ T then max d 1
  else if cold = true ∧ x.changedAt + dwell ≤ s.now then d - 1
  else d

/-- The sensor-loss floor in force (R512). -/
def lossFloor (s : State) (x : ZoneSt) : Nat :=
  match x.floor with | some (d, e) => if s.now < e then d else 0 | none => 0

/-- The zone's counts and times that follow its temperature. -/
def zoneTimes (s : State) (z : Nat) (T : Option Int) : ZoneSt :=
  let x := zoneOf s z
  match T with
  | none => { x with crit := 0, trip := 0, coldSince := none }
  | some T =>
    let below := decide (T < warmT s z - (s.f Reg.THERM_HYST 0 8 : Nat))
    { x with
      crit := if critT s z ≤ T then x.crit + 1 else 0
      trip := if 1250 ≤ T then x.trip + 1 else 0
      coldSince := if below then some (x.coldSince.getD s.now) else none }

/-- R511, R512: the demand of a sample. `lost`: a sensor of the zone became SUSPECT or FAILED in it. -/
def zoneDemand (s : State) (z : Nat) (T : Option Int) (lost : Bool) : State :=
  let x := zoneTimes s z T
  let ok := (okSensors s z).length
  let old := demand s z
  let base := match T with | some T => demandAt s z x T | none => fallbackLevel z
  let d := max (max base (lossFloor s x)) (if ok < 2 then fallbackLevel z else 0)
  let floor := if lost then some (max (lossFloor s x) (max old d), s.now + 1000000000) else x.floor
  let d := if lost then max d (max (lossFloor s x) old) else d
  let x := { x with floor := floor, changedAt := if d = old then x.changedAt else s.now }
  let s := (putZone s z x).setF (Reg.THERM_ZONE_STATUS z) 20 4 d
  let s := (s.setF (Reg.THERM_ZONE_STATUS z) 25 3 ok).setB (Reg.THERM_ZONE_STATUS z) 28 (match x.floor with | some (_, e) => decide (s.now < e) | none => false)
  let was := s.b (Reg.THERM_ZONE_STATUS z) 24
  let s := s.setB (Reg.THERM_ZONE_STATUS z) 24 (decide (ok < 2))
  if ok < 2 ∧ !was then s.raise .zoneFallback [w32 z, w32 ok] else s

/-- The greatest demand over the zones. -/
def maxDemand (s : State) : Nat := ((List.range 8).map (demand s)).foldl max 0

/-- R513, R515: the level follows the demands, and REDUCED_LEVEL in REDUCED. LEVEL.ZONE is free where no zone asks for L. -/
def levelFollow (s : State) : State :=
  let old := s.f Reg.THERM_LEVEL 0 4
  let L := if s.powerState = 1 then max (maxDemand s) (s.f Reg.THERM_REDUCED_LEVEL 0 4) else maxDemand s
  let p : Nat × State := match (List.range 8).find? fun z => decide (demand s z = L) with
    | some z => (z, s)
    | none => ((Config.freeWord s.freeCount).toNat % 8, s.useFree)
  let z := p.1
  let s := ((p.2.setF Reg.THERM_LEVEL 0 4 L).setF Reg.THERM_LEVEL 8 3 z).setB Reg.THERM_LEVEL 16
    ((List.range 8).any fun z => p.2.b (Reg.THERM_ZONE_STATUS z) 24)
  if L = old then s
  else
    let s := (s.inc Reg.THERM_LEVEL_CHANGES).raise .throttleLevel [w32 L, w32 z]
    if 7 ≤ L ∧ old < 7 then s.raise .rguThrottled [w32 L] else s

/-- One sample of a zone, up to the level (R504 to R513). -/
def sampleZone (s : State) (z : Nat) (counts : List Nat) : State :=
  let l := zoneSensors z
  let before_ := okSensors s z
  let was := l.map (sensorState s)
  let s := (List.range 6).foldl (fun s i => convert s (6 * z + i) (counts.getD i 0 % 65536)) s
  let ok := okSensors s z
  let s := l.foldl (checkSensor ok) s
  let lost := ((l.map (sensorState s)).zip was).any fun p => decide (p.1 ≠ 0 ∧ p.1 ≠ p.2)
  let s := l.foldl (formEff z) s
  let T := zoneTempOf s z
  let s := s.setF (Reg.THERM_ZONE_STATUS z) 0 16 (match T with | some T => (T % 65536).toNat | none => 0x8000)
  let s := levelFollow (zoneDemand (zoneFollow s z) z T lost)
  if 3 ≤ before_.length ∧ (okSensors s z).length < 3 then spareLow s 5 z else s

/-- LOSS_FLOOR_EXPIRY (R512): the floor ends after its second; the demand falls by R511 alone. -/
def execLossFloorExpiry (zone : Fin 8) (s : State) : Host.Outcome State Fault Refusal :=
  let x := zoneOf s zone.val
  .next (match x.floor with
    | some (_, e) =>
      if e ≤ s.now then
        (putZone s zone.val { x with floor := none }).setB (Reg.THERM_ZONE_STATUS zone.val) 28 false
      else s
    | none => s)

/-! ### The checks of a start of the fast clocks (R516, R517) -/

/-- A zone at or above its HOT_T (R516). -/
def zoneHot (s : State) (z : Nat) : Bool := match zoneTemp s z with | some T => decide (hotT s z ≤ T) | none => false

/-- A zone with an OK sensor below -40.0 °C (R517). -/
def zoneFrozen (s : State) (z : Nat) : Bool := (okSensors s z).any fun i => decide (sensorEff s i < -400)

/-- What defers a wake: the zone and the reason, 0 hot, 1 cold (R516, R517). -/
def wakeBar (s : State) : Option (Nat × Nat) :=
  match (List.range 8).find? (zoneHot s) with
  | some z => some (z, 0)
  | none => ((List.range 8).find? (zoneFrozen s)).map fun z => (z, 1)

end Sys2Proof.Machine
end

