-- ==== Sys2Proof/Machine/Time.lean ====
section
/-!
DEFINITION. The PTP domains, the reference input and the servo (R132 to R145). ACCEPT_JUMP, whose step reaches heads and
slots, is in Jump.lean. DEDUCED (log entry 20): a measured offset is handled unfiltered, as R137 words it.
-/
namespace Sys2Proof.Machine

/-! ### Domains in State -/

/-- Domain `d` beyond its registers. -/
def domOf (s : State) (d : Nat) : DomSt := if d = 0 then s.time.domA else s.time.domB

/-- The state with a domain's internal part. -/
def putDom (s : State) (d : Nat) (x : DomSt) : State :=
  if d = 0 then { s with time := { s.time with domA := x } } else { s with time := { s.time with domB := x } }

/-- DOM_CTRL.MODE: 0 OFF, 1 SLAVE, 2 MASTER, 3 PPS. -/
def domMode (s : State) (d : Nat) : Nat := s.f (Reg.TIME_DOM_CTRL d) 0 2

/-- DOM_STATE (R136). -/
def domState (s : State) (d : Nat) : Nat := s.rdN (Reg.TIME_DOM_STATE d)

/-- The serving domain. -/
def serving (s : State) : Nat := s.f Reg.TIME_TIME_STATUS 0 1

/-- JUMP_THRESHOLD. -/
def jumpThreshold (s : State) : Nat := s.rdN Reg.TIME_JUMP_THRESHOLD

/-- OFFSET_d, signed. -/
def domOffset (s : State) (d : Nat) : Int := s64 (s.rd64 (Reg.TIME_OFFSET_LO d) (Reg.TIME_OFFSET_HI d))

/-- PROPOSED_d, signed. -/
def proposed (s : State) (d : Nat) : Int := s64 (s.rd64 (Reg.TIME_PROPOSED_LO d) (Reg.TIME_PROPOSED_HI d))

/-- The state with EPOCH_OFFSET. -/
def setEpochOffset (s : State) (v : Int) : State := s.wr64 Reg.TIME_EPOCH_OFFSET_LO Reg.TIME_EPOCH_OFFSET_HI (u64 v)

/-- The event of entering a state, if it has one (R158). -/
def domEvent (st : Nat) : Option Ev :=
  if st = 3 then some .domainLocked else if st = 4 then some .domainHoldover else if st = 5 then some .domainSuspect else none

/-- A domain enters another state: its counts restart, and HOLDOVER and SUSPECT are timed (R136, R145). -/
def enterDom (s : State) (d st : Nat) : State :=
  if domState s d = st then s
  else
    let x := domOf s d
    let away := if st = 4 ∨ st = 5 then some (x.awaySince.getD s.now) else none
    let s := putDom s d { x with good := 0, calm := 0, awaySince := away, reached := x.reached || decide (st = 3) }
    let s := s.wr (Reg.TIME_DOM_STATE d) (w32 st)
    match domEvent st with | some e => s.raise e [w32 d] | none => s

/-! ### Corrections (R139, R140) -/

/-- A correction beyond JUMP_THRESHOLD is refused and the domain becomes SUSPECT (R139). -/
def refuseJump (s : State) (d : Nat) (c : Int) : State :=
  let s := (s.wr64 (Reg.TIME_PROPOSED_LO d) (Reg.TIME_PROPOSED_HI d) (u64 c)).inc (Reg.TIME_REFUSED_COUNT d)
  enterDom (s.raise .jumpRefused [w32 d, w32 (u64 c), w32 (u64 c / 2 ^ 32)]) d 5

/-- The handling of a correction of a domain that serves and may correct (R139, R140); none in the pause of a swap (R553). -/
def correct (s : State) (d : Nat) (c : Int) : State :=
  if mgmtPaused s then s
  else if jumpThreshold s < c.natAbs then refuseJump s d c
  else if slewing s.time then s
  else startSlew s c false

/-! ### Measurements (R132, R135 to R137) -/

/-- freq_ppb of the servo, saturated (R128). INCR follows. -/
def setFreq (s : State) (f : Int) : State :=
  showSlew { s with time := { s.time with freqPpb := if f < -100000 then -100000 else if 100000 < f then 100000 else f } }

/-- The serving domain reaches LOCKED for the first time: the measured offset `raw` goes into EPOCH_OFFSET (R132). -/
def firstLock (s : State) (d : Nat) (raw : Int) : State :=
  let s := setEpochOffset s (s.epochOffset + raw)
  let s := s.wr64 (Reg.TIME_OFFSET_LO d) (Reg.TIME_OFFSET_HI d) 0
  enterDom { s with time := { s.time with epochSet := true } } d 3

/-- A domain has what it needs to apply corrections (R137): path delay and frequency; an edge has no path delay. -/
def domReady (s : State) (d : Nat) : Bool := domMode s d = 3 || ((domOf s d).hasDelay && (domOf s d).hasFreq)

/-- A measured offset `raw`, less the base `c`, of a domain in UNCALIBRATED, LOCKED or SUSPECT (R136, R137). -/
def judge (s : State) (d : Nat) (raw c : Int) : State :=
  let x := domOf s d
  if domState s d = 5 then
    if jumpThreshold s < c.natAbs then putDom s d { x with calm := 0 }
    else if 15 ≤ x.calm then enterDom s d 2
    else putDom s d { x with calm := x.calm + 1 }
  else if jumpThreshold s < c.natAbs then refuseJump s d c
  else
    let ok := decide (c.natAbs ≤ s.rdN (Reg.TIME_LOCK_THRESHOLD d))
    let s := putDom s d { x with good := if ok then x.good + 1 else 0 }
    if domState s d = 2 && ok && decide (16 ≤ x.good + 1) && domReady s d then
      if serving s = d ∧ !s.time.epochSet then firstLock s d raw
      else
        let s := enterDom s d 3
        if serving s = d then correct s d c else s
    else if serving s = d && domReady s d then correct s d c
    else s

/-- A Sync message or an edge with measured offset `raw` and, for a Sync, the frequency (R132, R136, R137, R143). A correction that is
refused leaves device time at the last freq_ppb (R139). -/
def measure (s : State) (d : Nat) (raw : Int) (freq : Option Int) : State :=
  let s := if domState s d = 4 then enterDom s d 2 else s
  let x := domOf s d
  let x := if s.time.epochSet then x else { x with base := some (x.base.getD raw) }
  let s := putDom s d { x with hasFreq := x.hasFreq || freq.isSome }
  let c := if s.time.epochSet then raw else raw - x.base.getD raw
  let s := s.wr64 (Reg.TIME_OFFSET_LO d) (Reg.TIME_OFFSET_HI d) (u64 c)
  let s := match freq with
    | some f =>
      let s := s.wr (Reg.TIME_FREQ_PPB d) (wInt f)
      if serving s = d ∧ (domState s d = 2 ∨ domState s d = 3) ∧ mgmtPaused s = false ∧ c.natAbs ≤ jumpThreshold s then setFreq s f
      else s
    | none => s
  judge s d raw c

/-- Another grandmaster than GM_ID (R137): the domain measures anew in UNCALIBRATED. -/
def newGm (s : State) (d : Nat) (gm : BitVec 64) : State :=
  let x := domOf s d
  let s := putDom s d { x with good := 0, calm := 0, hasDelay := false, hasFreq := false, hasGm := true }
  let s := s.wr64 (Reg.TIME_GM_ID_LO d) (Reg.TIME_GM_ID_HI d) gm.toNat
  (enterDom s d 2).raise .gmChanged [w32 d, w32 gm.toNat, w32 (gm.toNat / 2 ^ 32)]

/-- A grandmaster is heard (R136, R137): an Announce takes LISTENING to UNCALIBRATED, and another grandmaster than before raises
GM_CHANGED. -/
def hearGm (s : State) (d : Nat) (gm : BitVec 64) (announce : Bool) : State :=
  let x := domOf s d
  let same := decide (s.rd64 (Reg.TIME_GM_ID_LO d) (Reg.TIME_GM_ID_HI d) = gm.toNat)
  if domState s d = 1 then
    if !announce then s
    else if x.hasGm && !same then newGm (putDom s d { x with base := none }) d gm
    else
      enterDom ((putDom s d { x with hasGm := true, base := none }).wr64 (Reg.TIME_GM_ID_LO d) (Reg.TIME_GM_ID_HI d) gm.toNat) d 2
  else if same then s else newGm s d gm

/-- The module is on and the domain runs as a SLAVE. -/
def slaveOn (s : State) (d : Nat) : Bool := s.on && decide (domMode s d = 1) && decide (domState s d ≠ 0)

/-- SYNC_RECEIVED (R137): `tai` is the domain's TAI at the message, path delay included. In LISTENING a domain waits for
Announce. -/
def execSyncReceived (d : Fin 2) (gm : BitVec 64) (tai : Int) (freq : Option Int) (s : State) :
    Host.Outcome State Fault Refusal :=
  .next (if slaveOn s d then
      let s := hearGm s d gm false
      if 2 ≤ domState s d then measure s d (tai - ((s.now : Int) + s.epochOffset)) freq else s
    else s)

/-- ANNOUNCE_RECEIVED (R137). -/
def execAnnounceReceived (d : Fin 2) (gm : BitVec 64) (s : State) : Host.Outcome State Fault Refusal :=
  .next (if slaveOn s d then hearGm s d gm true else s)

/-- DELAY_RESP_RECEIVED (R136): the mean path delay of a SLAVE domain that has a grandmaster. -/
def execDelayRespReceived (d : Fin 2) (delay : Word) (s : State) : Host.Outcome State Fault Refusal :=
  .next (if slaveOn s d && decide (2 ≤ domState s d) then
      putDom (s.wr (Reg.TIME_PATH_DELAY d) delay) d { domOf s d with hasDelay := true }
    else s)

/-- ANNOUNCE_TIMEOUT (R136): only a LOCKED domain enters HOLDOVER. -/
def execAnnounceTimeout (d : Fin 2) (s : State) : Host.Outcome State Fault Refusal :=
  .next (if s.on && decide (domState s d = 3) then enterDom s d 4 else s)

/-! ### Messages sent (R135) -/

/-- The port that a domain uses is up. -/
def domPortUp (s : State) (d : Nat) : Bool := s.b (Reg.NET_LINK_STATUS (s.f (Reg.TIME_DOM_CTRL d) 6 1)) 0

/-- The messages a domain sends in its state: a MASTER the Sync, Follow_Up and Announce, a SLAVE with a grandmaster the
Delay_Req. Delay_Resp is only sent in answer. -/
def domSends (s : State) (d : Nat) (m : PtpMsg) : Bool :=
  match m with
  | .sync => decide (domState s d = 6)
  | .followUp => decide (domState s d = 6)
  | .announce => decide (domState s d = 6)
  | .delayReq => decide (domMode s d = 1 ∧ 2 ≤ domState s d)
  | .delayResp => false

/-- The frame of a message (R133, R135): its fields from DOM_CTRL, DOM_INTERVALS and, in an Announce, DOM_MASTER. -/
def ptpFrame (s : State) (d : Nat) (m : PtpMsg) : PtpFrame :=
  let c := Reg.TIME_DOM_CTRL d
  let i := s.rd (Reg.TIME_DOM_INTERVALS d)
  let x := Reg.TIME_DOM_MASTER d
  { port := s.f c 6 1, transport := s.f c 4 2, smpte := s.b c 2, domainNumber := s.f c 8 8,
    vlan := if s.b c 28 then some (s.f c 16 12) else none,
    interval := match m with
      | .announce => sfld i 16 8
      | .delayReq => sfld i 8 8
      | .delayResp => sfld i 8 8
      | .sync => sfld i 0 8
      | .followUp => sfld i 0 8,
    announce := match m with | .announce => some (s.f x 0 8, s.f x 8 8, s.f x 16 8) | _ => none }

/-- A message with the domain's time: device time + EPOCH_OFFSET (R135). -/
def ptpSend (s : State) (d : Nat) (m : PtpMsg) : State :=
  s.emit (.ptp d m ((s.now : Int) + s.epochOffset) (ptpFrame s d m))

/-- PTP_MESSAGE_SEND (R135). -/
def execPtpMessageSend (d : Fin 2) (msg : PtpMsg) (s : State) : Host.Outcome State Fault Refusal :=
  .next (if s.on && domSends s d msg && domPortUp s d then ptpSend s d msg else s)

/-- DELAY_REQ_RECEIVED (R135): a MASTER whose port is up answers. -/
def execDelayReqReceived (d : Fin 2) (s : State) : Host.Outcome State Fault Refusal :=
  .next (if s.on && decide (domState s d = 6) && domPortUp s d then ptpSend s d .delayResp else s)

/-! ### 1PPS (R135) -/

/-- The measured offset of an edge: from device time + EPOCH_OFFSET to the nearest whole second, −500,000,000 to
+499,999,999 ns (R132, R135). -/
def edgeOffset (local_ : Int) : Int :=
  let r := local_ % 1000000000
  if r ≤ 500000000 then -r else 1000000000 - r

/-- PPS_EDGE (R135): an edge that lies within 1 µs of the expected second sets PPS_OK once the domain has reached LOCKED.
The frequency that the servo takes from edges is a free value (log entry 21). -/
def execPpsEdge (s : State) : Host.Outcome State Fault Refusal :=
  .next (if s.on && decide (domMode s 0 = 3) && decide (domState s 0 ≠ 0) then
      let raw := edgeOffset ((s.now : Int) + s.epochOffset)
      let s := if (domOf s 0).reached && decide (raw.natAbs ≤ 1000) then s.setB Reg.TIME_TIME_STATUS 5 true else s
      let s := if domState s 0 = 1 then enterDom (putDom s 0 { domOf s 0 with base := none }) 0 2 else s
      measure s.useFree 0 raw (some (Config.freeWord s.freeCount).toInt)
    else s)

/-- PPS_LOST (R135). -/
def execPpsLost (s : State) : Host.Outcome State Fault Refusal :=
  .next (if s.on && decide (domMode s 0 = 3) && s.b Reg.TIME_TIME_STATUS 5 then
      ((s.setB Reg.TIME_TIME_STATUS 5 false).tell .pps).raise .ppsLost []
    else s)

/-! ### Registers of TIME -/

/-- REF_OK: with REF_SEL 1 the source is the input; otherwise the input is present and within range (R133, R134). -/
def showRef (s : State) : State :=
  s.setB Reg.TIME_TIME_STATUS 4 (if s.b Reg.TIME_TIME_CTRL 0 then s.time.refExt else s.time.refGood)

/-- A write of TIME_CTRL: REF_SEL (R134) and AUTO_SWITCH (R145). -/
def timeCtrl (s : State) (v : Word) : State :=
  let was := s.b Reg.TIME_TIME_CTRL 0
  let s := s.wr Reg.TIME_TIME_CTRL (v &&& 0xF)
  let s := if bit v 1 then putDom (putDom s 0 { domOf s 0 with barred := false }) 1 { domOf s 1 with barred := false } else s
  let t := s.time
  let t := if !bit v 0 then { t with refExt := false, refMoved := false }
    else { t with refExt := t.refExt || t.refGood, refMoved := (was && t.refMoved) || t.refGood }
  showRef { s with time := t }

/-- REF_SEL_WRITE (R134). -/
def execRefSelWrite (req : Requester) (value : Word) (s : State) : Host.Outcome State Fault Refusal :=
  .next (gated s req Reg.TIME_TIME_CTRL none fun s => timeCtrl s value)

/-- AUTO_SWITCH_WRITE (R145). -/
def execAutoSwitchWrite (req : Requester) (value : Word) (s : State) : Host.Outcome State Fault Refusal :=
  .next (gated s req Reg.TIME_TIME_CTRL none fun s => timeCtrl s value)

/-- REF_INPUT_QUALIFIED (R134): the first move after REF_SEL was set raises no event. -/
def execRefInputQualified (s : State) : Host.Outcome State Fault Refusal :=
  .next (if !s.on then s
    else if s.b Reg.TIME_TIME_CTRL 0 && !s.time.refExt then
      let again := s.time.refMoved
      let s := showRef { s with time := { s.time with refGood := true, refExt := true, refMoved := true } }
      if again then s.raise .refRestored [] else s
    else showRef { s with time := { s.time with refGood := true } })

/-- REF_LOST (R134). -/
def execRefLost (s : State) : Host.Outcome State Fault Refusal :=
  .next (if !s.on then s
    else
      let was := s.time.refExt
      let s := showRef { s with time := { s.time with refGood := false, refExt := false } }
      if was then s.raise .refLost [] else s)

/-- The whole number of seconds nearest to a difference, half away from zero (R132). -/
def nearestSeconds (d : Int) : Int :=
  let n : Int := (d.natAbs + 500000000) / 1000000000
  if d < 0 then -n else n

/-- A write of EPOCH_OFFSET (R132). -/
def epochOffsetWrite (s : State) (v : BitVec 64) : State :=
  let m := domMode s (serving s)
  if m = 0 then setEpochOffset s v.toInt
  else if m = 3 then setEpochOffset s (s.epochOffset + nearestSeconds (v.toInt - s.epochOffset) * 1000000000)
  else refuse s Reg.TIME_EPOCH_OFFSET_LO

/-- EPOCH_OFFSET_WRITE (R132). -/
def execEpochOffsetWrite (req : Requester) (value : BitVec 64) (s : State) : Host.Outcome State Fault Refusal :=
  .next (gated s req Reg.TIME_EPOCH_OFFSET_LO none fun s => epochOffsetWrite s value)

/-- Fields of DOM_CTRL. -/
def domCtrlMask : Word := 0x1FFFFF77

/-- A write of DOM_CTRL (R134). DESIGN CHOICE (log entry 19): on a domain that is not DISABLED a write of MODE 0 is acted on whatever its
TRANSPORT field holds, since it changes only MODE. -/
def domCtrlWrite (s : State) (d : Nat) (v : Word) : State :=
  let m := fld v 0 2
  let a := Reg.TIME_DOM_CTRL d
  if domState s d ≠ 0 then
    if m ≠ 0 then refuse s a
    else
      let s := putDom (s.setF a 0 2 0) d { DomSt.reset with barred := (domOf s d).barred }
      let s := if d = 0 then s.setB Reg.TIME_TIME_STATUS 5 false else s
      s.wr (Reg.TIME_DOM_STATE d) 0
  else if (m = 3 ∧ d = 1) ∨ fld v 4 2 = 3 then refuse s a
  else
    let s := s.wr a (v &&& domCtrlMask)
    if m = 0 then s else enterDom s d (if m = 2 then 6 else 1)

/-- DOM_CTRL_WRITE (R134). -/
def execDomCtrlWrite (req : Requester) (d : Fin 2) (value : Word) (s : State) : Host.Outcome State Fault Refusal :=
  .next (gated s req (Reg.TIME_DOM_CTRL d) (if d = 1 then some 6 else none) fun s => domCtrlWrite s d value)

/-! ### Slews and switches -/

/-- SLEW_END (R140): the tick that finds the rest smaller than a step. -/
def execSlewEnd (s : State) : Host.Outcome State Fault Refusal :=
  .next (if slewing s.time && decide (s.time.slewRem.natAbs < s.time.slewStep.natAbs) then tick s else s)

/-- R144: a domain may be switched to. -/
def canSwitch (s : State) (d : Nat) : Bool :=
  decide (serving s ≠ d ∧ domState s d = 3 ∧ (domOffset s d).natAbs ≤ jumpThreshold s) && !slewing s.time

/-- The switch of R144 to domain `d`. -/
def switchTo (s : State) (d : Nat) : State :=
  let c := domOffset s d
  let s := putDom (putDom s 0 { domOf s 0 with barred := false }) 1 { domOf s 1 with barred := false }
  let old := domState s (serving s)
  let s := s.setF Reg.TIME_TIME_STATUS 0 1 d
  let s := (correct s d c).raise .domainSwitched [w32 d, w32 (u64 c), w32 (u64 c / 2 ^ 32)]
  if old = 3 then s else spareLow s 3 0

/-- A write of DOMAIN_SWITCH (R144). -/
def domainSwitch (s : State) (v : Word) : State :=
  if !bit v 31 then s
  else if canSwitch s (fld v 0 1) then switchTo s (fld v 0 1)
  else refuse s Reg.TIME_DOMAIN_SWITCH

/-- DOMAIN_SWITCH (R144). -/
def execDomainSwitch (req : Requester) (value : Word) (s : State) : Host.Outcome State Fault Refusal :=
  .next (gated s req Reg.TIME_DOMAIN_SWITCH none fun s => domainSwitch s value)

/-- AUTO_DOMAIN_SWITCH (R145): the domain that is left is barred from automatic switches. -/
def execAutoDomainSwitch (s : State) : Host.Outcome State Fault Refusal :=
  let d := serving s
  let o := 1 - d
  let due := match (domOf s d).awaySince with | some t => decide (t + 2000000000 ≤ s.now) | none => false
  .next (if s.on && s.b Reg.TIME_TIME_CTRL 1 && due && canSwitch s o && !(domOf s o).barred then
      let s := switchTo s o
      putDom s d { domOf s d with barred := true }
    else s)

/-- Entry to STANDBY (R138): the serving domain goes on with STBY_PTP, otherwise it enters HOLDOVER; the other one listens,
whatever its MODE. A domain in MASTER enters HOLDOVER as well. -/
def standbyTime (s : State) : State :=
  if s.b Reg.TIME_TIME_CTRL 2 then
    let o := 1 - serving s
    if domState s o ≠ 0 then enterDom (putDom s o { domOf s o with base := none }) o 1 else s
  else
    let d := serving s
    if domState s d ≠ 0 then enterDom s d 4 else s

end Sys2Proof.Machine
end

