-- ==== Sys2Proof/Machine/Power.lean ====
section
/-!
DEFINITION. Power states and their transitions (R516 to R524): entry to STANDBY, wake, trip, and the thermal sample that can
start them.
-/
namespace Sys2Proof.Machine

/-- The state with POWER_STATUS.STATE and TRANSITION. -/
def setPower (s : State) (st tr : Nat) : State :=
  (s.setF Reg.THERM_POWER_STATUS 0 2 st).setF Reg.THERM_POWER_STATUS 4 2 tr

/-- R520 step 1: every frame in assembly is closed under R183. -/
def closeFrames (s : State) : State :=
  (List.range 16).foldl (fun s n => (storeOf s n).asm.foldl (fun s g =>
    match findAsm (storeOf s n) g.num with
    | some f => if f.closed then s else closeAsm s n f
    | none => s) s) s

/-- R520 step 2 (R154): every armed slot other than GPIO_EDGE and WAKE ends ABORTED. -/
def abortSlots (s : State) : State :=
  (armedSlots s).foldl (fun s i => if slotAction s i = 5 ∨ slotAction s i = 7 then s else slotAborted s i) s

/-- R520 step 3: tiles leave the lanes unwritten, and running jobs stop with ABORTED. -/
def suspendEngines (s : State) : State :=
  let s := unlane s fun _ => false
  (List.range 8).foldl (fun s e => match (engOf s e).run with | some r => stopJob s e r 0x02 | none => s) s

/-- Entry to STANDBY begins (R520 steps 1 to 3). -/
def startStandby (s : State) : State :=
  let s := closeFrames s
  let s := s.setF Reg.THERM_POWER_STATUS 4 2 1
  let s := abortSlots s
  let s := (List.range 8).foldl (fun s p => if enabled s (sapBase p) then portDisable s p true else s) s
  suspendEngines s

/-- R520 step 4: a head's generator stops at the end of its last line; with ENABLE = 1 it reads STARTING. -/
def parkHead (s : State) (h : Fin 4) : State :=
  let st := headState s h
  if st = 0 ∨ (st = 4 ∧ !(headOf s h).run) then s
  else
    let s := headStop (if (headOf s h).run then endField s h (nextFieldStart s h) else s) h
    if enabled s (headBase h) then setHeadState s h 1 else s

/-- R520 step 5: the panel goes down, its sequence run to the end. Without the channel the command does not reach the keeper, which
holds its rails (R17, R408). -/
def parkPanel (s : State) : State :=
  if !chanUp s then s else
  let s := dropReq s
  let k := kState s
  let s := if k = 2 ∨ k = 3 ∨ k = 4 then panelDown s 0 else s
  downAll 17 (if k = 3 then stepEnd s else s)

/-- A wake starts (R516, R517, R522): what defers it is told once. -/
def beginWake (s : State) (cause : Nat) (reduced : Bool) : State :=
  let s := (s.setF Reg.THERM_POWER_STATUS 6 3 cause).setF Reg.THERM_POWER_STATUS 4 2 2
  let s := { s with therm := { s.therm with held := none, reduced := reduced, deferred := (wakeBar s).isSome } }
  match wakeBar s with
  | some (z, k) => s.raise .wakeDeferred [w32 z, w32 (s.f (Reg.THERM_ZONE_STATUS z) 0 16), w32 k]
  | none => s

/-- A wake cause (R522, R524): held during entry, and without effect outside STANDBY. -/
def wakeCause (s : State) (cause : Nat) : State :=
  if s.transition = 1 then
    (if s.therm.held.isSome then s else { s with therm := { s.therm with held := some cause } })
  else if s.powerState = 2 ∧ s.transition = 0 then beginWake s cause false
  else s

/-- The memory is in self-refresh (R520). -/
def standbyMem (s : State) : State := { s with mem := { s.mem with exiting := false, openRow := [] } }

/-- The fast clocks stop (R517, R520). -/
def stopFast (s : State) : State := { s with power := { s.power with fastClk := false } }

/-- R520 steps 4 to 7: STANDBY is reached, each port's link down but for PTP (R162); a held wake begins at once (R524). -/
def reachStandby (s : State) : State :=
  let s := (List.finRange 4).foldl parkHead s
  let s := (List.range 8).foldl (fun s p => if (portOf s p).halted then s else portHalt s p) s
  let s := parkPanel s
  let s := (List.range 4).foldl (fun s h => showLanes (laneList.foldl (fun s n => laneOff s h n) s) h) s
  let s := (List.finRange 2).foldl (fun s (p : Fin 2) => if standbyPort s p.val then s else linkDown s p) s
  let s := standbyMem (setSleep s 2)
  let s := (standbyTime s).setB Reg.TIME_TIME_STATUS 3 true
  let s := stopFast (showSlew s)
  let s := (showRefOut s (setPower s 2 0)).raise .powerStateChanged [2, w32 (s.f Reg.THERM_POWER_STATUS 6 3)]
  s.therm.held.elim s fun c => beginWake s c s.therm.reduced

/-- Every head has sent its field in progress to the last line (R520 step 4). -/
def fieldsEnded (s : State) : Bool :=
  (List.finRange 4).all fun h => !(headOf s h).sending || decide (nextFieldStart s h ≤ (s.now : Int))

/-- STANDBY_REACHED (R520). -/
def execStandbyReached (s : State) : Host.Outcome State Fault Refusal :=
  .next (if s.transition = 1 ∧ fieldsEnded s = true then reachStandby s else s)

/-- The module trips (R516): STANDBY is entered at once. A trip during a wake abandons it, and entry runs from the step it had
reached; the wake stays wanted (R524). -/
def trip (s : State) (z : Nat) : State :=
  let s := (s.inc Reg.THERM_TRIPS).raise .thermalTrip [w32 z, w32 (s.f (Reg.THERM_ZONE_STATUS z) 0 16)]
  if s.transition = 1 ∨ (s.powerState = 2 ∧ s.transition = 0) then s
  else if s.transition = 2 then
    let s := { s with therm := { s.therm with held := some (s.f Reg.THERM_POWER_STATUS 6 3) } }
    s.setF Reg.THERM_POWER_STATUS 4 2 1
  else if s.keeper.waking then
    startStandby { s with therm := { s.therm with held := some (s.f Reg.THERM_POWER_STATUS 6 3), reduced := decide (s.powerState = 1) } }
  else startStandby { s with therm := { s.therm with reduced := false } }

/-- A wake that waits for its zones is told of a new bar once (R516, R517). -/
def watchWake (s : State) : State :=
  if s.transition = 2 ∧ s.powerState = 2 ∧ !s.therm.deferred then
    match wakeBar s with
    | some (z, k) =>
      ({ s with therm := { s.therm with deferred := true } }).raise .wakeDeferred
        [w32 z, w32 (s.f (Reg.THERM_ZONE_STATUS z) 0 16), w32 k]
    | none => s
  else s

/-- SENSOR_SAMPLE (R504 to R517): a zone's six counts. -/
def execSensorSample (zone : Fin 8) (counts : List Nat) (s : State) : Host.Outcome State Fault Refusal :=
  .next (
    if !s.on then s
    else
      let s := sampleZone s zone.val counts
      let s := if (zoneOf s zone.val).trip = 3 then trip s zone.val else s
      watchWake s)

/-! ### POWER_CMD (R519) -/

/-- A write of POWER_CMD with its gate. -/
def powerGate (s : State) (r : Requester) (g : State → State) : State :=
  gatedIf s r Reg.THERM_POWER_CMD none (fun s => decide (s.transition = 0)) g

/-- POWER_CMD ACTIVE (R519). -/
def powerActive (s : State) : State :=
  if s.powerState = 2 then beginWake s 2 false else s.setF Reg.THERM_POWER_STATUS 0 2 0

/-- POWER_CMD REDUCED (R519). -/
def powerReduced (s : State) : State :=
  if s.powerState = 2 then beginWake s 2 true else s.setF Reg.THERM_POWER_STATUS 0 2 1

/-- POWER_CMD STANDBY (R519). -/
def powerStandby (s : State) : State :=
  if s.powerState = 2 then s else startStandby { s with therm := { s.therm with reduced := false } }

/-- A write of POWER_CMD (R519): any other request is refused. -/
def powerCommand (s : State) (v : Word) : State :=
  if s.transition ≠ 0 then refuse s Reg.THERM_POWER_CMD
  else
    let op := fld v 0 2
    if op = 1 then powerActive s else if op = 2 then powerReduced s else if op = 3 then powerStandby s
    else refuse s Reg.THERM_POWER_CMD

/-- POWER_CMD_ACTIVE (R519). -/
def execPowerCmdActive (req : Requester) (s : State) : Host.Outcome State Fault Refusal := .next (powerGate s req powerActive)

/-- POWER_CMD_REDUCED (R519). -/
def execPowerCmdReduced (req : Requester) (s : State) : Host.Outcome State Fault Refusal := .next (powerGate s req powerReduced)

/-- POWER_CMD_STANDBY (R519, R520). -/
def execPowerCmdStandby (req : Requester) (s : State) : Host.Outcome State Fault Refusal := .next (powerGate s req powerStandby)

/-! ### Wake (R522, R523) -/

/-- WAKE_GPIO_EDGE (R522): an edge of the set polarity on a named GPIO that is an input. -/
def execWakeGpioEdge (g : Fin 8) (rising : Bool) (s : State) : Host.Outcome State Fault Refusal :=
  .next (
    if s.on && s.b Reg.THERM_WAKE_CTRL g.val && (rising != s.b Reg.THERM_WAKE_CTRL 8) && !s.b Reg.TIME_AUX_CTRL g.val then
      wakeCause s 4
    else s)

/-- R473, R523: the stacks leave self-refresh; PCs whose temperature, read now, has moved are trained. -/
def wakeMemory (s : State) (t0 t1 : Int) : State :=
  let s := putTemp (putTemp s 0 t0) 1 t1
  let s := setSleep { s with mem := { s.mem with exiting := false, idleSince := s.now } } 0
  let l := (List.range 64).filter fun p => pcState s p ≤ 5 && migMeets s p .temperature
  let s := l.foldl markTrained s
  if l.isEmpty then s
  else s.raise .memReady [s.rd Reg.MEM4_USABLE_TOP_LO, s.rd Reg.MEM4_USABLE_TOP_HI]

/-- R523: a head with ENABLE = 1 rejoins its schedule, as STARTING. -/
def rejoin (s : State) (h : Fin 4) : State :=
  if enabled s (headBase h) then
    let s := setHeadState s h 1
    let s := if roleCode s (headBase h) = 1 then joinSchedule s h
      else putHead s h { headOf s h with cur := { FieldSt.none_ with cfg := snapshot s h, num := s.rd (Reg.HEAD_FIELD h) } }
    headFollows (linkEnable s h) h
  else if s.b (Reg.ZL_LINK_CFG h) 4 ∧ enabled s (zlBase h) then lanesWake s h
  else s

/-- At wake a domain in MASTER mode sends again, and reads MASTER (R136). DESIGN CHOICE (log entry 19): also one that R138 put into
HOLDOVER. -/
def wakeTime (s : State) : State :=
  [0, 1].foldl (fun s d => if domMode s d = 2 ∧ (domState s d = 1 ∨ domState s d = 4) then enterDom s d 6 else s) s

/-- The management core starts the panel for a wake, which lasts until its first produced field (R523). -/
def wakePanel (s : State) : State :=
  if kOn s ∧ chanUp s then
    let s := panelOn s
    { s with keeper := { s.keeper with waking := decide (kState s = 2) } }
  else s

/-- WAKE_CLOCKS_READY (R517, R523): the fast clocks start unless a zone bars it, and the blocks resume. -/
def execWakeClocksReady (temp0 temp1 : Int) (s : State) : Host.Outcome State Fault Refusal :=
  .next (
    if s.transition ≠ 2 ∨ s.powerState ≠ 2 then s
    else if (wakeBar s).isSome then watchWake s
    else
      let s := { s with power := { s.power with fastClk := true } }
      let s := showSlew (s.setB Reg.TIME_TIME_STATUS 3 false)
      let s := showRefOut s (setPower s (b2n s.therm.reduced) 0)
      let s := wakeMemory (wakeTime s) temp0 temp1
      let s := dispatch s
      wakePanel ((List.finRange 4).foldl rejoin s))

end Sys2Proof.Machine
end

