-- ==== Sys2Proof/Machine/Actions.lean ====
section
/-!
DEFINITION. The execution of armed slots (R149, R151, R152, R154).
-/
namespace Sys2Proof.Machine

/-- The slot armed with its target passed (R151). -/
def slotLate (s : State) (i : Nat) : Bool := s.sched.late.contains i

/-- An armed slot may execute now (R151, R152, R154): no earlier than its target, also when its target had passed within the 200 ns
of R151. -/
def slotReady (s : State) (i : Nat) : Bool :=
  s.on && decide (slotState s i = 1 ∧ slotTime s i ≤ s.now) &&
  (decide (s.powerState ≠ 2) || decide (slotAction s i = 5 ∨ slotAction s i = 7))

/-- The slot comes before another in the order of R152: ascending target, then ascending slot number. -/
def slotBefore (s : State) (j i : Nat) : Bool :=
  decide (slotTime s j < slotTime s i ∨ (slotTime s j = slotTime s i ∧ j < i))

/-- The slot is the next one to execute, and its action is `action` (R152). -/
def slotDue (s : State) (i action : Nat) : Bool :=
  slotReady s i && decide (slotAction s i = action) &&
  !(armedSlots s).any fun j => slotReady s j && slotBefore s j i

/-- The time after its target by which a slot is to execute: 100 ns (R152), 1 µs in STANDBY (R154). -/
def slotWindow (s : State) : Nat := if s.powerState = 2 then 1000 else 100

/-- The slot has been pushed beyond its window (R152, R154). -/
def slotOver (s : State) (i : Nat) : Bool := !slotLate s i && decide (slotTime s i + slotWindow s < s.now)

/-- SCHED_OVERRUN, whatever the slot's outcome (R152). -/
def overrun (s : State) (i : Nat) : State := if slotOver s i then s.raise .schedOverrun [w32 i] else s

/-- The outcome of an executed slot: DONE, or DONE_LATE with its lateness (R151, R152). `late` and `over` as they were
when it began. -/
def slotDone (s : State) (i : Nat) (late above : Bool) : State :=
  let lateness := s.now - slotTime s i
  let s := slotEnd s i (if late || above then 1 else 0)
  if late || above then s.raise .schedDoneLate [w32 i, w32 lateness] else s

/-- An action without a role epoch: `g` acts, or tells that its target is not configured for it. -/
def runSlot (s : State) (i action : Nat) (g : State → State × Bool) : State :=
  if slotDue s i action then
    let late := slotLate s i
    let above := slotOver s i
    let p := g (overrun s i)
    if p.2 then slotDone p.1 i late above else slotEnd p.1 i 0x0C
  else s

/-- An action on a head: its epoch is compared first (R152). -/
def runHeadSlot (s : State) (i action : Nat) (g : State → Fin 4 → State) : State :=
  if slotDue s i action then
    let h : Fin 4 := ⟨slotTarget s i % 4, Nat.mod_lt _ (by decide)⟩
    let late := slotLate s i
    let above := slotOver s i
    let s := overrun s i
    let e := roleEpoch s (headBase h)
    if slotEpoch s i = e then slotDone (g s h) i late above
    else
      let w := slotEpoch s i
      (staleCount (slotEnd s i 0x04) (headBase h)).raise .schedStale [w32 i, w32 w, w32 e]
  else s

/-- HEAD_COMMIT (R149). -/
def execHeadCommit (slot : Fin 256) (s : State) : Host.Outcome State Fault Refusal :=
  .next (runHeadSlot s slot.val 2 commitGo)

/-- A TEST_START on a head (R315, R316, R329, R397). -/
def testStart (id : Nat) (s : State) (h : Fin 4) : State :=
  if 0x80 ≤ id then prbsTest s h id
  else
    let t := headOf s h
    putHead s h { t with restart := t.restart || decide (id % 2 = 1), trigger := t.trigger || decide (id / 2 % 2 = 1) }

/-- TEST_START (R316). -/
def execTestStart (slot : Fin 256) (s : State) : Host.Outcome State Fault Refusal :=
  .next (runHeadSlot s slot.val 6 (testStart (slotPayload s slot.val).toNat))

/-- TXN_APPLY (R122, R149): the first application point of the slot's transaction. -/
def execTxnApply (slot : Fin 256) (s : State) : Host.Outcome State Fault Refusal :=
  let i := slot.val
  let t := fld (slotPayload s i) 0 2
  let late := slotLate s i || slotOver s i
  .next (runSlot s i 1 fun s => txnBegin (putTxn s t { txnOf s t with late := late }) t true)

/-- AUDIO_START (R496). -/
def execAudioStart (slot : Fin 256) (s : State) : Host.Outcome State Fault Refusal :=
  let i := slot.val
  let anchor := (if slotLate s i then s.now else slotTime s i) + 2000
  .next (runSlot s i 3 fun s => (startGroup s (slotTarget s i) anchor, true))

/-- OPTIC_BATCH (R446, R149): a refused START ends the slot INVALID_CONFIG. -/
def execOpticBatch (slot : Fin 256) (s : State) : Host.Outcome State Fault Refusal :=
  let i := slot.val
  let id := fld (slotPayload s i) 0 8
  .next (runSlot s i 4 fun s =>
    let p := startBatch s id
    match p.2 with
    | none => (p.1, true)
    | some why => (batchRefuse p.1 id why, false))

/-- GPIO_EDGE (R149, R592). -/
def execGpioEdge (slot : Fin 256) (s : State) : Host.Outcome State Fault Refusal :=
  let i := slot.val
  let p := slotPayload s i
  .next (runSlot s i 5 fun s =>
    if trigOut s (slotTarget s i) then (gpioEdge s (slotTarget s i) (fld p 0 2) (fld p 8 24), true) else (s, false))

/-- WAKE (R149, R522). -/
def execWake (slot : Fin 256) (s : State) : Host.Outcome State Fault Refusal :=
  .next (runSlot s slot.val 7 fun s => (wakeCause s 3, true))

/-! ### The passed targets of a forward step (R153) -/

/-- An ARMED slot whose target the step passed over, which lies after the time before the step and not after the time it led to, is
handled under R151, as if armed at that moment. -/
def stepOver (before_ : Nat) (s : State) (i : Nat) : State :=
  if slotState s i = 1 ∧ !slotLate s i ∧ before_ < slotTime s i ∧ slotTime s i ≤ s.now then
    if slotRuns s i then { s with sched := { s.sched with late := s.sched.late ++ [i] } }
    else
      let own := decide (slotAction s i = 1)
      let t := fld (slotPayload s i) 0 2
      let s := (slotEnd s i 0x0A).raise .schedLate [w32 i]
      if own then txnLate s t else s
  else s

/-- Inserts a slot into a list in the order of R152. -/
def insertSlot (s : State) (i : Nat) : List Nat → List Nat
  | [] => [i]
  | j :: t => if slotBefore s j i then j :: insertSlot s i t else i :: j :: t

/-- The armed slots in the order of R152. -/
def armedOrder (s : State) : List Nat := (armedSlots s).foldl (fun l i => insertSlot s i l) []

end Sys2Proof.Machine
end

