-- ==== Sys2Proof/Machine/Jump.lean ====
section
/-!
DEFINITION. Accepted jumps of device time (R141, R142, R153, R188, R344).
-/
namespace Sys2Proof.Machine

/-- The TIME_MARK that follows JUMP_ACCEPTED at once (R69, R141). -/
def pushMark (s : State) : State :=
  let m : LogRec := ⟨0, 0, false, 1, 0, s.now, [w32 (s.now / 2 ^ 32)]⟩
  { s with router := { s.router with lantern := s.router.lantern ++ [m] } }

/-- Device time steps by `c` in one tick. The block slots of the links go on: the device time at which they were counted from moves
with it (R370). -/
def stepTime (s : State) (c : Int) : State :=
  let s := { s with time := { s.time with ns := s.time.ns + BitVec.ofInt 64 c } }
  (List.range 4).foldl (fun s h => putLink s h { linkOf s h with slot0 := (linkOf s h).slot0 + c }) s

/-- A forward step reaches a time-locked head as a phase error (R142, R344); `e` is its phase error before the step. -/
def headJump (c e : Int) (s : State) (h : Fin 4) : State :=
  if timeLocked s h then
    let t := headOf s h
    let s := if t.e ≠ 0 ∧ e = 0 then s.raise (.phaseLocked h) [s.rd (Reg.HEAD_FIELD h)] else s
    let s := showPhase (putHead s h { headOf s h with e := e + c, eAt := s.now, started := t.started + c }) h
    if e = 0 ∧ e + c ≠ 0 then s.raise (.phasePulling h) [w32 (u64 (e + c)), w32 (u64 (e + c) / 2 ^ 32), 0]
    else if e ≠ 0 ∧ e + c = 0 then s.raise (.phaseLocked h) [s.rd (Reg.HEAD_FIELD h)]
    else s
  else s

/-- A forward step (R142, R153, R188): heads and ports take a phase error, slots and frames it passed are handled. The
TIME_MARK stands before what the step causes. -/
def stepForward (s : State) (c : Int) : State :=
  let es : List (Fin 4 × Int) := (List.finRange 4).map fun h => (h, headE s h)
  let ps : List (Nat × Int) := (List.range 8).map fun p => (p, portE s p)
  let t := pushMark (stepTime s c)
  let t := es.foldl (fun t q => headJump c q.2 t q.1) t
  let t := ps.foldl (fun t q => portJump c q.2 t q.1) t
  let t := (armedOrder t).foldl (stepOver s.now) t
  closeOverdue t

/-- A consumer holds a time: a time-locked head or an ARMED slot (R141). -/
def timeHeld (s : State) : Bool := (List.range 4).any (timeLocked s) || !(armedSlots s).isEmpty

/-- A backward jump that is slewed at 1000 ppm (R141); a slew in progress runs to its end first (R137). -/
def slewJump (s : State) (c : Int) : State :=
  if slewing s.time then { s with time := { s.time with slewQueue := s.time.slewQueue ++ [c] } } else startSlew s c true

/-- ACCEPT_JUMP with GO for domain `d` (R141). JUMP_ACCEPTED carries the time before the step, the TIME_MARK the time after. -/
def acceptJump (s : State) (d : Nat) : State :=
  let c := proposed s d
  let slew := decide (c < 0) && timeHeld s
  let s := s.wr64 (Reg.TIME_PROPOSED_LO d) (Reg.TIME_PROPOSED_HI d) 0
  let s := enterDom s d 2
  let s := s.raise .jumpAccepted [w32 d, w32 (u64 c), w32 (u64 c / 2 ^ 32), w32 (b2n slew)]
  if slew then slewJump (pushMark s) c
  else if c < 0 then pushMark (stepTime s c)
  else stepForward s c

/-- A write of ACCEPT_JUMP (R141). -/
def acceptJumpWrite (s : State) (v : Word) : State :=
  if !bit v 31 then s
  else
    let d := fld v 0 1
    if serving s = d ∧ domState s d = 5 then acceptJump s d else refuse s Reg.TIME_ACCEPT_JUMP

/-- ACCEPT_JUMP (R141). -/
def execAcceptJump (req : Requester) (value : Word) (s : State) : Host.Outcome State Fault Refusal :=
  .next (gated s req Reg.TIME_ACCEPT_JUMP none fun s => acceptJumpWrite s value)

end Sys2Proof.Machine
end

