-- ==== Sys2Proof/Machine/Maint.lean ====
section
/-!
DEFINITION. Firmware of the management core: staging, hitless swap, confirm and revert (R548 to R554); and the maintenance log
(R555). DESIGN CHOICE (log entry 39): the checks of a staging are done when it starts, and a revert takes one step.
-/
namespace Sys2Proof.Machine

/-! ### Images and slots (R549) -/

/-- FW_STATUS.STATE: 0 IDLE, 1 STAGING, 2 STAGED, 3 SWAPPING. -/
def fwState (s : State) : Nat := s.f Reg.MAINT_FW_STATUS 0 2

/-- FW_STATUS.UNCONFIRMED. -/
def unconfirmed (s : State) : Bool := s.b Reg.MAINT_FW_STATUS 2

/-- The module is in recovery (R561). -/
def recovery (s : State) : Bool := s.b Reg.MAINT_BOOT_STATUS 3

/-- A flash slot, false A, true B. -/
def slotOf (s : State) (b : Bool) : Option FwImage := if b then s.maint.slotB else s.maint.slotA

/-- The state with a flash slot. -/
def putSlot (s : State) (b : Bool) (x : Option FwImage) : State :=
  { s with maint := if b then { s.maint with slotB := x } else { s.maint with slotA := x } }

/-- The slot that is not running; slot A while none runs. -/
def idleSlot (s : State) : Bool := match s.maint.running with | some b => !b | none => false

/-- VERSION of a slot; 0 when it is empty. -/
def slotVersion (s : State) (b : Bool) : Word := match slotOf s b with | some i => i.version | none => 0

/-- An image as its bytes show it. -/
def imageOf (l : List Byte) : FwImage where
  version := w32 (leAt l 4 4)
  security := w32 (leAt l 8 4)
  bodyLen := leAt l 12 4
  handover := leAt l 16 4
  formatOk := decide (leAt l 0 4 = 0x57465850 ∧ 4096 ≤ leAt l 12 4 ∧ leAt l 12 4 ≤ 100663296 ∧ leAt l 8 4 ≤ 4095) &&
    ((l.drop 20).take 44).all (· == 0)
  sigOk := Config.sigOk l

/-- ROLLBACK_COUNTER (R560). -/
def rollback (s : State) : Nat := s.rdN Reg.MAINT_ROLLBACK_COUNTER

/-- The checks of R560 of a slot's image: 0, or the failing code of R550. -/
def bootFail (s : State) : Option FwImage → Nat
  | none => 2
  | some i => if !i.formatOk then 2 else if !i.sigOk then 3 else if i.security.toNat < rollback s then 4 else 0

/-- The state with FW_STATUS.RESULT. -/
def fwResult (s : State) (r : Nat) : State := s.setF Reg.MAINT_FW_STATUS 4 4 r

/-- The state with FW_STATUS.STATE. -/
def setFwState (s : State) (v : Nat) : State := s.setF Reg.MAINT_FW_STATUS 0 2 v

/-- A slot is marked confirmed; the rollback counter rises to its SECURITY_VERSION (R554, R560). -/
def confirmSlot (s : State) (b : Bool) : State :=
  let v := match slotOf s b with | some i => i.security.toNat | none => 0
  ({ s with maint := { s.maint with confirmed := b } }).wr Reg.MAINT_ROLLBACK_COUNTER (w32 (max (rollback s) v))

/-! ### Staging (R550) -/

/-- HBM address of the image. -/
def fwSrc (s : State) : Nat := s.rd64 Reg.MAINT_FW_SRC_LO Reg.MAINT_FW_SRC_HI

/-- R550: the result of the checks in their order. A source that cannot be read is MEDIA (log entry 39). -/
def stageResult (s : State) (l : List Byte) : Nat :=
  let i := imageOf l
  if rangeBad s (fwSrc s) l.length then 6
  else if !i.formatOk ∨ l.length ≠ 64 + i.bodyLen + 96 then 2
  else if !i.sigOk then 3
  else if i.security.toNat < rollback s then 4
  else match s.maint.running with
    | some b =>
      (match slotOf s b with
        | some r => if r.handover = i.handover then 1 else 5
        | none => 5)
    | none => 1

/-- FW_CMD STAGE, past its guards: the image is read in SC5 and checked, and the slot is emptied to take it. -/
def stageImage (s : State) : State :=
  let n := s.rdN Reg.MAINT_FW_LEN
  let l := hbmBytes s (fwSrc s) n
  let r := stageResult s l
  let s := putSlot (touch s 5 (fwSrc s) n) (idleSlot s) none
  setFwState { s with maint := { s.maint with staging := some (r, if r = 1 then some (imageOf l) else none) } } 1

/-- A STAGE is acted on (R550). -/
def mayStage (s : State) : Bool := decide (fwState s ≠ 1 ∧ fwState s ≠ 3) && !unconfirmed s

/-- FW_STAGE (R550). -/
def execFwStage (req : Requester) (s : State) : Host.Outcome State Fault Refusal :=
  .next (gatedIf s req Reg.MAINT_FW_CMD none mayStage stageImage)

/-- FW_STAGE_COMPLETE (R550): `mediaOk`, the flash write and its read-back succeeded. -/
def execFwStageComplete (mediaOk : Bool) (s : State) : Host.Outcome State Fault Refusal :=
  .next (match s.maint.staging with
    | none => s
    | some (r, img) =>
      let s := { s with maint := { s.maint with staging := none } }
      let r := if r = 1 ∧ !mediaOk then 6 else r
      if r = 1 then
        let b := idleSlot s
        let s := setFwState (fwResult (putSlot s b img) 1) 2
        let v := slotVersion s b
        (s.wr Reg.MAINT_FW_STAGED_VERSION v).raise .fwStaged [v, w32 (b2n b)]
      else
        (setFwState ((fwResult s r).wr Reg.MAINT_FW_STAGED_VERSION 0) 0).raise .fwStageRefused [w32 r])

/-! ### Swap (R551 to R553) -/

/-- A SWAP is acted on (R551, R561). -/
def maySwap (h : Nat) (s : State) : Bool := decide (fwState s = 2 ∧ headState s h = 3) && !recovery s

/-- SWAP and REVERT need HITLESS_FW_UPDATE (R550); in recovery both are refused (R561). -/
def swapGate (s : State) (r : Requester) (ok : State → Bool) (g : State → State) : State :=
  gatedIf s r Reg.MAINT_FW_CMD (if recovery s then none else some 15) ok g

/-- FW_CMD SWAP, past its guards. -/
def pendSwap (s : State) (h : Nat) : State :=
  ({ s with maint := { s.maint with swap := some (h, s.now, false) } }).setB Reg.MAINT_FW_STATUS 3 true

/-- FW_SWAP (R551). -/
def execFwSwap (req : Requester) (h : Fin 4) (s : State) : Host.Outcome State Fault Refusal :=
  .next (swapGate s req (maySwap h) fun s => pendSwap s h)

/-- The first condition of R551 that holds, in listed order from 1. -/
def swapBar (s : State) : Option Nat :=
  if (List.range 4).any fun h => (List.range 13).any fun n => decide (1 ≤ laneState s h n ∧ laneState s h n ≤ 4) then some 1
  else if [2, 3, 5].contains (s.f Reg.RAIL2_KEEPER_STATUS 0 3) then some 2
  else if s.transition ≠ 0 then some 3
  else if (s.mem.due ++ s.mem.shrink.toList).any fun m => decide (m.reason = 4) then some 4
  else none

/-- A field start of head `h` as a pending swap sees it (R551, R552). -/
def fwFieldStart (s : State) (h : Nat) : State :=
  match s.maint.swap with
  | none => s
  | some (g, t, told) =>
    if g ≠ h ∨ fwState s ≠ 2 then s
    else match swapBar s with
      | some k =>
        if told then s
        else ({ s with maint := { s.maint with swap := some (g, t, true) } }).raise .fwSwapDeferred [w32 k]
      | none =>
        let s := { s with maint := { s.maint with swap := none, takeover := some h, swapHead := h } }
        (setFwState (s.setB Reg.MAINT_FW_STATUS 3 false) 3).wr Reg.MAINT_SWAP_FIELD (s.rd (Reg.HEAD_FIELD h))

/-- FW_SWAP_TIMEOUT (R551). -/
def execFwSwapTimeout (s : State) : Host.Outcome State Fault Refusal :=
  .next (match s.maint.swap with
    | some (_, t, _) =>
      if t + 60000000000 ≤ s.now then
        fwResult (({ s with maint := { s.maint with swap := none } }).setB Reg.MAINT_FW_STATUS 3 false) 7
      else s
    | none => s)

/-- A slot's image runs: SYS.FW_VERSION and FW_SLOT. -/
def runImage (s : State) (b : Bool) : State :=
  let s := { s with maint := { s.maint with running := some b } }
  s.wrAll [(Reg.SYS_FW_VERSION, slotVersion s b), (Reg.SYS_FW_SLOT, w32 (b2n b))]

/-- The FIRMWARE record of a swap, revert or confirm (R555). -/
def fwRecord (s : State) (old : Word) : State :=
  maintNote s 2 0 0 [old, s.rd Reg.SYS_FW_VERSION, s.rd Reg.MAINT_SWAP_FIELD, 0, 0]

/-- FW_TAKEOVER (R552). -/
def execFwTakeover (s : State) : Host.Outcome State Fault Refusal :=
  .next (match s.maint.takeover with
    | none => s
    | some _ =>
      let old := s.rd Reg.SYS_FW_VERSION
      let s := runImage s (idleSlot s)
      let s := { s with maint := { s.maint with takeover := none, takeoverAt := some s.now } }
      let s := ((setFwState s 0).setB Reg.MAINT_FW_STATUS 2 true).wr Reg.MAINT_FW_STAGED_VERSION 0
      let s := s.inc Reg.MAINT_SWAPS
      let s := s.raise .fwSwapped [old, s.rd Reg.SYS_FW_VERSION, s.rd Reg.MAINT_SWAP_FIELD]
      fwRecord s old)

/-- R554: the module swaps back; `why`: 0 self-check, 1 watchdog, 2 command. -/
def revert (s : State) (why : Nat) : State :=
  let old := s.rd Reg.SYS_FW_VERSION
  let b := idleSlot s
  let s := putSlot (runImage s b) (!b) none
  let s := { s with maint := { s.maint with takeoverAt := none } }
  let s := ((s.setB Reg.MAINT_FW_STATUS 2 false).inc Reg.MAINT_SWAPS).wr Reg.MAINT_SWAP_FIELD
    (s.rd (Reg.HEAD_FIELD s.maint.swapHead))
  fwRecord (s.raise .fwReverted [old, w32 why]) old

/-- The running image is unconfirmed and within 10 s of its takeover (R554). -/
def onTrial (s : State) : Bool :=
  unconfirmed s && (match s.maint.takeoverAt with | some t => decide (s.now < t + 10000000000) | none => false)

/-- FW_SELF_CHECK_FAILURE (R554). -/
def execFwSelfCheckFailure (s : State) : Host.Outcome State Fault Refusal := .next (if onTrial s then revert s 0 else s)

/-- MGMT_WATCHDOG (R548, R554): the management core restarts from the running image and the state it handed over. -/
def execMgmtWatchdog (s : State) : Host.Outcome State Fault Refusal :=
  .next (if s.maint.running.isNone then s
    else
      let s := s.raise .mgmtWatchdog [s.rd Reg.SYS_FW_VERSION]
      if onTrial s then revert s 1 else s)

/-- FW_REVERT (R554). -/
def execFwRevert (req : Requester) (s : State) : Host.Outcome State Fault Refusal :=
  .next (swapGate s req unconfirmed fun s => revert s 2)

/-! ### Confirm (R550, R554, R561) -/

/-- A CONFIRM finds an image to confirm. DESIGN CHOICE (log entry 39): in recovery without a STAGED image it is refused. -/
def mayConfirm (s : State) : Bool := s.maint.running.isSome || decide (fwState s = 2)

/-- FW_CONFIRMED of a slot, and its record. -/
def toldConfirmed (s : State) (b : Bool) (old : Word) : State :=
  fwRecord (s.raise .fwConfirmed [slotVersion s b, s.rd Reg.MAINT_ROLLBACK_COUNTER]) old

/-- FW_CMD CONFIRM, past its guards: a STAGED image in recovery starts at once; one that cannot be swapped in becomes the image
of the next power-on; otherwise the running image is confirmed. -/
def confirmFw (s : State) : State :=
  let old := s.rd Reg.SYS_FW_VERSION
  match s.maint.running with
  | none =>
    let b := idleSlot s
    let s := runImage (confirmSlot s b) b
    let s := (setFwState s 0).wr Reg.MAINT_FW_STAGED_VERSION 0
    let s := setStage (s.setB Reg.MAINT_BOOT_STATUS 3 false) 2
    toldConfirmed s b old
  | some b =>
    if !unconfirmed s ∧ fwState s = 2 ∧ !s.feat 15 then toldConfirmed (confirmSlot s (!b)) (!b) old
    else toldConfirmed ((confirmSlot s b).setB Reg.MAINT_FW_STATUS 2 false) b old

/-- FW_CONFIRM (R554). -/
def execFwConfirm (req : Requester) (s : State) : Host.Outcome State Fault Refusal :=
  .next (gatedIf s req Reg.MAINT_FW_CMD none mayConfirm confirmFw)

/-- A write of FW_CMD with the value `v`, past the gate of the page; other codes of OP are refused. -/
def fwCommand (s : State) (r : Requester) (v : Word) : State :=
  let op := fld v 0 3
  let h := fld v 4 2
  if op = 1 then gatedIf s r Reg.MAINT_FW_CMD none mayStage stageImage
  else if op = 2 then swapGate s r (maySwap h) fun s => pendSwap s h
  else if op = 3 then gatedIf s r Reg.MAINT_FW_CMD none mayConfirm confirmFw
  else if op = 4 then swapGate s r unconfirmed fun s => revert s 2
  else refuse s Reg.MAINT_FW_CMD

/-! ### Maintenance log (R555) -/

/-- The words of a record with SEQ `n`. -/
def maintWords (n : Nat) (r : MaintRec) : List Word :=
  let d := fun i => r.detail.getD i 0
  let l := [w32 (r.ev % 512 + r.sev % 4 * 512 + r.kind % 16 * 4096 + r.coal % 65536 * 65536), w32 n, w32 r.time,
    w32 (r.time / 2 ^ 32), w32 (u64 r.tai), w32 (u64 r.tai / 2 ^ 32), w32 r.powerOns, d 0, d 1, d 2, d 3, d 4, r.fw, 0, 0]
  l ++ [crc32c (wordsBytes l)]

/-- Records the flash ring holds. -/
def maintRing : Nat := 65536

/-- MAINTENANCE_LOG_RECORD_WRITE (R555): the oldest waiting record is written and echoed on the UART (R594). During the pause of
a swap writes wait (R553). -/
def execMaintenanceLogRecordWrite (s : State) : Host.Outcome State Fault Refusal :=
  .next (match s.maint.wait with
    | [] => s
    | r :: rest =>
      if s.maint.running.isNone ∨ s.maint.takeover.isSome then s
      else
        let n := s.maint.logSeq + 1
        let full := decide (maintRing ≤ s.maint.log.length)
        let log := (if full then s.maint.log.drop 1 else s.maint.log) ++ [(n, r)]
        let s := ({ s with maint := { s.maint with wait := rest, log := log, logSeq := n } }).emit (.uart none n)
        if full then
          let s := s.inc Reg.MAINT_LOG_WRAPS
          s.raise .logWrapped [s.rd Reg.MAINT_LOG_WRAPS]
        else s)

/-- LIFETIME_RECORD (R555): a power-on hour has passed. DESIGN CHOICE (log entry 39): the hour counts for what holds at its end. -/
def execLifetimeRecord (s : State) : Host.Outcome State Fault Refusal :=
  .next (if !s.on ∨ s.now < (s.maint.hours + 1) * hourNs then s
    else
      let hot := s.maint.hotHours + b2n (decide (7 ≤ s.f Reg.THERM_LEVEL 0 4))
      let s := { s with maint := { s.maint with hours := s.maint.hours + 1, hotHours := hot } }
      let s := s.inc Reg.MAINT_POWERED_HOURS
      let s := if s.powerState ≤ 1 then s.inc Reg.MAINT_ACTIVE_HOURS else s
      maintNote s 1 0 0 [s.rd Reg.MAINT_POWERED_HOURS, s.rd Reg.MAINT_ACTIVE_HOURS, s.rd Reg.RAIL2_HVIN_LOSSES,
        s.rd Reg.THERM_TRIPS, w32 hot])

/-- The record with a SEQ, if held. -/
def maintFind (s : State) (n : Nat) : Option MaintRec := (s.maint.log.find? fun p => decide (p.1 = n)).map (·.2)

/-- LOG_FIRST: SEQ of the oldest record held; 0 when there is none. -/
def logFirst (s : State) : Nat := match s.maint.log with | (n, _) :: _ => n | [] => 0

/-- A word of LOG_WINDOW: the record that LOG_SEL names, zeros when it is not held. -/
def logWindow (s : State) (i : Nat) : Word :=
  let n := s.rd64 Reg.MAINT_LOG_SEL_LO Reg.MAINT_LOG_SEL_HI
  match maintFind s n with
  | some r => (maintWords n r).getD i 0
  | none => 0

end Sys2Proof.Machine
end

