-- ==== Sys2Proof/Machine/Produce.lean ====
section
/-!
DEFINITION. Production and sending of lines: ray-map blocks, ray deadlines, cache fills, line starts, latency tolerance, the
mirror check, and a head in the RECEIVE role (R269, R287 to R296, R312, R318, R349 to R351, R359 to R361, R395).
-/
namespace Sys2Proof.Machine

/-! ### Ray-map blocks (R269) -/

/-- The reads of a block: its record, and with BLOCK_VALID its residual tile, and the LENS tile an INTERVIEW tile predicts
from. The second component: 0 no error, 1 memory, 2 stream. -/
def blockReads (s : State) (h bank var blk : Nat) : List (Nat × Nat) × Nat :=
  let m := bankHdr s h bank
  let base := bankBase s h bank
  let bx := blk % m.bx
  let bY := blk / m.bx
  let rec_ := (base + blkOff m var bx bY, 64)
  if rangeBad s rec_.1 64 then ([rec_], 1)
  else if !(bankBlk s h bank var bx bY).valid then ([rec_], 0)
  else match mapFrame s base m with
    | .error _ => ([rec_], 2)
    | .ok f =>
      let i := var * (m.bY * m.bx) + blk
      let t := mapTileAt s base m f i
      let lens := mapTileAt s base m f blk
      let l := [(t.1, t.2.length)] ++ (if tileMode t.2 = 4 ∧ var = 1 then [(lens.1, lens.2.length)] else [])
      let bad := l.any fun q => rangeBad s q.1 q.2
      (rec_ :: l, if bad then 1 else match mapResiduals s base m f i with | .ok _ => 0 | .error _ => 2)

/-- The block row `bY` has been fetched and decoded. -/
def rowFetched (s : State) (F : FieldSt) (h bY : Nat) : Bool :=
  let m := bankHdr s h F.bank
  (List.range m.bx).all fun x => F.fetched.contains (bY * m.bx + x)

/-- The start of line `y` of the field `k` after the one being sent (R339, R345). -/
def fieldLine (s : State) (h k y : Nat) : Int :=
  if k = 0 then lineStart s h y
  else
    let t := headOf s h
    let F := if t.latched then t.nxt else t.cur
    let got := match t.switch with
      | some (a, n, d, m, _, _) => (a, n, d, m)
      | none => (t.anchor, t.num, t.den, t.idx + 1)
    let at_ := fun i => schedStart got.1 got.2.1 got.2.2.1 (got.2.2.2 + i)
    nextFieldStart s h + (at_ (k - 1) - at_ 0) + (y : Int) * (at_ k - at_ (k - 1)) / (F.f (Reg.HEAD_V_LINES h) 16 16 : Nat) +
      (F.f (Reg.HEAD_LINE_SKEW h) 0 16 : Nat)

/-- The start of line `y` of the field in production. -/
def prodLineStart (s : State) (h y : Nat) : Int := fieldLine s h (b2n (prodNext s h)) y

/-- Band-buffer slot y mod 24 is free (R285, R317): line y − 24 of the field in production has ended its line period. -/
def slotFree (s : State) (h y : Nat) : Bool := decide (y < 24) || decide (prodLineStart s h (y - 23) ≤ (s.now : Int))

/-- The head is producing a field (R336, R338): it is ACTIVE, or finishes the field that it sends under DRAIN. -/
def headProduces (s : State) (h : Nat) : Bool :=
  (headOf s h).run && (prodField s h).produced &&
  (decide (headState s h = 3) || (decide (headState s h = 4) && !(headOf s h).abort && !prodNext s h))

/-- RGU_STATUS as it reads (R298): THROTTLED while the ladder divides or skips the RGU clock (R290, R514), and ISSUING once the rays of
the line due can be issued (R285). -/
def rguStatus (s : State) (h : Nat) : Word :=
  let F := prodField s h
  let w := s.rd (Reg.RGU_RGU_STATUS h)
  let on := bit w 3 && headProduces s h && decide (F.fetchAt ≤ (s.now : Int)) && rowFetched s F h (F.next / 64)
  setFld (setFld w 2 1 (b2n (decide (7 ≤ s.f Reg.THERM_LEVEL 0 4)))) 3 1 (b2n on)

/-- R285, R286: the decoder takes block rows in order, from the one of the next line due on. It holds two, the one being issued and
the next: it takes row `bY` once the first line of the row before it may be issued. -/
def rowTurn (s : State) (F : FieldSt) (h bY : Nat) : Bool :=
  decide (F.next / 64 ≤ bY) && (decide (bY < 2) || slotFree s h (64 * (bY - 1))) &&
  (decide (bY = F.next / 64) || rowFetched s F h (bY - 1))

/-- A block of the field in production is fetched (R269), from two lines after the latch on. -/
def blockFetch (s : State) (h : Fin 4) (bx bY : Nat) : State :=
  let nx := prodNext s h
  let F := prodField s h
  let m := bankHdr s h F.bank
  let blk := bY * m.bx + bx
  if !headProduces s h || F.noScene || F.cut.isSome || decide ((s.now : Int) < F.fetchAt) ||
      decide (3 ≤ F.bank ∨ m.bx ≤ bx ∨ m.bY ≤ bY) || F.fetched.contains blk || !rowTurn s F h bY then s
  else
    let got := readHeader s h F
    let s := got.1
    let F := got.2
    if F.noScene then putProd s h nx F
    else
      let var := b2n (F.clear.contains blk)
      let got := blockReads s h F.bank var blk
      let l := got.1
      let e := got.2
      let s := l.foldl (fun s q => touch s 0 q.1 q.2) s
      let F := { F with fetched := blk :: F.fetched }
      if e = 0 then putProd s h nx F
      else
        let s := putProd s h nx { F with bad := blk :: F.bad }
        (s.inc (Reg.RGU_FETCH_ERRORS h)).raise (.mapFetchError h) [w32 F.bank, w32 blk, w32 var, w32 (e - 1)]

/-- RAY_MAP_BLOCK_FETCH (R269). -/
def execRayMapBlockFetch (h : Fin 4) (bx by' : Nat) (s : State) : Host.Outcome State Fault Refusal :=
  .next (blockFetch s h bx by')

/-! ### Ray deadlines (R287, R289, R312, R318) -/

/-- The rays of line `y` in issue order: ascending column, ascending position (R285). -/
def lineRays (s : State) (F : FieldSt) (h y : Nat) : List Ray :=
  let order := (bankHdr s h F.bank).order
  (List.range (F.hActive h)).flatMap fun x => (List.range 3).map fun p => fieldRay s F h x y (if order then 2 - p else p)

/-- The byte addresses that a depth-placed layer's sample of a ray reads (R310, R311). -/
def depthTaps (s : State) (F : FieldSt) (h : Nat) (r : Ray) (k : Nat) : List Nat :=
  if !r.valid then []
  else
    let got := depthPos F h k r
    let u := got.1
    let v := got.2
    let got := layerSize F h k
    let w := got.1
    let hh := got.2
    (([(0, 0), (1, 0), (0, 1), (1, 1)] : List (Int × Int)).flatMap fun d =>
      let x := u / 1024 + d.1
      let y := v / 1024 + d.2
      if 0 ≤ x ∧ x < w ∧ 0 ≤ y ∧ y < hh then
        match layerSrc F h k, tabGet (fun _ => none) F.descs k with
        | .buffer, some b => [b.addr + y.toNat * b.pitch + x.toNat * formatBytes b.format]
        | .store (some f), _ =>
          let g := sceneGeom f
          (List.range g.c).map fun c => tapAddr (frameBase s f) (samplePos g.c g.w g.h 0 c x.toNat y.toNat)
        | _, _ => []
      else [])

/-- The depth-placed layers of the field that are not eclipsed. -/
def depthLayersOf (F : FieldSt) (h : Nat) : List Nat :=
  (List.range 8).filter fun k => layerDepth F h k && decide (k ≠ F.f (Reg.RGU_RGU_CFG h) 0 3) && !eclipsedIn F k

/-- A delivered ray: its taps are looked up and its plane steps counted (R282, R291 to R295, R311). -/
def deliverRay (h : Fin 4) (p : State × FieldSt) (r : Ray) : State × FieldSt :=
  let got := rayTaps p.1 p.2 h r
  let taps := got.1
  let steps := got.2
  let ks := depthLayersOf p.2 h
  let all := taps ++ ks.flatMap (depthTaps p.1 p.2 h r)
  let gen := (headOf p.1 h).gen
  let q := all.foldl (cacheLookup h gen) p
  let n := steps + (if r.valid then ks.length else 0)
  ((q.1.inc48 (Reg.RGU_RAYS_LO h) (Reg.RGU_RAYS_HI h) 1).inc48 (Reg.RGU_PLANE_STEPS_LO h) (Reg.RGU_PLANE_STEPS_HI h) n, q.2)

/-- What is kept of a ray that is tagged as it is issued (R537, R539): `misses` lookups missed or joined, `value` is none
while it waits on a fill. -/
def tagRay (s : State) (h : Fin 4) (F : FieldSt) (x y : Nat) (r : Ray) (misses : Nat) (value : Option (Nat × Nat)) : State :=
  let p := glintDraw s h x y r.ch
  if !p.2 then p.1
  else
    let got := rayTaps s F h r
    let taps := got.1
    let steps := got.2
    let ks := depthLayersOf F h
    let n := (taps ++ ks.flatMap (depthTaps s F h r)).length
    glintPush p.1 h {
      field := F.num, x := x, y := y, ch := r.ch, valid := r.valid, clear := r.clear, target := (glintOf s h).target
      taps := n, misses := misses, steps := steps + (if r.valid then ks.length else 0), value := value
      composed := 0, output := 0, eclipsed := false, repeated := false, abandoned := false
      deadline := wInt (prodLineStart s h y - 1000), level := s.f Reg.THERM_LEVEL 0 4, ended := false, lane := none }

/-- A delivered ray of line `y`, at its place in the line; a head that samples may tag it. Its value is that of the cache lines as
they were looked up. -/
def deliverTagged (h : Fin 4) (tag : Bool) (p : State × FieldSt) (q : Nat × Ray × Nat) : State × FieldSt :=
  let m := p.1.rd64 (Reg.RGU_MISSES_LO h) (Reg.RGU_MISSES_HI h)
  let p := deliverRay h p q.2.1
  let n := p.1.rd64 (Reg.RGU_MISSES_LO h) (Reg.RGU_MISSES_HI h)
  (if tag then tagRay p.1 h p.2 (q.2.2 / 3) q.1 q.2.1 (n - m) (some (rayValue p.1 p.2 h q.2.1)) else p.1, p.2)

/-- A ray that is issued and waits on a fill: its taps are looked up, and it is tagged where the head samples (R293, R537). The
number counts the rays issued; once issue stalls no further ray is. -/
def issueRay (h : Fin 4) (tag : Bool) (F : FieldSt) (p : State × Nat × Bool) (q : Nat × Ray × Nat) : State × Nat × Bool :=
  if p.2.2 then p
  else
    let m := p.1.rd64 (Reg.RGU_MISSES_LO h) (Reg.RGU_MISSES_HI h)
    let taps := (rayTaps p.1 F h q.2.1).1 ++ (depthLayersOf F h).flatMap (depthTaps p.1 F h q.2.1)
    let r := taps.foldl (cacheIssue h (headOf p.1 h).gen F) (p.1, false)
    if r.2 then (r.1, p.2.1, true)
    else
      let n := r.1.rd64 (Reg.RGU_MISSES_LO h) (Reg.RGU_MISSES_HI h)
      (if tag then tagRay r.1 h F (q.2.2 / 3) q.1 q.2.1 (n - m) none else r.1, p.2.1 + 1, false)

/-- The rays of line `y`, each with its line and its place in it. -/
def numberedRays (s : State) (F : FieldSt) (h y : Nat) : List (Nat × Ray × Nat) := ((lineRays s F h y).zipIdx).map fun q => (y, q)

/-- The rays that may have been issued of `n` lines from `y` on (R285, R286): of lines that have a band-buffer slot and whose block
row is decoded. -/
def raysAhead (s : State) (F : FieldSt) (h y n : Nat) : List (Nat × Ray × Nat) :=
  (((List.range n).map (y + ·)).takeWhile fun y => decide (y < F.vActive h) && slotFree s h y && rowFetched s F h (y / 64)).flatMap
    (numberedRays s F h)

/-- Occurrences of the RGU's countable events since `a` (R528): rays issued, taps looked up, misses, plane steps. DESIGN CHOICE
(log entry 8): they are counted when the command that shows them is sent. -/
def rguCounted (a s : State) (h : Fin 4) (issued : Nat) : State :=
  let d := fun lo hi => (s.rd64 lo hi + 2 ^ 48 - a.rd64 lo hi) % 2 ^ 48
  let s1 := perfHit s 0x41 h.val 0x10 issued
  let s2 := perfHit s1 0x41 h.val 0x11 (d (Reg.RGU_LOOKUPS_LO h) (Reg.RGU_LOOKUPS_HI h))
  let s3 := perfHit s2 0x41 h.val 0x12 (d (Reg.RGU_MISSES_LO h) (Reg.RGU_MISSES_HI h))
  perfHit s3 0x41 h.val 0x14 (d (Reg.RGU_PLANE_STEPS_LO h) (Reg.RGU_PLANE_STEPS_HI h))

/-- R287: the RGU layer is eclipsed from line `y`, and the depth-placed layers with it (R312). -/
def eclipseRgu (s : State) (h : Fin 4) (nx : Bool) (F : FieldSt) (y cause : Nat) : State × FieldSt :=
  let k := F.f (Reg.RGU_RGU_CFG h) 0 3
  let depth := depthLayersOf F h
  let F := { F with ecl := F.ecl ++ [⟨k, y, cause⟩] }
  let s := (s.inc (Reg.RGU_ECLIPSE_COUNT h)).wr (Reg.RGU_ECLIPSE_LINE h) (w32 (y % 65536 + cause * 65536))
  let s := if nx then s
    else ((s.setB (Reg.HEAD_HEAD_STATUS h) (8 + k) true).setB (Reg.LAYER_LAYER_STATUS h k) 1 true).setB (Reg.RGU_RGU_STATUS h) 1 true
  let s := s.raise (.raysLate h) [s.rd (Reg.RGU_CUR_FRAME h), w32 y, w32 cause, rguStatus s h]
  depth.foldl (fun p k => eclipse p.1 h nx p.2 k y cause) (s, F)

/-- Of rays in issue order, the first `n` are delivered and the next `m` are issued and wait (R287, R294, R537); the number counts those
that were issued. -/
def runRays (h : Fin 4) (F : FieldSt) (s : State) (l : List (Nat × Ray × Nat)) (n m : Nat) : State × FieldSt × Nat :=
  let tag := (glintOf s h).on
  let p := (l.take n).foldl (deliverTagged h tag) (s, F)
  let u := ((l.drop n).take m).foldl (issueRay h tag p.2) (p.1, n, false)
  let s := rguCounted s u.1 h u.2.1
  let peak := if u.2.1 = 0 then p.2.peak else max p.2.peak (max 1 (u.2.1 - n))
  (s, { p.2 with peak := peak }, u.2.1)

/-- The rays of the line due, and those issued of later lines, are cut (R297, R338). How many have been delivered and issued by then is
free: the spec gives no times (log entry 31). The field keeps the lines that were wholly delivered. -/
def cutRays (s : State) (h : Fin 4) : State :=
  let nx := prodNext s h
  let F := prodField s h
  if !headProduces s h || F.noScene || F.cut.isSome || eclipsedIn F (F.f (Reg.RGU_RGU_CFG h) 0 3) ||
      decide ((s.now : Int) < F.fetchAt) then s
  else
    let l := raysAhead s F h F.next 24
    let n := (Config.freeWord s.freeCount).toNat % (l.length + 1)
    let m := (Config.freeWord (s.freeCount + 1)).toNat % (min 32768 (l.length - n) + 1)
    let r := runRays h { F with lines := [] } s.useFree.useFree l n m
    putProd r.1 h nx { r.2.1 with cut := some (F.next + n / max 1 (3 * F.hActive h)) }

/-- The margin of a line that was wholly delivered (R289). -/
def FieldSt.withMargin (F : FieldSt) (y margin : Nat) : FieldSt :=
  if margin < F.margin then { F with margin := margin, marginLine := y } else F

/-- The RGU part of the ray deadline of line `y` (R287, R289, R294). Without a scene every ray is delivered as (0, 0) (R273), and from
the first line that an ABORT cut on (R297), where no margin is taken. When a block row beyond the next has been taken, the decoder no
longer holds that of line `y`: every ray of it has been issued (R286). -/
def rgusDeadline (s : State) (h : Fin 4) (nx : Bool) (F : FieldSt) (y : Nat) (rays : RayProgress) : State × FieldSt :=
  if F.noScene then
    (s.inc48 (Reg.RGU_RAYS_LO h) (Reg.RGU_RAYS_HI h) (3 * F.hActive h), F.withMargin y rays.marginNs)
  else if F.noRays y then (s.inc48 (Reg.RGU_RAYS_LO h) (Reg.RGU_RAYS_HI h) (3 * F.hActive h), F)
  else if F.cut.isSome then (s, F.withMargin y rays.marginNs)
  else if eclipsedIn F (F.f (Reg.RGU_RGU_CFG h) 0 3) then (s, F)
  else
    let l := numberedRays s F h y
    let past := F.fetched.any fun b => decide ((bankHdr s h F.bank).bx * (y / 64 + 2) ≤ b)
    let map := rowFetched s F h (y / 64) && decide (F.fetchAt ≤ (s.now : Int))
    let n := if map then min rays.delivered l.length else 0
    let issued := if past then max rays.issued l.length else rays.issued
    let m := if map then min issued (n + 32768) - n else 0
    let r := runRays h { F with lines := [] } s (if n = l.length then l else l ++ raysAhead s F h (y + 1) 23) n m
    let F := { r.2.1 with peak := if r.2.2 = 0 then r.2.1.peak else max r.2.1.peak (min 32768 rays.inflight) }
    if n = l.length then (r.1, F.withMargin y rays.marginNs)
    else eclipseRgu r.1 h nx F y (if !map then 2 else if r.2.2 < l.length then 0 else 1)

/-- A flat layer of line `y` whose data has not arrived (R318): the command says so, or its descriptor has not been read. -/
def flatLate (s : State) (F : FieldSt) (h y : Nat) (late : BitVec 8) (k : Nat) : Bool :=
  !layerDepth F h k && !eclipsedIn F k && coversLine s F h k y &&
  (match layerSrc F h k with
   | .store (some _) => late.getLsbD k
   | .buffer => !descRead F k || late.getLsbD k
   | .compressed => !descRead F k || late.getLsbD k
   | _ => false)

/-- The flat data of line `y` that has been read bears an error (R318). -/
def flatError (h : Fin 4) (nx : Bool) (k y : Nat) (p : State × FieldSt) : State × FieldSt :=
  let ly := (y : Int) - shalf (p.2.c (Reg.LAYER_POS h k)) 16
  if layerDepth p.2 h k || eclipsedIn p.2 k || !coversLine p.1 p.2 h k y then p
  else match layerDataCause p.1 p.2 h k ly.toNat with
    | some c => eclipse p.1 h nx p.2 k (y / 64 * 64) c
    | none => p

/-- Layer `k` at the ray deadline of line `y` (R317, R318): late, or read under the guard of its band. -/
def layerDeadline (h : Fin 4) (nx : Bool) (y : Nat) (late : BitVec 8) (p : State × FieldSt) (k : Nat) : State × FieldSt :=
  if flatLate p.1 p.2 h y late k then eclipse p.1 h nx p.2 k y 0
  else if !coversLine p.1 p.2 h k y || (layerDepth p.2 h k && (p.2.noRays y || decide ((p.1.now : Int) < p.2.fetchAt))) then p
  else
    let p := if layerDepth p.2 h k then readDescriptor h nx k p else p
    flatError h nx k y (readGuard h nx k (y / 64) p)

/-- The layers' part of the ray deadline (R317, R318). -/
def layersDeadline (s : State) (h : Fin 4) (nx : Bool) (F : FieldSt) (y : Nat) (late : BitVec 8) : State × FieldSt :=
  (List.range 8).foldl (layerDeadline h nx y late) (s, F)

/-- Layers eclipsed on line `y`, one bit each. -/
def lineMask (F : FieldSt) (y : Nat) : Nat := (List.range 8).foldl (fun m k => m + b2n (eclipsedAt F k y) * 2 ^ k) 0

/-- Composition, output processing and capture of line `y` (R313, R324, R350, R352). -/
def composeLine (s : State) (h : Fin 4) (F : FieldSt) (y : Nat) (composed : Bool) : State :=
  let v := composedLine s F h y
  let o := outputLine s F h y v
  let t := headOf s h
  let s := if composed then putHead s h { t with band := t.band ++ [⟨F.num, y, false, linePol F h y, o⟩] } else s
  let s := glintCompose s h F.num y (eclipsedAt F (F.f (Reg.RGU_RGU_CFG h) 0 3) y) v o
  match F.wb with
  | none => s
  | some _ =>
    let tap := F.f (Reg.HEAD_WB_CFG h) 1 2
    let bits := if tap = 0 then 12 else panelDepth F h
    let samples := if composed then (if tap = 0 then v else o) else freeSamples s (3 * F.hActive h) bits
    let s := wbCapture s h F.num ⟨y, samples, lineMask F y, s.ns32⟩
    if composed then s else s.useFree

/-- The RGUs run below CCLK/2 (R350, R514): only then can composition fall behind. -/
def composesSlow (s : State) : Bool := decide (10 ≤ s.f Reg.THERM_LEVEL 0 4)

/-- Block rows that no later line needs leave the decoder (R286). -/
def FieldSt.pruned (s : State) (h : Nat) (F : FieldSt) : FieldSt :=
  let m := bankHdr s h F.bank
  { F with fetched := F.fetched.filter fun b => decide (F.next / 64 * m.bx ≤ b) }

/-- The ray deadline of the next line of the field in production (R287). -/
def rayDeadline (s : State) (h : Fin 4) (rays : RayProgress) (late : BitVec 8) : State :=
  let nx := prodNext s h
  let y := (prodField s h).next
  let slow := composesSlow s
  let p := readHeader s h (prodField s h)
  let read := p.2.descs
  let p := layersDeadline p.1 h nx p.2 y late
  let p := rgusDeadline p.1 h nx p.2 y rays
  let s := composeLine p.1 h p.2 y (rays.composed || !slow)
  let F := FieldSt.pruned s h { p.2 with next := y + 1 }
  let s := putProd s h nx F
  let new := if nx ∨ !(headOf s h).sending then [] else (List.range 8).filter fun k => decide (tabGet (fun _ => none) F.descs k ≠ tabGet (fun _ => none) read k)
  showIssuing (fieldFetched (new.foldl (showLayer F h) s) h) h

/-- RAY_DEADLINE (R287): line `rays.line` of the field in production is due, 1,000 ns before its start. A head that is neither
ACTIVE nor finishing its last field produces nothing (R336, R338). -/
def execRayDeadline (h : Fin 4) (rays : RayProgress) (layersLate : BitVec 8) (s : State) : Host.Outcome State Fault Refusal :=
  .next (
    let F := prodField s h
    if headProduces s h && decide (rays.line = F.next ∧ F.next < F.vActive h) &&
        decide (prodLineStart s h F.next - 1000 ≤ (s.now : Int)) then
      rayDeadline s h rays layersLate
    else s)

/-! ### Disable (R338) -/

/-- A head's ENABLE goes to 0 (R338): production of a field that will not be sent is abandoned. A head that sends no line stops at once under ABORT, and always while STARTING or in the
RECEIVE role, whose generator follows the link. -/
def headOffCmd (s : State) (h : Fin 4) (abort : Bool) : State :=
  let st := headState s h
  let s := setOff (if abort then cutRays s h else s) (headBase h) abort
  let s := setHeadState s h 4
  if st = 1 ∨ roleCode s (headBase h) ≠ 1 ∨ (abort && (headOf s h).line.isNone) then headStop s h
  else
    let t := headOf s h
    putHead s h { t with abort := abort, nxt := { t.nxt with produced := false } }

/-- HEAD_DISABLE (R338). -/
def execHeadDisable (req : Requester) (h : Fin 4) (abort : Bool) (s : State) : Host.Outcome State Fault Refusal :=
  .next (gated s req (Reg.PAGE_CTRL (headBase h)) none fun s => if enabled s (headBase h) then headOffCmd s h abort else s)

/-! ### Layer reads (R304, R317, R318) -/

/-- A read of the layer fetcher for the field in production, from two lines after its latch on. -/
def layerRead (s : State) (h : Fin 4) (g : Bool → State × FieldSt → State × FieldSt) : State :=
  let nx := prodNext s h
  let F := prodField s h
  if !headProduces s h || decide ((s.now : Int) < F.fetchAt) then s
  else
    let p := g nx (s, F)
    putProd p.1 h nx p.2

/-- LAYER_DESCRIPTOR_READ (R304); LAYER_STATUS of the field being sent follows (R331). -/
def execLayerDescriptorRead (h : Fin 4) (k : Fin 8) (s : State) : Host.Outcome State Fault Refusal :=
  .next (
    let nx := prodNext s h
    let t := layerRead s h fun nx p => readDescriptor h nx k p
    if nx ∨ !(headOf t h).sending then t else showLayer (headOf t h).cur h t k)

/-- GUARD_READ (R317). -/
def execGuardRead (h : Fin 4) (k : Fin 8) (band : Nat) (s : State) : Host.Outcome State Fault Refusal :=
  .next (layerRead s h fun nx p => readGuard h nx k band p)

/-- LAYER_DATA_READ (R318). -/
def execLayerDataRead (h : Fin 4) (k : Fin 8) (line : Nat) (s : State) : Host.Outcome State Fault Refusal :=
  .next (if slotFree s h line then layerRead s h fun nx p => readLayerData h nx k line p else s)

/-! ### Cache fills (R295) -/

/-- A fill of field `num` has failed at address `a` (R295): the field in production or being sent remembers the line, and an older
one is counted once. -/
def fillFailed (s : State) (h : Fin 4) (num : Word) (line a : Nat) : State :=
  let t := headOf s h
  let fail := fun F : FieldSt => { F with failed := line :: F.failed, fetchSeen := true }
  if t.cur.num = num then
    let s := noteFetch s h t.cur.fetchSeen a
    putHead s h { headOf s h with cur := fail t.cur }
  else if t.latched ∧ t.nxt.num = num then
    let s := noteFetch s h t.nxt.fetchSeen a
    putHead s h { headOf s h with nxt := fail t.nxt }
  else
    let s := noteFetch s h (decide (t.fetchTold = some num)) a
    putHead s h { headOf s h with fetchTold := some num }

/-- CACHE_FILL_RETURN (R295): a pending line of the head's cache is installed, or fails. -/
def execCacheFillReturn (h : Fin 4) (line : BitVec 26) (s : State) : Host.Outcome State Fault Refusal :=
  .next (
    let n := line.toNat
    match (setEntries n).find? fun e => dirPending s h e && decide (fld (dirLo s h e) 0 26 = n) with
    | some e =>
      let num := (fillOf s h e).2
      let p := dirInstall s h n e
      if p.2 then fillFailed p.1 h num n (lineBadAt s n) else p.1
    | none => s)

/-! ### Line starts (R349, R350) -/

/-- What the head sends on active line `y` (R349). -/
def sentLine (s : State) (h y : Nat) : BandLine :=
  let t := headOf s h
  let F := t.cur
  if !F.produced then ⟨F.num, y, false, linePol F h y, backgroundLine s F h y⟩
  else match t.band.find? fun b => decide (b.field = F.num ∧ b.line = y) with
    | some b => b
    | none => ⟨F.num, y, true, linePol F h y, []⟩

/-- A REPEAT is counted and reported once per field (R350). -/
def noteRepeat (s : State) (h : Fin 4) (y : Nat) : State :=
  let s := perfHit (s.inc (Reg.HEAD_LINES_REPEATED h)) 0x40 h.val 0x12 1
  let t := headOf s h
  if t.cur.repSeen then s
  else
    (putHead s h { t with cur := { t.cur with repSeen := true } }).raise (.lineRepeated h)
      [t.cur.num, w32 y, s.rd (Reg.HEAD_LINES_REPEATED h)]

/-- What lane `n` sends for line `y` (R373): a FRAME_START before line 0 on every ACTIVE lane, and the packet of the group it
carries; without a line a blank line. -/
def lanePacket (s : State) (h n y : Nat) (b : Option BandLine) : List Block :=
  let F := (headOf s h).cur
  let first := if y = 0 ∧ laneUp s h n then [frameStartBlock F h (gapLane s h)] else []
  match carried s h n with
  | some g => first ++ groupPacket F h g y b
  | none => first

/-- The packets of line `y` leave on the lanes (R370, R373): the LINE_START in the first block slot at or after the line's start, a
FRAME_START in the slot before. -/
def sendPackets (s : State) (h y : Nat) (b : Option BandLine) : State :=
  let rate := s.f (Reg.ZL_LINK_CFG h) 0 2
  let k := slotFrom (linkOf s h).slot0 (lineStart s h y) rate
  let k := if y = 0 then k - 1 else k
  laneList.foldl (fun s n =>
    let l := lanePacket s h n y b
    if l.isEmpty then s else s.emit (.packet h n k (laneBlocks n rate (laneOf s h n).seed k (s.b (Reg.ZL_LANE_STATUS h n) 8) l))) s

/-- The logical lane that carries column `x` of the line being sent (R371). -/
def columnLane (s : State) (h x : Nat) : Nat :=
  let w := (headOf s h).cur.hActive h
  let g := ((List.range 12).find? fun g => decide (groupX0 g w ≤ x ∧ x < groupX0 g w + groupW g w)).getD 0
  groupLane s h g

/-- A line of the field being sent starts (R349). -/
def lineStarts (s : State) (h : Fin 4) : State :=
  let y := nextLine s h
  let t := headOf s h
  let s := (putHead s h { t with line := some y }).wr (Reg.HEAD_LINE h) (w32 y)
  let s := gateLine s h y (t.cur.vActive h) (t.cur.f (Reg.HEAD_V_LINES h) 16 16) (lineStart s h y)
  if y < t.cur.vActive h then
    let b := sentLine s h y
    let t := headOf s h
    let s := putHead s h { t with sent := (b :: t.sent).take 3, band := t.band.filter fun c => decide (c.field ≠ b.field ∨ y < c.line) }
    let s := glintSent (perfHit s 0x40 h.val 0x11 1) h t.cur.num y b.rep (columnLane s h)
    let s := if b.rep then noteRepeat s h y else s
    (sendPackets s h y (some b)).emit (.line h y b.rep b.pol b.words)
  else sendPackets s h y none

/-- LINE_START (R349): the next line of the field being sent, after the moves that this line start brings (R388); a head STOPPING under
ABORT stops instead (R338). -/
def execLineStart (h : Fin 4) (s : State) : Host.Outcome State Fault Refusal :=
  .next (if !lineDue s h then s
    else if (headOf s h).abort then headStop s h
    else lineStarts (settleLine s h (lineStart s h (nextLine s h))) h)

/-! ### Latency tolerance (R351, R361) -/

/-- How many fields after the one being sent the field lies whose line `y` is the first not wholly in the band buffer (R351): the
field being sent while lines of it are missing, else the next one that can be produced. -/
def tolField (s : State) (h y : Nat) : Nat :=
  let t := headOf s h
  if t.cur.produced && decide (t.cur.next < t.cur.vActive h ∧ t.cur.next ≤ y) then 0 else if t.latched && !t.nxt.produced then 2 else 1

/-- TOLERANCE_UPDATE (R351): `firstMissing` is the first line, of this field or the next produced one, not wholly in the band buffer. -/
def execToleranceUpdate (h : Fin 4) (firstMissing lineIssueNs mapDecodeNs wbLines : Nat) (s : State) :
    Host.Outcome State Fault Refusal :=
  .next (
    let guard_ := s.rdN (Reg.HEAD_TOL_GUARD h)
    let t := headOf s h
    let v : Nat :=
      if headState s h ≠ 3 then 0xFFFFFFFF
      else if roleCode s (headBase h) = 2 then
        (if (wbOf s h).capturing then
          ((48 - (wbLines : Int)) * (linePeriod s h : Nat) - (guard_ : Nat)).toNat else 0xFFFFFFFF)
      else min 0xFFFFFFFE (fieldLine s h (tolField s h firstMissing) firstMissing - 1000 - ((lineIssueNs + mapDecodeNs + guard_ : Nat) : Int) - (s.now : Int)).toNat
    let s := s.wr (Reg.HEAD_TOLERANCE h) (w32 v)
    putHead s h { t with cur := { t.cur with tol := min t.cur.tol v } })

/-! ### The mirror check (R359, R360) -/

/-- R359: line `y` of field `F` is checked under MIRROR_CTRL as its latch sampled it. -/
def mirrorChecked (F : FieldSt) (h y : Nat) : Bool :=
  let c := F.c (Reg.ZL_MIRROR_CTRL h)
  let m := fld c 0 2
  decide (m = 2) || (decide (m = 1) && decide (y % fld c 8 8 = F.num.toNat % fld c 8 8))

/-- A mismatch on a lane (R360). -/
def mirrorMismatch (s : State) (h : Fin 4) (n y : Nat) : State :=
  let s := (s.inc (Reg.ZL_MISMATCHES h)).inc (Reg.ZL_LANE_MISMATCH h n)
  let f := (headOf s h).cur.num
  let s := ((s.wr (Reg.ZL_LAST_FIELD h) f).wr (Reg.ZL_LAST_LINE h) (w32 y)).setF (Reg.ZL_MIRROR_STATUS h) 0 4 n
  let s := s.raise (.mirrorMismatch h) [w32 n, f, w32 y, s.rd (Reg.ZL_LANE_MISMATCH h n)]
  let t := headOf s h
  let k := tabGet (fun _ => 0) t.mirror n + 1
  let lim := s.f (Reg.ZL_MIRROR_CTRL h) 16 8
  if lim ≠ 0 ∧ lim ≤ k then
    laneFail (putHead s h { t with mirror := tabSet (fun _ => 0) t.mirror n 0 }) h n 9 0
  else putHead s h { t with mirror := tabSet (fun _ => 0) t.mirror n k }

/-- MIRROR_CHECK_COMPARE (R359): the values read back at lane `lane` for a line sent at most two line periods ago. -/
def execMirrorCheckCompare (h : Fin 4) (lane : Fin 13) (line : Nat) (crc : Word) (pol rep : Bool) (s : State) :
    Host.Outcome State Fault Refusal :=
  .next (
    let t := headOf s h
    match t.sent.find? fun b => decide (b.line = line), carried s h lane with
    | some b, some g =>
      if s.b (Reg.ZL_MIRROR_STATUS h) 8 && t.cur.produced && mirrorChecked t.cur h line then
        let s := s.inc48 (Reg.ZL_CHECKED_LO h) (Reg.ZL_CHECKED_HI h) 1
        let good := decide (pol = b.pol ∧ rep = b.rep) && (b.rep || decide (crc = crc32c (groupPayload t.cur h g b.words)))
        if good then putHead s h { headOf s h with mirror := tabSet (fun _ => 0) t.mirror lane 0 }
        else mirrorMismatch s h lane line
      else s
    | _, _ => s)

/-! ### RECEIVE (R361, R395) -/

/-- R361: the field that ended had other timing than configured. -/
def rxMismatch (s : State) (h : Nat) (period active total : Nat) : Bool :=
  let ft := s.rd (Reg.HEAD_FIELD_TIMING h)
  let d := 1000000000 * fld ft 20 12 / fld ft 0 20
  decide (d < 1000 * ((period : Int) - d).natAbs ∨ active ≠ s.f (Reg.HEAD_V_LINES h) 0 16 ∨ total ≠ s.f (Reg.HEAD_V_LINES h) 16 16)

/-- The POL flag of line `y` under a POL mode and a base polarity (R356). -/
def polOf (mode : Nat) (base : Bool) (y : Nat) : Bool :=
  match mode with
  | 0 => false
  | 1 => base
  | 2 => base != decide (y % 2 = 1)
  | _ => base != decide (y / 2 % 2 = 1)

/-- R375: the line that ended is driven: a group without a LINE_START takes the POL that R356 gives for it. -/
def rxDriven (s : State) (h y : Nat) : State :=
  let l := linkOf s h
  let pol := polOf (s.f (Reg.ZL_RX_FRAME h) 3 2) l.rxBase y
  putLink s h { l with
    rxPol := (List.range 12).foldl (fun t g => if l.rxStarts.contains g then t else tabSet (fun _ => false) t g pol) l.rxPol }

/-- A received line error, counted already, with its event once per field (R395, R400). -/
def rxError (s : State) (h : Fin 4) (y : Nat) : State :=
  let l := linkOf s h
  if l.rxErr.isSome then s
  else (putLink s h { l with rxErr := some y }).raise (.rxLineError h) [s.rd (Reg.HEAD_FIELD h), w32 y, s.rd (Reg.ZL_RX_MISSING h)]

/-- The line in progress ends: groups without a valid or REPEAT packet are missing (R395). -/
def rxLineEnds (s : State) (h : Fin 4) : State :=
  let l := linkOf s h
  match l.rxLine with
  | none => s
  | some y =>
    let miss := 12 - l.rxGroups.length
    let s := if l.rxBlank ≠ 0 then s else rxDriven s h y
    let s := putLink s h { linkOf s h with rxLine := none, rxGroups := [], rxStarts := [], rxNext := y + 1 }
    if miss = 0 ∨ l.rxBlank ≠ 0 then s else rxError (s.incBy (Reg.ZL_RX_MISSING h) miss) h y

/-- R395: what a panel shows on the line that ended, at the head's size, for writeback at TAP 2. -/
def rxShown (s : State) (h : Nat) : List Nat :=
  let l := linkOf s h
  let w := s.f (Reg.HEAD_H_ACTIVE h) 0 16
  let rw := s.f (Reg.ZL_RX_FRAME h) 16 16
  let all := (List.range 12).flatMap fun g =>
    let v := tabGet (fun _ => []) l.rxVals g
    (List.range (3 * groupW g rw)).map fun i => v.getD i 0
  (List.range (3 * w)).map fun i => if i < 3 * rw then all.getD i 0 else 0

/-- A received line is complete: it is captured when the field is in writeback. -/
def rxCapture (s : State) (h : Nat) : State :=
  let F := (headOf s h).cur
  match F.wb, (linkOf s h).rxLine with
  | some _, some y =>
    if y < F.vActive h ∧ (linkOf s h).rxBlank = 0 then wbCapture s h F.num ⟨y, rxShown s h, 0, s.ns32⟩ else s
  | _, _ => s

/-- The active lines before line `y` of which no packet arrived are missing in every group (R375, R395): they are driven and captured from
the line before. -/
def rxSkip (s : State) (h : Fin 4) (y : Nat) : State :=
  let l := linkOf s h
  ((List.range (min y l.rxActive)).drop l.rxNext).foldl (fun s k =>
    let s := putLink s h { linkOf s h with rxLine := some k, rxGroups := [], rxStarts := [], rxBlank := 0 }
    rxLineEnds (rxCapture s h) h) s

/-- The values of a packet's payload, with the inversion of R372 undone (R375). -/
def rxValues (s : State) (h : Nat) (p : RxPacket) : List Nat :=
  let fr := s.rd (Reg.ZL_RX_FRAME h)
  let b := 8 + 2 * fld fr 0 2
  let inv := bit fr 2 && p.pol
  let bits := p.payload.flatMap fun x => (List.range 8).map fun i => x.getLsbD i
  (List.range (3 * groupW p.group (fld fr 16 16))).map fun j =>
    let v := (List.range b).foldl (fun a i => a + b2n (bits.getD (j * b + i) false) * 2 ^ i) 0
    if inv then 2 ^ b - 1 - v else v

/-- R375: a LINE_START of a group gives the line's polarity, and with it the field's base polarity. -/
def rxStart (s : State) (h : Nat) (p : RxPacket) : State :=
  let l := linkOf s h
  putLink s h { l with
    rxPol := tabSet (fun _ => false) l.rxPol p.group p.pol
    rxBase := if p.blank then l.rxBase else p.pol != polOf (s.f (Reg.ZL_RX_FRAME h) 3 2) false p.line
    rxStarts := if l.rxStarts.contains p.group then l.rxStarts else p.group :: l.rxStarts }

/-- The latch of a RECEIVE head (R361): orders 2, 3 and 7 of R346. -/
def rxLatch (s : State) (h : Fin 4) : State :=
  let num1 := (headOf s h).cur.num + 1
  let act := decide (headState s h = 3)
  let s := if act then latchTxns s h num1 else s
  let s := if act && s.b (Reg.HEAD_COMMIT h) 0 then layerCommit s h num1 else s
  let F : FieldSt := { FieldSt.none_ with cfg := snapshot s h, num := num1 }
  let got := if act then wbLatch s h F else (s, F)
  let s := got.1
  let F := got.2
  let t := headOf s h
  putHead s h { t with nxt := F, latched := true, trigger := false }

/-- RX_FRAME_START (R361): a field of a RECEIVE head starts; `active` is its V_ACTIVE (R371). -/
def rxFrameStart (s : State) (h : Fin 4) (frame : Word) (vActive : Nat) : State :=
  let s := rxLineEnds (rxCapture s h) h
  let s := if (headOf s h).run then rxSkip s h (linkOf s h).rxActive else s
  let t := headOf s h
  let l := linkOf s h
  let period := s.now - t.rxLast
  let active := t.rxLines % 65536
  let total := t.rxLines / 65536
  let num := s.rd (Reg.HEAD_FIELD h) + 1
  let s := if t.run then
      let s := ((s.wr (Reg.HEAD_RX_PERIOD h) (w32 period)).wr (Reg.HEAD_RX_LINES h) (w32 t.rxLines)).wr (Reg.HEAD_TOL_MIN h) (w32 t.cur.tol)
      if rxMismatch s h period active total ∧ !l.rxTold then s.raise (.rxTimingMismatch h) [s.rd (Reg.HEAD_FIELD h), w32 period, w32 t.rxLines]
      else s
    else s
  let s := perfHit s 0x40 h.val 0x10 1
  let s := (s.wr (Reg.HEAD_FIELD h) num).wr (Reg.ZL_RX_FRAME h) (frame &&& 0xFFFF001F)
  let s := s.wr64 (Reg.HEAD_FIELD_START_LO h) (Reg.HEAD_FIELD_START_HI h) s.now
  let cur := if t.latched then t.nxt else { t.cur with num := num, cfg := snapshot s h, wb := none, tol := 0xFFFFFFFF }
  let cur := { cur with num := num, cfg := tabSet Reg.reset cur.cfg (Reg.ZL_RX_FRAME h) (frame &&& 0xFFFF001F) }
  let s := putHead s h { t with run := true, rxLast := s.now, rxLines := 0, cur := cur, latched := false, line := none, sending := true }
  let w := wbOf s h
  let s := putWb s h { w with fields := w.fields.map fun x => if cur.wb.isSome ∧ x.num = num then { x with cfg := cur.cfg } else x }
  let s := wbStamp s h num
  let s := putLink s h { linkOf s h with rxLine := none, rxGroups := [], rxErr := none, rxTold := false, rxBlank := 0, rxNext := 0, rxActive := vActive }
  if headState s h = 2 ∧ allLanesUp s h then
    let f := num + 1
    let s := setHeadState s h 3
    let s := if s.b (Reg.HEAD_COMMIT h) 0 then s.wr (Reg.HEAD_COMMIT_FIELD h) f else s
    s.raise (.headActive h) [f]
  else s

/-- The frame word of a FRAME_START payload, as RX_FRAME holds it (R371, R398). -/
def frameWord (p : List Byte) : Word := w32 (leAt p 9 1 % 32 + leAt p 5 2 * 65536)

/-- RX_FRAME_START (R361): a descrambled FRAME_START block is received. One whose CRC does not match is discarded (R371). -/
def execRxFrameStart (h : Fin 4) (payload : List Byte) (s : State) : Host.Outcome State Fault Refusal :=
  .next (if roleCode s (headBase h) = 2 ∧ (headState s h = 2 ∨ headState s h = 3) ∧ controlOk payload ∧ leAt payload 0 1 = 0x55 then
      rxFrameStart s h (frameWord payload) (leAt payload 7 2)
    else s)

/-- A line packet of a RECEIVE head on a lane (R361, R375, R395). Lanes are heard as the module aligned them on MARK_COUNT (R370): their
packets come in line order (log entry 47). -/
def rxPacket (h : Fin 4) (n : Nat) (s : State) (p : RxPacket) : State :=
  if !(decide (roleCode s (headBase h) = 2 ∧ (headState s h = 2 ∨ headState s h = 3) ∧ p.group < 12) && (headOf s h).run) then s
  else
  let x := laneOf s h n
  let bad := !p.valid
  let wrong := decide (n ≠ p.group ∧ n ≠ p.group + 1)
  let one := fun c : PortCount => { c with crc := c.crc + b2n bad }
  let s := putLane s h n { x with a := if n = p.group then one x.a else x.a, b := if n = p.group + 1 then one x.b else x.b }
  let s := if bad then rxError (s.inc (Reg.ZL_RX_CRC_ERR h n)) h p.line else s
  if wrong then rxError (s.inc (Reg.ZL_RX_WRONG_LANE h)) h p.line
  else
    let new := decide ((linkOf s h).rxLine ≠ some p.line)
    let s := if new then rxSkip (rxLineEnds (rxCapture s h) h) h p.line else s
    let t := headOf s h
    let s := if new then
        let s := putHead s h { t with line := some p.line, rxLines := t.rxLines + 65536 + b2n (!p.blank) }
        let s := s.wr (Reg.HEAD_LINE h) (w32 p.line)
        let s := putLink s h { linkOf s h with rxLine := some p.line, rxBlank := b2n p.blank }
        if decide (p.line = latchLine t.cur h) && !t.latched then rxLatch s h else s
      else s
    let s := rxStart s h p
    if bad then s
    else
      let s := if p.repeated then s.inc (Reg.ZL_RX_REPEATS h) else s
      let l := linkOf s h
      let l := { l with rxGroups := if l.rxGroups.contains p.group then l.rxGroups else p.group :: l.rxGroups }
      putLink s h (if !p.repeated && !p.blank then
        { l with rxVals := tabSet (fun _ => []) l.rxVals p.group (rxValues s h p) } else l)

/-- PAYLOAD_BYTES of a group in the frame being received (R372). -/
def rxBytes (s : State) (h g : Nat) : Nat :=
  let fr := s.rd (Reg.ZL_RX_FRAME h)
  payloadBytes g (fld fr 16 16) (8 + 2 * fld fr 0 2)

/-- A block that a receiving lane sees (R369, R371, R395): headers decide lock, and a lane that holds it takes the block. A lane that
resumes from standby is ACTIVE again once it has lock (R383). -/
def rxBlock (h : Fin 4) (n : Nat) (s : State) (q : Block × Nat) : State :=
  let x := laneOf s h n
  let ok := headerOk q.1
  let got := x.header ok
  let y := got.1
  if !x.lock then
    let s := putLane s h n y
    if y.lock && y.resume.isSome then laneActive s h n false else s
  else if !ok then
    let s := (putLane s h n (y.counts fun c => { c with hdr := c.hdr + 1 })).inc (Reg.ZL_HDR_ERR h n)
    let s := got.2.foldl (rxPacket h n) s
    if y.lock then s else laneFail s h n 7 0
  else
    let r := y.block q.1 q.2 (rxBytes s h)
    let s := putLane s h n (r.1.counts fun c => { c with ctl := c.ctl + b2n r.2.2 })
    let s := if r.2.2 then s.inc (Reg.ZL_HDR_ERR h n) else s
    r.2.1.foldl (rxPacket h n) s

/-- The blocks that a receiving lane sees in order; a block lasts 130 UI. -/
def rxFeed (s : State) (h : Fin 4) (n : Nat) (rx : RxBlocks) : State :=
  rx.blocks.zipIdx.foldl (fun s q => rxBlock h n s (q.1, rx.ui + 130 * q.2)) s

/-- The lane listens: it has the RX role and is not OFF, or resumes from standby (R383). -/
def laneHears (s : State) (h n : Nat) : Bool :=
  decide (laneRole s h n = 2) && (decide (laneState s h n ≠ 7) || (laneOf s h n).resume.isSome)

/-- RX_LINE_PACKET (R395): blocks at a lane that holds block lock. -/
def execRxLinePacket (h : Fin 4) (lane : Fin 13) (rx : RxBlocks) (s : State) : Host.Outcome State Fault Refusal :=
  .next (if laneHears s h lane && (laneOf s h lane).lock then rxFeed s h lane rx else s)

/-- BLOCK_LOCK (R369): blocks at a lane that hunts; 64 consecutive valid headers acquire lock. -/
def execBlockLock (h : Fin 4) (lane : Fin 13) (rx : RxBlocks) (s : State) : Host.Outcome State Fault Refusal :=
  .next (if laneHears s h lane && !(laneOf s h lane).lock then rxFeed s h lane rx else s)

/-- BLOCK_LOCK_LOSS (R369): blocks at a lane that holds block lock; with 16 invalid headers in 256 it hunts again, and from ACTIVE
goes to DETECT (R378). -/
def execBlockLockLoss (h : Fin 4) (lane : Fin 13) (rx : RxBlocks) (s : State) : Host.Outcome State Fault Refusal :=
  .next (if laneHears s h lane && (laneOf s h lane).lock && rx.blocks.any (fun b => !headerOk b) then rxFeed s h lane rx else s)

end Sys2Proof.Machine
end

