-- ==== Sys2Proof/Machine/Perf.lean ====
section
/-!
DEFINITION. The PERF pages (R529 to R543): configuration, freeze, clear, dumps and glint records.
-/
namespace Sys2Proof.Machine

/-! ### Counters -/

/-- A write of COUNTER_CFG or PRIV_CFG of a counter (R529, R531, R543). CHAIN is valid on odd privileged counters. -/
def counterCfg (s : State) (c : Nat) (v : Word) : State :=
  let mask : Word := if 256 ≤ c ∧ c % 2 = 1 then 0x03FFFFFF else 0x01FFFFFF
  let v := v &&& mask
  if bit v 24 ∧ !counterCfgOk v then refuse s (cntCfg c) else s.wr (cntCfg c) v

/-- COUNTER_CFG_WRITE (R529, R531). -/
def execCounterCfgWrite (req : Requester) (i : Fin 256) (value : Word) (s : State) : Host.Outcome State Fault Refusal :=
  .next (gated s req (Reg.PERF_COUNTER_CFG i.val) none fun s => counterCfg s i.val value)

/-- The number of a counter in `cntCfg` and its fellows. -/
def cntIndex : PerfCounter → Nat
  | .general i => i.val
  | .privileged j => 256 + j.val

/-- COUNTER_WRAP (R530, R533): `amount` occurrences of an event of the blocks' clocks, with the wrap they may bring. -/
def execCounterWrap (counter : PerfCounter) (amount : Nat) (s : State) : Host.Outcome State Fault Refusal :=
  let c := cntIndex counter
  let w := s.rd (cntCfg c)
  let chained := decide (256 ≤ c ∧ c % 2 = 1) && bit w 25
  .next (if cntRuns s c && !chained && !perfShown (fld w 8 8) (fld w 0 8) then cntAdd s c amount else s)

/-- FREEZE_WRITE (R531): PERF_CTRL. -/
def execFreezeWrite (req : Requester) (value : Word) (s : State) : Host.Outcome State Fault Refusal :=
  .next (gated s req Reg.PERF0_PERF_CTRL none fun s => s.wr Reg.PERF0_PERF_CTRL (value &&& 1))

/-- PERF_CMD.CLEAR (R531). -/
def perfClear (s : State) : State :=
  let s := (List.range 256).foldl (fun s c => s.wr64 (cntLo c) (cntHi c) 0) s
  (List.range 8).foldl (fun s w => s.wr (Reg.PERF_OVF (w / 4) (w % 4)) 0) s

/-- PERF_CMD_CLEAR (R531). -/
def execPerfCmdClear (req : Requester) (s : State) : Host.Outcome State Fault Refusal :=
  .next (gated s req Reg.PERF0_PERF_CMD none perfClear)

/-- A write of PRIV_CTRL (R543). -/
def privCtrlWrite (s : State) (v : Word) : State :=
  let s := s.wr privCtrl (v &&& 1)
  if bit v 1 then ((List.range 16).foldl (fun s j => s.wr64 (cntLo (256 + j)) (cntHi (256 + j)) 0) s).wr privOvf 0 else s

/-! ### Dumps (R534 to R536) -/

/-- The ring is an enabled PERF ring of PERF0 of a type (R534, R539). -/
def perfRing (s : State) (r t : Nat) : Bool :=
  ringEnabled s r && decide (ringType s r = t) && decide (ringOwner s r = (0xC0, 0))

/-- DUMP_CFG.MODE. -/
def dumpMode (s : State) : Nat := s.f Reg.PERF0_DUMP_CFG 0 2

/-- DUMP_RING. -/
def dumpRing (s : State) : Nat := s.f Reg.PERF0_DUMP_RING 0 13

/-- A write of DUMP_CFG (R534). -/
def dumpCfg (s : State) (v : Word) : State :=
  let v := v &&& 0x33
  if fld v 0 2 = 3 ∨ (fld v 0 2 ≠ 0 ∧ enabled s 0xC0000 ∧ !perfRing s (dumpRing s) 0x08) then refuse s Reg.PERF0_DUMP_CFG
  else s.wr Reg.PERF0_DUMP_CFG v

/-- Counters per value entry (R536). -/
def dumpSlots (s : State) (r : Nat) : Nat := if ringEsize s r = 128 then 15 else 7

/-- Entries of a dump of `n` counters. -/
def dumpEntries (s : State) (r n : Nat) : Nat := 1 + (n + dumpSlots s r - 1) / dumpSlots s r

/-- A trigger is missed (R535). -/
def dumpMissed (s : State) : State :=
  let s := { s with perf := { s.perf with missed := s.perf.missed + 1 } }
  let s := s.inc Reg.PERF0_DUMP_MISSED
  s.raise .dumpSkipped [s.rd Reg.PERF0_DUMP_MISSED]

/-- A trigger takes a snapshot, or is missed (R535): 0 command, 1 period, 2 field. In FIELD mode every dump holds the head's FIELD
(R536). -/
def takeDump (s : State) (trigger : Nat) : State :=
  let r := dumpRing s
  let first := s.f Reg.PERF0_DUMP_SEL 0 8
  let n := s.f Reg.PERF0_DUMP_SEL 16 9
  if s.perf.dump.isSome || !perfRing s r 0x08 || decide (ringCount s r < ringFill s r + dumpEntries s r n) then dumpMissed s
  else
    let vals := (List.range n).map fun k => (s.rd64 (cntLo (first + k)) (cntHi (first + k)), s.b (cntOvf (first + k)) (cntBit (first + k)))
    let f := if dumpMode s = 2 then s.rd (Reg.HEAD_FIELD (s.f Reg.PERF0_DUMP_CFG 4 2)) else 0
    { s with perf := { s.perf with dump := some ⟨trigger, s.now, first, f, s.perf.missed, vals⟩, missed := 0 } }

/-- Triggers occur: PERF0 enabled, not in STANDBY (R532). -/
def dumpsOn (s : State) : Bool := s.on && enabled s 0xC0000 && decide (s.powerState ≠ 2)

/-- PERF_CMD_DUMP (R534): a dump once, in any mode. -/
def execPerfCmdDump (req : Requester) (s : State) : Host.Outcome State Fault Refusal :=
  .next (gated s req Reg.PERF0_PERF_CMD none fun s => if dumpsOn s then takeDump s 0 else s)

/-- Device time is at a multiple of DUMP_PERIOD, within a tick of the time clock (R534). -/
def periodDue (s : State) : Bool := decide (s.now % (s.rdN Reg.PERF0_DUMP_PERIOD * 1000) < 5)

/-- DUMP_TRIGGER (R534): at a period, or at a field start of the head in HEAD. -/
def execDumpTrigger (byField : Option (Fin 4)) (s : State) : Host.Outcome State Fault Refusal :=
  .next (
    if !dumpsOn s then s
    else match byField with
      | none => if dumpMode s = 1 ∧ periodDue s then takeDump s 1 else s
      | some h =>
        if dumpMode s = 2 ∧ s.f Reg.PERF0_DUMP_CFG 4 2 = h.val ∧ (headOf s h).run then takeDump s 2 else s)

/-- The value entries of a dump (R536), `n` counters each: `fuel` entries from counter `c`. -/
def valueEntries (n : Nat) (seq : Word) : Nat → Nat → List (Nat × Bool) → List (Nat → List Byte)
  | 0, _, _ => []
  | fuel + 1, c, l =>
    (fun phase => leBytes 4 (2 + phase * 32768 + c * 65536) ++ leBytes 4 seq.toNat
      ++ (l.take n).flatMap fun v => leBytes 8 (v.1 + b2n v.2 * 2 ^ 48)) :: valueEntries n seq fuel (c + n) (l.drop n)

/-- The entries of a dump, each from its PHASE (R536). -/
def dumpBytes (s : State) (r : Nat) (d : Dump) (seq : Word) : List (Nat → List Byte) :=
  let n := d.values.length
  (fun phase => leBytes 4 (1 + phase * 32768 + d.trigger * 65536) ++ leBytes 4 seq.toNat ++ leBytes 8 d.time
    ++ leBytes 4 d.first ++ leBytes 4 n ++ leBytes 4 d.missed ++ leBytes 4 d.field.toNat)
  :: valueEntries (dumpSlots s r) seq (dumpEntries s r n - 1) d.first d.values

/-- Writes entries at PROD + `k` and on, without moving PROD. -/
def putEntries (s : State) (r k : Nat) : List (Nat → List Byte) → State
  | [] => s
  | e :: t =>
    let i := s.rd (Reg.RING_PROD r) + w32 k
    let n := ringEsize s r
    let b := (e (1 - (i.toNat / ringCount s r) % 2) ++ List.replicate n 0).take n
    putEntries (memWrite s (ringHost s r) 5 (entryAddr s r i) b) r (k + 1) t

/-- DUMP_WRITE_COMPLETE (R535, R536): the whole dump is in the ring and PROD advances once. A dump for which the ring, since the trigger,
no longer has space is missed, as at the trigger (log entry 8). -/
def execDumpWriteComplete (s : State) : Host.Outcome State Fault Refusal :=
  .next (match s.perf.dump with
    | none => s
    | some d =>
      if s.powerState = 2 then s
      else
        let r := dumpRing s
        let s := { s with perf := { s.perf with dump := none } }
        if !perfRing s r 0x08 then { s with perf := { s.perf with missed := s.perf.missed + d.missed } }
        else if ringCount s r < ringFill s r + dumpEntries s r d.values.length then
          dumpMissed { s with perf := { s.perf with missed := s.perf.missed + d.missed } }
        else
          let seq := s.rd Reg.PERF0_DUMP_SEQ + 1
          let l := dumpBytes s r d seq
          let s := (putEntries s r 0 l).wr Reg.PERF0_DUMP_SEQ seq
          ringSignal (s.wr (Reg.RING_PROD r) (s.rd (Reg.RING_PROD r) + w32 l.length)) r)

/-! ### Glint records (R539 to R541) -/

/-- A write of GLINT_CTRL (R539): EN needs its ring, and RATE_LOG2 is 12 to 30. -/
def glintCtrl (s : State) (v : Word) : State :=
  let v := v &&& 0x1FF3
  if fld v 8 5 < 12 ∨ 30 < fld v 8 5 ∨ (bit v 0 ∧ !perfRing s (s.f Reg.PERF0_GLINT_RING 0 13) 0x09) then
    refuse s Reg.PERF0_GLINT_CTRL
  else s.wr Reg.PERF0_GLINT_CTRL v

/-- The 64 bytes of a glint record (R539). A stage not reached reads 0xFFFF_FFFF; what a ray without a value, or one that was not sent,
would show of it is free. The last tap of a ray may be available although its value was not delivered. -/
def glintBytes (s : State) (h : Nat) (r : GlintRay) (t : GlintStages) (seq : Word) (phase : Nat) : List Byte :=
  let no : Word := 0xFFFFFFFF
  let free := Config.freeWord s.freeCount
  let got := r.value.getD (free.toNat % 4096, free.toNat / 4096 % 4096)
  let c := got.1
  let a := got.2
  let flags := 1 + phase * 32768 + h * 65536 + b2n r.valid * 2 ^ 18 + b2n r.clear * 2 ^ 19 + r.ch * 2 ^ 20
    + b2n r.eclipsed * 2 ^ 22 + b2n r.repeated * 2 ^ 23 + b2n r.abandoned * 2 ^ 24 + b2n r.target * 2 ^ 25
  let fill := if r.taps = 0 then 0 else t.dFill
  let value := if r.value.isNone then no else t.dValue
  let margin := if r.value.isNone then Config.freeWord (s.freeCount + 1) else r.deadline - (t.issue + t.dValue)
  let composed := if r.repeated || r.abandoned then no else t.dComposed
  let sent := if r.abandoned then no else t.dSent
  wordsBytes [w32 flags, seq, r.field, w32 (r.x + r.y * 65536), t.issue, t.dMap, fill, value, composed, sent,
    w32 (r.taps + r.misses * 65536), w32 (r.steps + min t.inflight 65535 * 65536), w32 (c + a * 65536),
    w32 (r.composed + r.output * 65536), margin, w32 (r.lane.getD ((Config.freeWord (s.freeCount + 2)).toNat % 16) + r.level * 256)]

/-- GLINT_RECORD_WRITE (R539, R541): the oldest tagged ray of the head, once its last stage is settled. -/
def execGlintRecordWrite (h : Fin 4) (stages : GlintStages) (s : State) : Host.Outcome State Fault Refusal :=
  .next (
    let g := glintOf s h
    match g.rays with
    | [] => s
    | r :: rest =>
      if !r.ended || decide (s.powerState = 2) then s
      else
        let q := s.f Reg.PERF0_GLINT_RING 0 13
        let s := putGlint s h { g with rays := rest }
        let b := glintBytes s h r stages (s.perf.seq + 1) (ringPhase s q)
        match (if perfRing s q 0x09 then ringPush s.useFree.useFree.useFree q b else none) with
        | some s => { s with perf := { s.perf with seq := s.perf.seq + 1 } }
        | none =>
          let s := s.inc Reg.PERF0_GLINT_DROPPED
          s.raise .glintLost [s.rd Reg.PERF0_GLINT_DROPPED])

/-! ### Enable, disable, reset (R532) -/

/-- PERF0.ENABLE goes to 1, with PERF1 (R532, R534). -/
def perfEnable (s : State) (a : Nat) : State :=
  if enabled s 0xC0000 then s
  else if !quiesced s 0xC0000 || (decide (dumpMode s ≠ 0) && !perfRing s (dumpRing s) 0x08) then refuse s a
  else
    [0xC0000, 0xC1000].foldl setOn s

/-- PERF0.ENABLE goes to 0, with PERF1 (R532). -/
def perfDisable (s : State) (abort : Bool) : State :=
  let s := [0xC0000, 0xC1000].foldl (fun s b => setOff s b abort) s
  let s := (List.range 4).foldl (fun s h =>
    let g := glintOf s h
    let n := if abort then g.rays.length else 0
    (putGlint s h { g with en := false, on := false, rays := if abort then [] else g.rays }).incBy Reg.PERF0_GLINT_DROPPED n) s
  match s.perf.dump with
  | some d => if abort then { s with perf := { s.perf with dump := none, missed := s.perf.missed + d.missed } } else s
  | none => s

/-- The in-flight work of PERF0 has ended (R532). -/
def perfQuiet (s : State) : Bool := s.perf.dump.isNone && (List.range 4).all fun h => (glintOf s h).rays.isEmpty

/-- The glint state is zeroed by a soft reset (R532). -/
def perfReset (s : State) : State := { s with perf := ⟨none, 0, [], 0⟩ }

end Sys2Proof.Machine
end

