-- ==== Sys2Proof/Machine/Pages.lean ====
section
/-!
DEFINITION. Block pages as units (R50, R51, R103 to R110): enable, disable, abort, quiescence, soft reset and roles.
-/
namespace Sys2Proof.Machine

/-! ### Pages and their work -/

/-- The pages that a PAGE_CTRL acts on: SCHED0 and PERF0 govern their second pages (R147, R532). -/
def ctrlPages (b : Nat) : List Nat :=
  if b = 0x11000 ∨ b = 0x12000 then [0x11000, 0x12000] else if b = 0xC0000 ∨ b = 0xC1000 then [0xC0000, 0xC1000] else [b]

/-- The type code of the page at a base; 0 for none. -/
def pageTyp (b : Nat) : Nat := match pageAt b with | some p => p.typ | none => 0

/-- The base of the page that an address lies in. -/
def pageOf (a : Nat) : Nat := a - a % 0x1000

/-- The head whose group holds a page. -/
def headFin (b : Nat) : Fin 4 := Fin.ofNat 4 ((b - 0x40000) / 0x10000)

/-- Accepted jobs of the rings that a page owns. -/
def pageJobs (s : State) (b : Nat) : List Job := s.ring.jobs.filter fun j => decide (ownerBase (ringOwner s j.ring) = b)

/-- A completion record of the page's rings is not written yet. -/
def pageOwes (s : State) (b : Nat) : Bool :=
  (s.ring.held ++ s.ring.ready).any fun c =>
    match c.jobRing with | some r => decide (ownerBase (ringOwner s r) = b) | none => false

/-- The layer of its head that a LAYER page holds. -/
def layerOfPage (b : Nat) : Nat := (b - 0x43000) % 0x10000 / 0x1000

/-- The fields that a head produces or will produce: the one being sent, and the one that its latch has fixed. -/
def fieldsNow (s : State) (h : Nat) : List FieldSt :=
  let t := headOf s h
  if !t.run then [] else t.cur :: (if t.latched then [t.nxt] else [])

/-- A page of the head's group, enabled at the latch of field `F`, has work left in it (R297, R322). -/
def fieldBusy (h b : Nat) (F : FieldSt) : Bool :=
  F.produced && decide (F.next < F.vActive h) && F.b (Reg.PAGE_CTRL b) 0 &&
  !(decide (pageTyp b = 0x41) && F.noRays F.next) && !(decide (pageTyp b = 0x43) && F.dropped.contains (layerOfPage b))

/-- A page of the head's group has work left in a field of the head. -/
def producing (s : State) (h b : Nat) : Bool := (fieldsNow s h).any (fieldBusy h b)

/-- The fields of a head with a change to each. -/
def mapFields (s : State) (h : Nat) (g : FieldSt → FieldSt) : State :=
  let t := headOf s h
  putHead s h { t with cur := g t.cur, nxt := if t.latched then g t.nxt else t.nxt }

/-- The page holds no accepted work (R50, R108), as each chapter says what its work is. -/
def pageIdle (s : State) (b : Nat) : Bool :=
  let t := pageTyp b
  let h := (headFin b).val
  (pageJobs s b).isEmpty && !pageOwes s b &&
  (if t = 0x11 then (armedSlots s).isEmpty
   else if t = 0x30 then s.ing.lanes.isEmpty
   else if t = 0x31 then (engOf s ((b - 0x31000) / 0x1000)).run.isNone
   else if t = 0x40 then !(headOf s h).run && (headOf s h).wb.fields.isEmpty && (pendingLines s h).isEmpty
   else if t = 0x41 then !producing s h b && (pendingLines s h).isEmpty
   else if t = 0x43 then !producing s h b
   else if t = 0x45 then laneList.all fun n => decide (laneState s h n = 7)
   else if t = 0x46 then (linkOf s h).req.isNone
   else if t = 0x80 then decide (kState s ≠ 2 ∧ kState s ≠ 3 ∧ kState s ≠ 5 ∧ kState s ≠ 6)
   else if t = 0x81 then optQuiet s
   else if t = 0xA0 then portQuiet s ((b - 0xA0000) / 0x1000)
   else if t = 0xC0 then perfQuiet s
   else true)

/-! ### Abort -/

/-- An accepted job whose outcome is not yet decided ends ABORTED (R108, R112, R249, R497). -/
def abortJob (s : State) (j : Job) : State :=
  let o := ringOwner s j.ring
  if o.1 = 0x31 then
    match (engOf s o.2).run with
    | some r => if r.job = j then stopJob s o.2 r 0x02 else finishJob s j 0x02 []
    | none => finishJob s j 0x02 []
  else if o.1 = 0xA0 then
    let x := portOf s o.2
    match x.queue.find? fun b => decide (b.job = j) with
    | some b => playDone (putPort s o.2 { x with queue := x.queue.erase b }) b 0x02
    | none => finishJob s j 0x02 []
  else if o.1 = 0x46 then
    let l := linkOf s o.2
    let mine := match l.req with | some q => decide (q.job = some j) | none => false
    finishJob (if mine then putLink s o.2 { l with req := none } else s) j 0x02 []
  else finishJob s j 0x02 []

/-- An abort that arrives now reaches the decision point before the outcome of an accepted job is decided (R112). -/
def abortWins (s : State) (j : Job) : Bool :=
  let o := ringOwner s j.ring
  match (engOf s o.2).run with
  | some r => !(decide (o.1 = 0x31) && decide (r.job = j) && ownOutcome s r)
  | none => true

/-- Every accepted job of a list ends ABORTED. -/
def abortJobs (s : State) (l : List Job) : State := l.foldl abortJob s

/-- The RGU stops under ABORT: every ray from the first line not wholly delivered is (0, 0) (R297). -/
def rguAbort (s : State) (h : Fin 4) (b : Nat) : State :=
  let s := if fieldBusy h b (prodField s h) then cutRays s h else s
  showIssuing (mapFields s h fun F => if fieldBusy h b F && F.cut.isNone then { F with cut := some F.next } else F) h

/-- A layer stops under ABORT: it is transparent from the first line not yet composed (R322). -/
def layerAbort (s : State) (h : Nat) (b : Nat) : State :=
  mapFields s h fun F => if fieldBusy h b F then { F with dropped := layerOfPage b :: F.dropped } else F

/-- The work that a disabled page still holds is aborted (R108, R109). -/
def abortWork (s : State) (b : Nat) : State :=
  let t := pageTyp b
  let h := headFin b
  if t = 0x11 then (armedSlots s).foldl slotAborted s
  else if t = 0x30 then abortJobs (unlane s fun _ => false) (pageJobs s b)
  else if t = 0x40 then (if headState s h = 4 ∧ (headOf s h).run then headOffCmd s h true else s)
  else if t = 0x41 then rguAbort s h b
  else if t = 0x43 then layerAbort s h b
  else if t = 0x81 then optDisable s true
  else if t = 0xC0 then perfDisable s true
  else if t = 0xA0 ∨ t = 0x45 then s
  else abortJobs s (pageJobs s b)

/-! ### Enable and disable -/

/-- A write of 1 to ENABLE of a page that was disabled (R110), as its chapter says. -/
def pageStart (s : State) (b : Nat) : State :=
  let t := pageTyp b
  let h := headFin b
  if t = 0x40 then headOnCmd s h
  else if t = 0x81 then optEnable s
  else if t = 0xA0 then portEnable s ((b - 0xA0000) / 0x1000)
  else if t = 0xC0 then perfEnable s (Reg.PAGE_CTRL b)
  else if !quiesced s b then refuse s (Reg.PAGE_CTRL b)
  else if t = 0x45 then zlEnable s h
  else if t = 0x30 then dispatch (setOn s b)
  else (ctrlPages b).foldl setOn s

/-- A write of 1 to ENABLE (R110). DESIGN CHOICE (log entry 46): R110 is read of a unit whose ENABLE is 0; on an enabled page the
write has no effect and is not refused. -/
def pageOn (s : State) (b : Nat) : State := if enabled s b then s else pageStart s b

/-- ENABLE of an enabled page goes from 1 to 0 (R108), as its chapter says. -/
def pageStop (s : State) (b : Nat) (abort : Bool) : State :=
  let t := pageTyp b
  let h := headFin b
  if t = 0x40 then headOffCmd s h abort
  else if t = 0x45 then (if headState s h = 0 then zlOff s h abort else refuse s (Reg.PAGE_CTRL b))
  else if t = 0xA0 then portDisable s ((b - 0xA0000) / 0x1000) abort
  else if t = 0x81 then optDisable s abort
  else if t = 0xC0 then perfDisable s abort
  else
    let s := (ctrlPages b).foldl (fun s b => setOff s b abort) s
    if abort then abortWork s b else s

/-- A write of DISABLE_MODE (R109): 1 during a drain turns it into an abort, and 0 during an abort has no effect. -/
def modeWrite (s : State) (b : Nat) (abort : Bool) : State :=
  let store := fun s => (ctrlPages b).foldl (fun s b => s.setB (Reg.PAGE_CTRL b) 1 abort) s
  if enabled s b ∨ quiesced s b then store s
  else if abort then abortWork (store s) b
  else s

/-- A write of 0 to ENABLE (R50, R108). -/
def pageOff (s : State) (b : Nat) (abort : Bool) : State :=
  if enabled s b && !alwaysEnabled (pageTyp b) then pageStop s b abort else modeWrite s b abort

/-- PAGE_ENABLE (R110). -/
def execPageEnable (req : Requester) (page : Nat) (s : State) : Host.Outcome State Fault Refusal :=
  let b := pageOf page
  .next (gated s req (Reg.PAGE_CTRL b) none fun s => pageOn s b)

/-- PAGE_DISABLE (R108). -/
def execPageDisable (req : Requester) (page : Nat) (abort : Bool) (s : State) : Host.Outcome State Fault Refusal :=
  let b := pageOf page
  .next (gated s req (Reg.PAGE_CTRL b) none fun s => pageOff s b abort)

/-- DISABLE_MODE_WRITE (R109). -/
def execDisableModeWrite (req : Requester) (page : Nat) (abort : Bool) (s : State) : Host.Outcome State Fault Refusal :=
  let b := pageOf page
  .next (gated s req (Reg.PAGE_CTRL b) none fun s => modeWrite s b abort)

/-! ### Quiescence -/

/-- A disabled page's work has ended (R108): QUIESCED is set, and a head or port is DISABLED. -/
def pageQuiet (s : State) (b : Nat) : State :=
  let t := pageTyp b
  let s := (ctrlPages b).foldl (fun s b => s.setB (Reg.PAGE_STATUS b) 0 true) s
  if t = 0x40 then disabledTxns (setHeadState s (headFin b) 0) (headFin b)
  else if t = 0xA0 then setPortState s ((b - 0xA0000) / 0x1000) 0
  else s

/-- QUIESCENCE (R108): of a page, a ring, or a lane that is OFF and silent (R384). -/
def execQuiescence (unit : QuietUnit) (s : State) : Host.Outcome State Fault Refusal :=
  .next (match unit with
    | .page a =>
      let b := pageOf a
      if !enabled s b && !quiesced s b && (pageAt b).isSome && pageIdle s b then pageQuiet s b else s
    | .ring r => if ringIsQuiet s r then s.setB (Reg.RING_STATUS r) 0 true else s
    | .lane h n =>
      if laneState s h n = 7 ∧ !s.b (Reg.ZL_LANE_STATUS h n) 9 ∧ !prbsGens s h n then s.setB (Reg.ZL_LANE_STATUS h n) 3 true else s)

/-! ### Soft reset (R51) -/

/-- A SOFT_RESET request. -/
def softResetCmd (s : State) (b : Nat) : State :=
  if !enabled s b && quiesced s b then (ctrlPages b).foldl (fun s b => s.setB (Reg.PAGE_CTRL b) 2 true) s
  else refuse s (Reg.PAGE_CTRL b)

/-- SOFT_RESET (R51). -/
def execSoftReset (req : Requester) (page : Nat) (s : State) : Host.Outcome State Fault Refusal :=
  let b := pageOf page
  .next (gated s req (Reg.PAGE_CTRL b) none fun s => softResetCmd s b)

/-- Words of a page's configuration and status regions that a soft reset leaves as a whole: the RAIL pages, which after a
logic-side reset read what the keeper holds (R404), TERMINATIONS, which the journal keeps (R456), and CORE_MASK, since retirement lasts until LVIN is removed (R227); and
the words of which it leaves a part (`softLive`), the sensors among them, since a FAILED sensor stays FAILED until LVIN is next
applied (R506). -/
def softKeeps (a : Nat) : Bool :=
  decide (0x80000 ≤ a ∧ a < 0x83000) || decide (Reg.THERM_SENSOR 0 ≤ a ∧ a ≤ Reg.THERM_SENSOR 47) ||
  [Reg.OPT_TERMINATIONS, Reg.CODEC_CORE_MASK, Reg.THERM_POWER_STATUS, Reg.NET_LINK_STATUS 0, Reg.NET_LINK_STATUS 1].contains a

/-- Words of which a soft reset leaves the fields that report what the page does not hold: the power state of the module (R518)
and the module in a port's cage (R580). DESIGN CHOICE (log entry 41). The other fields return to reset: LAST_WAKE reads 1, the
port's link is down, and a sensor keeps FAILED alone (R506). -/
def softLive (s : State) (b : Nat) : State :=
  if b = 0xB0000 then
    (List.range 48).foldl (fun s i =>
      s.wr (Reg.THERM_SENSOR i) (if s.f (Reg.THERM_SENSOR i) 16 2 = 2 then 0x20000 else 0)) (s.setF Reg.THERM_POWER_STATUS 6 3 1)
  else if b = 0x20000 ∨ b = 0x21000 then
    let a := Reg.NET_LINK_STATUS ((b - 0x20000) / 0x1000)
    s.wr a (w32 (4 * s.f a 2 2))
  else s

/-- A word of the regions that a soft reset of page `b` returns to reset. -/
def softClears (b a : Nat) : Bool := decide (b + 0x100 ≤ a ∧ a < b + 0xC00) && !softKeeps a

/-- What a block holds beyond its registers, after a soft reset. -/
def softInner (s : State) (b : Nat) : State :=
  let t := pageTyp b
  let h := (headFin b).val
  if t = 0x11 then { s with sched := { s.sched with late := [], lastHost := 0, lastMgmt := 0 } }
  else if t = 0x21 then { s with ing := { s.ing with slots := [], rx := [], stores := [], lanes := [] } }
  else if t = 0x30 then { s with ing := { s.ing with loads := [], loadHigh := false } }
  else if t = 0x31 then putEng s ((b - 0x31000) / 0x1000) ⟨none, 0⟩
  else if t = 0x40 then putHead s h { HeadSt.fresh with gen := (headOf s h).gen }
  else if t = 0x45 then putLink s h { LinkSt.fresh with misses := (linkOf s h).misses, req := (linkOf s h).req }
  else if t = 0x46 then putLink s h { linkOf s h with req := none, misses := [] }
  else if t = 0x81 then optShow (resetGeom s)
  else if t = 0xA0 then putPort s ((b - 0xA0000) / 0x1000) PortSt.fresh
  else if t = 0xB0 then { s with therm := { s.therm with zones := [], sensors := [] } }
  else if t = 0xC0 then
    let s := (List.range 8).foldl (fun s w => s.wr (Reg.PERF_OVF (w / 4) (w % 4)) 0) s
    perfReset (s.wrAll [(Reg.PERF0_GLINT_TAGGED, 0), (Reg.PERF0_GLINT_SUPPRESSED, 0), (Reg.PERF0_GLINT_DROPPED, 0)])
  else s

/-- The page's stored words return to reset. -/
def softRegs (s : State) (b : Nat) : State := { s with regs := s.regs.filter fun p => !softClears b p.1 }

/-- The page's values in effect return to reset. -/
def softEff (s : State) (b : Nat) : State := { s with eff := s.eff.filter fun p => !softClears b p.1 }

/-- A soft reset acts on a page. MCLK, which SAP0 drives, stops with its MCLK_CFG (R487). -/
def softResetPage (s : State) (b : Nat) : State :=
  let s := if b = 0xA0000 ∧ s.b Reg.SAPM_MCLK_CFG 0 then mclkWrite s 0 else s
  (softLive (softInner (softEff (softRegs s b) b) b) b).setB (Reg.PAGE_CTRL b) 2 false

/-- SOFT_RESET_COMPLETE (R51). -/
def execSoftResetComplete (page : Nat) (s : State) : Host.Outcome State Fault Refusal :=
  let b := pageOf page
  .next (if s.on && (pageAt b).isSome && s.b (Reg.PAGE_CTRL b) 2 then (ctrlPages b).foldl softResetPage s else s)

/-! ### Roles (R103, R105) -/

/-- The listed role codes of a page's unit; RECEIVE needs ANALYSER_RX. -/
def roleListed (s : State) (t code : Nat) : Bool :=
  if t = 0x40 then decide (code ≤ 1) || (decide (code = 2) && s.feat 5)
  else if t = 0x30 then decide (code ≤ 1)
  else if t = 0x31 then decide (code ≤ 3)
  else decide (code ≤ 2)

/-- The register that a role write addresses. -/
def roleReg : RoleTarget → Nat
  | .page a => Reg.PAGE_ROLE (pageOf a)
  | .lane h n => Reg.ZL_LANE_ROLE h n

/-- A write of a role that passed the guards (R50, R105). A lane takes LOOP only while its head is DISABLED (R384). -/
def roleCmd (s : State) (target : RoleTarget) (v : Word) : State :=
  let a := roleReg target
  let code := fld v 0 8
  match target with
  | .page p =>
    let b := pageOf p
    if !hasRole (pageTyp b) then s
    else if !enabled s b && quiesced s b && roleListed s (pageTyp b) code then giveRole s a code
    else refuse s a
  | .lane h n =>
    if !s.b (Reg.ZL_LANE_CTRL h n) 0 && s.b (Reg.ZL_LANE_STATUS h n) 3 && decide (code ≤ 4 ∧ (code = 3 → headState s h = 0)) then giveRole s a code
    else refuse s a

/-- A role write. ROLE lies outside the regions that MGMT_HELD closes (R52): on a held page without a role it is ignored as on
any such page (R50), and a held page with a role is enabled, so R105 refuses it. -/
def roleWrite (s : State) (req : Requester) (target : RoleTarget) (v : Word) : State :=
  let a := roleReg target
  if cfgGate s req a none = .refused ∧ s.powerState ≠ 2 ∧ a % 0x1000 = 0x20 ∧ !hasRole (pageTyp (pageOf a)) then s
  else gated s req a none fun s => roleCmd s target v

/-- ROLE_WRITE (R105). -/
def execRoleWrite (req : Requester) (target : RoleTarget) (value : Word) (s : State) : Host.Outcome State Fault Refusal :=
  .next (roleWrite s req target value)

end Sys2Proof.Machine
end

