-- ==== Sys2Proof/Machine/Reads.lean ====
section
/-!
DEFINITION. Reads of BAR0 (R48, R50, R57 to R60, R79): what each word reads, the latches of 64-bit registers, and values that
are measured and not stored.
-/
namespace Sys2Proof.Machine

/-! ### 64-bit registers (R57) -/

/-- The low words of read-only 64-bit registers of a page. -/
def lowPage (typ inst o : Nat) : Bool :=
  if typ = 0x01 then decide (o = 0x810)
  else if typ = 0x05 then decide (o = 0x830 ∨ o = 0x838)
  else if typ = 0x10 then
    decide (o = 0x800 ∨ o = 0x808 ∨ o = 0x810 ∨ (0x840 ≤ o ∧ o < 0x8C0 ∧ o % 0x40 ∈ [0x04, 0x14, 0x1C]) ∨
      (0x900 ≤ o ∧ o < 0x940 ∧ o % 8 = 0))
  else if typ = 0x20 then decide (o = 0x808 ∨ o = 0x810)
  else if typ = 0x30 then decide (o = 0x808)
  else if typ = 0x31 then decide (o = 0x808 ∨ o = 0x810)
  else if typ = 0x40 then decide (o = 0x810 ∨ o = 0x818)
  else if typ = 0x41 then decide (0x850 ≤ o ∧ o < 0x870 ∧ o % 8 = 0)
  else if typ = 0x43 then decide (o = 0x804 ∨ o = 0x81C)
  else if typ = 0x44 then decide (o = 0x804)
  else if typ = 0x45 then decide ((0x900 ≤ o ∧ o < 0x9D0 ∧ o % 16 = 4) ∨ o = 0xB04)
  else if typ = 0x81 then decide (o = 0x818)
  else if typ = 0x90 then
    (if inst = 0 then decide (0x820 ≤ o ∧ o < 0x850 ∧ o % 8 = 0) else if inst = 3 then decide (o = 0x810)
     else if inst = 4 then decide (o = 0x804 ∨ o = 0x814) else false)
  else if typ = 0xA0 then decide (o = 0x804 ∨ o = 0x80C ∨ o = 0x814 ∨ o = 0x820)
  else if typ = 0xC0 then decide (0x800 ≤ o ∧ o < 0xC00 ∧ o % 8 = 0)
  else if typ = 0xC1 then decide (0x800 ≤ o ∧ o < 0x880 ∧ o % 8 = 0)
  else false

/-- The word is the low word of a 64-bit register. DEDUCED: an entry of the ray-cache directory, which R296 gives as 8 B,
is one. -/
def readLow (a : Nat) : Bool :=
  isLowWord a ||
  match pageAt a with
  | some p => lowPage p.typ p.inst (a - p.base)
  | none => decide (0x380000 ≤ a ∧ a < 0x400000 ∧ a % 8 = 0)

/-- The key of a requester's latch for the 64-bit register whose low word lies at `lo`. -/
def busKey (r : Requester) (lo : Nat) : Nat := 2 * lo + reqNum r

/-- The high word last latched by a requester; 0 if never loaded. -/
def latched (s : State) (r : Requester) (lo : Nat) : Word := tabGet (fun _ => 0) s.bus.latch (busKey r lo)

/-- The state with a requester's latch loaded. -/
def setLatch (s : State) (r : Requester) (lo : Nat) (v : Word) : State :=
  { s with bus := { s.bus with latch := tabSet (fun _ => 0) s.bus.latch (busKey r lo) v } }

/-! ### PAGE_FEAT and PAGE_STATUS (R50, R79) -/

/-- PAGE_FEAT (R79). -/
def pageFeat (s : State) (typ : Nat) : Word :=
  (gateBits typ).foldl (fun w i => if s.feat i then setFld w i 1 1 else w) 1

/-- No flow with DUP hears both paths: SPARES.PATHS (R546). DESIGN CHOICE (log entry 43): it reads 0 while no flow has DUP. -/
def pathsSpare (s : State) : Bool :=
  let dup := (validFlows s).filter fun i => s.b (Reg.FLOW_FLOW_CTRL i) 4
  !dup.isEmpty && dup.all fun i => s.b (Reg.FLOW_PATH_STALE i) 16 && s.b (Reg.FLOW_PATH_STALE i) 17

/-- Domain B could serve: SPARES.DOMAIN (R546). -/
def domainSpare (s : State) : Bool := decide (domState s 1 = 3 ∧ (domOffset s 1).natAbs ≤ jumpThreshold s)

/-- A reported cause lasts. -/
def lasts_ (s : State) : Lasting → Bool
  | .pcie => !s.power.pcieUp
  | .pps => decide (domMode s 0 = 3) && !s.b Reg.TIME_TIME_STATUS 5
  | .port p => !s.b (Reg.NET_LINK_STATUS p) 0
  | .thermistor t => !s.b (Reg.RAIL1_TEMP t) 16
  | .head h => decide (headState s h = 2)
  | .spare 0 h => !s.b (Reg.ZL_SPARE_STATUS h) 4
  | .spare 1 _ => (freeSpares s).isEmpty
  | .spare 2 r => decide (1 ≤ phasesFailed s r)
  | .spare 3 _ => !domainSpare s
  | .spare 4 _ => !pathsSpare s
  | .spare _ z => decide ((okSensors s z).length < 3)

/-- A cause has been reported and lasts. -/
def toldLasts (s : State) (c : Lasting) : Bool := s.power.told.contains c && lasts_ s c

/-- A rail's fault that lasts (R410, R415, R417, R418). -/
def railFaulty (s : State) (r : Nat) : Bool :=
  decide (railState s r = 4 ∨ railState s r = 5 ∨ 2 ≤ phasesFailed s r ∨ 2 ≤ preCode s r) || s.b (Reg.RAIL0_RAIL_STATUS r) 7

/-- Faults that last, of the pages of a head. -/
def headFault (s : State) (t h b : Nat) : Bool :=
  if t = 0x40 then toldLasts s (.head h) || decide (s.f (Reg.HEAD_HEAD_STATUS h) 8 8 ≠ 0) || (linkOf s h).rxTold
  else if t = 0x41 then s.b (Reg.RGU_RGU_STATUS h) 1
  else if t = 0x43 then s.b (b + 0x800) 1
  else if t = 0x45 then
    decide (s.f (Reg.ZL_SPARE_STATUS h) 16 12 ≠ 0) || (linkOf s h).gapTold || laneList.any fun n => decide (laneState s h n = 6)
  else if t = 0x46 then (List.range 12).any fun g => decide (3 ≤ tabGet (fun _ => 0) (linkOf s h).misses g)
  else false

/-- Faults that last, of the pages of the keeper. -/
def keeperFault (s : State) (inst : Nat) : Bool :=
  if inst = 0 then
    railList.any (railFaulty s) || s.keeper.limiting || s.keeper.pvlTold || s.b Reg.RAIL2_KEEPER_STATUS 5 ||
      decide (kState s = 6 ∨ (kState s = 0 ∧ s.rdN Reg.RAIL2_HVIN_LOSSES ≠ 0))
  else if inst = 1 then
    (List.range 4).any (fun h => decide (s.f (Reg.RAIL1_GATE_STATUS h) 0 17 ≠ 0)) || (List.range 6).any (crackLatched s) ||
      (List.range 8).any fun t => toldLasts s (.thermistor t)
  else decide (kState s = 7) || s.keeper.linkGone

/-- Faults that last, of the memory pages. -/
def memFault (s : State) (inst : Nat) : Bool :=
  if inst = 0 then s.mem.heldSince.isSome
  else if inst = 3 then decide (poisonCount s ≠ 0)
  else if inst = 4 then
    !s.mem.safe.isEmpty || s.mem.shrink.isSome || !s.mem.dead.isEmpty || decide (s.mem.lost ≠ 0) ||
      (memReady s && (freeSpares s).isEmpty)
  else false

/-- PAGE_STATUS.FAULT: a fault reported at DEGRADED or IMPACT whose cause persists (R50). DEDUCED (log entry 43): the
conditions that the state shows to last, by the events of each page. -/
def pageFault (s : State) (p : PageId) : Bool :=
  let t := p.typ
  if t = 0x01 then toldLasts s .pcie
  else if t = 0x03 then
    (enabledRings s).any fun r => s.b (Reg.RING_STATUS r) 2 && (tabGet (fun _ => none) s.ring.stallAt r).isNone
  else if t = 0x05 then s.power.told.any fun c => match c with | .spare k u => lasts_ s (.spare k u) | _ => false
  else if t = 0x10 then
    (List.range 2).any (fun d => decide (domState s d = 4 ∨ domState s d = 5)) || toldLasts s .pps ||
      (s.b Reg.TIME_TIME_CTRL 0 && s.time.refMoved && !s.time.refExt)
  else if t = 0x20 then toldLasts s (.port p.inst)
  else if t = 0x21 then
    (validFlows s).any fun i => s.b (Reg.FLOW_FLOW_CTRL i) 4 &&
      !(s.b (Reg.FLOW_PATH_STALE i) 16 && s.b (Reg.FLOW_PATH_STALE i) 17)
  else if t = 0x30 then s.ing.loadHigh
  else if 0x40 ≤ t ∧ t ≤ 0x46 then headFault s t (headFin p.base).val p.base
  else if t = 0x80 then keeperFault s p.inst
  else if t = 0x81 then
    !(uncertainRows s).isEmpty || s.opt.noBand || (kOn s && !waveOk s) || (s.opt.worn.any fun q => decide (2 ≤ q.2)) ||
      (s.opt.ledger.any fun q => decide (s.rdN Reg.OPT_LEDGER_WARN < q.2.natAbs))
  else if t = 0x90 then memFault s p.inst
  else if t = 0xA0 then
    let q := (p.base - 0xA0000) / 0x1000
    clockLost s q || contended s q || underrun s q || decide ((portOf s q).lost ≠ 0)
  else if t = 0xB0 then
    (List.range 8).any (fun z => zoneHot s z || s.b (Reg.THERM_ZONE_STATUS z) 24) || decide (s.f Reg.THERM_LEVEL 0 4 ≠ 0) ||
      (s.therm.deferred && (wakeBar s).isSome)
  else false

/-- PAGE_STATUS.BUSY (R50): the block holds accepted work. DEDUCED (log entry 43): in the pages that are never disabled, a COMMIT
not yet at its outcome, records in the lantern, records or images on their way to flash, a slew, and waiting or migrating memory. -/
def pageBusy (s : State) (p : PageId) : Bool :=
  let t := p.typ
  if t = 0x03 then (List.range 4).any fun i => decide (2 ≤ txnState s i) || txnPending s i
  else if t = 0x04 then !s.router.lantern.isEmpty
  else if t = 0x05 then !s.maint.wait.isEmpty || s.maint.staging.isSome || s.maint.swap.isSome || s.maint.install.isSome
  else if t = 0x10 then slewing s.time
  else if t = 0x90 then !s.mem.queue.isEmpty || s.mem.mig.isSome
  else !pageIdle s p.base

/-- PAGE_STATUS as it reads (R50). -/
def pageStatus (s : State) (p : PageId) : Word :=
  let w := s.rd (Reg.PAGE_STATUS p.base)
  let w := setFld w 1 1 (b2n (pageBusy s p))
  let w := setFld w 2 1 (b2n (pageFault s p))
  setFld w 3 1 (b2n (notNeg s p))

/-! ### Values that are formed on a read -/

/-- MAINT.SPARES (R546, R556). -/
def spares (s : State) : Word :=
  let gap := (List.range 4).foldl (fun n h => n + b2n (s.b (Reg.ZL_SPARE_STATUS h) 4) * 2 ^ h) 0
  let cores := ((List.range 32).filter fun i => s.b Reg.CODEC_CORE_MASK i).length
  let zones := (List.range 8).foldl (fun n z => n + b2n (decide (3 ≤ (okSensors s z).length)) * 2 ^ z) 0
  w32 (gap + min (freeSpares s).length 2 * 16 + cores * 64 + b2n (domainSpare s) * 4096 + b2n (pathsSpare s) * 8192 + zones * 16384)

/-- A word of a 64-bit number. -/
def half (n : Nat) (high : Bool) : Word := if high then w32 (n / 2 ^ 32) else w32 n

/-- The key of the cell with index `i` = r × COLS + c, if it lies within the geometry (R438). -/
def cellAt (s : State) (i : Nat) : Option Nat :=
  let c := optCols s
  if c = 0 ∨ c * optRows s ≤ i then none else some (cellKey (i / c) (i % c))

/-- LEDGER of a cell as the window shows it; 0 beyond the geometry (R438). -/
def ledgerWord (s : State) (i : Nat) : Word :=
  match cellAt s i with | some k => wInt (tabGet (fun _ => 0) s.opt.ledger k) | none => 0

/-- CELL_TOKENS and CELL_SWITCHES of the cell in CELL_SEL (R440, R456). -/
def cellTokens (s : State) : Word :=
  match cellAt s (s.f Reg.OPT_CELL_SEL 0 16) with | some k => w32 (36000000 - tabGet (fun _ => 0) s.opt.spent k) | none => 0
def cellSwitches (s : State) : Word :=
  match cellAt s (s.f Reg.OPT_CELL_SEL 0 16) with | some k => w32 (tabGet (fun _ => 0) s.opt.switches k) | none => 0

/-- The word holds a measurement that the spec gives no value for: rail voltage and current (R428) of a powered keeper, and the
WCLK input (R591). -/
def measured (s : State) (a : Nat) : Bool :=
  if 0x80800 ≤ a ∧ a < 0x808D0 then kOn s && decide (a % 16 < 8)
  else decide (a = Reg.TIME_AUX_IN)

/-- A measured word, from the free value of the read. -/
def measuredWord (s : State) (a : Nat) (w : Word) : Word :=
  if a = Reg.TIME_AUX_IN then setFld (s.rd a) 8 1 (fld w 0 1) else w

/-- A word of a page outside its header, for registers whose value is formed on the read; none for the others. -/
def formed (s : State) (r : Requester) (p : PageId) (o : Nat) : Option Word :=
  let t := p.typ
  if t = 0x03 then
    (if o = 0x800 then some (match r with | .host => s.txn.lastHost | .mgmt => s.txn.lastMgmt) else none)
  else if t = 0x05 then
    (if o = 0x820 then some (spares s)
     else if o = 0x830 ∨ o = 0x834 then some (half (logFirst s) (decide (o = 0x834)))
     else if o = 0x838 ∨ o = 0x83C then some (half (if s.maint.log.isEmpty then 0 else s.maint.logSeq) (decide (o = 0x83C)))
     else if 0xC00 ≤ o ∧ o < 0xC40 then some (logWindow s ((o - 0xC00) / 4)) else none)
  else if t = 0x10 then (if o = 0x800 ∨ o = 0x804 then some (half s.now (decide (o = 0x804))) else none)
  else if t = 0x11 then
    (if p.inst = 0 ∧ o = 0xA00 then some (match r with | .host => s.sched.lastHost | .mgmt => s.sched.lastMgmt) else none)
  else if t = 0x21 then
    (if 0x900 ≤ o ∧ o < 0xA00 ∧ o % 16 = 4 then some (storeStatus s ((o - 0x900) / 16)) else none)
  else if t = 0x40 then
    (if o = 0x810 ∨ o = 0x814 then some (half (u64 (headE s (headFin p.base))) (decide (o = 0x814))) else none)
  else if t = 0x41 then (if o = 0x830 then some (rguStatus s (headFin p.base)) else none)
  else if t = 0x44 then (if o = 0x800 then some (outStatus s (headFin p.base)) else none)
  else if t = 0x46 then
    (if o = 0x800 then some (setFld (s.rd (p.base + 0x800)) 16 1 (b2n (sbMaster s (headFin p.base)))) else none)
  else if t = 0x80 then (if kState s = 0 ∧ 0x800 ≤ o ∧ o < 0xC00 then some 0 else none)
  else if t = 0x81 then
    (if o = 0x820 then some (cellTokens s) else if o = 0x824 then some (cellSwitches s)
     else if 0xC00 ≤ o then some (w32 (leAt s.keeper.wave (o - 0xC00) 4)) else none)
  else if t = 0x90 then
    (if p.inst = 4 then (if o = 0x80C then some (setFld (s.rd Reg.MEM4_MIGRATION) 16 10 (migProgress s)) else none)
     else if p.inst = 0 then
       (if o = 0x804 then some (w32 (minTolerance s)) else if o = 0x890 then some (w32 (memUtil s))
        else if 0x870 ≤ o ∧ o < 0x888 then some (w32 (maxWait s ((o - 0x870) / 4))) else none)
     else if p.inst = 3 ∧ o = 0x818 then some (w32 (min (poisonCount s) 0xFFFFFFFF)) else none)
  else if t = 0xA0 then
    let q := (p.base - 0xA0000) / 0x1000
    (if o = 0x814 ∨ o = 0x818 then some (half (u64 (portE s q)) (decide (o = 0x818)))
     else if o = 0x834 ∧ clockMode s q ≠ 0 ∧ clockLost s q = false then some (wInt (ratePpm s q)) else none)
  else none

/-- A register that reads its reset value for the requester (R59, R78). -/
def hidden (s : State) (r : Requester) (p : PageId) (a : Nat) : Bool :=
  match r with
  | .host => (notNeg s p && decide (a - p.base < 0x800)) || (match featureOf a with | some i => !s.feat i | none => false)
  | .mgmt => false

/-- What a mapped word reads, apart from the latch of a 64-bit register. -/
def readVal (s : State) (r : Requester) (a : Nat) : Word :=
  match pageAt a with
  | none => if 0x340000 ≤ a ∧ a < 0x380000 then ledgerWord s ((a - 0x340000) / 4) else s.rd a
  | some p =>
    let o := a - p.base
    if o < 0x100 then (if o = 0x08 then pageFeat s p.typ else if o = 0x10 then pageStatus s p else s.rd a)
    else if hidden s r p a then Reg.reset a
    else if measured s a then measuredWord s a (Config.freeWord s.freeCount)
    else (formed s r p o).getD (s.rd a)

/-- A read of a mapped word that reached the bus (R53, R57). -/
def busRead (s : State) (r : Requester) (a : Nat) : State :=
  let s := if (pageAt a).any fun p => decide (p.typ = 0x90) then memLook s else s
  let v := if 4 ≤ a && readLow (a - 4) then latched s r (a - 4) else readVal s r a
  let s := if readLow a then setLatch s r a (readVal s r (a + 4)) else s
  (if measured s a then s.useFree else s).emit (.readData r v)

/-- A read of a BAR0 address (R48, R53). -/
def readAt (s : State) (r : Requester) (addr : Nat) : State :=
  let a := addr / 4 * 4
  if !reaches s r then s
  else if unmappedFor r a then (unmappedOp s a).emit (.readData r 0)
  else busRead s r a

/-- LOW_WORD_READ (R57): the read of any word of BAR0. -/
def execLowWordRead (req : Requester) (addr : Nat) (s : State) : Host.Outcome State Fault Refusal := .next (readAt s req addr)

/-- UNMAPPED_ADDRESS_ACCESS (R48). -/
def execUnmappedAddressAccess (req : Requester) (addr : Nat) (write : Bool) (s : State) : Host.Outcome State Fault Refusal :=
  let a := addr / 4 * 4
  .next (
    if reaches s req && unmappedFor req a then
      if write then unmappedOp s a else (unmappedOp s a).emit (.readData req 0)
    else s)

end Sys2Proof.Machine
end

