-- ==== Sys2Proof/Machine/RingCmd.lean ====
section
/-!
DEFINITION. The commands of the ring engine (R88 to R97, R108 to R111): CTRL, doorbells, failed reads, stalls and completion
records.
-/
namespace Sys2Proof.Machine

/-- The packets that wait on a SCENE_RX ring are dropped with their entries. -/
def dropRx (s : State) (r : Nat) : State :=
  let gone := s.ing.rx.filter fun x => decide (x.ring = r)
  let s := giveSlots s (gone.flatMap (·.slots))
  { s with ing := { s.ing with rx := s.ing.rx.filter fun x => decide (x.ring ≠ r) } }

/-- An enabled ring is disabled (R108, R111). `fails` are the indices whose host-memory read fails in the flush. -/
def ringStop (s : State) (r : Nat) (abort : Bool) (fails : List Word) : State :=
  let s := (s.setB (Reg.RING_CTRL r) 0 false).setB (Reg.RING_CTRL r) 1 abort
  if abort then
    let s := abortJobs s (jobsOf s r)
    if ringConsumed s r then flushRing (dropRx s r) r fails else s
  else s

/-- A write of CTRL with ENABLE = 1 (R89, R91, R110): the other fields take their values whatever the outcome. DESIGN CHOICE (log
entry 46): R110 is read of a unit whose ENABLE is 0; on an enabled ring the write leaves ENABLE at 1 and is not refused. -/
def ringStart (s : State) (r : Nat) (v : Word) : State :=
  let a := Reg.RING_CTRL r
  if ringEnabled s r then s.wr a (v &&& 0x7F03)
  else if !ringQuiet s r then refuse s a
  else match ringCheck s r false with
    | some c => ((s.wr a (v &&& 0x7F02)).setF (Reg.RING_STATUS r) 8 4 c).raise .ringCfgRefused [w32 r, w32 c]
    | none => ringTurnOn s r v

/-- A write of CTRL with ENABLE = 0 (R90, R109, R111). -/
def ringHalt (s : State) (r : Nat) (v : Word) (fails : List Word) : State :=
  let a := Reg.RING_CTRL r
  if !ringEnabled s r then
    let turn := !ringQuiet s r && !s.b a 1 && bit v 1
    let s := s.wr a (v &&& 0x7F02)
    if turn then abortJobs s (jobsOf s r) else s
  else if compHeld s r then refuse s a
  else ringStop (s.wr a ((v &&& 0x7F02) ||| 1)) r (bit v 1) fails

/-- A write of CTRL. -/
def ringCtrlWrite (s : State) (r : Nat) (v : Word) (fails : List Word) : State :=
  if bit v 0 then ringStart s r v else ringHalt s r v fails

/-- RING_ENABLE (R89). -/
def execRingEnable (req : Requester) (ring : Fin 8192) (value : Word) (s : State) : Host.Outcome State Fault Refusal :=
  .next (gated s req (Reg.RING_CTRL ring) none fun s => ringCtrlWrite s ring value [])

/-- RING_DISABLE (R111): `hostFails` are the indices whose host-memory read fails in the flush. -/
def execRingDisable (req : Requester) (ring : Fin 8192) (value : Word) (hostFails : List Word) (s : State) :
    Host.Outcome State Fault Refusal :=
  .next (gated s req (Reg.RING_CTRL ring) none fun s => ringCtrlWrite s ring value hostFails)

/-- An accepted doorbell: the host's index moves (R93, R170). -/
def doorbellGo (s : State) (r : Nat) (idx : Word) : State :=
  if ringDir s r then
    (if ringType s r = 0x01 then rxSkipped s r idx else s).wr (Reg.RING_CONS r) idx
  else s.wr (Reg.RING_PROD r) idx

/-- A refused doorbell (R93). -/
def doorbellRefuse (s : State) (r : Nat) (idx : Word) (why : Nat) : State :=
  let s := s.inc (Reg.RING_DB_REFUSED r)
  let s := if why = 2 then s.setF (Reg.RING_EPOCH_STAT r) 16 16 (min 0xFFFF (s.f (Reg.RING_EPOCH_STAT r) 16 16 + 1)) else s
  s.raise .doorbellRefused [w32 r, idx, w32 why]

/-- DOORBELL (R93, R521). Bits [63:48] are ignored: R93 states no check of them. -/
def execDoorbell (ring : Fin 8192) (index : Word) (epoch _top : BitVec 16) (bytes : Nat) (s : State) :
    Host.Outcome State Fault Refusal :=
  .next (
    if !reaches s .host then s
    else if s.powerState = 2 then refuse s (if ringDir s ring then Reg.RING_CONS ring else Reg.RING_PROD ring)
    else
      let why := doorbellCheck s ring index epoch bytes
      if why = 0 then doorbellGo s ring index else doorbellRefuse s ring index why)

/-- HOST_READ_FAILURE (R97): the read of the entry at CONS of a host-memory ring, which the module consumes, fails; `flushFails`
are the indices whose read fails in the flush that follows (R111). -/
def execHostReadFailure (ring : Fin 8192) (flushFails : List Word) (s : State) : Host.Outcome State Fault Refusal :=
  .next (
    if s.on && ringEnabled s ring && ringHost s ring && ringConsumed s ring && decide (ringFill s ring ≠ 0) &&
        (enabled s (ownerBase (ringOwner s ring)) || ownerGone s ring) then
      let s := (s.setB (Reg.RING_STATUS ring) 3 true).raise .ringHostError [w32 ring, s.rd (Reg.RING_CONS ring)]
      ringStop s ring true flushFails
    else s)

/-- RING_STALLED (R96): 10 ms after a stall began, once per stall. -/
def execRingStalled (ring : Fin 8192) (s : State) : Host.Outcome State Fault Refusal :=
  .next (match tabGet (fun _ => none) s.ring.stallAt ring.val with
    | some t =>
      if t + 10000000 ≤ s.now then
        ({ s with ring := { s.ring with stallAt := tabSet (fun _ => none) s.ring.stallAt ring.val none } } : State).raise
          .ringStalled [w32 ring]
      else s
    | none => s)

/-- COMPLETION_RECORD_WRITE (R101). -/
def execCompletionRecordWrite (ring : Fin 8192) (s : State) : Host.Outcome State Fault Refusal :=
  .next (if s.on then writeComp s ring else s)

end Sys2Proof.Machine
end

