-- ==== Sys2Proof/Machine/Router.lean ====
section
/-!
DEFINITION. The event router's commands (R65 to R74), feature negotiation (R81 to R85), and the PCIe function's resets and link
(R46, R125, R579).
-/
namespace Sys2Proof.Machine

/-! ### EVT_STATUS, EVT_FORCE and vectors -/

/-- The guards of a write to the header's event registers, which stay writable while a page is not negotiated or held (R52,
R59). -/
def headerGated (s : State) (r : Requester) (a : Nat) (g : State → State) : State :=
  if !reaches s r then s
  else if unmappedFor r a then unmappedOp s a
  else if s.powerState = 2 && !standbyOpen a then refuse s a
  else g s

/-- Five free detail words. -/
def freeDetail (s : State) : List Word := (List.range 5).map fun i => Config.freeWord (s.freeCount + i)

/-- The implemented events of a page among the bits of a mask, ascending. -/
def maskEvents (base : Nat) (mask : Word) : List Ev :=
  (List.range 16).filterMap fun i => if bit mask i then evAt base i else none

/-- An occurrence that arrives with a W1C write (R65). What the source puts in its detail words is not part of the write: the
words are free. -/
def occurNow (s : State) (e : Ev) : State := { s with freeCount := s.freeCount + 5 }.raise e (freeDetail s)

/-- A W1C write of EVT_STATUS, with the occurrences of the same cycle (R65). -/
def statusClear (s : State) (base : Nat) (mask occurring : Word) : State :=
  let a := Reg.PAGE_EVT_STATUS base
  (maskEvents base occurring).foldl occurNow (s.wr a (s.rd a &&& ~~~mask))

/-- EVENT_STATUS_CLEAR (R65). -/
def execEventStatusClear (req : Requester) (page : Nat) (mask occurring : Word) (s : State) : Host.Outcome State Fault Refusal :=
  let b := pageOf page
  .next (headerGated s req (Reg.PAGE_EVT_STATUS b) fun s => statusClear s b mask occurring)

/-- A write of EVT_FORCE (R66). -/
def forceWrite (s : State) (base : Nat) (mask : Word) : State := (maskEvents base mask).foldl State.force s

/-- EVENT_FORCE (R66). -/
def execEventForce (req : Requester) (page : Nat) (mask : Word) (s : State) : Host.Outcome State Fault Refusal :=
  let b := pageOf page
  .next (headerGated s req (Reg.PAGE_EVT_FORCE b) fun s => forceWrite s b mask)

/-- VECTOR_HOLDOFF_END (R68): one message covers the triggers held back. -/
def execVectorHoldoffEnd (v : Fin 64) (s : State) : Host.Outcome State Fault Refusal :=
  let u := tabGet (fun _ => 0) s.router.vecUntil v.val
  .next (
    if s.on ∧ u ≠ 0 ∧ u ≤ s.now then
      let held := s.router.vecHeld.contains v.val
      let s := { s with router := { s.router with
        vecUntil := tabSet (fun _ => 0) s.router.vecUntil v.val 0
        vecHeld := s.router.vecHeld.filter (· ≠ v.val) } }
      if held then sendVector s v else s
    else s)

/-- A vector's mask bit goes to 0: a pending message is sent (R68). -/
def unmaskVector (s : State) (v : Nat) : State :=
  let s := s.setB (Reg.MSIX_TABLE v 3) 0 false
  let p := Reg.MSIX_PBA (v / 32)
  if s.b p (v % 32) then triggerVector (s.setB p (v % 32) false) v else s

/-- VECTOR_UNMASK (R68), by host software. -/
def execVectorUnmask (v : Fin 64) (s : State) : Host.Outcome State Fault Refusal :=
  .next (if reaches s .host then unmaskVector s v else s)

/-! ### The log ring (R69 to R74) -/

/-- LOG_RING.ENABLE and RING_ID. -/
def logOn (s : State) : Bool := s.b Reg.EVT0_LOG_RING 31
def logRing (s : State) : Nat := s.f Reg.EVT0_LOG_RING 0 13

/-- LOG_RING.ENABLE is set for a ring while it was 0 (R71, R110). -/
def logStart (s : State) (r : Nat) : State :=
  let a := Reg.EVT0_LOG_RING
  if ringType s r ≠ 0x07 ∨ s.f (Reg.RING_CFG r) 5 2 ≠ 0 ∨ !ringQuiet s r then refuse (s.wr a (w32 r)) a
  else match ringCheck s r true with
    | some c => ((s.wr a (w32 r)).setF (Reg.RING_STATUS r) 8 4 c).raise .ringCfgRefused [w32 r, w32 c]
    | none =>
      let s := ringTurnOn s r (s.rd (Reg.RING_CTRL r))
      { s with router := { s.router with markDue := true } }.wr a (w32 (2 ^ 31 + r))

/-- LOG_RING.ENABLE is cleared: the ring is disabled under DRAIN (R71). -/
def logStop (s : State) : State :=
  let r := logRing s
  let s := s.setB Reg.EVT0_LOG_RING 31 false
  if ringEnabled s r then ringStop s r false [] else s

/-- A write of LOG_RING (R71). -/
def logRingWrite (s : State) (v : Word) : State :=
  let r := fld v 0 13
  if logOn s then
    if r ≠ logRing s then refuse s Reg.EVT0_LOG_RING
    else if bit v 31 then s else logStop s
  else if bit v 31 then logStart s r
  else s.wr Reg.EVT0_LOG_RING (w32 r)

/-- LOG_RING_ENABLE (R71). -/
def execLogRingEnable (req : Requester) (ring : Fin 8192) (s : State) : Host.Outcome State Fault Refusal :=
  .next (gated s req Reg.EVT0_LOG_RING none fun s => logRingWrite s (w32 (2 ^ 31 + ring.val)))

/-- LOG_RING_DISABLE (R71). -/
def execLogRingDisable (req : Requester) (s : State) : Host.Outcome State Fault Refusal :=
  .next (gated s req Reg.EVT0_LOG_RING none fun s => if logOn s then logStop s else s)

/-- The 32 bytes of a log record (R74). -/
def logBytes (r : LogRec) (seq : Word) : List Byte :=
  wordsBytes ([w32 (r.ev + r.sev * 0x200 + b2n r.forced * 0x800 + r.kind * 0x1000 + r.coal * 0x10000), w32 r.time, seq] ++
    (r.detail ++ [0, 0, 0, 0, 0]).take 5)

/-- A TIME_MARK record of a device time (R73, R74). -/
def markRec (t : Nat) : LogRec := ⟨0, 0, false, 1, 0, t, [w32 (t / 2 ^ 32)]⟩

/-- Writes one record to the log ring; none when the ring has no space, which stalls it (R72). -/
def logPut (s : State) (r : LogRec) : Option State :=
  let q := logRing s
  let n := s.rd Reg.EVT0_LOG_SEQ + 1
  match ringPush s q (logBytes r n) with
  | some s =>
    let s := (ringUnstall s q).wr Reg.EVT0_LOG_SEQ n
    some (if r.kind = 1 then { s with router := { s.router with lastMark := some r.time, markDue := false } } else s)
  | none => none

/-- A TIME_MARK must come before a record of device time `t` (R73). -/
def markNeeded (s : State) (t : Nat) : Bool :=
  s.router.markDue || (match s.router.lastMark with | some m => decide (m + 2 ^ 29 ≤ t) | none => true)

/-- The oldest retained record leaves the buffer for the ring, or stalls the ring. -/
def logTake (s : State) : State :=
  match s.router.lantern with
  | [] => s
  | r :: rest =>
    if ringFull s (logRing s) then ringStall s (logRing s)
    else
      let s := ({ s with router := { s.router with lantern := rest } } : State).wr Reg.EVT0_LOG_FILL (w32 (lanternCount rest))
      (logPut s r).getD s

/-- The oldest retained record moves to the ring, a TIME_MARK before it where R73 asks for one. DESIGN CHOICE (log entry 13): the
STAMP and WRAP of such a mark are the device time of the record that it precedes. -/
def logMove (s : State) : State :=
  match s.router.lantern with
  | [] => s
  | r :: _ =>
    if r.kind ≠ 1 && markNeeded s r.time then
      match logPut s (markRec r.time) with
      | some s => logTake s
      | none => ringStall s (logRing s)
    else logTake s

/-- EVENT_LOG_RECORD_WRITE (R69, R72, R73). -/
def execEventLogRecordWrite (s : State) : Host.Outcome State Fault Refusal :=
  .next (if s.on && logOn s && ringEnabled s (logRing s) then logMove s else s)

/-- TIME_MARK (R73): device time has reached a multiple of 2^29 ns in this tick and the ring has space. Behind records that
have not moved yet, the mark waits its turn. -/
def execTimeMark (s : State) : Host.Outcome State Fault Refusal :=
  let m := s.now / 2 ^ 29 * 2 ^ 29
  let q := logRing s
  .next (
    if !(s.on && logOn s && ringEnabled s q) || ringFull s q then s
    else if (if s.b Reg.TIME_TIME_STATUS 3 then 1001 else 5) ≤ s.now - m then s
    else if s.router.lastMark = some m ∨ s.router.lantern.any (fun r => decide (r.kind = 1 ∧ r.time = m)) then s
    else if s.router.lantern.isEmpty then (logPut s (markRec m)).getD s
    else { s with router := { s.router with lantern := s.router.lantern ++ [markRec m] } })

/-! ### Feature negotiation (R81 to R85) -/

/-- FEAT_STATUS.PENDING. -/
def featPending (s : State) : Bool := s.b Reg.FEAT_FEAT_STATUS 1

/-- A write of FEATURE_ACCEPT (R81, R83, R559). -/
def featureAccept (s : State) (v : Word) : State :=
  if featPending s ∨ s.stage < 4 then refuse s Reg.FEAT_FEATURE_ACCEPT
  else if bit v 0 then s.setB Reg.FEAT_FEAT_STATUS 1 true
  else s

/-- FEATURE_ACCEPT (R81). -/
def execFeatureAccept (req : Requester) (value : Word) (s : State) : Host.Outcome State Fault Refusal :=
  .next (gated s req Reg.FEAT_FEATURE_ACCEPT none fun s => featureAccept s value)

/-- A write of DRV_FEATURES (R83). -/
def drvFeatures (s : State) (a : Nat) (v : Word) : State := if featPending s then refuse s a else s.wr a v

/-- Requested and offered bits. -/
def requested (s : State) (i : Nat) : Bool := s.b (Reg.FEAT_DRV_FEATURES (i / 32)) (i % 32)
def offered (i : Nat) : Bool := decide (i ≤ 20)

/-- R76: the dependency of a requested bit is met within the request. -/
def depOk (s : State) (i : Nat) : Bool :=
  if i = 3 ∨ i = 4 then requested s 1 || requested s 2 else if i = 5 then requested s 19 else true

/-- Every register page (R47). -/
def allPages : List PageId := (List.range 0xD0).filterMap fun k => pageAt (k * 0x1000)

/-- A page uses a feature that R76 lists against it (R82). -/
def pageUses (s : State) (p : PageId) : Bool :=
  if p.typ = 0x10 then decide (domState s 1 ≠ 0 ∨ serving s ≠ 0)
  else if p.typ = 0x90 then
    s.b Reg.MEM4_SHRINK_POLICY 0 || s.b Reg.MEM4_SPARE_STATUS 9 ||
      (match s.mem.mig with | some m => decide (m.reason = migCode .command) | none => false)
  else if p.typ = 0x05 then decide (fwState s = 3) || s.maint.swap.isSome || unconfirmed s
  else if p.typ = 0x03 then (List.range 4).any fun t => decide (txnState s t ≠ 0) || txnPending s t
  else enabled s p.base || !quiesced s p.base

/-- A feature is in use (R82). -/
def featureUsed (s : State) (i : Nat) : Bool := allPages.any fun p => (gateBits p.typ).contains i && pageUses s p

/-- The first failing check of R81: RESULT and BIT. -/
def featureFail (s : State) : Option (Nat × Nat) :=
  if !requested s 0 then some (2, 0)
  else match (List.range 256).find? fun i => requested s i && !offered i with
    | some i => some (3, i)
    | none =>
      match (List.range 21).find? fun i => requested s i && !depOk s i with
      | some i => some (4, i)
      | none => ((List.range 21).find? fun i => s.feat i && !requested s i && featureUsed s i).map fun i => (5, i)

/-- The checks end (R81). -/
def featureCheck (s : State) : State :=
  let a := Reg.FEAT_FEAT_STATUS
  let show_ := fun (s : State) (r b : Nat) => ((s.setB a 1 false).setF a 4 4 r).setF a 16 8 b
  match featureFail s with
  | some (r, b) => (show_ s r b).raise .featureRefused [w32 r, w32 b]
  | none =>
    let s := (show_ s 1 0).setB a 0 true
    let s := (List.range 8).foldl (fun s w => s.wr (Reg.FEAT_ACTIVE_FEATURES w) (s.rd (Reg.FEAT_DRV_FEATURES w))) s
    let s := s.wr Reg.FEAT_ACCEPT_COUNT (s.rd Reg.FEAT_ACCEPT_COUNT + 1)
    s.raise .featureAccepted [s.rd Reg.FEAT_ACCEPT_COUNT]

/-- FEATURE_CHECK_COMPLETE (R81). -/
def execFeatureCheckComplete (s : State) : Host.Outcome State Fault Refusal :=
  .next (if s.on && featPending s then featureCheck s else s)

/-! ### The PCIe function (R46, R125, R579) -/

/-- OPEN transactions of host software, whose COMMIT is not PENDING, are rolled back (R125). -/
def flrTxns (s : State) : State :=
  (List.range 4).foldl (fun s t =>
    if txnState s t = 1 ∧ txnOwner s t = 0 ∧ !txnPending s t then
      (txnOutcome (putTxn s t { txnOf s t with fields := [] }) t 0x02).raise .txnRolledBack [w32 t, 1]
    else s) s

/-- A word that a function-level reset returns to reset: the MSI-X table and pending bits, and BAR4_BASE (R46). -/
def flrClears (a : Nat) : Bool :=
  decide ((0x3C00 ≤ a ∧ a < 0x4000) ∨ (0x3800 ≤ a ∧ a < 0x3808)) || a == Reg.SYS_BAR4_BASE_LO || a == Reg.SYS_BAR4_BASE_HI

/-- The indices of a ring among failing host-memory reads. -/
def failsOf (l : List HostRead) (r : Nat) : List Word := (l.filter fun x => decide (x.ring.val = r)).map (·.index)

/-- The effects of a function-level reset (R46, R125): `fails` are the host-memory reads that fail in the flushes. DESIGN CHOICE
(log entry 46): a host-produced ring that is disabled already and still drains goes on draining, and a trigger that a hold-off
holds back (R68) is kept, since R46 names neither. -/
def flrGo (s : State) (fails : List HostRead) : State :=
  let s := { s with regs := s.regs.filter fun p => !flrClears p.1 }
  let s := ((enabledRings s).filter fun r => !ringDir s r).foldl (fun s r => ringStop s r true (failsOf fails r)) s
  (flrTxns s).raise .flrReceived []

/-- FUNCTION_LEVEL_RESET (R46): a request over the link. -/
def execFunctionLevelReset (hostFails : List HostRead) (s : State) : Host.Outcome State Fault Refusal :=
  .next (if reaches s .host then flrGo s hostFails else s)

/-- PERST_ASSERT (R579). -/
def execPerstAssert (s : State) : Host.Outcome State Fault Refusal :=
  .next { s with power := { s.power with perstLow := true, pcieUp := false } }

/-- PERST_DEASSERT (R579): the rising edge. The link is down, so every host-memory read of the flushes fails. -/
def execPerstDeassert (s : State) : Host.Outcome State Fault Refusal :=
  .next (
    if s.power.perstLow then
      let s := { s with power := { s.power with perstLow := false } }
      if s.on then flrGo s [] else s
    else s)

/-- PCIE_LINK_DOWN (R579): a cable loss. -/
def execPcieLinkDown (speedWidth : Word) (s : State) : Host.Outcome State Fault Refusal :=
  .next (
    if s.power.pcieUp then ({ s with power := { s.power with pcieUp := false } }.tell .pcie).raise .pcieLinkDown [speedWidth] else s)

/-- PCIE_LINK_UP (R559, R579): the link trains once the fast clocks have started. -/
def execPcieLinkUp (s : State) : Host.Outcome State Fault Refusal :=
  .next (if s.on ∧ 1 ≤ s.stage ∧ !s.power.perstLow then { s with power := { s.power with pcieUp := true } } else s)

end Sys2Proof.Machine
end

