-- ==== Sys2Proof/Machine/Profile.lean ====
section
/-!
DEFINITION. The panel profile: its layout (R562 to R564) and the checks of an installation and of the start (R565).
-/
namespace Sys2Proof.Machine

/-! ### Layout (R562, R564) -/

/-- RAIL_OFF, WAVE_OFF, HEAD_OFF, OPT_GEOM. -/
def railOff (l : List Byte) : Nat := leAt l 16 4
def waveOff (l : List Byte) : Nat := leAt l 20 4
def headOff (l : List Byte) : Nat := leAt l 24 4

/-- AUTOSTART and STANDBY_CLEAR. -/
def profStart (l : List Byte) : Nat := leAt l 28 4 % 4
def profClear (l : List Byte) : Bool := decide (leAt l 28 4 / 4 % 2 = 1)

/-- Word `i` of head `h` in the head section. -/
def headWord (l : List Byte) (h i : Nat) : Word := w32 (leAt l (headOff l + 64 * h + 4 * i) 4)

/-- USED and SPARE of a head. -/
def headUsed (l : List Byte) (h : Nat) : Bool := bit (headWord l h 0) 0
def headSpare (l : List Byte) (h : Nat) : Bool := bit (headWord l h 0) 1

/-- The standby image of a head: offset and length; none when IMAGE_OFF is 0. -/
def imageAt (l : List Byte) (h : Nat) : Option (Nat × Nat) :=
  let o := (headWord l h 14).toNat
  if o = 0 then none else some (o, (headWord l h 15).toNat)

/-- The bytes of a standby image. -/
def imageBytes (l : List Byte) (h : Nat) : List Byte :=
  match imageAt l h with | some (o, n) => (l.drop o).take n | none => []

/-- The registers of words 1 to 12 of the head section. -/
def headSectionRegs (h : Nat) : List Nat :=
  [Reg.HEAD_TIMING_CTRL h, Reg.HEAD_FIELD_TIMING h, Reg.HEAD_H_ACTIVE h, Reg.HEAD_V_LINES h, Reg.HEAD_LATCH_LINE h,
    Reg.HEAD_LINE_SKEW h, Reg.OUT_OUT_CFG h, Reg.OUT_POL_CTRL h, Reg.ZL_LINK_CFG h, Reg.ZL_EQ_CTRL h, Reg.HEAD_BG_LO h,
    Reg.HEAD_BG_HI h]

/-- Words 1 to 12 of the head section in the registers of head `h` (R564). -/
def putHeadSection (s : State) (l : List Byte) (h : Nat) : State :=
  s.wrAll ((headSectionRegs h).zipIdx.map fun p => (p.1, headWord l h (p.2 + 1) &&& (regInfo p.1).2))

/-! ### Checks (R565) -/

/-- A section lies on a multiple of 64 within the profile. -/
def placed (l : List Byte) (p : Nat × Nat) : Bool := decide (p.1 % 64 = 0 ∧ 64 ≤ p.1 ∧ p.1 + p.2 ≤ l.length)

/-- Two sections have no byte in common. -/
def apart (p q : Nat × Nat) : Bool := decide (p.1 + p.2 ≤ q.1 ∨ q.1 + q.2 ≤ p.1)

/-- The sections of a profile with their SECTION and ITEM codes, in the order of the codes. -/
def sections (l : List Byte) : List (Nat × Nat × Nat × Nat) :=
  [(2, 0, railOff l, 704)] ++ (if profGeom l = 0 then [] else [(3, 0, waveOff l, 1024)]) ++ [(4, 0, headOff l, 256)] ++
  (List.range 4).filterMap fun h => (imageAt l h).map fun p => (5, h, p.1, p.2)

/-- FORMAT: the first part that does not meet R562, as SECTION and ITEM. DESIGN CHOICE (log entry 40): OPT_GEOM must be a value
that OPT_GEOM accepts (R433), and images count as sections. -/
def formatFail (l : List Byte) : Option (Nat × Nat) :=
  let g := profGeom l
  let geomOk := decide (g = 0) || (inRange (g % 512) 1 320 && inRange (g / 65536 % 256) 1 160 && decide (g / 512 % 128 = 0 ∧ g / 16777216 = 0))
  let hdr := decide (64 ≤ l.length ∧ leAt l 0 4 = 0x46505850 ∧ leAt l 4 4 = 1 ∧ leAt l 8 4 = l.length ∧ 4096 ≤ l.length ∧
      l.length ≤ 67108864 ∧ profStart l ≠ 3 ∧ leAt l 28 4 < 8 ∧ (g = 0 → waveOff l = 0)) && geomOk &&
    ((l.drop 36).take 24).all (· == 0)
  if !hdr then some (1, 0)
  else
    let secs := sections l
    let bad := secs.zipIdx.find? fun p =>
      !placed l (p.1.2.2) || (secs.take p.2).any fun q => !apart q.2.2 p.1.2.2
    bad.map fun p => (p.1.1, p.1.2.1)

/-- CRC: PROFILE_CRC32 with its own bytes taken as 0. -/
def profCrcOk (l : List Byte) : Bool :=
  decide (crc32c (l.take 60 ++ [0, 0, 0, 0] ++ l.drop 64) = w32 (leAt l 60 4))

/-- The state that the profile would give: its record in the keeper, its heads' registers, USED heads enabled as TRANSMIT
heads. -/
def asIf (s : State) (l : List Byte) : State :=
  let s := loadRecord { s with keeper := { s.keeper with record := railSection l } }
  (List.range 4).foldl (fun s h =>
    if headUsed l h then
      let s := putHeadSection s l h
      (s.setF (Reg.PAGE_ROLE (headBase h)) 0 8 1).setB (Reg.PAGE_CTRL (headBase h)) 0 true
    else s) s

/-- The rail section: the first rail that does not meet R401 or whose TARGET lies outside its limits. -/
def railFail (s : State) : Option Nat :=
  railList.find? fun r =>
    let t := mvOf (s.rd (Reg.RAIL0_TARGET r))
    !(targetOk r t && decide (mvOf (s.rd (Reg.RAIL0_LIMIT_MIN r)) ≤ t ∧ t ≤ mvOf (s.rd (Reg.RAIL0_LIMIT_MAX r)) ∧
      s.rdN (Reg.RAIL0_ILIM r) ≤ railMaxCurrent r))

/-- A USED head meets R340 and R422 with every offered feature active. -/
def headFits (s : State) (l : List Byte) (h : Nat) : Bool :=
  let e : CfgEnv := { overlay s [] with feat := fun i => bit (s.rd (Reg.FEAT_DEV_FEATURES 0)) i }
  (headChecks e h).all (·.ok) &&
  (List.range h).all fun g => !headUsed l g || (groupPair e g h).all (·.ok)

/-- A standby image meets R217 for layer fetch, with C = 3, THL of 4 to 6 and a size within the head's. -/
def imageFits (l : List Byte) (h : Nat) : Bool :=
  let b := imageBytes l h
  let w := (headWord l h 3).toNat % 65536
  let v := (headWord l h 4).toNat % 65536
  let agree := fun (f : FrameHdr) => decide (f.c = 3 ∧ f.thl ≤ 6 ∧ f.npic = 1 ∧ f.width ≤ w ∧ f.height ≤ v)
  match parseSeq (b.take 16), parseHdr layerNeeds agree (b.drop 16) with
  | .ok _, .ok f =>
    let tiles := (b.drop (16 + f.size + 4 * f.tileCount)).take f.tileBytes
    decide (tiles.length = f.tileBytes) &&
    (match splitGroup f.tileCount f.tileBytes tiles with
      | .ok t => t.all fun x => !x.2 && layerNeeds.modes.contains (tileMode x.1)
      | .error _ => false)
  | _, _ => false

/-- CONTENT: the first failure in the order of R565, as SECTION and ITEM. -/
def contentFail (s : State) (l : List Byte) : Option (Nat × Nat) :=
  let t := asIf s l
  match railFail t with
  | some r => some (2, r)
  | none =>
    match tableFail t with
    | some i => some (2, i)
    | none =>
      match (if profGeom l = 0 then none else waveBad (waveSection l)) with
      | some (b, _) => some (3, b)
      | none =>
        match (List.range 4).find? fun h => headUsed l h && !headFits t l h with
        | some h => some (4, h)
        | none =>
          ((List.range 4).find? fun h => (imageAt l h).isSome && !imageFits l h).map fun h => (5, h)

/-- The checks of R565 in their order: the code (2 FORMAT, 3 CRC, 4 CONTENT) with SECTION and ITEM, or none. -/
def profileFail (s : State) (l : List Byte) : Option (Nat × Nat × Nat) :=
  match formatFail l with
  | some p => some (2, p)
  | none =>
    if !profCrcOk l then some (3, 1, 0)
    else (contentFail s l).map fun p => (4, p)

/-- SECTION and ITEM of PROFILE_STATUS. -/
def setFail (s : State) (sec item : Nat) : State :=
  (s.setF Reg.MAINT_PROFILE_STATUS 16 8 sec).setF Reg.MAINT_PROFILE_STATUS 24 8 item

end Sys2Proof.Machine
end

