-- ==== Sys2Proof/Machine/Startup.lean ====
section
/-!
DEFINITION. Start-up (R558 to R575, R598): LVIN, boot stages, the profile, the standby presentation, the keeper's channel and
handover.
-/
namespace Sys2Proof.Machine

/-! ### LVIN (R127, R558, R598) -/

/-- A BAR0 word that outlasts LVIN: what the keeper holds (R404, R455), and the lifetime figures of fuses and flash (R516, R555,
R560). -/
def lasts (a : Nat) : Bool :=
  let o := a % 0x1000
  (decide (0x80000 ≤ a ∧ a < 0x83000 ∧ 0x100 ≤ o) && !decide (Reg.RAIL1_TEMP 0 ≤ a ∧ a ≤ Reg.RAIL1_PANEL_TEMP)) ||
  decide (0x84800 ≤ a ∧ a < 0x85000) ||
  [Reg.OPT_OPT_GEOM, Reg.MAINT_ROLLBACK_COUNTER, Reg.MAINT_POWERED_HOURS, Reg.MAINT_ACTIVE_HOURS, Reg.THERM_TRIPS].contains a

/-- What a loss of LVIN leaves: the rail keeper, the optic layer, flash and fuses. IMPACT records that wait for flash are in the
journal (R555). -/
def logicReset (s : State) : State :=
  let z := State.reset
  let m := s.maint
  let mt := { z.maint with wait := m.wait.filter fun r => decide (r.sev = 3), log := m.log, logSeq := m.logSeq, slotA := m.slotA, slotB := m.slotB, confirmed := m.confirmed, profileA := m.profileA, profileB := m.profileB, profileCur := m.profileCur, hotHours := m.hotHours }
  let t := { z with
    pending := s.pending
    out := s.out
    freeCount := s.freeCount
    regs := s.regs.filter fun p => lasts p.1
    eff := s.eff.filter fun p => lasts p.1
    power := { s.power with lvin := false, fastClk := false, pcieUp := false, told := [] }
    maint := mt
    mem := { MemSt.fresh with host := s.mem.host, retired := s.mem.retired }
    keeper := { s.keeper with linkGone := false, gateFalls := [], waking := false }
    opt := { s.opt with offDue := none } }
  t.setB Reg.RAIL2_KEEPER_STATUS 3 false

/-- LVIN_APPLIED (R127, R558): the lantern domain starts, device time at 0. -/
def execLvinApplied (s : State) : Host.Outcome State Fault Refusal :=
  .next (if s.on then s
    else
      let s := resetGeom (logicReset s)
      setStage { s with power := { s.power with lvin := true, powerOns := s.power.powerOns + 1 } } 0)

/-- LVIN_LOST (R598): the module is OFF. The keeper sees the PVL rails fall with PVL_LOSS (R408). -/
def execLvinLost (s : State) : Host.Outcome State Fault Refusal :=
  .next (if s.on then logicReset s else s)

/-! ### Boot (R559 to R561) -/

/-- FAST_CLOCK_START (R517, R559): the sample that meets R517 starts the fast clocks; one that does not defers them. -/
def execFastClockStart (s : State) : Host.Outcome State Fault Refusal :=
  .next (if !s.on ∨ s.power.fastClk ∨ s.stage ≠ 0 then s
    else match (List.range 8).find? (zoneFrozen s) with
      | some z =>
        if s.b Reg.MAINT_BOOT_STATUS 5 then s
        else (s.setB Reg.MAINT_BOOT_STATUS 5 true).raise .wakeDeferred [w32 z, w32 (s.f (Reg.THERM_ZONE_STATUS z) 0 16), 1]
      | none => setStage { s with power := { s.power with fastClk := true } } 1)

/-- A slot's image starts (R560). -/
def startImage (s : State) (b : Bool) : State := setStage (runImage s b) 2

/-- R560: the confirmed slot, then the other, and recovery when neither passes (R561). -/
def bootRom (s : State) : State :=
  let c := s.maint.confirmed
  let r := bootFail s (slotOf s c)
  if r = 0 then startImage s c
  else
    let s := putSlot (s.setF Reg.MAINT_BOOT_STATUS 12 4 r) c none
    let q := bootFail s (slotOf s (!c))
    if q = 0 then startImage ((confirmSlot s (!c)).setB Reg.MAINT_BOOT_STATUS 4 true) (!c)
    else (putSlot s (!c) none).setB Reg.MAINT_BOOT_STATUS 3 true

/-! ### The keeper's channel (R566 to R568) -/

/-- FLASH, and with it AUTOSTART, SECTION, ITEM and PROFILE_ID, as the flash profile shows (R566, R575). -/
def readFlash (s : State) : State :=
  let l := curProfile s
  if l.isEmpty then (s.setF Reg.MAINT_PROFILE_STATUS 0 4 0).setF Reg.MAINT_BOOT_STATUS 6 2 0
  else
    let s := s.wr Reg.MAINT_PROFILE_ID (w32 (leAt l 12 4))
    match profileFail s l with
    | some (c, sec, item) => (setFail (s.setF Reg.MAINT_PROFILE_STATUS 0 4 c) sec item).setF Reg.MAINT_BOOT_STATUS 6 2 0
    | none => (s.setF Reg.MAINT_PROFILE_STATUS 0 4 1).setF Reg.MAINT_BOOT_STATUS 6 2 (profStart l)

/-- FLASH is VALID. -/
def flashValid (s : State) : Bool := decide (s.f Reg.MAINT_PROFILE_STATUS 0 4 = 1)

/-- AUTOSTART in effect: 0 NONE, 1 PRESENT, 2 STANDBY. -/
def autostart (s : State) : Nat := s.f Reg.MAINT_BOOT_STATUS 6 2

/-- R566: the flash profile against the journal. -/
def compareJournal (s : State) : State :=
  let l := curProfile s
  if !flashValid s then setJournal s 0
  else if s.keeper.record = railSection l ∧ s.keeper.wave = waveSection l then setJournal s 1
  else if kState s = 1 then copyProfile s
  else setJournal s 3

/-- The keeper no longer waits to start the panel by itself (R568). -/
def noAuto (s : State) : State := { s with keeper := { s.keeper with autoOn := false } }

/-- R567, R568: the panel by AUTOSTART, once for an application of LVIN. -/
def decidePanel (s : State) : State :=
  let k := kState s
  let s := { s with maint := { s.maint with decided := true } }
  let s := if k = 4 then s.setB Reg.MAINT_BOOT_STATUS 10 true else s
  if k ≠ 1 then s
  else if autostart s = 1 then panelOn (noAuto s)
  else noAuto (dropReq s)

/-- The first message of the logic side after channel-up (R566 to R568): it needs the channel and a running image. -/
def firstMessage (s : State) : State :=
  if !chanUp s ∨ s.maint.running.isNone then s
  else
    let s := compareJournal (readFlash s)
    let s := if s.maint.decided then s else decidePanel s
    optShow (if s.keeper.autoOn ∧ kState s = 1 ∧ panelReq s then startPrecheck (noAuto s) else s)

/-- BOOT_IMAGE_VERIFIED (R560, R561). -/
def execBootImageVerified (s : State) : Host.Outcome State Fault Refusal :=
  .next (if !s.on ∨ !s.power.fastClk ∨ s.stage ≠ 1 ∨ s.maint.running.isSome ∨ recovery s then s else firstMessage (bootRom s))

/-! ### The standby presentation (R569, R570) -/

/-- Where the presentation lies in the management area, which the spec leaves to the management core. DESIGN CHOICE (log entry
40): images one after another, each on a 4 KiB boundary; a descriptor per head; the presented map. -/
def imageBase (l : List Byte) : Nat → Nat
  | 0 => 0x30000000
  | h + 1 => imageBase l h + ((imageBytes l h).length + 4095) / 4096 * 4096
def descBase (h : Nat) : Nat := 0x38000000 + 64 * h
def mapBase : Nat := 0x3C000000

/-- The buffer descriptor of a standby image (R303, R569). -/
def standbyDesc (l : List Byte) (h : Nat) (guard_ : Word) : List Byte :=
  let b := imageBytes l h
  let f := hdrFields (b.drop 16)
  leBytes 8 (imageBase l h) ++ leBytes 4 0 ++ leBytes 2 f.width ++ leBytes 2 f.height ++ leBytes 1 3 ++ leBytes 1 1 ++
    leBytes 2 0 ++ leBytes 4 b.length ++ leBytes 4 guard_.toNat ++ leBytes 36 0

/-- R569 steps 1 and 3: a head's image, its descriptor and its layer. The GUARD is of the management core's choice. -/
def standbyLayer (s : State) (l : List Byte) (h : Nat) : State :=
  if (imageAt l h).isNone then s
  else
    let g := Config.freeWord s.freeCount
    let s := hbmWrite s.useFree 5 (imageBase l h) (imageBytes l h)
    let s := hbmWrite s 5 (descBase h) (standbyDesc l h g)
    let s := s.wrAll [(Reg.LAYER_LAYER_CFG h 1, 2), (Reg.LAYER_OPACITY h 1, 4095), (Reg.LAYER_POS h 1, headWord l h 13),
      (Reg.LAYER_DESC_LO h 1, w32 (descBase h)), (Reg.LAYER_DESC_HI h 1, 0), (Reg.LAYER_GUARD h 1, g)]
    setOn s (layerBase h 1)

/-- R569 step 4: the roles of a head's lanes. -/
def standbyLanes (s : State) (l : List Byte) (h : Nat) : State :=
  laneList.foldl (fun s n =>
    let on := decide (n < 12) || headSpare l h
    (giveRole s (Reg.ZL_LANE_ROLE h n) (if n < 12 then 1 else if on then 4 else 0)).setB (Reg.ZL_LANE_CTRL h n) 0 on) s

/-- R569: the configuration of a USED head, in effect at once since the head is DISABLED. -/
def standbyHead (l : List Byte) (s : State) (h : Nat) : State :=
  let s := giveRole (putHeadSection s l h) (Reg.PAGE_ROLE (headBase h)) 1
  putShadows (standbyLanes (standbyLayer s l h) l h) h

/-- The presentation has an optic batch, which starts with the panel (R570). -/
def presentOptic (s : State) : State := { s with maint := { s.maint with presentOptic := true } }

/-- R570: the optic batch of the presentation: ID 1, every cell to CLEAR. -/
def standbyBatch (s : State) : State :=
  let s := optEnable (s.wrAll [(Reg.OPT_MAP_BASE_LO, w32 mapBase), (Reg.OPT_MAP_BASE_HI, 0)])
  let all := 2 ^ optCols s - 1
  let cs := (List.range (optRows s)).filterMap fun r =>
    let f := futureRow s r
    if f = all then none else some ⟨r, without all f, 0, 0⟩
  optShow (presentOptic { s with opt := { s.opt with staged := some (1, cs), marked := false } })

/-- The presentation is configured before STAGE READY (R569, R570). -/
def configPresent (s : State) : State :=
  let l := curProfile s
  let used := (List.range 4).filter (headUsed l)
  let s := used.foldl (standbyHead l) s
  let s := { s with maint := { s.maint with present := used } }
  if profClear l ∧ profGeom l ≠ 0 then standbyBatch s else s

/-- The pages of a head that the presentation holds (R569). -/
def heldPages (h : Nat) : List Nat := [headBase h, layerBase h 1, outBase h, zlBase h, sbBase h]

/-- The pages with MGMT_HELD, ascending. -/
def heldList (s : State) : List Nat := (((List.range 4).flatMap heldPages) ++ [optBase]).filter fun p => s.b (Reg.PAGE_STATUS p) 4

/-- MGMT_HELD of some pages. -/
def setHeld (s : State) (l : List Nat) (v : Bool) : State := l.foldl (fun s p => s.setB (Reg.PAGE_STATUS p) 4 v) s

/-- The anchor of a head's presentation is -EPOCH_OFFSET (R569): a TAI head has it by R339. DEDUCED (log entry 40): an EXPLICIT one,
for which the head section holds no anchor, takes it in ANCHOR. -/
def presentAnchor (s : State) (h : Nat) : State :=
  if s.b (Reg.HEAD_TIMING_CTRL h) 0 then s.wr64 (Reg.HEAD_ANCHOR_LO h) (Reg.HEAD_ANCHOR_HI h) (u64 (-s.epochOffset)) else s

/-- A head starts for the presentation, its link and output with it. -/
def presentHead (s : State) (h : Fin 4) : State :=
  if enabled s (headBase h) ∨ !quiesced s (headBase h) then s
  else
    let s := setOn (setOn (zlEnable (presentAnchor s h) h) (outBase h)) (sbBase h)
    let s := setHeld (headStart s h) (heldPages h) true
    if (s.rd (Reg.LAYER_LAYER_CFG h 1)).toNat % 8 = 2 then
      { s with maint := { s.maint with standby := s.maint.standby ++ [(h.val, 1)] } }
    else s

/-- R569, R570: the keeper is ON, and the presentation begins. -/
def startPresent (s : State) : State :=
  if (s.maint.present.isEmpty ∧ !s.maint.presentOptic) ∨ kState s ≠ 4 ∨ !chanUp s then s
  else
    let l := s.maint.present
    let o := s.maint.presentOptic
    let s := { s with maint := { s.maint with present := [], presentOptic := false } }
    let s := (List.finRange 4).foldl (fun s h => if l.contains h.val then presentHead s h else s) s
    let s := if o then setHeld (startBatch s 1).1 [optBase] true else s
    if heldList s = [] then s else (s.setB Reg.MAINT_BOOT_STATUS 8 true).setB Reg.MAINT_BOOT_STATUS 9 true

/-- SEQUENCE_STEP_COMPLETE (R412, R569). -/
def execSequenceStepComplete (s : State) : Host.Outcome State Fault Refusal := .next (startPresent (stepEnd s))

/-- KEEPER_CHANNEL_UP (R408, R427, R431, R566, R568). -/
def execKeeperChannelUp (s : State) : Host.Outcome State Fault Refusal :=
  .next (if !s.on ∨ !kOn s ∨ chanUp s then s
    else
      let s := s.setB Reg.RAIL2_KEEPER_STATUS 3 true
      let s := if s.keeper.linkGone then
          ({ s with keeper := { s.keeper with linkGone := false } }).raise .keeperLinkRestored []
        else s
      let s := reportLoss s
      let s := if kState s = 4 then
          pvlRails.foldl (fun s r => if railState s r = 0 ∧ profileEn s r then setRail s r 2 else s) s
        else s
      let s := optStopDue (writeWaiting (journalCopy s))
      let restore := s.keeper.restoreDue
      let s := { s with keeper := { s.keeper with restoreDue := false } }
      let s := firstMessage s
      let s := if restore then s.raise .hvinRestored [w32 (b2n (panelReq s))] else s
      startPresent (optShow s))

/-! ### STAGE READY (R558, R567) -/

/-- The stage before READY has been reached, with memory trained and an image running. -/
def readyDue (s : State) : Bool :=
  s.on && s.maint.running.isSome && !recovery s && decide (s.stage = 3 ∨ (s.stage = 2 ∧ s.b Reg.MEM0_MEM_STATUS 0 = true))

/-- STAGE_READY (R558, R567, R569, R570). -/
def execStageReady (s : State) : Host.Outcome State Fault Refusal :=
  .next (if !readyDue s then s
    else
      let s := readFlash s
      let s := if flashValid s then s.wr Reg.OPT_OPT_GEOM (w32 (profGeom (curProfile s))) else s
      let s := if autostart s = 1 then configPresent s else s
      let s := if s.maint.decided then s else firstMessage s
      let s := setStage s 4
      if autostart s = 2 then startStandby s else startPresent s)

/-! ### PROFILE_CMD (R565) -/

/-- HBM address of a profile. -/
def profSrc (s : State) : Nat := s.rd64 Reg.MAINT_PROFILE_SRC_LO Reg.MAINT_PROFILE_SRC_HI

/-- An INSTALL is acted on (R565), one at a time. -/
def mayInstall (s : State) : Bool :=
  decide (kState s = 1) && chanUp s &&
  ((List.range 4).all fun h => !enabled s (headBase h) && quiesced s (headBase h)) &&
  decide (s.f Reg.OPT_OPT_STATUS 0 2 = 0) && !s.b Reg.MAINT_BOOT_STATUS 8 && s.maint.install.isNone

/-- INSTALL of PROFILE_STATUS. -/
def setInstall (s : State) (v : Nat) : State := s.setF Reg.MAINT_PROFILE_STATUS 8 4 v

/-- PROFILE_CMD INSTALL, past the gate of the page. -/
def installProfile (s : State) : State :=
  if !mayInstall s then refuse (setInstall s 5) Reg.MAINT_PROFILE_CMD
  else
    let n := s.rdN Reg.MAINT_PROFILE_LEN
    let l := hbmBytes s (profSrc s) n
    let bad := rangeBad s (profSrc s) n
    let s := setFail (touch s 5 (profSrc s) n) 0 0
    if bad then setInstall s 6
    else match profileFail s l with
      | some (c, sec, item) => setFail (setInstall s c) sec item
      | none => ({ s with maint := { s.maint with install := some l } }).setB Reg.MAINT_PROFILE_STATUS 12 true

/-- PROFILE_INSTALL (R565). -/
def execProfileInstall (req : Requester) (s : State) : Host.Outcome State Fault Refusal :=
  .next (gated s req Reg.MAINT_PROFILE_CMD none installProfile)

/-- PROFILE_INSTALL_COMPLETE (R565): `mediaOk`, the copy was written and read back. A keeper that is no longer OFF takes the
sections later (R566). -/
def execProfileInstallComplete (mediaOk : Bool) (s : State) : Host.Outcome State Fault Refusal :=
  .next (match s.maint.install with
    | none => s
    | some l =>
      let s := ({ s with maint := { s.maint with install := none } }).setB Reg.MAINT_PROFILE_STATUS 12 false
      if !mediaOk then setInstall s 6
      else
        let b := !s.maint.profileCur
        let s := { s with maint := { s.maint with
            profileA := if b then s.maint.profileA else l
            profileB := if b then l else s.maint.profileB
            profileCur := b } }
        let s := (s.setF Reg.MAINT_PROFILE_STATUS 0 4 1).wr Reg.MAINT_PROFILE_ID (w32 (leAt l 12 4))
        optShow (journalCopy (setJournal (setInstall s 1) 3)))

/-! ### Handover (R571) -/

/-- Held registers that need a feature which is not active: a page that is not available, and a SPARE lane without LANE_SPARING;
each with its offset. -/
def heldUnavailable (s : State) : List Nat :=
  (heldList s).filterMap (fun p => match pageAt p with
    | some q => if pageAvail s q then none else some (p + 0x100)
    | none => none) ++
  ((List.range 4).filter fun h => s.b (Reg.PAGE_STATUS (zlBase h)) 4 && decide (laneRole s h 12 = 4) && !s.feat 13).map
    (Reg.ZL_LANE_ROLE · 12)

/-- Registers of a configuration in effect that is not valid (R116, R321), or of lanes that do not match their head (R384). -/
def heldInvalid (s : State) : List Nat :=
  let held := heldList s
  let inHeld := fun a => held.contains (a / 0x1000 * 0x1000)
  (badCommit s [] []).toList ++
  (List.range 4).flatMap fun h =>
    if held.contains (headBase h) then
      (match commitBad s h with | some a => if inHeld a then [a] else [] | none => []) ++
      ((List.range 12).filter fun n => decide (laneRole s h n ≠ roleCode s (headBase h)) || !s.b (Reg.ZL_LANE_CTRL h n) 0).map
        (Reg.ZL_LANE_ROLE h)
    else []

/-- HANDOVER_STATUS. -/
def setHandover (s : State) (st code : Nat) : State :=
  (s.setF Reg.MAINT_HANDOVER_STATUS 0 2 st).setF Reg.MAINT_HANDOVER_STATUS 8 8 code

/-- PRESENTING follows the held pages; a handover is DONE when the last page is released. -/
def heldShow (s : State) : State :=
  if heldList s = [] then
    let s := s.setB Reg.MAINT_BOOT_STATUS 8 false
    let s := if s.maint.standby.isEmpty then s.setB Reg.MAINT_BOOT_STATUS 9 false else s
    if s.f Reg.MAINT_HANDOVER_STATUS 0 2 = 1 then setHandover s 2 0 else s
  else s

/-- HANDOVER_CMD GO, past the gate of the page. -/
def handoverGo (s : State) : State :=
  if !s.b Reg.MAINT_BOOT_STATUS 8 ∨ !s.b Reg.FEAT_FEAT_STATUS 0 then refuse s Reg.MAINT_HANDOVER_CMD
  else
    match lowest (heldUnavailable s ++ heldInvalid s) with
    | some a =>
      (setHandover s 3 (if (heldUnavailable s).contains a then 5 else 12)).wr Reg.MAINT_HANDOVER_FAIL_OFFSET (w32 a)
    | none =>
      let heads := (List.range 4).filter fun h => s.b (Reg.PAGE_STATUS (headBase h)) 4
      let s := setHandover s 1 0
      let s := { s with maint := { s.maint with handover := heads } }
      heldShow (setHeld s [optBase] false)

/-- HANDOVER (R571). -/
def execHandover (req : Requester) (s : State) : Host.Outcome State Fault Refusal :=
  .next (gated s req Reg.MAINT_HANDOVER_CMD none handoverGo)

/-- R571: a latch point of a head releases its pages. -/
def handoverLatch (s : State) (h : Nat) : State :=
  if s.maint.handover.contains h then
    let s := setHeld s (heldPages h) false
    heldShow { s with maint := { s.maint with handover := s.maint.handover.filter (· ≠ h) } }
  else s

/-! ### Fields of a head (R323, R342, R346) -/

/-- LATCH_POINT (R346, R571). -/
def execLatchPoint (h : Fin 4) (s : State) : Host.Outcome State Fault Refusal :=
  .next (if latchDue s h then handoverLatch (latchEvent s h) h else s)

/-- Step 7 of a wake: a produced field starts after GATES (R523). -/
def wakeField (s : State) (h : Nat) : State :=
  if (headOf s h).cur.produced ∧ kState s = 4 then { s with keeper := { s.keeper with waking := false } } else s

/-- FIELD_START (R342, R422, R551). While STANDBY is entered, the generator stops after the last line (R520). -/
def execFieldStart (h : Fin 4) (s : State) : Host.Outcome State Fault Refusal :=
  .next (if !fieldDue s h then s
    else if s.transition = 1 then parkHead s h
    else
      let s := fieldStart s h
      if (headOf s h).run then fwFieldStart (wakeField (gateField s h) h) h else s)

/-- BUFFER_RELEASE (R323, R571): a standby buffer that is released no longer keeps the management area busy. -/
def execBufferRelease (h : Fin 4) (k : Fin 8) (s : State) : Host.Outcome State Fault Refusal :=
  .next (
    let t := releaseBuffer s h k
    let gone := decide (t.rd (Reg.LAYER_REL_COUNT h k) ≠ s.rd (Reg.LAYER_REL_COUNT h k) ∧
      t.rdN (Reg.LAYER_REL_DESC_LO h k) = descBase h ∧ t.rdN (Reg.LAYER_REL_DESC_HI h k) = 0)
    if gone && s.maint.standby.contains (h.val, k.val) then
      let l := t.maint.standby.filter (· ≠ (h.val, k.val))
      let t := { t with maint := { t.maint with standby := l } }
      if l.isEmpty then t.setB Reg.MAINT_BOOT_STATUS 9 false else t
    else t)

end Sys2Proof.Machine
end

