-- ==== Sys2Proof/Machine/Bus.lean ====
section
/-!
DEFINITION. Writes to BAR0 (R49, R53 to R60, R618): each goes to the operation of the register it addresses; and the BAR4
window into HBM (R44, R45).
-/
namespace Sys2Proof.Machine

/-! ### The low word that waits (R57) -/

/-- The low word that a requester's next high-word write applies. -/
def heldLow (s : State) (r : Requester) (lo : Nat) : Option Word := tabGet (fun _ => none) s.bus.held (busKey r lo)

/-- The state with a requester's held low word. -/
def setHeldLow (s : State) (r : Requester) (lo : Nat) (v : Option Word) : State :=
  { s with bus := { s.bus with held := tabSet (fun _ => none) s.bus.held (busKey r lo) v } }

/-! ### Registers closed while their unit is at work -/

/-- The map registers of a bank are closed (R264). -/
def bankClosed (s : State) (h b : Nat) : Bool :=
  decide (bankState s h b = 1) || s.b (Reg.RGU_BANK_STATUS h b) 2 || decide (s.f (Reg.RGU_MAP_SEL h) 0 2 = b) ||
  (List.range 4).any fun t => decide (txnState s t ≠ 0) && (txnOf s t).staged.any fun p =>
    decide (p.1 = Reg.RGU_MAP_SEL h ∧ fld p.2 0 2 = b)

/-- The bank whose MAP_BASE or MAP_LEN lies at an address: head and bank. -/
def bankReg (a : Nat) : Option (Nat × Nat) :=
  match pageAt a with
  | some p =>
    let o := a - p.base
    if p.typ = 0x41 ∧ 0x100 ≤ o ∧ o < 0x120 ∧ o % 16 < 12 then some ((headFin p.base).val, (o - 0x100) / 16) else none
  | none => none

/-- The ring whose descriptor holds an address. -/
def ringReg (a : Nat) : Option Nat := if 0x100000 ≤ a ∧ a < 0x180000 then some ((a - 0x100000) / 64) else none

/-- A write to the register is discarded with REG_REFUSED by the state of its unit: ring descriptors (R88), flow entries
(R167), slots (R148), map banks (R264), PORT_CFG (R484) and GROUP (R501). -/
def closed (s : State) (a : Nat) : Bool :=
  match ringReg a with
  | some r => decide (a % 64 < 0x20 ∧ a % 64 ≠ 0x18) && (ringEnabled s r || !ringQuiet s r)
  | none =>
    match bankReg a with
    | some (h, b) => bankClosed s h b
    | none =>
      if 0x200000 ≤ a ∧ a < 0x240000 then decide (0 < a % 32 ∧ a % 32 < 0x10) && s.b (a / 32 * 32) 0
      else if 0x11000 ≤ a ∧ a < 0x13000 then
        let o := a % 0x1000
        let i := (a - 0x11000) / 0x1000 * 128
        (decide (0x100 ≤ o ∧ o < 0x500) && decide (slotState s (i + (o - 0x100) / 8) ≠ 0)) ||
        (decide (0x500 ≤ o ∧ o < 0x700) && decide (slotState s (i + (o - 0x500) / 4) ≠ 0)) ||
        (decide (0xC00 ≤ o ∧ o < 0xE00) && decide (slotState s (i + (o - 0xC00) / 4) ≠ 0))
      else if 0xA0000 ≤ a ∧ a < 0xA8000 then
        (decide (a % 0x1000 = 0x100) && (enabled s (a / 0x1000 * 0x1000) || !quiesced s (a / 0x1000 * 0x1000))) ||
        (decide (a % 0x1000 = 0x108) && decide (portState s ((a - 0xA0000) / 0x1000) ≠ 0))
      else false

/-- BASE, CFG or OWNER of a ring was written (R91). -/
def ringDirty (s : State) (r : Nat) : State :=
  if s.ring.dirty.contains r then s else { s with ring := { s.ring with dirty := s.ring.dirty ++ [r] } }

/-- What an accepted write of a stored register brings with it: a ring is to count a new epoch (R91), and a bank is EMPTY
(R264). -/
def afterStore (s : State) (a : Nat) : State :=
  match ringReg a with
  | some r => if a % 64 = 0x10 ∨ a % 64 = 0x14 ∨ a % 64 = 0x1C then s else ringDirty s r
  | none => match bankReg a with | some (h, b) => s.wr (Reg.RGU_BANK_STATUS h b) 0 | none => s

/-! ### Registers that store -/

/-- A written value as the register takes it: CFG.DIR of a ring is given by the type but for SIDEBAND (R87). -/
def stored (s : State) (a : Nat) (v : Word) : Word :=
  let w := regMasked s a v
  match ringReg a with
  | some _ => if a % 64 = 0x08 ∧ fld w 8 8 ≠ 0x0B then
      setFld w 16 1 (b2n (decide (fld w 8 8 ∈ [0x01, 0x03, 0x04, 0x06, 0x07, 0x08, 0x09, 0x0A]))) else w
  | none => w

/-- A write to a 32-bit register with no effect beyond its value (R11, R54, R60, R618). -/
def wordWrite (s : State) (a : Nat) (v : Word) : State :=
  match (regInfo a).1 with
  | .ro => s
  | .rwt => directWrite s a v
  | .rws => s.wr a (stored s a v)
  | .rw => if valOk a (v &&& (regInfo a).2) then afterStore (s.wr a (stored s a v)) a else refuse s a

/-- Both words of a 64-bit register are written at once (R57, R60). -/
def pairStore (s : State) (lo : Nat) (vlo vhi : Word) : State :=
  let hi := lo + 4
  let wlo := vlo &&& (regInfo lo).2
  let whi := vhi &&& (regInfo hi).2
  match (regInfo lo).1 with
  | .ro => s
  | .rws => (s.wr lo (stored s lo vlo)).wr hi (stored s hi vhi)
  | .rwt =>
    if armedAt s lo || armedAt s hi || (badWrite s [] [(lo, wlo), (hi, whi)]).isSome then refuse s lo
    else applyReg (applyReg s lo wlo) hi whi
  | .rw =>
    if valOk lo wlo && valOk hi whi then afterStore ((s.wr lo (stored s lo vlo)).wr hi (stored s hi vhi)) lo else refuse s lo

/-- A 64-bit register is written (R57): EPOCH_OFFSET and SYSTEM_TOP have their own rules (R132, R459). -/
def pairWrite (s : State) (lo : Nat) (vlo vhi : Word) : State :=
  if closed s lo then refuse s lo
  else if lo = Reg.TIME_EPOCH_OFFSET_LO then epochOffsetWrite s (BitVec.ofNat 64 (vhi.toNat * 2 ^ 32 + vlo.toNat))
  else if lo = Reg.MEM4_SYSTEM_TOP_LO then systemTopWrite s (vhi.toNat * 2 ^ 32 + vlo.toNat)
  else pairStore s lo vlo vhi

/-! ### Registers whose write acts -/

/-- TXN_CMD (R113, R114). -/
def txnCmdWrite (s : State) (req : Requester) (v : Word) : State :=
  let op := fld v 0 3
  if anyPending s then refuse s Reg.TXN_TXN_CMD
  else if op = 0 ∨ 3 < op then s
  else if op = 1 then txnOpen s req
  else if op = 2 then commitCommand s req v
  else rollbackCommand s req (fld v 4 2)

/-- STAGE_DATA_t (R113 to R115). -/
def stageWrite (s : State) (req : Requester) (t : Nat) (v : Word) : State :=
  if txnState s t = 1 ∧ txnOwner s t = reqNum req ∧ !txnPending s t then stage s t v else refuse s (Reg.TXN_STAGE_DATA t)

/-- SLOT_CMD (R147): another OP has no effect (DESIGN CHOICE, log entry 42). -/
def slotCmdWrite (s : State) (req : Requester) (v : Word) : State :=
  if fld v 8 2 = 1 then armCommand s req (fld v 0 8)
  else if fld v 8 2 = 2 then disarmCommand s req (fld v 0 8)
  else s

/-- MEM_CMD (R477): another OP has no effect (DESIGN CHOICE, log entry 42). -/
def memCmdWrite (s : State) (v : Word) : State :=
  let p := fld v 0 6
  let op := fld v 8 2
  if op = 3 then ackShrink s
  else if op = 0 then s
  else if pcServes s p && !(freeSpares s).isEmpty then migDue s p 5 (decide (op = 2))
  else refuse s Reg.MEM4_MEM_CMD

/-- LOCK_PULL (R343): the lock group's pull so far is settled at the old rate. -/
def lockPullWrite (s : State) (h : Nat) (v : Word) : State :=
  if valOk (Reg.HEAD_LOCK_PULL h) v then (settleGroup s (headOf s h).group).wr (Reg.HEAD_LOCK_PULL h) v
  else refuse s (Reg.HEAD_LOCK_PULL h)

/-- PULL_PPM of an audio port (R485), likewise. -/
def portPullWrite (s : State) (p : Nat) (v : Word) : State :=
  if valOk (Reg.SAP_PULL_PPM p) v then
    (putPort s p { portOf s p with e := portE s p, eAt := s.now }).wr (Reg.SAP_PULL_PPM p) v
  else refuse s (Reg.SAP_PULL_PPM p)

/-- PERF_CMD (R531, R534): CLEAR before DUMP. -/
def perfCmdWrite (s : State) (v : Word) : State :=
  let s := if bit v 0 then perfClear s else s
  if bit v 1 ∧ dumpsOn s then takeDump s 0 else s

/-- SYS, FEAT, TXN, EVT0, EVT1 and MAINT: the effect of a write that acts; none for a register that stores. -/
def actSystem (s : State) (req : Requester) (p : PageId) (o : Nat) (v : Word) : Option State :=
  let t := p.typ
  if t = 0x02 then
    (if 0x100 ≤ o ∧ o < 0x120 then some (drvFeatures s (p.base + o) v) else if o = 0x120 then some (featureAccept s v) else none)
  else if t = 0x03 then
    (if o = 0x100 then some (txnCmdWrite s req v)
     else if 0x110 ≤ o ∧ o < 0x130 ∧ o % 8 = 4 then some (stageWrite s req ((o - 0x110) / 8) v) else none)
  else if t = 0x04 ∧ p.inst = 0 then
    (if o = 0x100 then some (logRingWrite s v)
     else if 0xC00 ≤ o ∧ o % 16 = 12 then
       some (if bit v 0 then s.wr (p.base + o) 1 else unmaskVector s ((o - 0xC00) / 16))
     else none)
  else if t = 0x05 then
    (if o = 0x100 then some (fwCommand s req v)
     else if o = 0x124 then some (if bit v 0 then installProfile s else s)
     else if o = 0x128 then some (if bit v 0 then handoverGo s else s) else none)
  else none

/-- The same for TIME, SCHED, NET and a head group. -/
def actTime (s : State) (req : Requester) (p : PageId) (o : Nat) (v : Word) : Option State :=
  let t := p.typ
  if t = 0x10 then
    (if o = 0x100 then some (timeCtrl s v) else if o = 0x104 then some (domainSwitch s v)
     else if o = 0x108 then some (acceptJumpWrite s v) else if o = 0x124 then some (auxCtrl s v)
     else if o = 0x128 then some (auxLevel s v) else if o = 0x140 then some (domCtrlWrite s 0 v)
     else if o = 0x180 then some (domCtrlWrite s 1 v) else none)
  else if t = 0x11 then (if p.inst = 0 ∧ o = 0x700 then some (slotCmdWrite s req v) else none)
  else if t = 0x20 then
    (if 0xC00 ≤ o then some (mcastWrite s (Fin.ofNat 2 p.inst) ((o - 0xC00) / 16) ((o - 0xC00) % 16 / 4) v) else none)
  else none

/-- The same for the pages of a head group. -/
def actHead (s : State) (req : Requester) (p : PageId) (o : Nat) (v : Word) : Option State :=
  let t := p.typ
  let h := headFin p.base
  if t = 0x40 then
    (if o = 0x120 then some (lockPullWrite s h v)
     else if o = 0x128 then some (if bit v 0 then commitGo s h else s) else none)
  else if t = 0x41 then (if o = 0x120 then some (if bit v 31 then mapCmdLoad s h (fld v 0 1) else s) else none)
  else if t = 0x44 then (if o = 0x110 then some (if bit v 0 then setLedger s h 0 else s) else none)
  else if t = 0x45 then
    (if o = 0x108 then some (laneCmdWrite s h v)
     else if 0x140 ≤ o ∧ o < 0x174 then some (laneCtrl s h ((o - 0x140) / 4) v)
     else if 0x180 ≤ o ∧ o < 0x1B4 then some (roleWrite s req (.lane h (Fin.ofNat 13 ((o - 0x180) / 4))) v)
     else if 0x1C0 ≤ o ∧ o < 0x1F4 then some (prbsCtrl s h ((o - 0x1C0) / 4) v) else none)
  else none

/-- A write to a RAIL page, past the guards of the bus (R404, R405). -/
def actRail (s : State) (req : Requester) (p : PageId) (o : Nat) (v : Word) : State :=
  let a := p.base + o
  if o < 0x800 then
    railGate s req p.base a fun s =>
      if a = Reg.RAIL0_FAULT_CLEAR then faultClear s v
      else if a = Reg.RAIL1_CRACK_ACK then crackAck s v
      else if a = Reg.RAIL2_PANEL_CMD then panelCommand s v
      else wordWrite s a v
  else s

/-- The same for OPT, MEM, SAP, THERM and PERF. -/
def actRest (s : State) (p : PageId) (o : Nat) (v : Word) : Option State :=
  let t := p.typ
  let a := p.base + o
  if t = 0x81 then
    (if o = 0x120 then some (batchCommand s v) else if 0xC00 ≤ o then some (refuse s a) else none)
  else if t = 0x90 then
    (if a = Reg.MEM3_ECC_INJECT then some (eccInject s v) else if a = Reg.MEM4_MEM_CMD then some (memCmdWrite s v) else none)
  else if t = 0xA0 then
    let q := p.inst
    if o = 0x104 then some (slotMaskWrite s q v) else if o = 0x120 then some (portPullWrite s q v)
    else if o = 0x124 then some (contClear s q v)
    else if a = Reg.SAPM_MCLK_CFG then some (mclkWrite s v)
    else if a = Reg.SAPM_GROUP_CMD then some (if bit v 8 then startGroup s (fld v 0 3) (s.now + 10000) else s)
    else none
  else if t = 0xB0 then
    (if 0x120 ≤ o ∧ o < 0x160 then some (thresholdWrite s ((o - 0x120) / 8) (decide (o % 8 = 4)) v)
     else if o = 0x180 then some (powerCommand s v) else none)
  else if t = 0xC0 then
    (if 0x100 ≤ o ∧ o < 0x300 then some (counterCfg s (p.inst * 128 + (o - 0x100) / 4) v)
     else if 0xC00 ≤ o ∧ o < 0xC10 then some (s.wr a (s.rd a &&& ~~~v))
     else if a = Reg.PERF0_PERF_CMD then some (perfCmdWrite s v)
     else if a = Reg.PERF0_DUMP_CFG then some (dumpCfg s v)
     else if a = Reg.PERF0_GLINT_CTRL then some (glintCtrl s v) else none)
  else if t = 0xC1 then
    (if 0x100 ≤ o ∧ o < 0x140 then some (counterCfg s (256 + (o - 0x100) / 4) v)
     else if o = 0x140 then some (privCtrlWrite s v)
     else if o = 0xC00 then some (s.wr a (s.rd a &&& ~~~v)) else none)
  else none

/-- The effect of a write to a page beyond its header, for a register whose write acts. -/
def actPage (s : State) (req : Requester) (p : PageId) (o : Nat) (v : Word) : Option State :=
  if p.typ ≤ 0x05 then actSystem s req p o v
  else if p.typ ≤ 0x20 then actTime s req p o v
  else if 0x40 ≤ p.typ ∧ p.typ ≤ 0x46 then actHead s req p o v
  else if p.typ = 0x80 then some (actRail s req p o v)
  else actRest s p o v

/-! ### PAGE_CTRL -/

/-- A write of PAGE_CTRL (R50, R51, R108 to R110). DESIGN CHOICE (log entry 42): a write with SOFT_RESET asks for the reset only;
DISABLE_MODE follows a write of ENABLE = 1 that was not refused. -/
def pageCtrlWrite (s : State) (b : Nat) (v : Word) : State :=
  if bit v 2 then softResetCmd s b
  else if bit v 0 then
    let s := pageOn s b
    if enabled s b then modeWrite s b (bit v 1) else s
  else pageOff s b (bit v 1)

/-! ### Writes -/

/-- A write that passed the guards goes to its register: a low word is held, a high word completes its register, an acting
register acts, any other stores. -/
def regWrite (s : State) (req : Requester) (a : Nat) (v : Word) : State :=
  if closed s a then refuse s a
  else if isLowWord a then setHeldLow s req a (some v)
  else match lowOf a with
    | some lo => pairWrite (setHeldLow s req lo none) lo ((heldLow s req lo).getD (s.rd lo)) v
    | none => wordWrite s a v

/-- A write to a table window outside the pages (R47): rings, flows, LUTs; the ledger and the cache directory are read-only
and refuse (R296, R438). -/
def tableWrite (s : State) (req : Requester) (a : Nat) (v : Word) : State :=
  if 0x100000 ≤ a ∧ a < 0x180000 ∧ a % 64 = 0x18 then ringCtrlWrite s ((a - 0x100000) / 64) v []
  else if 0x200000 ≤ a ∧ a < 0x240000 ∧ a % 32 = 0 then flowCtrlWrite s ((a - 0x200000) / 32) v
  else if 0x300000 ≤ a ∧ a < 0x340000 then
    let i := a % 0x10000 / 4
    if i < 3 * 4096 then lutWrite s (Fin.ofNat 4 ((a - 0x300000) / 0x10000)) (i / 4096) (i % 4096) v else s
  else if 0x340000 ≤ a then refuse s a
  else regWrite s req a v

/-- A write of a header register of a page (R49, R50). -/
def headerWrite (s : State) (req : Requester) (b o : Nat) (v : Word) : State :=
  let a := b + o
  if o = 0x0C then gated s req a none fun s => pageCtrlWrite s b v
  else if o = 0x20 then roleWrite s req (.page b) v
  else headerGated s req a fun s =>
    if o = 0x14 then statusClear s b v 0
    else if o = 0x18 then wordWrite s a v
    else if o = 0x1C then forceWrite s b v
    else s

/-- A full-word write to a mapped, aligned address. -/
def busWrite (s : State) (req : Requester) (a : Nat) (v : Word) : State :=
  match pageAt a with
  | some p =>
    let o := a - p.base
    if o < 0x100 then headerWrite s req p.base o v
    else gated s req a (featureOf a) fun s => (actPage s req p o v).getD (regWrite s req a v)
  | none => gated s req a none fun s => tableWrite s req a v

/-- A discarded partial write (R53). -/
def partialWrite (s : State) (a : Nat) : State := (s.inc Reg.SYS_PARTIAL_COUNT).raise .partialWrite [w32 a]

/-- A write to BAR0 (R48, R53). -/
def writeAt (s : State) (req : Requester) (addr : Nat) (v : Word) (be : BitVec 4) : State :=
  let a := addr / 4 * 4
  if !reaches s req then s
  else if unmappedFor req a then unmappedOp s a
  else if be ≠ 0xF then partialWrite s a
  else busWrite s req a v

/-- REGISTER_WRITE (R49, R53). -/
def execRegisterWrite (req : Requester) (addr : Nat) (value : Word) (be : BitVec 4) (s : State) :
    Host.Outcome State Fault Refusal := .next (writeAt s req addr value be)

/-- HIGH_WORD_WRITE (R57). -/
def execHighWordWrite (req : Requester) (addr : Nat) (value : Word) (s : State) : Host.Outcome State Fault Refusal :=
  .next (writeAt s req addr value 0xF)

/-- MAP_SEL_WRITE (R266). -/
def execMapSelWrite (req : Requester) (h : Fin 4) (value : Word) (s : State) : Host.Outcome State Fault Refusal :=
  .next (gated s req (Reg.RGU_MAP_SEL h) none fun s => directWrite s (Reg.RGU_MAP_SEL h) value)

/-! ### BAR4 (R44, R45) -/

/-- SYS.BAR4_BASE. -/
def bar4Base (s : State) : Nat := s.rd64 Reg.SYS_BAR4_BASE_LO Reg.SYS_BAR4_BASE_HI

/-- The bytes of a BAR4 read: those of a 32 B block with an uncorrectable error read 0. -/
def bar4Bytes (s : State) (a n : Nat) : List Byte :=
  (List.range n).map fun i => if blockBad s ((a + i) / 32) then 0 else hbmByte s (a + i)

/-- An access that passed into the window. -/
def bar4Go (s : State) (write : Bool) (a n : Nat) (data : List Byte) : State :=
  if usableTop s < a + n then
    let s := s.raise .bar4Range [w32 a, w32 (a / 2 ^ 32)]
    if write then s else s.emit (.bar4Data (List.replicate n 0) false)
  else if write then hbmWrite s 3 a ((data ++ List.replicate n 0).take n)
  else (touch s 3 a n).emit (.bar4Data (bar4Bytes s a n) (rangeBad s a n))

/-- BAR4_ACCESS (R44): by host software, within the 256 MiB of the window. -/
def execBar4Access (write : Bool) (offset : Nat) (len : Nat) (data : List Byte) (s : State) : Host.Outcome State Fault Refusal :=
  .next (if reaches s .host && decide (0 < len ∧ offset + len ≤ 2 ^ 28) then bar4Go s write (bar4Base s + offset) len data else s)

/-- BAR4_BASE_WRITE (R45): both words. Accesses are commands of their own, so each before the write has completed. -/
def execBar4BaseWrite (req : Requester) (value : BitVec 64) (s : State) : Host.Outcome State Fault Refusal :=
  .next (gated s req Reg.SYS_BAR4_BASE_LO none fun s =>
    pairWrite s Reg.SYS_BAR4_BASE_LO (w32 value.toNat) (w32 (value.toNat / 2 ^ 32)))

end Sys2Proof.Machine
end

