-- ==== Sys2Proof/Machine/Sideband.lean ====
section
/-!
DEFINITION. The sideband of a head (R391 to R394): polls, reports, capabilities, host messages and the answers of a
receiving head.
-/
namespace Sys2Proof.Machine

/-! ### Frames (R391) -/

/-- The bytes of a frame behind its SFD (R391): DST, SRC, TYPE, LEN, payload and the CRC over them. -/
def sbBody (dst src typ : Byte) (payload : List Byte) : List Byte :=
  let b := [dst, src, typ, BitVec.ofNat 8 payload.length] ++ payload
  b ++ wordsBytes [crc32c b]

/-- A frame as it leaves (R391): preamble, SFD and body. -/
def sbFrame (dst src typ : Byte) (payload : List Byte) : List Byte := List.replicate 7 0x55 ++ [0xD5] ++ sbBody dst src typ payload

/-- A frame that the module sends. -/
def sbSend (s : State) (h : Nat) (dst src typ : Byte) (payload : List Byte) : State :=
  (s.inc (Reg.SB_FRAMES_TX h)).emit (.sideband h (sbFrame dst src typ payload))

/-- The payload of a received body whose LEN and CRC agree with its bytes (R391). -/
def sbPayload (b : List Byte) : Option (List Byte) :=
  let n := leAt b 3 1
  if b.length = n + 8 ∧ n ≤ 48 ∧ b.drop (n + 4) = wordsBytes [crc32c (b.take (n + 4))] then some ((b.drop 4).take n) else none

/-- The address of group `g`. -/
def groupAddr (g : Nat) : Byte := BitVec.ofNat 8 (0x10 + g)

/-- A request of the module, for which it waits REPLY_US (R392). -/
def sbRequest (s : State) (h : Nat) (dst typ : Byte) (payload : List Byte) (job : Option Job) : State :=
  sbSend (putLink s h { linkOf s h with req := some ⟨dst, typ, payload, job, false, s.now⟩ }) h dst 0 typ payload

/-- The stage that STATUS_REQ tells for a lane: a lane that resumes from standby is on its way to ACTIVE (R383). -/
def toldStage (s : State) (h n : Nat) : Nat := if (laneOf s h n).resume.isSome then 5 else laneState s h n

/-- A lane is in TRAIN_A to ACTIVE, or resumes. -/
def lanePolls (s : State) (h n : Nat) : Bool := decide (1 ≤ toldStage s h n ∧ toldStage s h n ≤ 5)

/-- Some lane of the head is in TRAIN_A to ACTIVE. -/
def sbPolls (s : State) (h : Nat) : Bool := laneList.any (lanePolls s h)

/-- The preset that the lanes of group `g` are being tried with. -/
def presetFor (s : State) (h g : Nat) : Nat :=
  if laneState s h g = 4 then s.f (Reg.ZL_LANE_STATUS h g) 24 3 else s.f (Reg.ZL_LANE_STATUS h (g + 1)) 24 3

/-- The payload of STATUS_REQ. DESIGN CHOICE (log entry 47): its rate code is that of lane g where lane g is in TRAIN_A to ACTIVE,
else that of lane g + 1. -/
def statusReqPayload (s : State) (h g : Nat) : List Byte :=
  let rate := stageRate s h (toldStage s h (if lanePolls s h g then g else g + 1))
  [toldStage s h g, toldStage s h (g + 1), rate, presetFor s h g].map (BitVec.ofNat 8)

/-- STATUS_REQ (R392). A frame waits while another request awaits its reply, and in the pause of a swap (R553). -/
def execStatusReq (h : Fin 4) (g : Fin 12) (s : State) : Host.Outcome State Fault Refusal :=
  .next (if sbMaster s h && sbPolls s h && (linkOf s h).req.isNone && !mgmtPaused s then
      sbRequest s h (groupAddr g) 0x01 (statusReqPayload s h g) none
    else s)

/-- A lane of group `g` waits for its CAPS record (R377, R382). -/
def capsWanted (s : State) (h g : Nat) : Bool := decide (laneState s h g = 3 ∨ laneState s h (g + 1) = 3)

/-- CAPS_REQ (R382, R553). -/
def execCapsReq (h : Fin 4) (g : Fin 12) (s : State) : Host.Outcome State Fault Refusal :=
  .next (if sbMaster s h && capsWanted s h g && (linkOf s h).req.isNone && !mgmtPaused s then sbRequest s h (groupAddr g) 0x02 [] none else s)

/-! ### Replies (R382, R387, R392) -/

/-- The reply answers the request that waits. -/
def answers (s : State) (h : Nat) (src typ : Byte) : Bool :=
  match (linkOf s h).req with
  | some q => decide (q.dst = src ∧ q.typ ||| 0x80 = typ)
  | none => false

/-- A port that lost lock (R387): the lane whose group it receives fails; another one is marked PORT_FAULT. -/
def portLost (s : State) (h : Fin 4) (g n : Nat) : State :=
  if !laneUp s h n then s
  else if carried s h n = some g then laneFail s h n 7 0
  else s.setB (Reg.ZL_LANE_STATUS h n) 11 true

/-- The error counts that the port receiving a group reports for its lane (R398). -/
def reportedErrors (s : State) (h g : Nat) (b : List Byte) : State :=
  let n := groupLane s h g
  if carried s h n = some g then
    (s.incBy (Reg.ZL_HDR_ERR h n) (leAt b 12 2 + leAt b 10 2)).incBy (Reg.ZL_RX_CRC_ERR h n) (leAt b 8 2)
  else s

/-- A lane after a report: the first lock in TRAIN_A (R377), the figure of merit of a settled preset (R381), and a resume
from standby (R383). -/
def laneReported (h : Fin 4) (s : State) (n : Nat) : State :=
  let st := laneState s h n
  let x := laneOf s h n
  let ports := presentPorts s h n
  let heard := ports.all fun p => !(reportOf s h p.1).isEmpty
  if st = 1 ∧ x.firstLock.isNone ∧ !(lockedPorts s h (heardAt s h n)).isEmpty then putLane s h n { x with firstLock := some s.now }
  else if st = 4 ∧ x.settled ∧ x.trying < 8 ∧ heard then
    nextPreset s h n ((ports.map (portFom s h)).foldl min 255)
  else if x.resume.isSome ∧ heard ∧ ports.all (portLock s h) then
    let p := resumeOriented s h n
    laneActive p.1 h p.2 false
  else s

/-- A STATUS reply of group `g` (R387, R392). -/
def statusIn (s : State) (h : Fin 4) (g : Nat) (b : List Byte) : State :=
  let l := linkOf s h
  let s := putLink s h { l with
    req := none
    misses := tabSet (fun _ => 0) l.misses g 0
    status := tabSet (fun _ => []) l.status g b }
  let s := (s.inc (Reg.SB_FRAMES_RX h)).setB (Reg.SB_SB_STATUS h) g true
  let sk := w32 (leAt b 4 2)
  let s := (s.wr (Reg.ZL_LANE_SKEW h g) sk).wr (Reg.ZL_LANE_SKEW h (g + 1)) sk
  let s := reportedErrors s h g b
  let s := if repBit b 6 then portLost s h g g else s
  let s := if repBit b 7 then portLost s h g (g + 1) else s
  laneList.foldl (laneReported h) s

/-- STATUS (R392). -/
def execStatus (h : Fin 4) (g : Fin 12) (payload : List Byte) (s : State) : Host.Outcome State Fault Refusal :=
  .next (if sbMaster s h && answers s h (groupAddr g) 0x81 && decide (payload.length = 16) then statusIn s h g payload else s)

/-- R382: the first check that a CAPS record fails, or 0. -/
def capsCheck (s : State) (h g : Nat) (b : List Byte) : Nat :=
  if leAt b 0 1 ≠ 1 then 1
  else if leAt b 1 1 / 2 ^ s.f (Reg.ZL_LINK_CFG h) 0 2 % 2 = 0 then 2
  else if leAt b 2 1 / 2 ^ s.f (Reg.OUT_OUT_CFG h) 0 2 % 2 = 0 then 3
  else if leAt b 4 2 ≠ groupW g (s.f (Reg.HEAD_H_ACTIVE h) 0 16) then 4
  else if leAt b 6 1 ≠ h ∧ leAt b 6 1 ≠ 0xFF then 5
  else if s.b (Reg.OUT_POL_CTRL h) 4 && leAt b 3 1 / 2 % 2 = 0 then 6
  else 0

/-- A CAPS reply of group `g` (R382). -/
def capsIn (s : State) (h : Fin 4) (g : Nat) (b : List Byte) : State :=
  let s := s.inc (Reg.SB_FRAMES_RX h)
  let s := (List.range 8).foldl (fun s w => s.wr (Reg.SB_CAPS h g + 4 * w) (w32 (leAt b (4 * w) 4))) s
  let c := capsCheck s h g b
  let s := s.wr (Reg.SB_CAPS_RESULT h g) (w32 (c + 256))
  let l := linkOf s h
  let s := putLink s h { l with req := none, capsRead := l.capsRead.filter (· ≠ g) ++ [g] }
  if c = 0 then s
  else
    let s := s.raise (.capsRefused h) [w32 g, w32 c]
    [g, g + 1].foldl (fun s n =>
      if laneState s h n = 3 ∧ (presentPorts s h n).any (fun p => decide (p.1 = g)) then roundFail s h n 5 else s) s

/-- CAPS (R382). -/
def execCaps (h : Fin 4) (g : Fin 12) (payload : List Byte) (s : State) : Host.Outcome State Fault Refusal :=
  .next (if sbMaster s h && answers s h (groupAddr g) 0x82 && decide (payload.length = 32) then capsIn s h g payload else s)

/-- SB_REPLY_TIMEOUT (R392): the request is repeated once; after that a poll counts as missed, and a host request completes
TIMEOUT (R393). -/
def replyTimeout (s : State) (h : Fin 4) (q : SbReq) : State :=
  let s := s.inc (Reg.SB_NO_REPLY h)
  if !q.again then
    sbSend (putLink s h { linkOf s h with req := some { q with again := true, at_ := s.now } }) h q.dst 0 q.typ q.payload
  else
    let l := linkOf s h
    let s := putLink s h { l with req := none }
    match q.job with
    | some j => finishJob s j 0x0F []
    | none =>
      if q.typ = 0x01 then
        let g := q.dst.toNat - 0x10
        let m := tabGet (fun _ => 0) l.misses g + 1
        let s := putLink s h { linkOf s h with misses := tabSet (fun _ => 0) l.misses g m }
        let s := s.setB (Reg.SB_SB_STATUS h) g false
        if m = 3 then s.raise (.sbNoReply h) [w32 g, s.rd (Reg.SB_NO_REPLY h)] else s
      else s

/-- SB_REPLY_TIMEOUT (R392). -/
def execSbReplyTimeout (h : Fin 4) (s : State) : Host.Outcome State Fault Refusal :=
  .next (match (linkOf s h).req with
    | some q => if q.at_ + s.f (Reg.SB_SB_CFG h) 8 8 * 1000 ≤ s.now then replyTimeout s h q else s
    | none => s)

/-- SB_CONTENTION (R392). -/
def execSbContention (h : Fin 4) (s : State) : Host.Outcome State Fault Refusal := .next (s.raise (.sbContention h) [])

/-! ### Host messages (R393) -/

/-- The DIR = 1 ring of SB_RX_RING, if it is enabled. -/
def sbRing (s : State) (h : Nat) : Option Nat :=
  let r := s.f (Reg.SB_SB_RX_RING h) 0 13
  if s.b (Reg.SB_SB_RX_RING h) 31 && ringEnabled s r && decide (ringType s r = 0x0B ∧ ringOwner s r = (0x46, h)) && ringDir s r then
    some r
  else none

/-- A received frame goes to the DIR = 1 ring; without space it is discarded and counted. The Bool says it was written. -/
def sbDeliver (s : State) (h : Nat) (kind : Nat) (src typ : Byte) (tag : Word) (payload : List Byte) : State × Bool :=
  match sbRing s h with
  | none => (s, false)
  | some r =>
    let b := [BitVec.ofNat 8 kind, src, typ, BitVec.ofNat 8 payload.length] ++ wordsBytes [s.ns32, tag, 0] ++ payload
    match ringPush s r b with
    | some s => (s, true)
    | none => (s.inc (Reg.SB_RX_DROPPED h), false)

/-- A reply to a host request (R393): the job completes once the reply is in the ring. -/
def hostReply (s : State) (h : Nat) (q : SbReq) (src typ : Byte) (payload : List Byte) : State :=
  let s := s.inc (Reg.SB_FRAMES_RX h)
  match q.job with
  | none => s
  | some j =>
    let got := sbDeliver s h 1 src typ j.tag payload
    let s := got.1
    let ok := got.2
    if ok then
      finishJob (putLink s h { linkOf s h with req := none }) j 0 [w32 (typ.toNat + 256 * payload.length)]
    else putLink s h { linkOf s h with req := some { q with again := true } }

/-- R393: the checks of a SEND entry. -/
def sendOk (s : State) (h : Nat) (e : List Byte) : Bool :=
  let dst := leAt e 8 1
  let typ := leAt e 9 1
  decide (((0x10 ≤ dst ∧ dst ≤ 0x1B) ∨ dst = 0x1F) ∧ 0x40 ≤ typ ∧ typ ≤ 0x7F ∧ leAt e 10 1 ≤ 48) &&
  !(decide (dst = 0x1F) && leAt e 1 1 % 2 = 1) && decide (roleCode s (headBase h) ≠ 2)

/-- A SEND job (R393). FLAGS[8] is bit 8 of the entry's first word. -/
def sendJob (s : State) (h : Nat) (j : Job) : State :=
  let e := j.entry
  if !sendOk s h e then finishJob s j 0x0C []
  else
    let dst : Byte := BitVec.ofNat 8 (leAt e 8 1)
    let typ : Byte := BitVec.ofNat 8 (leAt e 9 1)
    let p := (e.drop 16).take (leAt e 10 1)
    if leAt e 1 1 % 2 = 1 then sbRequest s h dst typ p (some j)
    else finishJob (sbSend s h dst 0 typ p) j 0 []

/-! ### A receiving head (R380, R394) -/

/-- Port state of a module lane in an emulated STATUS (R380): lock, inversion, descrambler, lost, lane id seen. -/
def emuPort (s : State) (h n : Nat) (c : PortCount) : Bool × Bool × Bool × Bool × Nat :=
  let x := laneOf s h n
  (x.lock, x.lock && x.inv, x.lock && x.scr.isSome, c.lost, if x.lock then x.seen.getD 0xFF else 0xFF)

/-- R370: how much later lane `b` is than lane `a`, in UI, by their last SKEW_MARKs, which are 4,096 blocks of 130 UI apart; 0 while
one of them has seen none. -/
def markSkew (a b : LaneSt) : Int :=
  match a.mark, b.mark with
  | some p, some q => max (-32768) (min 32767 ((q.2 : Int) - p.2 - ((q.1 : Int) - p.1) * 532480))
  | _, _ => 0

/-- The STATUS payload of group `g` for the far master (R394): port A is lane g and port B lane g + 1, each with what it counted for this
group. A figure of merit is a free value, 0 without lock. -/
def emuStatus (s : State) (h g : Nat) : List Byte :=
  let p := (laneOf s h g).a
  let q := (laneOf s h (g + 1)).b
  let a := emuPort s h g p
  let b := emuPort s h (g + 1) q
  let x := laneOf s h g
  let y := laneOf s h (g + 1)
  let bits := b2n a.1 + 2 * b2n b.1 + 4 * b2n a.2.1 + 8 * b2n b.2.1 + 16 * b2n a.2.2.1 + 32 * b2n b.2.2.1 + 64 * b2n a.2.2.2.1 +
    128 * b2n b.2.2.2.1
  let fom := fun lock i => if lock then Config.freeByte s.freeCount i else (0 : Byte)
  [BitVec.ofNat 8 bits, BitVec.ofNat 8 a.2.2.2.2, BitVec.ofNat 8 b.2.2.2.2, 0] ++ leBytes 2 ((markSkew x y % 65536).toNat) ++
  [fom a.1 0, fom b.1 1] ++ leBytes 2 (min 0xFFFF (p.crc + q.crc)) ++ leBytes 2 (min 0xFFFF (p.ctl + q.ctl)) ++
  leBytes 2 (min 0xFFFF (p.hdr + q.hdr)) ++ [0, 0]

/-- The CAPS payload: EMU_CAPS with GROUP_W replaced (R394). -/
def emuCaps (s : State) (h g : Nat) : List Byte :=
  let b := wordsBytes ((List.range 8).map fun w => s.rd (Reg.SB_EMU_CAPS h w))
  b.take 4 ++ leBytes 2 (groupW g (s.f (Reg.HEAD_H_ACTIVE h) 0 16)) ++ b.drop 6

/-- A request of the far master to group `g` (R394). -/
def sbAnswer (s : State) (h : Fin 4) (g : Nat) (typ : Byte) (payload : List Byte) : State :=
  let s := s.inc (Reg.SB_FRAMES_RX h)
  let reply := fun s p => sbSend s h 0 (groupAddr g) (typ ||| 0x80) p
  if typ = 0x01 then
    let l := linkOf s h
    let s := putLink s h { l with status := tabSet (fun _ => []) l.status g payload }
    let p := emuStatus s h g
    let s := putLane s.useFree h g { laneOf s h g with a := PortCount.zero }
    reply (putLane s h (g + 1) { laneOf s h (g + 1) with b := PortCount.zero }) p
  else if typ = 0x02 then reply s (emuCaps s h g)
  else if 0x40 ≤ typ.toNat ∧ typ.toNat ≤ 0x7F then reply (sbDeliver s h 2 0 typ 0 payload).1 []
  else s

/-- The head answers a far master. -/
def sbSlave (s : State) (h : Nat) : Bool := s.on && decide (roleCode s (headBase h) = 2)

/-- SB_REQUEST_RECEIVED (R394). -/
def execSbRequestReceived (h : Fin 4) (g : Fin 12) (typ : Byte) (payload : List Byte) (s : State) : Host.Outcome State Fault Refusal :=
  .next (if sbSlave s h then sbAnswer s h g typ payload else s)

/-- A good frame: a reply to the master, or a request to a receiving head. Broadcasts get no reply (R392). -/
def sbFrameIn (s : State) (h : Fin 4) (dst src typ : Byte) (payload : List Byte) : State :=
  let g := src.toNat - 0x10
  if sbMaster s h && decide (dst = 0) && answers s h src typ then
    match (linkOf s h).req with
    | some q =>
      if typ = 0x81 then (if payload.length = 16 then statusIn s h g payload else s)
      else if typ = 0x82 then (if payload.length = 32 then capsIn s h g payload else s)
      else hostReply s h q src typ payload
    | none => s
  else if sbSlave s h && decide (0x10 ≤ dst.toNat ∧ dst.toNat ≤ 0x1B) then sbAnswer s h (dst.toNat - 0x10) typ payload
  else s.inc (Reg.SB_FRAMES_RX h)

/-- SB_FRAME_RECEIVED (R391 to R394): the bytes behind the SFD. A frame whose LEN or CRC does not fit its bytes is counted and ignored. -/
def execSbFrameReceived (h : Fin 4) (body : List Byte) (s : State) : Host.Outcome State Fault Refusal :=
  .next (if !s.on then s
    else match sbPayload body with
    | some p => sbFrameIn s h (body.getD 0 0) (body.getD 1 0) (body.getD 2 0) p
    | none =>
      let s := s.inc (Reg.SB_SB_CRC_ERR h)
      s.raise (.sbFrameError h) [s.rd (Reg.SB_SB_CRC_ERR h)])

end Sys2Proof.Machine
end

