-- ==== Sys2Proof/Machine/Accept.lean ====
section
/-!
DEFINITION. Consumers take entries from their rings (R95 to R99, R106, R112): the decode cluster, the job engines, the audio
ports, the sideband and the host path; and a job engine's outcomes (R248, R249).
-/
namespace Sys2Proof.Machine

/-! ### ABORT entries (R112) -/

/-- The target of an ABORT entry: ring and index (R98). -/
def abortTarget (e : List Byte) : Nat × Word := (leAt e 8 2 % 2 ^ 13, w32 (leAt e 12 4))

/-- The job that an ABORT entry names, accepted and undecided; the ABORT entry itself is none. -/
def abortee (s : State) (j : Job) : Option Job :=
  let t := abortTarget j.entry
  s.ring.jobs.find? fun x => decide (x.ring = t.1 ∧ x.index = t.2 ∧ ¬(x.ring = j.ring ∧ x.index = j.index))

/-- An accepted ABORT entry (R112). DESIGN CHOICE (log entry 46): the mark on an index that is not yet accepted stands until that
index is accepted or flushed, also over a disable and a new enable of its ring. -/
def abortGo (s : State) (j : Job) : State :=
  let got := abortTarget j.entry
  let r := got.1
  let i := got.2
  if ringOwner s r ≠ ringOwner s j.ring ∨ !ringConsumed s r then finishJob s j 0x03 []
  else if (i - s.rd (Reg.RING_CONS r)).toNat < ringCount s r then
    let m := s.ring.marks
    finishJob { s with ring := { s.ring with marks := if m.contains (r, i) then m else m ++ [(r, i)] } } j 0 []
  else match abortee s j with
    | some x => finishJob (abortJob s x) j (if abortWins s x then 0 else 0x03) []
    | none => finishJob s j 0x03 []

/-! ### Acceptance -/

/-- The entry at CONS. -/
def headEntry (s : State) (r : Nat) : List Byte := entryBytes s r (s.rd (Reg.RING_CONS r))

/-- The entry at CONS is an ABORT; a HOST_SCENE ring has none (R174). -/
def headAborts (s : State) (r : Nat) : Bool := decide (entryOp (headEntry s r) = 0xFF ∧ ringType s r ≠ 0x0C)

/-- The ring from which a free job engine takes its next entry (R231). -/
def nextRing (s : State) (eng : Nat) : Option Nat := (engRings s eng).find? (canAccept s)

/-- A job engine takes an ABORT entry at the head of one of its rings even while a job runs, but not one behind the running job on the
same ring (R231). -/
def abortTaken (s : State) (r eng : Nat) : Bool :=
  headAborts s r && (match (engOf s eng).run with | some j => decide (j.job.ring ≠ r) | none => true)

/-- The consumer takes the ring's next entry now: a job engine by R231, a port from DATA_RING (R490), the sideband between its
requests (R392). The jobs of a page that is not available are all taken, to complete with NOT_NEGOTIATED (R78). -/
def takes (s : State) (r : Nat) : Bool :=
  let o := ringOwner s r
  let t := ringType s r
  if ownerGone s r then !ringDir s r
  else if t = 0x02 then
    (if o.1 = 0x31 then abortTaken s r o.2 || ((engOf s o.2).run.isNone && decide (nextRing s o.2 = some r)) else true)
  else if t = 0x05 then decide (dataRing s o.2 = r)
  else if t = 0x0B then !ringDir s r && (headAborts s r || (linkOf s o.2).req.isNone)
  else decide (t = 0x0C)

/-- An accepted entry acts by its opcode and its unit's role (R99); none when a HOST_SCENE entry has to wait for pool slots. -/
def runEntry (s : State) (j : Job) (mism : List Nat) (rawFails : Bool) : Option State :=
  let o := ringOwner s j.ring
  let role := roleCode s (roleBase o)
  let op := entryOp j.entry
  let bad := finishJob s j 0x0C []
  if ringType s j.ring = 0x0C then hostScene s j
  else if op = 0xFF then some (if o.1 = 0x31 ∧ role = 0 then bad else abortGo s j)
  else if o.1 = 0x30 then some (if role = 0 then bad else frameReport s j)
  else if o.1 = 0x31 then some (startJob s (Fin.ofNat 8 o.2) j mism rawFails)
  else if o.1 = 0xA0 then some (if role = 1 then playAccept s o.2 j else bad)
  else some (if op = 1 ∧ role ≠ 0 then sendJob s o.2 j else bad)

/-- A job engine that takes its next entry notes the ring for the round robin (R231). -/
def noteRing (s : State) (r : Nat) : State :=
  let o := ringOwner s r
  if ringType s r = 0x02 ∧ o.1 = 0x31 ∧ (engOf s o.2).run.isNone then putEng s o.2 { engOf s o.2 with last := r } else s

/-- A consumer takes the entry at CONS of a ring (R95): its acceptance decides its outcome, or it acts. -/
def acceptEntry (s : State) (r : Nat) (mism : List Nat) (rawFails : Bool) : State :=
  if !takes s r then s
  else
    let got := acceptHead (noteRing s r) r
    got.2.elim got.1 fun j => (runEntry got.1 j mism rawFails).getD s

/-- ENTRY_ACCEPT (R95, R106): whatever the entry is. -/
def execEntryAccept (ring : Fin 8192) (s : State) : Host.Outcome State Fault Refusal := .next (acceptEntry s ring [] false)

/-- ABORT_ENTRY (R112): the entry at CONS is an ABORT. -/
def execAbortEntry (ring : Fin 8192) (s : State) : Host.Outcome State Fault Refusal :=
  .next (if headAborts s ring then acceptEntry s ring [] false else s)

/-- The entry at CONS has an opcode, for rings of a type owned by a block. -/
def headIs (s : State) (r t blk op : Nat) : Bool :=
  decide (ringType s r = t ∧ (ringOwner s r).1 = blk ∧ entryOp (headEntry s r) = op)

/-- PACKET (R174, R175): an entry of a HOST_SCENE ring. -/
def execPacket (ring : Fin 8192) (s : State) : Host.Outcome State Fault Refusal :=
  .next (if headIs s ring 0x0C 0x21 0x01 then acceptEntry s ring [] false else s)

/-- FRAME_REPORT (R229). -/
def execFrameReport (ring : Fin 8192) (s : State) : Host.Outcome State Fault Refusal :=
  .next (if headIs s ring 0x02 0x30 0x10 then acceptEntry s ring [] false else s)

/-- An entry of a job engine's ring with an opcode is taken by that engine. -/
def engineEntry (s : State) (eng : Fin 8) (ring : Fin 8192) (op : Nat) (mism : List Nat) (rawFails : Bool) : State :=
  if headIs s ring 0x02 0x31 op ∧ (ringOwner s ring).2 = eng.val then acceptEntry s ring mism rawFails else s

/-- DECOMPRESS (R232, R238). -/
def execDecompress (engine : Fin 8) (ring : Fin 8192) (s : State) : Host.Outcome State Fault Refusal :=
  .next (engineEntry s engine ring 1 [] false)

/-- CHECK (R232, R238). -/
def execCheckJob (engine : Fin 8) (ring : Fin 8192) (s : State) : Host.Outcome State Fault Refusal :=
  .next (engineEntry s engine ring 3 [] false)

/-- COMPRESS (R232, R240): `mismatches` are the tiles that self-verification finds wrong, in order; `rawFails`: the RAW re-emission of
the last of them does too (R246, R247). -/
def execCompress (engine : Fin 8) (ring : Fin 8192) (mismatches : List Nat) (rawFails : Bool) (s : State) :
    Host.Outcome State Fault Refusal :=
  .next (engineEntry s engine ring 2 mismatches rawFails)

/-- PLAY (R490, R491). -/
def execPlay (ring : Fin 8192) (s : State) : Host.Outcome State Fault Refusal :=
  .next (if headIs s ring 0x05 0xA0 0x01 then acceptEntry s ring [] false else s)

/-- SEND (R393). -/
def execSend (ring : Fin 8192) (s : State) : Host.Outcome State Fault Refusal :=
  .next (if headIs s ring 0x0B 0x46 0x01 then acceptEntry s ring [] false else s)

/-! ### Outcomes of a job engine (R248, R249) -/

/-- JOB_COMPLETE (R249): the running job's outcome is decided. The engine is free; the entry it takes next (R231) is the command
of that entry. -/
def execJobComplete (engine : Fin 8) (s : State) : Host.Outcome State Fault Refusal :=
  .next (match (engOf s engine).run with
    | some r => endJob s engine r r.status r.code (r.marks.length - 1)
    | none => s)

/-- JOB_TIMEOUT (R248): JOB_TIMEOUT ms after the job started. -/
def execJobTimeout (engine : Fin 8) (s : State) : Host.Outcome State Fault Refusal :=
  .next (match (engOf s engine).run with
    | some r =>
      if r.job.at_ + s.rdN (Reg.CJE_JOB_TIMEOUT engine) * 1000000 ≤ s.now then
        if ownOutcome s r then stopJob s engine r 0x0F
        else (stopJob (s.inc (Reg.CJE_TIMEOUT_COUNT engine)) engine r 0x0F).raise (.jobTimeout engine) [w32 r.job.ring, r.job.index]
      else s
    | none => s)

end Sys2Proof.Machine
end

