-- ==== Sys2Proof/Machine/Dispatch.lean ====
section
/-!
DEFINITION. The dispatch: one arm per command, each one direct call of its meaning.
-/
namespace Sys2Proof.Machine

def exec (i : Instr) (s : State) : Host.Outcome State Fault Refusal :=
  match i with
  | .lvinApplied => Sys2Proof.Machine.execLvinApplied s
  | .lvinLost => Sys2Proof.Machine.execLvinLost s
  | .fastClockStart => Sys2Proof.Machine.execFastClockStart s
  | .bootImageVerified => Sys2Proof.Machine.execBootImageVerified s
  | .memoryTrainingComplete trained temp0 temp1 => Sys2Proof.Machine.execMemoryTrainingComplete trained temp0 temp1 s
  | .stageReady => Sys2Proof.Machine.execStageReady s
  | .functionLevelReset hostFails => Sys2Proof.Machine.execFunctionLevelReset hostFails s
  | .perstAssert => Sys2Proof.Machine.execPerstAssert s
  | .perstDeassert => Sys2Proof.Machine.execPerstDeassert s
  | .pcieLinkDown speedWidth => Sys2Proof.Machine.execPcieLinkDown speedWidth s
  | .registerWrite req addr value be => Sys2Proof.Machine.execRegisterWrite req addr value be s
  | .unmappedAddressAccess req addr write => Sys2Proof.Machine.execUnmappedAddressAccess req addr write s
  | .lowWordRead req addr => Sys2Proof.Machine.execLowWordRead req addr s
  | .highWordWrite req addr value => Sys2Proof.Machine.execHighWordWrite req addr value s
  | .bar4Access write offset len data => Sys2Proof.Machine.execBar4Access write offset len data s
  | .bar4BaseWrite req value => Sys2Proof.Machine.execBar4BaseWrite req value s
  | .pageEnable req page => Sys2Proof.Machine.execPageEnable req page s
  | .pageDisable req page abort => Sys2Proof.Machine.execPageDisable req page abort s
  | .disableModeWrite req page abort => Sys2Proof.Machine.execDisableModeWrite req page abort s
  | .softReset req page => Sys2Proof.Machine.execSoftReset req page s
  | .softResetComplete page => Sys2Proof.Machine.execSoftResetComplete page s
  | .quiescence unit => Sys2Proof.Machine.execQuiescence unit s
  | .roleWrite req target value => Sys2Proof.Machine.execRoleWrite req target value s
  | .eventStatusClear req page mask occurring => Sys2Proof.Machine.execEventStatusClear req page mask occurring s
  | .eventForce req page mask => Sys2Proof.Machine.execEventForce req page mask s
  | .vectorHoldoffEnd v => Sys2Proof.Machine.execVectorHoldoffEnd v s
  | .vectorUnmask v => Sys2Proof.Machine.execVectorUnmask v s
  | .logRingEnable req ring => Sys2Proof.Machine.execLogRingEnable req ring s
  | .logRingDisable req => Sys2Proof.Machine.execLogRingDisable req s
  | .eventLogRecordWrite => Sys2Proof.Machine.execEventLogRecordWrite s
  | .timeMark => Sys2Proof.Machine.execTimeMark s
  | .featureAccept req value => Sys2Proof.Machine.execFeatureAccept req value s
  | .featureCheckComplete => Sys2Proof.Machine.execFeatureCheckComplete s
  | .ringEnable req ring value => Sys2Proof.Machine.execRingEnable req ring value s
  | .ringDisable req ring value hostFails => Sys2Proof.Machine.execRingDisable req ring value hostFails s
  | .doorbell ring index epoch top bytes => Sys2Proof.Machine.execDoorbell ring index epoch top bytes s
  | .entryAccept ring => Sys2Proof.Machine.execEntryAccept ring s
  | .hostReadFailure ring flushFails => Sys2Proof.Machine.execHostReadFailure ring flushFails s
  | .ringStalled ring => Sys2Proof.Machine.execRingStalled ring s
  | .completionRecordWrite ring => Sys2Proof.Machine.execCompletionRecordWrite ring s
  | .abortEntry ring => Sys2Proof.Machine.execAbortEntry ring s
  | .beginTxn req => Sys2Proof.Machine.execBeginTxn req s
  | .stageDataWrite req t value => Sys2Proof.Machine.execStageDataWrite req t value s
  | .commitTxn req value => Sys2Proof.Machine.execCommitTxn req value s
  | .commitValidationComplete t => Sys2Proof.Machine.execCommitValidationComplete t s
  | .rollback req t => Sys2Proof.Machine.execRollback req t s
  | .refSelWrite req value => Sys2Proof.Machine.execRefSelWrite req value s
  | .refInputQualified => Sys2Proof.Machine.execRefInputQualified s
  | .refLost => Sys2Proof.Machine.execRefLost s
  | .autoSwitchWrite req value => Sys2Proof.Machine.execAutoSwitchWrite req value s
  | .epochOffsetWrite req value => Sys2Proof.Machine.execEpochOffsetWrite req value s
  | .domCtrlWrite req d value => Sys2Proof.Machine.execDomCtrlWrite req d value s
  | .syncReceived d gm tai freq => Sys2Proof.Machine.execSyncReceived d gm tai freq s
  | .announceReceived d gm => Sys2Proof.Machine.execAnnounceReceived d gm s
  | .announceTimeout d => Sys2Proof.Machine.execAnnounceTimeout d s
  | .ptpMessageSend d msg => Sys2Proof.Machine.execPtpMessageSend d msg s
  | .ppsEdge => Sys2Proof.Machine.execPpsEdge s
  | .ppsLost => Sys2Proof.Machine.execPpsLost s
  | .slewEnd => Sys2Proof.Machine.execSlewEnd s
  | .acceptJump req value => Sys2Proof.Machine.execAcceptJump req value s
  | .domainSwitch req value => Sys2Proof.Machine.execDomainSwitch req value s
  | .autoDomainSwitch => Sys2Proof.Machine.execAutoDomainSwitch s
  | .arm req slot => Sys2Proof.Machine.execArm req slot s
  | .disarm req slot => Sys2Proof.Machine.execDisarm req slot s
  | .txnApply slot => Sys2Proof.Machine.execTxnApply slot s
  | .headCommit slot => Sys2Proof.Machine.execHeadCommit slot s
  | .audioStart slot => Sys2Proof.Machine.execAudioStart slot s
  | .opticBatch slot => Sys2Proof.Machine.execOpticBatch slot s
  | .gpioEdge slot => Sys2Proof.Machine.execGpioEdge slot s
  | .gpioPulseEnd g => Sys2Proof.Machine.execGpioPulseEnd g s
  | .testStart slot => Sys2Proof.Machine.execTestStart slot s
  | .wake slot => Sys2Proof.Machine.execWake slot s
  | .schedLogRecordWrite => Sys2Proof.Machine.execSchedLogRecordWrite s
  | .ppsOutPulse => Sys2Proof.Machine.execPpsOutPulse s
  | .linkUp port => Sys2Proof.Machine.execLinkUp port s
  | .linkDown port => Sys2Proof.Machine.execLinkDown port s
  | .ethernetFrameReceived port frame => Sys2Proof.Machine.execEthernetFrameReceived port frame s
  | .arpRequest port v6 addr => Sys2Proof.Machine.execArpRequest port v6 addr s
  | .multicastEntryWrite req port m w value => Sys2Proof.Machine.execMulticastEntryWrite req port m w value s
  | .pstPacketReceived port vlan src dst udp packet => Sys2Proof.Machine.execPstPacketReceived port vlan src dst udp packet s
  | .flowActivate req flow value => Sys2Proof.Machine.execFlowActivate req flow value s
  | .sceneRxEntryAccept ring => Sys2Proof.Machine.execSceneRxEntryAccept ring s
  | .packet ring => Sys2Proof.Machine.execPacket ring s
  | .pathLost flow port => Sys2Proof.Machine.execPathLost flow port s
  | .assemblyClose store frame => Sys2Proof.Machine.execAssemblyClose store frame s
  | .frameReady store frame => Sys2Proof.Machine.execFrameReady store frame s
  | .tileDecodeComplete store frame tile => Sys2Proof.Machine.execTileDecodeComplete store frame tile s
  | .decodeLoadUpdate => Sys2Proof.Machine.execDecodeLoadUpdate s
  | .decodeSelftest core pass => Sys2Proof.Machine.execDecodeSelftest core pass s
  | .frameReport ring => Sys2Proof.Machine.execFrameReport ring s
  | .frameReportTimeout ring index => Sys2Proof.Machine.execFrameReportTimeout ring index s
  | .decompress engine ring => Sys2Proof.Machine.execDecompress engine ring s
  | .checkJob engine ring => Sys2Proof.Machine.execCheckJob engine ring s
  | .compress engine ring mismatches rawFails => Sys2Proof.Machine.execCompress engine ring mismatches rawFails s
  | .jobComplete engine => Sys2Proof.Machine.execJobComplete engine s
  | .jobTimeout engine => Sys2Proof.Machine.execJobTimeout engine s
  | .mapCmdLoad req h bank => Sys2Proof.Machine.execMapCmdLoad req h bank s
  | .mapLoadComplete h bank => Sys2Proof.Machine.execMapLoadComplete h bank s
  | .mapSelWrite req h value => Sys2Proof.Machine.execMapSelWrite req h value s
  | .rayMapBlockFetch h bx by' => Sys2Proof.Machine.execRayMapBlockFetch h bx by' s
  | .latchPoint h => Sys2Proof.Machine.execLatchPoint h s
  | .fieldStart h => Sys2Proof.Machine.execFieldStart h s
  | .lineStart h => Sys2Proof.Machine.execLineStart h s
  | .rayDeadline h rays layersLate => Sys2Proof.Machine.execRayDeadline h rays layersLate s
  | .cacheFillReturn h line => Sys2Proof.Machine.execCacheFillReturn h line s
  | .layerDescriptorRead h k => Sys2Proof.Machine.execLayerDescriptorRead h k s
  | .guardRead h k band => Sys2Proof.Machine.execGuardRead h k band s
  | .layerDataRead h k line => Sys2Proof.Machine.execLayerDataRead h k line s
  | .commitGo req h => Sys2Proof.Machine.execCommitGo req h s
  | .bufferRelease h k => Sys2Proof.Machine.execBufferRelease h k s
  | .writebackRegionComplete h accepted mismatches => Sys2Proof.Machine.execWritebackRegionComplete h accepted mismatches s
  | .headEnable req h => Sys2Proof.Machine.execHeadEnable req h s
  | .headDisable req h abort => Sys2Proof.Machine.execHeadDisable req h abort s
  | .phaseLockReached group => Sys2Proof.Machine.execPhaseLockReached group s
  | .toleranceUpdate h firstMissing lineIssueNs mapDecodeNs wbLines => Sys2Proof.Machine.execToleranceUpdate h firstMissing lineIssueNs mapDecodeNs wbLines s
  | .lutEntryWrite req h ch index value => Sys2Proof.Machine.execLutEntryWrite req h ch index value s
  | .ledgerClear req h value => Sys2Proof.Machine.execLedgerClear req h value s
  | .mirrorCheckCompare h lane line crc pol rep => Sys2Proof.Machine.execMirrorCheckCompare h lane line crc pol rep s
  | .rxFrameStart h payload => Sys2Proof.Machine.execRxFrameStart h payload s
  | .rxLinePacket h lane rx => Sys2Proof.Machine.execRxLinePacket h lane rx s
  | .blockLock h lane rx => Sys2Proof.Machine.execBlockLock h lane rx s
  | .blockLockLoss h lane rx => Sys2Proof.Machine.execBlockLockLoss h lane rx s
  | .detectPoll h lane found => Sys2Proof.Machine.execDetectPoll h lane found s
  | .trainingStageComplete h lane => Sys2Proof.Machine.execTrainingStageComplete h lane s
  | .trainingStageTimeout h lane => Sys2Proof.Machine.execTrainingStageTimeout h lane s
  | .trainAPortWaitEnd h lane => Sys2Proof.Machine.execTrainAPortWaitEnd h lane s
  | .eqPresetSettle h lane => Sys2Proof.Machine.execEqPresetSettle h lane s
  | .retrain req h lane epoch => Sys2Proof.Machine.execRetrain req h lane epoch s
  | .moveGap req h lane epoch => Sys2Proof.Machine.execMoveGap req h lane epoch s
  | .prbsClear req h lane epoch => Sys2Proof.Machine.execPrbsClear req h lane epoch s
  | .prbsInject req h lane epoch => Sys2Proof.Machine.execPrbsInject req h lane epoch s
  | .readbackLockLoss h lane => Sys2Proof.Machine.execReadbackLockLoss h lane s
  | .sparingMove h => Sys2Proof.Machine.execSparingMove h s
  | .gapUnhealthyTimeout h => Sys2Proof.Machine.execGapUnhealthyTimeout h s
  | .statusReq h g => Sys2Proof.Machine.execStatusReq h g s
  | .status h g payload => Sys2Proof.Machine.execStatus h g payload s
  | .capsReq h g => Sys2Proof.Machine.execCapsReq h g s
  | .caps h g payload => Sys2Proof.Machine.execCaps h g payload s
  | .sbReplyTimeout h => Sys2Proof.Machine.execSbReplyTimeout h s
  | .sbContention h => Sys2Proof.Machine.execSbContention h s
  | .sbFrameReceived h body => Sys2Proof.Machine.execSbFrameReceived h body s
  | .send ring => Sys2Proof.Machine.execSend ring s
  | .sbRequestReceived h g typ payload => Sys2Proof.Machine.execSbRequestReceived h g typ payload s
  | .prbsCtrlWrite req h lane value => Sys2Proof.Machine.execPrbsCtrlWrite req h lane value s
  | .prbsSync h lane bits => Sys2Proof.Machine.execPrbsSync h lane bits s
  | .prbsSyncLoss h lane bits => Sys2Proof.Machine.execPrbsSyncLoss h lane bits s
  | .zlDisable req h abort => Sys2Proof.Machine.execZlDisable req h abort s
  | .panelCmdOn req => Sys2Proof.Machine.execPanelCmdOn req s
  | .panelCmdOff req => Sys2Proof.Machine.execPanelCmdOff req s
  | .precheckComplete readings => Sys2Proof.Machine.execPrecheckComplete readings s
  | .sequenceStepComplete => Sys2Proof.Machine.execSequenceStepComplete s
  | .powerGoodTimeout => Sys2Proof.Machine.execPowerGoodTimeout s
  | .railFault r above => Sys2Proof.Machine.execRailFault r above s
  | .hiccupAttempt r good => Sys2Proof.Machine.execHiccupAttempt r good s
  | .attemptCountReset r => Sys2Proof.Machine.execAttemptCountReset r s
  | .railNoLoad r => Sys2Proof.Machine.execRailNoLoad r s
  | .phaseLost r phase => Sys2Proof.Machine.execPhaseLost r phase s
  | .railPowerLimit loads => Sys2Proof.Machine.execRailPowerLimit loads s
  | .pvlOverload milliwatt => Sys2Proof.Machine.execPvlOverload milliwatt s
  | .pvlLoss => Sys2Proof.Machine.execPvlLoss s
  | .keeperLinkLost => Sys2Proof.Machine.execKeeperLinkLost s
  | .keeperChannelUp => Sys2Proof.Machine.execKeeperChannelUp s
  | .railTargetWrite req addr value => Sys2Proof.Machine.execRailTargetWrite req addr value s
  | .faultClear req value => Sys2Proof.Machine.execFaultClear req value s
  | .gateOutputFault h output => Sys2Proof.Machine.execGateOutputFault h output s
  | .crackLoopMeasurement ohms => Sys2Proof.Machine.execCrackLoopMeasurement ohms s
  | .crackAck req value => Sys2Proof.Machine.execCrackAck req value s
  | .thermistorRead ohms => Sys2Proof.Machine.execThermistorRead ohms s
  | .hvinLow millivolt => Sys2Proof.Machine.execHvinLow millivolt s
  | .hvinLoss => Sys2Proof.Machine.execHvinLoss s
  | .holdupBusCollapse => Sys2Proof.Machine.execHoldupBusCollapse s
  | .keeperStart readings => Sys2Proof.Machine.execKeeperStart readings s
  | .batchStage req id => Sys2Proof.Machine.execBatchStage req id s
  | .batchStart req id => Sys2Proof.Machine.execBatchStart req id s
  | .batchCancel req id => Sys2Proof.Machine.execBatchCancel req id s
  | .rowPhaseEnd => Sys2Proof.Machine.execRowPhaseEnd s
  | .rowUpdateEnd => Sys2Proof.Machine.execRowUpdateEnd s
  | .tokenRefill => Sys2Proof.Machine.execTokenRefill s
  | .autoBatchStart => Sys2Proof.Machine.execAutoBatchStart s
  | .batchCrackMeasurement ohm4 ohm5 ranUs => Sys2Proof.Machine.execBatchCrackMeasurement ohm4 ohm5 ranUs s
  | .optEnable req => Sys2Proof.Machine.execOptEnable req s
  | .memoryRequest pc arrive => Sys2Proof.Machine.execMemoryRequest pc arrive s
  | .requestAged seq => Sys2Proof.Machine.execRequestAged seq s
  | .ceilingHoldTimeout => Sys2Proof.Machine.execCeilingHoldTimeout s
  | .powerDownEntry => Sys2Proof.Machine.execPowerDownEntry s
  | .selfRefreshEntry => Sys2Proof.Machine.execSelfRefreshEntry s
  | .sleepExit req => Sys2Proof.Machine.execSleepExit req s
  | .sleepExitComplete => Sys2Proof.Machine.execSleepExitComplete s
  | .refreshWindow => Sys2Proof.Machine.execRefreshWindow s
  | .parityError pc first attempts => Sys2Proof.Machine.execParityError pc first attempts s
  | .quickRetrain pc ok => Sys2Proof.Machine.execQuickRetrain pc ok s
  | .safeMode pc => Sys2Proof.Machine.execSafeMode pc s
  | .dataLost pc => Sys2Proof.Machine.execDataLost pc s
  | .scrubBurst pc addr result => Sys2Proof.Machine.execScrubBurst pc addr result s
  | .eccInjectWrite req value => Sys2Proof.Machine.execEccInjectWrite req value s
  | .migrationStart pc reason => Sys2Proof.Machine.execMigrationStart pc reason s
  | .migrationComplete => Sys2Proof.Machine.execMigrationComplete s
  | .offlineRetrainComplete pc ok => Sys2Proof.Machine.execOfflineRetrainComplete pc ok s
  | .memCmdRetrain req pc => Sys2Proof.Machine.execMemCmdRetrain req pc s
  | .memCmdRetire req pc => Sys2Proof.Machine.execMemCmdRetire req pc s
  | .shrinkAck req => Sys2Proof.Machine.execShrinkAck req s
  | .systemTopWrite req value => Sys2Proof.Machine.execSystemTopWrite req value s
  | .sapEnable req p => Sys2Proof.Machine.execSapEnable req p s
  | .groupCmdStart req g => Sys2Proof.Machine.execGroupCmdStart req g s
  | .play ring => Sys2Proof.Machine.execPlay ring s
  | .audioFrame p input bad hostOk => Sys2Proof.Machine.execAudioFrame p input bad hostOk s
  | .slotMaskWrite req p value => Sys2Proof.Machine.execSlotMaskWrite req p value s
  | .audioClockLoss p outOfRange ppm => Sys2Proof.Machine.execAudioClockLoss p outOfRange ppm s
  | .audioClockReturn p => Sys2Proof.Machine.execAudioClockReturn p s
  | .contClear req p value => Sys2Proof.Machine.execContClear req p value s
  | .audioRecordWrite p => Sys2Proof.Machine.execAudioRecordWrite p s
  | .mclkCfgWrite req value => Sys2Proof.Machine.execMclkCfgWrite req value s
  | .sensorSample zone counts => Sys2Proof.Machine.execSensorSample zone counts s
  | .lossFloorExpiry zone => Sys2Proof.Machine.execLossFloorExpiry zone s
  | .powerCmdActive req => Sys2Proof.Machine.execPowerCmdActive req s
  | .powerCmdReduced req => Sys2Proof.Machine.execPowerCmdReduced req s
  | .powerCmdStandby req => Sys2Proof.Machine.execPowerCmdStandby req s
  | .standbyReached => Sys2Proof.Machine.execStandbyReached s
  | .wakeGpioEdge g rising => Sys2Proof.Machine.execWakeGpioEdge g rising s
  | .wakeClocksReady temp0 temp1 => Sys2Proof.Machine.execWakeClocksReady temp0 temp1 s
  | .counterCfgWrite req idx value => Sys2Proof.Machine.execCounterCfgWrite req idx value s
  | .counterWrap counter amount => Sys2Proof.Machine.execCounterWrap counter amount s
  | .freezeWrite req value => Sys2Proof.Machine.execFreezeWrite req value s
  | .perfCmdClear req => Sys2Proof.Machine.execPerfCmdClear req s
  | .perfCmdDump req => Sys2Proof.Machine.execPerfCmdDump req s
  | .dumpTrigger byField => Sys2Proof.Machine.execDumpTrigger byField s
  | .dumpWriteComplete => Sys2Proof.Machine.execDumpWriteComplete s
  | .glintRecordWrite h stages => Sys2Proof.Machine.execGlintRecordWrite h stages s
  | .mgmtWatchdog => Sys2Proof.Machine.execMgmtWatchdog s
  | .fwStage req => Sys2Proof.Machine.execFwStage req s
  | .fwStageComplete mediaOk => Sys2Proof.Machine.execFwStageComplete mediaOk s
  | .fwSwap req h => Sys2Proof.Machine.execFwSwap req h s
  | .fwTakeover => Sys2Proof.Machine.execFwTakeover s
  | .fwSwapTimeout => Sys2Proof.Machine.execFwSwapTimeout s
  | .fwSelfCheckFailure => Sys2Proof.Machine.execFwSelfCheckFailure s
  | .fwConfirm req => Sys2Proof.Machine.execFwConfirm req s
  | .fwRevert req => Sys2Proof.Machine.execFwRevert req s
  | .maintenanceLogRecordWrite => Sys2Proof.Machine.execMaintenanceLogRecordWrite s
  | .lifetimeRecord => Sys2Proof.Machine.execLifetimeRecord s
  | .profileInstall req => Sys2Proof.Machine.execProfileInstall req s
  | .profileInstallComplete mediaOk => Sys2Proof.Machine.execProfileInstallComplete mediaOk s
  | .handover req => Sys2Proof.Machine.execHandover req s
  | .qsfpModuleInserted port media powerClass => Sys2Proof.Machine.execQsfpModuleInserted port media powerClass s
  | .qsfpModuleRemoved port => Sys2Proof.Machine.execQsfpModuleRemoved port s
  | .triggerInputEdge g rising => Sys2Proof.Machine.execTriggerInputEdge g rising s
  | .triggerOutputReadback g level => Sys2Proof.Machine.execTriggerOutputReadback g level s
  | .auxLevelWrite req value => Sys2Proof.Machine.execAuxLevelWrite req value s
  | .auxCtrlWrite req value => Sys2Proof.Machine.execAuxCtrlWrite req value s
  | .delayRespReceived d delay => Sys2Proof.Machine.execDelayRespReceived d delay s
  | .delayReqReceived d => Sys2Proof.Machine.execDelayReqReceived d s
  | .pcieLinkUp => Sys2Proof.Machine.execPcieLinkUp s
  | .laneStandbyResumeTimeout h lane => Sys2Proof.Machine.execLaneStandbyResumeTimeout h lane s
  | .stackTemperatureRead stack temp => Sys2Proof.Machine.execStackTemperatureRead stack temp s

end Sys2Proof.Machine
end

