-- ==== Sys2Proof/Safety.lean ====
section
/-!
DEFINITION. What counts as a safe state of the block, and what a command leaves alone, in the terms the statements use.
-/
namespace Sys2Proof.Machine

/-- The register files are in canonical form: addresses strictly rising, no word equal to its reset value. -/
def regsWf (s : State) : Bool := tabWf Reg.reset s.regs && tabWf Reg.reset s.eff

/-- The memories are in canonical form: addresses strictly rising, no byte equal to what an unlisted address reads. -/
def memWf (s : State) : Bool := tabWf (fun _ => 0) s.mem.hbm && tabWf (fun _ => 0) s.mem.host

/-- The invariant of the block: registers and memories are in canonical form, so that equal contents are equal data. -/
def Inv (s : State) : Prop := regsWf s = true ∧ memWf s = true

/-- The registers that the event router writes by itself (R49, R68, R70): the EVT_STATUS word of every page, LOG_DROPPED_LOW,
LOG_DROPPED_HIGH and LOG_FILL, and the MSI-X pending bits. -/
def routerReg (a : Nat) : Bool :=
  decide ((a < 0x100000 ∧ a % 0x1000 = 0x14) ∨ (0x3814 ≤ a ∧ a ≤ 0x381C) ∨ (0x3800 ≤ a ∧ a ≤ 0x3804))

/-- The parts of State that a command may own. `clock` is device time itself, `servo` the rest of the time unit; `hbm` and
`host` are the bytes of the two memories, `memory` the rest of the memory controller. -/
inductive Part where
  | regs | eff | out | freeCount | power | clock | servo | router | bus | ring | txn | sched | maint | hbm | host | memory
  | ing | eng | heads | links | keeper | opt | audio | therm | perf
  deriving DecidableEq, Repr

/-- A part is the same in two states. -/
def samePart : Part → State → State → Prop
  | .regs, s, t => t.regs = s.regs
  | .eff, s, t => t.eff = s.eff
  | .out, s, t => t.out = s.out
  | .freeCount, s, t => t.freeCount = s.freeCount
  | .power, s, t => t.power = s.power
  | .clock, s, t => t.time.ns = s.time.ns ∧ t.time.frac = s.time.frac
  | .servo, s, t => { t.time with ns := s.time.ns, frac := s.time.frac } = s.time
  | .router, s, t => t.router = s.router
  | .bus, s, t => t.bus = s.bus
  | .ring, s, t => t.ring = s.ring
  | .txn, s, t => t.txn = s.txn
  | .sched, s, t => t.sched = s.sched
  | .maint, s, t => t.maint = s.maint
  | .hbm, s, t => t.mem.hbm = s.mem.hbm
  | .host, s, t => t.mem.host = s.mem.host
  | .memory, s, t => { t.mem with hbm := s.mem.hbm, host := s.mem.host } = s.mem
  | .ing, s, t => t.ing = s.ing
  | .eng, s, t => t.eng = s.eng
  | .heads, s, t => t.heads = s.heads
  | .links, s, t => t.links = s.links
  | .keeper, s, t => t.keeper = s.keeper
  | .opt, s, t => t.opt = s.opt
  | .audio, s, t => t.audio = s.audio
  | .therm, s, t => t.therm = s.therm
  | .perf, s, t => t.perf = s.perf

/-- Every register but the listed ones, and those the event router writes, reads as before. -/
def regsKept (l : List Nat) (s t : State) : Prop := ∀ a, a ∉ l → routerReg a = false → t.rd a = s.rd a

/-- The registers in which traffic and check codes are counted wherever data moves (R470, R478, R530): the memory controller's MEM0
to MEM3 pages but their configuration registers other than ECC_INJECT, and the performance counters' values and OVF bits. -/
def dataReg (a : Nat) : Bool :=
  decide ((0x90000 ≤ a ∧ a < 0x94000 ∧ 0x800 ≤ a % 0x1000) ∨ a = 0x93108 ∨ (0xC0000 ≤ a ∧ a < 0xC3000 ∧ 0x800 ≤ a % 0x1000))

/-- Every register but the listed ones, the router's and those that count moving data reads as before. -/
def dataKept (l : List Nat) (s t : State) : Prop := ∀ a, a ∉ l → routerReg a = false → dataReg a = false → t.rd a = s.rd a

/-- Exactly the bytes of `l` at `a` are stored, in host memory or in HBM; HBM writes at or above USABLE_TOP or to an unbacked channel
are discarded (R460, R476). Every other byte of both memories reads as before. -/
def bytesPut (host : Bool) (a : Nat) (l : List Byte) (s t : State) : Prop :=
  (∀ x, hostByte t x = if host = true ∧ a ≤ x ∧ x < a + l.length then l.getD (x - a) 0 else hostByte s x) ∧
  (∀ x, hbmByte t x = if host = false ∧ a ≤ x ∧ x < a + l.length ∧ ¬(usableTop s ≤ x ∨ unbackedAt s x = true)
    then l.getD (x - a) 0 else hbmByte s x)

/-- Exactly the bytes of `l` at `a` in HBM and then those of `m` at `b`, in host memory or in HBM, are stored, with the same HBM writes
discarded as in `bytesPut` (R460, R476). -/
def bytesPut2 (a : Nat) (l : List Byte) (host : Bool) (b : Nat) (m : List Byte) (s t : State) : Prop :=
  (∀ x, hostByte t x = if host = true ∧ b ≤ x ∧ x < b + m.length then m.getD (x - b) 0 else hostByte s x) ∧
  (∀ x, hbmByte t x = if usableTop s ≤ x ∨ unbackedAt s x = true then hbmByte s x
    else if host = false ∧ b ≤ x ∧ x < b + m.length then m.getD (x - b) 0
    else if a ≤ x ∧ x < a + l.length then l.getD (x - a) 0 else hbmByte s x)

/-- An entry of these bytes is stored at the ring's PROD, and nothing else is (R86, R94). -/
def ringPut (r : Nat) (l : List Byte) (s t : State) : Prop :=
  bytesPut (ringHost s r) (entryAddr s r (s.rd (Reg.RING_PROD r))) (pushBytes s r l) s t

/-- The completion record of an entry is held for its completion ring, or releasable (R100, R101). -/
def recorded (s : State) (r : Nat) (index tag : Word) (status : Nat) (job : List Word) (t : State) : Prop :=
  (⟨ringCompId s r, some r, index, compWords r index status s.ns32 tag job⟩ : Comp) ∈ t.ring.held ++ t.ring.ready

/-- The STATUS words that follow the completion records of a ring's entries (R87, R96): the ring's own, that of its completion ring, and
those of the rings whose records are held or wait. -/
def compRegs (s : State) (r : Nat) : List Nat :=
  Reg.RING_STATUS r :: Reg.RING_STATUS (ringCompId s r) ::
    (s.ring.held ++ s.ring.ready).filterMap fun c => c.jobRing.map Reg.RING_STATUS

/-- A consumer takes the entry at CONS of a ring and accepts it as job `j` (R95, R106): nothing at acceptance decides its
outcome. -/
def accepts (s : State) (r : Nat) (j : Job) : Prop := takes s r = true ∧ (acceptHead (noteRing s r) r).2 = some j

/-- The state in which an accepted entry acts. -/
def accepted (s : State) (r : Nat) : State := (acceptHead (noteRing s r) r).1

/-- A job engine has started job `j` (R231, R249). -/
def runsJob (e : Fin 8) (j : Job) (s t : State) : Prop :=
  t.rd (Reg.CJE_ENGINE_STATUS e) = w32 (j.ring + 0x10000) ∧ t.rd (Reg.CJE_CUR_INDEX e) = j.index ∧
  (engOf t e).run.map (·.job) = some j ∧ t.ring.jobs = s.ring.jobs ++ [j]

/-- The job engine is free, the job has left the list of jobs without outcome, and JOBS has counted it (R249). -/
def jobEnded (e : Fin 8) (r : JobRun) (s t : State) : Prop :=
  (engOf t e).run = none ∧ (∀ j ∈ t.ring.jobs, ¬(j.ring = r.job.ring ∧ j.index = r.job.index)) ∧
  t.rd (Reg.CJE_ENGINE_STATUS e) = 0 ∧ t.rd (Reg.CJE_CUR_INDEX e) = 0 ∧
  t.rd64 (Reg.CJE_JOBS_LO e) (Reg.CJE_JOBS_HI e) = (s.rd64 (Reg.CJE_JOBS_LO e) (Reg.CJE_JOBS_HI e) + 1) % 2 ^ 48

/-- TXN_LAST as a requester reads it (R114). -/
def txnLastOf (s : State) : Requester → Word
  | .host => s.txn.lastHost
  | .mgmt => s.txn.lastMgmt

/-- SCHED_LAST as a requester reads it (R147). -/
def schedLastOf (s : State) : Requester → Word
  | .host => s.sched.lastHost
  | .mgmt => s.sched.lastMgmt

/-- Slot `i` has come from s to an outcome with status `st`: it is IDLE, LAST names the status, and a record of it waits for the
log (R148, R157). -/
def slotEnded (s : State) (i st : Nat) (t : State) : Prop :=
  slotState t i = 0 ∧ t.f (Reg.SCHED_SLOT_STATUS i) 8 4 = st ∧
  (⟨i, st, s.now, slotTime s i, slotPayload s i, s.rd (Reg.SCHED_SLOT_CTRL i)⟩ : SchedRec) ∈ t.sched.buf

/-- A write reaches a header register of a page (R48, R52, R59, R521): the access arrives, the address is mapped, and the page
answers in the power state. -/
def headerOpen (s : State) (r : Requester) (a : Nat) : Prop :=
  reaches s r = true ∧ unmappedFor r a = false ∧ (s.powerState = 2 → standbyOpen a = true)

/-- The bases of the pages that R47 lists. -/
def bar0Pages : List Nat :=
  [0x0, 0x1000, 0x2000, 0x3000, 0x4000, 0x8000, 0x10000, 0x11000, 0x12000, 0x20000, 0x21000, 0x22000, 0x30000] ++
  (List.range 8).map (fun j => 0x31000 + 0x1000 * j) ++
  (List.range 4).flatMap (fun h => (List.range 14).map fun k => 0x40000 + 0x10000 * h + 0x1000 * k) ++
  [0x80000, 0x81000, 0x82000, 0x84000] ++ (List.range 5).map (fun i => 0x90000 + 0x1000 * i) ++
  (List.range 8).map (fun p => 0xA0000 + 0x1000 * p) ++ [0xB0000, 0xC0000, 0xC1000, 0xC2000]

/-- The router has taken an occurrence of the event: its EVT_STATUS bit reads 1 (R63). -/
def noted (e : Ev) (s : State) : Prop := s.b (Reg.PAGE_EVT_STATUS (evPage e)) (evBit e) = true

/-- The registers that follow the lanes of a head (R376, R386, R388, R398): LANE_STATUS and SPARE_STATUS, and with them HEAD_STATUS and
COMMIT_FIELD (R335, R337, R347), and TRAINED_RATE. -/
def linkRegs (h : Nat) : List Nat :=
  Reg.ZL_SPARE_STATUS h :: Reg.ZL_TRAINED_RATE h :: Reg.HEAD_HEAD_STATUS h :: Reg.HEAD_COMMIT_FIELD h :: Reg.RGU_RGU_STATUS h :: (List.range 13).map (Reg.ZL_LANE_STATUS h)

/-- A training round of a lane has failed (R378): the reason, the count of failed rounds and the event, and DETECT again, or DARK after
the third and for a round that began there. -/
def roundFailed (s : State) (h : Fin 4) (n : Fin 13) (reason : Nat) (t : State) : Prop :=
  noted (.laneTrainFail h) t ∧ t.f (Reg.ZL_LANE_STATUS h n) 20 4 = reason ∧
  t.f (Reg.ZL_LANE_STATUS h n) 16 2 = min 3 (s.f (Reg.ZL_LANE_STATUS h n) 16 2 + 1) ∧
  laneState t h n = (if (laneOf s h n).dark = true ∨ laneState s h n = 6 ∨ 2 ≤ s.f (Reg.ZL_LANE_STATUS h n) 16 2 then 6 else 0) ∧
  regsKept (linkRegs h) s t

/-- A lane in ACTIVE has failed or been taken out (R378, R387): its state and reason, and a move is due if it carried a group that the
module sends (R388). -/
def laneFailed (s : State) (h : Fin 4) (n : Fin 13) (reason : Nat) (t : State) : Prop :=
  laneState t h n = 0 ∧ t.f (Reg.ZL_LANE_STATUS h n) 20 4 = reason ∧
  (linkOf t h).fails = (linkOf s h).fails ++
    (if (carried s h n).isSome = true ∧ laneRole s h n ≠ 2 then [(n.val, reason, s.now)] else []) ∧
  regsKept (linkRegs h) s t

/-- A command or write of a RAIL page that the keeper takes over the isolated channel (R17, R404, R405). -/
def railOpen (s : State) (r : Requester) (page a : Nat) : Prop :=
  cfgGate s r a none = .go ∧ kOn s = true ∧ chanUp s = true ∧ (r = .mgmt ∨ enabled s page = true)

/-- The status registers that follow the optic layer (R456). -/
def optRegs : List Nat :=
  [Reg.OPT_OPT_STATUS, Reg.OPT_BATCH_STATUS, Reg.OPT_ROWS_LEFT, Reg.OPT_PENDING_CELLS, Reg.OPT_UNCERTAIN_ROWS, Reg.OPT_REDRIVE_ROWS]

/-- Layer `k` of the field in production is eclipsed from line `y` on, and this is counted, shown and reported (R317, R318). -/
def eclipsed (s : State) (h : Fin 4) (k : Fin 8) (y cause : Nat) (t : State) : Prop :=
  (prodField t h).ecl = (prodField s h).ecl ++ [⟨k, y, cause⟩] ∧ noted (.layerEclipsed h) t ∧
  t.rd (Reg.LAYER_ECLIPSE_COUNT h k) = satAdd (s.rd (Reg.LAYER_ECLIPSE_COUNT h k)) 1 0xFFFFFFFF ∧
  t.rd (Reg.LAYER_ECLIPSE_LINE h k) = w32 (y % 65536 + cause * 65536)

/-- What a function-level reset does from s to t (R46, R125): FLR_RECEIVED; the MSI-X table and BAR4_BASE return to reset; every
host-produced ring is disabled and every OPEN transaction of host software is FREE; nothing changes on the picture, the panel or the
optic layer; and where there is no such ring and no OPEN transaction, no other register changes. -/
def flrDone (s t : State) : Prop :=
  noted .flrReceived t ∧ t.heads = s.heads ∧ t.keeper = s.keeper ∧ t.opt = s.opt ∧ t.eff = s.eff ∧ t.time = s.time ∧
  (∀ a, flrClears a = true → routerReg a = false → t.rd a = Reg.reset a) ∧
  (∀ r ∈ enabledRings s, ringDir s r = false → ringEnabled t r = false) ∧
  (∀ k, k < 4 → txnState s k = 1 → txnOwner s k = 0 → txnPending s k = false → txnState t k = 0) ∧
  ((∀ r ∈ enabledRings s, ringDir s r = true) → (∀ k, k < 4 → txnState s k ≠ 1) →
    ∀ a, flrClears a = false → routerReg a = false → t.rd a = s.rd a)

/-- What an event may touch (R63 to R74). -/
def byRouter : List Part := [.regs, .out, .router, .maint]

/-- The parts of State that a command may change: it leaves every other part, and the queue, alone. -/
def footprint : Instr → List Part
  | .lvinApplied => byRouter ++ [.eff, .power, .clock, .servo, .bus, .ring, .txn, .sched, .hbm, .memory, .ing, .eng, .heads, .links, .keeper, .opt, .audio, .therm, .perf]
  | .lvinLost => [.regs, .eff, .power, .clock, .servo, .router, .bus, .ring, .txn, .sched, .maint, .hbm, .memory, .ing, .eng, .heads, .links, .keeper, .opt, .audio, .therm, .perf]
  | .fastClockStart => byRouter ++ [.power]
  | .bootImageVerified => byRouter ++ [.keeper]
  | .memoryTrainingComplete _ _ _ => byRouter ++ [.memory]
  | .stageReady => byRouter ++ [.eff, .freeCount, .power, .ring, .txn, .sched, .hbm, .host, .memory, .ing, .eng, .heads, .links, .keeper, .opt, .audio, .perf]
  | .functionLevelReset _ => byRouter ++ [.freeCount, .ring, .txn, .hbm, .host, .memory, .ing, .eng, .links, .audio]
  | .perstAssert => [.power]
  | .perstDeassert => byRouter ++ [.freeCount, .power, .ring, .txn, .hbm, .host, .memory, .ing, .eng, .links, .audio]
  | .pcieLinkDown _ => byRouter ++ [.power]
  | .registerWrite _ _ _ _ => byRouter ++ [.eff, .freeCount, .power, .clock, .servo, .bus, .ring, .txn, .sched, .hbm, .host, .memory, .ing, .eng, .heads, .links, .keeper, .opt, .audio, .therm, .perf]
  | .unmappedAddressAccess _ _ _ => byRouter
  | .lowWordRead _ _ => byRouter ++ [.freeCount, .bus, .memory]
  | .highWordWrite _ _ _ => byRouter ++ [.eff, .freeCount, .power, .clock, .servo, .bus, .ring, .txn, .sched, .hbm, .host, .memory, .ing, .eng, .heads, .links, .keeper, .opt, .audio, .therm, .perf]
  | .bar4Access _ _ _ _ => byRouter ++ [.hbm, .memory]
  | .bar4BaseWrite _ _ => byRouter ++ [.ring, .ing, .heads, .links]
  | .pageEnable _ _ => byRouter ++ [.power, .ring, .hbm, .memory, .ing, .heads, .links, .opt, .audio, .perf]
  | .pageDisable _ _ _ => byRouter ++ [.freeCount, .ring, .txn, .sched, .hbm, .host, .memory, .ing, .eng, .heads, .links, .keeper, .opt, .audio, .perf]
  | .disableModeWrite _ _ _ => byRouter ++ [.freeCount, .ring, .txn, .sched, .hbm, .host, .memory, .ing, .eng, .heads, .links, .keeper, .opt, .audio, .perf]
  | .softReset _ _ => byRouter
  | .softResetComplete _ => [.regs, .eff, .out, .sched, .ing, .eng, .heads, .links, .audio, .therm, .perf]
  | .quiescence _ => byRouter ++ [.ring, .txn, .ing, .heads, .links]
  | .roleWrite _ _ _ => byRouter
  | .eventStatusClear _ _ _ _ => byRouter ++ [.freeCount]
  | .eventForce _ _ _ => byRouter
  | .vectorHoldoffEnd _ => [.regs, .out, .router]
  | .vectorUnmask _ => [.regs, .out, .router]
  | .logRingEnable _ _ => byRouter ++ [.freeCount, .ring, .hbm, .host, .memory, .ing, .eng, .links, .audio]
  | .logRingDisable _ => byRouter ++ [.freeCount, .ring, .hbm, .host, .memory, .ing, .eng, .links, .audio]
  | .eventLogRecordWrite => byRouter ++ [.ring, .hbm, .host, .memory]
  | .timeMark => byRouter ++ [.ring, .hbm, .host, .memory]
  | .featureAccept _ _ => byRouter
  | .featureCheckComplete => byRouter
  | .ringEnable _ _ _ => byRouter ++ [.freeCount, .ring, .hbm, .host, .memory, .ing, .eng, .links, .audio]
  | .ringDisable _ _ _ _ => byRouter ++ [.freeCount, .ring, .hbm, .host, .memory, .ing, .eng, .links, .audio]
  | .doorbell _ _ _ _ _ => byRouter ++ [.ing]
  | .entryAccept _ => byRouter ++ [.freeCount, .ring, .hbm, .host, .memory, .ing, .eng, .links, .audio]
  | .hostReadFailure _ _ => byRouter ++ [.freeCount, .ring, .hbm, .host, .memory, .ing, .eng, .links, .audio]
  | .ringStalled _ => byRouter ++ [.ring]
  | .completionRecordWrite _ => byRouter ++ [.ring, .hbm, .host, .memory]
  | .abortEntry _ => byRouter ++ [.freeCount, .ring, .hbm, .host, .memory, .ing, .eng, .links, .audio]
  | .beginTxn _ => byRouter ++ [.txn]
  | .stageDataWrite _ _ _ => byRouter ++ [.txn]
  | .commitTxn _ _ => byRouter ++ [.txn]
  | .commitValidationComplete _ => byRouter ++ [.ring, .txn, .sched, .ing, .heads, .links]
  | .rollback _ _ => byRouter ++ [.ring, .txn, .sched]
  | .refSelWrite _ _ => byRouter ++ [.servo]
  | .refInputQualified => byRouter ++ [.servo]
  | .refLost => byRouter ++ [.servo]
  | .autoSwitchWrite _ _ => byRouter ++ [.servo]
  | .epochOffsetWrite _ _ => byRouter
  | .domCtrlWrite _ _ _ => byRouter ++ [.servo]
  | .syncReceived _ _ _ _ => byRouter ++ [.servo]
  | .announceReceived _ _ => byRouter ++ [.servo]
  | .announceTimeout _ => byRouter ++ [.servo]
  | .ptpMessageSend _ _ => [.out]
  | .ppsEdge => byRouter ++ [.freeCount, .servo]
  | .ppsLost => byRouter ++ [.power]
  | .slewEnd => byRouter ++ [.clock, .servo]
  | .acceptJump _ _ => byRouter ++ [.clock, .servo, .ring, .txn, .sched, .hbm, .memory, .ing, .heads, .links, .audio]
  | .domainSwitch _ _ => byRouter ++ [.power, .servo]
  | .autoDomainSwitch => byRouter ++ [.power, .servo]
  | .arm _ _ => byRouter ++ [.sched]
  | .disarm _ _ => byRouter ++ [.sched]
  | .txnApply _ => byRouter ++ [.ring, .txn, .sched, .ing, .heads, .links]
  | .headCommit _ => byRouter ++ [.eff, .sched]
  | .audioStart _ => byRouter ++ [.ring, .sched, .audio]
  | .opticBatch _ => byRouter ++ [.sched, .hbm, .memory, .opt]
  | .gpioEdge _ => byRouter ++ [.sched]
  | .gpioPulseEnd _ => [.regs, .out, .sched]
  | .testStart _ => byRouter ++ [.sched, .heads, .links]
  | .wake _ => byRouter ++ [.sched, .therm]
  | .schedLogRecordWrite => byRouter ++ [.ring, .sched, .hbm, .host, .memory]
  | .ppsOutPulse => [.out]
  | .linkUp _ => byRouter
  | .linkDown _ => byRouter ++ [.power]
  | .ethernetFrameReceived _ _ => byRouter
  | .arpRequest _ _ _ => [.out]
  | .multicastEntryWrite _ _ _ _ _ => byRouter
  | .pstPacketReceived _ _ _ _ _ _ => byRouter ++ [.hbm, .host, .memory, .ing]
  | .flowActivate _ _ _ => byRouter ++ [.ing]
  | .sceneRxEntryAccept _ => byRouter ++ [.freeCount, .ring, .memory, .ing]
  | .packet _ => byRouter ++ [.freeCount, .ring, .hbm, .host, .memory, .ing, .eng, .links, .audio]
  | .pathLost _ _ => byRouter ++ [.power]
  | .assemblyClose _ _ => byRouter ++ [.ring, .hbm, .memory, .ing]
  | .frameReady _ _ => byRouter ++ [.freeCount, .ring, .hbm, .memory, .ing]
  | .tileDecodeComplete _ _ _ => byRouter ++ [.hbm, .memory, .ing]
  | .decodeLoadUpdate => byRouter ++ [.ing]
  | .decodeSelftest _ _ => byRouter ++ [.ing]
  | .frameReport _ => byRouter ++ [.freeCount, .ring, .hbm, .host, .memory, .ing, .eng, .links, .audio]
  | .frameReportTimeout _ _ => [.regs, .ring]
  | .decompress _ _ => byRouter ++ [.freeCount, .ring, .hbm, .host, .memory, .ing, .eng, .links, .audio]
  | .checkJob _ _ => byRouter ++ [.freeCount, .ring, .hbm, .host, .memory, .ing, .eng, .links, .audio]
  | .compress _ _ _ _ => byRouter ++ [.freeCount, .ring, .hbm, .host, .memory, .ing, .eng, .links, .audio]
  | .jobComplete _ => byRouter ++ [.ring, .eng]
  | .jobTimeout _ => byRouter ++ [.freeCount, .ring, .hbm, .host, .memory, .eng]
  | .mapCmdLoad _ _ _ => byRouter
  | .mapLoadComplete _ _ => byRouter ++ [.memory]
  | .mapSelWrite _ _ _ => byRouter ++ [.ring, .ing, .heads, .links]
  | .rayMapBlockFetch _ _ _ => byRouter ++ [.memory, .heads]
  | .latchPoint _ => byRouter ++ [.eff, .freeCount, .power, .ring, .txn, .memory, .ing, .heads, .links, .perf]
  | .fieldStart _ => byRouter ++ [.eff, .memory, .ing, .heads, .links, .keeper, .perf]
  | .lineStart _ => byRouter ++ [.power, .ing, .heads, .links, .keeper, .perf]
  | .rayDeadline _ _ _ => byRouter ++ [.freeCount, .memory, .ing, .heads, .perf]
  | .cacheFillReturn _ _ => byRouter ++ [.memory, .heads]
  | .layerDescriptorRead _ _ => byRouter ++ [.memory, .heads]
  | .guardRead _ _ _ => byRouter ++ [.memory, .heads]
  | .layerDataRead _ _ _ => byRouter ++ [.memory, .heads]
  | .commitGo _ _ => byRouter ++ [.eff]
  | .bufferRelease _ _ => byRouter ++ [.heads]
  | .writebackRegionComplete _ _ _ => byRouter ++ [.freeCount, .ring, .hbm, .host, .memory, .heads]
  | .headEnable _ _ => byRouter ++ [.power, .heads, .links, .perf]
  | .headDisable _ _ _ => byRouter ++ [.freeCount, .memory, .ing, .heads, .links, .keeper, .perf]
  | .phaseLockReached _ => byRouter ++ [.heads]
  | .toleranceUpdate _ _ _ _ _ => [.regs, .heads]
  | .lutEntryWrite _ _ _ _ _ => byRouter
  | .ledgerClear _ _ _ => byRouter
  | .mirrorCheckCompare _ _ _ _ _ _ => byRouter ++ [.power, .heads, .links, .perf]
  | .rxFrameStart _ _ => byRouter ++ [.heads, .links]
  | .rxLinePacket _ _ _ => byRouter ++ [.eff, .power, .ring, .txn, .ing, .heads, .links, .perf]
  | .blockLock _ _ _ => byRouter ++ [.eff, .power, .ring, .txn, .ing, .heads, .links, .perf]
  | .blockLockLoss _ _ _ => byRouter ++ [.eff, .power, .ring, .txn, .ing, .heads, .links, .perf]
  | .detectPoll _ _ _ => byRouter ++ [.power, .heads, .links, .perf]
  | .trainingStageComplete _ _ => byRouter ++ [.power, .heads, .links, .perf]
  | .trainingStageTimeout _ _ => byRouter ++ [.power, .heads, .links, .perf]
  | .trainAPortWaitEnd _ _ => [.links]
  | .eqPresetSettle _ _ => [.links]
  | .retrain _ _ _ _ => byRouter ++ [.power, .heads, .links, .perf]
  | .moveGap _ _ _ _ => byRouter ++ [.links]
  | .prbsClear _ _ _ _ => byRouter
  | .prbsInject _ _ _ _ => byRouter ++ [.links]
  | .readbackLockLoss _ _ => byRouter ++ [.power, .heads, .links, .perf]
  | .sparingMove _ => byRouter ++ [.power, .heads, .links, .perf]
  | .gapUnhealthyTimeout _ => byRouter ++ [.links]
  | .statusReq _ _ => [.regs, .out, .links]
  | .status _ _ _ => byRouter ++ [.power, .heads, .links, .perf]
  | .capsReq _ _ => [.regs, .out, .links]
  | .caps _ _ _ => byRouter ++ [.power, .heads, .links, .perf]
  | .sbReplyTimeout _ => byRouter ++ [.ring, .links]
  | .sbContention _ => byRouter
  | .sbFrameReceived _ _ => byRouter ++ [.freeCount, .power, .ring, .hbm, .host, .memory, .heads, .links, .perf]
  | .send _ => byRouter ++ [.freeCount, .ring, .hbm, .host, .memory, .ing, .eng, .links, .audio]
  | .sbRequestReceived _ _ _ _ => byRouter ++ [.freeCount, .hbm, .host, .memory, .links]
  | .prbsCtrlWrite _ _ _ _ => byRouter ++ [.links]
  | .prbsSync _ _ _ => byRouter ++ [.links]
  | .prbsSyncLoss _ _ _ => byRouter ++ [.links]
  | .zlDisable _ _ _ => byRouter ++ [.links]
  | .panelCmdOn _ => byRouter
  | .panelCmdOff _ => byRouter ++ [.hbm, .memory, .keeper, .opt]
  | .precheckComplete _ => byRouter ++ [.hbm, .memory, .keeper, .opt]
  | .sequenceStepComplete => byRouter ++ [.power, .hbm, .memory, .heads, .links, .keeper, .opt, .perf]
  | .powerGoodTimeout => byRouter ++ [.hbm, .memory, .keeper, .opt]
  | .railFault _ _ => byRouter ++ [.hbm, .memory, .keeper, .opt]
  | .hiccupAttempt _ _ => byRouter ++ [.hbm, .memory, .keeper, .opt]
  | .attemptCountReset _ => [.regs]
  | .railNoLoad _ => byRouter
  | .phaseLost _ _ => byRouter ++ [.power, .hbm, .memory, .keeper, .opt]
  | .railPowerLimit _ => byRouter ++ [.keeper]
  | .pvlOverload _ => byRouter ++ [.keeper]
  | .pvlLoss => byRouter ++ [.hbm, .memory, .keeper, .opt]
  | .keeperLinkLost => byRouter ++ [.keeper]
  | .keeperChannelUp => byRouter ++ [.power, .hbm, .memory, .heads, .links, .keeper, .opt, .perf]
  | .railTargetWrite _ _ _ => byRouter ++ [.ring, .ing, .heads, .links]
  | .faultClear _ _ => byRouter ++ [.keeper]
  | .gateOutputFault _ _ => byRouter ++ [.keeper]
  | .crackLoopMeasurement _ => byRouter ++ [.hbm, .memory, .keeper, .opt]
  | .crackAck _ _ => byRouter ++ [.keeper]
  | .thermistorRead _ => byRouter ++ [.power, .opt]
  | .hvinLow _ => byRouter
  | .hvinLoss => byRouter ++ [.hbm, .memory, .keeper, .opt]
  | .holdupBusCollapse => byRouter ++ [.hbm, .memory, .keeper, .opt]
  | .keeperStart _ => byRouter ++ [.freeCount, .hbm, .memory, .keeper, .opt]
  | .batchStage _ _ => byRouter ++ [.freeCount, .hbm, .memory, .opt]
  | .batchStart _ _ => byRouter ++ [.hbm, .memory, .opt]
  | .batchCancel _ _ => byRouter ++ [.opt]
  | .rowPhaseEnd => [.opt]
  | .rowUpdateEnd => byRouter ++ [.hbm, .memory, .opt]
  | .tokenRefill => [.opt]
  | .autoBatchStart => byRouter ++ [.hbm, .memory, .opt]
  | .batchCrackMeasurement _ _ _ => byRouter ++ [.hbm, .memory, .keeper, .opt]
  | .optEnable _ => byRouter ++ [.hbm, .memory, .opt]
  | .memoryRequest _ _ => byRouter ++ [.hbm, .memory]
  | .requestAged _ => byRouter ++ [.memory]
  | .ceilingHoldTimeout => byRouter ++ [.memory]
  | .powerDownEntry => [.regs]
  | .selfRefreshEntry => [.regs, .memory]
  | .sleepExit _ => [.regs, .memory]
  | .sleepExitComplete => [.regs, .memory]
  | .refreshWindow => byRouter ++ [.freeCount, .memory]
  | .parityError _ _ _ => byRouter
  | .quickRetrain _ _ => byRouter
  | .safeMode _ => byRouter ++ [.hbm, .memory]
  | .dataLost _ => byRouter ++ [.hbm, .memory]
  | .scrubBurst _ _ _ => byRouter ++ [.freeCount, .memory]
  | .eccInjectWrite _ _ => byRouter
  | .migrationStart _ _ => byRouter ++ [.hbm, .memory]
  | .migrationComplete => byRouter ++ [.hbm, .memory]
  | .offlineRetrainComplete _ _ => byRouter ++ [.power, .hbm, .memory]
  | .memCmdRetrain _ _ => byRouter ++ [.hbm, .memory]
  | .memCmdRetire _ _ => byRouter ++ [.hbm, .memory]
  | .shrinkAck _ => byRouter ++ [.hbm, .memory]
  | .systemTopWrite _ _ => byRouter
  | .sapEnable _ _ => byRouter ++ [.ring, .audio]
  | .groupCmdStart _ _ => byRouter ++ [.ring, .audio]
  | .play _ => byRouter ++ [.freeCount, .ring, .hbm, .host, .memory, .ing, .eng, .links, .audio]
  | .audioFrame _ _ _ _ => byRouter ++ [.ring, .hbm, .memory, .audio]
  | .slotMaskWrite _ _ _ => byRouter ++ [.audio]
  | .audioClockLoss _ _ _ => byRouter
  | .audioClockReturn _ => [.regs, .audio]
  | .contClear _ _ _ => byRouter ++ [.audio]
  | .audioRecordWrite _ => byRouter ++ [.ring, .hbm, .host, .memory, .audio]
  | .mclkCfgWrite _ _ => byRouter
  | .sensorSample _ _ => byRouter ++ [.freeCount, .power, .ring, .txn, .sched, .hbm, .host, .memory, .ing, .eng, .audio, .therm]
  | .lossFloorExpiry _ => [.regs, .therm]
  | .powerCmdActive _ => byRouter ++ [.therm]
  | .powerCmdReduced _ => byRouter ++ [.therm]
  | .powerCmdStandby _ => byRouter ++ [.freeCount, .ring, .txn, .sched, .hbm, .host, .memory, .ing, .eng, .audio, .therm]
  | .standbyReached => byRouter ++ [.power, .servo, .ring, .hbm, .memory, .ing, .heads, .links, .keeper, .opt, .audio, .therm, .perf]
  | .wakeGpioEdge _ _ => byRouter ++ [.therm]
  | .wakeClocksReady _ _ => byRouter ++ [.power, .servo, .memory, .ing, .heads, .links, .keeper, .therm, .perf]
  | .counterCfgWrite _ _ _ => byRouter
  | .counterWrap _ _ => byRouter
  | .freezeWrite _ _ => byRouter
  | .perfCmdClear _ => byRouter
  | .perfCmdDump _ => byRouter ++ [.perf]
  | .dumpTrigger _ => byRouter ++ [.perf]
  | .dumpWriteComplete => byRouter ++ [.hbm, .host, .memory, .perf]
  | .glintRecordWrite _ _ => byRouter ++ [.freeCount, .hbm, .host, .memory, .perf]
  | .mgmtWatchdog => byRouter
  | .fwStage _ => byRouter ++ [.memory]
  | .fwStageComplete _ => byRouter
  | .fwSwap _ _ => byRouter
  | .fwTakeover => byRouter
  | .fwSwapTimeout => [.regs, .maint]
  | .fwSelfCheckFailure => byRouter
  | .fwConfirm _ => byRouter
  | .fwRevert _ => byRouter
  | .maintenanceLogRecordWrite => byRouter
  | .lifetimeRecord => [.regs, .maint]
  | .profileInstall _ => byRouter ++ [.memory]
  | .profileInstallComplete _ => [.regs, .maint, .keeper]
  | .handover _ => byRouter
  | .qsfpModuleInserted _ _ _ => [.regs]
  | .qsfpModuleRemoved _ => byRouter ++ [.power]
  | .triggerInputEdge _ _ => [.regs]
  | .triggerOutputReadback _ _ => [.regs, .sched]
  | .auxLevelWrite _ _ => byRouter ++ [.sched]
  | .auxCtrlWrite _ _ => byRouter ++ [.sched]
  | .delayRespReceived _ _ => [.regs, .servo]
  | .delayReqReceived _ => [.out]
  | .pcieLinkUp => [.power]
  | .laneStandbyResumeTimeout _ _ => byRouter ++ [.power, .heads, .links, .perf]
  | .stackTemperatureRead _ _ => byRouter ++ [.hbm, .memory]

end Sys2Proof.Machine
end

