-- ==== Sys2Proof/WellFormed.lean ====
section
/-!
DEFINITION. Well-formed commands: the operand checks that the types of `Instr` do not make. The block acts on an ill-formed command
too (readings beyond the stated number are ignored, a missing one counts as 0); these checks say which operands the hardware can show.
-/
namespace Sys2Proof

/-- A BAR0 offset of an aligned word (R43, R53). -/
def wfAddr (a : Nat) : Bool := decide (a < 0x1000000 ∧ a % 4 = 0)

/-- The BAR0 offset of a block page (R47, R48): pages are 4 KiB and lie below the ring descriptors. -/
def wfPage (b : Nat) : Bool := decide (b < 0x100000 ∧ b % 0x1000 = 0)

/-- A unit that becomes quiescent (R108). -/
def wfUnit : QuietUnit → Bool
  | .page b => wfPage b
  | .ring _ => true
  | .lane _ _ => true

/-- What a role write addresses (R105). -/
def wfTarget : RoleTarget → Bool
  | .page b => wfPage b
  | .lane _ _ => true

/-- A BAR4 access (R43, R44): it lies within the 256 MiB of the window; a write carries its bytes and a read none. -/
def wfBar4 (write : Bool) (offset len : Nat) (data : List Byte) : Bool :=
  decide (0 < len ∧ offset + len ≤ 2 ^ 28 ∧ data.length = if write then len else 0)

/-- An Ethernet frame as long as a port can receive (R159). -/
def wfFrame (f : EthFrame) : Bool := decide (0 < f.length ∧ f.length < 2 ^ 16)

/-- Readings of a pre-check (R410): one per rail. A rail is coupled to another one. -/
def wfReadings (l : List PreReading) : Bool :=
  decide (l.length = 13) && l.all fun r => match r.cross with | some x => decide (x < 13) | none => true

/-- Blocks of a receiving lane (R367): a sync header of 2 bits and 16 payload bytes each. -/
def wfBlocks (b : RxBlocks) : Bool := b.blocks.all fun x => decide (x.header < 4 ∧ x.payload.length = 16)

/-- A line's state at its ray deadline (R287, R294): rays are delivered after their issue, and those in flight have been issued. -/
def wfRays (r : RayProgress) : Bool := decide (r.line < 2 ^ 16 ∧ r.delivered ≤ r.issued)

/-- A request to the memory controller (R462): a write carries its bytes. -/
def wfMem (r : MemReq) : Bool := match r.write with | some l => decide (l.length = r.len) | none => true

/-- Rail loads (R419): each names a rail. -/
def wfLoads (l : List RailLoad) : Bool := l.all fun r => decide (r.rail < 13)

/-- Counts of a zone's six sensors, of 16 bits each (R504, R509). -/
def wfCounts (l : List Nat) : Bool := decide (l.length = 6) && l.all fun n => decide (n < 2 ^ 16)

/-- Received audio words (R492), at most one per slot of 32. -/
def wfWords (l : List Word) : Bool := decide (l.length ≤ 32)

/-- The operand checks of a command. -/
def wf : Instr → Bool
  | .registerWrite _ a _ _ | .unmappedAddressAccess _ a _ | .lowWordRead _ a | .highWordWrite _ a _ | .railTargetWrite _ a _ => wfAddr a
  | .bar4Access w o n l => wfBar4 w o n l
  | .pageEnable _ b | .pageDisable _ b _ | .disableModeWrite _ b _ | .softReset _ b | .softResetComplete b
  | .eventStatusClear _ b _ _ | .eventForce _ b _ => wfPage b
  | .quiescence u => wfUnit u
  | .roleWrite _ t _ => wfTarget t
  | .arpRequest _ v6 a => v6 || decide (a.toNat < 2 ^ 32)
  | .ethernetFrameReceived _ f => wfFrame f
  | .rxLinePacket _ _ p | .blockLock _ _ p | .blockLockLoss _ _ p => wfBlocks p
  | .rayDeadline _ r _ => wfRays r
  | .precheckComplete l => wfReadings l
  | .railPowerLimit l => wfLoads l
  | .crackLoopMeasurement l => decide (l.length = 6)
  | .thermistorRead l => decide (l.length = 8)
  | .sensorSample _ l => wfCounts l
  | .audioFrame _ l _ _ => wfWords l
  | .memoryRequest _ (some r) => wfMem r
  | _ => true

end Sys2Proof
end

