-- ==== Sys2Proof/Certificates/Slice0/Obligations.lean ====
section
/-!
DEFINITION. The statements of this slice, from the numbered rules of the spec. A statement about a command names the state and
operands on which the command has its own effect, says that `exec` answers a next state there, and what that state holds.
-/
open Sys2Proof Sys2Proof.Machine

/-! ### The event router (R63 to R74) -/

/-- R65, R66: a write of 1 to an EVT_STATUS bit clears it unless the event occurs in the same cycle; EVT_FORCE makes occurrences.
No other register but the router's changes.
R68: the end of a hold-off sends one message for the triggers held back; unmasking a vector whose pending bit is set sends
its message and clears the bit. A vector that is masked sets its pending bit in place of the message.
R71: setting LOG_RING.ENABLE for a ring that passes the checks of R89 but check 7 enables the ring, with a TIME_MARK due; clearing
it disables the ring under DRAIN, and the ring's entries stay.
R69, R73, R74: the oldest retained record moves into the log ring as an entry of 32 bytes at PROD, with the next SEQ, and leaves
the buffer; a TIME_MARK carries the upper word of device time.
Completed here: `eventStatusClear`, `eventForce`, `vectorHoldoffEnd`, `vectorUnmask`, `logRingEnable`, `logRingDisable`,
`eventLogRecordWrite`, `timeMark`. -/
def Obligations.EventsVectorsAndLog : Prop :=
  ((∀ (s : State) (req : Requester) (page : Nat) (mask occurring : Word), headerOpen s req (Reg.PAGE_EVT_STATUS (pageOf page)) →
    ∃ t, exec (.eventStatusClear req page mask occurring) s = .next t ∧
      (∀ e ∈ maskEvents (pageOf page) occurring, noted e t) ∧
      (occurring = 0 → t = s.wr (Reg.PAGE_EVT_STATUS (pageOf page)) (s.rd (Reg.PAGE_EVT_STATUS (pageOf page)) &&& ~~~mask)) ∧
      (pageOf page ≠ 0x3000 → ∀ i, i < 32 → bit mask i = true → bit occurring i = false →
        t.b (Reg.PAGE_EVT_STATUS (pageOf page)) i = false) ∧
      regsKept [Reg.PAGE_EVT_STATUS (pageOf page)] s t) ∧
  (∀ (s : State) (req : Requester) (page : Nat) (mask : Word), headerOpen s req (Reg.PAGE_EVT_FORCE (pageOf page)) →
    ∃ t, exec (.eventForce req page mask) s = .next t ∧ (∀ e ∈ maskEvents (pageOf page) mask, noted e t) ∧ regsKept [] s t)) ∧
  ((∀ (s : State) (v : Fin 64), s.on = true → tabGet (fun _ => 0) s.router.vecUntil v.val ≠ 0 →
    tabGet (fun _ => 0) s.router.vecUntil v.val ≤ s.now →
    ∃ t, exec (.vectorHoldoffEnd v) s = .next t ∧ v.val ∉ t.router.vecHeld ∧
      (v.val ∉ s.router.vecHeld → t.out = s.out ∧ t.regs = s.regs ∧ tabGet (fun _ => 0) t.router.vecUntil v.val = 0) ∧
      (v.val ∈ s.router.vecHeld → s.b (Reg.MSIX_TABLE v 3) 0 = false → t.out = .msix v :: s.out ∧ t.regs = s.regs) ∧
      (v.val ∈ s.router.vecHeld → s.b (Reg.MSIX_TABLE v 3) 0 = true → t.out = s.out ∧
        t.b (Reg.MSIX_PBA (v / 32)) (v % 32) = true ∧ ∀ a, a ≠ Reg.MSIX_PBA (v / 32) → t.rd a = s.rd a)) ∧
  (∀ (s : State) (v : Fin 64), reaches s .host = true → tabGet (fun _ => 0) s.router.vecUntil v.val ≤ s.now →
    ∃ t, exec (.vectorUnmask v) s = .next t ∧ t.b (Reg.MSIX_TABLE v 3) 0 = false ∧
      t.b (Reg.MSIX_PBA (v / 32)) (v % 32) = false ∧
      t.out = (if s.b (Reg.MSIX_PBA (v / 32)) (v % 32) then .msix v :: s.out else s.out) ∧
      ∀ a, a ∉ [Reg.MSIX_TABLE v 3, Reg.MSIX_PBA (v / 32)] → t.rd a = s.rd a)) ∧
  ((∀ (s : State) (req : Requester) (r : Fin 8192), cfgGate s req Reg.EVT0_LOG_RING none = .go → logOn s = false →
    ringType s r = 7 → s.f (Reg.RING_CFG r) 5 2 = 0 → ringQuiet s r = true → ringCheck s r true = none →
    ∃ t, exec (.logRingEnable req r) s = .next t ∧ logOn t = true ∧ logRing t = r ∧ ringEnabled t r = true ∧
      ringQuiet t r = false ∧ t.router.markDue = true ∧
      regsKept [Reg.EVT0_LOG_RING, Reg.RING_CTRL r, Reg.RING_STATUS r, Reg.RING_EPOCH_STAT r] s t) ∧
  (∀ (s : State) (req : Requester), cfgGate s req Reg.EVT0_LOG_RING none = .go → logOn s = true →
    ∃ t, exec (.logRingDisable req) s = .next t ∧ logOn t = false ∧ ringEnabled t (logRing s) = false ∧
      regsKept [Reg.EVT0_LOG_RING, Reg.RING_CTRL (logRing s)] s t ∧ t.ring = s.ring ∧ t.router = s.router)) ∧
  ((∀ (s : State) (r : LogRec) (rest : List LogRec), s.on = true → logOn s = true → ringEnabled s (logRing s) = true →
    ringFull s (logRing s) = false → s.router.lantern = r :: rest → (r.kind = 1 ∨ markNeeded s r.time = false) →
    ∃ t, exec .eventLogRecordWrite s = .next t ∧ ringPut (logRing s) (logBytes r (s.rd Reg.EVT0_LOG_SEQ + 1)) s t ∧
      t.rd Reg.EVT0_LOG_SEQ = s.rd Reg.EVT0_LOG_SEQ + 1 ∧ t.rd (Reg.RING_PROD (logRing s)) = s.rd (Reg.RING_PROD (logRing s)) + 1 ∧
      (ringHost s (logRing s) = true → t.router.lantern = rest ∧ t.rd Reg.EVT0_LOG_FILL = w32 (lanternCount rest)) ∧
      dataKept [Reg.EVT0_LOG_SEQ, Reg.RING_PROD (logRing s), Reg.RING_STATUS (logRing s)] s t) ∧
  (∀ (s : State) (m : Nat), s.on = true → logOn s = true → ringEnabled s (logRing s) = true →
    ringFull s (logRing s) = false → s.router.lantern = [] → m = s.now / 2 ^ 29 * 2 ^ 29 → s.now - m < 5 →
    s.router.lastMark ≠ some m →
    ∃ t, exec .timeMark s = .next t ∧ ringPut (logRing s) (logBytes (markRec m) (s.rd Reg.EVT0_LOG_SEQ + 1)) s t ∧
      t.router.lastMark = some m ∧ t.router.markDue = false ∧
      t.rd Reg.EVT0_LOG_SEQ = s.rd Reg.EVT0_LOG_SEQ + 1 ∧ t.rd (Reg.RING_PROD (logRing s)) = s.rd (Reg.RING_PROD (logRing s)) + 1 ∧
      dataKept [Reg.EVT0_LOG_SEQ, Reg.RING_PROD (logRing s), Reg.RING_STATUS (logRing s)] s t))

/-! ### Feature negotiation (R81) -/

/-- R81: writing ACCEPT sets PENDING; the checks end by loading the request or by refusing it with the number of the first failing
check and its bit, and PENDING clears. A refused request leaves the active features.
Completed here: `featureAccept`, `featureCheckComplete`. -/
def Obligations.FeatureNegotiation : Prop :=
  (∀ (s : State) (req : Requester) (v : Word), cfgGate s req Reg.FEAT_FEATURE_ACCEPT none = .go → featPending s = false →
    4 ≤ s.stage → bit v 0 = true →
    exec (.featureAccept req v) s = .next (s.setB Reg.FEAT_FEAT_STATUS 1 true)) ∧
  (∀ s : State, s.on = true → featPending s = true → featureFail s = none →
    ∃ t, exec .featureCheckComplete s = .next t ∧ featPending t = false ∧ t.f Reg.FEAT_FEAT_STATUS 4 4 = 1 ∧
      t.b Reg.FEAT_FEAT_STATUS 0 = true ∧
      (∀ w, w < 8 → t.rd (Reg.FEAT_ACTIVE_FEATURES w) = s.rd (Reg.FEAT_DRV_FEATURES w)) ∧
      t.rd Reg.FEAT_ACCEPT_COUNT = s.rd Reg.FEAT_ACCEPT_COUNT + 1 ∧ noted .featureAccepted t ∧
      regsKept (Reg.FEAT_FEAT_STATUS :: Reg.FEAT_ACCEPT_COUNT :: (List.range 8).map Reg.FEAT_ACTIVE_FEATURES) s t) ∧
  (∀ (s : State) (r b : Nat), s.on = true → featPending s = true → featureFail s = some (r, b) →
    ∃ t, exec .featureCheckComplete s = .next t ∧ featPending t = false ∧ t.f Reg.FEAT_FEAT_STATUS 4 4 = r ∧
      t.f Reg.FEAT_FEAT_STATUS 16 8 = b ∧ noted .featureRefused t ∧ regsKept [Reg.FEAT_FEAT_STATUS] s t)

/-! ### The PCIe function (R46, R579) -/

/-- R46, R125, R579: a function-level reset returns the MSI-X table and BAR4_BASE to reset, disables the host-produced rings, rolls back
the OPEN transactions of host software, and leaves the picture, the panel and device time alone; the rising edge of PERST_L has the
same effects; PERST_L low and a lost cable take the link down, a lost cable is reported, and training brings the link up.
R44, R45: an access through BAR4 within the usable HBM reads or writes the bytes at BAR4_BASE plus its offset; one beyond is
reported, reads zeros and writes nothing. A write of BAR4_BASE moves the window in steps of 1 MiB.
Completed here: `functionLevelReset`, `perstAssert`, `perstDeassert`, `pcieLinkDown`, `pcieLinkUp`, `bar4Access`, `bar4BaseWrite`. -/
def Obligations.PcieFunctionAndBar4 : Prop :=
  ((∀ (s : State) (fails : List HostRead), reaches s .host = true →
    ∃ t, exec (.functionLevelReset fails) s = .next t ∧ flrDone s t ∧ t.power = s.power) ∧
  (∀ s : State, exec .perstAssert s = .next { s with power := { s.power with perstLow := true, pcieUp := false } }) ∧
  (∀ s : State, s.on = true → s.power.perstLow = true →
    ∃ t, exec .perstDeassert s = .next t ∧ flrDone s t ∧ t.power = { s.power with perstLow := false }) ∧
  (∀ (s : State) (x : Word), s.on = true → s.power.pcieUp = true →
    ∃ t, exec (.pcieLinkDown x) s = .next t ∧ t.power = { s.power with pcieUp := false, told := t.power.told } ∧
      Lasting.pcie ∈ t.power.told ∧ noted .pcieLinkDown t ∧ regsKept [] s t) ∧
  (∀ s : State, s.on = true → 1 ≤ s.stage → s.power.perstLow = false →
    exec .pcieLinkUp s = .next { s with power := { s.power with pcieUp := true } })) ∧
  ((∀ (s : State) (o n : Nat) (l : List Byte), reaches s .host = true → 0 < n → o + n ≤ 2 ^ 28 → l.length = n →
    bar4Base s + o + n ≤ usableTop s →
    ∃ t, exec (.bar4Access true o n l) s = .next t ∧ bytesPut false (bar4Base s + o) l s t ∧ dataKept [] s t) ∧
  (∀ (s : State) (o n : Nat) (l : List Byte), reaches s .host = true → 0 < n → o + n ≤ 2 ^ 28 →
    bar4Base s + o + n ≤ usableTop s →
    ∃ t, exec (.bar4Access false o n l) s = .next t ∧ t.mem.hbm = s.mem.hbm ∧
      t.out.head? = some (.bar4Data (bar4Bytes s (bar4Base s + o) n) (rangeBad s (bar4Base s + o) n)) ∧ dataKept [] s t) ∧
  (∀ (s : State) (w : Bool) (o n : Nat) (l : List Byte), reaches s .host = true → 0 < n → o + n ≤ 2 ^ 28 →
    usableTop s < bar4Base s + o + n →
    ∃ t, exec (.bar4Access w o n l) s = .next t ∧ noted .bar4Range t ∧ t.mem = s.mem ∧ regsKept [] s t ∧
      (w = false → t.out.head? = some (.bar4Data (List.replicate n 0) false))) ∧
  (∀ (s : State) (req : Requester) (v : BitVec 64), cfgGate s req Reg.SYS_BAR4_BASE_LO none = .go →
    ∃ t, exec (.bar4BaseWrite req v) s = .next t ∧
      t.rd Reg.SYS_BAR4_BASE_LO = (v.setWidth 32 &&& 0xFFF00000) ||| (s.rd Reg.SYS_BAR4_BASE_LO &&& 0xFFFFF) ∧
      t.rd Reg.SYS_BAR4_BASE_HI = (v >>> 32).setWidth 32 ∧ t = { s with regs := t.regs } ∧
      ∀ x, x ≠ Reg.SYS_BAR4_BASE_LO → x ≠ Reg.SYS_BAR4_BASE_HI → t.rd x = s.rd x))

/-! ### Rings (R86 to R112) -/

/-- R89, R91: a write of 1 to ENABLE of a disabled quiescent ring enables it where the checks pass, and increments RING_EPOCH modulo
2^16 if BASE, CFG or OWNER was written since the last enable; where check c fails first the ring stays disabled, ENABLE_CODE
reads c, and RING_CFG_REFUSED is raised. The other fields of CTRL take their values either way.
R108, R111: disabling a ring under DRAIN leaves its entries and accepted jobs; under ABORT a consumed ring with no accepted job
loses every entry it holds: CONS moves up to PROD.
R93: a doorbell that passes doorbell_check writes its index to PROD of a host-produced ring and to CONS of a module-produced
one; one that fails writes neither, is counted, and raises DOORBELL_REFUSED.
Completed here: `ringEnable`, `ringDisable`, `doorbell`. -/
def Obligations.RingsSwitchAndDoorbells : Prop :=
  ((∀ (s : State) (req : Requester) (r : Fin 8192) (v : Word), cfgGate s req (Reg.RING_CTRL r) none = .go → bit v 0 = true →
    ringEnabled s r = false → ringQuiet s r = true → ringCheck s r false = none →
    ∃ t, exec (.ringEnable req r v) s = .next t ∧ ringEnabled t r = true ∧ ringQuiet t r = false ∧
      t.rd (Reg.RING_CTRL r) = (v &&& 0x7F03) ||| 1 ∧
      ringEpoch t r = (if s.ring.dirty.contains r.val then (ringEpoch s r + 1) % 2 ^ 16 else ringEpoch s r) ∧ r.val ∉ t.ring.dirty ∧
      ∀ a, a ∉ [Reg.RING_CTRL r, Reg.RING_STATUS r, Reg.RING_EPOCH_STAT r] → t.rd a = s.rd a) ∧
  (∀ (s : State) (req : Requester) (r : Fin 8192) (v : Word) (c : Nat), cfgGate s req (Reg.RING_CTRL r) none = .go → bit v 0 = true →
    ringEnabled s r = false → ringQuiet s r = true → ringCheck s r false = some c →
    ∃ t, exec (.ringEnable req r v) s = .next t ∧ ringEnabled t r = false ∧ t.f (Reg.RING_STATUS r) 8 4 = c ∧
      t.rd (Reg.RING_CTRL r) = v &&& 0x7F02 ∧ noted .ringCfgRefused t ∧ regsKept [Reg.RING_CTRL r, Reg.RING_STATUS r] s t)) ∧
  ((∀ (s : State) (req : Requester) (r : Fin 8192) (v : Word) (fails : List Word), cfgGate s req (Reg.RING_CTRL r) none = .go →
    bit v 0 = false → bit v 1 = false → ringEnabled s r = true → compHeld s r = false →
    ∃ t, exec (.ringDisable req r v fails) s = .next t ∧ ringEnabled t r = false ∧ t.ring = s.ring ∧
      ∀ a, a ≠ Reg.RING_CTRL r → t.rd a = s.rd a) ∧
  (∀ (s : State) (req : Requester) (r : Fin 8192) (v : Word) (fails : List Word), cfgGate s req (Reg.RING_CTRL r) none = .go →
    bit v 0 = false → bit v 1 = true → ringEnabled s r = true → compHeld s r = false → jobsOf s r = [] → ringConsumed s r = true →
    ∃ t, exec (.ringDisable req r v fails) s = .next t ∧ ringEnabled t r = false ∧
      t.rd (Reg.RING_CONS r) = s.rd (Reg.RING_PROD r) ∧ t.rd (Reg.RING_PROD r) = s.rd (Reg.RING_PROD r) ∧
      dataKept (Reg.RING_CTRL r :: Reg.RING_CONS r :: compRegs s r) s t)) ∧
  ((∀ (s : State) (r : Fin 8192) (i : Word) (epoch top : BitVec 16) (n : Nat), reaches s .host = true → s.powerState ≠ 2 →
    doorbellCheck s r i epoch n = 0 →
    ∃ t, exec (.doorbell r i epoch top n) s = .next t ∧
      t.rd (if ringDir s r then Reg.RING_CONS r else Reg.RING_PROD r) = i ∧
      (ringDir s r = false ∨ ringType s r ≠ 1 → t = s.wr (if ringDir s r then Reg.RING_CONS r else Reg.RING_PROD r) i)) ∧
  (∀ (s : State) (r : Fin 8192) (i : Word) (epoch top : BitVec 16) (n : Nat), reaches s .host = true → s.powerState ≠ 2 →
    doorbellCheck s r i epoch n ≠ 0 →
    ∃ t, exec (.doorbell r i epoch top n) s = .next t ∧
      t.rd (Reg.RING_DB_REFUSED r) = satAdd (s.rd (Reg.RING_DB_REFUSED r)) 1 0xFFFFFFFF ∧ noted .doorbellRefused t ∧
      regsKept [Reg.RING_DB_REFUSED r, Reg.RING_EPOCH_STAT r] s t))

/-- R96, R97: a failed host-memory read sets HOST_ERROR, raises RING_HOST_ERROR and disables the ring, whose entries are flushed; a
stall of 10 ms raises RING_STALLED once.
R95, R106, R112: taking an entry advances CONS. An entry marked by an earlier ABORT completes ABORTED; one whose page is not
negotiated completes NOT_NEGOTIATED; one whose EPOCH is not its unit's role epoch completes STALE_ROLE, and the unit counts it.
An accepted ABORT entry whose target has not been accepted yet marks it and completes DONE. No register changes but the ring's and
those that follow completion records.
R94, R100, R101: the first releasable record of a completion ring is written with its PHASE as an entry at PROD, PROD advances by
one, and the record is not written again.
Completed here: `hostReadFailure`, `ringStalled`, `entryAccept`, `abortEntry`, `completionRecordWrite`. -/
def Obligations.EntriesAndCompletions : Prop :=
  ((∀ (s : State) (r : Fin 8192) (fails : List Word), s.on = true → ringEnabled s r = true → ringHost s r = true →
    ringConsumed s r = true → ringFill s r ≠ 0 → (enabled s (ownerBase (ringOwner s r)) || ownerGone s r) = true → jobsOf s r = [] →
    ∃ t, exec (.hostReadFailure r fails) s = .next t ∧ noted .ringHostError t ∧ ringEnabled t r = false ∧
      t.b (Reg.RING_STATUS r) 3 = true ∧ t.rd (Reg.RING_CONS r) = s.rd (Reg.RING_PROD r) ∧
      dataKept (Reg.RING_CTRL r :: Reg.RING_CONS r :: compRegs s r) s t) ∧
  (∀ (s : State) (r : Fin 8192) (since : Nat), s.on = true → tabGet (fun _ => none) s.ring.stallAt r.val = some since →
    since + 10000000 ≤ s.now →
    ∃ t, exec (.ringStalled r) s = .next t ∧ noted .ringStalled t ∧ tabGet (fun _ => none) t.ring.stallAt r.val = none ∧
      exec (.ringStalled r) t = .next t ∧ regsKept [] s t)) ∧
  ((∀ (s : State) (r : Fin 8192), s.on = true → takes s r = true → canAccept s r = true →
    (ringHost s r = true ∨ rangeBad s (entryAddr s r (s.rd (Reg.RING_CONS r))) (ringEsize s r) = false) →
    (s.ring.marks.contains (r.val, s.rd (Reg.RING_CONS r)) = true →
      ∃ t, exec (.entryAccept r) s = .next t ∧ t.rd (Reg.RING_CONS r) = s.rd (Reg.RING_CONS r) + 1 ∧
        (ringComp s r = true → recorded s r (s.rd (Reg.RING_CONS r)) (entryTag (headEntry s r)) 0x02 [] t) ∧
        dataKept (Reg.RING_CONS r :: compRegs s r) s t) ∧
    (s.ring.marks.contains (r.val, s.rd (Reg.RING_CONS r)) = false → ringType s r ≠ 0x0C →
      ownerGone s r = false →
      entryEpoch (headEntry s r) ≠ roleEpoch s (roleBase (ringOwner s r)) →
      ∃ t, exec (.entryAccept r) s = .next t ∧ t.rd (Reg.RING_CONS r) = s.rd (Reg.RING_CONS r) + 1 ∧
        (ringComp s r = true → recorded s r (s.rd (Reg.RING_CONS r)) (entryTag (headEntry s r)) 0x04 [] t) ∧
        noted .staleRoleSeen t ∧
        t.rd (roleBase (ringOwner s r) + 0x8FC) = satAdd (s.rd (roleBase (ringOwner s r) + 0x8FC)) 1 0xFFFF ∧
        dataKept (Reg.RING_CONS r :: (roleBase (ringOwner s r) + 0x8FC) :: compRegs s r) s t) ∧
    (s.ring.marks.contains (r.val, s.rd (Reg.RING_CONS r)) = false → ownerGone s r = true →
      ∃ t, exec (.entryAccept r) s = .next t ∧ t.rd (Reg.RING_CONS r) = s.rd (Reg.RING_CONS r) + 1 ∧
        (ringComp s r = true → recorded s r (s.rd (Reg.RING_CONS r)) (entryTag (headEntry s r)) 0x05 [] t) ∧
        dataKept (Reg.RING_CONS r :: compRegs s r) s t)) ∧
  (∀ (s : State) (r : Fin 8192) (j : Job), accepts s r j → headAborts s r = true → (ringOwner s r).1 ≠ 0x31 →
    ringOwner s (abortTarget (headEntry s r)).1 = ringOwner s r → ringConsumed s (abortTarget (headEntry s r)).1 = true →
    (abortTarget (headEntry s r)).1 ≠ r.val →
    ((abortTarget (headEntry s r)).2 - s.rd (Reg.RING_CONS (abortTarget (headEntry s r)).1)).toNat <
      ringCount s (abortTarget (headEntry s r)).1 →
    ∃ t, exec (.abortEntry r) s = .next t ∧ exec (.entryAccept r) s = .next t ∧ abortTarget (headEntry s r) ∈ t.ring.marks ∧
      t.rd (Reg.RING_CONS r) = s.rd (Reg.RING_CONS r) + 1 ∧
      (ringComp s r = true → recorded s r (s.rd (Reg.RING_CONS r)) (entryTag (headEntry s r)) 0 [] t) ∧
      dataKept (Reg.RING_CONS r :: compRegs s r) s t)) ∧
  (∀ (s : State) (r : Fin 8192) (c : Comp) (w : Word) (ws : List Word), s.on = true → compOn s r = true → ringFull s r = false →
    s.ring.ready.find? (fun x => decide (x.compRing = r.val)) = some c → c.words = w :: ws →
    ∃ t, exec (.completionRecordWrite r) s = .next t ∧ ringPut r (wordsBytes (setFld w 15 1 (ringPhase s r) :: ws)) s t ∧
      t.rd (Reg.RING_PROD r) = s.rd (Reg.RING_PROD r) + 1 ∧ t.ring.ready = s.ring.ready.erase c ∧ t.ring.held = s.ring.held ∧
      t.ring.jobs = s.ring.jobs ∧
      dataKept (Reg.RING_PROD r :: compRegs s r) s t)

/-! ### Job engines and other consumers of entries (R174, R229, R231 to R251, R393, R490) -/

/-- R231, R232: an entry that a free job engine accepts and does not refuse starts a job on it, whatever its operation; ENGINE_STATUS and
CUR_INDEX name it, and it stays among the accepted jobs until its outcome is decided.
R248, R249, R251: the outcome of a running job frees its engine, JOBS counts it, and its record carries the status and the job words; a job
that runs past JOB_TIMEOUT leaves its engine too, and is counted and raises JOB_TIMEOUT unless it has come to an outcome of its own.
That a job's own poison or stream error goes before a stop that comes after it is the model's reading (log entry 18).
Completed here: `decompress`, `checkJob`, `compress`, `jobComplete`, `jobTimeout`. -/
def Obligations.JobEngines : Prop :=
  ((∀ (s : State) (e : Fin 8) (r : Fin 8192) (j : Job), headIs s r 0x02 0x31 1 = true → (ringOwner s r).2 = e.val → accepts s r j →
    jobRefusal (accepted s r) e j.entry = none → ∃ t, exec (.decompress e r) s = .next t ∧ runsJob e j s t) ∧
  (∀ (s : State) (e : Fin 8) (r : Fin 8192) (j : Job), headIs s r 0x02 0x31 3 = true → (ringOwner s r).2 = e.val → accepts s r j →
    jobRefusal (accepted s r) e j.entry = none → ∃ t, exec (.checkJob e r) s = .next t ∧ runsJob e j s t) ∧
  (∀ (s : State) (e : Fin 8) (r : Fin 8192) (mism : List Nat) (rawFails : Bool) (j : Job), headIs s r 0x02 0x31 2 = true →
    (ringOwner s r).2 = e.val → accepts s r j → jobRefusal (accepted s r) e j.entry = none →
    ∃ t, exec (.compress e r mism rawFails) s = .next t ∧ runsJob e j s t)) ∧
  ((∀ (s : State) (e : Fin 8) (r : JobRun), (engOf s e).run = some r →
    ∃ t, exec (.jobComplete e) s = .next t ∧ jobEnded e r s t ∧
      (ringComp s r.job.ring = true →
        let st := if r.status = 0 ∧ (r.marks.getD (r.marks.length - 1) ⟨0, 0, 0, 0, 0, []⟩).fixed ≠ 0 then 9 else r.status
        recorded s r.job.ring r.job.index r.job.tag st (jobWords r st r.code (r.marks.length - 1)) t)) ∧
  (∀ (s : State) (e : Fin 8) (r : JobRun), s.on = true → (engOf s e).run = some r →
    r.job.at_ + s.rdN (Reg.CJE_JOB_TIMEOUT e) * 1000000 ≤ s.now →
    ∃ t, exec (.jobTimeout e) s = .next t ∧ jobEnded e r s t ∧
      (ownOutcome s r = false → noted (.jobTimeout e) t ∧
        t.rd (Reg.CJE_TIMEOUT_COUNT e) = satAdd (s.rd (Reg.CJE_TIMEOUT_COUNT e)) 1 0xFFFFFFFF) ∧
      (ownOutcome s r = true → t.rd (Reg.CJE_TIMEOUT_COUNT e) = s.rd (Reg.CJE_TIMEOUT_COUNT e))))

/-- R229: a FRAME_REPORT of a frame whose outcome is known completes DONE with the outcome; one of a frame still open stays accepted, and
completes TIMEOUT once REPORT_TIMEOUT has passed.
R174, R393, R490: a PLAY entry joins the port's queue behind the entry accepted before it; a SEND entry sends its sideband frame at once,
and completes DONE or waits for the reply; a HOST_SCENE packet is taken into the pool and its job completes. That a report of a
frame that is already READY or refused completes at once is the model's reading (log entry 16).
Completed here: `frameReport`, `frameReportTimeout`, `play`, `send`, `packet`. -/
def Obligations.ReportsAndConsumers : Prop :=
  ((∀ (s : State) (r : Fin 8192) (j : Job), headIs s r 0x02 0x30 0x10 = true → accepts s r j →
    roleCode (accepted s r) 0x30000 ≠ 0 → (j.entry.drop 64).any (· ≠ 0) = false → storeKind (accepted s r) (reportTarget j.entry).1 ≠ 0 →
    ∃ t, exec (.frameReport r) s = .next t ∧
      (match findPast (storeOf s (reportTarget j.entry).1) (reportTarget j.entry).2 with
       | some p => ringComp s r = true → recorded s r j.index j.tag 0 [w32 p.outcome, w32 p.detail, p.readyAt] t
       | none => t.ring.jobs = s.ring.jobs ++ [j])) ∧
  (∀ (s : State) (r : Fin 8192) (i : Word) (j : Job),
    s.ring.jobs.find? (fun x => decide (x.ring = r.val ∧ x.index = i ∧ ringOwner s x.ring = (0x30, 0))) = some j →
    j.at_ + s.f Reg.CODEC_REPORT_TIMEOUT 0 16 * 1000000 ≤ s.now →
    ∃ t, exec (.frameReportTimeout r i) s = .next t ∧ (∀ x ∈ t.ring.jobs, ¬(x.ring = r.val ∧ x.index = i)) ∧
      (ringComp s r = true → recorded s r i j.tag 0x0F [] t) ∧ ∀ a, a ∉ compRegs s r → t.rd a = s.rd a)) ∧
  ((∀ (s : State) (r : Fin 8192) (j : Job), headIs s r 0x05 0xA0 1 = true → accepts s r j →
    roleCode (accepted s r) (roleBase (ringOwner s r)) = 1 → playOk j.entry = true →
    let p := (ringOwner s r).2
    let k := if leAt j.entry 1 1 / 2 % 2 = 1 then (portOf s p).tail else leAt j.entry 24 8
    passedCount (accepted s r) p k (leAt j.entry 16 4) s.now = 0 →
    let n := leAt j.entry 16 4
    ∃ t, exec (.play r) s = .next t ∧ (portOf t p).tail = k + n ∧ t.ring.jobs = s.ring.jobs ++ [j] ∧
      (portOf t p).queue.take (portOf s p).queue.length = (portOf s p).queue ∧
      ((portOf t p).queue.drop (portOf s p).queue.length).map (fun b => (b.job, b.frame, b.left, b.addr, b.sent)) =
        [(j, k, n, leAt j.entry 8 8, 0)]) ∧
  (∀ (s : State) (r : Fin 8192) (j : Job), headIs s r 0x0B 0x46 1 = true → accepts s r j →
    roleCode (accepted s r) (roleBase (ringOwner s r)) ≠ 0 → sendOk (accepted s r) (ringOwner s r).2 j.entry = true →
    ∃ t, exec (.send r) s = .next t ∧
      t.out.head? = some (.sideband (ringOwner s r).2 (sbFrame (BitVec.ofNat 8 (leAt j.entry 8 1)) 0
        (BitVec.ofNat 8 (leAt j.entry 9 1)) ((j.entry.drop 16).take (leAt j.entry 10 1)))) ∧
      (if leAt j.entry 1 1 % 2 = 1 then (linkOf t (ringOwner s r).2).req.bind (·.job) = some j ∧ t.ring.jobs = s.ring.jobs ++ [j]
       else ringComp s r = true → recorded s r j.index j.tag 0 [] t)) ∧
  (∀ (s : State) (r : Fin 8192) (j : Job), headIs s r 0x0C 0x21 1 = true → accepts s r j → ∀ u, hostScene (accepted s r) j = some u →
    exec (.packet r) s = .next u ∧ ∀ x ∈ u.ring.jobs, ¬(x.ring = j.ring ∧ x.index = j.index)))

/-! ### Pages (R50, R51, R103 to R110) -/

/-- R110: a write of 1 to ENABLE of a disabled quiescent page enables it and clears QUIESCED; one that is not quiescent is refused. On a
head's page, an audio port's and OPT the write is the command of that chapter, with its checks; PERF checks its dump ring. That the
write has no effect on a page that is enabled is the model's choice (log entry 46).
R108: ENABLE from 1 to 0 with DISABLE_MODE DRAIN leaves the page its accepted work; with ABORT every accepted job of its rings
leaves the jobs without outcome. On a head's page and a link's the write is the disable of that chapter. On a disabled page and on
one that is always enabled the write sets DISABLE_MODE only.
R109: 1 written to DISABLE_MODE during a drain turns it into an abort, and 0 during an abort has no effect; on a page that is
enabled or quiescent the bit is stored.
Completed here: `pageEnable`, `headEnable`, `sapEnable`, `optEnable`, `pageDisable`, `disableModeWrite`, `zlDisable`, `headDisable`. -/
def Obligations.PageEnableAndDisable : Prop :=
  ((∀ (s : State) (req : Requester) (page : Nat), cfgGate s req (Reg.PAGE_CTRL (pageOf page)) none = .go →
    enabled s (pageOf page) = false → quiesced s (pageOf page) = true → pageTyp (pageOf page) ∉ [0x30, 0x40, 0x45, 0x81, 0xA0, 0xC0] →
    ∃ t, exec (.pageEnable req page) s = .next t ∧ (∀ p ∈ ctrlPages (pageOf page), enabled t p = true ∧ quiesced t p = false) ∧
      t = { s with regs := t.regs } ∧
      ∀ a, (∀ p ∈ ctrlPages (pageOf page), a ≠ Reg.PAGE_CTRL p ∧ a ≠ Reg.PAGE_STATUS p) → t.rd a = s.rd a) ∧
  (∀ (s : State) (req : Requester) (page : Nat), cfgGate s req (Reg.PAGE_CTRL (pageOf page)) none = .go →
    enabled s (pageOf page) = false →
    (quiesced s (pageOf page) = false ∧ pageTyp (pageOf page) ∉ [0x40, 0x81, 0xA0, 0xC0]) ∨
      (pageTyp (pageOf page) = 0xC0 ∧ enabled s 0xC0000 = false ∧
        (quiesced s 0xC0000 = false ∨ (dumpMode s ≠ 0 ∧ perfRing s (dumpRing s) 0x08 = false))) →
    ∃ t, exec (.pageEnable req page) s = .next t ∧ noted .regRefused t ∧ regsKept [] s t) ∧
  (∀ (s : State) (req : Requester) (page : Nat), cfgGate s req (Reg.PAGE_CTRL (pageOf page)) none = .go →
    enabled s (pageOf page) = false → quiesced s (pageOf page) = true →
    pageTyp (pageOf page) = 0x30 ∨ pageTyp (pageOf page) = 0x45 ∨
      (pageTyp (pageOf page) = 0xC0 ∧ (dumpMode s = 0 ∨ perfRing s (dumpRing s) 0x08 = true) ∧
        enabled s 0xC0000 = false ∧ quiesced s 0xC0000 = true) →
    ∃ t, exec (.pageEnable req page) s = .next t ∧ ∀ p ∈ ctrlPages (pageOf page), enabled t p = true ∧ quiesced t p = false) ∧
  (∀ (s : State) (req : Requester) (page : Nat), cfgGate s req (Reg.PAGE_CTRL (pageOf page)) none = .go →
    enabled s (pageOf page) = true → exec (.pageEnable req page) s = .next s) ∧
  (∀ (s : State) (req : Requester) (h : Fin 4), exec (.pageEnable req (headBase h)) s = exec (.headEnable req h) s) ∧
  (∀ (s : State) (req : Requester) (p : Fin 8), exec (.pageEnable req (sapBase p)) s = exec (.sapEnable req p) s) ∧
  (∀ (s : State) (req : Requester), exec (.pageEnable req optBase) s = exec (.optEnable req) s)) ∧
  ((∀ (s : State) (req : Requester) (page : Nat), cfgGate s req (Reg.PAGE_CTRL (pageOf page)) none = .go →
    enabled s (pageOf page) = true → alwaysEnabled (pageTyp (pageOf page)) = false →
    pageTyp (pageOf page) ∉ [0x40, 0x45, 0x81, 0xA0, 0xC0] →
    ∃ t, exec (.pageDisable req page false) s = .next t ∧
      (∀ p ∈ ctrlPages (pageOf page), enabled t p = false ∧ t.b (Reg.PAGE_CTRL p) 1 = false) ∧ t = { s with regs := t.regs } ∧
      ∀ a, (∀ p ∈ ctrlPages (pageOf page), a ≠ Reg.PAGE_CTRL p) → t.rd a = s.rd a) ∧
  (∀ (s : State) (req : Requester) (page : Nat) (abort : Bool), cfgGate s req (Reg.PAGE_CTRL (pageOf page)) none = .go →
    enabled s (pageOf page) = true → alwaysEnabled (pageTyp (pageOf page)) = false → pageTyp (pageOf page) ∉ [0x40, 0x45] →
    ∃ t, exec (.pageDisable req page abort) s = .next t ∧ enabled t (pageOf page) = false ∧
      t.b (Reg.PAGE_CTRL (pageOf page)) 1 = abort ∧
      (abort = true → pageTyp (pageOf page) ∈ [0x21, 0x30, 0x31, 0x46] →
        ∀ j ∈ t.ring.jobs, j ∈ s.ring.jobs ∧ ownerBase (ringOwner s j.ring) ≠ pageOf page)) ∧
  (∀ (s : State) (req : Requester) (page : Nat) (abort : Bool),
    enabled s (pageOf page) = false ∨ alwaysEnabled (pageTyp (pageOf page)) = true →
    exec (.pageDisable req page abort) s = exec (.disableModeWrite req page abort) s) ∧
  (∀ (s : State) (req : Requester) (h : Fin 4) (abort : Bool), enabled s (zlBase h) = true →
    exec (.pageDisable req (zlBase h) abort) s = exec (.zlDisable req h abort) s) ∧
  (∀ (s : State) (req : Requester) (h : Fin 4) (abort : Bool), enabled s (headBase h) = true →
    exec (.pageDisable req (headBase h) abort) s = exec (.headDisable req h abort) s)) ∧
  ((∀ (s : State) (req : Requester) (page : Nat) (abort : Bool), cfgGate s req (Reg.PAGE_CTRL (pageOf page)) none = .go →
    enabled s (pageOf page) = true ∨ quiesced s (pageOf page) = true →
    ∃ t, exec (.disableModeWrite req page abort) s = .next t ∧ (∀ p ∈ ctrlPages (pageOf page), t.b (Reg.PAGE_CTRL p) 1 = abort) ∧
      t = { s with regs := t.regs } ∧ ∀ a, (∀ p ∈ ctrlPages (pageOf page), a ≠ Reg.PAGE_CTRL p) → t.rd a = s.rd a) ∧
  (∀ (s : State) (req : Requester) (page : Nat), cfgGate s req (Reg.PAGE_CTRL (pageOf page)) none = .go →
    enabled s (pageOf page) = false → quiesced s (pageOf page) = false →
    exec (.disableModeWrite req page false) s = .next s ∧
    (∃ t, exec (.disableModeWrite req page true) s = .next t ∧ t.b (Reg.PAGE_CTRL (pageOf page)) 1 = true ∧
      (pageTyp (pageOf page) ∈ [0x21, 0x30, 0x31, 0x46] →
        ∀ j ∈ t.ring.jobs, j ∈ s.ring.jobs ∧ ownerBase (ringOwner s j.ring) ≠ pageOf page))))

/-- R51: a soft reset is taken on a disabled quiescent block only; it returns the configuration and status registers of the block to
their reset values (those of OPT that show its rows show them, and OPT_GEOM is that of the panel profile), keeps the header but for
SOFT_RESET, which clears, and leaves every other register. A FAILED sensor stays FAILED (R506).
R108, R384: a disabled page, ring or lane whose work has ended reads QUIESCED 1; a head and a port then read DISABLED.
R103, R105, R106: a listed role written to a disabled quiescent page or lane becomes its role, and ROLE_EPOCH increments modulo
2^16; the role of a running unit and an unlisted code are refused, and a page without a role ignores the write. Which words a soft
reset leaves alone in the regions it returns is the model's choice (log entry 41).
Completed here: `softReset`, `softResetComplete`, `quiescence`, `roleWrite`. -/
def Obligations.ResetQuiescenceAndRole : Prop :=
  ((∀ (s : State) (req : Requester) (page : Nat), cfgGate s req (Reg.PAGE_CTRL (pageOf page)) none = .go →
    ∃ t, exec (.softReset req page) s = .next t ∧
      (if enabled s (pageOf page) = false ∧ quiesced s (pageOf page) = true
       then (∀ p ∈ ctrlPages (pageOf page), t.b (Reg.PAGE_CTRL p) 2 = true) ∧ t = { s with regs := t.regs } ∧
         ∀ a, (∀ p ∈ ctrlPages (pageOf page), a ≠ Reg.PAGE_CTRL p) → t.rd a = s.rd a
       else noted .regRefused t ∧ regsKept [] s t)) ∧
  (∀ (s : State) (page : Nat), s.on = true → (pageAt (pageOf page)).isSome = true → s.b (Reg.PAGE_CTRL (pageOf page)) 2 = true →
    ∃ t, exec (.softResetComplete page) s = .next t ∧
      (∀ p ∈ ctrlPages (pageOf page), t.b (Reg.PAGE_CTRL p) 2 = false ∧ 
        ∀ a, softClears p a = true → (pageTyp p = 0x81 → a % 0x1000 < 0x800 ∧ a ≠ Reg.OPT_OPT_GEOM) → t.rd a = Reg.reset a) ∧
      (pageOf page = optBase → s.opt.run = none → t.rd Reg.OPT_OPT_GEOM = w32 (profGeom (curProfile s))) ∧
      (pageOf page = 0xB0000 → t.rd Reg.THERM_POWER_STATUS = setFld (s.rd Reg.THERM_POWER_STATUS) 6 3 1 ∧
        ∀ i, i < 48 → t.rd (Reg.THERM_SENSOR i) = if sensorState s i = 2 then 0x20000 else 0) ∧
      (∀ p : Fin 2, pageOf page = netBase p → t.rd (Reg.NET_LINK_STATUS p) = w32 (4 * s.f (Reg.NET_LINK_STATUS p) 2 2)) ∧
      ∀ a, (∀ p ∈ ctrlPages (pageOf page), softClears p a = false ∧ a ≠ Reg.PAGE_CTRL p ∧ (pageTyp p = 0xC0 → a % 0x1000 < 0xC00)) →
        a ∉ [Reg.THERM_POWER_STATUS, Reg.NET_LINK_STATUS 0, Reg.NET_LINK_STATUS 1] →
        (pageOf page = 0xB0000 → a ∉ (List.range 48).map Reg.THERM_SENSOR) → t.rd a = s.rd a)) ∧
  ((∀ (s : State) (a : Nat), enabled s (pageOf a) = false → quiesced s (pageOf a) = false → (pageAt (pageOf a)).isSome = true →
    pageIdle s (pageOf a) = true →
    ∃ t, exec (.quiescence (.page a)) s = .next t ∧ quiesced t (pageOf a) = true ∧
      (∀ h : Fin 4, pageOf a = headBase h → headState t h = 0) ∧ (∀ p : Fin 8, pageOf a = sapBase p → portState t p = 0) ∧
      (pageTyp (pageOf a) ∉ [0x40, 0xA0] →
        t = { s with regs := t.regs } ∧ ∀ x, (∀ p ∈ ctrlPages (pageOf a), x ≠ Reg.PAGE_STATUS p) → t.rd x = s.rd x)) ∧
  (∀ (s : State) (r : Fin 8192), ringIsQuiet s r = true →
    exec (.quiescence (.ring r)) s = .next (s.setB (Reg.RING_STATUS r) 0 true)) ∧
  (∀ (s : State) (h : Fin 4) (n : Fin 13), laneState s h n = 7 → s.b (Reg.ZL_LANE_STATUS h n) 9 = false → prbsGens s h n = false →
    exec (.quiescence (.lane h n)) s = .next (s.setB (Reg.ZL_LANE_STATUS h n) 3 true))) ∧
  ((∀ (s : State) (req : Requester) (a : Nat) (v : Word), cfgGate s req (Reg.PAGE_ROLE (pageOf a)) none = .go →
    ∃ t, exec (.roleWrite req (.page a) v) s = .next t ∧
      (if hasRole (pageTyp (pageOf a)) = false then t = s
       else if enabled s (pageOf a) = false ∧ quiesced s (pageOf a) = true ∧ roleListed s (pageTyp (pageOf a)) (fld v 0 8) = true
       then roleCode t (pageOf a) = fld v 0 8 ∧ roleEpoch t (pageOf a) = (roleEpoch s (pageOf a) + 1) % 2 ^ 16 ∧
         t = { s with regs := t.regs } ∧ ∀ x, x ≠ Reg.PAGE_ROLE (pageOf a) → t.rd x = s.rd x
       else noted .regRefused t ∧ regsKept [] s t)) ∧
  (∀ (s : State) (req : Requester) (h : Fin 4) (n : Fin 13) (v : Word), cfgGate s req (Reg.ZL_LANE_ROLE h n) none = .go →
    ∃ t, exec (.roleWrite req (.lane h n) v) s = .next t ∧
      (if s.b (Reg.ZL_LANE_CTRL h n) 0 = false ∧ s.b (Reg.ZL_LANE_STATUS h n) 3 = true ∧ fld v 0 8 ≤ 4 ∧
           (fld v 0 8 = 3 → headState s h = 0)
       then t.f (Reg.ZL_LANE_ROLE h n) 0 8 = fld v 0 8 ∧
         t.f (Reg.ZL_LANE_ROLE h n) 16 16 = (s.f (Reg.ZL_LANE_ROLE h n) 16 16 + 1) % 2 ^ 16 ∧
         t = { s with regs := t.regs } ∧ ∀ x, x ≠ Reg.ZL_LANE_ROLE h n → t.rd x = s.rd x
       else noted .regRefused t ∧ regsKept [] s t)))

/-! ### Bus accesses (R44 to R60, R117, R618) -/

/-- R48, R53, R54, R618: a full-word write to a register that only stores takes its writable bits and leaves the rest, if the value
lies in the register's range; one out of range is discarded with REG_REFUSED, a partial write and one to an unmapped address are
discarded, counted and reported.
R57: the low word of a 64-bit register waits without effect, and the high word written after it puts both words into the register
at once.
R60, R117: a direct write of MAP_SEL takes effect if no ARMED transaction has staged the register and the checks of a
commit of that write alone pass; else it is discarded with REG_REFUSED.
Completed here: `registerWrite`, `unmappedAddressAccess`, `highWordWrite`, `mapSelWrite`. -/
def Obligations.RegisterWrites : Prop :=
  ((∀ (s : State) (req : Requester) (a : Nat) (v : Word) (p : PageId), a % 4 = 0 → pageAt a = some p → 0x100 ≤ a - p.base →
    cfgGate s req a (featureOf a) = .go → actPage s req p (a - p.base) v = none → closed s a = false →
    isLowWord a = false → lowOf a = none → (regInfo a).1 = .rw →
    ∃ t, exec (.registerWrite req a v 0xF) s = .next t ∧
      (if valOk a (v &&& (regInfo a).2) = true then
         t.rd a = (v &&& (regInfo a).2) ||| (s.rd a &&& ~~~(regInfo a).2) ∧ t = { s with regs := t.regs } ∧
         (∀ h b, bankReg a = some (h, b) → t.rd (Reg.RGU_BANK_STATUS h b) = 0) ∧
         ∀ x, x ≠ a → (∀ h b, bankReg a = some (h, b) → x ≠ Reg.RGU_BANK_STATUS h b) → t.rd x = s.rd x
       else noted .regRefused t ∧ regsKept [] s t)) ∧
  (∀ (s : State) (req : Requester) (a : Nat) (v : Word) (be : BitVec 4), a % 4 = 0 → reaches s req = true →
    unmappedFor req a = false → be ≠ 0xF →
    ∃ t, exec (.registerWrite req a v be) s = .next t ∧ noted .partialWrite t ∧
      t.rd Reg.SYS_PARTIAL_COUNT = satAdd (s.rd Reg.SYS_PARTIAL_COUNT) 1 0xFFFFFFFF ∧ regsKept [Reg.SYS_PARTIAL_COUNT] s t) ∧
  (∀ (s : State) (req : Requester) (a : Nat) (v : Word) (be : BitVec 4), a % 4 = 0 → unmappedFor req a = true →
    exec (.registerWrite req a v be) s = exec (.unmappedAddressAccess req a true) s)) ∧
  (∀ (s : State) (req : Requester) (lo : Nat) (vlo vhi : Word), lo % 4 = 0 → lowOf (lo + 4) = some lo → (regInfo lo).1 = .rw →
    lo ≠ Reg.TIME_EPOCH_OFFSET_LO → lo ≠ Reg.MEM4_SYSTEM_TOP_LO →
    cfgGate s req lo none = .go → cfgGate s req (lo + 4) none = .go → closed s lo = false → closed s (lo + 4) = false →
    valOk lo (vlo &&& (regInfo lo).2) = true → valOk (lo + 4) (vhi &&& (regInfo (lo + 4)).2) = true →
    ∃ t u, exec (.registerWrite req lo vlo 0xF) s = .next t ∧ t.regs = s.regs ∧
      exec (.highWordWrite req (lo + 4) vhi) t = .next u ∧ u.rd lo = regMasked s lo vlo ∧ u.rd (lo + 4) = regMasked s (lo + 4) vhi ∧
      ∀ x, x ≠ lo → x ≠ lo + 4 → (∀ h b, bankReg lo = some (h, b) → x ≠ Reg.RGU_BANK_STATUS h b) → u.rd x = s.rd x) ∧
  (∀ (s : State) (req : Requester) (h : Fin 4) (v : Word), cfgGate s req (Reg.RGU_MAP_SEL h) none = .go →
    ∃ t, exec (.mapSelWrite req h v) s = .next t ∧
      (if armedAt s (Reg.RGU_MAP_SEL h) = false ∧ badWrite s [] [(Reg.RGU_MAP_SEL h, v &&& 3)] = none
       then t.f (Reg.RGU_MAP_SEL h) 0 2 = fld v 0 2 ∧ t = { s with regs := t.regs } ∧ ∀ x, x ≠ Reg.RGU_MAP_SEL h → t.rd x = s.rd x
       else noted .regRefused t ∧ regsKept [] s t))

/-- R48, R57: a read answers the word; the read of a 64-bit register's low word latches its high word, which the requester's next read
of the high word answers, whatever the register then holds. A word of the memory controller is that of the held state and the migration as
they are at the read (R464, R481). Every BAR0 address not listed in R47 is unmapped, and PERF privileged is for the
host: an access to one changes nothing but the count, the address and the event, and a read answers 0.
Completed here: `lowWordRead`, `unmappedAddressAccess`. -/
def Obligations.ReadsAnswer : Prop :=
  (∀ (s : State) (req : Requester) (a : Nat), a % 4 = 0 → reaches s req = true → unmappedFor req a = false →
    (4 ≤ a → readLow (a - 4) = false) → measured s a = false →
    ∃ t, exec (.lowWordRead req a) s = .next t ∧
      (pageTyp (pageOf a) ≠ 0x90 ∨ memReady s = false → t.out = .readData req (readVal s req a) :: s.out ∧ t.regs = s.regs) ∧
      (pageTyp (pageOf a) = 0x90 → memReady s = true → t.out.head? = some (.readData req (readVal (memLook s) req a))) ∧
      (readLow a = false → t.bus = s.bus) ∧
      (readLow a = true → unmappedFor req (a + 4) = false → ∀ s' : State, s'.bus = t.bus → reaches s' req = true →
        ∃ u l, exec (.lowWordRead req (a + 4)) s' = .next u ∧ (pageTyp (pageOf a) ≠ 0x90 → l = s'.out) ∧
          u.out = .readData req (readVal (if pageTyp (pageOf a) = 0x90 then memLook s else s) req (a + 4)) :: l)) ∧
  (∀ (s : State) (req : Requester) (a : Nat) (w : Bool), a % 4 = 0 → reaches s req = true → unmappedFor req a = true →
    ∃ t, exec (.unmappedAddressAccess req a w) s = .next t ∧ noted .unmappedAccess t ∧
      t.rd Reg.SYS_UNMAPPED_COUNT = satAdd (s.rd Reg.SYS_UNMAPPED_COUNT) 1 0xFFFFFFFF ∧ t.rd Reg.SYS_LAST_BAD_ADDR = w32 a ∧
      regsKept [Reg.SYS_UNMAPPED_COUNT, Reg.SYS_LAST_BAD_ADDR] s t ∧ (w = false → t.out.head? = some (.readData req 0)) ∧
      ∀ p, p ∉ byRouter → samePart p s t) ∧
  (∀ a : Nat, a < 2 ^ 24 →
    (unmappedFor .mgmt a = false ↔ a - a % 0x1000 ∈ bar0Pages ∨ (0x100000 ≤ a ∧ a < 0x180000) ∨ (0x200000 ≤ a ∧ a < 0x240000) ∨
      (0x300000 ≤ a ∧ a < 0x400000)) ∧
    (unmappedFor .host a = true ↔ unmappedFor .mgmt a = true ∨ (0xC2000 ≤ a ∧ a < 0xC3000)))

/-! ### Transactions (R113 to R124) -/

/-- R114, R115, R116: BEGIN opens the lowest FREE transaction for the requester, or answers OUT_OF_SPACE; a write of STAGE_DATA of an OPEN
transaction stages its value for the register that STAGE_ADDR names, in place of an earlier one, and steps STAGE_ADDR by 4; only the
first staging error is kept (the later writes are staged all the same: the model's reading, log entry 15); COMMIT of an OPEN
transaction counts and starts its validation. None of the three touches another transaction or anything outside the transaction unit.
Completed here: `beginTxn`, `stageDataWrite`, `commitTxn`. -/
def Obligations.TransactionStaging : Prop :=
  (∀ (s : State) (req : Requester), cfgGate s req Reg.TXN_TXN_CMD none = .go → anyPending s = false →
    ∃ t, exec (.beginTxn req) s = .next t ∧
      (match (List.range 4).find? (fun i => decide (txnState s i = 0)) with
       | some i => txnState t i = 1 ∧ txnOwner t i = reqNum req ∧ txnOf t i = Txn.free ∧
           txnLastOf t req = w32 (1 + i * 16) ∧ (∀ a, a ≠ Reg.TXN_TXN_STATE i → t.rd a = s.rd a) ∧
           ∀ j : Fin 4, j.val ≠ i → txnOf t j = txnOf s j
       | none => txnLastOf t req = w32 (1 + 7 * 256) ∧ t.regs = s.regs ∧ ∀ j : Fin 4, txnOf t j = txnOf s j) ∧
      ∀ p, p ∉ [.regs, .txn] → samePart p s t) ∧
  (∀ (s : State) (req : Requester) (i : Fin 4) (v : Word), cfgGate s req (Reg.TXN_STAGE_DATA i) none = .go → txnState s i = 1 →
    txnOwner s i = reqNum req → txnPending s i = false →
    let a := s.rdN (Reg.TXN_STAGE_ADDR i)
    ∃ t, exec (.stageDataWrite req i v) s = .next t ∧ t.rd (Reg.TXN_STAGE_ADDR i) = w32 ((a + 4) % 2 ^ 24) ∧
      (match stageError s (txnOf s i) a with
       | none => (a, v &&& (regInfo a).2) ∈ (txnOf t i).staged ∧ (txnOf t i).err = (txnOf s i).err ∧
           (∀ p : Nat × Word, p.1 ≠ a → (p ∈ (txnOf t i).staged ↔ p ∈ (txnOf s i).staged)) ∧
           t.f (Reg.TXN_TXN_STATE i) 16 13 = (txnOf t i).staged.length % 2 ^ 13
       | some e => (txnOf t i).staged = (txnOf s i).staged ∧ (txnOf t i).err = some ((txnOf s i).err.getD (e, a))) ∧
      (∀ x, x ≠ Reg.TXN_STAGE_ADDR i → x ≠ Reg.TXN_TXN_STATE i → t.rd x = s.rd x) ∧
      (∀ j : Fin 4, j ≠ i → txnOf t j = txnOf s j) ∧ ∀ p, p ∉ [.regs, .txn] → samePart p s t) ∧
  (∀ (s : State) (req : Requester) (v : Word), cfgGate s req Reg.TXN_TXN_CMD none = .go → anyPending s = false →
    txnState s (fld v 4 2) = 1 → txnOwner s (fld v 4 2) = reqNum req →
    ∃ t, exec (.commitTxn req v) s = .next t ∧ txnPending t (fld v 4 2) = true ∧
      t.rd Reg.TXN_TXN_COMMIT_COUNT = s.rd Reg.TXN_TXN_COMMIT_COUNT + 1 ∧
      txnOf t (fld v 4 2) = { txnOf s (fld v 4 2) with cmd := v, seq := s.rd Reg.TXN_TXN_COMMIT_COUNT + 1 } ∧
      txnLastOf t req = w32 (1 + fld v 4 2 * 16) ∧
      (∀ x, x ≠ Reg.TXN_TXN_COMMIT_COUNT → x ≠ Reg.TXN_TXN_RESULT (fld v 4 2) → t.rd x = s.rd x) ∧
      (∀ j : Fin 4, j.val ≠ fld v 4 2 → txnOf t j = txnOf s j) ∧ ∀ p, p ∉ [.regs, .txn] → samePart p s t)

/-- R116, R118, R124: validation ends by refusing the whole transaction with a status and the offset at fault, nothing applied, or by
arming it for the next latches of its heads, or, IMMEDIATE and with no affected head enabled, by applying every staged write at once
(R404, R405: but a write to a RAIL page that a direct write would not reach either).
R123: ROLLBACK discards an OPEN transaction, or an ARMED one whose first application point has not passed, with nothing applied; one
that has begun goes on, and the requester is answered ABORT_MISSED.
R113, R114: until then BEGIN, STAGE_DATA and COMMIT change no register that a transaction can write, no transaction in use from FREE,
OPEN or ARMED to another of these, and not the TXN_LAST of the other requester. That a write to a RAIL page out of reach is dropped
alone is the model's reading (log entry 32).
Completed here: `commitValidationComplete`, `rollback`, `beginTxn`, `stageDataWrite`, `commitTxn`. -/
def Obligations.TransactionOutcomes : Prop :=
  ((∀ (s : State) (i : Fin 4) (e a : Nat), txnPending s i = true → (txnOf s i).err = some (e, a) → s.on = true →
    ∃ t, exec (.commitValidationComplete i) s = .next t ∧ txnState t i = 0 ∧ t.rd (Reg.TXN_TXN_RESULT i) = w32 e ∧
      t.rd (Reg.TXN_TXN_FAIL_OFFSET i) = w32 a ∧ noted .txnRefused t ∧
      regsKept [Reg.TXN_TXN_STATE i, Reg.TXN_TXN_RESULT i, Reg.TXN_TXN_FAIL_OFFSET i] s t) ∧
  (∀ (s : State) (i : Fin 4), txnPending s i = true → (txnOf s i).err = none →
    lowest (((txnOf s i).staged.map (·.1)).filter (txnOf s i).foreign.contains) = none →
    applyCheck s (txnOf s i) = none → badCommit s (armedWrites s i) (txnOf s i).staged = none → (txnOf s i).staged.isEmpty = false →
    (txnOf s i).apply = 1 → (affected (txnOf s i).staged).any (headOn s) = true →
    ∃ t, exec (.commitValidationComplete i) s = .next t ∧ txnState t i = 2 ∧ t.rd (Reg.TXN_TXN_RESULT i) = 0 ∧
      (txnOf t i).headsLeft = affected (txnOf s i).staged ∧ (txnOf t i).staged = (txnOf s i).staged ∧
      ∀ x, x ≠ Reg.TXN_TXN_STATE i → x ≠ Reg.TXN_TXN_RESULT i → t.rd x = s.rd x) ∧
  (∀ (s : State) (i : Fin 4), s.on = true → txnPending s i = true → (txnOf s i).err = none →
    lowest (((txnOf s i).staged.map (·.1)).filter (txnOf s i).foreign.contains) = none →
    applyCheck s (txnOf s i) = none → badCommit s (armedWrites s i) (txnOf s i).staged = none → (txnOf s i).staged.isEmpty = false →
    (txnOf s i).apply = 0 → (affected (txnOf s i).staged).any (headOn s) = false → (txnOf s i).late = false →
    ((txnOf s i).staged.map (·.1)).Pairwise (· < ·) → (∀ p ∈ (txnOf s i).staged, isRwt p.1 = true) →
    ∃ t, exec (.commitValidationComplete i) s = .next t ∧ txnState t i = 0 ∧ t.rd (Reg.TXN_TXN_RESULT i) = 0 ∧
      noted .txnApplied t ∧
      ∀ p ∈ (txnOf s i).staged, storeCfgAt p.1 = none → railShut s (txnOwner s i) p.1 = false →
        t.rd p.1 = (p.2 &&& (regInfo p.1).2) ||| (s.rd p.1 &&& ~~~(regInfo p.1).2))) ∧
  ((∀ (s : State) (req : Requester) (i : Fin 4), cfgGate s req Reg.TXN_TXN_CMD none = .go → anyPending s = false → txnState s i ≠ 0 →
    txnOwner s i = reqNum req → (txnState s i = 2 → (txnOf s i).begun = false ∧ (txnOf s i).apply ≠ 2) →
    ∃ t, exec (.rollback req i) s = .next t ∧ txnState t i = 0 ∧ t.rd (Reg.TXN_TXN_RESULT i) = 2 ∧ txnOf t i = Txn.free ∧
      txnLastOf t req = w32 (1 + i * 16) ∧ noted .txnRolledBack t ∧ regsKept [Reg.TXN_TXN_STATE i, Reg.TXN_TXN_RESULT i] s t) ∧
  (∀ (s : State) (req : Requester) (i : Fin 4), cfgGate s req Reg.TXN_TXN_CMD none = .go → anyPending s = false → txnState s i = 2 →
    txnOwner s i = reqNum req → (txnOf s i).begun = true →
    ∃ t, exec (.rollback req i) s = .next t ∧ txnLastOf t req = w32 (1 + i * 16 + 3 * 256) ∧ t.regs = s.regs ∧ txnOf t i = txnOf s i)) ∧
  (∀ (s : State) (req : Requester) (i : Fin 4) (v : Word) (c : Instr),
    (c = .beginTxn req ∧ cfgGate s req Reg.TXN_TXN_CMD none = .go ∧ anyPending s = false) ∨
    (c = .stageDataWrite req i v ∧ cfgGate s req (Reg.TXN_STAGE_DATA i) none = .go ∧ txnState s i = 1 ∧ txnOwner s i = reqNum req ∧
      txnPending s i = false) ∨
    (c = .commitTxn req v ∧ cfgGate s req Reg.TXN_TXN_CMD none = .go ∧ anyPending s = false ∧ txnState s (fld v 4 2) = 1 ∧
      txnOwner s (fld v 4 2) = reqNum req) →
    ∃ t, exec c s = .next t ∧ (∀ r : Requester, r ≠ req → txnLastOf t r = txnLastOf s r) ∧
      (∀ j : Fin 4, txnState s j ≠ 0 → txnState t j = txnState s j ∧ txnOwner t j = txnOwner s j) ∧
      t.out = s.out ∧ (∀ a, isRwt a = true → t.rd a = s.rd a))

/-! ### Device time (R127 to R145) -/

/-- R132, R134, R145: REF_SEL moves the clock source to an input that qualifies and back; AUTO_SWITCH written 1 lifts the bars;
EPOCH_OFFSET is free while the serving domain is OFF and moves by whole seconds under PPS; DOM_CTRL starts an OFF domain and stops any.
R141, R142, R144, R145: a switch to the other LOCKED domain slews to its offset; an accepted jump of the serving SUSPECT domain slews
backward while a consumer holds a time, and else steps device time at once. That DOM_CTRL with MODE 0 acts whatever TRANSPORT holds
is the model's choice, and that a jump accepted during a slew slews after it its reading (log entry 19).
Completed here: `refSelWrite`, `autoSwitchWrite`, `epochOffsetWrite`, `domCtrlWrite`, `domainSwitch`, `autoDomainSwitch`, `acceptJump`. -/
def Obligations.TimeWritesAndSwitches : Prop :=
  ((∀ (s : State) (req : Requester) (v : Word) (c : Instr), c = .refSelWrite req v ∨ c = .autoSwitchWrite req v →
    cfgGate s req Reg.TIME_TIME_CTRL none = .go →
    ∃ t, exec c s = .next t ∧ t.rd Reg.TIME_TIME_CTRL = v &&& 0xF ∧
      t.time.refExt = (bit v 0 && (s.time.refExt || s.time.refGood)) ∧
      t.b Reg.TIME_TIME_STATUS 4 = (if bit v 0 then t.time.refExt else s.time.refGood) ∧
      (bit v 1 = true → t.time.domA.barred = false ∧ t.time.domB.barred = false) ∧ t.now = s.now ∧
      ∀ a, a ∉ [Reg.TIME_TIME_CTRL, Reg.TIME_TIME_STATUS] → t.rd a = s.rd a) ∧
  (∀ (s : State) (req : Requester) (v : BitVec 64), cfgGate s req Reg.TIME_EPOCH_OFFSET_LO none = .go →
    ∃ t, exec (.epochOffsetWrite req v) s = .next t ∧ t.time = s.time ∧
      (domMode s (serving s) = 0 → t.epochOffset = v.toInt) ∧
      (domMode s (serving s) = 3 → t.rd64 Reg.TIME_EPOCH_OFFSET_LO Reg.TIME_EPOCH_OFFSET_HI =
        u64 (s.epochOffset + nearestSeconds (v.toInt - s.epochOffset) * 1000000000)) ∧
      (domMode s (serving s) = 1 ∨ domMode s (serving s) = 2 → noted .regRefused t ∧ t.epochOffset = s.epochOffset) ∧
      regsKept [Reg.TIME_EPOCH_OFFSET_LO, Reg.TIME_EPOCH_OFFSET_HI] s t) ∧
  (∀ (s : State) (req : Requester) (d : Fin 2) (v : Word), cfgGate s req (Reg.TIME_DOM_CTRL d) (if d = 1 then some 6 else none) = .go →
    ∃ t, exec (.domCtrlWrite req d v) s = .next t ∧
      (if domState s d ≠ 0 then
         (if fld v 0 2 = 0 then domState t d = 0 ∧ domMode t d = 0 else noted .regRefused t ∧ domState t d = domState s d)
       else if (fld v 0 2 = 3 ∧ d = 1) ∨ fld v 4 2 = 3 then noted .regRefused t ∧ domState t d = 0
       else t.rd (Reg.TIME_DOM_CTRL d) = v &&& 0x1FFFFF77 ∧
         domState t d = (if fld v 0 2 = 0 then 0 else if fld v 0 2 = 2 then 6 else 1)) ∧
      regsKept [Reg.TIME_DOM_CTRL d, Reg.TIME_DOM_STATE d, Reg.TIME_TIME_STATUS] s t)) ∧
  ((∀ (s : State) (req : Requester) (v : Word), cfgGate s req Reg.TIME_DOMAIN_SWITCH none = .go → bit v 31 = true →
    ∃ t, exec (.domainSwitch req v) s = .next t ∧ t.now = s.now ∧
      (if canSwitch s (fld v 0 1) = true then serving t = fld v 0 1 ∧ noted .domainSwitched t ∧
         (domOffset s (fld v 0 1) ≠ 0 → mgmtPaused s = false → t.time.slewRem = domOffset s (fld v 0 1) * 2 ^ 28)
       else noted .regRefused t ∧ serving t = serving s)) ∧
  (∀ s : State, s.on = true → s.b Reg.TIME_TIME_CTRL 1 = true → canSwitch s (1 - serving s) = true →
    (domOf s (1 - serving s)).barred = false → (∃ away, (domOf s (serving s)).awaySince = some away ∧ away + 2000000000 ≤ s.now) →
    ∃ t, exec .autoDomainSwitch s = .next t ∧ serving t = 1 - serving s ∧ noted .domainSwitched t ∧
      (domOf t (serving s)).barred = true ∧ t.now = s.now) ∧
  (∀ (s : State) (req : Requester) (v : Word), cfgGate s req Reg.TIME_ACCEPT_JUMP none = .go → bit v 31 = true →
    serving s = fld v 0 1 → domState s (fld v 0 1) = 5 →
    let c := proposed s (fld v 0 1)
    ∃ t, exec (.acceptJump req v) s = .next t ∧
      (if c < 0 ∧ timeHeld s = true then t.time.ns = s.time.ns ∧ noted .jumpAccepted t ∧ domState t (fld v 0 1) = 2 ∧
         (if slewing s.time = true then t.time.slewRem = s.time.slewRem ∧ t.time.slewQueue = s.time.slewQueue ++ [c]
          else t.time.slewRem = c * 2 ^ 28)
       else t.time.ns = s.time.ns + BitVec.ofInt 64 c ∧
         (c < 0 → noted .jumpAccepted t ∧ domState t (fld v 0 1) = 2 ∧ t.time.slewRem = s.time.slewRem))))

/-- R134, R135, R140: an input that has qualified becomes the source where REF_SEL selects it; its loss returns to the module's clock with
REF_LOST; PPS edges measure the offset of device time, and their loss is reported; a slew ends in the tick that finds less than a step
to do, which adds that rest. That the frequency of a PPS measurement is open is the model's reading (log entry 21), and that an accepted
jump that finds a slew in progress slews after it is the model's (log entry 19).
Completed here: `refInputQualified`, `refLost`, `ppsEdge`, `ppsLost`, `slewEnd`. -/
def Obligations.ReferencesAndSlews : Prop :=
  (∀ s : State, s.on = true →
    ∃ t, exec .refInputQualified s = .next t ∧ t.time.refGood = true ∧ t.b Reg.TIME_TIME_STATUS 4 = true ∧
      (s.b Reg.TIME_TIME_CTRL 0 = true → s.time.refExt = false → t.time.refExt = true ∧ (s.time.refMoved = true → noted .refRestored t)) ∧
      regsKept [Reg.TIME_TIME_STATUS] s t) ∧
  (∀ s : State, s.on = true →
    ∃ t, exec .refLost s = .next t ∧ t.time.refGood = false ∧ t.time.refExt = false ∧ t.b Reg.TIME_TIME_STATUS 4 = false ∧
      (s.time.refExt = true → noted .refLost t) ∧ regsKept [Reg.TIME_TIME_STATUS] s t) ∧
  (∀ s : State, s.on = true → domMode s 0 = 3 → domState s 0 = 3 → s.time.epochSet = true →
    let raw := edgeOffset ((s.now : Int) + s.epochOffset)
    ∃ t, exec .ppsEdge s = .next t ∧ t.rd64 (Reg.TIME_OFFSET_LO 0) (Reg.TIME_OFFSET_HI 0) = u64 raw ∧
      t.rd (Reg.TIME_FREQ_PPB 0) = Config.freeWord s.freeCount ∧ t.freeCount = s.freeCount + 1 ∧
      (s.time.domA.reached = true → raw.natAbs ≤ 1000 → t.b Reg.TIME_TIME_STATUS 5 = true) ∧
      (jumpThreshold s < raw.natAbs → noted .jumpRefused t ∧ domState t 0 = 5 ∧ t.time.slewRem = s.time.slewRem) ∧
      (raw.natAbs ≤ jumpThreshold s → domState t 0 = 3 ∧
        (serving s = 0 → slewing s.time = false → mgmtPaused s = false → raw ≠ 0 → t.time.slewRem = raw * 2 ^ 28))) ∧
  (∀ s : State, s.on = true → domMode s 0 = 3 → s.b Reg.TIME_TIME_STATUS 5 = true →
    ∃ t, exec .ppsLost s = .next t ∧ t.b Reg.TIME_TIME_STATUS 5 = false ∧ noted .ppsLost t ∧ regsKept [Reg.TIME_TIME_STATUS] s t) ∧
  (∀ s : State, s.on = true → slewing s.time = true → s.time.slewRem.natAbs < s.time.slewStep.natAbs →
    ∃ t, exec .slewEnd s = .next t ∧ noted .slewDone t ∧ t.time.slewQueue = s.time.slewQueue.tail ∧
      (s.time.slewQueue = [] → t.time.slewRem = 0 ∧ t.time.slewStep = 0) ∧
      (∀ c, s.time.slewQueue.head? = some c → c ≠ 0 → t.time.slewRem = c * 2 ^ 28) ∧
      t.time.ns ++ t.time.frac = (s.time.ns ++ s.time.frac) +
        BitVec.ofNat 92 (incrOf (nominalIncr s) s.time.freqPpb s.time.slewRem).toNat ∧
      regsKept [Reg.TIME_SLEW_REMAINING_LO, Reg.TIME_SLEW_REMAINING_HI, Reg.TIME_TIME_STATUS, Reg.TIME_INCR_LO, Reg.TIME_INCR_HI] s t)

/-- R135 to R139: what a SLAVE domain makes of the messages of its grandmaster: the first Announce leads to UNCALIBRATED, another
grandmaster restarts it; an offset within JUMP_THRESHOLD is slewed by the serving domain, one beyond is refused and the domain
becomes SUSPECT; silence leads to HOLDOVER. Messages a domain sends carry device time + EPOCH_OFFSET. That the correction is the
measured offset itself is the model's reading (log entry 20).
Completed here: `syncReceived`, `announceReceived`, `delayRespReceived`, `announceTimeout`, `ptpMessageSend`, `delayReqReceived`. -/
def Obligations.PtpDomains : Prop :=
  (∀ (s : State) (d : Fin 2) (gm : BitVec 64) (tai : Int) (freq : Option Int), slaveOn s d = true → domState s d = 3 →
    (domOf s d).hasGm = true → s.rd64 (Reg.TIME_GM_ID_LO d) (Reg.TIME_GM_ID_HI d) = gm.toNat → s.time.epochSet = true →
    let raw := tai - ((s.now : Int) + s.epochOffset)
    ∃ t, exec (.syncReceived d gm tai freq) s = .next t ∧ t.rd64 (Reg.TIME_OFFSET_LO d) (Reg.TIME_OFFSET_HI d) = u64 raw ∧
      t.now = s.now ∧ (∀ f, freq = some f → t.rd (Reg.TIME_FREQ_PPB d) = wInt f) ∧
      (jumpThreshold s < raw.natAbs → noted .jumpRefused t ∧ domState t d = 5 ∧
        t.rd64 (Reg.TIME_PROPOSED_LO d) (Reg.TIME_PROPOSED_HI d) = u64 raw ∧ t.time.slewRem = s.time.slewRem) ∧
      (raw.natAbs ≤ jumpThreshold s → domState t d = 3 ∧ (serving s ≠ d.val → t.time.slewRem = s.time.slewRem) ∧
        (serving s = d.val → slewing s.time = false → mgmtPaused s = false → raw ≠ 0 → (domOf s d).hasDelay = true → (domOf s d).hasFreq = true →
          t.time.slewRem = raw * 2 ^ 28))) ∧
  (∀ (s : State) (d : Fin 2) (gm : BitVec 64), slaveOn s d = true →
    ((domOf s d).hasGm = false ∧ domState s d = 1) ∨
      ((domOf s d).hasGm = true ∧ s.rd64 (Reg.TIME_GM_ID_LO d) (Reg.TIME_GM_ID_HI d) ≠ gm.toNat) →
    ∃ t, exec (.announceReceived d gm) s = .next t ∧ domState t d = 2 ∧
      t.rd64 (Reg.TIME_GM_ID_LO d) (Reg.TIME_GM_ID_HI d) = gm.toNat ∧ (domOf t d).hasGm = true ∧
      ((domOf s d).hasGm = true → noted .gmChanged t) ∧
      regsKept [Reg.TIME_DOM_STATE d, Reg.TIME_GM_ID_LO d, Reg.TIME_GM_ID_HI d] s t) ∧
  (∀ (s : State) (d : Fin 2) (delay : Word), slaveOn s d = true → 2 ≤ domState s d →
    ∃ t, exec (.delayRespReceived d delay) s = .next t ∧ t.rd (Reg.TIME_PATH_DELAY d) = delay ∧ (domOf t d).hasDelay = true ∧
      ∀ a, a ≠ Reg.TIME_PATH_DELAY d → t.rd a = s.rd a) ∧
  (∀ (s : State) (d : Fin 2), s.on = true → domState s d = 3 →
    ∃ t, exec (.announceTimeout d) s = .next t ∧ domState t d = 4 ∧ noted .domainHoldover t ∧
      (domOf t d).awaySince = some ((domOf s d).awaySince.getD s.now) ∧ regsKept [Reg.TIME_DOM_STATE d] s t) ∧
  (∀ (s : State) (d : Fin 2) (m : PtpMsg), s.on = true → domPortUp s d = true →
    (if m = .delayReq then domMode s d = 1 ∧ 2 ≤ domState s d else m ≠ .delayResp ∧ domState s d = 6) →
    exec (.ptpMessageSend d m) s = .next { s with out := .ptp d.val m ((s.now : Int) + s.epochOffset) (ptpFrame s d m) :: s.out }) ∧
  (∀ (s : State) (d : Fin 2), s.on = true → domState s d = 6 → domPortUp s d = true →
    exec (.delayReqReceived d) s = .next { s with out := .ptp d.val .delayResp ((s.now : Int) + s.epochOffset) (ptpFrame s d .delayResp) :: s.out })

/-! ### The scheduler (R147 to R157) -/

/-- R150, R151, R155: ARM arms a slot that passes the checks, and else ends it with the status of the first check that fails, the
latest being a target passed under DROP; DISARM ends an ARMED slot ABORTED, and one that names a slot of a transaction is refused.
Every outcome leaves one record for the log.
R157: the oldest record that waits goes to the SCHED_LOG ring, with its PHASE and the next SEQ; with no space it waits.
Completed here: `arm`, `disarm`, `schedLogRecordWrite`. -/
def Obligations.SlotCommandsAndLog : Prop :=
  ((∀ (s : State) (req : Requester) (i : Fin 256), cfgGate s req Reg.SCHED_SLOT_CMD none = .go → slotState s i = 0 →
    let st := if schedOn s = false then 0x0D else if slotValid s i = false then 0x0C else if slotFeature s i = false then 0x05
      else if slotPassed s i = true ∧ slotRuns s i = false then 0x0A else 0
    ∃ t, exec (.arm req i) s = .next t ∧ schedLastOf t req = w32 (i + st * 256 + 65536) ∧
      (if st = 0 then slotState t i = 1 ∧ t.rd Reg.SCHED_ARMED_COUNT = w32 (armedSlots t).length ∧ t.sched.buf = s.sched.buf ∧
         (slotPassed s i = true → i.val ∈ t.sched.late)
       else slotEnded s i st t ∧ (st = 0x0A → noted .schedLate t)) ∧
      regsKept [Reg.SCHED_SLOT_STATUS i, Reg.SCHED_ARMED_COUNT, Reg.SCHED_LOG_DROPPED] s t) ∧
  (∀ (s : State) (req : Requester) (i : Fin 256), cfgGate s req Reg.SCHED_SLOT_CMD none = .go →
    ∃ t, exec (.disarm req i) s = .next t ∧
      (if slotAction s i = 1 then noted .regRefused t ∧ t.sched = s.sched ∧ regsKept [] s t
       else if slotState s i = 1 then slotEnded s i 2 t ∧ schedLastOf t req = w32 (i + 65536)
       else schedLastOf t req = w32 (i + 3 * 256 + 65536) ∧ t.regs = s.regs) ∧
      regsKept [Reg.SCHED_SLOT_STATUS i, Reg.SCHED_ARMED_COUNT, Reg.SCHED_LOG_DROPPED] s t)) ∧
  ((∀ (s : State) (r : SchedRec) (rest : List SchedRec) (q : Nat), s.sched.buf = r :: rest → schedRing s = some q →
    ringFull s q = false →
    ∃ t, exec .schedLogRecordWrite s = .next t ∧ ringPut q (schedBytes r (ringPhase s q) (s.sched.seq + 1)) s t ∧
      t.sched = { s.sched with buf := rest, seq := s.sched.seq + 1 } ∧ t.rd (Reg.RING_PROD q) = s.rd (Reg.RING_PROD q) + 1 ∧
      dataKept [Reg.RING_PROD q, Reg.RING_STATUS q] s t) ∧
  (∀ (s : State) (r : SchedRec) (rest : List SchedRec) (q : Nat), s.sched.buf = r :: rest → schedRing s = some q →
    ringFull s q = true →
    ∃ t, exec .schedLogRecordWrite s = .next t ∧ t.sched = s.sched ∧ t.mem = s.mem ∧ regsKept [Reg.RING_STATUS q] s t))

/-- R149, R151, R152: the next slot in the order of target and number executes at its target: it returns to IDLE with one record, DONE or,
past its target, DONE_LATE, and its action acts. A head's action with another role epoch ends STALE_ROLE and acts on nothing.
R121, R122: a TXN_APPLY slot is the first application point of its transaction: one that still passes the checks and has no head
left to apply is then applied in full, one that fails them is refused INVALID_CONFIG with nothing applied.
Completed here: `headCommit`, `testStart`, `audioStart`, `opticBatch`, `wake`, `gpioEdge`, `txnApply`. -/
def Obligations.SlotsExecute : Prop :=
  ((∀ (s : State) (i : Fin 256) (h : Fin 4), slotTarget s i % 4 = h.val → slotEpoch s i = roleEpoch s (headBase h) →
    let st := if slotLate s i || slotOver s i then 1 else 0
    (slotDue s i 2 = true → ∃ t, exec (.headCommit i) s = .next t ∧ slotEnded s i st t ∧
      t.heads = (commitGo (overrun s i) h).heads ∧ (headState s h = 3 → t.b (Reg.HEAD_COMMIT h) 0 = true)) ∧
    (slotDue s i 6 = true → slotPayload s i < 0x80 → ∃ t, exec (.testStart i) s = .next t ∧ slotEnded s i st t ∧
      t.heads = (putHead s h { headOf s h with
        restart := (headOf s h).restart || bit (slotPayload s i) 0, trigger := (headOf s h).trigger || bit (slotPayload s i) 1 }).heads)) ∧
  (∀ (s : State) (i : Fin 256) (h : Fin 4), slotTarget s i % 4 = h.val → slotEpoch s i ≠ roleEpoch s (headBase h) →
    ∀ c a, (c = Instr.headCommit i ∧ a = 2) ∨ (c = Instr.testStart i ∧ a = 6) → slotDue s i a = true →
    ∃ t, exec c s = .next t ∧ slotEnded s i 4 t ∧ noted .schedStale t ∧ t.heads = s.heads) ∧
  (∀ (s : State) (i : Fin 256), let st := if slotLate s i || slotOver s i then 1 else 0
    (slotDue s i 3 = true → ∃ t, exec (.audioStart i) s = .next t ∧ slotState t i = 0 ∧ t.f (Reg.SCHED_SLOT_STATUS i) 8 4 = st ∧
      t.audio = (startGroup (overrun s i) (slotTarget s i) ((if slotLate s i then s.now else slotTime s i) + 2000)).audio) ∧
    (slotDue s i 4 = true → ∃ t, exec (.opticBatch i) s = .next t ∧ slotState t i = 0 ∧
      (match startBatch (overrun s i) (fld (slotPayload s i) 0 8) with
       | (u, none) => t.opt = u.opt ∧ t.f (Reg.SCHED_SLOT_STATUS i) 8 4 = st
       | (_, some _) => noted .batchRefused t ∧ t.opt = s.opt ∧ t.f (Reg.SCHED_SLOT_STATUS i) 8 4 = 0x0C)) ∧
    (slotDue s i 7 = true → ∃ t, exec (.wake i) s = .next t ∧ slotState t i = 0 ∧ t.f (Reg.SCHED_SLOT_STATUS i) 8 4 = st ∧
      (s.transition = 1 → s.therm.held = none → t.therm.held = some 3)) ∧
    (slotDue s i 5 = true → slotTarget s i < 8 → ∃ t, exec (.gpioEdge i) s = .next t ∧ slotState t i = 0 ∧
      (if trigOut s (slotTarget s i) = true then
         t.b Reg.TIME_AUX_LEVEL (slotTarget s i) = (match fld (slotPayload s i) 0 2 with
           | 0 => false | 1 => true | 2 => !s.b Reg.TIME_AUX_LEVEL (slotTarget s i) | _ => true) ∧
         (fld (slotPayload s i) 0 2 = 3 → pulseOf t (slotTarget s i) = some (s.now + fld (slotPayload s i) 8 24)) ∧
         t.f (Reg.SCHED_SLOT_STATUS i) 8 4 = st
       else t.b Reg.TIME_AUX_LEVEL (slotTarget s i) = s.b Reg.TIME_AUX_LEVEL (slotTarget s i) ∧
         t.f (Reg.SCHED_SLOT_STATUS i) 8 4 = 0x0C)))) ∧
  (∀ (s : State) (i : Fin 256) (k : Fin 4), slotDue s i 1 = true → fld (slotPayload s i) 0 2 = k.val → slotOver s i = false →
    ∃ t, exec (.txnApply i) s = .next t ∧ slotState t i = 0 ∧
      (match badCommit s (armedWrites s k) (txnOf s k).staged with
       | some a => t.f (Reg.SCHED_SLOT_STATUS i) 8 4 = 0x0C ∧ txnState t k = 0 ∧ t.rd (Reg.TXN_TXN_RESULT k) = 0x0C ∧
           t.rd (Reg.TXN_TXN_FAIL_OFFSET k) = w32 a ∧ noted .txnRefused t ∧
           regsKept [Reg.TXN_TXN_STATE k, Reg.TXN_TXN_RESULT k, Reg.TXN_TXN_FAIL_OFFSET k, Reg.SCHED_SLOT_STATUS i,
             Reg.SCHED_ARMED_COUNT, Reg.SCHED_LOG_DROPPED] s t
       | none => (slotLate s i = false → t.f (Reg.SCHED_SLOT_STATUS i) 8 4 = 0) ∧
           ((txnOf s k).headsLeft = [] → txnState t k = 0 ∧ noted .txnApplied t)))

/-! ### The auxiliary connector, the cages and PPS_OUT (R580, R589 to R593) -/

/-- R592: AUX_LEVEL sets every trigger level and cancels pulses, a pulse ends low, and an enabled output drives its level on the pin; the
third read-back in a row that disagrees releases an output; an edge of an input shows in AUX_IN, and where AUX_CAPTURE names it, it is
stamped and counted.
R580, R593: PPS_OUT pulses at the whole seconds of TAI where enabled; a cage that is down powers only -SR4, -LR4 and -CR4 modules of
power class 4 or less; removing a module takes its port down. R161: LINK_STATUS of a link that comes up on an optical or a CR4 module,
and of one that goes down; an Ethernet frame adds its FEC corrections, and one with an FCS error is counted nowhere else.
Completed here: `auxLevelWrite`, `auxCtrlWrite`, `gpioPulseEnd`, `triggerOutputReadback`, `triggerInputEdge`, `ppsOutPulse`,
`qsfpModuleInserted`, `qsfpModuleRemoved`, `linkUp`, `linkDown`, `ethernetFrameReceived`. -/
def Obligations.TriggerPinsAndCages : Prop :=
  ((∀ (s : State) (req : Requester) (v : Word), cfgGate s req Reg.TIME_AUX_LEVEL none = .go →
    ∃ t, exec (.auxLevelWrite req v) s = .next t ∧ (∀ g, g < 8 → t.b Reg.TIME_AUX_LEVEL g = bit v g ∧ pulseOf t g = none ∧
      t.b Reg.TIME_AUX_IN g = (if trigDriven s g then bit v g else s.b Reg.TIME_AUX_IN g)) ∧
      ∀ a, a ∉ [Reg.TIME_AUX_LEVEL, Reg.TIME_AUX_IN] → t.rd a = s.rd a) ∧
  (∀ (s : State) (req : Requester) (v : Word), cfgGate s req Reg.TIME_AUX_CTRL none = .go →
    ∃ t, exec (.auxCtrlWrite req v) s = .next t ∧ t.f Reg.TIME_AUX_CTRL 0 9 = fld v 0 9 ∧
      (∀ g, g < 8 → bit v g = true → trigOut s g = false → trigReleased t g = false ∧ t.b Reg.TIME_AUX_IN g = s.b Reg.TIME_AUX_LEVEL g) ∧
      ∀ a, a ∉ [Reg.TIME_AUX_CTRL, Reg.TIME_AUX_IN] → t.rd a = s.rd a) ∧
  (∀ (s : State) (g : Fin 8) (e : Nat), s.on = true → pulseOf s g = some e → e ≤ s.now →
    ∃ t, exec (.gpioPulseEnd g) s = .next t ∧ t.b Reg.TIME_AUX_LEVEL g = false ∧ pulseOf t g = none ∧
      (trigDriven s g = true → t.b Reg.TIME_AUX_IN g = false) ∧
      ∀ a, a ∉ [Reg.TIME_AUX_LEVEL, Reg.TIME_AUX_IN] → t.rd a = s.rd a) ∧
  (∀ (s : State) (g : Fin 8) (level : Bool), s.on = true → trigDriven s g = true →
    ∃ t, exec (.triggerOutputReadback g level) s = .next t ∧ t.b Reg.TIME_AUX_IN g = level ∧
      trigReleased t g = (decide (level ≠ s.b Reg.TIME_AUX_LEVEL g) && decide (2 ≤ tabGet (fun _ => 0) s.sched.bad g.val)) ∧
      (level = s.b Reg.TIME_AUX_LEVEL g → tabGet (fun _ => 0) t.sched.bad g.val = 0) ∧
      ∀ a, a ≠ Reg.TIME_AUX_IN → t.rd a = s.rd a) ∧
  (∀ (s : State) (g : Fin 8) (up : Bool), s.on = true → trigOut s g = false →
    ∃ t, exec (.triggerInputEdge g up) s = .next t ∧ t.b Reg.TIME_AUX_IN g = up ∧
      (if s.b Reg.TIME_AUX_CAPTURE (if up then g else 8 + g) = true then
         t.rd64 (Reg.TIME_TRIG_STAMP_LO g) (Reg.TIME_TRIG_STAMP_HI g) = s.now ∧
         t.rd (Reg.TIME_TRIG_COUNT g) = satAdd (s.rd (Reg.TIME_TRIG_COUNT g)) 1 0xFFFFFFFF
       else t.rd (Reg.TIME_TRIG_COUNT g) = s.rd (Reg.TIME_TRIG_COUNT g)) ∧
      ∀ a, a ∉ [Reg.TIME_AUX_IN, Reg.TIME_TRIG_STAMP_LO g, Reg.TIME_TRIG_STAMP_HI g, Reg.TIME_TRIG_COUNT g] → t.rd a = s.rd a)) ∧
  ((∀ s : State, s.on = true → s.b Reg.TIME_TIME_CTRL 3 = true → ppsDue s = true →
    exec .ppsOutPulse s = .next { s with out := .pps (s.rdN Reg.TIME_PPS_OUT_WIDTH) :: s.out }) ∧
  (∀ (s : State) (p : Fin 2) (m : QsfpMedia) (c : Nat), s.on = true → linkUp s p = false →
    ∃ t, exec (.qsfpModuleInserted p m c) s = .next t ∧
      t.f (Reg.NET_LINK_STATUS p) 2 2 = (if 4 < c then 0 else match m with | .optical => 1 | .copper => 2 | .other => 0) ∧
      t = { s with regs := t.regs } ∧ ∀ a, a ≠ Reg.NET_LINK_STATUS p → t.rd a = s.rd a) ∧
  (∀ (s : State) (p : Fin 2), s.on = true →
    ∃ t, exec (.qsfpModuleRemoved p) s = .next t ∧ t.f (Reg.NET_LINK_STATUS p) 2 2 = 0 ∧ linkUp t p = false ∧
      (linkUp s p = true → noted (.linkDown p) t)) ∧
  (∀ (s : State) (p : Fin 2), s.on = true → linkUp s p = false → s.powerState ≠ 2 → s.f (Reg.NET_LINK_STATUS p) 2 2 = 1 →
    ∃ t, exec (.linkUp p) s = .next t ∧ t.rd (Reg.NET_LINK_STATUS p) = 7) ∧
  (∀ (s : State) (p : Fin 2), s.on = true → linkUp s p = false → s.powerState ≠ 2 → s.f (Reg.NET_LINK_STATUS p) 2 2 = 2 →
    portCr4 s p = true →
    ∃ t, exec (.linkUp p) s = .next t ∧ t.rd (Reg.NET_LINK_STATUS p) = (if s.b (Reg.NET_PORT_CTRL p) 2 = true then 0x3B else 0x0B)) ∧
  (∀ (s : State) (p : Fin 2), s.on = true → linkUp s p = true →
    ∃ t, exec (.linkDown p) s = .next t ∧ t.rd (Reg.NET_LINK_STATUS p) = w32 (4 * s.f (Reg.NET_LINK_STATUS p) 2 2)) ∧
  (∀ (s : State) (p : Fin 2) (f : EthFrame), s.on = true → linkUp s p = true →
    ∃ t, exec (.ethernetFrameReceived p f) s = .next t ∧
      t.rd64 (Reg.NET_FEC_CORR_LO p) (Reg.NET_FEC_CORR_HI p) =
        (s.rd64 (Reg.NET_FEC_CORR_LO p) (Reg.NET_FEC_CORR_HI p) + f.fecCorrected) % 2 ^ 64 ∧
      (f.fcsOk = false → t.rd64 (Reg.NET_RX_FRAMES_LO p) (Reg.NET_RX_FRAMES_HI p) = s.rd64 (Reg.NET_RX_FRAMES_LO p) (Reg.NET_RX_FRAMES_HI p) ∧
        t.rd (Reg.NET_NOT_PST p) = s.rd (Reg.NET_NOT_PST p))))

/-! ### Ethernet ports and flows (R159 to R170) -/

/-- R161: the link of a port whose cage holds a module comes up with LINK_UP, and goes down with LINK_DOWN, the module field kept; a frame
on an up link is counted by its FCS, and one the port does not support is discarded.
R160, R167, R168, R170: the port answers address requests for its own addresses and reports its multicast groups (when a write leaves the
entry non-zero: the model's choice, log entry 38); activating a flow clears its counters; a packet that matches a flow goes to a pool
slot and its 40-byte entry to the flow's ring, one that does not is counted and reported.
Completed here: `linkUp`, `linkDown`, `ethernetFrameReceived`, `arpRequest`, `multicastEntryWrite`, `flowActivate`, `pstPacketReceived`. -/
def Obligations.PortsAndFlows : Prop :=
  ((∀ (s : State) (p : Fin 2), s.on = true → linkUp s p = false → s.f (Reg.NET_LINK_STATUS p) 2 2 ≠ 0 →
    (s.powerState ≠ 2 ∨ standbyPort s p = true) →
    ∃ t, exec (.linkUp p) s = .next t ∧ linkUp t p = true ∧ t.rd (Reg.NET_LINK_STATUS p) = linkUpWord s p ∧
      t.f (Reg.NET_LINK_STATUS p) 2 2 = s.f (Reg.NET_LINK_STATUS p) 2 2 ∧
      noted (.linkUp p) t ∧ regsKept [Reg.NET_LINK_STATUS p] s t ∧ ∀ q, q ∉ byRouter → samePart q s t) ∧
  (∀ (s : State) (p : Fin 2), s.on = true → linkUp s p = true →
    ∃ t, exec (.linkDown p) s = .next t ∧ linkUp t p = false ∧ t.f (Reg.NET_LINK_STATUS p) 2 2 = s.f (Reg.NET_LINK_STATUS p) 2 2 ∧
      noted (.linkDown p) t ∧ regsKept [Reg.NET_LINK_STATUS p] s t ∧ ∀ q, q ∉ .power :: byRouter → samePart q s t) ∧
  (∀ (s : State) (p : Fin 2) (f : EthFrame), s.on = true → linkUp s p = true →
    ∃ t, exec (.ethernetFrameReceived p f) s = .next t ∧
      (if f.fcsOk = true then
         t.rd64 (Reg.NET_RX_FRAMES_LO p) (Reg.NET_RX_FRAMES_HI p) =
           (s.rd64 (Reg.NET_RX_FRAMES_LO p) (Reg.NET_RX_FRAMES_HI p) + 1) % 2 ^ 64 ∧ t.rd (Reg.NET_BAD_FCS p) = s.rd (Reg.NET_BAD_FCS p) ∧
         t.rd (Reg.NET_NOT_PST p) = (if frameDiscarded s p f = true then satAdd (s.rd (Reg.NET_NOT_PST p)) 1 0xFFFFFFFF
           else s.rd (Reg.NET_NOT_PST p))
       else t.rd (Reg.NET_BAD_FCS p) = satAdd (s.rd (Reg.NET_BAD_FCS p)) 1 0xFFFFFFFF) ∧
      (f.fecUncorrected ≠ 0 → noted (.fecUncorrected p) t) ∧
      dataKept [Reg.NET_RX_FRAMES_LO p, Reg.NET_RX_FRAMES_HI p, Reg.NET_BAD_FCS p, Reg.NET_NOT_PST p, Reg.NET_FEC_CORR_LO p,
        Reg.NET_FEC_CORR_HI p, Reg.NET_FEC_UNCORR p] s t ∧
      t.rd (Reg.NET_FEC_UNCORR p) = satAdd (s.rd (Reg.NET_FEC_UNCORR p)) f.fecUncorrected 0xFFFFFFFF ∧
      ∀ q, q ∉ .perf :: byRouter → samePart q s t)) ∧
  ((∀ (s : State) (p : Fin 2) (x : BitVec 128), s.on = true → linkUp s p = true → s.powerState ≠ 2 →
    s.b (Reg.NET_PORT_CTRL p) 4 = true → s.rd (Reg.NET_IPV4_ADDR p) ≠ 0 → x.toNat = mapped4 (s.rd (Reg.NET_IPV4_ADDR p)) →
    exec (.arpRequest p false x) s = .next { s with out := .arpReply p.val false :: s.out }) ∧
  (∀ (s : State) (p : Fin 2) (x : BitVec 128), s.on = true → linkUp s p = true → s.powerState ≠ 2 →
    s.b (Reg.NET_PORT_CTRL p) 4 = true → s.b (Reg.NET_PORT_CTRL p) 3 = true → x.toNat = addr128 s (Reg.NET_IPV6_ADDR p 0) →
    exec (.arpRequest p true x) s = .next { s with out := .arpReply p.val true :: s.out }) ∧
  (∀ (s : State) (req : Requester) (p : Fin 2) (m : Fin 64) (w : Fin 4) (v : Word),
    cfgGate s req (Reg.NET_MCAST p m + 4 * w) none = .go →
    ∃ t, exec (.multicastEntryWrite req p m w v) s = .next t ∧ t.rd (Reg.NET_MCAST p m + 4 * w) = v ∧
      (∀ a, a ≠ Reg.NET_MCAST p m + 4 * w → t.rd a = s.rd a) ∧ (∀ q, q ∉ [.regs, .out] → samePart q s t) ∧
      t.out = (if addr128 t (Reg.NET_MCAST p m) = 0 then s.out else .membership p.val m.val :: s.out)) ∧
  (∀ (s : State) (req : Requester) (i : Fin 8192) (v : Word), cfgGate s req (Reg.FLOW_FLOW_CTRL i) none = .go → bit v 0 = true →
    s.b (Reg.FLOW_FLOW_CTRL i) 0 = false →
    ∃ t, exec (.flowActivate req i v) s = .next t ∧
      (if flowActivateOk s i (v &&& 0x000F071F) = true then
         t.rd (Reg.FLOW_FLOW_CTRL i) = v &&& 0x000F071F ∧ t.rd (Reg.FLOW_ACCEPTED i) = 0 ∧ t.rd (Reg.FLOW_DUPLICATES i) = 0 ∧
         t.rd (Reg.FLOW_LATE i) = 0 ∧ flowOf t i = { FlowSt.fresh with act := s.now } ∧ ∀ q, q ∉ [.regs, .ing] → samePart q s t
       else noted .regRefused t ∧ t.rd (Reg.FLOW_FLOW_CTRL i) = s.rd (Reg.FLOW_FLOW_CTRL i))) ∧
  (∀ (s : State) (p : Fin 2) (vlan : Option (BitVec 12)) (src : Word) (dst : BitVec 128) (udp : BitVec 16) (l : List Byte) (k : Nat),
    s.on = true → linkUp s p = true → udp.toNat = s.f (Reg.NET_PST_UDP_PORT p) 0 16 →
    pstFrameLen vlan.isSome dst.toNat l.length ≤ s.rdN (Reg.NET_MAX_FRAME p) →
    (ownAddr s p dst.toNat || mcastAddr s p dst.toNat) = true → s.powerState ≠ 2 → enabled s (netBase p) = true →
    s.rd Reg.INGEST_POOL_SIZE ≠ 0 → 32 ≤ l.length →
    let i := (pstHdr l).sid % 8192
    let r := s.f (Reg.FLOW_FLOW_TARGET i) 0 13
    flowAdmits s i p (pstHdr l).sid = true → flowSource s i vlan src = true → freeSlots s 1 = some [k] → ringEnabled s r = true →
    ringType s r = 1 → ringFull s r = false →
    ∃ t, exec (.pstPacketReceived p vlan src dst udp l) s = .next t ∧
      t.ing.slots = s.ing.slots ++ [k] ∧ t.ing.rx = s.ing.rx ++ [⟨r, s.rd (Reg.RING_PROD r), [k], p, l.length⟩] ∧
      t.rd (Reg.RING_PROD r) = s.rd (Reg.RING_PROD r) + 1 ∧
      bytesPut2 (slotAddr s k) l (ringHost s r) (entryAddr s r (s.rd (Reg.RING_PROD r))) (pushBytes s r (rxEntryBytes l k p s.ns32)) s t ∧
      dataKept [Reg.RING_PROD r, Reg.RING_STATUS r] s t) ∧
  (∀ (s : State) (p : Fin 2) (vlan : Option (BitVec 12)) (src : Word) (dst : BitVec 128) (udp : BitVec 16) (l : List Byte),
    s.on = true → linkUp s p = true → udp.toNat = s.f (Reg.NET_PST_UDP_PORT p) 0 16 →
    pstFrameLen vlan.isSome dst.toNat l.length ≤ s.rdN (Reg.NET_MAX_FRAME p) →
    (ownAddr s p dst.toNat || mcastAddr s p dst.toNat) = true → s.powerState ≠ 2 → enabled s (netBase p) = true →
    s.rd Reg.INGEST_POOL_SIZE ≠ 0 → 32 ≤ l.length →
    let i := (pstHdr l).sid % 8192
    ¬(flowAdmits s i p (pstHdr l).sid = true ∧ flowSource s i vlan src = true) →
    ∃ t, exec (.pstPacketReceived p vlan src dst udp l) s = .next t ∧
      noted .noFlow t ∧ t.rd Reg.INGEST_NO_FLOW_COUNT = satAdd (s.rd Reg.INGEST_NO_FLOW_COUNT) 1 0xFFFFFFFF ∧
      regsKept [Reg.INGEST_NO_FLOW_COUNT] s t ∧ ∀ q, q ∉ byRouter → samePart q s t))

/-! ### INGEST and the decode cluster (R171 to R188, R220 to R228) -/

/-- R171, R172, R173: INGEST takes the entry at CONS and the packet it names, and, where its page is available, counts what the packet turns
out to be at its flow or as malformed, and reports the path of a DUP flow that has delivered nothing for PATH_TIMEOUT while the other
delivers.
R183, R184: at D assembly closes: a frame without a usable descriptor is refused, any other has its missing tiles concealed and is
reported; when its tiles are all decoded it is READY, the reference of its store, and its outcome is known.
R160, R167, R168, R170: what reaches INGEST is what the port's addresses, its multicast groups and the flow's entry admit, and a packet
that finds no free pool slot is discarded and counted. In which order a packet is checked is the model's choice (log entry 38).
Completed here: `sceneRxEntryAccept`, `pathLost`, `assemblyClose`, `frameReady`, `arpRequest`, `multicastEntryWrite`, `flowActivate`,
`pstPacketReceived`. -/
def Obligations.ScenePacketsAndFrames : Prop :=
  ((∀ (s : State) (r : Fin 8192) (x : RxEntry), s.on = true → ringType s r = 1 → canAccept s r = true →
    s.ing.rx.find? (fun y => decide (y.ring = r.val ∧ y.index = s.rd (Reg.RING_CONS r))) = some x →
    let p := slotPieces s x.slots 0 x.len
    let b := pieceBytes s p
    let i := (pstHdr b).sid % 8192
    ∃ t, exec (.sceneRxEntryAccept r) s = .next t ∧ t.rd (Reg.RING_CONS r) = s.rd (Reg.RING_CONS r) + 1 ∧
      (∀ y ∈ t.ing.rx, ¬(y.ring = r.val ∧ y.index = s.rd (Reg.RING_CONS r))) ∧
      (ownerGone s r = true → t.ing.flows = s.ing.flows ∧ t.ing.stores = s.ing.stores) ∧
      (ringHost s r = true ∨ rangeBad s (entryAddr s r (s.rd (Reg.RING_CONS r))) (ringEsize s r) = false → ownerGone s r = false →
        (pieceBad s p = true →
          t.rd Reg.INGEST_MEDIA_COUNT = satAdd (s.rd Reg.INGEST_MEDIA_COUNT) 1 0xFFFFFFFF) ∧
        (pieceBad s p = false → pstBad b b.length = true →
          t.rd Reg.INGEST_BAD_PST_COUNT = satAdd (s.rd Reg.INGEST_BAD_PST_COUNT) 1 0xFFFFFFFF ∧ noted .badPst t) ∧
        (pieceBad s p = false → pstBad b b.length = false → flowAdmits s i x.port (pstHdr b).sid = true →
          s.b (Reg.FLOW_FLOW_CTRL i) 4 = false → (pstHdr b).ptype = 4 →
          s.f (Reg.FLOW_FLOW_TARGET i) 16 16 = s.f (Reg.INGEST_STORE_EPOCH (flowStore s i)) 0 16 →
          t.rd (Reg.FLOW_ACCEPTED i) = satAdd (s.rd (Reg.FLOW_ACCEPTED i)) 1 0xFFFFFFFF))) ∧
  (∀ (s : State) (i : Fin 8192) (p : Fin 2), s.on = true → s.b (Reg.FLOW_FLOW_CTRL i) 0 = true → s.b (Reg.FLOW_FLOW_CTRL i) 4 = true →
    s.b (Reg.FLOW_PATH_STALE i) (16 + p) = true →
    let f := flowOf s i
    let w := s.f Reg.INGEST_DUP_CTRL 0 16 * 1000000
    (if p = 0 then f.last0 else f.last1).getD f.act + w ≤ s.now →
    (∃ o, (if p = 0 then f.last1 else f.last0) = some o ∧ s.now < o + w) →
    ∃ t, exec (.pathLost i p) s = .next t ∧ t.b (Reg.FLOW_PATH_STALE i) (16 + p) = false ∧ noted .pathLost t ∧ noted .spareLow t ∧
      regsKept [Reg.FLOW_PATH_STALE i] s t)) ∧
  ((∀ (s : State) (n : Fin 16) (num : Word) (f : Asm), s.on = true → findAsm (storeOf s n) num = some f → f.closed = false → f.d ≤ s.now →
    ∃ t, exec (.assemblyClose n num) s = .next t ∧
      (∀ why, (f.desc = none ∧ why = 6) ∨ (∃ d, f.desc = some d ∧ descFits s n d = false ∧ why = 7) →
        findAsm (storeOf t n) num = none ∧ findPast (storeOf t n) num = some ⟨num, f.sec, f.ns, 1, why, 0⟩ ∧
        t.rd (Reg.INGEST_REFUSED n) = satAdd (s.rd (Reg.INGEST_REFUSED n)) 1 0xFFFFFFFF ∧ noted .frameRefused t) ∧
      (∀ d hd, f.desc = some d → descFits s n d = true → f.hdr = some hd →
        (findAsm (storeOf t n) num).map (fun g => (g.closed, g.concealed)) = some (true, (concealedAtD s f hd.tileCount).length) ∧
        (concealedAtD s f hd.tileCount ≠ [] → noted .frameConcealed t ∧
          t.rd (Reg.INGEST_CONCEALED n) = satAdd (s.rd (Reg.INGEST_CONCEALED n)) 1 0xFFFFFFFF))) ∧
  (∀ (s : State) (n : Fin 16) (num : Word) (f : Asm), findAsm (storeOf s n) num = some f → asmDone f = true →
    ∃ t, exec (.frameReady n num) s = .next t ∧ findAsm (storeOf t n) num = none ∧
      (storeOf t n).ref = some ⟨n, num, f.p, f.buf, f.desc.getD [], f.hdr, f.concealed⟩ ∧
      findPast (storeOf t n) num = some ⟨num, f.sec, f.ns, 0, f.concealed, s.ns32⟩ ∧
      t.rd (Reg.INGEST_CUR_FRAME n) = num ∧ t.b (Reg.INGEST_STORE_STATUS n) 8 = false ∧ (∀ k ∈ f.slots, k ∉ t.ing.slots))) ∧
  ((∀ (s : State) (p : Fin 2) (v6 : Bool) (x : BitVec 128), s.on = true → linkUp s p = true → s.powerState ≠ 2 →
    ∃ t, exec (.arpRequest p v6 x) s = .next t ∧ t = { s with out := t.out } ∧
      t.out = (if s.b (Reg.NET_PORT_CTRL p) 4 = true ∧ ((v6 = true ∧ s.b (Reg.NET_PORT_CTRL p) 3 = true ∧ x.toNat = addr128 s (Reg.NET_IPV6_ADDR p 0)) ∨
        (v6 = false ∧ s.rd (Reg.NET_IPV4_ADDR p) ≠ 0 ∧ x.toNat = mapped4 (s.rd (Reg.NET_IPV4_ADDR p))))
      then .arpReply p.val v6 :: s.out else s.out)) ∧
  (∀ (s : State) (req : Requester) (p : Fin 2) (m : Fin 64) (w : Fin 4) (v : Word),
    cfgGate s req (Reg.NET_MCAST p m + 4 * w) none = .go →
    ∃ t, exec (.multicastEntryWrite req p m w v) s = .next t ∧
      (addr128 t (Reg.NET_MCAST p m) ≠ 0 → mcastAddr t p (addr128 t (Reg.NET_MCAST p m)) = true) ∧
      ∀ n : Fin 64, n ≠ m → addr128 t (Reg.NET_MCAST p n) = addr128 s (Reg.NET_MCAST p n)) ∧
  (∀ (s : State) (req : Requester) (i : Fin 8192) (v : Word), cfgGate s req (Reg.FLOW_FLOW_CTRL i) none = .go → bit v 0 = true →
    s.b (Reg.FLOW_FLOW_CTRL i) 0 = false → flowActivateOk s i (v &&& 0x000F071F) = true →
    ∃ t, exec (.flowActivate req i v) s = .next t ∧ flowStore t i = fld v 16 4 ∧
      (∀ path : Fin 3, flowAdmits t i path (fld v 8 3 * 8192 + i) = (bit v (1 + path) && flowOwnsStore t i)) ∧
      ∀ j : Fin 8192, j ≠ i → flowStore t j = flowStore s j ∧ flowOf t j = flowOf s j) ∧
  (∀ (s : State) (p : Fin 2) (vlan : Option (BitVec 12)) (src : Word) (dst : BitVec 128) (udp : BitVec 16) (l : List Byte),
    s.on = true → linkUp s p = true → udp.toNat = s.f (Reg.NET_PST_UDP_PORT p) 0 16 →
    pstFrameLen vlan.isSome dst.toNat l.length ≤ s.rdN (Reg.NET_MAX_FRAME p) →
    (ownAddr s p dst.toNat || mcastAddr s p dst.toNat) = true → s.powerState ≠ 2 → enabled s (netBase p) = true →
    s.rd Reg.INGEST_POOL_SIZE ≠ 0 → 32 ≤ l.length →
    let i := (pstHdr l).sid % 8192
    flowAdmits s i p (pstHdr l).sid = true → flowSource s i vlan src = true → freeSlots s 1 = none →
    ∃ t, exec (.pstPacketReceived p vlan src dst udp l) s = .next t ∧ noted (.rxPoolExhausted p) t ∧
      t.rd (Reg.NET_RX_RING_FULL p) = satAdd (s.rd (Reg.NET_RX_RING_FULL p)) 1 0xFFFFFFFF ∧ regsKept [Reg.NET_RX_RING_FULL p] s t ∧
      ∀ q, q ∉ byRouter → samePart q s t))

/-! ### Ray maps (R254 to R266) -/

/-- R221 to R225, R227: the end of a tile's decode counts the tile or its error and frees its lane; LOAD is formed over the last second,
with an event above 85 % until it falls below 80 %; a core that fails its test is retired and its lanes take no more tiles.
R265: LOAD takes an EMPTY or FAILED bank that is not in use to LOADING; the checks end it VALID, with CAL_ID and MAP_LOADED, or FAILED
with the code and detail of the first failing check and MAP_REFUSED. The order in which an image is checked, and that its checks are
made at the end of the load, is the model's reading (log entry 31).
Completed here: `tileDecodeComplete`, `decodeLoadUpdate`, `decodeSelftest`, `mapCmdLoad`, `mapLoadComplete`. -/
def Obligations.DecodeClusterAndMapBanks : Prop :=
  ((∀ (s : State) (n : Fin 16) (num : Word) (i : Nat) (f : Asm) (hd : FrameHdr) (p : Pieces), findAsm (storeOf s n) num = some f →
    tileOf f i = .lane p → f.hdr = some hd →
    ∃ t, exec (.tileDecodeComplete n num i) s = .next t ∧ (∀ x ∈ t.ing.lanes, x.2 ≠ (n.val, num, i)) ∧
      (pieceBad s p = true → t.rd Reg.CODEC_TILE_ERRORS = satAdd (s.rd Reg.CODEC_TILE_ERRORS) 1 0xFFFFFFFF ∧
        (s.on = true → f.erred = false → noted .sceneStreamError t)) ∧
      (∀ v, pieceBad s p = false →
        decodeTile (sceneNeeds s) hd i true (sceneRef s n hd).isSome (sceneRefs s n f hd) (pieceBytes s p) = .ok v →
        sceneRefsBad s n f hd i (pieceBytes s p) = false →
        t.rd64 Reg.CODEC_TILES_LO Reg.CODEC_TILES_HI = (s.rd64 Reg.CODEC_TILES_LO Reg.CODEC_TILES_HI + 1) % 2 ^ 48 ∧
        t.rd Reg.CODEC_TILE_ERRORS = s.rd Reg.CODEC_TILE_ERRORS)) ∧
  (∀ s : State, s.on = true →
    let load := min 2047 (((recentLoads s).map (·.2)).foldl (· + ·) 0 * 1000 / 204800000000)
    ∃ t, exec .decodeLoadUpdate s = .next t ∧ t.rd Reg.CODEC_LOAD = w32 load ∧
      t.ing.loadHigh = (decide (850 < load) || (s.ing.loadHigh && decide (800 ≤ load))) ∧
      (850 < load → s.ing.loadHigh = false → noted .decodeLoadHigh t) ∧ regsKept [Reg.CODEC_LOAD] s t) ∧
  (∀ (s : State) (c : Fin 32), s.on = true → s.b Reg.CODEC_SELFTEST_CTRL 0 = true → s.b Reg.CODEC_CORE_MASK c = true →
    exec (.decodeSelftest c true) s = .next s ∧
    ∃ t, exec (.decodeSelftest c false) s = .next t ∧ t.b Reg.CODEC_CORE_MASK c = false ∧ noted .coreRetired t ∧
      (∀ x ∈ t.ing.lanes, x.1 / 4 ≠ c.val) ∧ regsKept [Reg.CODEC_CORE_MASK] s t)) ∧
  ((∀ (s : State) (req : Requester) (h : Fin 4) (b : Fin 2), cfgGate s req (Reg.RGU_MAP_CMD h) none = .go →
    ∃ t, exec (.mapCmdLoad req h b) s = .next t ∧
      (if (bankState s h b = 0 ∨ bankState s h b = 3) ∧ s.b (Reg.RGU_BANK_STATUS h b) 2 = false
       then t.rd (Reg.RGU_BANK_STATUS h b) = 1 ∧ t = { s with regs := t.regs } ∧ ∀ a, a ≠ Reg.RGU_BANK_STATUS h b → t.rd a = s.rd a
       else noted .regRefused t ∧ regsKept [] s t)) ∧
  (∀ (s : State) (h : Fin 4) (b : Fin 2), s.on = true → bankState s h b = 1 →
    ∃ t, exec (.mapLoadComplete h b) s = .next t ∧
      (match loadCheck s h b with
       | some (e, d) => t.rd (Reg.RGU_BANK_STATUS h b) = w32 (3 + e * 256) ∧ t.rd (Reg.RGU_ERR_DETAIL h b) = d ∧ noted (.mapRefused h) t
       | none => bankState t h b = 2 ∧ t.rd (Reg.RGU_CAL_ID h b) = (bankHdr s h b).cal ∧ noted (.mapLoaded h) t) ∧
      dataKept [Reg.RGU_BANK_STATUS h b, Reg.RGU_ERR_DETAIL h b, Reg.RGU_CAL_ID h b] s t))

/-! ### Heads (R334 to R361) -/

/-- R110, R335, R338, R384: an enable that passes the checks starts a TRANSMIT head on its schedule, DISABLED to STARTING; any other enable
of a disabled head is refused. A disable takes the head to STOPPING, and its generator stops at once while STARTING or, under ABORT,
when it sends no line.
R336, R342, R346, R357: a latch fixes the next field, with a picture if the head is ACTIVE; the field start sends it, shows its number
and its start time and settles the balance ledger of the field that ended; a STOPPING head stops there. Which lanes count as
configured, what FIELD reads before the first field, and that a STARTING head whose schedule changed joins anew instead of taking its
first latch, is the model's reading (log entry 30).
Completed here: `headEnable`, `headDisable`, `latchPoint`, `fieldStart`. -/
def Obligations.HeadsStartLatchAndStop : Prop :=
  ((∀ (s : State) (req : Requester) (h : Fin 4), cfgGate s req (Reg.PAGE_CTRL (headBase h)) none = .go → enabled s (headBase h) = false →
    ∃ t, exec (.headEnable req h) s = .next t ∧
      (if quiesced s (headBase h) = true ∧ enableRefused s h = false then
         enabled t (headBase h) = true ∧ quiesced t (headBase h) = false ∧
         (roleCode s (headBase h) = 2 → headState t h = 1 ∨ headState t h = 2) ∧
         (roleCode s (headBase h) = 1 → headState t h = 1 ∧ (headOf t h).latched = false ∧ (headOf t h).cur.produced = false ∧
           (groupRunning s h = [] → (headOf t h).num = s.f (Reg.HEAD_FIELD_TIMING h) 0 20 ∧
             (headOf t h).den = s.f (Reg.HEAD_FIELD_TIMING h) 20 12 ∧ (headOf t h).e = 0))
       else noted .regRefused t ∧ regsKept [] s t)) ∧
  (∀ (s : State) (req : Requester) (h : Fin 4) (abort : Bool), cfgGate s req (Reg.PAGE_CTRL (headBase h)) none = .go →
    enabled s (headBase h) = true →
    ∃ t, exec (.headDisable req h abort) s = .next t ∧ enabled t (headBase h) = false ∧ t.b (Reg.PAGE_CTRL (headBase h)) 1 = abort ∧
      headState t h = 4 ∧
      (if headState s h = 1 ∨ roleCode s (headBase h) ≠ 1 ∨ (abort = true ∧ (headOf s h).line = none) then
         (headOf t h).run = false ∧ t.rd (Reg.RGU_ACTIVE_MAP h) = 3
       else (headOf t h).abort = abort ∧ (headOf t h).run = (headOf s h).run ∧ (headOf t h).nxt.produced = false ∧
         (abort = false →
           headOf t h = { headOf s h with abort := false, nxt := { (headOf s h).nxt with produced := false } } ∧
           ∀ a, a ≠ Reg.PAGE_CTRL (headBase h) → a ≠ Reg.HEAD_HEAD_STATUS h → t.rd a = s.rd a)))) ∧
  ((∀ (s : State) (h : Fin 4), latchDue s h = true → headState s h = 1 → joinStale s h = true →
    ∃ t, exec (.latchPoint h) s = .next t ∧ (headOf t h).latched = false ∧ headState t h = 1 ∧ joinStale t h = false) ∧
  (∀ (s : State) (h : Fin 4), latchDue s h = true → (headState s h = 1 → joinStale s h = false) →
    ∃ t, exec (.latchPoint h) s = .next t ∧ (headOf t h).latched = true ∧ (headOf t h).nxt.num = (headOf s h).cur.num + 1 ∧
      (headOf t h).cur = (headOf s h).cur ∧
      (headState s h = 1 → (headOf t h).run = true ∧ (headState t h = 2 ∨ headState t h = 3)) ∧
      (headState s h ≠ 1 → (headOf t h).nxt.produced = decide (headState s h = 3) ∧ headState t h = headState s h)) ∧
  (∀ (s : State) (h : Fin 4), fieldDue s h = true →
    ∃ t, exec (.fieldStart h) s = .next t ∧
      ((headOf s h).sending = true → (headOf s h).cur.f (Reg.OUT_POL_CTRL h) 0 2 ≠ 0 → headState s h ≠ 0 ∨ s.transition ≠ 1 →
        t.rd64 (Reg.OUT_LEDGER_LO h) (Reg.OUT_LEDGER_HI h) =
          u64 (ledger s h + polSign (headOf s h).cur.pol (nextFieldStart s h - (headOf s h).started))) ∧
      (s.transition ≠ 1 → headState s h ≠ 4 →
        (headOf t h).cur.cfg = (headOf s h).nxt.cfg ∧ (headOf t h).cur.produced = (headOf s h).nxt.produced ∧
        (headOf t h).cur.pol = (headOf s h).nxt.pol ∧ (headOf t h).cur.bank = (headOf s h).nxt.bank ∧
        (headOf t h).latched = false ∧ (headOf t h).sending = true ∧ t.rd (Reg.HEAD_FIELD h) = (headOf t h).cur.num ∧
        ((headOf s h).nxt.f (Reg.HEAD_TIMING_CTRL h) 4 2 = (headOf s h).group → (headOf t h).cur.num = (headOf s h).nxt.num) ∧
        t.rd64 (Reg.HEAD_FIELD_START_LO h) (Reg.HEAD_FIELD_START_HI h) = u64 (nextFieldStart s h)) ∧
      (headState s h = 4 → (headOf t h).run = false ∧ t.rd (Reg.HEAD_TOLERANCE h) = 0xFFFFFFFF) ∧
      (s.transition = 1 → headState s h ≠ 0 → (headOf t h).run = false)))

/-- R320, R321, R323, R343, R347: COMMIT.GO waits for the next latch of a head that runs, and on a DISABLED head puts every shadow into
effect at once, or none; a replaced buffer that is no longer fetched is released with its descriptor and counted; E reaching 0 locks.
R354, R358: a LUT entry takes its value in the bank that is not in use, and the half of a bank in use is ignored, counted and reported;
LEDGER_CLEAR sets the ledger to 0. That COMMIT_FIELD reads 0xFFFF_FFFF while the head is STOPPING is the model's reading (log entry
30).
Completed here: `commitGo`, `bufferRelease`, `phaseLockReached`, `lutEntryWrite`, `ledgerClear`. -/
def Obligations.CommitsReleasesAndLuts : Prop :=
  ((∀ (s : State) (req : Requester) (h : Fin 4), cfgGate s req (Reg.HEAD_COMMIT h) none = .go →
    ∃ t, exec (.commitGo req h) s = .next t ∧
      (headState s h ≠ 0 → s.b (Reg.HEAD_COMMIT h) 0 = false → t.b (Reg.HEAD_COMMIT h) 0 = true ∧
        t.rd (Reg.HEAD_COMMIT_FIELD h) = (if headState s h = 3 then nextLatchField s h else 0xFFFFFFFF) ∧ t.heads = s.heads ∧
        t.eff = s.eff ∧ ∀ a, a ≠ Reg.HEAD_COMMIT h → a ≠ Reg.HEAD_COMMIT_FIELD h → t.rd a = s.rd a) ∧
      (headState s h ≠ 0 → s.b (Reg.HEAD_COMMIT h) 0 = true → t = s) ∧
      (headState s h = 0 → match commitBad (s.setB (Reg.HEAD_COMMIT h) 0 false) h with
        | none => ∀ a, isRws a = true → ofHead h a = true → t.inEff a = s.rd a
        | some _ => noted (.layerCommitRefused h) t ∧ t.eff = s.eff)) ∧
  (∀ (s : State) (h : Fin 4) (k : Fin 8) (r : Release), s.on = true → (headOf s h).releases.find? (fun r => decide (r.layer = k.val)) = some r →
    releaseDue s h r = true →
    ∃ t, exec (.bufferRelease h k) s = .next t ∧ (headOf t h).releases = (headOf s h).releases.erase r ∧
      t.rd (Reg.LAYER_REL_DESC_LO h k) = r.descLo ∧ t.rd (Reg.LAYER_REL_DESC_HI h k) = r.descHi ∧
      t.rd (Reg.LAYER_REL_GUARD h k) = r.guard_ ∧ t.rd (Reg.LAYER_REL_FIELD h k) = r.field ∧
      t.rd (Reg.LAYER_REL_COUNT h k) = s.rd (Reg.LAYER_REL_COUNT h k) + 1 ∧ noted (.layerReleased h) t ∧
      regsKept [Reg.LAYER_REL_DESC_LO h k, Reg.LAYER_REL_DESC_HI h k, Reg.LAYER_REL_GUARD h k, Reg.LAYER_REL_FIELD h k,
        Reg.LAYER_REL_COUNT h k, Reg.MAINT_BOOT_STATUS] s t) ∧
  (∀ (s : State) (g h : Fin 4), s.on = true → (headOf s h).group = g.val → timeLocked s h = true → (headOf s h).e ≠ 0 → headE s h = 0 →
    ∃ t, exec (.phaseLockReached g) s = .next t ∧ (headOf t h).e = 0 ∧ t.b (Reg.HEAD_HEAD_STATUS h) 3 = true ∧
      t.b (Reg.HEAD_HEAD_STATUS h) 4 = false ∧ noted (.phaseLocked h) t)) ∧
  ((∀ (s : State) (req : Requester) (h : Fin 4) (c : Fin 3) (i : Fin 4096) (v : Word),
    let a := Reg.LUT h + (c * 4096 + i) * 4
    cfgGate s req a none = .go →
    ∃ t, exec (.lutEntryWrite req h c i v) s = .next t ∧
      t.f a 0 12 = (if lutInUse s h 0 = true then s.f a 0 12 else fld v 0 12) ∧
      t.f a 16 12 = (if lutInUse s h 1 = true then s.f a 16 12 else fld v 16 12) ∧
      (if lutInUse s h 0 = true ∨ lutInUse s h 1 = true then
         noted (.lutWriteIgnored h) t ∧ t.rd (Reg.OUT_LUT_IGNORED h) = satAdd (s.rd (Reg.OUT_LUT_IGNORED h)) 1 0xFFFFFFFF
       else t.rd (Reg.OUT_LUT_IGNORED h) = s.rd (Reg.OUT_LUT_IGNORED h)) ∧
      regsKept [a, Reg.OUT_LUT_IGNORED h] s t) ∧
  (∀ (s : State) (req : Requester) (h : Fin 4) (v : Word), cfgGate s req (Reg.OUT_LEDGER_CLEAR h) none = .go →
    ∃ t, exec (.ledgerClear req h v) s = .next t ∧ ledger t h = (if bit v 0 then 0 else ledger s h) ∧ t = { s with regs := t.regs } ∧
      ∀ a, a ≠ Reg.OUT_LEDGER_LO h → a ≠ Reg.OUT_LEDGER_HI h → t.rd a = s.rd a))

/-- R269, R295, R304, R317, R318: reads for the field in production, from two lines after its latch on: a layer's descriptor is taken or
eclipses the layer with the cause of the check that fails; a changed guard eclipses it from its band on, before its data is read;
unreadable data likewise; a map block is fetched once, in error or not, after the header block of the frame; a line fill installs the
line with its bytes, or fails it for the field that asked and is counted. In which order the decoder takes the block rows, and that
an unreadable descriptor eclipses with cause MEDIA, is the model's reading (log entry 31).
Completed here: `layerDescriptorRead`, `guardRead`, `layerDataRead`, `rayMapBlockFetch`, `cacheFillReturn`. -/
def Obligations.ProductionReads : Prop :=
  (∀ (s : State) (h : Fin 4) (k : Fin 8), let F := prodField s h
    headProduces s h = true → F.fetchAt ≤ (s.now : Int) → layerFetched F h k = true → eclipsedIn F k = false → descRead F k = false →
    let a := layerDesc F h k
    let c := descCause s (decide (layerSrc F h k = .compressed)) a
    ∃ t, exec (.layerDescriptorRead h k) s = .next t ∧
      (if c = 0 then prodField t h = { F with descs := tabSet (fun _ => none) F.descs k.val (some (layerBuf (hbmBytes s a 64))) }
       else (s.on = true → eclipsed s h k 0 c t))) ∧
  (∀ (s : State) (h : Fin 4) (k : Fin 8) (band : Nat), let F := prodField s h
    s.on = true → headProduces s h = true → F.fetchAt ≤ (s.now : Int) → layerFetched F h k = true → eclipsedIn F k = false →
    F.guards.contains (k.val, band) = false → coversBand s F h k band = true → 64 * band < F.vActive h →
    let a := layerDesc F h k + 24
    ∃ t, exec (.guardRead h k band) s = .next t ∧
      (if rangeBad s a 4 = true then eclipsed s h k (64 * band) 3 t
       else if w32 (leNat (hbmBytes s a 4)) = F.c (Reg.LAYER_GUARD h k) then prodField t h = { F with guards := (k.val, band) :: F.guards }
       else eclipsed s h k (64 * band) 1 t)) ∧
  (∀ (s : State) (h : Fin 4) (k : Fin 8) (line : Nat), let F := prodField s h
    let ly := (line : Int) - shalf (F.c (Reg.LAYER_POS h k)) 16
    s.on = true → slotFree s h line = true → headProduces s h = true → F.fetchAt ≤ (s.now : Int) → layerDepth F h k = false →
    eclipsedIn F k = false → coversLine s F h k line = true → (layerFetched F h k = true → descRead F k = true) →
    ∃ t, exec (.layerDataRead h k line) s = .next t ∧
      (layerFetched F h k = false ∨ F.guards.contains (k.val, line / 64) = true →
        match layerDataCause s F h k ly.toNat with
        | some c => eclipsed s h k (line / 64 * 64) c t
        | none => prodField t h = F) ∧
      (layerFetched F h k = true → F.guards.contains (k.val, line / 64) = false → coversBand s F h k (line / 64) = true →
        64 * (line / 64) < F.vActive h → rangeBad s (layerDesc F h k + 24) 4 = false →
        w32 (leNat (hbmBytes s (layerDesc F h k + 24) 4)) ≠ F.c (Reg.LAYER_GUARD h k) →
        eclipsed s h k (64 * (line / 64)) 1 t)) ∧
  (∀ (s : State) (h : Fin 4) (bx bY : Nat), let F := prodField s h
    s.on = true → headProduces s h = true → F.noScene = false → F.cut = none → F.fetchAt ≤ (s.now : Int) →
    let m := bankHdr s h F.bank
    let blk := bY * m.bx + bx
    F.bank < 3 → bx < m.bx → bY < m.bY → F.fetched.contains blk = false → rowTurn s F h bY = true →
    ∃ t, exec (.rayMapBlockFetch h bx bY) s = .next t ∧
      (F.hdrRead = true → (prodField t h).fetched = blk :: F.fetched ∧
        (if (blockReads s h F.bank (b2n (F.clear.contains blk)) blk).2 = 0 then (prodField t h).bad = F.bad
         else (prodField t h).bad = blk :: F.bad ∧ noted (.mapFetchError h) t ∧
           t.rd (Reg.RGU_FETCH_ERRORS h) = satAdd (s.rd (Reg.RGU_FETCH_ERRORS h)) 1 0xFFFFFFFF)) ∧
      (∀ r, F.hdrRead = false → F.scene = some r → rangeBad s (frameBase s r) 65536 = true →
        (prodField t h).noScene = true ∧ (F.fetchSeen = false → noted (.sceneFetchError h) t))) ∧
  (∀ (s : State) (h : Fin 4) (line : BitVec 26) (e : Nat),
    (setEntries line.toNat).find? (fun e => dirPending s h e && decide (fld (dirLo s h e) 0 26 = line.toNat)) = some e →
    let F := (headOf s h).cur
    ∃ t, exec (.cacheFillReturn h line) s = .next t ∧ dirPending t h e = false ∧
      (if rangeBad s (line.toNat * 1024) 1024 = true then
         dirUsed t h e = false ∧
         t.rd (Reg.RGU_SCENE_FETCH_ERRORS h) = satAdd (s.rd (Reg.RGU_SCENE_FETCH_ERRORS h)) 1 0xFFFFFFFF ∧
         (F.num = (fillOf s h e).2 → (headOf t h).cur = { F with failed := line.toNat :: F.failed, fetchSeen := true } ∧
           (F.fetchSeen = false → s.on = true → noted (.sceneFetchError h) t))
       else bit (dirLo t h e) 26 = true ∧ dataOf t h e = hbmBytes t (line.toNat * 1024) 1024 ∧ (headOf t h).cur = F))

/-- R287, R330, R349, R350, R351: at its deadline a line is composed into the band buffer, with the layers whose data is late eclipsed; at its
start, after the moves due, it is sent, or a REPEAT is sent and counted; a head STOPPING under ABORT stops there; a region of the
field in writeback is recorded on the ring; TOLERANCE follows the line that is missing first. That captured lines reach memory when
their region completes is the model's choice (log entry 31).
Completed here: `lineStart`, `rayDeadline`, `toleranceUpdate`, `writebackRegionComplete`. -/
def Obligations.LinesProducedAndSent : Prop :=
  (∀ (s : State) (h : Fin 4) (y : Nat), y = nextLine s h → (headOf s h).run = true → (headOf s h).sending = true →
    roleCode s (headBase h) = 1 → y < (headOf s h).cur.f (Reg.HEAD_V_LINES h) 16 16 → lineStart s h y ≤ (s.now : Int) →
    let u := settleLine s h (lineStart s h y)
    ∃ t, exec (.lineStart h) s = .next t ∧
      (if (headOf s h).abort = true then (headOf t h).run = false
       else t.rd (Reg.HEAD_LINE h) = w32 y ∧ (headOf t h).line = some y ∧
         (y < (headOf s h).cur.vActive h →
           t.out.head? = some (.line h.val y (sentLine u h y).rep (sentLine u h y).pol (sentLine u h y).words) ∧
           ((sentLine u h y).rep = true →
             t.rd (Reg.HEAD_LINES_REPEATED h) = satAdd (s.rd (Reg.HEAD_LINES_REPEATED h)) 1 0xFFFFFFFF ∧
             (s.on = true → (headOf u h).cur.repSeen = false → noted (.lineRepeated h) t))))) ∧
  (∀ (s : State) (h : Fin 4) (rays : RayProgress) (late : BitVec 8), headProduces s h = true →
    rays.line = (prodField s h).next → (prodField s h).next < (prodField s h).vActive h →
    prodLineStart s h (prodField s h).next - 1000 ≤ (s.now : Int) →
    ∃ t, exec (.rayDeadline h rays late) s = .next t ∧
      (if prodNext s h then (headOf t h).nxt else (headOf t h).cur).next = (prodField s h).next + 1 ∧
      (∀ k, k < 8 → flatLate s (prodField s h) h (prodField s h).next late k = true →
        eclipsedIn (if prodNext s h then (headOf t h).nxt else (headOf t h).cur) k = true) ∧
      ((rays.composed || !composesSlow s) = true → ∃ b ∈ (headOf t h).band, b.line = (prodField s h).next ∧ b.rep = false)) ∧
  (∀ (s : State) (h : Fin 4) (first issue decode wb : Nat),
    ∃ t, exec (.toleranceUpdate h first issue decode wb) s = .next t ∧
      (headState s h ≠ 3 → t.rd (Reg.HEAD_TOLERANCE h) = 0xFFFFFFFF) ∧
      (headState s h = 3 → roleCode s (headBase h) = 1 → t.rd (Reg.HEAD_TOLERANCE h) = w32 (min 0xFFFFFFFE
        (fieldLine s h (tolField s h first) first - 1000 - ((issue + decode + s.rdN (Reg.HEAD_TOL_GUARD h) : Nat) : Int) - (s.now : Int)).toNat)) ∧
      (headState s h = 3 → roleCode s (headBase h) = 2 → t.rd (Reg.HEAD_TOLERANCE h) =
        if (wbOf s h).capturing = true then
          w32 ((48 - (wb : Int)) * (linePeriod s h : Nat) - ((s.rdN (Reg.HEAD_TOL_GUARD h) : Nat) : Int)).toNat
        else 0xFFFFFFFF) ∧
      (headState s h ≠ 3 ∨ roleCode s (headBase h) = 1 →
        (headOf t h).cur.tol = min (headOf s h).cur.tol (t.rdN (Reg.HEAD_TOLERANCE h))) ∧ ∀ a, a ≠ Reg.HEAD_TOLERANCE h → t.rd a = s.rd a) ∧
  (∀ (s : State) (h : Fin 4) (ok : Bool) (mism : List Nat) (w : WbField) (rest : List WbField), (wbOf s h).fields = w :: rest →
    w.region + 1 < wbRegions (w.height h) → wbRegionReady w h = true →
    ∃ t, exec (.writebackRegionComplete h ok mism) s = .next t ∧
      (if wbRoom s (w.ring h) 1 = true then
         t.rd (Reg.RING_PROD (w.ring h)) = s.rd (Reg.RING_PROD (w.ring h)) + 1 ∧ (wbOf t h).seq = (wbOf s h).seq + 1 ∧
         (wbOf t h).fields.head?.map (·.region) = some (w.region + 1)
       else t.heads = s.heads ∧ t.mem = s.mem))

/-- R359, R360, R361, R395: a line read back is checked against what was sent; the FRAME_START of a RECEIVE head numbers and times its field
and takes a TRAINING head whose lanes are up to ACTIVE; the block that completes a line packet at a lane with block lock has the
packet counted by its errors, and a good one belongs to its line and group.
Completed here: `mirrorCheckCompare`, `rxFrameStart`, `rxLinePacket`. -/
def Obligations.ReceiveAndMirror : Prop :=
  (∀ (s : State) (h : Fin 4) (n : Fin 13) (line g : Nat) (crc : Word) (pol rep : Bool) (b : BandLine), s.on = true →
    (headOf s h).sent.find? (fun b => decide (b.line = line)) = some b → carried s h n = some g →
    s.b (Reg.ZL_MIRROR_STATUS h) 8 = true → (headOf s h).cur.produced = true → mirrorChecked (headOf s h).cur h line = true →
    ∃ t, exec (.mirrorCheckCompare h n line crc pol rep) s = .next t ∧
      t.rd64 (Reg.ZL_CHECKED_LO h) (Reg.ZL_CHECKED_HI h) = (s.rd64 (Reg.ZL_CHECKED_LO h) (Reg.ZL_CHECKED_HI h) + 1) % 2 ^ 48 ∧
      (if pol = b.pol ∧ rep = b.rep ∧ (b.rep = true ∨ crc = crc32c (groupPayload (headOf s h).cur h g b.words)) then
         t.rd (Reg.ZL_MISMATCHES h) = s.rd (Reg.ZL_MISMATCHES h) ∧ tabGet (fun _ => 0) (headOf t h).mirror n.val = 0
       else t.rd (Reg.ZL_MISMATCHES h) = satAdd (s.rd (Reg.ZL_MISMATCHES h)) 1 0xFFFFFFFF ∧
         t.rd (Reg.ZL_LANE_MISMATCH h n) = satAdd (s.rd (Reg.ZL_LANE_MISMATCH h n)) 1 0xFFFFFFFF ∧
         t.rd (Reg.ZL_LAST_LINE h) = w32 line ∧ noted (.mirrorMismatch h) t)) ∧
  (∀ (s : State) (h : Fin 4) (x : List Byte), s.on = true → roleCode s (headBase h) = 2 → headState s h = 2 ∨ headState s h = 3 →
    controlOk x = true → leAt x 0 1 = 0x55 →
    ∃ t, exec (.rxFrameStart h x) s = .next t ∧ t.rd (Reg.HEAD_FIELD h) = s.rd (Reg.HEAD_FIELD h) + 1 ∧
      t.rd64 (Reg.HEAD_FIELD_START_LO h) (Reg.HEAD_FIELD_START_HI h) = s.now ∧ t.rd (Reg.ZL_RX_FRAME h) = frameWord x &&& 0xFFFF001F ∧
      (headOf t h).run = true ∧ headState t h = (if headState s h = 3 ∨ allLanesUp s h = true then 3 else 2) ∧
      (headState s h = 2 → allLanesUp s h = true → noted (.headActive h) t)) ∧
  (∀ (s : State) (h : Fin 4) (n : Fin 13) (b : Block) (ui : Nat) (x : LaneSt) (p : RxPacket), roleCode s (headBase h) = 2 →
    (headOf s h).run = true → headState s h = 2 ∨ headState s h = 3 → laneHears s h n = true → (laneOf s h n).lock = true →
    headerOk b = true → ((laneOf s h n).header true).1.block b ui (rxBytes s h) = (x, [p], false) → p.group < 12 →
    ∃ t, exec (.rxLinePacket h n ⟨ui, [b]⟩) s = .next t ∧
      (p.valid = false →
        t.rd (Reg.ZL_RX_CRC_ERR h n) = satAdd (s.rd (Reg.ZL_RX_CRC_ERR h n)) 1 0xFFFFFFFF) ∧
      (n.val ≠ p.group → n.val ≠ p.group + 1 →
        t.rd (Reg.ZL_RX_WRONG_LANE h) = satAdd (s.rd (Reg.ZL_RX_WRONG_LANE h)) 1 0xFFFFFFFF ∧ (linkOf t h).rxErr.isSome = true) ∧
      (n.val = p.group ∨ n.val = p.group + 1 → p.valid = true →
        (linkOf t h).rxLine = some p.line ∧ p.group ∈ (linkOf t h).rxGroups ∧
        ((linkOf s h).rxLine ≠ some p.line → t.rd (Reg.HEAD_LINE h) = w32 p.line)))

/-! ### Start-up and handover (R558 to R575, R598) -/

/-- R127, R558, R598: applying LVIN starts the module at stage 0 and device time 0, losing it ends everything but what the rail keeper,
the optic layer, flash and fuses hold: every other register returns to reset, and OPT_GEOM to that of the panel profile (R456). The
fast clocks start unless a zone is too cold.
R560, R561: the boot ROM starts the confirmed image if it passes the checks, else the other one, which becomes confirmed, and goes to
recovery when neither passes. The last stage is READY. That OPT_GEOM keeps its value while a batch runs is the model's choice (log
entry 33).
Completed here: `lvinApplied`, `lvinLost`, `fastClockStart`, `bootImageVerified`, `stageReady`. -/
def Obligations.SupplyAndBoot : Prop :=
  ((∀ (s : State) (c : Instr), (c = .lvinApplied ∧ s.on = false) ∨ (c = .lvinLost ∧ s.on = true) →
    ∃ t, exec c s = .next t ∧ t.on = !s.on ∧ t.stage = 0 ∧ t.now = 0 ∧ t.opt = { s.opt with offDue := none } ∧ t.power.fastClk = false ∧
      t.power.pcieUp = false ∧ (c = .lvinApplied → t.power.powerOns = s.power.powerOns + 1) ∧
      t.rd Reg.OPT_OPT_GEOM = (if c = .lvinApplied ∧ s.opt.run = none then w32 (profGeom (curProfile s)) else s.rd Reg.OPT_OPT_GEOM) ∧
      ∀ a, a ∉ [Reg.MAINT_BOOT_STATUS, Reg.RAIL2_KEEPER_STATUS, Reg.OPT_OPT_GEOM] →
        t.rd a = (if lasts a then s.rd a else Reg.reset a)) ∧
  (∀ s : State, s.on = true → s.power.fastClk = false → s.stage = 0 →
    ∃ t, exec .fastClockStart s = .next t ∧
      (match (List.range 8).find? (zoneFrozen s) with
       | none => t.power.fastClk = true ∧ t.stage = 1 ∧ ∀ a, a ≠ Reg.MAINT_BOOT_STATUS → t.rd a = s.rd a
       | some _ => t.power.fastClk = false ∧ t.b Reg.MAINT_BOOT_STATUS 5 = true ∧
           (s.b Reg.MAINT_BOOT_STATUS 5 = false → noted .wakeDeferred t) ∧ regsKept [Reg.MAINT_BOOT_STATUS] s t))) ∧
  ((∀ s : State, s.on = true → s.power.fastClk = true → s.stage = 1 → s.maint.running = none → recovery s = false → chanUp s = false →
    let c := s.maint.confirmed
    ∃ t, exec .bootImageVerified s = .next t ∧
      (bootFail s (slotOf s c) = 0 → t.maint.running = some c ∧ t.stage = 2 ∧ t.rd Reg.SYS_FW_VERSION = slotVersion s c) ∧
      (bootFail s (slotOf s c) ≠ 0 → bootFail s (slotOf s (!c)) = 0 → t.maint.running = some (!c) ∧ t.maint.confirmed = !c ∧ t.stage = 2 ∧
        t.b Reg.MAINT_BOOT_STATUS 4 = true ∧ t.rd Reg.SYS_FW_VERSION = slotVersion s (!c)) ∧
      (bootFail s (slotOf s c) ≠ 0 → bootFail s (slotOf s (!c)) ≠ 0 → t.maint.running = none ∧ t.stage = 1 ∧ recovery t = true)) ∧
  (∀ s : State, readyDue s = true → curProfile s = [] → s.maint.present = [] → s.maint.presentOptic = false →
    ∃ t, exec .stageReady s = .next t ∧ t.stage = 4 ∧ .uart (some 4) 0 ∈ t.out))

/-- R565: an INSTALL that may act and passes the checks copies the profile to flash, where it becomes the current one; it ends with the
code of the first check that fails; one that may not act is refused.
R408, R571: the keeper's channel comes up and a lost link is reported restored; a handover that passes the checks releases the OPT page
at once and each head's pages at its next latch, and one that fails a check leaves every page held and names the register. What FORMAT
checks beyond R562 is the model's choice (log entry 40).
Completed here: `profileInstall`, `profileInstallComplete`, `keeperChannelUp`, `handover`. -/
def Obligations.ProfileAndHandover : Prop :=
  ((∀ (s : State) (req : Requester), cfgGate s req Reg.MAINT_PROFILE_CMD none = .go →
    let l := hbmBytes s (profSrc s) (s.rdN Reg.MAINT_PROFILE_LEN)
    ∃ t, exec (.profileInstall req) s = .next t ∧
      (if mayInstall s = false then noted .regRefused t ∧ t.f Reg.MAINT_PROFILE_STATUS 8 4 = 5 ∧ t.maint.install = s.maint.install
       else if rangeBad s (profSrc s) (s.rdN Reg.MAINT_PROFILE_LEN) = true then
         t.f Reg.MAINT_PROFILE_STATUS 8 4 = 6 ∧ t.maint.install = none
       else match profileFail (setFail (touch s 5 (profSrc s) (s.rdN Reg.MAINT_PROFILE_LEN)) 0 0) l with
         | some (c, sec, item) => t.f Reg.MAINT_PROFILE_STATUS 8 4 = c % 16 ∧ t.f Reg.MAINT_PROFILE_STATUS 16 8 = sec % 256 ∧
             t.f Reg.MAINT_PROFILE_STATUS 24 8 = item % 256 ∧ t.maint.install = none
         | none => t.maint.install = some l ∧ t.b Reg.MAINT_PROFILE_STATUS 12 = true) ∧
      dataKept [Reg.MAINT_PROFILE_STATUS] s t) ∧
  (∀ (s : State) (ok : Bool) (l : List Byte), s.maint.install = some l →
    ∃ t, exec (.profileInstallComplete ok) s = .next t ∧ t.maint.install = none ∧ t.b Reg.MAINT_PROFILE_STATUS 12 = false ∧
      (ok = false → t.f Reg.MAINT_PROFILE_STATUS 8 4 = 6 ∧ curProfile t = curProfile s) ∧
      (ok = true → t.f Reg.MAINT_PROFILE_STATUS 8 4 = 1 ∧ t.f Reg.MAINT_PROFILE_STATUS 0 4 = 1 ∧ curProfile t = l ∧
        t.rd Reg.MAINT_PROFILE_ID = w32 (leAt l 12 4)))) ∧
  ((∀ s : State, s.on = true → kOn s = true → chanUp s = false →
    ∃ t, exec .keeperChannelUp s = .next t ∧ t.keeper.linkGone = false ∧ t.keeper.restoreDue = false ∧
      (s.maint.present = [] → s.maint.presentOptic = false → chanUp t = true ∧
        (s.keeper.linkGone = true → noted .keeperLinkRestored t))) ∧
  (∀ (s : State) (req : Requester), cfgGate s req Reg.MAINT_HANDOVER_CMD none = .go →
    ∃ t, exec (.handover req) s = .next t ∧
      (if s.b Reg.MAINT_BOOT_STATUS 8 = false ∨ s.b Reg.FEAT_FEAT_STATUS 0 = false then noted .regRefused t ∧ regsKept [] s t
       else match lowest (heldUnavailable s ++ heldInvalid s) with
         | some a => t.f Reg.MAINT_HANDOVER_STATUS 0 2 = 3 ∧ t.rd Reg.MAINT_HANDOVER_FAIL_OFFSET = w32 a ∧ heldList t = heldList s
         | none => t.b (Reg.PAGE_STATUS optBase) 4 = false ∧
             t.f Reg.MAINT_HANDOVER_STATUS 0 2 = (if heldList t = [] then 2 else 1) ∧
             (∀ h : Fin 4, s.b (Reg.PAGE_STATUS (headBase h)) 4 = true → h.val ∈ t.maint.handover))))

/-! ### Thermal watch and power states (R504 to R524) -/

/-- R505 to R508, R512, R513: a sample sets the sensors' values, fails a sensor with an impossible count, and lets the level follow the
greatest demand; the floor that a lost sensor set ends after its second.
R519 to R524: POWER_CMD changes between ACTIVE and REDUCED at once, starts the entry to STANDBY, or a wake from it; during a
transition it is refused. STANDBY is reached once every head has sent its field in progress to the last line, with the fast clocks
stopped, and a wake cause held meanwhile wakes at once; a wake that no zone bars ends in the state asked for with the fast clocks
running. That STANDBY waits for the fields in progress is the model's reading (log entry 48).
Completed here: `sensorSample`, `lossFloorExpiry`, `powerCmdActive`, `powerCmdReduced`, `powerCmdStandby`, `standbyReached`,
`wakeGpioEdge`, `wakeClocksReady`. -/
def Obligations.ThermalAndPowerStates : Prop :=
  ((∀ (s : State) (z : Fin 8) (l : List Nat), s.on = true → (zoneOf s z).trip < 2 →
    ∃ t, exec (.sensorSample z l) s = .next t ∧
      (∀ k, k < 6 → let i := 6 * z.val + k
        let n := l.getD k 0 % 65536
        let v := roTemp n (s.f (Reg.THERM_SENSOR_CAL i) 0 16) (s.f (Reg.THERM_SENSOR_CAL i) 16 16)
        (sensorOf t i).value = v ∧
        (sensorState s i ≠ 2 → (n = 0 ∨ n = 65535 ∨ v < -550 ∨ 1500 < v) → sensorState t i = 2 ∧ noted .sensorFailed t)) ∧
      t.f Reg.THERM_LEVEL 0 4 = (if s.powerState = 1 then max (maxDemand t) (s.f Reg.THERM_REDUCED_LEVEL 0 4) else maxDemand t) ∧
      (t.f Reg.THERM_LEVEL 0 4 ≠ s.f Reg.THERM_LEVEL 0 4 → noted .throttleLevel t ∧
        t.rd Reg.THERM_LEVEL_CHANGES = satAdd (s.rd Reg.THERM_LEVEL_CHANGES) 1 0xFFFFFFFF) ∧
      regsKept ((List.range 6).map (fun k => Reg.THERM_SENSOR (6 * z.val + k)) ++
        [Reg.THERM_ZONE_STATUS z, Reg.THERM_LEVEL, Reg.THERM_LEVEL_CHANGES]) s t) ∧
  (∀ (s : State) (z : Fin 8) (d e : Nat), (zoneOf s z).floor = some (d, e) → e ≤ s.now →
    ∃ t, exec (.lossFloorExpiry z) s = .next t ∧ (zoneOf t z).floor = none ∧ t.b (Reg.THERM_ZONE_STATUS z) 28 = false ∧
      ∀ a, a ≠ Reg.THERM_ZONE_STATUS z → t.rd a = s.rd a)) ∧
  ((∀ (s : State) (req : Requester) (c : Instr) (n : Nat), (c = .powerCmdActive req ∧ n = 0) ∨ (c = .powerCmdReduced req ∧ n = 1) →
    cfgGate s req Reg.THERM_POWER_CMD none = .go →
    ∃ t, exec c s = .next t ∧
      (if s.transition ≠ 0 then noted .regRefused t ∧ regsKept [] s t
       else if s.powerState = 2 then t.powerState = 2 ∧ t.transition = 2 ∧ t.f Reg.THERM_POWER_STATUS 6 3 = 2 ∧
         t.therm.reduced = decide (n = 1) ∧ (wakeBar s ≠ none → noted .wakeDeferred t) ∧ regsKept [Reg.THERM_POWER_STATUS] s t
       else t.powerState = n ∧ ∀ a, a ≠ Reg.THERM_POWER_STATUS → t.rd a = s.rd a)) ∧
  (∀ (s : State) (req : Requester), cfgGate s req Reg.THERM_POWER_CMD none = .go → s.transition = 0 →
    (s.powerState = 2 → exec (.powerCmdStandby req) s = .next s) ∧
    (s.powerState ≠ 2 → ∃ t, exec (.powerCmdStandby req) s = .next t ∧ t.transition = 1 ∧ t.powerState = s.powerState ∧
      t.therm.reduced = false ∧ t.ing.lanes = [] ∧ ∀ e, e < 8 → (engOf t e).run = none)) ∧
  (∀ s : State, s.transition = 1 → fieldsEnded s = false → exec .standbyReached s = .next s) ∧
  (∀ s : State, s.on = true → s.transition = 1 → fieldsEnded s = true →
    ∃ t, exec .standbyReached s = .next t ∧ t.power.fastClk = false ∧ t.powerState = 2 ∧ noted .powerStateChanged t ∧
      t.transition = (if s.therm.held.isSome then 2 else 0) ∧ t.therm.held = none) ∧
  (∀ (s : State) (g : Fin 8) (up : Bool), s.on = true → s.b Reg.THERM_WAKE_CTRL g = true → up ≠ s.b Reg.THERM_WAKE_CTRL 8 →
    s.b Reg.TIME_AUX_CTRL g = false →
    ∃ t, exec (.wakeGpioEdge g up) s = .next t ∧
      (s.transition = 1 → t.therm.held = some (s.therm.held.getD 4) ∧ t.regs = s.regs) ∧
      (s.transition = 0 → s.powerState = 2 → t.transition = 2 ∧ t.f Reg.THERM_POWER_STATUS 6 3 = 4) ∧
      (s.transition = 0 → s.powerState ≠ 2 → t = s)) ∧
  (∀ (s : State) (t0 t1 : Int), s.transition = 2 → s.powerState = 2 → wakeBar s = none →
    ∃ t, exec (.wakeClocksReady t0 t1) s = .next t ∧ t.power.fastClk = true ∧ t.powerState = b2n s.therm.reduced ∧ t.transition = 0))

/-! ### The Zalen link (R366 to R398) -/

/-- R369, R377, R378, R383: a lane that may train and senses a partner goes to TRAIN_A; no partner, or a stage that lasts 2 ms, fails its
round; the wait for the other port ends after 200 µs; a standby lane that no report brings back goes to DETECT. 64 consecutive valid headers
gain a receiving lane block lock, and one that resumes from standby is ACTIVE with it; an invalid one is counted, and with 16 in the
last 256 the lane hunts again, leaves ACTIVE, and a packet in progress there is invalid (R375, R395). That the window of 256 headers
counts under lock only is the model's reading (log entry 47).
Completed here: `detectPoll`, `trainingStageTimeout`, `trainAPortWaitEnd`, `eqPresetSettle`, `laneStandbyResumeTimeout`, `blockLock`,
`blockLockLoss`. -/
def Obligations.LanesTrain : Prop :=
  (∀ (s : State) (h : Fin 4) (n : Fin 13), laneState s h n = 0 ∨ laneState s h n = 6 → laneTrains s h n = true →
    mgmtPaused s = false →
    (∃ t, exec (.detectPoll h n true) s = .next t ∧ laneState t h n = 1 ∧ (laneOf t h n).dark = decide (laneState s h n = 6) ∧
      (laneOf t h n).firstLock = none ∧ ∀ a, a ≠ Reg.ZL_LANE_STATUS h n → a ≠ Reg.ZL_TRAINED_RATE h → t.rd a = s.rd a) ∧
    (∃ t, exec (.detectPoll h n false) s = .next t ∧ roundFailed s h n 1 t)) ∧
  (∀ (s : State) (h : Fin 4) (n : Fin 13), s.on = true → 1 ≤ laneState s h n → laneState s h n ≤ 4 →
    (laneOf s h n).at_ + 2000000 ≤ s.now → ∃ t, exec (.trainingStageTimeout h n) s = .next t ∧ roundFailed s h n 2 t) ∧
  (∀ (s : State) (h : Fin 4) (n : Fin 13) (f : Nat), (laneOf s h n).firstLock = some f → laneState s h n = 1 → f + 200000 ≤ s.now →
    ∃ t, exec (.trainAPortWaitEnd h n) s = .next t ∧ (laneOf t h n).waitEnd = true ∧ t.regs = s.regs) ∧
  (∀ (s : State) (h : Fin 4) (n : Fin 13), laneState s h n = 4 → (laneOf s h n).trying < 8 → (laneOf s h n).settled = false →
    laneRole s h n ≠ 2 →
    ∃ t, exec (.eqPresetSettle h n) s = .next t ∧ (laneOf t h n).settled = true ∧ reportOf t h n = [] ∧ reportOf t h (n - 1) = [] ∧
      t.regs = s.regs) ∧
  (∀ (s : State) (h : Fin 4) (n : Fin 13) (u : Nat), (laneOf s h n).resume = some u → u + 2000000 ≤ s.now →
    ∃ t, exec (.laneStandbyResumeTimeout h n) s = .next t ∧ laneState t h n = 0 ∧ t.b (Reg.ZL_LANE_STATUS h n) 9 = false ∧
      (laneOf t h n).resume = none ∧ regsKept (linkRegs h) s t) ∧
  (∀ (s : State) (h : Fin 4) (n : Fin 13) (ui : Nat) (l : List Block), laneHears s h n = true → (laneOf s h n).lock = false →
    (laneOf s h n).good < 64 → l.length + (laneOf s h n).good = 64 → l.all headerOk = true →
    ∃ t, exec (.blockLock h n ⟨ui, l⟩) s = .next t ∧ (laneOf t h n).lock = true ∧
      ((laneOf s h n).resume = none → t.regs = s.regs) ∧ ((laneOf s h n).resume.isSome = true → laneState t h n = 5)) ∧
  (∀ (s : State) (h : Fin 4) (n : Fin 13) (ui : Nat) (b : Block), laneHears s h n = true → (laneOf s h n).lock = true →
    headerOk b = false →
    let lose := decide (16 ≤ (((true :: (laneOf s h n).win).take 256).filter id).length)
    ∃ t, exec (.blockLockLoss h n ⟨ui, [b]⟩) s = .next t ∧
      t.rd (Reg.ZL_HDR_ERR h n) = satAdd (s.rd (Reg.ZL_HDR_ERR h n)) 1 0xFFFFFFFF ∧
      (lose = true → reversed s h = false →
        (laneOf t h n).lock = false ∧ (laneOf t h n).a.lost = true ∧ (laneOf t h n).b.lost = true) ∧
      (lose = true → laneUp s h n = true → reversed s h = false → (laneOf s h n).pkt = none →
        laneState t h n = 0 ∧ t.f (Reg.ZL_LANE_STATUS h n) 20 4 = 7 ∧ (linkOf t h).fails = (linkOf s h).fails ∧
        regsKept (Reg.ZL_HDR_ERR h n :: linkRegs h) s t) ∧
      (lose = false ∨ (laneUp s h n = false ∧ (laneOf s h n).pkt = none) →
        (laneOf t h n).lock = !lose ∧ ∀ a, a ≠ Reg.ZL_HDR_ERR h n → t.rd a = s.rd a) ∧
      (∀ q, lose = true → (laneOf s h n).pkt = some q → q.group < 12 → roleCode s (headBase h) = 2 → (headOf s h).run = true →
        headState s h = 2 ∨ headState s h = 3 →
        t.rd (Reg.ZL_RX_CRC_ERR h n) = satAdd (s.rd (Reg.ZL_RX_CRC_ERR h n)) 1 0xFFFFFFFF))

/-- R377, R379, R380, R381, R382: a stage ends when its condition is met: TRAIN_A when every port of the lane locks and sees the lane's
number, TRAIN_B when every descrambler is synchronised, CAPS when every record passes, EQUALIZE when the best preset is locked; a port that
sees another lane, a skew above 512 UI and a refused record fail the round. A receiving lane goes on with the far transmitter.
Completed here: `trainingStageComplete`. -/
def Obligations.TrainingStagesEnd : Prop :=
  ∀ (s : State) (h : Fin 4) (n : Fin 13), s.on = true →
    (laneRole s h n = 2 → (laneOf s h n).lock = true → 1 ≤ laneState s h n → laneState s h n < 4 →
      laneState s h n < farStage s h n →
      ∃ t, exec (.trainingStageComplete h n) s = .next t ∧ laneState t h n = laneState s h n + 1 ∧
        ∀ a, a ≠ Reg.ZL_LANE_STATUS h n → a ≠ Reg.ZL_TRAINED_RATE h → t.rd a = s.rd a) ∧
    (laneRole s h n ≠ 2 → laneState s h n = 1 → oriented s h = true → (∀ p ∈ posPorts n, portLock s h p = true) →
      (∀ p ∈ posPorts n, portId s h p = physLane s h n) →
      ∃ t, exec (.trainingStageComplete h n) s = .next t ∧ laneState t h n = 2 ∧
        t.b (Reg.ZL_LANE_STATUS h n) 8 = (posPorts n).any (portInv s h) ∧
        (laneOf t h n).presA = decide (n.val ≤ 11) ∧ (laneOf t h n).presB = decide (1 ≤ n.val) ∧
        ((posPorts n).any (portInv s h) = true → noted (.linkCorrected h) t) ∧ regsKept [Reg.ZL_LANE_STATUS h n, Reg.ZL_TRAINED_RATE h] s t) ∧
    (laneRole s h n ≠ 2 → laneState s h n = 1 → oriented s h = true → (∀ p ∈ posPorts n, portLock s h p = true) →
      (∃ p ∈ posPorts n, portId s h p ≠ physLane s h n) →
      ∃ t, exec (.trainingStageComplete h n) s = .next t ∧ roundFailed s h n 3 t) ∧
    (laneRole s h n ≠ 2 → laneState s h n = 2 → (∀ p ∈ presentPorts s h n, portDescr s h p = true) →
      ∃ t, exec (.trainingStageComplete h n) s = .next t ∧
        (if (presentPorts s h n).any (fun p => decide (512 < (repSkew (reportOf s h p.1)).natAbs)) = true then roundFailed s h n 4 t
         else laneState t h n = 3 ∧ ∀ a, a ≠ Reg.ZL_LANE_STATUS h n → a ≠ Reg.ZL_TRAINED_RATE h → t.rd a = s.rd a)) ∧
    (laneRole s h n ≠ 2 → laneState s h n = 3 → (∀ p ∈ presentPorts s h n, p.1 ∈ (linkOf s h).capsRead) →
      ∃ t, exec (.trainingStageComplete h n) s = .next t ∧
        (if (presentPorts s h n).any (fun p => decide (s.f (Reg.SB_CAPS_RESULT h p.1) 0 4 ≠ 0)) = true then roundFailed s h n 5 t
         else laneState t h n = 4 ∧ (laneOf t h n).trying = (presets s h).headD 8 ∧ (laneOf t h n).best = none ∧
           ∀ a, a ≠ Reg.ZL_LANE_STATUS h n → a ≠ Reg.ZL_TRAINED_RATE h → t.rd a = s.rd a)) ∧
    (laneRole s h n ≠ 2 → laneState s h n = 4 → (laneOf s h n).trying = 8 → (∀ p ∈ presentPorts s h n, portLock s h p = true) →
      ∃ t, exec (.trainingStageComplete h n) s = .next t ∧ laneState t h n = 5 ∧ t.f (Reg.ZL_LANE_STATUS h n) 16 2 = 0 ∧
        t.rd (Reg.ZL_TRAINED_RATE h) = w32 (s.f (Reg.ZL_LINK_CFG h) 0 2 + 16) ∧ noted (.laneActive h) t ∧
        regsKept (Reg.ZL_TRAINED_RATE h :: linkRegs h) s t)

/-- R387, R388, R389, R390: a lane whose read-back loses lock fails; at a line start the failed lane becomes the gap where the move can be
made, and its group is lost where it cannot; a lane that comes back restores its group; a gap unhealthy for 1 s is reported once.
That a loss is settled at the line start of a move is the model's reading (log entry 37).
Completed here: `readbackLockLoss`, `sparingMove`, `gapUnhealthyTimeout`. -/
def Obligations.ShiftSparing : Prop :=
  (∀ (s : State) (h : Fin 4) (n : Fin 13), (carried s h n).isSome = true → laneRole s h n ≠ 2 → reversed s h = false →
    ∃ t, exec (.readbackLockLoss h n) s = .next t ∧ laneFailed s h n 8 t) ∧
  (∀ (s : State) (h : Fin 4) (f : Fin 13) (g reason u : Nat), s.on = true → lineDue s h = true →
    (linkOf s h).fails = [(f.val, reason, u)] → (u : Int) + 2000 ≤ lineStart s h (nextLine s h) → (linkOf s h).restore = [] → laneGroup s h f = some g →
    groupLost s h g = false → laneUp s h f = false →
    ∃ t, exec (.sparingMove h) s = .next t ∧ (linkOf t h).fails = [] ∧
      (if canMove s h f = true then gapLane t h = f ∧ noted (.laneSpared h) t ∧ groupLost t h g = false ∧
         t.rd (Reg.ZL_SPARE_MOVES h) = satAdd (s.rd (Reg.ZL_SPARE_MOVES h)) 1 0xFFFFFFFF
       else groupLost t h g = true ∧ noted (.groupLost h) t ∧ gapLane t h = gapLane s h ∧
         t.rd (Reg.ZL_SPARE_MOVES h) = s.rd (Reg.ZL_SPARE_MOVES h)) ∧
      regsKept (Reg.ZL_SPARE_MOVES h :: linkRegs h) s t) ∧
  (∀ (s : State) (h : Fin 4) (n : Fin 13) (g : Nat), s.on = true → lineDue s h = true → (linkOf s h).fails = [] →
    (linkOf s h).restore = [n.val] → laneUp s h n = true → laneGroup s h n = some g → groupLost s h g = true →
    ∃ t, exec (.sparingMove h) s = .next t ∧ (linkOf t h).restore = [] ∧ groupLost t h g = false ∧ noted (.groupRestored h) t ∧
      regsKept (linkRegs h) s t) ∧
  (∀ (s : State) (h : Fin 4) (u : Nat), s.on = true → (linkOf s h).gapBad = some u → u + 1000000000 ≤ s.now → headState s h = 3 →
    (linkOf s h).gapTold = false →
    ∃ t, exec (.gapUnhealthyTimeout h) s = .next t ∧ noted (.spareUnavailable h) t ∧ (linkOf t h).gapTold = true ∧
      exec (.gapUnhealthyTimeout h) t = .next t ∧ regsKept [] s t)

/-- R385: LANE_CMD with the lane's role epoch acts: RETRAIN takes an ACTIVE lane to DETECT, MOVE_GAP asks for a move, PRBS_CLEAR zeroes the
counters, PRBS_INJECT flips one bit; with another epoch it does nothing but count and report.
R383, R396, R397: PRBS_CTRL of a DISABLED head puts its lane into test, where it sends the sequence, or takes it out; a checker is in
sync after 64 consecutive correct predictions and out of it with 64 errors in 1,024 bits, and counts bits and errors; disabling ZLh
on a DISABLED head takes every lane to OFF, and both are refused on any other head. That MOVE_GAP has reason COMMAND is the model's
reading (log entry 37).
Completed here: `retrain`, `moveGap`, `prbsClear`, `prbsInject`, `prbsCtrlWrite`, `prbsSync`, `prbsSyncLoss`, `zlDisable`. -/
def Obligations.LaneCommandsAndPrbs : Prop :=
  ((∀ (s : State) (req : Requester) (h : Fin 4) (n : Fin 13) (e : BitVec 16), cfgGate s req (Reg.ZL_LANE_CMD h) none = .go →
    e.toNat = s.f (Reg.ZL_LANE_ROLE h n) 16 16 →
    (∃ t, exec (.retrain req h n e) s = .next t ∧
      (if laneUp s h n = true then reversed s h = false → laneFailed s h n 10 t else t = s)) ∧
    (∃ t, exec (.moveGap req h n e) s = .next t ∧
      (if (carried s h n).isSome = true ∧ laneUp s h (gapLane s h) = true
       then t.regs = s.regs ∧ (linkOf t h).fails = (linkOf s h).fails ++ [(n.val, 10, s.now)]
       else noted .regRefused t ∧ t.links = s.links ∧ regsKept [] s t)) ∧
    (∃ t, exec (.prbsClear req h n e) s = .next t ∧ t.rd (Reg.ZL_PRBS_ERR h n) = 0 ∧
      t.rd64 (Reg.ZL_PRBS_BITS_LO h n) (Reg.ZL_PRBS_BITS_HI h n) = 0 ∧ t.b (Reg.ZL_PRBS_STATUS h n) 1 = false ∧
      t.b (Reg.ZL_PRBS_STATUS h n) 0 = s.b (Reg.ZL_PRBS_STATUS h n) 0 ∧ t = { s with regs := t.regs } ∧
      ∀ a, a ∉ [Reg.ZL_PRBS_ERR h n, Reg.ZL_PRBS_BITS_LO h n, Reg.ZL_PRBS_BITS_HI h n, Reg.ZL_PRBS_STATUS h n] → t.rd a = s.rd a) ∧
    (∃ t, exec (.prbsInject req h n e) s = .next t ∧
      (prbsGens s h n = false → t = s) ∧
      (prbsGens s h n = true → prbsChecks s h n = false → t = { s with out := .prbsFlip h n :: s.out }) ∧
      (prbsGens s h n = true → prbsChecks s h n = true → s.b (Reg.ZL_PRBS_STATUS h n) 0 = true →
        (prbsPoly (s.f (Reg.ZL_PRBS_CTRL h n) 0 2)).1 ≤ (laneOf s h n).chk.loaded →
        .prbsFlip h n ∈ t.out ∧ t.rd (Reg.ZL_PRBS_ERR h n) = satAdd (s.rd (Reg.ZL_PRBS_ERR h n)) 1 0xFFFFFFFF ∧
        t.b (Reg.ZL_PRBS_STATUS h n) 1 = true ∧ (s.b (Reg.ZL_PRBS_STATUS h n) 1 = false → noted (.prbsError h) t) ∧
        regsKept [Reg.ZL_PRBS_ERR h n, Reg.ZL_PRBS_STATUS h n, Reg.ZL_PRBS_BITS_LO h n, Reg.ZL_PRBS_BITS_HI h n] s t))) ∧
  (∀ (s : State) (req : Requester) (h : Fin 4) (n : Fin 13) (e : BitVec 16) (c : Instr), cfgGate s req (Reg.ZL_LANE_CMD h) none = .go →
    e.toNat ≠ s.f (Reg.ZL_LANE_ROLE h n) 16 16 →
    c ∈ [Instr.retrain req h n e, .moveGap req h n e, .prbsClear req h n e, .prbsInject req h n e] →
    ∃ t, exec c s = .next t ∧ noted (.laneCmdStale h) t ∧
      t.rd (Reg.ZL_STALE_COUNT h n) = satAdd (s.rd (Reg.ZL_STALE_COUNT h n)) 1 0xFFFF ∧ t.links = s.links ∧
      regsKept [Reg.ZL_STALE_COUNT h n] s t)) ∧
  ((∀ (s : State) (req : Requester) (h : Fin 4) (n : Fin 13) (v : Word), cfgGate s req (Reg.ZL_PRBS_CTRL h n) none = .go →
    ∃ t, exec (.prbsCtrlWrite req h n v) s = .next t ∧
      (if headState s h = 0 then
         t.rd (Reg.ZL_PRBS_CTRL h n) = v &&& 0xF3 ∧
         (if (bit v 4 = true ∧ (laneRole s h n = 1 ∨ laneRole s h n = 3 ∨ laneRole s h n = 4)) ∨
             (bit v 5 = true ∧ (laneRole s h n = 2 ∨ laneRole s h n = 3))
          then laneState t h n = 7 ∧ t.b (Reg.ZL_LANE_STATUS h n) 10 = true ∧
            (bit v 4 = true → laneRole s h n ≠ 2 → t.b (Reg.ZL_LANE_STATUS h n) 3 = false ∧
              t.out.head? = some (.prbs h n (s.f (Reg.ZL_LINK_CFG h) 0 2) (fld v 0 2) (bit v 6)))
          else t.b (Reg.ZL_LANE_STATUS h n) 10 = false ∧ t.b (Reg.ZL_PRBS_STATUS h n) 0 = false) ∧
         regsKept (Reg.ZL_PRBS_CTRL h n :: Reg.ZL_PRBS_STATUS h n :: linkRegs h) s t
       else noted .regRefused t ∧ t.links = s.links ∧ regsKept [] s t)) ∧
  (∀ (s : State) (h : Fin 4) (n : Fin 13) (k : Nat), prbsChecks s h n = true → s.b (Reg.ZL_PRBS_STATUS h n) 0 = false →
    let c := (laneOf s h n).chk
    let poly := s.f (Reg.ZL_PRBS_CTRL h n) 0 2
    (prbsPoly poly).1 ≤ c.loaded → 0 < k → c.good + k ≤ 64 →
    ∃ t, exec (.prbsSync h n (prbsBits poly false k c.reg)) s = .next t ∧
      t.b (Reg.ZL_PRBS_STATUS h n) 0 = decide (c.good + k = 64) ∧ (laneOf t h n).chk.good = c.good + k ∧
      ∀ a, a ≠ Reg.ZL_PRBS_STATUS h n → t.rd a = s.rd a) ∧
  (∀ (s : State) (h : Fin 4) (n : Fin 13) (r : Bool), s.on = true → prbsChecks s h n = true →
    s.b (Reg.ZL_PRBS_STATUS h n) 0 = true →
    let c := (laneOf s h n).chk
    let poly := s.f (Reg.ZL_PRBS_CTRL h n) 0 2
    let wrong := (prbsNext poly c.reg).2 != r
    (prbsPoly poly).1 ≤ c.loaded →
    ∃ t, exec (.prbsSyncLoss h n [r]) s = .next t ∧
      t.b (Reg.ZL_PRBS_STATUS h n) 0 = decide ((((wrong :: c.win).take 1024).filter id).length < 64) ∧
      t.rd64 (Reg.ZL_PRBS_BITS_LO h n) (Reg.ZL_PRBS_BITS_HI h n) =
        min (s.rd64 (Reg.ZL_PRBS_BITS_LO h n) (Reg.ZL_PRBS_BITS_HI h n) + 1) (2 ^ 48 - 1) ∧
      t.rd (Reg.ZL_PRBS_ERR h n) = (if wrong = true then satAdd (s.rd (Reg.ZL_PRBS_ERR h n)) 1 0xFFFFFFFF
        else s.rd (Reg.ZL_PRBS_ERR h n)) ∧
      t.b (Reg.ZL_PRBS_STATUS h n) 1 = (s.b (Reg.ZL_PRBS_STATUS h n) 1 || wrong) ∧
      (wrong = true → s.b (Reg.ZL_PRBS_STATUS h n) 1 = false → noted (.prbsError h) t) ∧
      regsKept [Reg.ZL_PRBS_STATUS h n, Reg.ZL_PRBS_BITS_LO h n, Reg.ZL_PRBS_BITS_HI h n, Reg.ZL_PRBS_ERR h n] s t) ∧
  (∀ (s : State) (req : Requester) (h : Fin 4) (abort : Bool), cfgGate s req (Reg.PAGE_CTRL (zlBase h)) none = .go →
    ∃ t, exec (.zlDisable req h abort) s = .next t ∧
      (headState s h ≠ 0 → noted .regRefused t ∧ t.links = s.links ∧ regsKept [] s t) ∧
      (headState s h = 0 → enabled s (zlBase h) = true → enabled t (zlBase h) = false ∧ oriented t h = false ∧
        (∀ n, n < 13 → laneState t h n = 7 ∧ t.b (Reg.ZL_LANE_STATUS h n) 9 = false) ∧
        regsKept (Reg.PAGE_CTRL (zlBase h) :: linkRegs h) s t)))

/-! ### The sideband (R391 to R394) -/

/-- R382, R392: a transmitting head polls its groups and asks for their records; the reply ends the wait and is shown; a request without
reply is counted and sent once more, and after that counts as missed. A frame with a bad check and contention are reported. That
NO_REPLY counts both requests of a missed poll, and that numbers in payloads are little-endian, is the model's reading (log entry
37).
Completed here: `statusReq`, `capsReq`, `status`, `caps`, `sbReplyTimeout`, `sbContention`, `sbFrameReceived`. -/
def Obligations.SidebandMaster : Prop :=
  (∀ (s : State) (h : Fin 4) (g : Fin 12), sbMaster s h = true → (linkOf s h).req = none → mgmtPaused s = false →
    (sbPolls s h = true → ∃ t, exec (.statusReq h g) s = .next t ∧
      t.out = .sideband h (sbFrame (groupAddr g) 0 0x01 (statusReqPayload s h g)) :: s.out ∧
      (linkOf t h).req = some ⟨groupAddr g, 0x01, statusReqPayload s h g, none, false, s.now⟩ ∧
      t.rd (Reg.SB_FRAMES_TX h) = satAdd (s.rd (Reg.SB_FRAMES_TX h)) 1 0xFFFFFFFF ∧ ∀ a, a ≠ Reg.SB_FRAMES_TX h → t.rd a = s.rd a) ∧
    (laneState s h g = 3 ∨ laneState s h (g + 1) = 3 → ∃ t, exec (.capsReq h g) s = .next t ∧
      t.out = .sideband h (sbFrame (groupAddr g) 0 0x02 []) :: s.out ∧
      (linkOf t h).req = some ⟨groupAddr g, 0x02, [], none, false, s.now⟩ ∧
      t.rd (Reg.SB_FRAMES_TX h) = satAdd (s.rd (Reg.SB_FRAMES_TX h)) 1 0xFFFFFFFF ∧ ∀ a, a ≠ Reg.SB_FRAMES_TX h → t.rd a = s.rd a)) ∧
  (∀ (s : State) (h : Fin 4) (g : Fin 12) (b : List Byte), sbMaster s h = true → answers s h (groupAddr g) 0x81 = true → b.length = 16 →
    ∃ t, exec (.status h g b) s = .next t ∧ (linkOf t h).req = none ∧ tabGet (fun _ => 0) (linkOf t h).misses g.val = 0 ∧
      t.b (Reg.SB_SB_STATUS h) g = true ∧ t.rd (Reg.SB_FRAMES_RX h) = satAdd (s.rd (Reg.SB_FRAMES_RX h)) 1 0xFFFFFFFF ∧
      t.rd (Reg.ZL_LANE_SKEW h g) = w32 (leAt b 4 2) ∧ t.rd (Reg.ZL_LANE_SKEW h (g + 1)) = w32 (leAt b 4 2) ∧
      ((∀ n, n < 13 → laneUp s h n = true ∧ (laneOf s h n).resume = none) → repBit b 6 = false → repBit b 7 = false →
        reportOf t h g = b ∧
        regsKept [Reg.SB_SB_STATUS h, Reg.SB_FRAMES_RX h, Reg.ZL_LANE_SKEW h g, Reg.ZL_LANE_SKEW h (g + 1),
          Reg.ZL_HDR_ERR h (groupLane s h g), Reg.ZL_RX_CRC_ERR h (groupLane s h g)] s t)) ∧
  (∀ (s : State) (h : Fin 4) (g : Fin 12) (b : List Byte), sbMaster s h = true → answers s h (groupAddr g) 0x82 = true → b.length = 32 →
    ∃ t, exec (.caps h g b) s = .next t ∧ (linkOf t h).req = none ∧ g.val ∈ (linkOf t h).capsRead ∧
      t.rd (Reg.SB_CAPS_RESULT h g) = w32 (capsCheck s h g b + 256) ∧
      (∀ w, w < 8 → t.rd (Reg.SB_CAPS h g + 4 * w) = w32 (leAt b (4 * w) 4)) ∧
      (capsCheck s h g b ≠ 0 → noted (.capsRefused h) t) ∧
      (capsCheck s h g b = 0 →
        regsKept (Reg.SB_FRAMES_RX h :: Reg.SB_CAPS_RESULT h g :: (List.range 8).map fun w => Reg.SB_CAPS h g + 4 * w) s t)) ∧
  (∀ (s : State) (h : Fin 4) (q : SbReq), s.on = true → (linkOf s h).req = some q → q.at_ + s.f (Reg.SB_SB_CFG h) 8 8 * 1000 ≤ s.now →
    ∃ t, exec (.sbReplyTimeout h) s = .next t ∧ t.rd (Reg.SB_NO_REPLY h) = satAdd (s.rd (Reg.SB_NO_REPLY h)) 1 0xFFFFFFFF ∧
      (q.again = false → t.out = .sideband h (sbFrame q.dst 0 q.typ q.payload) :: s.out ∧
        (linkOf t h).req = some { q with again := true, at_ := s.now } ∧
        ∀ a, a ≠ Reg.SB_NO_REPLY h → a ≠ Reg.SB_FRAMES_TX h → t.rd a = s.rd a) ∧
      (q.again = true → (linkOf t h).req = none) ∧
      (∀ g : Fin 12, q.again = true → q.job = none → q.typ = 0x01 → q.dst = groupAddr g →
        tabGet (fun _ => 0) (linkOf t h).misses g.val = tabGet (fun _ => 0) (linkOf s h).misses g.val + 1 ∧
        t.b (Reg.SB_SB_STATUS h) g = false ∧ (tabGet (fun _ => 0) (linkOf s h).misses g.val = 2 → noted (.sbNoReply h) t) ∧
        regsKept [Reg.SB_NO_REPLY h, Reg.SB_SB_STATUS h] s t) ∧
      (∀ j, q.again = true → q.job = some j → ringComp s j.ring = true → recorded s j.ring j.index j.tag 0x0F [] t)) ∧
  (∀ (s : State) (h : Fin 4), s.on = true → ∃ t, exec (.sbContention h) s = .next t ∧ noted (.sbContention h) t ∧ regsKept [] s t) ∧
  (∀ (s : State) (h : Fin 4) (body : List Byte), s.on = true → sbPayload body = none →
    ∃ t, exec (.sbFrameReceived h body) s = .next t ∧ noted (.sbFrameError h) t ∧
      t.rd (Reg.SB_SB_CRC_ERR h) = satAdd (s.rd (Reg.SB_SB_CRC_ERR h)) 1 0xFFFFFFFF ∧ t.links = s.links ∧
      regsKept [Reg.SB_SB_CRC_ERR h] s t)

/-- R391, R394: a frame whose length and check fit is the reply it answers, or a request to the group it addresses; a receiving head
answers a poll with the state of its own ports, whose counts for that group start anew, a CAPS_REQ with its record, and a host
request with an empty reply; any other frame is counted. The figures of merit in a reply are free bytes (log entry 27).
Completed here: `sbFrameReceived`, `sbRequestReceived`, `status`, `caps`. -/
def Obligations.SidebandReplies : Prop :=
  (∀ (s : State) (h : Fin 4) (g : Fin 12) (typ : Byte) (b : List Byte), sbSlave s h = true → b.length ≤ 48 →
    exec (.sbFrameReceived h (sbBody (groupAddr g) 0 typ b)) s = exec (.sbRequestReceived h g typ b) s) ∧
  (∀ (s : State) (h : Fin 4) (g : Fin 12) (b : List Byte), sbMaster s h = true → b.length ≤ 48 →
    (answers s h (groupAddr g) 0x81 = true →
      exec (.sbFrameReceived h (sbBody 0 (groupAddr g) 0x81 b)) s = exec (.status h g b) s) ∧
    (answers s h (groupAddr g) 0x82 = true →
      exec (.sbFrameReceived h (sbBody 0 (groupAddr g) 0x82 b)) s = exec (.caps h g b) s)) ∧
  (∀ (s : State) (h : Fin 4) (dst src typ : Byte) (b : List Byte), s.on = true → sbSlave s h = false → answers s h src typ = false →
    b.length ≤ 48 → exec (.sbFrameReceived h (sbBody dst src typ b)) s = .next (s.inc (Reg.SB_FRAMES_RX h))) ∧
  (∀ (s : State) (h : Fin 4) (g : Fin 12) (typ : Byte) (b : List Byte), sbSlave s h = true →
    ∃ t, exec (.sbRequestReceived h g typ b) s = .next t ∧
      t.rd (Reg.SB_FRAMES_RX h) = satAdd (s.rd (Reg.SB_FRAMES_RX h)) 1 0xFFFFFFFF ∧
      (typ = 0x01 → t.out = .sideband h (sbFrame 0 (groupAddr g) 0x81 (emuStatus s h g)) :: s.out ∧
        (laneOf t h g).a = PortCount.zero ∧ (laneOf t h (g + 1)).b = PortCount.zero ∧ (laneOf t h g).b = (laneOf s h g).b ∧
        (laneOf t h (g + 1)).a = (laneOf s h (g + 1)).a ∧ farStage t h g = leAt b 0 1 ∧
        ∀ a, a ≠ Reg.SB_FRAMES_RX h → a ≠ Reg.SB_FRAMES_TX h → t.rd a = s.rd a) ∧
      (typ = 0x02 → t.out = .sideband h (sbFrame 0 (groupAddr g) 0x82 (emuCaps s h g)) :: s.out ∧
        ∀ a, a ≠ Reg.SB_FRAMES_RX h → a ≠ Reg.SB_FRAMES_TX h → t.rd a = s.rd a) ∧
      (0x40 ≤ typ.toNat → typ.toNat ≤ 0x7F → t.out.head? = some (.sideband h (sbFrame 0 (groupAddr g) (typ ||| 0x80) []))) ∧
      (typ ≠ 0x01 → typ ≠ 0x02 → ¬(0x40 ≤ typ.toNat ∧ typ.toNat ≤ 0x7F) → t = s.inc (Reg.SB_FRAMES_RX h)))

/-! ### Panel rails and the keeper (R401 to R431) -/

/-- R407, R410, R412, R413, R414: PANEL_CMD ON is acted on in OFF with a valid table, OFF in PRECHECK, SEQ_UP and ON; a pre-check that passes
starts the up sequence and one that fails ends at OFF; a step that ends goes on to the next; the END is PANEL_ON; a step without power good
fails the sequence; the end of a down sequence zeroes the ledgers. At which step a failure of the table as a whole is reported is
the model's choice (log entry 32).
Completed here: `panelCmdOn`, `panelCmdOff`, `precheckComplete`, `sequenceStepComplete`, `powerGoodTimeout`. -/
def Obligations.PanelSequences : Prop :=
  (∀ (s : State) (req : Requester), railOpen s req 0x82000 Reg.RAIL2_PANEL_CMD →
    (∃ t, exec (.panelCmdOn req) s = .next t ∧
      (kState s ≠ 1 → noted .regRefused t ∧ t.keeper = s.keeper ∧ regsKept [] s t) ∧
      (∀ i, kState s = 1 → tableFail s = some i → noted .regRefused t ∧ t.rd Reg.RAIL2_SEQ_RESULT = w32 (i + 4 * 16) ∧
        t.keeper = s.keeper ∧ regsKept [Reg.RAIL2_SEQ_RESULT] s t) ∧
      (kState s = 1 → tableFail s = none → kState t = 2 ∧ panelReq t = true ∧ kStep t = 0 ∧ t = { s with regs := t.regs } ∧
        ∀ a, a ≠ Reg.RAIL2_KEEPER_STATUS → t.rd a = s.rd a)) ∧
    (∃ t, exec (.panelCmdOff req) s = .next t ∧
      (kState s ≠ 2 → kState s ≠ 3 → kState s ≠ 4 → noted .regRefused t ∧ t.keeper = s.keeper ∧ regsKept [] s t) ∧
      (kState s = 2 → panelReq t = false ∧ kState t = 1 ∧
        (s.f Reg.MAINT_PROFILE_STATUS 4 4 ≠ 3 → regsKept (Reg.RAIL2_KEEPER_STATUS :: optRegs) s t)) ∧
      (kState s = 3 → panelReq t = false ∧ kState t = 3 ∧ t.keeper = { s.keeper with waking := false, turn := some (s.keeper.turn.getD 0) } ∧
        ∀ a, a ≠ Reg.RAIL2_KEEPER_STATUS → t.rd a = s.rd a) ∧
      (kState s = 4 → panelReq t = false ∧ kState t ∈ [1, 5, 7]))) ∧
  (∀ (s : State) (l : List PreReading), s.on = true → kState s = 2 →
    ∃ t, exec (.precheckComplete l) s = .next t ∧ (∀ r ∈ railList, preCode t r = preResult s r (l.getD r ⟨0, 0, none⟩)) ∧
      (if (railList.all fun r => decide (preResult s r (l.getD r ⟨0, 0, none⟩) = 1)) = true
       then (kState t = 3 ∨ kState t = 4) ∧ panelReq t = panelReq s
       else kState t = 1 ∧ panelReq t = false ∧ t.rd Reg.RAIL2_SEQ_RESULT = w32 (5 * 16) ∧ noted .precheckFail t ∧
         ∀ r ∈ railList, railState t r = railState s r)) ∧
  (∀ (s : State) (i : Nat), s.on = true → kState s = 3 → s.keeper.last = i → s.keeper.turn = none → i < 15 → s.maint.present = [] →
    s.maint.presentOptic = false → (stepAction s i = 1 → noPhase s (stepArg s i) = false) →
    (stepAction s (i + 1) = 0 → ∃ t, exec .sequenceStepComplete s = .next t ∧ kState t = 4 ∧ noted .panelOn t ∧
      t.rd Reg.RAIL2_ON_COUNT = satAdd (s.rd Reg.RAIL2_ON_COUNT) 1 0xFFFFFFFF ∧
      (stepAction s i = 1 → stepArg s i < 13 → regulating t (stepArg s i) = true)) ∧
    (stepAction s (i + 1) = 1 → stepDir s (i + 1) ≠ 2 → stepArg s (i + 1) < 13 → railLatched s (stepArg s (i + 1)) = false →
      stepArg s i < 13 → ∃ t, exec .sequenceStepComplete s = .next t ∧ kState t = 3 ∧ t.keeper.last = i + 1 ∧
        railState t (stepArg s (i + 1)) = 1)) ∧
  (∀ (s : State) (c : Nat), s.on = true → kState s = 5 → s.keeper.last = 0 → s.keeper.cause = some c → s.maint.present = [] →
    s.maint.presentOptic = false →
    ∃ t, exec .sequenceStepComplete s = .next t ∧ kState t = (if criticalLatched t = true then 7 else 1) ∧ noted .panelOff t ∧
      ∀ h, h < 4 → ledger t h = 0) ∧
  (∀ s : State, s.on = true → kState s = 3 → stepAction s s.keeper.last = 1 → s.keeper.turn = none →
    ∃ t, exec .powerGoodTimeout s = .next t ∧ noted .seqFail t ∧ t.rd Reg.RAIL2_SEQ_RESULT = w32 (s.keeper.last + 1 * 16) ∧
      panelReq t = false ∧ kState t ∈ [1, 5, 7])

/-- R415, R416, R417, R418: a rail in fault goes to HICCUP and, its five attempts used up, is latched; an attempt that reaches power good
recovers it, and 10 s of regulation clear its count; a rail without load and a lost phase are shown and reported.
R408, R419, R420: above 150 W the keeper lowers the current limits of VSP and VSN in proportion until P_TOTAL is 150 W, and ends that
below 147 W; PVL_POWER above 15 W is reported once until it stays below 14 W; PVL loss takes the PVL rails off, and the others down
where the record says so; a lost channel holds everything. That a fault in an up sequence starts no hiccup is the model's reading (log
entry 32).
Completed here: `railFault`, `hiccupAttempt`, `attemptCountReset`, `railNoLoad`, `phaseLost`, `railPowerLimit`, `pvlOverload`,
`pvlLoss`, `keeperLinkLost`. -/
def Obligations.RailProtectionAndLimits : Prop :=
  ((∀ (s : State) (r : Fin 13) (above : Bool), s.on = true → kOn s = true → railRuns s r = true → above = false ∨ regulating s r = true →
    ∃ t, exec (.railFault r above) s = .next t ∧ noted .railFault t ∧
      (kState s = 4 → attempts s r < 5 → railState t r = 4 ∧ kState t = 4 ∧
        (r.val ≠ 8 → r.val ≠ 9 → regsKept [Reg.RAIL0_RAIL_STATUS r, Reg.RAIL0_RAIL_SUMMARY] s t)) ∧
      (kState s = 4 → 5 ≤ attempts s r → noted .railLatched t ∧ railState t r = 5 ∧ (critical r = true → kState t ∈ [5, 7])) ∧
      (kState s = 3 → noted .seqFail t ∧ panelReq t = false ∧ t.rd Reg.RAIL2_SEQ_RESULT = w32 (s.keeper.last + 2 * 16))) ∧
  (∀ (s : State) (r : Fin 13) (good : Bool), s.on = true → railState s r = 4 → attempts s r < 5 →
    ∃ t, exec (.hiccupAttempt r good) s = .next t ∧ attempts t r = attempts s r + 1 ∧
      (if good = true ∧ phasesFailed s r < railPhases r then regulating t r = true ∧ noted .railRecovered t
       else noted .railFault t ∧
         (if attempts s r = 4 then railState t r = 5 ∧ noted .railLatched t
          else railState t r = 4 ∧ regsKept [Reg.RAIL0_RAIL_STATUS r] s t))) ∧
  (∀ (s : State) (r : Fin 13), regulating s r = true →
    ∃ t, exec (.attemptCountReset r) s = .next t ∧ attempts t r = 0 ∧ railState t r = railState s r ∧ t = { s with regs := t.regs } ∧
      ∀ a, a ≠ Reg.RAIL0_RAIL_STATUS r → t.rd a = s.rd a) ∧
  (∀ (s : State) (r : Fin 13), s.on = true → regulating s r = true → s.b (Reg.RAIL0_RAIL_STATUS r) 7 = false →
    ∃ t, exec (.railNoLoad r) s = .next t ∧ t.b (Reg.RAIL0_RAIL_STATUS r) 7 = true ∧ noted .railNoLoad t ∧
      exec (.railNoLoad r) t = .next t ∧ regsKept [Reg.RAIL0_RAIL_STATUS r] s t) ∧
  (∀ (s : State) (r : Fin 13) (phase : Nat), s.on = true → kOn s = true → phasesFailed s r < railPhases r →
    ∃ t, exec (.phaseLost r phase) s = .next t ∧ phasesFailed t r = phasesFailed s r + 1 ∧ t.b Reg.MAINT_RAIL_PHASE_LOST r = true ∧
      noted .phaseLost t ∧ (phasesFailed s r = 0 → noted .spareLow t) ∧
      (1 ≤ phasesFailed s r → phasesFailed s r + 1 < railPhases r → noted .railDerated t) ∧
      (phasesFailed s r + 1 < railPhases r → regsKept [Reg.RAIL0_RAIL_STATUS r, Reg.MAINT_RAIL_PHASE_LOST] s t))) ∧
  ((∀ (s : State) (l : List RailLoad), s.on = true → kOn s = true →
    let sum := loadOf l fun _ => true
    let rest := loadOf l fun r => decide (r ≠ 2 ∧ r ≠ 3)
    let p := fun r => loadOf l fun q => decide (q = r)
    let cap := fun r => railCurrent s r (p r) * min (150000 - rest) (p 2 + p 3) / max 1 (p 2 + p 3)
    ∃ t, exec (.railPowerLimit l) s = .next t ∧
      (s.keeper.limiting = false → sum ≤ 150000 → t.rd Reg.RAIL0_P_TOTAL = w32 sum ∧ t.keeper = s.keeper ∧
        regsKept [Reg.RAIL0_P_TOTAL] s t) ∧
      (s.keeper.limiting = false → 150000 < sum →
        t.keeper = { s.keeper with limiting := true, capVsp := cap 2, capVsn := cap 3 } ∧ noted .railPowerLimit t ∧
        t.rd Reg.RAIL0_P_TOTAL = w32 (max rest 150000) ∧
        ∀ r ∈ [2, 3], regulating s r = true → railState t r = 3 ∧ t.b (Reg.RAIL0_RAIL_STATUS r) 12 = true) ∧
      (s.keeper.limiting = true → sum < 147000 → t.keeper = { s.keeper with limiting := false } ∧ t.rd Reg.RAIL0_P_TOTAL = w32 sum ∧
        ∀ r ∈ [2, 3], regulating s r = true → railState t r = 2 ∧ t.b (Reg.RAIL0_RAIL_STATUS r) 12 = false) ∧
      (s.keeper.limiting = true → 147000 ≤ sum → t.keeper = { s.keeper with capVsp := cap 2, capVsn := cap 3 } ∧
        t.rd Reg.RAIL0_P_TOTAL = w32 (max rest (min sum 150000)) ∧ regsKept [Reg.RAIL0_P_TOTAL] s t)) ∧
  (∀ (s : State) (w : Word), s.on = true → kOn s = true →
    ∃ t, exec (.pvlOverload w) s = .next t ∧ t.rd Reg.RAIL0_PVL_POWER = w ∧
      t.keeper.pvlTold = (decide (15000 < w.toNat) || (s.keeper.pvlTold && decide (14000 ≤ w.toNat))) ∧
      (15000 < w.toNat → s.keeper.pvlTold = false → noted .pvlOverload t) ∧ regsKept [Reg.RAIL0_PVL_POWER] s t) ∧
  (∀ s : State, kOn s = true →
    ∃ t, exec .pvlLoss s = .next t ∧
      (if pvlDown s = true ∧ (kState s = 3 ∨ kState s = 4) then kState t ∈ [1, 5, 7]
       else kState t = kState s ∧ (∀ r ∈ pvlRails, railState t r = if railLatched s r = true then 5 else 0) ∧
         ∀ a, a ∉ Reg.RAIL0_RAIL_SUMMARY :: pvlRails.map Reg.RAIL0_RAIL_STATUS → t.rd a = s.rd a)) ∧
  (∀ s : State, chanUp s = true →
    ∃ t, exec .keeperLinkLost s = .next t ∧ chanUp t = false ∧ t.keeper = { s.keeper with linkGone := true } ∧
      noted .keeperLinkLost t ∧ regsKept [Reg.RAIL2_KEEPER_STATUS] s t))

/-- R117, R403, R416, R423: a rail or gate register that no ARMED transaction has staged takes a value that a commit would take;
FAULT_CLEAR clears the latches it names, in OFF and LOCKED only; a gate output in fault is held at VGL.
R424, R425: three readings of a loop in a row above its threshold declare it open, which GATES_OFF answers by holding the head's outputs
and PANEL_OFF by clearing PANEL_REQ; CRACK_ACK releases the loops that have read closed three times in a row; a thermistor outside its range
is invalid and reported as it becomes so, and PANEL_TEMP is the highest valid one. That a FAULT_CLEAR which names rails in
another state raises REG_REFUSED is the model's choice (log entry 32), and so is the temperature that a resistance stands for (49).
Completed here: `railTargetWrite`, `faultClear`, `gateOutputFault`, `crackLoopMeasurement`, `crackAck`, `thermistorRead`. -/
def Obligations.RailWritesAndCrackLoops : Prop :=
  ((∀ (s : State) (req : Requester) (a : Nat) (v : Word), railReg a = true → railOpen s req (a / 0x1000 * 0x1000) a →
    ∃ t, exec (.railTargetWrite req a v) s = .next t ∧
      (if armedAt s a = false ∧ badWrite s [] [(a, v &&& (regInfo a).2)] = none
       then t.rd a = regMasked s a v ∧ t = { s with regs := t.regs } ∧ ∀ x, x ≠ a → t.rd x = s.rd x
       else noted .regRefused t ∧ regsKept [] s t)) ∧
  (∀ (s : State) (req : Requester) (v : Word), railOpen s req 0x80000 Reg.RAIL0_FAULT_CLEAR →
    ∃ t, exec (.faultClear req v) s = .next t ∧
      (fld v 0 13 ≠ 0 → kState s ≠ 1 → kState s ≠ 7 → noted .regRefused t ∧
        t.keeper = (if bit v 31 = true then { s.keeper with gateClear := [0, 1, 2, 3] } else s.keeper) ∧ regsKept [] s t) ∧
      (kState s = 1 ∨ kState s = 7 →
        (∀ r ∈ railList, railLatched s r = true → railState t r = (if bit v r then 0 else 5) ∧ (bit v r = true → attempts t r = 0)) ∧
        kState t = (if kState s = 7 ∧ criticalLatched t = true then 7 else 1)) ∧
      (bit v 31 = true → t.keeper.gateClear = [0, 1, 2, 3])) ∧
  (∀ (s : State) (h : Fin 4) (o : Fin 17), s.on = true → h.val ∈ s.keeper.gateRun → s.b (Reg.RAIL1_GATE_STATUS h) o = false →
    ∃ t, exec (.gateOutputFault h o) s = .next t ∧ t.b (Reg.RAIL1_GATE_STATUS h) o = true ∧ noted .gateOutputFault t ∧
      tabGet (fun _ => 0) t.keeper.gateHeld h = (tabGet (fun _ => 0) s.keeper.gateHeld h ||| 2 ^ o.val) ∧
      t.keeper.gateRun = s.keeper.gateRun ∧ (gateLevel t h).testBit o = false ∧ regsKept [Reg.RAIL1_GATE_STATUS h] s t)) ∧
  ((∀ (s : State) (l : List Nat), s.on = true → kOn s = true → s.f Reg.MAINT_PROFILE_STATUS 4 4 ≠ 3 →
    ∃ t, exec (.crackLoopMeasurement l) s = .next t ∧ ∀ c, c < 6 →
      let run := if crackThreshold s c < l.getD c 0 then min 3 (tabGet (fun _ => 0) s.keeper.crackRun c + 1) else 0
      tabGet (fun _ => 0) t.keeper.crackRun c = run ∧
      tabGet (fun _ => 0) t.keeper.crackOk c = (if l.getD c 0 < crackThreshold s c then min 3 (tabGet (fun _ => 0) s.keeper.crackOk c + 1) else 0) ∧
      t.rd (Reg.RAIL1_CRACK_R c) = w32 (min (l.getD c 0) 65535) ∧
      t.b Reg.RAIL1_CRACK_STATUS c = decide (run = 3) ∧ crackLatched t c = (crackLatched s c || decide (run = 3)) ∧
      (run = 3 → crackLatched s c = false → noted .crackDetected t ∧ (crackAction s c = 2 → panelReq t = false) ∧
        (crackAction s c = 1 → c < 4 → t.f (Reg.RAIL1_GATE_STATUS c) 0 16 = 0xFFFF))) ∧
  (∀ (s : State) (req : Requester) (v : Word), railOpen s req 0x81000 Reg.RAIL1_CRACK_ACK →
    let closed := fun c => decide (tabGet (fun _ => 0) s.keeper.crackOk c = 3)
    ∃ t, exec (.crackAck req v) s = .next t ∧
      (∀ c, c < 6 → crackLatched t c = (crackLatched s c && !(bit v c && closed c))) ∧
      (∀ c, c < 6 → bit v c = true → closed c = false → noted .regRefused t) ∧
      regsKept (Reg.RAIL1_CRACK_STATUS :: (List.range 4).map Reg.RAIL1_GATE_STATUS ++ optRegs) s t) ∧
  (∀ (s : State) (ohms : List Nat), s.on = true →
    let bad := fun i => decide (ohms.getD i 0 < 100 ∨ 2000000 < ohms.getD i 0)
    ∃ t, exec (.thermistorRead ohms) s = .next t ∧
      (∀ i, i < 8 → t.rd (Reg.RAIL1_TEMP i) = (if bad i then 0 else setFld 0x10000 0 16 (u64 (thermTemp s i (ohms.getD i 0))))) ∧
      (∀ i, i < 8 → bad i = true → s.b (Reg.RAIL1_TEMP i) 16 = true → noted .thermistorInvalid t) ∧
      t.rd Reg.RAIL1_PANEL_TEMP = (match highestTemp t with | some x => setFld 0x10000 0 16 (u64 x) | none => 0) ∧
      (bandNow t = none → s.opt.noBand = false → noted .tempUnavailable t) ∧
      regsKept (Reg.RAIL1_PANEL_TEMP :: (List.range 8).map Reg.RAIL1_TEMP ++ optRegs) s t))

/-- R426, R427, R431, R568: HVIN between 33 and 36 V is reported; its loss is counted and takes the keeper to HOLDUP or without supply;
the collapse of the hold-up bus cuts every rail; a keeper that starts reads its record and is OFF, or LOCKED with a critical rail
latched. That a rail register reads 0 while the journal holds no record is the model's choice (log entry 32).
Completed here: `hvinLow`, `hvinLoss`, `holdupBusCollapse`, `keeperStart`. -/
def Obligations.InputLossAndKeeperStart : Prop :=
  (∀ (s : State) (mv : Word), s.on = true → kState s ≠ 0 → kState s ≠ 6 →
    let low := decide (33000 ≤ mv.toNat ∧ mv.toNat < 36000)
    ∃ t, exec (.hvinLow mv) s = .next t ∧ t.rd Reg.RAIL0_HVIN = mv ∧ t.b Reg.RAIL2_KEEPER_STATUS 5 = low ∧ kState t = kState s ∧
      (low = true → s.b Reg.RAIL2_KEEPER_STATUS 5 = false → noted .hvinLow t) ∧
      regsKept [Reg.RAIL0_HVIN, Reg.RAIL2_KEEPER_STATUS] s t) ∧
  (∀ s : State, kState s ≠ 0 → kState s ≠ 6 →
    ∃ t, exec .hvinLoss s = .next t ∧ t.rd Reg.RAIL2_HVIN_LOSSES = satAdd (s.rd Reg.RAIL2_HVIN_LOSSES) 1 0xFFFFFFFF ∧
      (chanUp s = true → noted .hvinLost t) ∧
      (kState s = 5 → kState t = 6) ∧ (kState s = 3 ∨ kState s = 4 → kState t ∈ [0, 6]) ∧
      (kState s = 1 ∨ kState s = 2 ∨ kState s = 7 → kState t = 0 ∧ ∀ r ∈ railList, railState t r = if railLatched s r = true then 5 else 0) ∧
      (kState s = 3 → t.rd Reg.RAIL2_SEQ_RESULT = w32 (s.keeper.last + 3 * 16)) ∧
      (kState s = 2 → t.rd Reg.RAIL2_SEQ_RESULT = w32 (3 * 16))) ∧
  (∀ s : State, kState s = 6 →
    ∃ t, exec .holdupBusCollapse s = .next t ∧ kState t = 0 ∧ t.keeper.gateRun = [] ∧
      ∀ r ∈ railList, railState t r = if railLatched s r = true then 5 else 0) ∧
  (∀ (s : State) (l : List PreReading), kState s = 0 →
    ∃ t, exec (.keeperStart l) s = .next t ∧ kState t = (if criticalLatched s = true then 7 else 1) ∧ panelReq t = panelReq s ∧
      t.b Reg.RAIL2_KEEPER_STATUS 3 = false ∧ t.keeper.restoreDue = true ∧
      t.keeper.autoOn = (panelReq s && !criticalLatched s) ∧ t.keeper.record = s.keeper.record ∧
      (∀ r ∈ railList, t.rd (Reg.RAIL0_TARGET r) = w32 (leAt s.keeper.record (4 + 32 * r) 4)) ∧
      t.rd Reg.RAIL2_PROFILE_CRC = (if s.keeper.record.isEmpty then 0 else crc32c s.keeper.record))

/-! ### The optic layer (R432 to R456) -/

/-- R435, R446: BATCH_CMD: STAGE forms the change set of the request map, START begins the STAGED batch or marks it to follow the RUNNING
one, CANCEL discards it; a command that is not acted on is refused and changes nothing. That STAGE is refused while OPT is
disabled, and every command while the keeper's channel is down, is the model's choice (log entry 33).
Completed here: `batchStage`, `batchStart`, `batchCancel`. -/
def Obligations.BatchCommands : Prop :=
  (∀ (s : State) (req : Requester) (id : Byte), cfgGate s req Reg.OPT_BATCH_CMD none = .go →
    ∃ t, exec (.batchStage req id) s = .next t ∧
      (chanUp s = false ∨ enabled s optBase = false ∨ s.opt.staged.isSome = true ∨ id = 0 →
        noted .batchRefused t ∧ t.opt = s.opt ∧ regsKept [] s t) ∧
      (chanUp s = true → enabled s optBase = true → s.opt.staged = none → id ≠ 0 →
        t.f Reg.OPT_BATCH_STATUS 8 8 = id.toNat ∧ t.opt.marked = false ∧ t.opt.run = s.opt.run ∧
        (s.mem.ecc = [] → s.mem.dead = [] → t.opt.staged = some (id.toNat, (List.range (optRows s)).filterMap fun r =>
          if requestRow s r = futureRow s r then none
          else some ⟨r, without (requestRow s r) (futureRow s r), without (futureRow s r) (requestRow s r), 0⟩)))) ∧
  (∀ (s : State) (req : Requester) (id : Byte), cfgGate s req Reg.OPT_BATCH_CMD none = .go →
    ∃ t, exec (.batchStart req id) s = .next t ∧
      (∀ cs, s.opt.staged = some (id.toNat, cs) → chanUp s = true → enabled s optBase = true → id ≠ 0 →
        (s.opt.run.isSome = true → t.opt = { s.opt with marked := true } ∧ t.b Reg.OPT_BATCH_STATUS 19 = true ∧ regsKept optRegs s t) ∧
        (s.opt.run = none → opticReady s = true → t.opt.staged = none ∧
          (match t.opt.run with
           | some x => x.id = id.toNat ∧ x.band = (bandNow s).getD 0 ∧ x.rows ≠ []
           | none => noted .batchDone t)) ∧
        (s.opt.run = none → opticReady s = false → noted .batchRefused t ∧ t.opt = s.opt ∧ regsKept [] s t)) ∧
      (chanUp s = false ∨ enabled s optBase = false ∨ id = 0 ∨ s.opt.staged.map (·.1) ≠ some id.toNat →
        noted .batchRefused t ∧ t.opt = s.opt ∧ regsKept [] s t)) ∧
  (∀ (s : State) (req : Requester) (id : Byte), cfgGate s req Reg.OPT_BATCH_CMD none = .go →
    ∃ t, exec (.batchCancel req id) s = .next t ∧
      (if chanUp s = true ∧ id ≠ 0 ∧ s.opt.staged.map (·.1) = some id.toNat
       then t.opt = { s.opt with staged := none, marked := false } ∧ t.f Reg.OPT_BATCH_STATUS 16 3 = 4 ∧ regsKept optRegs s t
       else noted .batchRefused t ∧ t.opt = s.opt ∧ regsKept [] s t))

/-- R438, R440, R447, R448: a row phase that ends enters the DC ledger of every cell; the row update that ends drives its cells and shows
when they settle; buckets refill by 456/3600 of a token, up to 10,000; cells that wait for a token start a batch of their own.
R450, R452, R453: a crack-loop reading above its threshold during a batch cuts the row: the row is UNCERTAIN with its prior states, and
the batch ends TERMINATED; an enable of OPT writes every row's record with its settle time in the past. That an enable writes the
records beyond the geometry too is the model's reading (log entry 33).
Completed here: `rowPhaseEnd`, `rowUpdateEnd`, `tokenRefill`, `autoBatchStart`, `batchCrackMeasurement`, `optEnable`. -/
def Obligations.RowsTokensAndCuts : Prop :=
  ((∀ (s : State) (x : Batch) (j : RowJob) (rest : List RowJob), s.opt.run = some x → x.rows = j :: rest → phasesOver s x = false →
    optCols s ≤ 320 →
    let q := phaseNow s x
    let d := fun (r c : Nat) => vus ((if r = j.row then levelMv s x.band q.row true else 0) - levelMv s x.band (colCode j q c) false) q.dur
    ∃ t, exec .rowPhaseEnd s = .next t ∧ t.regs = s.regs ∧ t.opt.rows = s.opt.rows ∧ t.opt.run.map (·.phase) = some (x.phase + 1) ∧
      ∀ r c, r < optRows s → c < optCols s →
        ledgerOf t (cellKey r c) = (if d r c = 0 then ledgerOf s (cellKey r c) else sat32 (ledgerOf s (cellKey r c) + d r c))) ∧
  (∀ (s : State) (x : Batch) (j : RowJob) (rest : List RowJob), s.on = true → s.opt.run = some x → x.rows = j :: rest →
    phasesOver s x = true →
    let settle := s.now + bandSettle s.keeper.wave x.band * 1000
    ∃ t, exec .rowUpdateEnd s = .next t ∧ (optRow t j.row).driven = (without (optRow s j.row).driven j.cells ||| j.toClear) ∧
      (optRow t j.row).settle = settle ∧ (optRow t j.row).uncertain = false ∧
      t.rd64 Reg.OPT_LAST_SETTLE_LO Reg.OPT_LAST_SETTLE_HI = settle % 2 ^ 64 ∧
      (x.stop = false → rest ≠ [] → t.opt.run.map (fun y => (y.id, y.rows, y.count)) = some (x.id, rest, x.count + 1)) ∧
      (x.stop = true ∨ rest = [] → noted .batchDone t)) ∧
  (∀ s : State, kState s ≠ 0 → kState s ≠ 6 → s.b Reg.RAIL2_KEEPER_STATUS 5 = false → tabWf (fun _ => 0) s.opt.spent = true →
    ∃ t, exec .tokenRefill s = .next t ∧ t = { s with opt := { s.opt with spent := t.opt.spent } } ∧
      ∀ k, tabGet (fun _ => 0) s.opt.spent k ≤ bucketCap → bucketOf t k = min bucketCap (bucketOf s k + 456)) ∧
  (∀ s : State, s.on = true → enabled s optBase = true → s.b Reg.OPT_OPT_CFG 0 = true → s.opt.run = none → s.opt.staged = none →
    opticReady s = true → redriveRows s ≠ [] ∨ autoSet s ≠ [] →
    ∃ t, exec .autoBatchStart s = .next t ∧
      (match t.opt.run with
       | some x => x.id = 0 ∧ x.band = (bandNow s).getD 0 ∧ x.rows ≠ []
       | none => noted .batchDone t))) ∧
  ((∀ (s : State) (x : Batch) (j : RowJob) (rest : List RowJob) (o4 o5 us : Nat), s.on = true → s.opt.run = some x → x.rows = j :: rest →
    ∃ t, exec (.batchCrackMeasurement o4 o5 us) s = .next t ∧ t.rd (Reg.RAIL1_CRACK_R 4) = w32 (min o4 65535) ∧
      t.rd (Reg.RAIL1_CRACK_R 5) = w32 (min o5 65535) ∧
      (if crackThreshold s 4 < o4 ∨ crackThreshold s 5 < o5 then
         noted .batchTerminated t ∧ noted .rowsUncertain t ∧ (optRow t j.row).uncertain = true ∧ (optRow t j.row).driven = x.prior ∧
         (s.opt.marked = false → t.rd Reg.OPT_TERMINATIONS = satAdd (s.rd Reg.OPT_TERMINATIONS) 1 0xFFFFFFFF) ∧
         (s.f Reg.MAINT_PROFILE_STATUS 4 4 ≠ 3 → ∀ c ∈ [4, 5], tabGet (fun _ => 0) t.keeper.crackRun c =
           if crackThreshold s c < (if c = 4 then o4 else o5) then min 3 (tabGet (fun _ => 0) s.keeper.crackRun c + 1) else 0)
       else t.opt = s.opt ∧ t.keeper = { s.keeper with crackRun := t.keeper.crackRun, crackOk := t.keeper.crackOk } ∧
         (∀ c ∈ [4, 5], tabGet (fun _ => 0) t.keeper.crackRun c = 0 ∧ t.b Reg.RAIL1_CRACK_STATUS c = false) ∧
         ∀ a, a ∉ [Reg.RAIL1_CRACK_R 4, Reg.RAIL1_CRACK_R 5, Reg.RAIL1_CRACK_STATUS] → t.rd a = s.rd a)) ∧
  (∀ (s : State) (req : Requester), cfgGate s req (Reg.PAGE_CTRL optBase) none = .go →
    ∃ t, exec (.optEnable req) s = .next t ∧
      (enabled s optBase = true → t = s) ∧
      (enabled s optBase = false → quiesced s optBase = false → noted .regRefused t ∧ t.opt = s.opt ∧ regsKept [] s t) ∧
      (enabled s optBase = false → quiesced s optBase = true → enabled t optBase = true ∧ quiesced t optBase = false ∧
        (∀ r, r < 160 → optRow t r = { optRow s r with settle := min (optRow s r).settle s.now } ∧
          (chanUp s = false → r ∈ t.opt.unwritten)) ∧
        dataKept (Reg.PAGE_CTRL optBase :: Reg.PAGE_STATUS optBase :: optRegs) s t)))

/-! ### HBM (R458 to R482) -/

/-- R458, R473: power-on training maps the trained channels in ascending order to the logical ones, keeps the rest as spares, retires what
did not train, sets USABLE_TOP, and MEMORY is reached; a stack's temperature is shown when it is read, and SYSTEM_TOP is written before
FEATURES_ACTIVE only. That the logical channels are backed before any PC becomes a spare is the model's reading (log entry 5).
Completed here: `memoryTrainingComplete`, `stackTemperatureRead`, `systemTopWrite`. -/
def Obligations.MemoryTraining : Prop :=
  (∀ (s : State) (trained : BitVec 64) (t0 t1 : Int), s.on = true → s.power.fastClk = true → memReady s = false → 1 ≤ s.stage →
    s.stage ≤ 2 →
    let good := (List.range 64).filter fun p => trained.getLsbD p && !s.mem.retired.contains p
    ∃ t, exec (.memoryTrainingComplete trained t0 t1) s = .next t ∧ memReady t = true ∧ t.stage = 3 ∧ noted .memReady t ∧
      (∀ p, p < 64 → pcState t p = (if p ∈ good.take 62 then 0 else if p ∈ good then 1 else 6)) ∧
      (∀ l, l < 62 → l < good.length → t.f (Reg.MEM4_CHAN_MAP l) 0 6 = good.getD l 0 ∧ pcLogical t (good.getD l 0) = l) ∧
      usableTop t = topFor (lostCount t)) ∧
  (∀ (s : State) (k : Fin 2) (temp : Int), s.on = true → s.power.fastClk = true →
    ∃ t, exec (.stackTemperatureRead k temp) s = .next t ∧
      t.rd (Reg.STACK_STACK_STATUS k) = w32 ((temp % 256).toNat + (if 85 ≤ temp then 256 else 0) + 512) ∧
      (s.powerState = 2 → ∀ a, a ≠ Reg.STACK_STACK_STATUS k → t.rd a = s.rd a)) ∧
  (∀ (s : State) (req : Requester) (v : BitVec 64), cfgGate s req Reg.MEM4_SYSTEM_TOP_LO none = .go →
    ∃ t, exec (.systemTopWrite req v) s = .next t ∧
      (if s.b Reg.FEAT_FEAT_STATUS 0 = false ∧ systemTopOk v.toNat = true
       then systemTop t = v.toNat ∧ t = { s with regs := t.regs } ∧
         ∀ a, a ≠ Reg.MEM4_SYSTEM_TOP_LO → a ≠ Reg.MEM4_SYSTEM_TOP_HI → t.rd a = s.rd a
       else noted .regRefused t ∧ regsKept [] s t))

/-- R461, R462, R463, R464: a request waits at the channel its address maps to (R458), wakes the memory, and is served by a command slot
with its data, or its read poisoned; one that waits past CLASS_AGE is counted as aged; requests held for 10 ms are reported; a new
refresh window clears the tables.
R465, R466: with nothing to do and enough tolerance memory enters power-down, or self-refresh in two steps; a request or a low tolerance
cancels the entry or begins the exit, and a request that waits for it is counted; when the exit completes memory is awake.
Completed here: `memoryRequest`, `requestAged`, `ceilingHoldTimeout`, `refreshWindow`, `powerDownEntry`, `selfRefreshEntry`,
`sleepExit`, `sleepExitComplete`. -/
def Obligations.MemoryRequestsAndSleep : Prop :=
  ((∀ (s : State) (pc : Fin 64) (r : MemReq), memReady s = true → s.powerState ≠ 2 →
    ∃ t, exec (.memoryRequest pc (some r)) s = .next t ∧
      t.mem.queue = s.mem.queue ++ [⟨s.mem.nextSeq, memPc s pc r, r, s.now, false⟩] ∧
      t.mem.nextSeq = s.mem.nextSeq + 1 ∧ t.mem.hbm = s.mem.hbm ∧ (memSleep s ≠ 0 → memSleep t = 0 ∨ t.mem.exiting = true) ∧
      ∀ a, a ∉ [Reg.MEM0_MEM_STATUS, Reg.MEM0_SR_CANCELLED, Reg.MEM0_SR_LATE_WAITS] → t.rd a = s.rd a) ∧
  (∀ (s : State) (pc : Fin 64) (w : MemWait), memReady s = true → s.powerState ≠ 2 → memSleep s = 0 →
    memPick (ageIf (holdEval s) fun x => decide (x.pc = pc.val)) pc = some w →
    ∃ t, exec (.memoryRequest pc none) s = .next t ∧ (∀ x ∈ t.mem.queue, x.seq ≠ w.seq) ∧
      (match w.req.write with
       | some l => t.mem.served = some (w.seq, false, l) ∧ bytesPut false w.req.addr l s t
       | none => t.mem.served = some (w.seq, rangeBad s w.req.addr w.req.len, hbmBytes s w.req.addr w.req.len) ∧
           t.mem.hbm = s.mem.hbm)) ∧
  (∀ (s : State) (w : MemWait), s.on = true → s.mem.queue.filter (fun x => decide (x.seq = w.seq)) = [w] → w.aged = false →
    overAge s w = true →
    ∃ t, exec (.requestAged w.seq) s = .next t ∧ { w with aged := true } ∈ t.mem.queue ∧ t.mem.queue.length = s.mem.queue.length ∧
      t.rd (Reg.MEM0_CLASS_AGED w.req.cls) = satAdd (s.rd (Reg.MEM0_CLASS_AGED w.req.cls)) 1 0xFFFFFFFF ∧
      (w.req.cls = 0 → tabGet (fun _ => none) s.mem.sc0Told w.req.requester.head ≠ some (headOf s w.req.requester.head).started →
        noted .sc0Aged t) ∧
      regsKept [Reg.MEM0_CLASS_AGED w.req.cls, Reg.MEM0_MEM_STATUS] s t) ∧
  (∀ (s : State) (u : Nat), s.on = true → s.mem.heldSince = some u → u + 10000000 ≤ s.now →
    s.f Reg.MEM0_CEILING 0 7 * (activeRate s * 10000) ≤ movedIn s 10000 * 100000 → (∀ v, s.mem.ceilTold = some v → v + 1000000000 ≤ s.now) →
    ∃ t, exec .ceilingHoldTimeout s = .next t ∧ noted .ceilingExceeded t ∧ t.mem.ceilTold = some s.now ∧ regsKept [] s t) ∧
  (∀ s : State, (∃ t, exec .refreshWindow s = .next t ∧ t.mem.acts = [] ∧ t.mem.openRow = [] ∧ t.mem.hbm = s.mem.hbm ∧
      t.mem.queue = s.mem.queue) ∧
    (s.mem.mig = none → exec .refreshWindow s = .next { s with mem := { s.mem with acts := [], openRow := [] } }))) ∧
  ((∀ s : State, maySleep s 200 = true → s.b Reg.MEM0_SLEEP_CTRL 0 = true → memSleep s = 0 →
    ∃ t, exec .powerDownEntry s = .next t ∧ memSleep t = 1 ∧ t = { s with regs := t.regs } ∧
      ∀ a, a ≠ Reg.MEM0_MEM_STATUS → t.rd a = s.rd a) ∧
  (∀ s : State, maySleep s 1300 = true → s.b Reg.MEM0_SLEEP_CTRL 1 = true → s.mem.exiting = false →
    (memSleep s = 3 → ∃ t, exec .selfRefreshEntry s = .next t ∧ memSleep t = 2 ∧ t.mem = s.mem ∧
      t.rd Reg.MEM0_SR_ENTRIES = satAdd (s.rd Reg.MEM0_SR_ENTRIES) 1 0xFFFFFFFF ∧
      ∀ a, a ≠ Reg.MEM0_MEM_STATUS → a ≠ Reg.MEM0_SR_ENTRIES → t.rd a = s.rd a) ∧
    (memSleep s ≠ 2 → memSleep s ≠ 3 → s.mem.idleSince + 100 * s.f Reg.MEM0_SLEEP_CTRL 8 8 ≤ s.now →
      ∃ t, exec .selfRefreshEntry s = .next t ∧ memSleep t = 3 ∧ t.mem = { s.mem with openRow := [] } ∧
        ∀ a, a ≠ Reg.MEM0_MEM_STATUS → t.rd a = s.rd a)) ∧
  (∀ (s : State) (req : Bool), s.powerState ≠ 2 → memSleep s ≠ 0 →
    req = true ∨ minTolerance s < (if memSleep s = 1 then 200 else 1300) →
    ∃ t, exec (.sleepExit req) s = .next t ∧
      (if memSleep s = 3 then memSleep t = 0 ∧ t.mem = s.mem ∧
         t.rd Reg.MEM0_SR_CANCELLED = satAdd (s.rd Reg.MEM0_SR_CANCELLED) 1 0xFFFFFFFF ∧
         ∀ a, a ≠ Reg.MEM0_MEM_STATUS → a ≠ Reg.MEM0_SR_CANCELLED → t.rd a = s.rd a
       else t.mem = { s.mem with exiting := true } ∧
         t.rd Reg.MEM0_SR_LATE_WAITS = (if req = true ∧ memSleep s = 2 then satAdd (s.rd Reg.MEM0_SR_LATE_WAITS) 1 0xFFFFFFFF
           else s.rd Reg.MEM0_SR_LATE_WAITS) ∧ ∀ a, a ≠ Reg.MEM0_SR_LATE_WAITS → t.rd a = s.rd a)) ∧
  (∀ s : State, s.mem.exiting = true → s.powerState ≠ 2 →
    ∃ t, exec .sleepExitComplete s = .next t ∧ memSleep t = 0 ∧ t.mem = { s.mem with exiting := false, idleSince := s.now } ∧
      ∀ a, a ≠ Reg.MEM0_MEM_STATUS → t.rd a = s.rd a))

/-- R469, R470, R475, R476, R480: the commands from the one in error on are replayed and counted; a channel whose interface fails is
retrained, goes to safe mode to migrate, or loses its data, which is then poisoned or unbacked; scrub reads one block a burst;
ECC_INJECT arms an injection.
Completed here: `parityError`, `quickRetrain`, `safeMode`, `dataLost`, `scrubBurst`, `eccInjectWrite`. -/
def Obligations.MemoryFailures : Prop :=
  (∀ (s : State) (p : Fin 64) (first n : Nat), s.on = true → memReady s = true → s.powerState ≠ 2 → 1 ≤ n →
    ∃ t, exec (.parityError p first n) s = .next t ∧ noted .parityReplayed t ∧
      .reissue p ((tabGet (fun _ => []) s.mem.kept p.val).drop first) ∈ t.out ∧
      t.rd (Reg.STACK_PARITY_REPLAYS (pcStack p) (p % 32)) =
        satAdd (s.rd (Reg.STACK_PARITY_REPLAYS (pcStack p) (p % 32))) (min n 3) 0xFFFFFFFF ∧
      regsKept [Reg.STACK_PARITY_REPLAYS (pcStack p) (p % 32)] s t) ∧
  (∀ (s : State) (p : Fin 64) (ok : Bool), s.on = true → memReady s = true → s.powerState ≠ 2 →
    ∃ t, exec (.quickRetrain p ok) s = .next t ∧ noted .quickRetrain t ∧ t.mem = s.mem ∧ regsKept [] s t) ∧
  (∀ (s : State) (p : Fin 64), s.on = true → memReady s = true → s.powerState ≠ 2 → pcServes s p = true → pcState s p ≤ 3 →
    (∀ m ∈ s.mem.mig, m.tgt ≠ p.val) → (∀ m ∈ s.mem.due, m.tgt = 64) →
    ∃ t, exec (.safeMode p) s = .next t ∧ noted .safeMode t ∧ p.val ∈ t.mem.safe ∧
      (s.mem.mig = none → pcState t p = 2 ∨ pcState t p = 5)) ∧
  (∀ (s : State) (p : Fin 64), s.on = true → memReady s = true → s.powerState ≠ 2 → pcServes s p = true →
    (∀ m ∈ s.mem.due, m.tgt = 64) →
    let counted := (s.mem.mig.toList ++ s.mem.due).any fun m => decide (m.src = p.val) && m.shrunk
    ∃ t, exec (.dataLost p) s = .next t ∧ noted .dataLost t ∧ pcState t p = 7 ∧ p.val ∉ t.mem.safe ∧
      (if counted = true ∨ mayBorrow s = true
       then t.b (Reg.MEM4_CHAN_MAP (pcLogical s p)) 8 = true ∧ pcLogical s p ∈ t.mem.dead ∧ (counted = false → noted .bulkShrunk t) ∧
         (counted = true → (∀ m ∈ s.mem.due, m.src = p.val) → t.mem.lost = s.mem.lost)
       else t.b (Reg.MEM4_CHAN_MAP (pcLogical s p)) 9 = true)) ∧
  (∀ (s : State) (p : Fin 64) (a : Nat) (e : EccResult), s.on = true → memReady s = true → s.powerState ≠ 2 →
    (pcState s p = 1 ∧ a < chanRows * 1024) ∨ (a < usableTop s ∧ (hbmMap s a).1 = p.val ∧ pcServes s p = true) →
    ∃ t, exec (.scrubBurst p a e) s = .next t ∧
      t.mem.scrubbed = (if scrubTotal s ≤ s.mem.scrubbed + 1 then 0 else s.mem.scrubbed + 1) ∧
      t.rd Reg.MEM3_SCRUB_PASSES = (if scrubTotal s ≤ s.mem.scrubbed + 1 then satAdd (s.rd Reg.MEM3_SCRUB_PASSES) 1 0xFFFFFFFF
        else s.rd Reg.MEM3_SCRUB_PASSES) ∧
      (e = .uncorrected → noted .scrubUncorrected t)) ∧
  (∀ (s : State) (req : Requester) (v : Word), cfgGate s req Reg.MEM3_ECC_INJECT none = .go →
    exec (.eccInjectWrite req v) s = .next (s.wr Reg.MEM3_ECC_INJECT (v &&& 3)))

/-- R471, R472, R474, R477: a channel that is due, or that MEM_CMD names, migrates to the lowest free spare; when the copy completes the
logical channel is served there, and its old one retrains, to be a spare or to be retired; SHRINK_ACK lets a held shrink proceed.
That a PC already due moves once, and a FAILURE before the rest, is the model's reading (log entry 48).
Completed here: `migrationStart`, `migrationComplete`, `offlineRetrainComplete`, `memCmdRetire`, `memCmdRetrain`, `shrinkAck`. -/
def Obligations.ChannelMigration : Prop :=
  (∀ (s : State) (p : Fin 64) (reason : MigReason) (u : Nat), memReady s = true → s.powerState ≠ 2 → pcServes s p = true →
    migMeets s p reason = true → s.mem.mig = none → s.mem.due = [] → s.mem.shrink = none → (freeSpares s).head? = some u →
    ∃ t, exec (.migrationStart p reason) s = .next t ∧ t.mem.mig = some ⟨p, pcLogical s p, migCode reason, false, u, false, 0, s.now⟩ ∧ t.mem.due = [] ∧
      pcState t p = 2 ∧ pcState t u = 3 ∧ pcLogical t u = pcLogical s p ∧
      t.rd Reg.MEM4_MIGRATION = w32 (p + 64 * u + 4096 * migCode reason) ∧
      regsKept [pcReg p, pcReg u, Reg.MEM4_MIGRATION, Reg.MEM4_SPARE_STATUS, Reg.MEM0_MEM_STATUS, Reg.MEM0_SR_CANCELLED,
        Reg.MEM0_SR_LATE_WAITS] s t) ∧
  (∀ (s : State) (m : Mig), s.on = true → s.powerState ≠ 2 → s.mem.mig = some m → m.src < 64 → m.tgt < 64 →
    m.src ≠ m.tgt → m.chan < 62 → s.mem.due = [] →
    ∃ t, exec .migrationComplete s = .next t ∧ t.mem.mig = none ∧ noted .migrationDone t ∧ t.f (Reg.MEM4_CHAN_MAP m.chan) 0 6 = m.tgt ∧
      pcState t m.tgt = 0 ∧ pcLogical t m.tgt = m.chan ∧ pcState t m.src = 4 ∧ pcLogical t m.src = 0x3F ∧
      t.rd Reg.MEM4_MIGRATIONS = satAdd (s.rd Reg.MEM4_MIGRATIONS) 1 0xFFFFFFFF ∧ t.f Reg.MEM4_MIGRATION 16 10 = 1000 ∧
      (∀ p, p < 64 → p ≠ m.src → p ≠ m.tgt → t.rd (pcReg p) = s.rd (pcReg p)) ∧
      dataKept [Reg.MEM4_CHAN_MAP m.chan, Reg.MEM4_MIGRATIONS, Reg.MEM4_MIGRATION, Reg.MEM4_SPARE_STATUS] s t) ∧
  (∀ (s : State) (p : Fin 64) (ok : Bool), s.on = true → s.powerState ≠ 2 → pcState s p = 4 → s.mem.due = [] →
    let f := tabGet (fun _ => 0) s.mem.fate p.val
    ∃ t, exec (.offlineRetrainComplete p ok) s = .next t ∧
      (if ok = true ∧ f < 16 ∧ f ≠ 3 then pcState t p = 1 ∧ noted .retrainDone t ∧ t.mem.retired = s.mem.retired
       else pcState t p = 6 ∧ noted .pcRetired t ∧ p.val ∈ t.mem.retired ∧
         (p.val < 32 → t.b Reg.MEM4_RETIRED_MASK_LO p = true) ∧ (32 ≤ p.val → t.b Reg.MEM4_RETIRED_MASK_HI (p - 32) = true))) ∧
  (∀ (s : State) (req : Requester) (p : Fin 64) (retire : Bool) (c : Instr),
    c = (if retire then Instr.memCmdRetire req p else .memCmdRetrain req p) → cfgGate s req Reg.MEM4_MEM_CMD (some 14) = .go →
    ∃ t, exec c s = .next t ∧
      (pcServes s p = false ∨ freeSpares s = [] → noted .regRefused t ∧ t.mem = s.mem ∧ regsKept [] s t) ∧
      (∀ u, pcServes s p = true → (freeSpares s).head? = some u → s.mem.mig = none → s.mem.due = [] → s.mem.shrink = none →
        t.mem.mig = some ⟨p, pcLogical s p, 5, retire, u, false, 0, s.now⟩ ∧ pcState t p = 2 ∧ pcState t u = 3)) ∧
  (∀ (s : State) (req : Requester), cfgGate s req Reg.MEM4_MEM_CMD (some 14) = .go →
    ∃ t, exec (.shrinkAck req) s = .next t ∧ (s.mem.shrink = none → t = s) ∧
      (∀ m, s.mem.shrink = some m → pcServes s m.src = true → mayBorrow s = true → noted .bulkShrunk t ∧
        (s.mem.mig.isSome = true ∨ (∀ x ∈ s.mem.due, x.reason ≠ 4) → t.mem.shrink = none ∧ t.mem.lost = s.mem.lost + 1 ∧
          usableTop t = nextTop s) ∧
        (s.mem.mig.isSome = true → t.mem.mig = s.mem.mig ∧ { m with tgt := 64, shrunk := true } ∈ t.mem.due) ∧
        (s.mem.mig = none → (∀ x ∈ s.mem.due, x.reason ≠ 4) →
          t.mem.mig = some { m with tgt := 64, shrunk := true, copied := 0, seen := s.now })))

/-! ### Serial audio (R483 to R500) -/

/-- R484, R490, R495, R496: an enable of a port with a valid configuration and its rings starts it 10 µs later, or lets a member of a group
wait; GROUP_CMD starts every WAITING member with one anchor. Any other enable is refused.
R484, R486, R487, R493, R494, R500: a write of SLOT_MASK is pending while the port runs; the loss of an external clock and its return are
shown; CONT_CLEAR ends a contention; a record goes to IN_RING with its PHASE; MCLK_CFG is stored, and MCLK goes on at its frequency from
the first edge that device time has not passed. That the first frame after a clock's return has the index that FRAME has reached is
the model's reading (log entry 34).
Completed here: `sapEnable`, `groupCmdStart`, `slotMaskWrite`, `audioClockLoss`, `audioClockReturn`, `contClear`, `audioRecordWrite`,
`mclkCfgWrite`. -/
def Obligations.AudioPortControl : Prop :=
  ((∀ (s : State) (req : Requester) (p : Fin 8), cfgGate s req (Reg.PAGE_CTRL (sapBase p)) none = .go → enabled s (sapBase p) = false →
    ∃ t, exec (.sapEnable req p) s = .next t ∧
      (if quiesced s (sapBase p) = false ∨ portCfgOk s p = false ∨
          (isOutput s p = true ∧ portRing s p (dataRing s p) 0x05 = false) ∨
          ((isOutput s p = true ∨ isInput s p = true) ∧ portRing s p (inRing s p) 0x06 = false)
       then noted .regRefused t ∧ t.audio = s.audio ∧ regsKept [] s t
       else enabled t (sapBase p) = true ∧ quiesced t (sapBase p) = false ∧
         (isOutput s p = true ∨ isInput s p = true →
           (s.b (Reg.SAP_GROUP p) 3 = true → portState t p = 1) ∧
           (s.b (Reg.SAP_GROUP p) 3 = false → portState t p = 2 ∧ portAnchor t p = (s.now + 10000) % 2 ^ 64 ∧
             t.rd (Reg.SAP_MASK_IN_EFFECT p) = s.rd (Reg.SAP_SLOT_MASK p) ∧ (portOf t p).next = 0)) ∧
         ((portOf s p).queue = [] → ∀ a, a ∉ [Reg.PAGE_CTRL (sapBase p), Reg.PAGE_STATUS (sapBase p), Reg.SAP_PORT_STATUS p,
           Reg.SAP_ANCHOR_LO p, Reg.SAP_ANCHOR_HI p, Reg.SAP_FRAME_LO p, Reg.SAP_FRAME_HI p, Reg.SAP_MASK_IN_EFFECT p] →
           t.rd a = s.rd a))) ∧
  (∀ (s : State) (req : Requester) (g : Fin 8), cfgGate s req Reg.SAPM_GROUP_CMD none = .go →
    ∃ t, exec (.groupCmdStart req g) s = .next t ∧ ∀ p, p < 8 →
      (if portState s p = 1 ∧ s.f (Reg.SAP_GROUP p) 0 3 = g.val
       then portState t p = 2 ∧ portAnchor t p = (s.now + 10000) % 2 ^ 64 ∧ (portOf t p).group = g.val
       else portState t p = portState s p ∧ portOf t p = portOf s p))) ∧
  ((∀ (s : State) (req : Requester) (p : Fin 8) (v : Word), cfgGate s req (Reg.SAP_SLOT_MASK p) none = .go →
    ∃ t, exec (.slotMaskWrite req p v) s = .next t ∧
      (if enabled s (sapBase p) = true ∧ 2 ^ slots s p ≤ v.toNat then noted .regRefused t ∧ t.audio = s.audio ∧ regsKept [] s t
       else t.rd (Reg.SAP_SLOT_MASK p) = v ∧ (portState s p = 2 ∨ portState s p = 3 → (portOf t p).pend = some (v.toNat, s.now)) ∧
         (portState s p ≠ 2 → portState s p ≠ 3 → t.audio = s.audio) ∧ ∀ a, a ≠ Reg.SAP_SLOT_MASK p → t.rd a = s.rd a)) ∧
  (∀ (s : State) (p : Fin 8) (range : Bool) (ppm : Word), s.on = true → clockMode s p ≠ 0 → clockLost s p = false →
    portState s p = 2 ∨ portState s p = 3 → clockGone s p range ppm = true →
    ∃ t, exec (.audioClockLoss p range ppm) s = .next t ∧ clockLost t p = true ∧ t.rd (Reg.SAP_RATE_PPM p) = ppm ∧
      noted (.audioClock p) t ∧ t.audio = s.audio ∧ regsKept [Reg.SAP_PORT_STATUS p, Reg.SAP_RATE_PPM p] s t) ∧
  (∀ (s : State) (p : Fin 8), clockLost s p = true →
    ∃ t, exec (.audioClockReturn p) s = .next t ∧ clockLost t p = false ∧ (portOf t p).next = (portOf s p).next - 1 ∧
      (portOf t p).queue = (portOf s p).queue ∧ ∀ a, a ≠ Reg.SAP_PORT_STATUS p → t.rd a = s.rd a) ∧
  (∀ (s : State) (p : Fin 8), clockLost s p = false → exec (.audioClockReturn p) s = .next s) ∧
  (∀ (s : State) (req : Requester) (p : Fin 8) (v : Word), cfgGate s req (Reg.SAP_CONT_CLEAR p) none = .go →
    ∃ t, exec (.contClear req p v) s = .next t ∧ (bit v 0 = false → t = s) ∧
      (bit v 0 = true → contended t p = false ∧ (portOf t p).badPins = [] ∧ (portOf t p).queue = (portOf s p).queue ∧
        ∀ a, a ≠ Reg.SAP_PORT_STATUS p → t.rd a = s.rd a)) ∧
  (∀ (s : State) (p : Fin 8) (h : Word) (l : List Word) (d : Option Nat) (rest : List (List Word × Option Nat)),
    (portOf s p).recs = (h :: l, d) :: rest → ringEnabled s (inRing s p) = true → ringFull s (inRing s p) = false →
    ∃ t, exec (.audioRecordWrite p) s = .next t ∧
      (∃ more, (portOf t p).recs = rest ++ more ∧ ((portOf s p).shut = none → more = [])) ∧
      ringPut (inRing s p) (wordsBytes (setFld h 15 1 (ringPhase s (inRing s p)) :: l)) s t ∧
      t.rd (Reg.RING_PROD (inRing s p)) = s.rd (Reg.RING_PROD (inRing s p)) + 1 ∧
      dataKept [Reg.RING_PROD (inRing s p), Reg.RING_STATUS (inRing s p)] s t) ∧
  (∀ (s : State) (req : Requester) (v : Word), cfgGate s req Reg.SAPM_MCLK_CFG none = .go →
    let hz := mclkHz v
    exec (.mclkCfgWrite req v) s = .next ((s.wr Reg.SAPM_MCLK_CFG (v &&& 7)).emit
      (.mclk hz (mclkEdge hz ((s.now * hz + 999999999) / 1000000000))))))

/-- R485, R489, R491, R494, R498: a frame start counts the frame, latches a mask written before the frame's start, and sends the words of
the entry in turn by slot with the bits of the frame; without an entry the port sends zeros, and the first such frame is an
underrun. That the samples of a frame are read at its start is the model's choice (log entry 34).
Completed here: `audioFrame`. -/
def Obligations.AudioFrames : Prop :=
  ∀ (s : State) (p : Fin 8) (input : List Word) (bad : List Nat) (hostOk : Bool), (portOf s p).halted = false →
    portState s p = 2 ∨ portState s p = 3 → frameDue s p = true → stopsNow (sentDone s p) p = false →
    let k := (portOf s p).next
    let start : Int := if clockMode s p = 0 then frameStart s p k else (s.now : Int)
    ∃ t, exec (.audioFrame p input bad hostOk) s = .next t ∧ (portOf t p).next = k + 1 ∧ (portOf t p).at_ = s.now ∧
      t.rd64 (Reg.SAP_FRAME_LO p) (Reg.SAP_FRAME_HI p) = k % 2 ^ 64 ∧
      (∀ m w, (portOf s p).pend = some (m, w) →
        if start ≤ (w : Int) then (portOf t p).pend = some (m, w) ∧ t.rd (Reg.SAP_MASK_IN_EFFECT p) = s.rd (Reg.SAP_MASK_IN_EFFECT p)
        else (portOf t p).pend = none ∧ t.rd (Reg.SAP_MASK_IN_EFFECT p) = w32 m) ∧
      (s.on = true → isOutput s p = true → clockLost s p = false → (portOf s p).queue = [] → underrun s p = false →
        noted (.audioUnderrun p) t ∧ underrun t p = true ∧
        t.rd (Reg.SAP_UNDERRUNS p) = satAdd (s.rd (Reg.SAP_UNDERRUNS p)) 1 0xFFFFFFFF) ∧
      (∀ b rest, isOutput s p = true → clockLost s p = false → (portOf s p).queue = b :: rest → b.frame = k → 0 < b.left →
        (∃ c, (portOf t p).queue = c :: rest ∧ c.job = b.job ∧ c.frame = b.frame + 1 ∧ c.left = b.left - 1 ∧ c.sent = b.sent + 1 ∧
          c.first = some (b.first.getD b.frame)) ∧
        ((portOf s p).pend = none → contended s p = false → flagsFmt s p = false → b.host = false →
          let mask := s.rdN (Reg.SAP_MASK_IN_EFFECT p)
          let m := maskSlots mask
          let a := b.addr + 4 * b.words (portOf s p)
          let words := (List.range (slots s p)).map fun i =>
            match m.findIdx? (· == i) with
            | some n => sampleBits s p (w32 (leAt (hbmBytes s a (4 * m.length)) (4 * n) 4))
            | none => 0
          rangeBad s a (4 * m.length) = false → .audio p.val words (audioWire s p k mask words) ∈ t.out))

/-! ### Performance counters (R527 to R543) -/

/-- R529, R530, R531, R533: COUNTER_CFG of a general or privileged counter takes events that exist, of instances that exist; a running
counter adds modulo 2^48 and tells of its first wrap, and a chained pair counts the wraps of its lower half; FREEZE is stored, and
CLEAR zeroes every counter and OVF.
Completed here: `counterCfgWrite`, `registerWrite`, `counterWrap`, `freezeWrite`, `perfCmdClear`. -/
def Obligations.PerformanceCounters : Prop :=
  (∀ (s : State) (req : Requester) (i : Fin 256) (v : Word), cfgGate s req (Reg.PERF_COUNTER_CFG i) none = .go →
    ∃ t, exec (.counterCfgWrite req i v) s = .next t ∧
      (if bit v 24 = true ∧ counterCfgOk (v &&& 0x01FFFFFF) = false then noted .regRefused t ∧ regsKept [] s t
       else t = s.wr (Reg.PERF_COUNTER_CFG i) (v &&& 0x01FFFFFF))) ∧
  (∀ (s : State) (j : Fin 16) (v : Word), cfgGate s .mgmt (cntCfg (256 + j)) none = .go → bit v 24 = true →
    counterCfgOk (v &&& 0x01FFFFFF) = false →
    ∃ t, exec (.registerWrite .mgmt (cntCfg (256 + j)) v 0xF) s = .next t ∧ noted .regRefused t ∧ regsKept [] s t) ∧
  (∀ (s : State) (i : Fin 256) (n : Nat), cntRuns s i = true →
    perfShown (fld (s.rd (Reg.PERF_COUNTER_CFG i)) 8 8) (fld (s.rd (Reg.PERF_COUNTER_CFG i)) 0 8) = false →
    let v := s.rd64 (cntLo i) (cntHi i) + n
    ∃ t, exec (.counterWrap (.general i) n) s = .next t ∧ t.rd64 (cntLo i) (cntHi i) = v % 2 ^ 48 ∧
      t.b (cntOvf i) (cntBit i) = (s.b (cntOvf i) (cntBit i) || decide (2 ^ 48 ≤ v)) ∧
      (2 ^ 48 ≤ v → s.b (cntOvf i) (cntBit i) = false → noted (.perfOverflow ⟨i / 128, by omega⟩) t) ∧
      regsKept [cntLo i, cntHi i, cntOvf i] s t) ∧
  (∀ (s : State) (j : Fin 16) (n : Nat), cntRuns s (256 + j) = true → j.val % 2 = 0 → cntChained s (256 + j) = true →
    perfShown (fld (s.rd (cntCfg (256 + j))) 8 8) (fld (s.rd (cntCfg (256 + j))) 0 8) = false →
    let v := s.rd64 (cntLo (256 + j)) (cntHi (256 + j)) + n
    ∃ t, exec (.counterWrap (.privileged j) n) s = .next t ∧ t.rd64 (cntLo (256 + j)) (cntHi (256 + j)) = v % 2 ^ 48 ∧
      t.rd64 (cntLo (257 + j)) (cntHi (257 + j)) =
        (if 2 ^ 48 ≤ v then (s.rd64 (cntLo (257 + j)) (cntHi (257 + j)) + v / 2 ^ 48) % 2 ^ 48
         else s.rd64 (cntLo (257 + j)) (cntHi (257 + j)))) ∧
  (∀ (s : State) (req : Requester) (v : Word), cfgGate s req Reg.PERF0_PERF_CTRL none = .go →
    exec (.freezeWrite req v) s = .next (s.wr Reg.PERF0_PERF_CTRL (v &&& 1))) ∧
  (∀ (s : State) (req : Requester), cfgGate s req Reg.PERF0_PERF_CMD none = .go →
    ∃ t, exec (.perfCmdClear req) s = .next t ∧
      (∀ c, c < 256 → t.rd64 (cntLo c) (cntHi c) = 0 ∧ t.b (cntOvf c) (cntBit c) = false) ∧ t = { s with regs := t.regs } ∧
      ∀ a, (∀ c, c < 256 → a ≠ cntLo c ∧ a ≠ cntHi c ∧ a ≠ cntOvf c) → t.rd a = s.rd a)

/-- R534, R535, R536, R539, R541: a trigger takes a snapshot of the counters selected, or is missed, counted and reported; a dump that ends
advances PROD once, by its entries, and DUMP_SEQ; the record of the oldest tagged ray goes to the glint ring, or is dropped, counted
and reported. That a dump whose ring has lost its space counts as missed is the model's reading (log entry 8), and what a record
shows of a ray without a value is free (log entry 23).
Completed here: `perfCmdDump`, `dumpTrigger`, `dumpWriteComplete`, `glintRecordWrite`. -/
def Obligations.DumpsAndGlint : Prop :=
  (∀ (s : State) (k : Nat) (c : Instr), dumpsOn s = true →
    (k = 0 ∧ ∃ req, c = .perfCmdDump req ∧ cfgGate s req Reg.PERF0_PERF_CMD none = .go) ∨
    (k = 1 ∧ c = .dumpTrigger none ∧ dumpMode s = 1 ∧ periodDue s = true) ∨
    (k = 2 ∧ ∃ h : Fin 4, c = .dumpTrigger (some h) ∧ dumpMode s = 2 ∧ s.f Reg.PERF0_DUMP_CFG 4 2 = h.val ∧ (headOf s h).run = true) →
    let first := s.f Reg.PERF0_DUMP_SEL 0 8
    let n := s.f Reg.PERF0_DUMP_SEL 16 9
    let r := dumpRing s
    ∃ t, exec c s = .next t ∧
      (if s.perf.dump.isSome = true ∨ perfRing s r 0x08 = false ∨ ringCount s r < ringFill s r + dumpEntries s r n
       then noted .dumpSkipped t ∧ t.rd Reg.PERF0_DUMP_MISSED = satAdd (s.rd Reg.PERF0_DUMP_MISSED) 1 0xFFFFFFFF ∧
         t.perf = { s.perf with missed := s.perf.missed + 1 } ∧ regsKept [Reg.PERF0_DUMP_MISSED] s t
       else t.regs = s.regs ∧ t.perf.missed = 0 ∧ (∀ d ∈ t.perf.dump, d.trigger = k ∧ d.time = s.now ∧ d.first = first ∧
           d.field = (if dumpMode s = 2 then s.rd (Reg.HEAD_FIELD (s.f Reg.PERF0_DUMP_CFG 4 2)) else 0) ∧
           d.missed = s.perf.missed ∧ d.values = (List.range n).map fun i =>
             (s.rd64 (cntLo (first + i)) (cntHi (first + i)), s.b (cntOvf (first + i)) (cntBit (first + i)))) ∧
         t.perf.dump.isSome = true)) ∧
  (∀ (s : State) (d : Dump), s.perf.dump = some d → s.powerState ≠ 2 → perfRing s (dumpRing s) 0x08 = true →
    ringFill s (dumpRing s) + dumpEntries s (dumpRing s) d.values.length ≤ ringCount s (dumpRing s) →
    ∃ t, exec .dumpWriteComplete s = .next t ∧ t.perf = { s.perf with dump := none } ∧
      t.rd Reg.PERF0_DUMP_SEQ = s.rd Reg.PERF0_DUMP_SEQ + 1 ∧
      t.rd (Reg.RING_PROD (dumpRing s)) = s.rd (Reg.RING_PROD (dumpRing s)) + w32 (dumpEntries s (dumpRing s) d.values.length) ∧
      dataKept [Reg.RING_PROD (dumpRing s), Reg.PERF0_DUMP_SEQ] s t) ∧
  (∀ (s : State) (d : Dump), s.perf.dump = some d → s.powerState ≠ 2 → perfRing s (dumpRing s) 0x08 = false →
    exec .dumpWriteComplete s = .next { s with perf := { s.perf with dump := none, missed := s.perf.missed + d.missed } }) ∧
  (∀ (s : State) (d : Dump), s.perf.dump = some d → s.powerState ≠ 2 → perfRing s (dumpRing s) 0x08 = true →
    ringCount s (dumpRing s) < ringFill s (dumpRing s) + dumpEntries s (dumpRing s) d.values.length →
    ∃ t, exec .dumpWriteComplete s = .next t ∧ noted .dumpSkipped t ∧ t.mem = s.mem ∧
      t.perf = { s.perf with dump := none, missed := s.perf.missed + d.missed + 1 } ∧
      t.rd Reg.PERF0_DUMP_MISSED = satAdd (s.rd Reg.PERF0_DUMP_MISSED) 1 0xFFFFFFFF ∧ regsKept [Reg.PERF0_DUMP_MISSED] s t) ∧
  (∀ (s : State) (h : Fin 4) (st : GlintStages) (r : GlintRay) (rest : List GlintRay), s.on = true → (glintOf s h).rays = r :: rest →
    r.ended = true → s.powerState ≠ 2 →
    let q := s.f Reg.PERF0_GLINT_RING 0 13
    ∃ t, exec (.glintRecordWrite h st) s = .next t ∧ (glintOf t h).rays = rest ∧
      (if perfRing s q 0x09 = true ∧ ringFull s q = false
       then ringPut q (glintBytes s h r st (s.perf.seq + 1) (ringPhase s q)) s t ∧ t.perf.seq = s.perf.seq + 1 ∧
         t.rd (Reg.RING_PROD q) = s.rd (Reg.RING_PROD q) + 1 ∧ dataKept [Reg.RING_PROD q] s t
       else noted .glintLost t ∧ t.rd Reg.PERF0_GLINT_DROPPED = satAdd (s.rd Reg.PERF0_GLINT_DROPPED) 1 0xFFFFFFFF ∧
         t.perf.seq = s.perf.seq ∧ regsKept [Reg.PERF0_GLINT_DROPPED] s t))

/-! ### Firmware and maintenance (R547 to R555) -/

/-- R550, R551, R552: FW_CMD STAGE checks the image in HBM and empties the idle slot, which takes it when the flash write ends well; SWAP
waits for a field start and is given up after 60 s; the take-over runs the staged image, unconfirmed. That the image is checked as
it stands when the staging starts is the model's choice (log entry 39).
Completed here: `fwStage`, `fwStageComplete`, `fwSwap`, `fwSwapTimeout`, `fwTakeover`. -/
def Obligations.FirmwareStagingAndSwap : Prop :=
  (∀ (s : State) (req : Requester), cfgGate s req Reg.MAINT_FW_CMD none = .go →
    ∃ t, exec (.fwStage req) s = .next t ∧
      (if mayStage s = true then
         fwState t = 1 ∧ slotOf t (idleSlot s) = none ∧ slotOf t (!idleSlot s) = slotOf s (!idleSlot s) ∧
         t.maint.staging.map (·.1) = some (stageResult s (hbmBytes s (fwSrc s) (s.rdN Reg.MAINT_FW_LEN)))
       else noted .regRefused t ∧ t.maint.staging = s.maint.staging ∧ regsKept [] s t)) ∧
  (∀ (s : State) (r : Nat) (img : Option FwImage) (ok : Bool), s.on = true → s.maint.staging = some (r, img) → r < 16 →
    ∃ t, exec (.fwStageComplete ok) s = .next t ∧ t.maint.staging = none ∧
      (if r = 1 ∧ ok = true then
         fwState t = 2 ∧ t.f Reg.MAINT_FW_STATUS 4 4 = 1 ∧ slotOf t (idleSlot s) = img ∧ noted .fwStaged t ∧
         t.rd Reg.MAINT_FW_STAGED_VERSION = slotVersion t (idleSlot s)
       else fwState t = 0 ∧ t.f Reg.MAINT_FW_STATUS 4 4 = (if r = 1 then 6 else r) ∧ t.rd Reg.MAINT_FW_STAGED_VERSION = 0 ∧
         noted .fwStageRefused t) ∧
      regsKept [Reg.MAINT_FW_STATUS, Reg.MAINT_FW_STAGED_VERSION] s t) ∧
  (∀ (s : State) (req : Requester) (h : Fin 4), cfgGate s req Reg.MAINT_FW_CMD (if recovery s then none else some 15) = .go →
    ∃ t, exec (.fwSwap req h) s = .next t ∧
      (if maySwap h s = true then t.maint = { s.maint with swap := some (h.val, s.now, false) } ∧ t.b Reg.MAINT_FW_STATUS 3 = true ∧
         ∀ a, a ≠ Reg.MAINT_FW_STATUS → t.rd a = s.rd a
       else noted .regRefused t ∧ t.maint.swap = s.maint.swap ∧ regsKept [] s t)) ∧
  (∀ (s : State) (h u : Nat) (told : Bool), s.maint.swap = some (h, u, told) → u + 60000000000 ≤ s.now →
    ∃ t, exec .fwSwapTimeout s = .next t ∧ t.maint = { s.maint with swap := none } ∧ t.b Reg.MAINT_FW_STATUS 3 = false ∧
      t.f Reg.MAINT_FW_STATUS 4 4 = 7 ∧ fwState t = fwState s ∧ ∀ a, a ≠ Reg.MAINT_FW_STATUS → t.rd a = s.rd a) ∧
  (∀ (s : State) (h : Nat), s.on = true → s.maint.takeover = some h →
    ∃ t, exec .fwTakeover s = .next t ∧ t.maint.running = some (idleSlot s) ∧ t.maint.takeover = none ∧
      t.maint.takeoverAt = some s.now ∧ fwState t = 0 ∧ unconfirmed t = true ∧ noted .fwSwapped t ∧
      t.rd Reg.SYS_FW_VERSION = slotVersion s (idleSlot s) ∧
      t.rd Reg.MAINT_SWAPS = satAdd (s.rd Reg.MAINT_SWAPS) 1 0xFFFFFFFF ∧
      regsKept [Reg.SYS_FW_VERSION, Reg.SYS_FW_SLOT, Reg.MAINT_FW_STATUS, Reg.MAINT_FW_STAGED_VERSION, Reg.MAINT_SWAPS] s t)

/-- R548, R554, R555: an unconfirmed image that fails its self-check or is restarted by the watchdog within 10 s of its take-over reverts, and
REVERT reverts one by command; CONFIRM keeps it and raises the rollback counter; records of the maintenance log are written in order, and
each power-on hour is counted. That a revert takes one step, and which hour counts, is the model's choice (log entry 39).
Completed here: `mgmtWatchdog`, `fwSelfCheckFailure`, `fwRevert`, `fwConfirm`, `maintenanceLogRecordWrite`, `lifetimeRecord`. -/
def Obligations.ConfirmRevertAndMaintenanceLog : Prop :=
  (∀ s : State, s.on = true → s.maint.running.isSome = true →
    ∃ t, exec .mgmtWatchdog s = .next t ∧ noted .mgmtWatchdog t ∧
      (if onTrial s = true then t.maint.running = some (idleSlot s) ∧ noted .fwReverted t
       else t.maint.running = s.maint.running ∧ regsKept [] s t)) ∧
  (∀ (s : State) (req : Requester) (c : Instr), s.on = true →
    (c = .fwSelfCheckFailure ∧ onTrial s = true) ∨
    (c = .fwRevert req ∧ cfgGate s req Reg.MAINT_FW_CMD (if recovery s then none else some 15) = .go ∧ unconfirmed s = true) →
    ∃ t, exec c s = .next t ∧ t.maint.running = some (idleSlot s) ∧ slotOf t (!idleSlot s) = none ∧ unconfirmed t = false ∧
      t.rd Reg.SYS_FW_VERSION = slotVersion s (idleSlot s) ∧ noted .fwReverted t ∧
      t.rd Reg.MAINT_SWAPS = satAdd (s.rd Reg.MAINT_SWAPS) 1 0xFFFFFFFF ∧
      regsKept [Reg.SYS_FW_VERSION, Reg.SYS_FW_SLOT, Reg.MAINT_FW_STATUS, Reg.MAINT_SWAPS, Reg.MAINT_SWAP_FIELD] s t) ∧
  (∀ (s : State) (req : Requester), cfgGate s req Reg.MAINT_FW_CMD (if recovery s then none else some 15) = .go → unconfirmed s = false →
    ∃ t, exec (.fwRevert req) s = .next t ∧ noted .regRefused t ∧ t.maint.running = s.maint.running ∧ regsKept [] s t) ∧
  (∀ (s : State) (req : Requester), cfgGate s req Reg.MAINT_FW_CMD none = .go → mayConfirm s = true →
    ∃ t, exec (.fwConfirm req) s = .next t ∧ noted .fwConfirmed t ∧
      (∀ b, s.maint.running = some b → ¬(unconfirmed s = false ∧ fwState s = 2 ∧ s.feat 15 = false) →
        t.maint.confirmed = b ∧ t.maint.running = some b ∧ unconfirmed t = false ∧
        t.rd Reg.MAINT_ROLLBACK_COUNTER = w32 (max (rollback s) (match slotOf s b with | some i => i.security.toNat | none => 0)) ∧
        regsKept [Reg.MAINT_FW_STATUS, Reg.MAINT_ROLLBACK_COUNTER] s t) ∧
      (∀ b, s.maint.running = some b → unconfirmed s = false → fwState s = 2 → s.feat 15 = false → t.maint.confirmed = !b) ∧
      (s.maint.running = none → t.maint.running = some (idleSlot s) ∧ t.maint.confirmed = idleSlot s ∧ t.stage = 2 ∧ recovery t = false)) ∧
  (∀ (s : State) (r : MaintRec) (rest : List MaintRec), s.maint.wait = r :: rest → s.maint.running.isSome = true →
    s.maint.takeover = none → s.maint.log.length < maintRing →
    exec .maintenanceLogRecordWrite s = .next { s with
      maint := { s.maint with wait := rest, log := s.maint.log ++ [(s.maint.logSeq + 1, r)], logSeq := s.maint.logSeq + 1 },
      out := .uart none (s.maint.logSeq + 1) :: s.out }) ∧
  (∀ (s : State) (r : MaintRec) (rest : List MaintRec), s.on = true → s.maint.wait = r :: rest → s.maint.running.isSome = true →
    s.maint.takeover = none → maintRing ≤ s.maint.log.length →
    ∃ t, exec .maintenanceLogRecordWrite s = .next t ∧ t.maint.log = s.maint.log.drop 1 ++ [(s.maint.logSeq + 1, r)] ∧
      t.rd Reg.MAINT_LOG_WRAPS = satAdd (s.rd Reg.MAINT_LOG_WRAPS) 1 0xFFFFFFFF ∧ noted .logWrapped t ∧
      regsKept [Reg.MAINT_LOG_WRAPS] s t) ∧
  (∀ s : State, s.on = true → (s.maint.hours + 1) * hourNs ≤ s.now →
    ∃ t, exec .lifetimeRecord s = .next t ∧ t.maint.hours = s.maint.hours + 1 ∧
      t.rd Reg.MAINT_POWERED_HOURS = satAdd (s.rd Reg.MAINT_POWERED_HOURS) 1 0xFFFFFFFF ∧
      t.rd Reg.MAINT_ACTIVE_HOURS = (if s.powerState ≤ 1 then satAdd (s.rd Reg.MAINT_ACTIVE_HOURS) 1 0xFFFFFFFF
        else s.rd Reg.MAINT_ACTIVE_HOURS) ∧
      ∀ a, a ≠ Reg.MAINT_POWERED_HOURS → a ≠ Reg.MAINT_ACTIVE_HOURS → t.rd a = s.rd a)

/-! ### The machine as a whole -/

/-- A step executes the command at the front of the queue on the state with the queue's rest. -/
def Obligations.StepRunsFrontCommand : Prop :=
  ∀ (s : State) (c : Instr) (rest : List Instr), s.pending = c :: rest → step s = exec c { s with pending := rest }

/-- R128: on an empty queue the block idles, which is one tick of its running clock (DESIGN CHOICE, log entry 4). Without LVIN nothing
changes. With LVIN and no slew, device time advances by the increment, as R128 computes it from the running clock and the
frequency correction, its fraction is carried, and nothing else changes. A slew (R140) changes the time unit only, with its status
registers and, at its end, the event router. That a jump accepted meanwhile slews next is the model's choice (log entry 19). -/
def Obligations.IdleStep : Prop :=
  (∀ s : State, s.pending = [] → s.on = false → step s = .next s) ∧
  (∀ s : State, s.pending = [] → s.on = true → s.time.slewStep = 0 →
    ∃ t, step s = .next t ∧
      t.time.ns.toNat = (s.time.ns.toNat +
        (s.time.frac.toNat + (incrOf (nominalIncr s) s.time.freqPpb 0).toNat) / 2 ^ 28) % 2 ^ 64 ∧
      t.time.frac.toNat = (s.time.frac.toNat + (incrOf (nominalIncr s) s.time.freqPpb 0).toNat) % 2 ^ 28 ∧
      t.pending = [] ∧ ∀ p, p ≠ .clock → samePart p s t) ∧
  (∀ s : State, s.pending = [] → s.on = true → s.time.slewStep ≠ 0 →
    ∃ t, step s = .next t ∧
      t.time.ns.toNat = (s.time.ns.toNat +
        (s.time.frac.toNat + (incrOf (nominalIncr s) s.time.freqPpb (slewNext s.time)).toNat) / 2 ^ 28) % 2 ^ 64 ∧
      (if s.time.slewRem.natAbs < s.time.slewStep.natAbs then
         noted .slewDone t ∧ (s.time.slewQueue = [] → t.time.slewRem = 0 ∧ t.time.slewStep = 0) ∧
         (∀ c l, s.time.slewQueue = c :: l → c ≠ 0 → t.time.slewRem = c * 268435456 ∧ t.time.slewQueue = l ∧
           t.time.slewStep.natAbs = (slewMag (nominalIncr s) 1000).natAbs)
       else t.time.slewRem = s.time.slewRem - s.time.slewStep ∧ t.time.slewStep = s.time.slewStep) ∧
      t.pending = [] ∧ ∀ p, p ∉ byRouter → p ≠ .clock → p ≠ .servo → samePart p s t)

/-- Right after reset the queue is empty, every register reads its reset value, and every byte of the memories reads 0 (log entry 6).
The clauses below give reset values that the spec states, one or more for each group of pages. -/
def Obligations.ResetState : Prop :=
  (State.reset.pending = [] ∧ State.reset.on = false ∧ State.reset.out = [] ∧ State.reset.now = 0 ∧
    (∀ a, State.reset.rd a = Reg.reset a) ∧ (∀ a, hbmByte State.reset a = 0 ∧ hostByte State.reset a = 0)) ∧
  (∀ p ∈ [0x0, 0x1000, 0x2000, 0x3000, 0x4000, 0x8000, 0x10000, 0x90000, 0x91000, 0x92000, 0x93000, 0x94000],
    enabled State.reset p = true ∧ quiesced State.reset p = false) ∧
  (∀ p ∈ [0x11000, 0x20000, 0x22000, 0x30000, 0x31000, 0x40000, 0x41000, 0x42000, 0x43000, 0x4B000, 0x4C000, 0x4D000, 0x80000, 0x84000,
      0xA0000, 0xB0000, 0xC0000],
    enabled State.reset p = false ∧ quiesced State.reset p = true ∧ roleCode State.reset p = 0 ∧ roleEpoch State.reset p = 0) ∧
  (∀ r, r < 8192 → ringEnabled State.reset r = false ∧ ringType State.reset r = 0 ∧ ringQuiet State.reset r = true) ∧
  (State.reset.rd (Reg.FEAT_DEV_FEATURES 0) = 0x1FFFFF ∧ State.reset.rd (Reg.FEAT_ACTIVE_FEATURES 0) = 1) ∧
  (State.reset.rd Reg.TIME_JUMP_THRESHOLD = 0xF4240 ∧ State.reset.rd Reg.TIME_SLEW_MAX = 100 ∧
    State.reset.rd Reg.TIME_INCR_LO = 0x40000000 ∧ State.reset.rd Reg.TIME_INCR_HI = 0) ∧
  (∀ h : Fin 4, State.reset.rd (Reg.HEAD_V_LINES h) = 0x22C321C0 ∧ headState State.reset h = 0 ∧
    State.reset.rd (Reg.RGU_MAP_SEL h) = 3 ∧ State.reset.rd (Reg.OUT_POL_CTRL h) = 0x22 ∧
    (∀ n : Fin 13, laneState State.reset h n = 7 ∧ State.reset.f (Reg.ZL_LANE_STATUS h n) 4 4 = n.val ∧
      State.reset.f (Reg.ZL_LANE_STATUS h n) 12 4 = 15)) ∧
  (State.reset.rd Reg.OPT_AUTO_INTERVAL = 60 ∧ State.reset.rd Reg.MEM0_CEILING = 0x55 ∧ State.reset.rd Reg.MEM3_SCRUB_PERIOD = 24 ∧
    State.reset.rd Reg.THERM_REDUCED_LEVEL = 3 ∧ State.reset.rd Reg.PERF0_DUMP_PERIOD = 1000000)

/-- The invariant holds right after reset: registers and memories are in canonical form. -/
def Obligations.InvariantAtReset : Prop := Machine.Inv State.reset

/-- Every step from a state whose register files and memories are in canonical form, reachable or not, answers a next state that is
in canonical form: no command and no tick stores an address twice, or a word or byte equal to what an unlisted address reads. -/
def Obligations.StepKeepsInvariant : Prop :=
  ∀ s, Machine.Inv s → ∃ t, step s = .next t ∧ Machine.Inv t

/-- Every command, in every state and with every operand, answers a next state that differs only in the parts of the block named in
its footprint; the queue is left as it is. -/
def Obligations.CommandsKeepTheirFootprint : Prop :=
  ∀ (c : Instr) (s : State), ∃ t, exec c s = .next t ∧ t.pending = s.pending ∧ ∀ p, p ∉ footprint c → samePart p s t

/-- R598, R128: the block gains and loses power by LVIN alone, and no other command changes whether it runs. Device time is changed by
no command but the loss and return of LVIN, a write to the time unit's registers, the end of a slew (R140) and an accepted
jump (R141); otherwise it moves by its ticks. -/
def Obligations.PowerAndTimeMoveByFewCommands : Prop :=
  ∀ (c : Instr) (s t : State), exec c s = .next t →
    (t.on ≠ s.on → (c = .lvinApplied ∧ t.on = true) ∨ (c = .lvinLost ∧ t.on = false)) ∧
    (¬(t.time.ns = s.time.ns ∧ t.time.frac = s.time.frac) →
      c = .lvinApplied ∨ c = .lvinLost ∨ c = .slewEnd ∨ (∃ r v, c = .acceptJump r v) ∨
      (∃ r a v be, c = .registerWrite r a v be ∧ pageOf a = 0x10000) ∨ (∃ r a v, c = .highWordWrite r a v ∧ pageOf a = 0x10000))

/-- R521: in STANDBY a write to a page that is not open there, or to a ring descriptor, and a doorbell are discarded and raise
REG_REFUSED. R52: so is a host write to the configuration region or PAGE_CTRL of a page with MGMT_HELD.
R59: a host write to the configuration region or PAGE_CTRL of a page that is not negotiated is discarded and raises
NOT_NEGOTIATED_ACCESS. Nothing but the event router acts. -/
def Obligations.GuardedWritesAreDiscarded : Prop :=
  (∀ (s : State) (r : Requester) (a : Nat) (v : Word), reaches s r = true → a % 4 = 0 → unmappedFor r a = false →
    s.powerState = 2 → standbyOpen a = false →
    ∃ t, exec (.registerWrite r a v 0xF) s = .next t ∧ noted .regRefused t ∧ regsKept [] s t ∧
      ∀ p, p ∉ byRouter → samePart p s t) ∧
  (∀ (s : State) (r : Fin 8192) (i : Word) (e x : BitVec 16) (n : Nat), reaches s .host = true → s.powerState = 2 →
    ∃ t, exec (.doorbell r i e x n) s = .next t ∧ noted .regRefused t ∧ regsKept [] s t ∧ ∀ p, p ∉ byRouter → samePart p s t) ∧
  (∀ (s : State) (p : PageId) (o : Nat) (v : Word), reaches s .host = true → o % 4 = 0 → (o = 0x0C ∨ (0x100 ≤ o ∧ o < 0x800)) →
    pageAt (p.base + o) = some p → unmappedFor .host (p.base + o) = false →
    (s.powerState = 2 → standbyOpen (p.base + o) = true) →
    (notNeg s p = true →
      ∃ t, exec (.registerWrite .host (p.base + o) v 0xF) s = .next t ∧ noted .notNegotiatedAccess t ∧ regsKept [] s t ∧
        ∀ q, q ∉ byRouter → samePart q s t) ∧
    (notNeg s p = false → (∀ i, featureOf (p.base + o) = some i → s.feat i = true) → mgmtHeld s p = true →
      ∃ t, exec (.registerWrite .host (p.base + o) v 0xF) s = .next t ∧ noted .regRefused t ∧ regsKept [] s t ∧
        ∀ q, q ∉ byRouter → samePart q s t))
end

