-- ==== Sys2Proof/Laws/Tab.lean ====
section
/-!
SUPPORT. The laws of sparse tables: read after write, and that a write keeps the canonical form.
-/
namespace Sys2Proof.Laws

open Sys2Proof.Machine

variable {β : Type}

theorem tabGet_tabErase (d : Nat → β) (m : Tab β) (k j : Nat) :
    tabGet d (tabErase m k) j = if j = k then d j else tabGet d m j := by
  induction m with
  | nil => simp [tabErase, tabGet]
  | cons p t ih =>
    obtain ⟨a, v⟩ := p
    by_cases hak : a = k
    · subst hak
      simp only [tabErase, if_true, ih, tabGet]
      split
      · rfl
      · rw [if_neg (fun h => by simp_all)]
    · simp only [tabErase, hak, if_false, tabGet, ih]
      by_cases haj : a = j
      · subst haj; simp [hak]
      · simp [haj]

theorem tabGet_tabInsert (d : Nat → β) (m : Tab β) (k j : Nat) (v : β) (h : ∀ w, (k, w) ∉ m) :
    tabGet d (tabInsert m k v) j = if j = k then v else tabGet d m j := by
  induction m with
  | nil => simp only [tabInsert, tabGet, eq_comm]
  | cons p t ih =>
    obtain ⟨a, w⟩ := p
    have hak : a ≠ k := fun e => h w (by simp [e])
    have ht : ∀ w, (k, w) ∉ t := fun w' hm => h w' (List.mem_cons_of_mem _ hm)
    by_cases hlt : k < a
    · simp only [tabInsert, hlt, if_true, tabGet, eq_comm]
    · simp only [tabInsert, hlt, if_false, tabGet, ih ht]
      by_cases haj : a = j
      · subst haj; simp [hak]
      · simp [haj]

theorem not_mem_tabErase (m : Tab β) (k : Nat) (w : β) : (k, w) ∉ tabErase m k := by
  induction m with
  | nil => simp [tabErase]
  | cons p t ih =>
    obtain ⟨a, v⟩ := p
    by_cases hak : a = k
    · simp [tabErase, hak, ih]
    · simp [tabErase, hak, ih, Ne.symm hak]

/-- Read after write. -/
theorem tabGet_tabSet [DecidableEq β] (d : Nat → β) (m : Tab β) (k j : Nat) (v : β) :
    tabGet d (tabSet d m k v) j = if j = k then v else tabGet d m j := by
  unfold tabSet
  split
  · rename_i h
    rw [tabGet_tabErase]; split
    · rename_i e; subst e; exact h.symm
    · rfl
  · exact tabGet_tabInsert d _ k j v (not_mem_tabErase m k)
      |>.trans (by rw [tabGet_tabErase]; split <;> simp_all)

@[simp] theorem tabGet_tabSet_self [DecidableEq β] (d : Nat → β) (m : Tab β) (k : Nat) (v : β) :
    tabGet d (tabSet d m k v) k = v := by simp [tabGet_tabSet]

theorem tabGet_tabSet_ne [DecidableEq β] (d : Nat → β) (m : Tab β) {k j : Nat} (v : β) (h : j ≠ k) :
    tabGet d (tabSet d m k v) j = tabGet d m j := by simp [tabGet_tabSet, h]

theorem mem_tabErase {m : Tab β} {k : Nat} {p : Nat × β} (h : p ∈ tabErase m k) : p ∈ m ∧ p.1 ≠ k := by
  induction m with
  | nil => simp [tabErase] at h
  | cons q t ih =>
    obtain ⟨a, v⟩ := q
    by_cases hak : a = k
    · simp only [tabErase, hak, if_true] at h
      exact ⟨List.mem_cons_of_mem _ (ih h).1, (ih h).2⟩
    · simp only [tabErase, hak, if_false, List.mem_cons] at h
      rcases h with rfl | h
      · exact ⟨List.mem_cons_self, hak⟩
      · exact ⟨List.mem_cons_of_mem _ (ih h).1, (ih h).2⟩

theorem mem_tabInsert {m : Tab β} {k : Nat} {v : β} {p : Nat × β} (h : p ∈ tabInsert m k v) :
    p = (k, v) ∨ p ∈ m := by
  induction m with
  | nil => simpa [tabInsert] using h
  | cons q t ih =>
    obtain ⟨a, w⟩ := q
    by_cases hlt : k < a
    · simpa [tabInsert, hlt] using h
    · simp only [tabInsert, hlt, if_false, List.mem_cons] at h
      rcases h with rfl | h
      · exact .inr List.mem_cons_self
      · exact (ih h).imp id (List.mem_cons_of_mem _)

theorem tabWf_cons [DecidableEq β] (d : Nat → β) (k : Nat) (v : β) (t : Tab β) :
    tabWf d ((k, v) :: t) = true ↔ v ≠ d k ∧ (∀ p ∈ t, k < p.1) ∧ tabWf d t = true := by
  simp [tabWf, and_assoc]

theorem tabWf_tabErase [DecidableEq β] (d : Nat → β) (m : Tab β) (k : Nat) (h : tabWf d m = true) :
    tabWf d (tabErase m k) = true := by
  induction m with
  | nil => rfl
  | cons q t ih =>
    obtain ⟨a, v⟩ := q
    rw [tabWf_cons] at h
    by_cases hak : a = k
    · simpa [tabErase, hak] using ih h.2.2
    · simp only [tabErase, hak, if_false]
      exact (tabWf_cons ..).2 ⟨h.1, fun p hp => h.2.1 p (mem_tabErase hp).1, ih h.2.2⟩

theorem tabWf_tabInsert [DecidableEq β] (d : Nat → β) (m : Tab β) (k : Nat) (v : β) (hv : v ≠ d k)
    (hk : ∀ p ∈ m, p.1 ≠ k) (h : tabWf d m = true) : tabWf d (tabInsert m k v) = true := by
  induction m with
  | nil => simp [tabInsert, tabWf, hv]
  | cons q t ih =>
    obtain ⟨a, w⟩ := q
    have hw := (tabWf_cons ..).1 h
    have hak : a ≠ k := hk (a, w) List.mem_cons_self
    by_cases hlt : k < a
    · simp only [tabInsert, hlt, if_true]
      refine (tabWf_cons ..).2 ⟨hv, fun p hp => ?_, h⟩
      rcases List.mem_cons.1 hp with rfl | hp
      · exact hlt
      · exact Nat.lt_trans hlt (hw.2.1 p hp)
    · simp only [tabInsert, hlt, if_false]
      refine (tabWf_cons ..).2 ⟨hw.1, fun p hp => ?_, ih (fun p hp => hk p (List.mem_cons_of_mem _ hp)) hw.2.2⟩
      rcases mem_tabInsert hp with rfl | hp
      · exact Nat.lt_of_le_of_ne (Nat.le_of_not_lt hlt) hak
      · exact hw.2.1 p hp

/-- A write keeps the canonical form. -/
theorem tabWf_tabSet [DecidableEq β] (d : Nat → β) (m : Tab β) (k : Nat) (v : β) (h : tabWf d m = true) :
    tabWf d (tabSet d m k v) = true := by
  unfold tabSet
  split
  · exact tabWf_tabErase d m k h
  · rename_i hv
    exact tabWf_tabInsert d _ k v hv (fun p hp => (mem_tabErase hp).2) (tabWf_tabErase d m k h)

/-- Dropping entries keeps the canonical form. -/
theorem tabWf_filter [DecidableEq β] (d : Nat → β) (q : Nat × β → Bool) : ∀ m : Tab β, tabWf d m = true → tabWf d (m.filter q) = true
  | [], _ => rfl
  | (k, v) :: t, h => by
    simp only [tabWf, Bool.and_eq_true, decide_eq_true_eq, List.all_eq_true] at h
    have ih := tabWf_filter d q t h.2
    simp only [List.filter]
    split
    · simp only [tabWf, Bool.and_eq_true, decide_eq_true_eq, List.all_eq_true]
      exact ⟨⟨h.1.1, fun p hp => h.1.2 p ((List.mem_filter.mp hp).1)⟩, ih⟩
    · exact ih

end Sys2Proof.Laws
end

