-- ==== Sys2Proof/Laws/State.lean ====
section
/-!
SUPPORT. What the named operations over State leave alone: one lemma per field per update. A register operation changes the
register file only.
-/
namespace Sys2Proof.Machine

variable (s : State)

/-! ### wr -/

@[simp] theorem State.wr_pending (a : Nat) (v : Word) : (s.wr a v).pending = s.pending := rfl
@[simp] theorem State.wr_out (a : Nat) (v : Word) : (s.wr a v).out = s.out := rfl
@[simp] theorem State.wr_freeCount (a : Nat) (v : Word) : (s.wr a v).freeCount = s.freeCount := rfl
@[simp] theorem State.wr_power (a : Nat) (v : Word) : (s.wr a v).power = s.power := rfl
@[simp] theorem State.wr_time (a : Nat) (v : Word) : (s.wr a v).time = s.time := rfl
@[simp] theorem State.wr_router (a : Nat) (v : Word) : (s.wr a v).router = s.router := rfl
@[simp] theorem State.wr_bus (a : Nat) (v : Word) : (s.wr a v).bus = s.bus := rfl
@[simp] theorem State.wr_ring (a : Nat) (v : Word) : (s.wr a v).ring = s.ring := rfl
@[simp] theorem State.wr_txn (a : Nat) (v : Word) : (s.wr a v).txn = s.txn := rfl
@[simp] theorem State.wr_sched (a : Nat) (v : Word) : (s.wr a v).sched = s.sched := rfl
@[simp] theorem State.wr_maint (a : Nat) (v : Word) : (s.wr a v).maint = s.maint := rfl
@[simp] theorem State.wr_mem (a : Nat) (v : Word) : (s.wr a v).mem = s.mem := rfl
@[simp] theorem State.wr_ing (a : Nat) (v : Word) : (s.wr a v).ing = s.ing := rfl
@[simp] theorem State.wr_eng (a : Nat) (v : Word) : (s.wr a v).eng = s.eng := rfl
@[simp] theorem State.wr_heads (a : Nat) (v : Word) : (s.wr a v).heads = s.heads := rfl
@[simp] theorem State.wr_links (a : Nat) (v : Word) : (s.wr a v).links = s.links := rfl
@[simp] theorem State.wr_keeper (a : Nat) (v : Word) : (s.wr a v).keeper = s.keeper := rfl
@[simp] theorem State.wr_opt (a : Nat) (v : Word) : (s.wr a v).opt = s.opt := rfl
@[simp] theorem State.wr_audio (a : Nat) (v : Word) : (s.wr a v).audio = s.audio := rfl
@[simp] theorem State.wr_therm (a : Nat) (v : Word) : (s.wr a v).therm = s.therm := rfl
@[simp] theorem State.wr_perf (a : Nat) (v : Word) : (s.wr a v).perf = s.perf := rfl
@[simp] theorem State.wr_eff (a : Nat) (v : Word) : (s.wr a v).eff = s.eff := rfl

/-! ### setF -/

@[simp] theorem State.setF_pending (a lo len v : Nat) : (s.setF a lo len v).pending = s.pending := State.wr_pending ..
@[simp] theorem State.setF_out (a lo len v : Nat) : (s.setF a lo len v).out = s.out := State.wr_out ..
@[simp] theorem State.setF_freeCount (a lo len v : Nat) : (s.setF a lo len v).freeCount = s.freeCount := State.wr_freeCount ..
@[simp] theorem State.setF_power (a lo len v : Nat) : (s.setF a lo len v).power = s.power := State.wr_power ..
@[simp] theorem State.setF_time (a lo len v : Nat) : (s.setF a lo len v).time = s.time := State.wr_time ..
@[simp] theorem State.setF_router (a lo len v : Nat) : (s.setF a lo len v).router = s.router := State.wr_router ..
@[simp] theorem State.setF_bus (a lo len v : Nat) : (s.setF a lo len v).bus = s.bus := State.wr_bus ..
@[simp] theorem State.setF_ring (a lo len v : Nat) : (s.setF a lo len v).ring = s.ring := State.wr_ring ..
@[simp] theorem State.setF_txn (a lo len v : Nat) : (s.setF a lo len v).txn = s.txn := State.wr_txn ..
@[simp] theorem State.setF_sched (a lo len v : Nat) : (s.setF a lo len v).sched = s.sched := State.wr_sched ..
@[simp] theorem State.setF_maint (a lo len v : Nat) : (s.setF a lo len v).maint = s.maint := State.wr_maint ..
@[simp] theorem State.setF_mem (a lo len v : Nat) : (s.setF a lo len v).mem = s.mem := State.wr_mem ..
@[simp] theorem State.setF_ing (a lo len v : Nat) : (s.setF a lo len v).ing = s.ing := State.wr_ing ..
@[simp] theorem State.setF_eng (a lo len v : Nat) : (s.setF a lo len v).eng = s.eng := State.wr_eng ..
@[simp] theorem State.setF_heads (a lo len v : Nat) : (s.setF a lo len v).heads = s.heads := State.wr_heads ..
@[simp] theorem State.setF_links (a lo len v : Nat) : (s.setF a lo len v).links = s.links := State.wr_links ..
@[simp] theorem State.setF_keeper (a lo len v : Nat) : (s.setF a lo len v).keeper = s.keeper := State.wr_keeper ..
@[simp] theorem State.setF_opt (a lo len v : Nat) : (s.setF a lo len v).opt = s.opt := State.wr_opt ..
@[simp] theorem State.setF_audio (a lo len v : Nat) : (s.setF a lo len v).audio = s.audio := State.wr_audio ..
@[simp] theorem State.setF_therm (a lo len v : Nat) : (s.setF a lo len v).therm = s.therm := State.wr_therm ..
@[simp] theorem State.setF_perf (a lo len v : Nat) : (s.setF a lo len v).perf = s.perf := State.wr_perf ..
@[simp] theorem State.setF_eff (a lo len v : Nat) : (s.setF a lo len v).eff = s.eff := State.wr_eff ..

/-! ### setB -/

@[simp] theorem State.setB_pending (a i : Nat) (v : Bool) : (s.setB a i v).pending = s.pending := State.setF_pending ..
@[simp] theorem State.setB_out (a i : Nat) (v : Bool) : (s.setB a i v).out = s.out := State.setF_out ..
@[simp] theorem State.setB_freeCount (a i : Nat) (v : Bool) : (s.setB a i v).freeCount = s.freeCount := State.setF_freeCount ..
@[simp] theorem State.setB_power (a i : Nat) (v : Bool) : (s.setB a i v).power = s.power := State.setF_power ..
@[simp] theorem State.setB_time (a i : Nat) (v : Bool) : (s.setB a i v).time = s.time := State.setF_time ..
@[simp] theorem State.setB_router (a i : Nat) (v : Bool) : (s.setB a i v).router = s.router := State.setF_router ..
@[simp] theorem State.setB_bus (a i : Nat) (v : Bool) : (s.setB a i v).bus = s.bus := State.setF_bus ..
@[simp] theorem State.setB_ring (a i : Nat) (v : Bool) : (s.setB a i v).ring = s.ring := State.setF_ring ..
@[simp] theorem State.setB_txn (a i : Nat) (v : Bool) : (s.setB a i v).txn = s.txn := State.setF_txn ..
@[simp] theorem State.setB_sched (a i : Nat) (v : Bool) : (s.setB a i v).sched = s.sched := State.setF_sched ..
@[simp] theorem State.setB_maint (a i : Nat) (v : Bool) : (s.setB a i v).maint = s.maint := State.setF_maint ..
@[simp] theorem State.setB_mem (a i : Nat) (v : Bool) : (s.setB a i v).mem = s.mem := State.setF_mem ..
@[simp] theorem State.setB_ing (a i : Nat) (v : Bool) : (s.setB a i v).ing = s.ing := State.setF_ing ..
@[simp] theorem State.setB_eng (a i : Nat) (v : Bool) : (s.setB a i v).eng = s.eng := State.setF_eng ..
@[simp] theorem State.setB_heads (a i : Nat) (v : Bool) : (s.setB a i v).heads = s.heads := State.setF_heads ..
@[simp] theorem State.setB_links (a i : Nat) (v : Bool) : (s.setB a i v).links = s.links := State.setF_links ..
@[simp] theorem State.setB_keeper (a i : Nat) (v : Bool) : (s.setB a i v).keeper = s.keeper := State.setF_keeper ..
@[simp] theorem State.setB_opt (a i : Nat) (v : Bool) : (s.setB a i v).opt = s.opt := State.setF_opt ..
@[simp] theorem State.setB_audio (a i : Nat) (v : Bool) : (s.setB a i v).audio = s.audio := State.setF_audio ..
@[simp] theorem State.setB_therm (a i : Nat) (v : Bool) : (s.setB a i v).therm = s.therm := State.setF_therm ..
@[simp] theorem State.setB_perf (a i : Nat) (v : Bool) : (s.setB a i v).perf = s.perf := State.setF_perf ..
@[simp] theorem State.setB_eff (a i : Nat) (v : Bool) : (s.setB a i v).eff = s.eff := State.setF_eff ..

/-! ### wr64 -/

@[simp] theorem State.wr64_pending (lo hi n : Nat) : (s.wr64 lo hi n).pending = s.pending := (State.wr_pending ..).trans (State.wr_pending ..)
@[simp] theorem State.wr64_out (lo hi n : Nat) : (s.wr64 lo hi n).out = s.out := (State.wr_out ..).trans (State.wr_out ..)
@[simp] theorem State.wr64_freeCount (lo hi n : Nat) : (s.wr64 lo hi n).freeCount = s.freeCount := (State.wr_freeCount ..).trans (State.wr_freeCount ..)
@[simp] theorem State.wr64_power (lo hi n : Nat) : (s.wr64 lo hi n).power = s.power := (State.wr_power ..).trans (State.wr_power ..)
@[simp] theorem State.wr64_time (lo hi n : Nat) : (s.wr64 lo hi n).time = s.time := (State.wr_time ..).trans (State.wr_time ..)
@[simp] theorem State.wr64_router (lo hi n : Nat) : (s.wr64 lo hi n).router = s.router := (State.wr_router ..).trans (State.wr_router ..)
@[simp] theorem State.wr64_bus (lo hi n : Nat) : (s.wr64 lo hi n).bus = s.bus := (State.wr_bus ..).trans (State.wr_bus ..)
@[simp] theorem State.wr64_ring (lo hi n : Nat) : (s.wr64 lo hi n).ring = s.ring := (State.wr_ring ..).trans (State.wr_ring ..)
@[simp] theorem State.wr64_txn (lo hi n : Nat) : (s.wr64 lo hi n).txn = s.txn := (State.wr_txn ..).trans (State.wr_txn ..)
@[simp] theorem State.wr64_sched (lo hi n : Nat) : (s.wr64 lo hi n).sched = s.sched := (State.wr_sched ..).trans (State.wr_sched ..)
@[simp] theorem State.wr64_maint (lo hi n : Nat) : (s.wr64 lo hi n).maint = s.maint := (State.wr_maint ..).trans (State.wr_maint ..)
@[simp] theorem State.wr64_mem (lo hi n : Nat) : (s.wr64 lo hi n).mem = s.mem := (State.wr_mem ..).trans (State.wr_mem ..)
@[simp] theorem State.wr64_ing (lo hi n : Nat) : (s.wr64 lo hi n).ing = s.ing := (State.wr_ing ..).trans (State.wr_ing ..)
@[simp] theorem State.wr64_eng (lo hi n : Nat) : (s.wr64 lo hi n).eng = s.eng := (State.wr_eng ..).trans (State.wr_eng ..)
@[simp] theorem State.wr64_heads (lo hi n : Nat) : (s.wr64 lo hi n).heads = s.heads := (State.wr_heads ..).trans (State.wr_heads ..)
@[simp] theorem State.wr64_links (lo hi n : Nat) : (s.wr64 lo hi n).links = s.links := (State.wr_links ..).trans (State.wr_links ..)
@[simp] theorem State.wr64_keeper (lo hi n : Nat) : (s.wr64 lo hi n).keeper = s.keeper := (State.wr_keeper ..).trans (State.wr_keeper ..)
@[simp] theorem State.wr64_opt (lo hi n : Nat) : (s.wr64 lo hi n).opt = s.opt := (State.wr_opt ..).trans (State.wr_opt ..)
@[simp] theorem State.wr64_audio (lo hi n : Nat) : (s.wr64 lo hi n).audio = s.audio := (State.wr_audio ..).trans (State.wr_audio ..)
@[simp] theorem State.wr64_therm (lo hi n : Nat) : (s.wr64 lo hi n).therm = s.therm := (State.wr_therm ..).trans (State.wr_therm ..)
@[simp] theorem State.wr64_perf (lo hi n : Nat) : (s.wr64 lo hi n).perf = s.perf := (State.wr_perf ..).trans (State.wr_perf ..)
@[simp] theorem State.wr64_eff (lo hi n : Nat) : (s.wr64 lo hi n).eff = s.eff := (State.wr_eff ..).trans (State.wr_eff ..)

/-! ### inc -/

@[simp] theorem State.inc_pending (a : Nat) : (s.inc a).pending = s.pending := State.wr_pending ..
@[simp] theorem State.inc_out (a : Nat) : (s.inc a).out = s.out := State.wr_out ..
@[simp] theorem State.inc_freeCount (a : Nat) : (s.inc a).freeCount = s.freeCount := State.wr_freeCount ..
@[simp] theorem State.inc_power (a : Nat) : (s.inc a).power = s.power := State.wr_power ..
@[simp] theorem State.inc_time (a : Nat) : (s.inc a).time = s.time := State.wr_time ..
@[simp] theorem State.inc_router (a : Nat) : (s.inc a).router = s.router := State.wr_router ..
@[simp] theorem State.inc_bus (a : Nat) : (s.inc a).bus = s.bus := State.wr_bus ..
@[simp] theorem State.inc_ring (a : Nat) : (s.inc a).ring = s.ring := State.wr_ring ..
@[simp] theorem State.inc_txn (a : Nat) : (s.inc a).txn = s.txn := State.wr_txn ..
@[simp] theorem State.inc_sched (a : Nat) : (s.inc a).sched = s.sched := State.wr_sched ..
@[simp] theorem State.inc_maint (a : Nat) : (s.inc a).maint = s.maint := State.wr_maint ..
@[simp] theorem State.inc_mem (a : Nat) : (s.inc a).mem = s.mem := State.wr_mem ..
@[simp] theorem State.inc_ing (a : Nat) : (s.inc a).ing = s.ing := State.wr_ing ..
@[simp] theorem State.inc_eng (a : Nat) : (s.inc a).eng = s.eng := State.wr_eng ..
@[simp] theorem State.inc_heads (a : Nat) : (s.inc a).heads = s.heads := State.wr_heads ..
@[simp] theorem State.inc_links (a : Nat) : (s.inc a).links = s.links := State.wr_links ..
@[simp] theorem State.inc_keeper (a : Nat) : (s.inc a).keeper = s.keeper := State.wr_keeper ..
@[simp] theorem State.inc_opt (a : Nat) : (s.inc a).opt = s.opt := State.wr_opt ..
@[simp] theorem State.inc_audio (a : Nat) : (s.inc a).audio = s.audio := State.wr_audio ..
@[simp] theorem State.inc_therm (a : Nat) : (s.inc a).therm = s.therm := State.wr_therm ..
@[simp] theorem State.inc_perf (a : Nat) : (s.inc a).perf = s.perf := State.wr_perf ..
@[simp] theorem State.inc_eff (a : Nat) : (s.inc a).eff = s.eff := State.wr_eff ..

/-! ### incBy -/

@[simp] theorem State.incBy_pending (a n : Nat) : (s.incBy a n).pending = s.pending := State.wr_pending ..
@[simp] theorem State.incBy_out (a n : Nat) : (s.incBy a n).out = s.out := State.wr_out ..
@[simp] theorem State.incBy_freeCount (a n : Nat) : (s.incBy a n).freeCount = s.freeCount := State.wr_freeCount ..
@[simp] theorem State.incBy_power (a n : Nat) : (s.incBy a n).power = s.power := State.wr_power ..
@[simp] theorem State.incBy_time (a n : Nat) : (s.incBy a n).time = s.time := State.wr_time ..
@[simp] theorem State.incBy_router (a n : Nat) : (s.incBy a n).router = s.router := State.wr_router ..
@[simp] theorem State.incBy_bus (a n : Nat) : (s.incBy a n).bus = s.bus := State.wr_bus ..
@[simp] theorem State.incBy_ring (a n : Nat) : (s.incBy a n).ring = s.ring := State.wr_ring ..
@[simp] theorem State.incBy_txn (a n : Nat) : (s.incBy a n).txn = s.txn := State.wr_txn ..
@[simp] theorem State.incBy_sched (a n : Nat) : (s.incBy a n).sched = s.sched := State.wr_sched ..
@[simp] theorem State.incBy_maint (a n : Nat) : (s.incBy a n).maint = s.maint := State.wr_maint ..
@[simp] theorem State.incBy_mem (a n : Nat) : (s.incBy a n).mem = s.mem := State.wr_mem ..
@[simp] theorem State.incBy_ing (a n : Nat) : (s.incBy a n).ing = s.ing := State.wr_ing ..
@[simp] theorem State.incBy_eng (a n : Nat) : (s.incBy a n).eng = s.eng := State.wr_eng ..
@[simp] theorem State.incBy_heads (a n : Nat) : (s.incBy a n).heads = s.heads := State.wr_heads ..
@[simp] theorem State.incBy_links (a n : Nat) : (s.incBy a n).links = s.links := State.wr_links ..
@[simp] theorem State.incBy_keeper (a n : Nat) : (s.incBy a n).keeper = s.keeper := State.wr_keeper ..
@[simp] theorem State.incBy_opt (a n : Nat) : (s.incBy a n).opt = s.opt := State.wr_opt ..
@[simp] theorem State.incBy_audio (a n : Nat) : (s.incBy a n).audio = s.audio := State.wr_audio ..
@[simp] theorem State.incBy_therm (a n : Nat) : (s.incBy a n).therm = s.therm := State.wr_therm ..
@[simp] theorem State.incBy_perf (a n : Nat) : (s.incBy a n).perf = s.perf := State.wr_perf ..
@[simp] theorem State.incBy_eff (a n : Nat) : (s.incBy a n).eff = s.eff := State.wr_eff ..

/-! ### incTo -/

@[simp] theorem State.incTo_pending (a n : Nat) : (s.incTo a n).pending = s.pending := State.wr_pending ..
@[simp] theorem State.incTo_out (a n : Nat) : (s.incTo a n).out = s.out := State.wr_out ..
@[simp] theorem State.incTo_freeCount (a n : Nat) : (s.incTo a n).freeCount = s.freeCount := State.wr_freeCount ..
@[simp] theorem State.incTo_power (a n : Nat) : (s.incTo a n).power = s.power := State.wr_power ..
@[simp] theorem State.incTo_time (a n : Nat) : (s.incTo a n).time = s.time := State.wr_time ..
@[simp] theorem State.incTo_router (a n : Nat) : (s.incTo a n).router = s.router := State.wr_router ..
@[simp] theorem State.incTo_bus (a n : Nat) : (s.incTo a n).bus = s.bus := State.wr_bus ..
@[simp] theorem State.incTo_ring (a n : Nat) : (s.incTo a n).ring = s.ring := State.wr_ring ..
@[simp] theorem State.incTo_txn (a n : Nat) : (s.incTo a n).txn = s.txn := State.wr_txn ..
@[simp] theorem State.incTo_sched (a n : Nat) : (s.incTo a n).sched = s.sched := State.wr_sched ..
@[simp] theorem State.incTo_maint (a n : Nat) : (s.incTo a n).maint = s.maint := State.wr_maint ..
@[simp] theorem State.incTo_mem (a n : Nat) : (s.incTo a n).mem = s.mem := State.wr_mem ..
@[simp] theorem State.incTo_ing (a n : Nat) : (s.incTo a n).ing = s.ing := State.wr_ing ..
@[simp] theorem State.incTo_eng (a n : Nat) : (s.incTo a n).eng = s.eng := State.wr_eng ..
@[simp] theorem State.incTo_heads (a n : Nat) : (s.incTo a n).heads = s.heads := State.wr_heads ..
@[simp] theorem State.incTo_links (a n : Nat) : (s.incTo a n).links = s.links := State.wr_links ..
@[simp] theorem State.incTo_keeper (a n : Nat) : (s.incTo a n).keeper = s.keeper := State.wr_keeper ..
@[simp] theorem State.incTo_opt (a n : Nat) : (s.incTo a n).opt = s.opt := State.wr_opt ..
@[simp] theorem State.incTo_audio (a n : Nat) : (s.incTo a n).audio = s.audio := State.wr_audio ..
@[simp] theorem State.incTo_therm (a n : Nat) : (s.incTo a n).therm = s.therm := State.wr_therm ..
@[simp] theorem State.incTo_perf (a n : Nat) : (s.incTo a n).perf = s.perf := State.wr_perf ..
@[simp] theorem State.incTo_eff (a n : Nat) : (s.incTo a n).eff = s.eff := State.wr_eff ..

/-! ### inc48 -/

@[simp] theorem State.inc48_pending (lo hi n : Nat) : (s.inc48 lo hi n).pending = s.pending := State.wr64_pending ..
@[simp] theorem State.inc48_out (lo hi n : Nat) : (s.inc48 lo hi n).out = s.out := State.wr64_out ..
@[simp] theorem State.inc48_freeCount (lo hi n : Nat) : (s.inc48 lo hi n).freeCount = s.freeCount := State.wr64_freeCount ..
@[simp] theorem State.inc48_power (lo hi n : Nat) : (s.inc48 lo hi n).power = s.power := State.wr64_power ..
@[simp] theorem State.inc48_time (lo hi n : Nat) : (s.inc48 lo hi n).time = s.time := State.wr64_time ..
@[simp] theorem State.inc48_router (lo hi n : Nat) : (s.inc48 lo hi n).router = s.router := State.wr64_router ..
@[simp] theorem State.inc48_bus (lo hi n : Nat) : (s.inc48 lo hi n).bus = s.bus := State.wr64_bus ..
@[simp] theorem State.inc48_ring (lo hi n : Nat) : (s.inc48 lo hi n).ring = s.ring := State.wr64_ring ..
@[simp] theorem State.inc48_txn (lo hi n : Nat) : (s.inc48 lo hi n).txn = s.txn := State.wr64_txn ..
@[simp] theorem State.inc48_sched (lo hi n : Nat) : (s.inc48 lo hi n).sched = s.sched := State.wr64_sched ..
@[simp] theorem State.inc48_maint (lo hi n : Nat) : (s.inc48 lo hi n).maint = s.maint := State.wr64_maint ..
@[simp] theorem State.inc48_mem (lo hi n : Nat) : (s.inc48 lo hi n).mem = s.mem := State.wr64_mem ..
@[simp] theorem State.inc48_ing (lo hi n : Nat) : (s.inc48 lo hi n).ing = s.ing := State.wr64_ing ..
@[simp] theorem State.inc48_eng (lo hi n : Nat) : (s.inc48 lo hi n).eng = s.eng := State.wr64_eng ..
@[simp] theorem State.inc48_heads (lo hi n : Nat) : (s.inc48 lo hi n).heads = s.heads := State.wr64_heads ..
@[simp] theorem State.inc48_links (lo hi n : Nat) : (s.inc48 lo hi n).links = s.links := State.wr64_links ..
@[simp] theorem State.inc48_keeper (lo hi n : Nat) : (s.inc48 lo hi n).keeper = s.keeper := State.wr64_keeper ..
@[simp] theorem State.inc48_opt (lo hi n : Nat) : (s.inc48 lo hi n).opt = s.opt := State.wr64_opt ..
@[simp] theorem State.inc48_audio (lo hi n : Nat) : (s.inc48 lo hi n).audio = s.audio := State.wr64_audio ..
@[simp] theorem State.inc48_therm (lo hi n : Nat) : (s.inc48 lo hi n).therm = s.therm := State.wr64_therm ..
@[simp] theorem State.inc48_perf (lo hi n : Nat) : (s.inc48 lo hi n).perf = s.perf := State.wr64_perf ..
@[simp] theorem State.inc48_eff (lo hi n : Nat) : (s.inc48 lo hi n).eff = s.eff := State.wr64_eff ..

/-! ### putEff, emit and useFree -/

@[simp] theorem State.putEff_pending (a : Nat) (v : Word) : (s.putEff a v).pending = s.pending := rfl
@[simp] theorem State.putEff_out (a : Nat) (v : Word) : (s.putEff a v).out = s.out := rfl
@[simp] theorem State.putEff_freeCount (a : Nat) (v : Word) : (s.putEff a v).freeCount = s.freeCount := rfl
@[simp] theorem State.putEff_power (a : Nat) (v : Word) : (s.putEff a v).power = s.power := rfl
@[simp] theorem State.putEff_time (a : Nat) (v : Word) : (s.putEff a v).time = s.time := rfl
@[simp] theorem State.putEff_router (a : Nat) (v : Word) : (s.putEff a v).router = s.router := rfl
@[simp] theorem State.putEff_bus (a : Nat) (v : Word) : (s.putEff a v).bus = s.bus := rfl
@[simp] theorem State.putEff_ring (a : Nat) (v : Word) : (s.putEff a v).ring = s.ring := rfl
@[simp] theorem State.putEff_txn (a : Nat) (v : Word) : (s.putEff a v).txn = s.txn := rfl
@[simp] theorem State.putEff_sched (a : Nat) (v : Word) : (s.putEff a v).sched = s.sched := rfl
@[simp] theorem State.putEff_maint (a : Nat) (v : Word) : (s.putEff a v).maint = s.maint := rfl
@[simp] theorem State.putEff_mem (a : Nat) (v : Word) : (s.putEff a v).mem = s.mem := rfl
@[simp] theorem State.putEff_ing (a : Nat) (v : Word) : (s.putEff a v).ing = s.ing := rfl
@[simp] theorem State.putEff_eng (a : Nat) (v : Word) : (s.putEff a v).eng = s.eng := rfl
@[simp] theorem State.putEff_heads (a : Nat) (v : Word) : (s.putEff a v).heads = s.heads := rfl
@[simp] theorem State.putEff_links (a : Nat) (v : Word) : (s.putEff a v).links = s.links := rfl
@[simp] theorem State.putEff_keeper (a : Nat) (v : Word) : (s.putEff a v).keeper = s.keeper := rfl
@[simp] theorem State.putEff_opt (a : Nat) (v : Word) : (s.putEff a v).opt = s.opt := rfl
@[simp] theorem State.putEff_audio (a : Nat) (v : Word) : (s.putEff a v).audio = s.audio := rfl
@[simp] theorem State.putEff_therm (a : Nat) (v : Word) : (s.putEff a v).therm = s.therm := rfl
@[simp] theorem State.putEff_perf (a : Nat) (v : Word) : (s.putEff a v).perf = s.perf := rfl
@[simp] theorem State.putEff_regs (a : Nat) (v : Word) : (s.putEff a v).regs = s.regs := rfl
@[simp] theorem State.emit_pending (o : Output) : (s.emit o).pending = s.pending := rfl
@[simp] theorem State.emit_freeCount (o : Output) : (s.emit o).freeCount = s.freeCount := rfl
@[simp] theorem State.emit_power (o : Output) : (s.emit o).power = s.power := rfl
@[simp] theorem State.emit_time (o : Output) : (s.emit o).time = s.time := rfl
@[simp] theorem State.emit_router (o : Output) : (s.emit o).router = s.router := rfl
@[simp] theorem State.emit_bus (o : Output) : (s.emit o).bus = s.bus := rfl
@[simp] theorem State.emit_ring (o : Output) : (s.emit o).ring = s.ring := rfl
@[simp] theorem State.emit_txn (o : Output) : (s.emit o).txn = s.txn := rfl
@[simp] theorem State.emit_sched (o : Output) : (s.emit o).sched = s.sched := rfl
@[simp] theorem State.emit_maint (o : Output) : (s.emit o).maint = s.maint := rfl
@[simp] theorem State.emit_mem (o : Output) : (s.emit o).mem = s.mem := rfl
@[simp] theorem State.emit_ing (o : Output) : (s.emit o).ing = s.ing := rfl
@[simp] theorem State.emit_eng (o : Output) : (s.emit o).eng = s.eng := rfl
@[simp] theorem State.emit_heads (o : Output) : (s.emit o).heads = s.heads := rfl
@[simp] theorem State.emit_links (o : Output) : (s.emit o).links = s.links := rfl
@[simp] theorem State.emit_keeper (o : Output) : (s.emit o).keeper = s.keeper := rfl
@[simp] theorem State.emit_opt (o : Output) : (s.emit o).opt = s.opt := rfl
@[simp] theorem State.emit_audio (o : Output) : (s.emit o).audio = s.audio := rfl
@[simp] theorem State.emit_therm (o : Output) : (s.emit o).therm = s.therm := rfl
@[simp] theorem State.emit_perf (o : Output) : (s.emit o).perf = s.perf := rfl
@[simp] theorem State.emit_eff (o : Output) : (s.emit o).eff = s.eff := rfl
@[simp] theorem State.emit_regs (o : Output) : (s.emit o).regs = s.regs := rfl
@[simp] theorem State.emit_out (o : Output) : (s.emit o).out = o :: s.out := rfl
@[simp] theorem State.useFree_pending : s.useFree.pending = s.pending := rfl
@[simp] theorem State.useFree_out : s.useFree.out = s.out := rfl
@[simp] theorem State.useFree_power : s.useFree.power = s.power := rfl
@[simp] theorem State.useFree_time : s.useFree.time = s.time := rfl
@[simp] theorem State.useFree_router : s.useFree.router = s.router := rfl
@[simp] theorem State.useFree_bus : s.useFree.bus = s.bus := rfl
@[simp] theorem State.useFree_ring : s.useFree.ring = s.ring := rfl
@[simp] theorem State.useFree_txn : s.useFree.txn = s.txn := rfl
@[simp] theorem State.useFree_sched : s.useFree.sched = s.sched := rfl
@[simp] theorem State.useFree_maint : s.useFree.maint = s.maint := rfl
@[simp] theorem State.useFree_mem : s.useFree.mem = s.mem := rfl
@[simp] theorem State.useFree_ing : s.useFree.ing = s.ing := rfl
@[simp] theorem State.useFree_eng : s.useFree.eng = s.eng := rfl
@[simp] theorem State.useFree_heads : s.useFree.heads = s.heads := rfl
@[simp] theorem State.useFree_links : s.useFree.links = s.links := rfl
@[simp] theorem State.useFree_keeper : s.useFree.keeper = s.keeper := rfl
@[simp] theorem State.useFree_opt : s.useFree.opt = s.opt := rfl
@[simp] theorem State.useFree_audio : s.useFree.audio = s.audio := rfl
@[simp] theorem State.useFree_therm : s.useFree.therm = s.therm := rfl
@[simp] theorem State.useFree_perf : s.useFree.perf = s.perf := rfl
@[simp] theorem State.useFree_eff : s.useFree.eff = s.eff := rfl
@[simp] theorem State.useFree_regs : s.useFree.regs = s.regs := rfl
@[simp] theorem State.useFree_freeCount : s.useFree.freeCount = s.freeCount + 1 := rfl

/-! ### cond -/

@[simp] theorem State.cond_true (g : State → State) : s.cond true g = g s := rfl
@[simp] theorem State.cond_false (g : State → State) : s.cond false g = s := rfl

/-- What both branches leave alone, the choice leaves alone. -/
theorem State.cond_keeps {α : Type} (π : State → α) (c : Bool) (g : State → State) (h : π (g s) = π s) :
    π (s.cond c g) = π s := by
  cases c
  · rfl
  · exact h

/-! ### Folds -/

/-- A projection that every round leaves alone, a fold leaves alone. -/
theorem foldl_keeps {α β σ : Type} (π : σ → α) (f : σ → β → σ) (h : ∀ s b, π (f s b) = π s) (l : List β) (s : σ) :
    π (l.foldl f s) = π s := by
  induction l generalizing s with
  | nil => rfl
  | cons b t ih => rw [List.foldl_cons, ih, h]

/-- A property that every round keeps, a fold keeps. -/
theorem foldl_inv {β σ : Type} (P : σ → Prop) (f : σ → β → σ) (h : ∀ s b, P s → P (f s b)) (l : List β) (s : σ)
    (hs : P s) : P (l.foldl f s) := by
  induction l generalizing s with
  | nil => exact hs
  | cons b t ih => exact ih _ (h s b hs)

end Sys2Proof.Machine
end

