-- ==== Sys2Proof/Laws/Regs.lean ====
section
/-!
SUPPORT. The laws of registers: read after write for whole words, fields, bits and 64-bit registers, and that register
operations keep the register file canonical.
-/
namespace Sys2Proof.Machine

variable (s : State)

/-! ### Fields of words -/

theorem getLsbD_setFld (w : Word) (lo len v i : Nat) (h : lo + len ≤ 32) (hi : i < 32) :
    (setFld w lo len v).getLsbD i = if lo ≤ i ∧ i < lo + len then v.testBit (i - lo) else w.getLsbD i := by
  simp only [setFld, BitVec.getLsbD_or, BitVec.getLsbD_and, BitVec.getLsbD_not, BitVec.getLsbD_shiftLeft,
    BitVec.getLsbD_ofNat, hi, decide_true, Bool.true_and]
  by_cases h1 : i < lo
  · simp [h1, Nat.not_le.2 h1]
  · have h2 : lo ≤ i := Nat.le_of_not_lt h1
    have h3 : i - lo < 32 := by omega
    simp only [h1, decide_false, Bool.not_false, h3, decide_true, Bool.true_and, h2, true_and,
      Nat.testBit_two_pow_sub_one, Nat.testBit_mod_two_pow]
    by_cases h4 : i < lo + len
    · have h5 : i - lo < len := by omega
      simp [h4, h5]
    · have h5 : ¬ i - lo < len := by omega
      simp [h4, h5]

theorem testBit_fld (w : Word) (lo len i : Nat) :
    (fld w lo len).testBit i = (decide (i < len) && w.getLsbD (lo + i)) := by
  simp [fld, Nat.testBit_mod_two_pow, BitVec.testBit_toNat]

theorem fld_lt (w : Word) (lo len : Nat) : fld w lo len < 2 ^ len := Nat.mod_lt _ (Nat.two_pow_pos _)

/-- A field reads what was put into it, modulo its width. -/
theorem fld_setFld (w : Word) (lo len v : Nat) (h : lo + len ≤ 32) : fld (setFld w lo len v) lo len = v % 2 ^ len := by
  apply Nat.eq_of_testBit_eq
  intro i
  rw [testBit_fld, Nat.testBit_mod_two_pow]
  by_cases hi : i < len
  · rw [getLsbD_setFld w lo len v (lo + i) h (by omega)]
    simp [hi]
  · simp [hi]

/-- A field beside the one replaced keeps its value. -/
theorem fld_setFld_ne (w : Word) (lo len v l n : Nat) (h : lo + len ≤ 32) (hd : l + n ≤ lo ∨ lo + len ≤ l) :
    fld (setFld w lo len v) l n = fld w l n := by
  apply Nat.eq_of_testBit_eq
  intro i
  rw [testBit_fld, testBit_fld]
  by_cases hi : i < n
  · by_cases h32 : l + i < 32
    · rw [getLsbD_setFld w lo len v (l + i) h h32, if_neg (by omega)]
    · rw [BitVec.getLsbD_of_ge _ _ (Nat.le_of_not_lt h32), BitVec.getLsbD_of_ge _ _ (Nat.le_of_not_lt h32)]
  · simp [hi]

theorem bit_setFld_ne (w : Word) (lo len v i : Nat) (h : lo + len ≤ 32) (hd : i < lo ∨ lo + len ≤ i) :
    bit (setFld w lo len v) i = bit w i := by
  unfold bit
  by_cases h32 : i < 32
  · rw [getLsbD_setFld w lo len v i h h32, if_neg (by omega)]
  · rw [BitVec.getLsbD_of_ge _ _ (Nat.le_of_not_lt h32), BitVec.getLsbD_of_ge _ _ (Nat.le_of_not_lt h32)]

theorem bit_setFld_one (w : Word) (i : Nat) (v : Bool) (h : i < 32) : bit (setFld w i 1 (b2n v)) i = v := by
  unfold bit
  rw [getLsbD_setFld w i 1 _ i (by omega) h, if_pos (by omega)]
  cases v <;> simp [b2n]

/-! ### Whole words -/

theorem State.rd_wr (a b : Nat) (v : Word) : (s.wr a v).rd b = if b = a then v else s.rd b :=
  Laws.tabGet_tabSet ..

@[simp] theorem State.rd_wr_self (a : Nat) (v : Word) : (s.wr a v).rd a = v := Laws.tabGet_tabSet_self ..

theorem State.rd_wr_ne {a b : Nat} (v : Word) (h : b ≠ a) : (s.wr a v).rd b = s.rd b := Laws.tabGet_tabSet_ne _ _ _ h

/-- Reading depends on the register file only. -/
theorem State.rd_congr {s t : State} (h : t.regs = s.regs) (a : Nat) : t.rd a = s.rd a := by
  simp only [State.rd, h]

@[simp] theorem State.rd_putEff (a b : Nat) (v : Word) : (s.putEff a v).rd b = s.rd b := rfl
@[simp] theorem State.rd_emit (o : Output) (b : Nat) : (s.emit o).rd b = s.rd b := rfl
@[simp] theorem State.rd_useFree (b : Nat) : s.useFree.rd b = s.rd b := rfl

theorem State.rd_setF (a b lo len v : Nat) :
    (s.setF a lo len v).rd b = if b = a then setFld (s.rd a) lo len v else s.rd b := State.rd_wr ..

@[simp] theorem State.rd_setF_self (a lo len v : Nat) : (s.setF a lo len v).rd a = setFld (s.rd a) lo len v :=
  State.rd_wr_self ..

theorem State.rd_setF_ne {a b : Nat} (lo len v : Nat) (h : b ≠ a) : (s.setF a lo len v).rd b = s.rd b :=
  State.rd_wr_ne _ _ h

theorem State.rd_setB_ne {a b : Nat} (i : Nat) (v : Bool) (h : b ≠ a) : (s.setB a i v).rd b = s.rd b :=
  State.rd_wr_ne _ _ h

theorem State.rd_inc (a b : Nat) : (s.inc a).rd b = if b = a then satAdd (s.rd a) 1 0xFFFFFFFF else s.rd b :=
  State.rd_wr ..

@[simp] theorem State.rd_inc_self (a : Nat) : (s.inc a).rd a = satAdd (s.rd a) 1 0xFFFFFFFF := State.rd_wr_self ..

theorem State.rd_inc_ne {a b : Nat} (h : b ≠ a) : (s.inc a).rd b = s.rd b := State.rd_wr_ne _ _ h

theorem State.rd_incBy_ne {a b : Nat} (n : Nat) (h : b ≠ a) : (s.incBy a n).rd b = s.rd b := State.rd_wr_ne _ _ h

theorem State.rd_incTo_ne {a b : Nat} (n : Nat) (h : b ≠ a) : (s.incTo a n).rd b = s.rd b := State.rd_wr_ne _ _ h

/-! ### Fields and bits of registers -/

/-- A field of a register reads what was put into it. -/
theorem State.f_setF (a lo len v : Nat) (h : lo + len ≤ 32) : (s.setF a lo len v).f a lo len = v % 2 ^ len := by
  simp only [State.f, State.rd_setF_self, fld_setFld _ _ _ _ h]

/-- A field of another register, or beside the one replaced, keeps its value. -/
theorem State.f_setF_ne (a lo len v b l n : Nat) (h : lo + len ≤ 32) (hd : b ≠ a ∨ l + n ≤ lo ∨ lo + len ≤ l) :
    (s.setF a lo len v).f b l n = s.f b l n := by
  by_cases hb : b = a
  · subst hb
    simp only [State.f, State.rd_setF_self, fld_setFld_ne _ _ _ _ _ _ h (hd.resolve_left (· rfl))]
  · simp only [State.f, State.rd_setF_ne _ _ _ _ hb]

theorem State.b_setB (a i : Nat) (v : Bool) (h : i < 32) : (s.setB a i v).b a i = v := by
  simp only [State.setB, State.b, State.rd_setF_self, bit_setFld_one _ _ _ h]

theorem State.b_setB_ne (a i : Nat) (v : Bool) (b j : Nat) (h : i < 32) (hd : b ≠ a ∨ j ≠ i) :
    (s.setB a i v).b b j = s.b b j := by
  by_cases hb : b = a
  · subst hb
    simp only [State.setB, State.b, State.rd_setF_self]
    exact bit_setFld_ne _ _ _ _ _ (by omega) (by omega)
  · simp only [State.b, State.rd_setB_ne _ _ _ hb]

theorem State.f_wr_ne {a b : Nat} (v : Word) (l n : Nat) (h : b ≠ a) : (s.wr a v).f b l n = s.f b l n := by
  simp only [State.f, State.rd_wr_ne _ _ h]

theorem State.b_wr_ne {a b : Nat} (v : Word) (i : Nat) (h : b ≠ a) : (s.wr a v).b b i = s.b b i := by
  simp only [State.b, State.rd_wr_ne _ _ h]

/-! ### 64-bit registers -/

theorem State.rd_wr64_ne {lo hi b : Nat} (n : Nat) (h1 : b ≠ lo) (h2 : b ≠ hi) : (s.wr64 lo hi n).rd b = s.rd b := by
  rw [State.wr64, State.rd_wr_ne _ _ h2, State.rd_wr_ne _ _ h1]

/-- A 64-bit register reads what was put into it, modulo 2^64. -/
theorem State.rd64_wr64 {lo hi : Nat} (n : Nat) (h : lo ≠ hi) : (s.wr64 lo hi n).rd64 lo hi = n % 2 ^ 64 := by
  simp only [State.rd64, State.rdN, State.wr64, State.rd_wr_self, State.rd_wr_ne _ _ h, w32, BitVec.toNat_ofNat]
  omega

/-! ### The canonical form -/

theorem State.wf_wr (a : Nat) (v : Word) (h : tabWf Reg.reset s.regs = true) :
    tabWf Reg.reset (s.wr a v).regs = true := Laws.tabWf_tabSet _ _ _ _ h

theorem State.wf_putEff (a : Nat) (v : Word) (h : tabWf Reg.reset s.eff = true) :
    tabWf Reg.reset (s.putEff a v).eff = true := Laws.tabWf_tabSet _ _ _ _ h

end Sys2Proof.Machine
end

