-- ==== Sys2Proof/Laws/Raise.lean ====
section
/-!
SUPPORT. What raising an event can do (R63 to R74): it writes router registers, the router's and the maintenance log's state and
the outputs, and nothing else.
-/
namespace Sys2Proof.Machine

theorem evPage_base (e : Ev) : evPage e % 0x1000 = 0 ∧ evPage e < 0x100000 := by
  cases e <;> first | exact ⟨rfl, by decide⟩ | (simp only [evPage]; omega)

theorem routerReg_evtStatus (e : Ev) : routerReg (Reg.PAGE_EVT_STATUS (evPage e)) = true := by
  have h := evPage_base e
  apply decide_eq_true
  simp only [Reg.PAGE_EVT_STATUS]
  omega

theorem routerReg_pba (v : Nat) (h : v < 64) : routerReg (Reg.MSIX_PBA (v / 32)) = true := by
  apply decide_eq_true
  simp only [Reg.MSIX_PBA]
  omega

/-- `t` differs from `s` at most in what the event router owns. -/
def RouterOnly (s t : State) : Prop :=
  t = { s with regs := t.regs, router := t.router, maint := t.maint, out := t.out } ∧
    (∀ a, routerReg a = false → t.rd a = s.rd a) ∧
    (tabWf Reg.reset s.regs = true → tabWf Reg.reset t.regs = true)

theorem RouterOnly.refl (s : State) : RouterOnly s s := ⟨rfl, fun _ _ => rfl, id⟩

theorem RouterOnly.trans {s t u : State} (h : RouterOnly s t) (k : RouterOnly t u) : RouterOnly s u := by
  obtain ⟨h1, h2, h3⟩ := h
  obtain ⟨k1, k2, k3⟩ := k
  refine ⟨?_, fun a ha => (k2 a ha).trans (h2 a ha), k3 ∘ h3⟩
  rw [k1, h1]

theorem RouterOnly.wr (s : State) {a : Nat} (v : Word) (h : routerReg a = true) : RouterOnly s (s.wr a v) :=
  ⟨rfl, fun b hb => State.rd_wr_ne s v (fun e => by simp [e, h] at hb), State.wf_wr s a v⟩

theorem RouterOnly.ite (s t u : State) (c : Prop) [Decidable c] (h : RouterOnly s t) (k : RouterOnly s u) :
    RouterOnly s (if c then t else u) := by
  split
  · exact h
  · exact k

theorem sendVector_routerOnly (s : State) (v : Nat) (hv : v < 64) : RouterOnly s (sendVector s v) := by
  unfold sendVector
  split
  · exact .wr s _ (routerReg_pba v hv)
  · exact .ite _ _ _ _ ⟨rfl, fun _ _ => rfl, id⟩ ⟨rfl, fun _ _ => rfl, id⟩

theorem triggerVector_routerOnly (s : State) (v : Nat) (hv : v < 64) : RouterOnly s (triggerVector s v) :=
  .ite _ _ _ _ (.ite _ _ _ _ (.refl s) ⟨rfl, fun _ _ => rfl, id⟩) (sendVector_routerOnly s v hv)

theorem lanternPush_routerOnly (s : State) (r : LogRec) : RouterOnly s (lanternPush s r).1 := by
  unfold lanternPush
  dsimp only
  split
  · exact .wr { s with router := _ } _ (by decide)
  · exact .wr { s with router := _ } _ (by split <;> decide)

theorem maintNote_routerOnly (s : State) (kind ev sv : Nat) (d : List Word) : RouterOnly s (maintNote s kind ev sv d) := by
  unfold maintNote
  exact .ite _ _ _ _ ⟨rfl, fun _ _ => rfl, id⟩ ⟨rfl, fun _ _ => rfl, id⟩

theorem acceptEvent_routerOnly (s : State) (e : Ev) (f : Bool) (d : List Word) : RouterOnly s (acceptEvent s e f d).1 := by
  unfold acceptEvent
  simp only
  have h1 : RouterOnly s (if mapEntry s (evNumber e) / 128 % 2 = 1 then
      lanternPush { s with router := { s.router with
        coalesced := tabSet (fun _ => 0) s.router.coalesced (evNumber e) 0 } }
        ⟨evNumber e, evSev e, f, 0, tabGet (fun _ => 0) s.router.coalesced (evNumber e), s.now, d⟩
      else (s, none)).1 := by
    split
    · exact .trans (t := { s with router := _ }) ⟨rfl, fun _ _ => rfl, id⟩ (lanternPush_routerOnly _ _)
    · exact .refl s
  refine h1.trans (.trans (t := if 1 ≤ evSev e then _ else _)
    (.ite _ _ _ _ (maintNote_routerOnly ..) (.refl _)) (.ite _ _ _ _ (triggerVector_routerOnly _ _ ?_) (.refl _)))
  exact Nat.mod_lt _ (by decide)

theorem raiseN_routerOnly (fuel : Nat) : ∀ (s : State) (e : Ev) (f : Bool) (d : List Word), RouterOnly s (raiseN fuel s e f d) := by
  induction fuel with
  | zero => intro s _ _ _; exact .refl s
  | succ n ih =>
    intro s e f d
    have h2 : RouterOnly s (s.setB (Reg.PAGE_EVT_STATUS (evPage e)) (evBit e) true) := .wr s _ (routerReg_evtStatus e)
    have h3 := h2.trans (acceptEvent_routerOnly (s.setB (Reg.PAGE_EVT_STATUS (evPage e)) (evBit e) true) e f d)
    unfold raiseN
    simp only
    split
    · exact ⟨rfl, fun _ _ => rfl, id⟩
    · split
      · split
        · exact h3
        · exact h3.trans (.ite _ _ _ _ (ih ..) (ih ..))
      · exact h2

/-- Raising an event changes only what the router owns. -/
theorem State.raise_routerOnly (s : State) (e : Ev) (d : List Word) : RouterOnly s (s.raise e d) :=
  .ite _ _ _ _ (raiseN_routerOnly 5 s e false d) (.refl s)

theorem State.force_routerOnly (s : State) (e : Ev) : RouterOnly s (s.force e) :=
  .ite _ _ _ _ (raiseN_routerOnly 5 s e true _) (.refl s)

/-- A register the router does not own keeps its value. -/
theorem State.rd_raise (s : State) (e : Ev) (d : List Word) {a : Nat} (h : routerReg a = false) :
    (s.raise e d).rd a = s.rd a := (s.raise_routerOnly e d).2.1 a h

theorem State.f_raise (s : State) (e : Ev) (d : List Word) {a : Nat} (l n : Nat) (h : routerReg a = false) :
    (s.raise e d).f a l n = s.f a l n := by simp only [State.f, s.rd_raise e d h]

theorem State.b_raise (s : State) (e : Ev) (d : List Word) {a : Nat} (i : Nat) (h : routerReg a = false) :
    (s.raise e d).b a i = s.b a i := by simp only [State.b, s.rd_raise e d h]

theorem State.raise_wf (s : State) (e : Ev) (d : List Word) (h : tabWf Reg.reset s.regs = true) :
    tabWf Reg.reset (s.raise e d).regs = true := (s.raise_routerOnly e d).2.2 h

variable (s : State) (e : Ev) (d : List Word)

@[simp] theorem State.raise_pending : (s.raise e d).pending = s.pending := by have h := congrArg State.pending (s.raise_routerOnly e d).1; exact h
@[simp] theorem State.raise_freeCount : (s.raise e d).freeCount = s.freeCount := by have h := congrArg State.freeCount (s.raise_routerOnly e d).1; exact h
@[simp] theorem State.raise_power : (s.raise e d).power = s.power := by have h := congrArg State.power (s.raise_routerOnly e d).1; exact h
@[simp] theorem State.raise_time : (s.raise e d).time = s.time := by have h := congrArg State.time (s.raise_routerOnly e d).1; exact h
@[simp] theorem State.raise_bus : (s.raise e d).bus = s.bus := by have h := congrArg State.bus (s.raise_routerOnly e d).1; exact h
@[simp] theorem State.raise_ring : (s.raise e d).ring = s.ring := by have h := congrArg State.ring (s.raise_routerOnly e d).1; exact h
@[simp] theorem State.raise_txn : (s.raise e d).txn = s.txn := by have h := congrArg State.txn (s.raise_routerOnly e d).1; exact h
@[simp] theorem State.raise_sched : (s.raise e d).sched = s.sched := by have h := congrArg State.sched (s.raise_routerOnly e d).1; exact h
@[simp] theorem State.raise_mem : (s.raise e d).mem = s.mem := by have h := congrArg State.mem (s.raise_routerOnly e d).1; exact h
@[simp] theorem State.raise_ing : (s.raise e d).ing = s.ing := by have h := congrArg State.ing (s.raise_routerOnly e d).1; exact h
@[simp] theorem State.raise_eng : (s.raise e d).eng = s.eng := by have h := congrArg State.eng (s.raise_routerOnly e d).1; exact h
@[simp] theorem State.raise_heads : (s.raise e d).heads = s.heads := by have h := congrArg State.heads (s.raise_routerOnly e d).1; exact h
@[simp] theorem State.raise_links : (s.raise e d).links = s.links := by have h := congrArg State.links (s.raise_routerOnly e d).1; exact h
@[simp] theorem State.raise_keeper : (s.raise e d).keeper = s.keeper := by have h := congrArg State.keeper (s.raise_routerOnly e d).1; exact h
@[simp] theorem State.raise_opt : (s.raise e d).opt = s.opt := by have h := congrArg State.opt (s.raise_routerOnly e d).1; exact h
@[simp] theorem State.raise_audio : (s.raise e d).audio = s.audio := by have h := congrArg State.audio (s.raise_routerOnly e d).1; exact h
@[simp] theorem State.raise_therm : (s.raise e d).therm = s.therm := by have h := congrArg State.therm (s.raise_routerOnly e d).1; exact h
@[simp] theorem State.raise_perf : (s.raise e d).perf = s.perf := by have h := congrArg State.perf (s.raise_routerOnly e d).1; exact h
@[simp] theorem State.raise_eff : (s.raise e d).eff = s.eff := by have h := congrArg State.eff (s.raise_routerOnly e d).1; exact h

@[simp] theorem State.force_pending : (s.force e).pending = s.pending := by have h := congrArg State.pending (s.force_routerOnly e).1; exact h
@[simp] theorem State.force_freeCount : (s.force e).freeCount = s.freeCount := by have h := congrArg State.freeCount (s.force_routerOnly e).1; exact h
@[simp] theorem State.force_power : (s.force e).power = s.power := by have h := congrArg State.power (s.force_routerOnly e).1; exact h
@[simp] theorem State.force_time : (s.force e).time = s.time := by have h := congrArg State.time (s.force_routerOnly e).1; exact h
@[simp] theorem State.force_bus : (s.force e).bus = s.bus := by have h := congrArg State.bus (s.force_routerOnly e).1; exact h
@[simp] theorem State.force_ring : (s.force e).ring = s.ring := by have h := congrArg State.ring (s.force_routerOnly e).1; exact h
@[simp] theorem State.force_txn : (s.force e).txn = s.txn := by have h := congrArg State.txn (s.force_routerOnly e).1; exact h
@[simp] theorem State.force_sched : (s.force e).sched = s.sched := by have h := congrArg State.sched (s.force_routerOnly e).1; exact h
@[simp] theorem State.force_mem : (s.force e).mem = s.mem := by have h := congrArg State.mem (s.force_routerOnly e).1; exact h
@[simp] theorem State.force_ing : (s.force e).ing = s.ing := by have h := congrArg State.ing (s.force_routerOnly e).1; exact h
@[simp] theorem State.force_eng : (s.force e).eng = s.eng := by have h := congrArg State.eng (s.force_routerOnly e).1; exact h
@[simp] theorem State.force_heads : (s.force e).heads = s.heads := by have h := congrArg State.heads (s.force_routerOnly e).1; exact h
@[simp] theorem State.force_links : (s.force e).links = s.links := by have h := congrArg State.links (s.force_routerOnly e).1; exact h
@[simp] theorem State.force_keeper : (s.force e).keeper = s.keeper := by have h := congrArg State.keeper (s.force_routerOnly e).1; exact h
@[simp] theorem State.force_opt : (s.force e).opt = s.opt := by have h := congrArg State.opt (s.force_routerOnly e).1; exact h
@[simp] theorem State.force_audio : (s.force e).audio = s.audio := by have h := congrArg State.audio (s.force_routerOnly e).1; exact h
@[simp] theorem State.force_therm : (s.force e).therm = s.therm := by have h := congrArg State.therm (s.force_routerOnly e).1; exact h
@[simp] theorem State.force_perf : (s.force e).perf = s.perf := by have h := congrArg State.perf (s.force_routerOnly e).1; exact h
@[simp] theorem State.force_eff : (s.force e).eff = s.eff := by have h := congrArg State.eff (s.force_routerOnly e).1; exact h

/-! ### Refusals and guards -/

@[simp] theorem refuse_eq (a : Nat) : refuse s a = s.raise .regRefused [w32 a] := rfl

theorem gated_go {s : State} {r : Requester} {a : Nat} {f : Option Nat} (g : State → State) (h : cfgGate s r a f = .go) :
    gated s r a f g = g s := by simp only [gated, h]

theorem gated_refused {s : State} {r : Requester} {a : Nat} {f : Option Nat} (g : State → State)
    (h : cfgGate s r a f = .refused) : gated s r a f g = refuse s a := by simp only [gated, h]

theorem gated_absent {s : State} {r : Requester} {a : Nat} {f : Option Nat} (g : State → State)
    (h : cfgGate s r a f = .absent) : gated s r a f g = s := by simp only [gated, h]

theorem gatedIf_go {s : State} {r : Requester} {a : Nat} {f : Option Nat} (ok : State → Bool) (g : State → State)
    (h : cfgGate s r a f = .go) : gatedIf s r a f ok g = if ok s then g s else refuse s a := by
  simp only [gatedIf, gated, h]

/-- What an invariant of the guards' own effects and of the guarded update keeps, a guarded write keeps. -/
theorem gated_inv (P : State → Prop) (s : State) (r : Requester) (a : Nat) (f : Option Nat) (g : State → State) (hs : P s)
    (hr : ∀ s e d, P s → P (State.raise s e d)) (hw : ∀ s a v, P s → P (State.wr s a v)) (hg : P (g s)) :
    P (gated s r a f g) := by
  unfold gated
  split
  · exact hs
  · exact hr _ _ _ (hw _ _ _ (hw _ _ _ hs))
  · exact hr _ _ _ hs
  · exact hr _ _ _ hs
  · exact hg

end Sys2Proof.Machine
end

