-- ==== Sys2Proof/Laws/Closed.lean ====
section
/-!
SUPPORT. Footprints. `Closed F P` says that the property P of a state survives every primitive update of the parts that F allows.
The lemma of a definition (Laws/Foot*.lean) says which parts it may update, and so everything it can do to a state: whatever
is closed under those updates, it keeps.
-/
namespace Sys2Proof.Machine

/-- P survives every primitive update of the parts that F allows. -/
structure Closed (F : Part → Bool) (P : State → Prop) : Prop where
  wr : F .regs = true → ∀ {s : State} (a : Nat) (v : Word), P s → P (s.wr a v)
  regsFilter : F .regs = true → ∀ {s : State} (q : Nat × Word → Bool), P s → P { s with regs := s.regs.filter q }
  putEff : F .eff = true → ∀ {s : State} (a : Nat) (v : Word), P s → P (s.putEff a v)
  effFilter : F .eff = true → ∀ {s : State} (q : Nat × Word → Bool), P s → P { s with eff := s.eff.filter q }
  hbmSet : F .hbm = true → ∀ {s : State} (a : Nat) (b : Byte), P s →
    P { s with mem := { s.mem with hbm := tabSet byteDefault s.mem.hbm a b } }
  hbmFilter : F .hbm = true → ∀ {s : State} (q : Nat × Byte → Bool), P s →
    P { s with mem := { s.mem with hbm := s.mem.hbm.filter q } }
  hbmClear : F .hbm = true → ∀ {s : State}, P s → P { s with mem := { s.mem with hbm := [] } }
  hostSet : F .host = true → ∀ {s : State} (a : Nat) (b : Byte), P s →
    P { s with mem := { s.mem with host := tabSet byteDefault s.mem.host a b } }
  rest : ∀ {s t : State}, (∀ p, F p = false → samePart p s t) → t.pending = s.pending → t.regs = s.regs → t.eff = s.eff →
    t.mem.hbm = s.mem.hbm → t.mem.host = s.mem.host → P s → P t

variable {F : Part → Bool} {P : State → Prop}

/-! ### One part at a time -/

theorem Closed.out (hP : Closed F P) (hF : F .out = true) {s : State} (x : List Output) (h : P s) : P { s with out := x } :=
  hP.rest (s := s) (fun p hp => by cases p <;> first | rfl | exact ⟨rfl, rfl⟩ | (rw [hF] at hp; cases hp)) rfl rfl rfl rfl rfl h

theorem Closed.freeCount (hP : Closed F P) (hF : F .freeCount = true) {s : State} (x : Nat) (h : P s) : P { s with freeCount := x } :=
  hP.rest (s := s) (fun p hp => by cases p <;> first | rfl | exact ⟨rfl, rfl⟩ | (rw [hF] at hp; cases hp)) rfl rfl rfl rfl rfl h

theorem Closed.power (hP : Closed F P) (hF : F .power = true) {s : State} (x : PowerSt) (h : P s) : P { s with power := x } :=
  hP.rest (s := s) (fun p hp => by cases p <;> first | rfl | exact ⟨rfl, rfl⟩ | (rw [hF] at hp; cases hp)) rfl rfl rfl rfl rfl h

theorem Closed.router (hP : Closed F P) (hF : F .router = true) {s : State} (x : RouterSt) (h : P s) : P { s with router := x } :=
  hP.rest (s := s) (fun p hp => by cases p <;> first | rfl | exact ⟨rfl, rfl⟩ | (rw [hF] at hp; cases hp)) rfl rfl rfl rfl rfl h

theorem Closed.bus (hP : Closed F P) (hF : F .bus = true) {s : State} (x : BusSt) (h : P s) : P { s with bus := x } :=
  hP.rest (s := s) (fun p hp => by cases p <;> first | rfl | exact ⟨rfl, rfl⟩ | (rw [hF] at hp; cases hp)) rfl rfl rfl rfl rfl h

theorem Closed.ring (hP : Closed F P) (hF : F .ring = true) {s : State} (x : RingSt) (h : P s) : P { s with ring := x } :=
  hP.rest (s := s) (fun p hp => by cases p <;> first | rfl | exact ⟨rfl, rfl⟩ | (rw [hF] at hp; cases hp)) rfl rfl rfl rfl rfl h

theorem Closed.txn (hP : Closed F P) (hF : F .txn = true) {s : State} (x : TxnSt) (h : P s) : P { s with txn := x } :=
  hP.rest (s := s) (fun p hp => by cases p <;> first | rfl | exact ⟨rfl, rfl⟩ | (rw [hF] at hp; cases hp)) rfl rfl rfl rfl rfl h

theorem Closed.sched (hP : Closed F P) (hF : F .sched = true) {s : State} (x : SchedSt) (h : P s) : P { s with sched := x } :=
  hP.rest (s := s) (fun p hp => by cases p <;> first | rfl | exact ⟨rfl, rfl⟩ | (rw [hF] at hp; cases hp)) rfl rfl rfl rfl rfl h

theorem Closed.maint (hP : Closed F P) (hF : F .maint = true) {s : State} (x : MaintSt) (h : P s) : P { s with maint := x } :=
  hP.rest (s := s) (fun p hp => by cases p <;> first | rfl | exact ⟨rfl, rfl⟩ | (rw [hF] at hp; cases hp)) rfl rfl rfl rfl rfl h

theorem Closed.ing (hP : Closed F P) (hF : F .ing = true) {s : State} (x : IngestSt) (h : P s) : P { s with ing := x } :=
  hP.rest (s := s) (fun p hp => by cases p <;> first | rfl | exact ⟨rfl, rfl⟩ | (rw [hF] at hp; cases hp)) rfl rfl rfl rfl rfl h

theorem Closed.eng (hP : Closed F P) (hF : F .eng = true) {s : State} (x : Tab EngineSt) (h : P s) : P { s with eng := x } :=
  hP.rest (s := s) (fun p hp => by cases p <;> first | rfl | exact ⟨rfl, rfl⟩ | (rw [hF] at hp; cases hp)) rfl rfl rfl rfl rfl h

theorem Closed.heads (hP : Closed F P) (hF : F .heads = true) {s : State} (x : Tab HeadSt) (h : P s) : P { s with heads := x } :=
  hP.rest (s := s) (fun p hp => by cases p <;> first | rfl | exact ⟨rfl, rfl⟩ | (rw [hF] at hp; cases hp)) rfl rfl rfl rfl rfl h

theorem Closed.links (hP : Closed F P) (hF : F .links = true) {s : State} (x : Tab LinkSt) (h : P s) : P { s with links := x } :=
  hP.rest (s := s) (fun p hp => by cases p <;> first | rfl | exact ⟨rfl, rfl⟩ | (rw [hF] at hp; cases hp)) rfl rfl rfl rfl rfl h

theorem Closed.keeper (hP : Closed F P) (hF : F .keeper = true) {s : State} (x : KeeperSt) (h : P s) : P { s with keeper := x } :=
  hP.rest (s := s) (fun p hp => by cases p <;> first | rfl | exact ⟨rfl, rfl⟩ | (rw [hF] at hp; cases hp)) rfl rfl rfl rfl rfl h

theorem Closed.opt (hP : Closed F P) (hF : F .opt = true) {s : State} (x : OptSt) (h : P s) : P { s with opt := x } :=
  hP.rest (s := s) (fun p hp => by cases p <;> first | rfl | exact ⟨rfl, rfl⟩ | (rw [hF] at hp; cases hp)) rfl rfl rfl rfl rfl h

theorem Closed.audio (hP : Closed F P) (hF : F .audio = true) {s : State} (x : Tab PortSt) (h : P s) : P { s with audio := x } :=
  hP.rest (s := s) (fun p hp => by cases p <;> first | rfl | exact ⟨rfl, rfl⟩ | (rw [hF] at hp; cases hp)) rfl rfl rfl rfl rfl h

theorem Closed.therm (hP : Closed F P) (hF : F .therm = true) {s : State} (x : ThermSt) (h : P s) : P { s with therm := x } :=
  hP.rest (s := s) (fun p hp => by cases p <;> first | rfl | exact ⟨rfl, rfl⟩ | (rw [hF] at hp; cases hp)) rfl rfl rfl rfl rfl h

theorem Closed.perf (hP : Closed F P) (hF : F .perf = true) {s : State} (x : PerfSt) (h : P s) : P { s with perf := x } :=
  hP.rest (s := s) (fun p hp => by cases p <;> first | rfl | exact ⟨rfl, rfl⟩ | (rw [hF] at hp; cases hp)) rfl rfl rfl rfl rfl h

theorem Closed.servo (hP : Closed F P) (hF : F .servo = true) {s : State} (x1 x2 : Int) (x3 : List Int) (x4 : Int) (x5 x6 x7 x8 : Bool)
    (x9 x10 : DomSt) (h : P s) :
    P { s with time := ⟨s.time.ns, s.time.frac, x1, x2, x3, x4, x5, x6, x7, x8, x9, x10⟩ } :=
  hP.rest (s := s) (fun p hp => by cases p <;> first | rfl | exact ⟨rfl, rfl⟩ | (rw [hF] at hp; cases hp)) rfl rfl rfl rfl rfl h

theorem Closed.clock (hP : Closed F P) (hF : F .clock = true) {s : State} (n : BitVec 64) (f : BitVec 28) (h : P s) :
    P { s with time := { s.time with ns := n, frac := f } } :=
  hP.rest (s := s) (fun p hp => by cases p <;> first | rfl | exact ⟨rfl, rfl⟩ | (rw [hF] at hp; cases hp)) rfl rfl rfl rfl rfl h

theorem Closed.memory (hP : Closed F P) (hF : F .memory = true) {s : State} (x2 : Tab Nat) (x3 : Tab Nat) (x4 : Nat) (x5 : List Nat) (x6 : List MemWait) (x7 : Nat) (x8 : Option (Nat × Bool × List Byte)) (x9 : Tab (List (Nat × Nat))) (x10 : Tab (List MemCmd)) (x11 : Tab (Option Nat)) (x12 : List (Nat × Nat)) (x13 : List (Nat × Nat × Nat)) (x14 : Option Nat) (x15 : Option Nat) (x16 : Tab (Option Int)) (x17 : Nat) (x18 : Bool) (x19 : Option Mig) (x20 : List Mig) (x21 : Option Mig) (x22 : Tab Nat) (x23 : List Nat) (x24 : Tab Nat) (x25 : Tab (List Nat)) (x26 : List Nat) (x27 : Nat) (h : P s) :
    P { s with mem := ⟨s.mem.hbm, s.mem.host, x2, x3, x4, x5, x6, x7, x8, x9, x10, x11, x12, x13, x14, x15, x16, x17, x18, x19, x20, x21, x22, x23, x24, x25, x26, x27⟩ } :=
  hP.rest (s := s) (fun p hp => by cases p <;> first | rfl | exact ⟨rfl, rfl⟩ | (rw [hF] at hp; cases hp)) rfl rfl rfl rfl rfl h

/-! ### The named operations -/

theorem Closed.setF (hP : Closed F P) (hF : F .regs = true) {s : State} (a lo len v : Nat) (h : P s) : P (s.setF a lo len v) :=
  hP.wr hF _ _ h

theorem Closed.setB (hP : Closed F P) (hF : F .regs = true) {s : State} (a i : Nat) (v : Bool) (h : P s) : P (s.setB a i v) :=
  hP.setF hF _ _ _ _ h

theorem Closed.wr64 (hP : Closed F P) (hF : F .regs = true) {s : State} (lo hi n : Nat) (h : P s) : P (s.wr64 lo hi n) :=
  hP.wr hF _ _ (hP.wr hF _ _ h)

theorem Closed.inc (hP : Closed F P) (hF : F .regs = true) {s : State} (a : Nat) (h : P s) : P (s.inc a) := hP.wr hF _ _ h

theorem Closed.incBy (hP : Closed F P) (hF : F .regs = true) {s : State} (a n : Nat) (h : P s) : P (s.incBy a n) :=
  hP.wr hF _ _ h

theorem Closed.incTo (hP : Closed F P) (hF : F .regs = true) {s : State} (a n : Nat) (h : P s) : P (s.incTo a n) :=
  hP.wr hF _ _ h

theorem Closed.inc48 (hP : Closed F P) (hF : F .regs = true) {s : State} (lo hi n : Nat) (h : P s) : P (s.inc48 lo hi n) :=
  hP.wr64 hF _ _ _ h

theorem Closed.wrAll (hP : Closed F P) (hF : F .regs = true) (l : List (Nat × Word)) {s : State} (h : P s) : P (s.wrAll l) := by
  induction l generalizing s with
  | nil => exact h
  | cons p t ih => exact ih (hP.wr hF _ _ h)

theorem Closed.emit (hP : Closed F P) (hF : F .out = true) {s : State} (o : Output) (h : P s) : P (s.emit o) := hP.out hF _ h

theorem Closed.useFree (hP : Closed F P) (hF : F .freeCount = true) {s : State} (h : P s) : P s.useFree := hP.freeCount hF _ h

theorem Closed.cond {s : State} (c : Bool) (g : State → State) (hg : ∀ s, P s → P (g s)) (h : P s) : P (s.cond c g) := by
  cases c
  · exact h
  · exact hg s h

theorem ite_closed {σ : Type} {P : σ → Prop} {c : Prop} [Decidable c] {s t : σ} (h : P s) (k : P t) :
    P (if c then s else t) := by
  split
  · exact h
  · exact k

theorem elim_closed {σ α : Type} {P : σ → Prop} {x : Option α} {a : σ} {f : α → σ} (h : P a) (k : ∀ v, P (f v)) :
    P (x.elim a f) := by
  cases x
  · exact h
  · exact k _

/-! ### Results of other shapes -/

/-- P of the state that an operation may answer. -/
def OptP (P : State → Prop) : Option State → Prop
  | none => True
  | some s => P s

theorem optP_none : OptP P none := trivial
theorem optP_some {s : State} (h : P s) : OptP P (some s) := h

theorem optP_of {x : Option State} {s : State} (e : x = some s) (h : OptP P x) : P s := by
  subst e
  exact h

theorem optP_getD {x : Option State} {s : State} (hx : OptP P x) (h : P s) : P (x.getD s) := by
  cases x
  · exact h
  · exact hx

/-- P of the state of a pair. -/
def FstP {β : Type} (P : State → Prop) (x : State × β) : Prop := P x.1

theorem fstP_mk {β : Type} {s : State} {b : β} (h : P s) : FstP P (s, b) := h
theorem fstP_of {β : Type} {x : State × β} (h : P x.1) : FstP P x := h

theorem fstP_elim {β : Type} {x : State × β} (h : FstP P x) : P x.1 := h

theorem foldl_fst {α β : Type} {f : State × β → α → State × β} {l : List α} {x : State × β}
    (hf : ∀ y a, FstP P y → FstP P (f y a)) (h : FstP P x) : P (l.foldl f x).1 :=
  foldl_inv (FstP P) f hf l x h

/-- P of a state found in a larger value. -/
def Via {σ : Type} (π : σ → State) (P : State → Prop) (x : σ) : Prop := P (π x)

theorem via_of {σ : Type} {π : σ → State} {x : σ} (h : P (π x)) : Via π P x := h

theorem fst_of {α : Type} {x : State × α} {s : State} {a : α} (e : x = (s, a)) (h : P x.1) : P s := by
  subst e
  exact h

/-- P of the state of an outcome. -/
def OutP (P : State → Prop) : Host.Outcome State Fault Refusal → Prop
  | .next s => P s
  | _ => True

theorem outP_next {s : State} (h : P s) : OutP P (.next s) := h
theorem outP_done {s : State} (h : P s) : OutP P (done s) := h

end Sys2Proof.Machine
end

