-- ==== Sys2Proof/Laws/Data.lean ====
section
/-!
SUPPORT. What moving data does to registers: reads and writes of HBM and host memory change no register but those that count
traffic and check codes, and the router's.
-/
namespace Sys2Proof.Machine

/-- `t` differs from `s` in no register but the router's and those that count moving data. -/
def DataOnly (s t : State) : Prop := ∀ a, routerReg a = false → dataReg a = false → t.rd a = s.rd a

theorem DataOnly.refl (s : State) : DataOnly s s := fun _ _ _ => rfl

theorem DataOnly.trans {s t u : State} (h : DataOnly s t) (k : DataOnly t u) : DataOnly s u :=
  fun a h1 h2 => (k a h1 h2).trans (h a h1 h2)

theorem DataOnly.wr (s : State) {a : Nat} (v : Word) (h : dataReg a = true) : DataOnly s (s.wr a v) :=
  fun b _ hb => State.rd_wr_ne s v (fun e => by rw [e, h] at hb; cases hb)

theorem DataOnly.same {s t : State} (h : t.regs = s.regs) : DataOnly s t := fun a _ _ => State.rd_congr h a

theorem DataOnly.raise (s : State) (e : Ev) (d : List Word) : DataOnly s (s.raise e d) := fun _ h _ => s.rd_raise e d h

theorem DataOnly.ite (s t u : State) (c : Prop) [Decidable c] (h : DataOnly s t) (k : DataOnly s u) :
    DataOnly s (if c then t else u) := by
  split
  · exact h
  · exact k

theorem DataOnly.wr64 (s : State) {lo hi : Nat} (n : Nat) (h : dataReg lo = true) (k : dataReg hi = true) :
    DataOnly s (s.wr64 lo hi n) := (DataOnly.wr s _ h).trans (.wr _ _ k)

theorem DataOnly.fold {α : Type} (f : State → α → State) (h : ∀ s x, DataOnly s (f s x)) :
    ∀ (l : List α) (s : State), DataOnly s (l.foldl f s)
  | [], s => .refl s
  | x :: l, s => (h s x).trans (fold f h l (f s x))

/-! ### Performance counters -/

theorem cntOfAddr_lt {a c : Nat} (h : cntOfAddr a = some c) : c < 272 := by
  unfold cntOfAddr at h
  split at h
  · injection h; omega
  · split at h
    · injection h; omega
    · split at h
      · injection h; omega
      · cases h

theorem cntFor_lt {s : State} {b i e c : Nat} (h : c ∈ cntFor s b i e) : c < 272 := by
  obtain ⟨p, -, hp⟩ := List.mem_filterMap.mp h
  cases hc : cntOfAddr p.1 with
  | none => simp [hc] at hp
  | some d =>
    simp only [hc, Option.ite_none_right_eq_some, Option.some.injEq] at hp
    rw [← hp.2]
    exact cntOfAddr_lt hc

theorem cntLo_data {c : Nat} (h : c < 273) : dataReg (cntLo c) = true ∧ dataReg (cntHi c) = true ∧ dataReg (cntOvf c) = true := by
  have h1 : dataReg (cntLo c) = true ∧ dataReg (cntHi c) = true := by
    unfold dataReg cntHi cntLo Reg.PERF_VALUE_LO
    constructor <;> (apply decide_eq_true; split <;> omega)
  refine ⟨h1.1, h1.2, ?_⟩
  unfold dataReg cntOvf privOvf Reg.PERF_OVF
  apply decide_eq_true
  split <;> omega

theorem perfOverflow_data (s : State) (c : Nat) (h : c < 273) : DataOnly s (perfOverflow s c) := by
  have hb := (cntLo_data h).2.2
  unfold perfOverflow
  simp only []
  split
  · exact .wr s _ hb
  · split
    · exact .same rfl
    · exact (DataOnly.wr s _ hb).trans (.raise _ _ _)

theorem cntStep_data (s : State) (c n : Nat) (h : c < 273) : DataOnly s (cntStep s c n).1 :=
  .wr64 s _ (cntLo_data h).1 (cntLo_data h).2.1

theorem cntAdd_data (s : State) (c n : Nat) (h : c < 272) : DataOnly s (cntAdd s c n) := by
  have h1 := cntStep_data s c n (by omega)
  unfold cntAdd
  simp only []
  split
  · exact h1
  · split
    · have h2 := cntStep_data (cntStep s c n).1 (c + 1) (cntStep s c n).2 (by omega)
      split
      · exact h1.trans h2
      · exact h1.trans (h2.trans (perfOverflow_data _ _ (by omega)))
    · exact h1.trans (perfOverflow_data _ _ (by omega))

theorem perfHit_data (s : State) (b i e n : Nat) : DataOnly s (perfHit s b i e n) := by
  unfold perfHit
  have h : ∀ (l : List Nat), (∀ c ∈ l, c < 272) → ∀ t : State,
      DataOnly t (l.foldl (fun s c => if cntRuns s c then cntAdd s c n else s) t) := by
    intro l
    induction l with
    | nil => intro _ t; exact .refl t
    | cons c l ih =>
      intro hl t
      exact (DataOnly.ite t _ _ _ (cntAdd_data t c n (hl c (List.mem_cons_self ..))) (.refl t)).trans
        (ih (fun d hd => hl d (List.mem_cons_of_mem _ hd)) _)
  exact h _ (fun c hc => cntFor_lt hc) s

/-! ### HBM and host memory -/

theorem memWake_data (s : State) : DataOnly s (memWake s) := by
  unfold memWake
  refine .ite _ _ _ _ (.refl s) ?_
  have h : DataOnly s (if memSleep s = 3 then s.inc Reg.MEM0_SR_CANCELLED
      else if memSleep s = 2 then s.inc Reg.MEM0_SR_LATE_WAITS else s) :=
    .ite _ _ _ _ (.wr _ _ (by decide)) (.ite _ _ _ _ (.wr _ _ (by decide)) (.refl s))
  exact h.trans (.ite _ _ _ _ (.same rfl) (.trans (.same rfl) (.wr _ _ (by decide))))

theorem xfer_data (s : State) (cls n : Nat) (h : cls < 8) : DataOnly s (xfer s cls n) := by
  refine (memWake_data s).trans ?_
  unfold xfer
  generalize memWake s = s
  refine DataOnly.trans (t := s.inc48 (Reg.MEM0_CLASS_BYTES_LO cls) (Reg.MEM0_CLASS_BYTES_HI cls) n) ?_ ?_
  · apply DataOnly.wr64 <;> (apply decide_eq_true; simp only [Reg.MEM0_CLASS_BYTES_LO, Reg.MEM0_CLASS_BYTES_HI]; omega)
  · refine DataOnly.trans ?_ (perfHit_data _ _ _ _ _)
    exact .same rfl

theorem setEcc_regs (s : State) (b v : Nat) : (setEcc s b v).regs = s.regs := rfl

theorem stack_data (k p : Nat) (hk : k < 2) (hp : p < 32) :
    dataReg (Reg.STACK_UE_COUNT k p) = true ∧ dataReg (Reg.STACK_CE_COUNT k p) = true := by
  unfold dataReg Reg.STACK_UE_COUNT Reg.STACK_CE_COUNT
  constructor <;> (apply decide_eq_true; omega)

theorem hbmMap_lt (s : State) (a : Nat) : (hbmMap s a).1 < 64 := by
  unfold hbmMap
  simp only []
  split <;> exact fld_lt _ _ 6

theorem activate_data (s : State) (p bank row : Nat) (h : p < 64) : DataOnly s (activate s p bank row) := by
  have hr : dataReg (Reg.STACK_TARGETED_REFRESH (pcStack p) (p % 32)) = true := by
    unfold dataReg Reg.STACK_TARGETED_REFRESH pcStack
    apply decide_eq_true
    omega
  have key : ∀ (t : State) (c : Prop) [Decidable c], t.regs = s.regs → DataOnly s
      (if c then perfHit ((perfHit t 0x90 0 0x18 1).incBy (Reg.STACK_TARGETED_REFRESH (pcStack p) (p % 32)) (neighbours row).length)
        0x90 0 0x19 (neighbours row).length else perfHit t 0x90 0 0x18 1) := by
    intro t c _ ht
    have h1 : DataOnly s (perfHit t 0x90 0 0x18 1) := .trans (.same ht) (perfHit_data t 0x90 0 0x18 1)
    exact .ite _ _ _ _ (h1.trans (.trans (.wr _ _ hr) (perfHit_data _ _ _ _ _))) h1
  unfold activate
  simp only []
  split
  · exact .refl s
  · exact key _ _ rfl

theorem issueAt_data (s : State) (p : Nat) (w : Bool) (o n : Nat) (h : p < 64) : DataOnly s (issueAt s p w o n) :=
  (activate_data s p _ _ h).trans (.same rfl)

theorem issue_data (s : State) (w : Bool) (a n : Nat) : DataOnly s (issue s w a n) := by
  unfold issue
  refine DataOnly.fold _ (fun t g => ?_) _ _
  dsimp only
  refine .ite _ _ _ _ (.refl t) ?_
  generalize hm : hbmMap t (granulePart a n g).1 = m
  have h1 := issueAt_data t m.1 w m.2 (granulePart a n g).2 (hm ▸ hbmMap_lt t _)
  split
  · split
    · rename_i hc
      exact h1.trans (issueAt_data _ _ true _ _ hc.2.1)
    · exact h1
  · exact h1

theorem touchBlock_data (cls : Nat) (s : State) (b : Nat) : DataOnly s (touchBlock cls s b) := by
  have hp : (hbmMap s (b * 32)).1 < 64 := hbmMap_lt s (b * 32)
  have hs := stack_data (pcStack (hbmMap s (b * 32)).1) ((hbmMap s (b * 32)).1 % 32) (by unfold pcStack; omega) (by omega)
  have hu : ∀ (t : State) (n : Nat) (d : List Word),
      DataOnly t (((t.wr64 Reg.MEM3_LAST_UE_ADDR_LO Reg.MEM3_LAST_UE_ADDR_HI n).inc Reg.MEM3_UE_TOTAL).raise .eccUncorrected d) :=
    fun t n d => ((DataOnly.wr64 t n (by decide) (by decide)).trans (.wr _ _ (by decide))).trans (.raise _ _ _)
  unfold touchBlock
  simp only []
  split
  · exact hu s _ _
  · split
    · refine DataOnly.trans (DataOnly.ite s (setEcc s b 3) s (eccOf s b = 2) (.same rfl) (.refl s)) ?_
      exact (DataOnly.wr _ _ hs.1).trans (hu _ _ _)
    · split
      · refine DataOnly.trans (t := noteCe (setEcc s b 0) (hbmMap s (b * 32)).1) (.same rfl) ?_
        exact (DataOnly.wr _ _ hs.2).trans ((DataOnly.wr _ _ (by decide)).trans (.raise _ _ _))
      · exact .refl s

theorem touch_data (s : State) (cls a n : Nat) (h : cls < 8) : DataOnly s (touch s cls a n) :=
  ((xfer_data s cls n h).trans (issue_data _ _ _ _)).trans (.fold _ (touchBlock_data cls) _ _)

theorem putBytes_regs : ∀ (l : List Byte) (s : State) (a : Nat), (putBytes s a l).regs = s.regs
  | [], _, _ => rfl
  | b :: l, s, a => by
    refine (putBytes_regs l _ (a + 1)).trans ?_
    split <;> rfl

theorem cleanBlock_regs (a n : Nat) (s : State) (b : Nat) : (cleanBlock a n s b).regs = s.regs := by
  unfold cleanBlock
  split <;> rfl

theorem injectOn_data (s : State) (a n : Nat) : DataOnly s (injectOn s a n) := by
  unfold injectOn
  simp only []
  split
  · refine DataOnly.trans ?_ (DataOnly.wr _ _ (by decide))
    split
    · exact .refl s
    · exact .same rfl
  · exact .refl s

theorem hbmWrite_data (s : State) (cls a : Nat) (l : List Byte) (h : cls < 8) : DataOnly s (hbmWrite s cls a l) := by
  unfold hbmWrite
  refine ((xfer_data s cls l.length h).trans (issue_data _ true a l.length)).trans (DataOnly.trans (.same (putBytes_regs l _ a)) ?_)
  exact (DataOnly.fold _ (fun t b => .same (cleanBlock_regs a l.length t b)) _ _).trans (injectOn_data _ _ _)

theorem hostWrite_regs : ∀ (l : List Byte) (s : State) (a : Nat), (hostWrite s a l).regs = s.regs
  | [], _, _ => rfl
  | _ :: l, _, a => hostWrite_regs l _ (a + 1)

theorem memWrite_data (s : State) (sp : Bool) (cls a : Nat) (l : List Byte) (h : cls < 8) : DataOnly s (memWrite s sp cls a l) :=
  .ite _ _ _ _ (.same (hostWrite_regs l s a)) (hbmWrite_data s cls a l h)

end Sys2Proof.Machine
end

