-- ==== Sys2Proof/Laws/FootOps.lean ====
section
/-!
SUPPORT. Footprints of the definitions of Machine/Ops.lean: which parts of the state each of them may update.
-/
namespace Sys2Proof.Machine

variable {F : Part → Bool} {P : State → Prop}

theorem setStage_foot (hP : Closed F P) (k_regs : F .regs = true) (k_out : F .out = true) {s : State} {v : Nat} (h_s : P s) : P (setStage s v) := by
    unfold setStage
    try dsimp only
    repeat' first
      | with_reducible assumption
      | with_reducible apply Closed.emit hP k_out
      | with_reducible apply Closed.setF hP k_regs
      | with_reducible apply ite_closed
      | (intro _ _)
      | (intro _)
      | dsimp only
      | split

theorem sendVector_foot (hP : Closed F P) (k_regs : F .regs = true) (k_out : F .out = true) (k_router : F .router = true) {s : State} {v : Nat} (h_s : P s) : P (sendVector s v) := by
    unfold sendVector
    try dsimp only
    repeat' first
      | with_reducible assumption
      | with_reducible apply Closed.setB hP k_regs
      | with_reducible apply Closed.emit hP k_out
      | with_reducible apply ite_closed
      | (intro _ _)
      | (intro _)
      | dsimp only
      | split
      | (with_reducible apply Closed.router hP k_router)

theorem triggerVector_foot (hP : Closed F P) (k_regs : F .regs = true) (k_out : F .out = true) (k_router : F .router = true) {s : State} {v : Nat} (h_s : P s) : P (triggerVector s v) := by
    unfold triggerVector
    try dsimp only
    repeat' first
      | with_reducible assumption
      | with_reducible apply sendVector_foot hP k_regs k_out k_router
      | with_reducible apply ite_closed
      | (intro _ _)
      | (intro _)
      | dsimp only
      | split
      | (with_reducible apply Closed.router hP k_router)

theorem lanternPush_foot (hP : Closed F P) (k_regs : F .regs = true) (k_router : F .router = true) {s : State} {r : LogRec} (h_s : P s) : P (lanternPush s r).1 := by
    change FstP P _
    unfold lanternPush
    try dsimp only
    repeat' first
      | with_reducible assumption
      | (intro _ _ _)
      | with_reducible apply ite_closed
      | (with_reducible exact fstP_elim (by assumption))
      | with_reducible apply foldl_fst
      | with_reducible apply Closed.wr hP k_regs
      | with_reducible apply Closed.inc hP k_regs
      | with_reducible apply ite_closed
      | (intro _ _)
      | (intro _)
      | dsimp only
      | split
      | with_reducible apply fstP_mk
      | (with_reducible apply Closed.router hP k_router)

theorem maintNote_foot (hP : Closed F P) (k_maint : F .maint = true) {s : State} {kind : Nat} {ev : Nat} {sv : Nat} {detail : List Word} (h_s : P s) : P (maintNote s kind ev sv detail) := by
    unfold maintNote
    try dsimp only
    repeat' first
      | with_reducible assumption
      | with_reducible apply ite_closed
      | (intro _ _)
      | (intro _)
      | dsimp only
      | split
      | (with_reducible apply Closed.maint hP k_maint)

theorem acceptEvent_foot (hP : Closed F P) (k_regs : F .regs = true) (k_out : F .out = true) (k_router : F .router = true) (k_maint : F .maint = true) {s : State} {e : Ev} {forced : Bool} {detail : List Word} (h_s : P s) : P (acceptEvent s e forced detail).1 := by
    change FstP P _
    unfold acceptEvent
    try dsimp only
    repeat' first
      | with_reducible assumption
      | (intro _ _ _)
      | with_reducible apply ite_closed
      | with_reducible apply lanternPush_foot hP k_regs k_router
      | (with_reducible apply fstP_of; with_reducible apply lanternPush_foot hP k_regs k_router)
      | with_reducible apply maintNote_foot hP k_maint
      | with_reducible apply triggerVector_foot hP k_regs k_out k_router
      | (with_reducible exact fstP_elim (by assumption))
      | with_reducible apply foldl_fst
      | with_reducible apply ite_closed
      | (intro _ _)
      | (intro _)
      | dsimp only
      | split
      | with_reducible apply fstP_mk
      | (with_reducible apply Closed.router hP k_router)

theorem raiseN_foot (hP : Closed F P) (k_regs : F .regs = true) (k_out : F .out = true) (k_router : F .router = true)
    (k_maint : F .maint = true) (n : Nat) {s : State} {e : Ev} {forced : Bool} {d : List Word} (h : P s) :
    P (raiseN n s e forced d) := by
  induction n generalizing s e forced d with
  | zero => exact h
  | succ n ih =>
    have h2 : P (s.setB (Reg.PAGE_EVT_STATUS (evPage e)) (evBit e) true) := hP.setB k_regs _ _ _ h
    have h3 := acceptEvent_foot hP k_regs k_out k_router k_maint (e := e) (forced := forced) (detail := d) h2
    unfold raiseN
    dsimp only
    split
    · exact hP.router k_router _ h
    · split
      · split
        · exact h3
        · exact ite_closed (ih h3) (ih h3)
      · exact h2

theorem State.raise_foot (hP : Closed F P) (k_regs : F .regs = true) (k_out : F .out = true) (k_router : F .router = true) (k_maint : F .maint = true) {s : State} {e : Ev} {detail : List Word} (h_s : P s) : P (State.raise s e detail) := by
    unfold State.raise
    try dsimp only
    repeat' first
      | with_reducible assumption
      | with_reducible apply raiseN_foot hP k_regs k_out k_router k_maint
      | with_reducible apply ite_closed
      | (intro _ _)
      | (intro _)
      | dsimp only
      | split

theorem State.force_foot (hP : Closed F P) (k_regs : F .regs = true) (k_out : F .out = true) (k_router : F .router = true) (k_maint : F .maint = true) {s : State} {e : Ev} (h_s : P s) : P (State.force s e) := by
    unfold State.force
    try dsimp only
    repeat' first
      | with_reducible assumption
      | with_reducible apply raiseN_foot hP k_regs k_out k_router k_maint
      | with_reducible apply ite_closed
      | (intro _ _)
      | (intro _)
      | dsimp only
      | split

theorem unmappedOp_foot (hP : Closed F P) (k_regs : F .regs = true) (k_out : F .out = true) (k_router : F .router = true) (k_maint : F .maint = true) {s : State} {a : Nat} (h_s : P s) : P (unmappedOp s a) := by
    unfold unmappedOp
    try dsimp only
    repeat' first
      | with_reducible assumption
      | with_reducible apply State.raise_foot hP k_regs k_out k_router k_maint
      | with_reducible apply Closed.wr hP k_regs
      | with_reducible apply Closed.inc hP k_regs
      | with_reducible apply ite_closed
      | (intro _ _)
      | (intro _)
      | dsimp only
      | split

theorem refuse_foot (hP : Closed F P) (k_regs : F .regs = true) (k_out : F .out = true) (k_router : F .router = true) (k_maint : F .maint = true) {s : State} {a : Nat} (h_s : P s) : P (refuse s a) := by
    unfold refuse
    try dsimp only
    repeat' first
      | with_reducible assumption
      | with_reducible apply State.raise_foot hP k_regs k_out k_router k_maint
      | with_reducible apply ite_closed
      | (intro _ _)
      | (intro _)
      | dsimp only
      | split

theorem gated_foot (hP : Closed F P) (k_regs : F .regs = true) (k_out : F .out = true) (k_router : F .router = true) (k_maint : F .maint = true) {s : State} {r : Requester} {a : Nat} {feature : Option Nat} {g : State → State} (h_s : P s) (h_g : ∀ y0, P y0 → P (g y0)) : P (gated s r a feature g) := by
    unfold gated
    try dsimp only
    repeat' first
      | with_reducible assumption
      | with_reducible apply unmappedOp_foot hP k_regs k_out k_router k_maint
      | with_reducible apply State.raise_foot hP k_regs k_out k_router k_maint
      | with_reducible apply refuse_foot hP k_regs k_out k_router k_maint
      | with_reducible apply h_g
      | with_reducible apply ite_closed
      | (intro _ _)
      | (intro _)
      | dsimp only
      | split

theorem gatedIf_foot (hP : Closed F P) (k_regs : F .regs = true) (k_out : F .out = true) (k_router : F .router = true) (k_maint : F .maint = true) {s : State} {r : Requester} {a : Nat} {feature : Option Nat} {ok : State → Bool} {g : State → State} (h_s : P s) (h_g : ∀ y0, P y0 → P (g y0)) : P (gatedIf s r a feature ok g) := by
    unfold gatedIf
    try dsimp only
    repeat' first
      | with_reducible assumption
      | with_reducible apply gated_foot hP k_regs k_out k_router k_maint
      | with_reducible apply refuse_foot hP k_regs k_out k_router k_maint
      | with_reducible apply h_g
      | with_reducible apply ite_closed
      | (intro _ _)
      | (intro _)
      | dsimp only
      | split

theorem setOn_foot (hP : Closed F P) (k_regs : F .regs = true) {s : State} {base : Nat} (h_s : P s) : P (setOn s base) := by
    unfold setOn
    try dsimp only
    repeat' first
      | with_reducible assumption
      | with_reducible apply Closed.setB hP k_regs
      | with_reducible apply ite_closed
      | (intro _ _)
      | (intro _)
      | dsimp only
      | split

theorem setOff_foot (hP : Closed F P) (k_regs : F .regs = true) {s : State} {base : Nat} {abort : Bool} (h_s : P s) : P (setOff s base abort) := by
    unfold setOff
    try dsimp only
    repeat' first
      | with_reducible assumption
      | with_reducible apply Closed.setB hP k_regs
      | with_reducible apply ite_closed
      | (intro _ _)
      | (intro _)
      | dsimp only
      | split

theorem giveRole_foot (hP : Closed F P) (k_regs : F .regs = true) {s : State} {a : Nat} {code : Nat} (h_s : P s) : P (giveRole s a code) := by
    unfold giveRole
    try dsimp only
    repeat' first
      | with_reducible assumption
      | with_reducible apply Closed.setF hP k_regs
      | with_reducible apply ite_closed
      | (intro _ _)
      | (intro _)
      | dsimp only
      | split

theorem State.tell_foot (hP : Closed F P) (k_power : F .power = true) {s : State} {c : Lasting} (h_s : P s) : P (State.tell s c) := by
    unfold State.tell
    try dsimp only
    repeat' first
      | with_reducible assumption
      | with_reducible apply ite_closed
      | (intro _ _)
      | (intro _)
      | dsimp only
      | split
      | (with_reducible apply Closed.power hP k_power)

theorem spareLow_foot (hP : Closed F P) (k_regs : F .regs = true) (k_out : F .out = true) (k_power : F .power = true) (k_router : F .router = true) (k_maint : F .maint = true) {s : State} {kind : Nat} {unit : Nat} (h_s : P s) : P (spareLow s kind unit) := by
    unfold spareLow
    try dsimp only
    repeat' first
      | with_reducible assumption
      | with_reducible apply State.raise_foot hP k_regs k_out k_router k_maint
      | with_reducible apply State.tell_foot hP k_power
      | with_reducible apply ite_closed
      | (intro _ _)
      | (intro _)
      | dsimp only
      | split

end Sys2Proof.Machine
end

