-- ==== Sys2Proof/Laws/FootCount.lean ====
section
/-!
SUPPORT. Footprints of the definitions of Machine/Count.lean: which parts of the state each of them may update.
-/
namespace Sys2Proof.Machine

variable {F : Part → Bool} {P : State → Prop}

theorem perfOverflow_foot (hP : Closed F P) (k_regs : F .regs = true) (k_out : F .out = true) (k_router : F .router = true) (k_maint : F .maint = true) {s : State} {c : Nat} (h_s : P s) : P (perfOverflow s c) := by
    unfold perfOverflow
    try dsimp only
    repeat' first
      | with_reducible assumption
      | with_reducible apply State.raise_foot hP k_regs k_out k_router k_maint
      | with_reducible apply Closed.setB hP k_regs
      | with_reducible apply ite_closed
      | (intro _ _)
      | (intro _)
      | dsimp only
      | split
      | (with_reducible apply Closed.router hP k_router)

theorem cntStep_foot (hP : Closed F P) (k_regs : F .regs = true) {s : State} {c : Nat} {n : Nat} (h_s : P s) : P (cntStep s c n).1 := by
    change FstP P _
    unfold cntStep
    try dsimp only
    repeat' first
      | with_reducible assumption
      | (intro _ _ _)
      | with_reducible apply ite_closed
      | (with_reducible exact fstP_elim (by assumption))
      | with_reducible apply foldl_fst
      | with_reducible apply Closed.wr64 hP k_regs
      | with_reducible apply ite_closed
      | (intro _ _)
      | (intro _)
      | dsimp only
      | split
      | with_reducible apply fstP_mk

theorem cntAdd_foot (hP : Closed F P) (k_regs : F .regs = true) (k_out : F .out = true) (k_router : F .router = true) (k_maint : F .maint = true) {s : State} {c : Nat} {n : Nat} (h_s : P s) : P (cntAdd s c n) := by
    unfold cntAdd
    try dsimp only
    repeat' first
      | with_reducible assumption
      | with_reducible apply cntStep_foot hP k_regs
      | (with_reducible apply fstP_of; with_reducible apply cntStep_foot hP k_regs)
      | with_reducible apply perfOverflow_foot hP k_regs k_out k_router k_maint
      | (with_reducible exact fstP_elim (by assumption))
      | with_reducible apply foldl_fst
      | with_reducible apply ite_closed
      | (intro _ _)
      | (intro _)
      | dsimp only
      | split
      | with_reducible apply fstP_mk

theorem perfHit_foot (hP : Closed F P) (k_regs : F .regs = true) (k_out : F .out = true) (k_router : F .router = true) (k_maint : F .maint = true) {s : State} {blk : Nat} {inst : Nat} {ev : Nat} {n : Nat} (h_s : P s) : P (perfHit s blk inst ev n) := by
    unfold perfHit
    try dsimp only
    repeat' first
      | with_reducible assumption
      | with_reducible apply cntAdd_foot hP k_regs k_out k_router k_maint
      | (with_reducible refine foldl_inv P _ (fun _ _ _ => ?_) _ _ ?_)
      | with_reducible apply ite_closed
      | (intro _ _)
      | (intro _)
      | dsimp only
      | split

end Sys2Proof.Machine
end

