-- ==== Sys2Proof/Laws/FootHbm.lean ====
section
/-!
SUPPORT. Footprints of the definitions of Machine/Hbm.lean: which parts of the state each of them may update.
-/
namespace Sys2Proof.Machine

variable {F : Part → Bool} {P : State → Prop}

theorem setEcc_foot (hP : Closed F P) (k_memory : F .memory = true) {s : State} {blk : Nat} {v : Nat} (h_s : P s) : P (setEcc s blk v) := by
    unfold setEcc
    try dsimp only
    repeat' first
      | with_reducible assumption
      | with_reducible apply ite_closed
      | (intro _ _)
      | (intro _)
      | dsimp only
      | split
      | (with_reducible apply Closed.memory hP k_memory)

theorem setSleep_foot (hP : Closed F P) (k_regs : F .regs = true) {s : State} {v : Nat} (h_s : P s) : P (setSleep s v) := by
    unfold setSleep
    try dsimp only
    repeat' first
      | with_reducible assumption
      | with_reducible apply Closed.setF hP k_regs
      | with_reducible apply ite_closed
      | (intro _ _)
      | (intro _)
      | dsimp only
      | split

theorem memWake_foot (hP : Closed F P) (k_regs : F .regs = true) (k_memory : F .memory = true) {s : State} (h_s : P s) : P (memWake s) := by
    unfold memWake
    try dsimp only
    repeat' first
      | with_reducible assumption
      | with_reducible apply setSleep_foot hP k_regs
      | with_reducible apply Closed.inc hP k_regs
      | with_reducible apply ite_closed
      | (intro _ _)
      | (intro _)
      | dsimp only
      | split
      | (with_reducible apply Closed.memory hP k_memory)

theorem xfer_foot (hP : Closed F P) (k_regs : F .regs = true) (k_out : F .out = true) (k_router : F .router = true) (k_maint : F .maint = true) (k_memory : F .memory = true) {s : State} {cls : Nat} {n : Nat} (h_s : P s) : P (xfer s cls n) := by
    unfold xfer
    try dsimp only
    repeat' first
      | with_reducible assumption
      | with_reducible apply memWake_foot hP k_regs k_memory
      | with_reducible apply perfHit_foot hP k_regs k_out k_router k_maint
      | with_reducible apply Closed.inc48 hP k_regs
      | with_reducible apply ite_closed
      | (intro _ _)
      | (intro _)
      | dsimp only
      | split
      | (with_reducible apply Closed.memory hP k_memory)

theorem activate_foot (hP : Closed F P) (k_regs : F .regs = true) (k_out : F .out = true) (k_router : F .router = true) (k_maint : F .maint = true) (k_memory : F .memory = true) {s : State} {p : Nat} {bank : Nat} {row : Nat} (h_s : P s) : P (activate s p bank row) := by
    unfold activate
    try dsimp only
    repeat' first
      | with_reducible assumption
      | with_reducible apply perfHit_foot hP k_regs k_out k_router k_maint
      | with_reducible apply Closed.incBy hP k_regs
      | with_reducible apply ite_closed
      | (intro _ _)
      | (intro _)
      | dsimp only
      | split
      | (with_reducible apply Closed.memory hP k_memory)

theorem keepCmds_foot (hP : Closed F P) (k_memory : F .memory = true) {s : State} {p : Nat} {l : List MemCmd} (h_s : P s) : P (keepCmds s p l) := by
    unfold keepCmds
    try dsimp only
    repeat' first
      | with_reducible assumption
      | with_reducible apply ite_closed
      | (intro _ _)
      | (intro _)
      | dsimp only
      | split
      | (with_reducible apply Closed.memory hP k_memory)

theorem issueAt_foot (hP : Closed F P) (k_regs : F .regs = true) (k_out : F .out = true) (k_router : F .router = true) (k_maint : F .maint = true) (k_memory : F .memory = true) {s : State} {p : Nat} {write : Bool} {off : Nat} {n : Nat} (h_s : P s) : P (issueAt s p write off n) := by
    unfold issueAt
    try dsimp only
    repeat' first
      | with_reducible assumption
      | with_reducible apply keepCmds_foot hP k_memory
      | with_reducible apply activate_foot hP k_regs k_out k_router k_maint k_memory
      | with_reducible apply ite_closed
      | (intro _ _)
      | (intro _)
      | dsimp only
      | split

theorem issue_foot (hP : Closed F P) (k_regs : F .regs = true) (k_out : F .out = true) (k_router : F .router = true) (k_maint : F .maint = true) (k_memory : F .memory = true) {s : State} {write : Bool} {a : Nat} {n : Nat} (h_s : P s) : P (issue s write a n) := by
    unfold issue
    try dsimp only
    repeat' first
      | with_reducible assumption
      | with_reducible apply issueAt_foot hP k_regs k_out k_router k_maint k_memory
      | (with_reducible refine foldl_inv P _ (fun _ _ _ => ?_) _ _ ?_)
      | with_reducible apply ite_closed
      | (intro _ _)
      | (intro _)
      | dsimp only
      | split

theorem noteCe_foot (hP : Closed F P) (k_memory : F .memory = true) {s : State} {p : Nat} (h_s : P s) : P (noteCe s p) := by
    unfold noteCe
    try dsimp only
    repeat' first
      | with_reducible assumption
      | with_reducible apply ite_closed
      | (intro _ _)
      | (intro _)
      | dsimp only
      | split
      | (with_reducible apply Closed.memory hP k_memory)

theorem touchBlock_foot (hP : Closed F P) (k_regs : F .regs = true) (k_out : F .out = true) (k_router : F .router = true) (k_maint : F .maint = true) (k_memory : F .memory = true) {cls : Nat} {s : State} {blk : Nat} (h_s : P s) : P (touchBlock cls s blk) := by
    unfold touchBlock
    try dsimp only
    repeat' first
      | with_reducible assumption
      | with_reducible apply State.raise_foot hP k_regs k_out k_router k_maint
      | with_reducible apply setEcc_foot hP k_memory
      | with_reducible apply noteCe_foot hP k_memory
      | with_reducible apply Closed.inc hP k_regs
      | with_reducible apply Closed.wr64 hP k_regs
      | with_reducible apply ite_closed
      | (intro _ _)
      | (intro _)
      | dsimp only
      | split

theorem touch_foot (hP : Closed F P) (k_regs : F .regs = true) (k_out : F .out = true) (k_router : F .router = true) (k_maint : F .maint = true) (k_memory : F .memory = true) {s : State} {cls : Nat} {a : Nat} {n : Nat} (h_s : P s) : P (touch s cls a n) := by
    unfold touch
    try dsimp only
    repeat' first
      | with_reducible assumption
      | with_reducible apply touchBlock_foot hP k_regs k_out k_router k_maint k_memory
      | with_reducible apply issue_foot hP k_regs k_out k_router k_maint k_memory
      | with_reducible apply xfer_foot hP k_regs k_out k_router k_maint k_memory
      | (with_reducible refine foldl_inv P _ (fun _ _ _ => ?_) _ _ ?_)
      | with_reducible apply ite_closed
      | (intro _ _)
      | (intro _)
      | dsimp only
      | split

theorem putBytes_foot (hP : Closed F P) (k_hbm : F .hbm = true) {s : State} {a : Nat} (x2 : List Byte) (h_s : P s) : P (putBytes s a x2) := by
  induction x2 generalizing s a with
  | nil =>
    unfold putBytes
    try dsimp only
    repeat' first
      | with_reducible assumption
      | with_reducible apply ite_closed
      | (intro _ _)
      | (intro _)
      | dsimp only
      | split
      | (with_reducible apply Closed.hbmSet hP k_hbm)
      | (with_reducible apply Closed.hbmFilter hP k_hbm)
  | cons x_ t_ ih =>
    unfold putBytes
    try dsimp only
    repeat' first
      | with_reducible assumption
      | with_reducible apply ih
      | with_reducible apply ite_closed
      | (intro _ _)
      | (intro _)
      | dsimp only
      | split
      | (with_reducible apply Closed.hbmSet hP k_hbm)
      | (with_reducible apply Closed.hbmFilter hP k_hbm)

theorem cleanBlock_foot (hP : Closed F P) (k_memory : F .memory = true) {a : Nat} {n : Nat} {s : State} {blk : Nat} (h_s : P s) : P (cleanBlock a n s blk) := by
    unfold cleanBlock
    try dsimp only
    repeat' first
      | with_reducible assumption
      | with_reducible apply setEcc_foot hP k_memory
      | with_reducible apply ite_closed
      | (intro _ _)
      | (intro _)
      | dsimp only
      | split

theorem injectOn_foot (hP : Closed F P) (k_regs : F .regs = true) (k_memory : F .memory = true) {s : State} {a : Nat} {n : Nat} (h_s : P s) : P (injectOn s a n) := by
    unfold injectOn
    try dsimp only
    repeat' first
      | with_reducible assumption
      | with_reducible apply setEcc_foot hP k_memory
      | with_reducible apply Closed.setB hP k_regs
      | with_reducible apply ite_closed
      | (intro _ _)
      | (intro _)
      | dsimp only
      | split

theorem hbmWrite_foot (hP : Closed F P) (k_regs : F .regs = true) (k_out : F .out = true) (k_router : F .router = true) (k_maint : F .maint = true) (k_hbm : F .hbm = true) (k_memory : F .memory = true) {s : State} {cls : Nat} {a : Nat} {l : List Byte} (h_s : P s) : P (hbmWrite s cls a l) := by
    unfold hbmWrite
    try dsimp only
    repeat' first
      | with_reducible assumption
      | with_reducible apply putBytes_foot hP k_hbm
      | with_reducible apply issue_foot hP k_regs k_out k_router k_maint k_memory
      | with_reducible apply xfer_foot hP k_regs k_out k_router k_maint k_memory
      | with_reducible apply cleanBlock_foot hP k_memory
      | with_reducible apply injectOn_foot hP k_regs k_memory
      | (with_reducible refine foldl_inv P _ (fun _ _ _ => ?_) _ _ ?_)
      | with_reducible apply ite_closed
      | (intro _ _)
      | (intro _)
      | dsimp only
      | split

theorem hostWrite_foot (hP : Closed F P) (k_host : F .host = true) {s : State} {a : Nat} (x2 : List Byte) (h_s : P s) : P (hostWrite s a x2) := by
  induction x2 generalizing s a with
  | nil =>
    unfold hostWrite
    try dsimp only
    repeat' first
      | with_reducible assumption
      | with_reducible apply ite_closed
      | (intro _ _)
      | (intro _)
      | dsimp only
      | split
      | (with_reducible apply Closed.hostSet hP k_host)
  | cons x_ t_ ih =>
    unfold hostWrite
    try dsimp only
    repeat' first
      | with_reducible assumption
      | with_reducible apply ih
      | with_reducible apply ite_closed
      | (intro _ _)
      | (intro _)
      | dsimp only
      | split
      | (with_reducible apply Closed.hostSet hP k_host)

theorem memWrite_foot (hP : Closed F P) (k_regs : F .regs = true) (k_out : F .out = true) (k_router : F .router = true) (k_maint : F .maint = true) (k_hbm : F .hbm = true) (k_host : F .host = true) (k_memory : F .memory = true) {s : State} {hostSpace : Bool} {cls : Nat} {a : Nat} {l : List Byte} (h_s : P s) : P (memWrite s hostSpace cls a l) := by
    unfold memWrite
    try dsimp only
    repeat' first
      | with_reducible assumption
      | with_reducible apply hostWrite_foot hP k_host
      | with_reducible apply hbmWrite_foot hP k_regs k_out k_router k_maint k_hbm k_memory
      | with_reducible apply ite_closed
      | (intro _ _)
      | (intro _)
      | dsimp only
      | split

end Sys2Proof.Machine
end

