-- ==== Sys2Proof/Laws/FootRings.lean ====
section
/-!
SUPPORT. Footprints of the definitions of Machine/Rings.lean: which parts of the state each of them may update.
-/
namespace Sys2Proof.Machine

variable {F : Part → Bool} {P : State → Prop}

theorem ringTurnOn_foot (hP : Closed F P) (k_regs : F .regs = true) (k_ring : F .ring = true) {s : State} {r : Nat} {ctrl : Word} (h_s : P s) : P (ringTurnOn s r ctrl) := by
    unfold ringTurnOn
    try dsimp only
    repeat' first
      | with_reducible assumption
      | with_reducible apply Closed.setF hP k_regs
      | with_reducible apply Closed.wr hP k_regs
      | with_reducible apply Closed.setB hP k_regs
      | with_reducible apply ite_closed
      | (intro _ _)
      | (intro _)
      | dsimp only
      | split
      | (with_reducible apply Closed.ring hP k_ring)

theorem ringSignal_foot (hP : Closed F P) (k_regs : F .regs = true) (k_out : F .out = true) (k_router : F .router = true) {s : State} {r : Nat} (h_s : P s) : P (ringSignal s r) := by
    unfold ringSignal
    try dsimp only
    repeat' first
      | with_reducible assumption
      | with_reducible apply triggerVector_foot hP k_regs k_out k_router
      | with_reducible apply ite_closed
      | (intro _ _)
      | (intro _)
      | dsimp only
      | split

theorem ringPush_foot (hP : Closed F P) (k_regs : F .regs = true) (k_out : F .out = true) (k_router : F .router = true) (k_maint : F .maint = true) (k_hbm : F .hbm = true) (k_host : F .host = true) (k_memory : F .memory = true) {s : State} {r : Nat} {bytes : List Byte} (h_s : P s) : OptP P (ringPush s r bytes) := by
    unfold ringPush
    try dsimp only
    repeat' first
      | with_reducible assumption
      | (with_reducible refine optP_of (by assumption) ?_)
      | with_reducible exact optP_none
      | with_reducible apply optP_getD
      | with_reducible apply optP_some
      | with_reducible apply ite_closed
      | with_reducible apply memWrite_foot hP k_regs k_out k_router k_maint k_hbm k_host k_memory
      | with_reducible apply ringSignal_foot hP k_regs k_out k_router
      | with_reducible apply Closed.wr hP k_regs
      | with_reducible apply ite_closed
      | (intro _ _)
      | (intro _)
      | dsimp only
      | split

theorem ringStall_foot (hP : Closed F P) (k_regs : F .regs = true) (k_ring : F .ring = true) {s : State} {r : Nat} (h_s : P s) : P (ringStall s r) := by
    unfold ringStall
    try dsimp only
    repeat' first
      | with_reducible assumption
      | with_reducible apply Closed.setB hP k_regs
      | with_reducible apply ite_closed
      | (intro _ _)
      | (intro _)
      | dsimp only
      | split
      | (with_reducible apply Closed.ring hP k_ring)

theorem ringUnstall_foot (hP : Closed F P) (k_regs : F .regs = true) (k_ring : F .ring = true) {s : State} {r : Nat} (h_s : P s) : P (ringUnstall s r) := by
    unfold ringUnstall
    try dsimp only
    repeat' first
      | with_reducible assumption
      | with_reducible apply Closed.setB hP k_regs
      | with_reducible apply ite_closed
      | (intro _ _)
      | (intro _)
      | dsimp only
      | split
      | (with_reducible apply Closed.ring hP k_ring)

theorem releaseN_foot (hP : Closed F P) (k_ring : F .ring = true) (x0 : Nat) {x1 : State} (h_x1 : P x1) : P (releaseN x0 x1) := by
  induction x0 generalizing x1 with
  | zero =>
    unfold releaseN
    try dsimp only
    repeat' first
      | with_reducible assumption
      | with_reducible apply ite_closed
      | (intro _ _)
      | (intro _)
      | dsimp only
      | split
      | (with_reducible apply Closed.ring hP k_ring)
  | succ n_ ih =>
    unfold releaseN
    try dsimp only
    repeat' first
      | with_reducible assumption
      | with_reducible apply ih
      | with_reducible apply ite_closed
      | (intro _ _)
      | (intro _)
      | dsimp only
      | split
      | (with_reducible apply Closed.ring hP k_ring)

theorem release_foot (hP : Closed F P) (k_ring : F .ring = true) {s : State} (h_s : P s) : P (release s) := by
    unfold release
    try dsimp only
    repeat' first
      | with_reducible assumption
      | with_reducible apply releaseN_foot hP k_ring
      | with_reducible apply ite_closed
      | (intro _ _)
      | (intro _)
      | dsimp only
      | split

theorem ringBusy_foot (hP : Closed F P) (k_regs : F .regs = true) {s : State} {r : Nat} (h_s : P s) : P (ringBusy s r) := by
    unfold ringBusy
    try dsimp only
    repeat' first
      | with_reducible assumption
      | with_reducible apply Closed.setB hP k_regs
      | with_reducible apply ite_closed
      | (intro _ _)
      | (intro _)
      | dsimp only
      | split

theorem stallComp_foot (hP : Closed F P) (k_regs : F .regs = true) (k_ring : F .ring = true) {s : State} {cr : Nat} (h_s : P s) : P (stallComp s cr) := by
    unfold stallComp
    try dsimp only
    repeat' first
      | with_reducible assumption
      | with_reducible apply ringStall_foot hP k_regs k_ring
      | (with_reducible refine foldl_inv P _ (fun _ _ _ => ?_) _ _ ?_)
      | with_reducible apply ite_closed
      | (intro _ _)
      | (intro _)
      | dsimp only
      | split

theorem waitComp_foot (hP : Closed F P) (k_regs : F .regs = true) (k_ring : F .ring = true) {s : State} {cr : Nat} (h_s : P s) : P (waitComp s cr) := by
    unfold waitComp
    try dsimp only
    repeat' first
      | with_reducible assumption
      | with_reducible apply stallComp_foot hP k_regs k_ring
      | with_reducible apply ite_closed
      | (intro _ _)
      | (intro _)
      | dsimp only
      | split

theorem finish_foot (hP : Closed F P) (k_regs : F .regs = true) (k_ring : F .ring = true) {s : State} {r : Nat} {index : Word} {tag : Word} {status : Nat} {job : List Word} (h_s : P s) : P (finish s r index tag status job) := by
    unfold finish
    try dsimp only
    repeat' first
      | with_reducible assumption
      | with_reducible apply ringBusy_foot hP k_regs
      | with_reducible apply waitComp_foot hP k_regs k_ring
      | with_reducible apply release_foot hP k_ring
      | with_reducible apply ite_closed
      | (intro _ _)
      | (intro _)
      | dsimp only
      | split
      | (with_reducible apply Closed.ring hP k_ring)

theorem finishJob_foot (hP : Closed F P) (k_regs : F .regs = true) (k_ring : F .ring = true) {s : State} {j : Job} {status : Nat} {job : List Word} (h_s : P s) : P (finishJob s j status job) := by
    unfold finishJob
    try dsimp only
    repeat' first
      | with_reducible assumption
      | with_reducible apply finish_foot hP k_regs k_ring
      | with_reducible apply ite_closed
      | (intro _ _)
      | (intro _)
      | dsimp only
      | split

theorem writeComp_foot (hP : Closed F P) (k_regs : F .regs = true) (k_out : F .out = true) (k_router : F .router = true) (k_ring : F .ring = true) (k_maint : F .maint = true) (k_hbm : F .hbm = true) (k_host : F .host = true) (k_memory : F .memory = true) {s : State} {cr : Nat} (h_s : P s) : P (writeComp s cr) := by
    unfold writeComp
    try dsimp only
    repeat' first
      | with_reducible assumption
      | (with_reducible refine optP_of (by assumption) ?_)
      | with_reducible exact optP_none
      | with_reducible apply optP_getD
      | with_reducible apply optP_some
      | with_reducible apply ringPush_foot hP k_regs k_out k_router k_maint k_hbm k_host k_memory
      | with_reducible apply ringUnstall_foot hP k_regs k_ring
      | with_reducible apply waitComp_foot hP k_regs k_ring
      | with_reducible apply ite_closed
      | (intro _ _)
      | (intro _)
      | dsimp only
      | split
      | (with_reducible apply Closed.ring hP k_ring)

theorem takeEntry_foot (hP : Closed F P) (k_regs : F .regs = true) (k_out : F .out = true) (k_router : F .router = true) {s : State} {r : Nat} (h_s : P s) : P (takeEntry s r) := by
    unfold takeEntry
    try dsimp only
    repeat' first
      | with_reducible assumption
      | with_reducible apply ringSignal_foot hP k_regs k_out k_router
      | with_reducible apply Closed.wr hP k_regs
      | with_reducible apply ite_closed
      | (intro _ _)
      | (intro _)
      | dsimp only
      | split

theorem staleCount_foot (hP : Closed F P) (k_regs : F .regs = true) {s : State} {base : Nat} (h_s : P s) : P (staleCount s base) := by
    unfold staleCount
    try dsimp only
    repeat' first
      | with_reducible assumption
      | with_reducible apply Closed.incTo hP k_regs
      | with_reducible apply ite_closed
      | (intro _ _)
      | (intro _)
      | dsimp only
      | split

theorem acceptHead_foot (hP : Closed F P) (k_regs : F .regs = true) (k_out : F .out = true) (k_router : F .router = true) (k_ring : F .ring = true) (k_maint : F .maint = true) (k_memory : F .memory = true) {s : State} {r : Nat} (h_s : P s) : P (acceptHead s r).1 := by
    change FstP P _
    unfold acceptHead
    try dsimp only
    repeat' first
      | with_reducible assumption
      | (intro _ _ _)
      | with_reducible apply ite_closed
      | with_reducible apply touch_foot hP k_regs k_out k_router k_maint k_memory
      | with_reducible apply takeEntry_foot hP k_regs k_out k_router
      | with_reducible apply State.raise_foot hP k_regs k_out k_router k_maint
      | with_reducible apply finish_foot hP k_regs k_ring
      | with_reducible apply staleCount_foot hP k_regs
      | with_reducible apply ringBusy_foot hP k_regs
      | (with_reducible exact fstP_elim (by assumption))
      | with_reducible apply foldl_fst
      | with_reducible apply ite_closed
      | (intro _ _)
      | (intro _)
      | dsimp only
      | split
      | with_reducible apply fstP_mk
      | (with_reducible apply Closed.ring hP k_ring)

theorem flushN_foot (hP : Closed F P) (k_regs : F .regs = true) (k_out : F .out = true) (k_freeCount : F .freeCount = true) (k_router : F .router = true) (k_ring : F .ring = true) (k_maint : F .maint = true) (k_memory : F .memory = true) {fails : List Word} {r : Nat} (x2 : Nat) {x3 : State} {x4 : Option Word} {x5 : Option Word} (h_x3 : P x3) : P (flushN fails r x2 x3 x4 x5).1 := by
  induction x2 generalizing fails r x3 x4 x5 with
  | zero =>
    change FstP P _
    unfold flushN
    try dsimp only
    repeat' first
      | with_reducible assumption
      | (intro _ _ _)
      | with_reducible apply ite_closed
      | with_reducible apply touch_foot hP k_regs k_out k_router k_maint k_memory
      | with_reducible apply finish_foot hP k_regs k_ring
      | (with_reducible exact fstP_elim (by assumption))
      | with_reducible apply foldl_fst
      | with_reducible apply Closed.wr hP k_regs
      | with_reducible apply Closed.useFree hP k_freeCount
      | with_reducible apply ite_closed
      | (intro _ _)
      | (intro _)
      | dsimp only
      | split
      | with_reducible apply fstP_mk
      | (with_reducible apply Closed.ring hP k_ring)
  | succ n_ ih =>
    change FstP P _
    unfold flushN
    try dsimp only
    repeat' first
      | with_reducible assumption
      | with_reducible apply ih
      | (with_reducible apply fstP_of; with_reducible apply ih)
      | (intro _ _ _)
      | with_reducible apply ite_closed
      | with_reducible apply touch_foot hP k_regs k_out k_router k_maint k_memory
      | with_reducible apply finish_foot hP k_regs k_ring
      | (with_reducible exact fstP_elim (by assumption))
      | with_reducible apply foldl_fst
      | with_reducible apply Closed.wr hP k_regs
      | with_reducible apply Closed.useFree hP k_freeCount
      | with_reducible apply ite_closed
      | (intro _ _)
      | (intro _)
      | dsimp only
      | split
      | with_reducible apply fstP_mk
      | (with_reducible apply Closed.ring hP k_ring)

theorem flushRing_foot (hP : Closed F P) (k_regs : F .regs = true) (k_out : F .out = true) (k_freeCount : F .freeCount = true) (k_router : F .router = true) (k_ring : F .ring = true) (k_maint : F .maint = true) (k_memory : F .memory = true) {s : State} {r : Nat} {fails : List Word} (h_s : P s) : P (flushRing s r fails) := by
    unfold flushRing
    try dsimp only
    repeat' first
      | with_reducible assumption
      | with_reducible apply flushN_foot hP k_regs k_out k_freeCount k_router k_ring k_maint k_memory
      | (with_reducible apply fstP_of; with_reducible apply flushN_foot hP k_regs k_out k_freeCount k_router k_ring k_maint k_memory)
      | with_reducible apply ringSignal_foot hP k_regs k_out k_router
      | with_reducible apply State.raise_foot hP k_regs k_out k_router k_maint
      | (with_reducible exact fstP_elim (by assumption))
      | with_reducible apply foldl_fst
      | with_reducible apply Closed.setB hP k_regs
      | with_reducible apply ite_closed
      | (intro _ _)
      | (intro _)
      | dsimp only
      | split
      | with_reducible apply fstP_mk

end Sys2Proof.Machine
end

