-- ==== Sys2Proof/Laws/FootAudio.lean ====
section
/-!
SUPPORT. Footprints of the definitions of Machine/Audio.lean: which parts of the state each of them may update.
-/
namespace Sys2Proof.Machine

variable {F : Part → Bool} {P : State → Prop}

theorem putPort_foot (hP : Closed F P) (k_audio : F .audio = true) {s : State} {p : Nat} {x : PortSt} (h_s : P s) : P (putPort s p x) := by
    unfold putPort
    try dsimp only
    repeat' first
      | with_reducible assumption
      | with_reducible apply ite_closed
      | (intro _ _)
      | (intro _)
      | dsimp only
      | split
      | (with_reducible apply Closed.audio hP k_audio)

theorem setPortState_foot (hP : Closed F P) (k_regs : F .regs = true) {s : State} {p : Nat} {st : Nat} (h_s : P s) : P (setPortState s p st) := by
    unfold setPortState
    try dsimp only
    repeat' first
      | with_reducible assumption
      | with_reducible apply Closed.setF hP k_regs
      | with_reducible apply ite_closed
      | (intro _ _)
      | (intro _)
      | dsimp only
      | split

theorem audioRecord_foot (hP : Closed F P) (k_audio : F .audio = true) {s : State} {p : Nat} {kind : Nat} {frame : Nat} {stamp : Int} {mask : Nat} {a : Nat} {b : Nat} {data : Option Nat} (h_s : P s) : P (audioRecord s p kind frame stamp mask a b data) := by
    unfold audioRecord
    try dsimp only
    repeat' first
      | with_reducible assumption
      | with_reducible apply putPort_foot hP k_audio
      | with_reducible apply ite_closed
      | (intro _ _)
      | (intro _)
      | dsimp only
      | split

theorem shutRecord_foot (hP : Closed F P) (k_audio : F .audio = true) {s : State} {p : Nat} (h_s : P s) : P (shutRecord s p) := by
    unfold shutRecord
    try dsimp only
    repeat' first
      | with_reducible assumption
      | with_reducible apply audioRecord_foot hP k_audio
      | with_reducible apply putPort_foot hP k_audio
      | with_reducible apply ite_closed
      | (intro _ _)
      | (intro _)
      | dsimp only
      | split

theorem execAudioRecordWrite_foot (hP : Closed F P) (k_regs : F .regs = true) (k_out : F .out = true) (k_router : F .router = true) (k_ring : F .ring = true) (k_maint : F .maint = true) (k_hbm : F .hbm = true) (k_host : F .host = true) (k_memory : F .memory = true) (k_audio : F .audio = true) {p : Fin 8} {s : State} (h_s : P s) : OutP P (execAudioRecordWrite p s) := by
    unfold execAudioRecordWrite
    try dsimp only
    repeat' first
      | with_reducible assumption
      | with_reducible apply outP_next
      | with_reducible apply outP_done
      | (with_reducible refine optP_of (by assumption) ?_)
      | with_reducible exact optP_none
      | with_reducible apply optP_getD
      | with_reducible apply optP_some
      | with_reducible apply ringPush_foot hP k_regs k_out k_router k_maint k_hbm k_host k_memory
      | with_reducible apply shutRecord_foot hP k_audio
      | with_reducible apply ringUnstall_foot hP k_regs k_ring
      | with_reducible apply putPort_foot hP k_audio
      | with_reducible apply ringStall_foot hP k_regs k_ring
      | with_reducible apply ite_closed
      | (intro _ _)
      | (intro _)
      | dsimp only
      | split

theorem playDone_foot (hP : Closed F P) (k_regs : F .regs = true) (k_ring : F .ring = true) {s : State} {b : PlayBuf} {status : Nat} (h_s : P s) : P (playDone s b status) := by
    unfold playDone
    try dsimp only
    repeat' first
      | with_reducible assumption
      | with_reducible apply finishJob_foot hP k_regs k_ring
      | with_reducible apply ite_closed
      | (intro _ _)
      | (intro _)
      | dsimp only
      | split

theorem dropPassed_foot (hP : Closed F P) (k_regs : F .regs = true) (k_ring : F .ring = true) (k_audio : F .audio = true) {p : Nat} {k : Nat} (x2 : Nat) {x3 : State} (h_x3 : P x3) : P (dropPassed p k x2 x3) := by
  induction x2 generalizing p k x3 with
  | zero =>
    unfold dropPassed
    try dsimp only
    repeat' first
      | with_reducible assumption
      | with_reducible apply putPort_foot hP k_audio
      | with_reducible apply playDone_foot hP k_regs k_ring
      | with_reducible apply Closed.incBy hP k_regs
      | with_reducible apply ite_closed
      | (intro _ _)
      | (intro _)
      | dsimp only
      | split
  | succ n_ ih =>
    unfold dropPassed
    try dsimp only
    repeat' first
      | with_reducible assumption
      | with_reducible apply ih
      | with_reducible apply putPort_foot hP k_audio
      | with_reducible apply playDone_foot hP k_regs k_ring
      | with_reducible apply Closed.incBy hP k_regs
      | with_reducible apply ite_closed
      | (intro _ _)
      | (intro _)
      | dsimp only
      | split

theorem playAccept_foot (hP : Closed F P) (k_regs : F .regs = true) (k_ring : F .ring = true) (k_audio : F .audio = true) {s : State} {p : Nat} {j : Job} (h_s : P s) : P (playAccept s p j) := by
    unfold playAccept
    try dsimp only
    repeat' first
      | with_reducible assumption
      | with_reducible apply finishJob_foot hP k_regs k_ring
      | with_reducible apply putPort_foot hP k_audio
      | with_reducible apply playDone_foot hP k_regs k_ring
      | with_reducible apply Closed.incBy hP k_regs
      | with_reducible apply ite_closed
      | (intro _ _)
      | (intro _)
      | dsimp only
      | split

theorem rejudge_foot (hP : Closed F P) (k_regs : F .regs = true) (k_ring : F .ring = true) (k_audio : F .audio = true) {s : State} {p : Nat} (h_s : P s) : P (rejudge s p) := by
    unfold rejudge
    try dsimp only
    repeat' first
      | with_reducible assumption
      | with_reducible apply putPort_foot hP k_audio
      | with_reducible apply playDone_foot hP k_regs k_ring
      | (with_reducible refine foldl_inv P _ (fun _ _ _ => ?_) _ _ ?_)
      | with_reducible apply Closed.incBy hP k_regs
      | with_reducible apply ite_closed
      | (intro _ _)
      | (intro _)
      | dsimp only
      | split

theorem sentDone_foot (hP : Closed F P) (k_regs : F .regs = true) (k_ring : F .ring = true) (k_audio : F .audio = true) {s : State} {p : Nat} (h_s : P s) : P (sentDone s p) := by
    unfold sentDone
    try dsimp only
    repeat' first
      | with_reducible assumption
      | with_reducible apply playDone_foot hP k_regs k_ring
      | with_reducible apply putPort_foot hP k_audio
      | with_reducible apply ite_closed
      | (intro _ _)
      | (intro _)
      | dsimp only
      | split

theorem sendFrame_foot (hP : Closed F P) (k_out : F .out = true) {s : State} {p : Nat} {k : Nat} {mask : Nat} {ws : List (Option Word)} (h_s : P s) : P (sendFrame s p k mask ws) := by
    unfold sendFrame
    try dsimp only
    repeat' first
      | with_reducible assumption
      | with_reducible apply Closed.emit hP k_out
      | with_reducible apply ite_closed
      | (intro _ _)
      | (intro _)
      | dsimp only
      | split

theorem zeroFrame_foot (hP : Closed F P) (k_regs : F .regs = true) (k_out : F .out = true) (k_router : F .router = true) (k_maint : F .maint = true) (k_audio : F .audio = true) {s : State} {p : Fin 8} {k : Nat} {mask : Nat} {t : Int} (h_s : P s) : P (zeroFrame s p k mask t) := by
    unfold zeroFrame
    try dsimp only
    repeat' first
      | with_reducible assumption
      | with_reducible apply putPort_foot hP k_audio
      | with_reducible apply State.raise_foot hP k_regs k_out k_router k_maint
      | with_reducible apply audioRecord_foot hP k_audio
      | with_reducible apply sendFrame_foot hP k_out
      | with_reducible apply Closed.inc hP k_regs
      | with_reducible apply Closed.setB hP k_regs
      | with_reducible apply ite_closed
      | (intro _ _)
      | (intro _)
      | dsimp only
      | split

theorem dataFrame_foot (hP : Closed F P) (k_regs : F .regs = true) (k_out : F .out = true) (k_router : F .router = true) (k_maint : F .maint = true) (k_memory : F .memory = true) (k_audio : F .audio = true) {s : State} {p : Fin 8} {b : PlayBuf} {rest : List PlayBuf} {k : Nat} {mask : Nat} {t : Int} {hostOk : Bool} (h_s : P s) : P (dataFrame s p b rest k mask t hostOk) := by
    unfold dataFrame
    try dsimp only
    repeat' first
      | with_reducible assumption
      | with_reducible apply touch_foot hP k_regs k_out k_router k_maint k_memory
      | with_reducible apply audioRecord_foot hP k_audio
      | with_reducible apply putPort_foot hP k_audio
      | with_reducible apply sendFrame_foot hP k_out
      | with_reducible apply Closed.inc hP k_regs
      | with_reducible apply Closed.setB hP k_regs
      | with_reducible apply ite_closed
      | (intro _ _)
      | (intro _)
      | dsimp only
      | split

theorem readBack_foot (hP : Closed F P) (k_regs : F .regs = true) (k_out : F .out = true) (k_router : F .router = true) (k_maint : F .maint = true) (k_audio : F .audio = true) {s : State} {p : Fin 8} {k : Nat} {mask : Nat} {t : Int} {bad : List Nat} (h_s : P s) : P (readBack s p k mask t bad) := by
    unfold readBack
    try dsimp only
    repeat' first
      | with_reducible assumption
      | with_reducible apply putPort_foot hP k_audio
      | with_reducible apply State.raise_foot hP k_regs k_out k_router k_maint
      | with_reducible apply audioRecord_foot hP k_audio
      | with_reducible apply Closed.inc hP k_regs
      | with_reducible apply Closed.setB hP k_regs
      | with_reducible apply ite_closed
      | (intro _ _)
      | (intro _)
      | dsimp only
      | split

theorem outputFrame_foot (hP : Closed F P) (k_regs : F .regs = true) (k_out : F .out = true) (k_router : F .router = true) (k_ring : F .ring = true) (k_maint : F .maint = true) (k_memory : F .memory = true) (k_audio : F .audio = true) {s : State} {p : Fin 8} {k : Nat} {mask : Nat} {t : Int} {bad : List Nat} {hostOk : Bool} (h_s : P s) : P (outputFrame s p k mask t bad hostOk) := by
    unfold outputFrame
    try dsimp only
    repeat' first
      | with_reducible assumption
      | with_reducible apply putPort_foot hP k_audio
      | with_reducible apply dropPassed_foot hP k_regs k_ring k_audio
      | with_reducible apply dataFrame_foot hP k_regs k_out k_router k_maint k_memory k_audio
      | with_reducible apply zeroFrame_foot hP k_regs k_out k_router k_maint k_audio
      | with_reducible apply readBack_foot hP k_regs k_out k_router k_maint k_audio
      | with_reducible apply ite_closed
      | (intro _ _)
      | (intro _)
      | dsimp only
      | split

theorem closeCapture_foot (hP : Closed F P) (k_audio : F .audio = true) {s : State} {p : Nat} {mask : Nat} (h_s : P s) : P (closeCapture s p mask) := by
    unfold closeCapture
    try dsimp only
    repeat' first
      | with_reducible assumption
      | with_reducible apply shutRecord_foot hP k_audio
      | with_reducible apply putPort_foot hP k_audio
      | with_reducible apply ite_closed
      | (intro _ _)
      | (intro _)
      | dsimp only
      | split

theorem inputFrame_foot (hP : Closed F P) (k_regs : F .regs = true) (k_out : F .out = true) (k_router : F .router = true) (k_maint : F .maint = true) (k_hbm : F .hbm = true) (k_memory : F .memory = true) (k_audio : F .audio = true) {s : State} {p : Fin 8} {k : Nat} {mask : Nat} {t : Int} {input : List Word} (h_s : P s) : P (inputFrame s p k mask t input) := by
    unfold inputFrame
    try dsimp only
    repeat' first
      | with_reducible assumption
      | with_reducible apply closeCapture_foot hP k_audio
      | with_reducible apply putPort_foot hP k_audio
      | with_reducible apply State.raise_foot hP k_regs k_out k_router k_maint
      | with_reducible apply audioRecord_foot hP k_audio
      | with_reducible apply hbmWrite_foot hP k_regs k_out k_router k_maint k_hbm k_memory
      | with_reducible apply Closed.inc hP k_regs
      | with_reducible apply ite_closed
      | (intro _ _)
      | (intro _)
      | dsimp only
      | split

theorem latchMask_foot (hP : Closed F P) (k_regs : F .regs = true) (k_audio : F .audio = true) {s : State} {p : Nat} {k : Nat} {t : Int} (h_s : P s) : P (latchMask s p k t) := by
    unfold latchMask
    try dsimp only
    repeat' first
      | with_reducible assumption
      | with_reducible apply closeCapture_foot hP k_audio
      | with_reducible apply putPort_foot hP k_audio
      | with_reducible apply audioRecord_foot hP k_audio
      | with_reducible apply Closed.wr64 hP k_regs
      | with_reducible apply Closed.wr hP k_regs
      | with_reducible apply ite_closed
      | (intro _ _)
      | (intro _)
      | dsimp only
      | split

theorem portHalt_foot (hP : Closed F P) (k_regs : F .regs = true) (k_out : F .out = true) (k_ring : F .ring = true) (k_audio : F .audio = true) {s : State} {p : Nat} (h_s : P s) : P (portHalt s p) := by
    unfold portHalt
    try dsimp only
    repeat' first
      | with_reducible assumption
      | with_reducible apply closeCapture_foot hP k_audio
      | with_reducible apply sentDone_foot hP k_regs k_ring k_audio
      | with_reducible apply putPort_foot hP k_audio
      | with_reducible apply playDone_foot hP k_regs k_ring
      | (with_reducible refine foldl_inv P _ (fun _ _ _ => ?_) _ _ ?_)
      | with_reducible apply Closed.setB hP k_regs
      | with_reducible apply Closed.emit hP k_out
      | with_reducible apply ite_closed
      | (intro _ _)
      | (intro _)
      | dsimp only
      | split

theorem markRef_foot (hP : Closed F P) (k_audio : F .audio = true) {s : State} {p : Nat} {k : Nat} (h_s : P s) : P (markRef s p k) := by
    unfold markRef
    try dsimp only
    repeat' first
      | with_reducible assumption
      | with_reducible apply putPort_foot hP k_audio
      | with_reducible apply ite_closed
      | (intro _ _)
      | (intro _)
      | dsimp only
      | split

theorem greet_foot (hP : Closed F P) (k_audio : F .audio = true) {s : State} {p : Nat} {t : Int} (h_s : P s) : P (greet s p t) := by
    unfold greet
    try dsimp only
    repeat' first
      | with_reducible assumption
      | with_reducible apply audioRecord_foot hP k_audio
      | with_reducible apply putPort_foot hP k_audio
      | with_reducible apply ite_closed
      | (intro _ _)
      | (intro _)
      | dsimp only
      | split

theorem clocksOnly_foot (hP : Closed F P) (k_out : F .out = true) {s : State} {p : Nat} {k : Nat} {mask : Nat} (h_s : P s) : P (clocksOnly s p k mask) := by
    unfold clocksOnly
    try dsimp only
    repeat' first
      | with_reducible assumption
      | with_reducible apply Closed.emit hP k_out
      | with_reducible apply ite_closed
      | (intro _ _)
      | (intro _)
      | dsimp only
      | split

theorem audioFrame_foot (hP : Closed F P) (k_regs : F .regs = true) (k_out : F .out = true) (k_router : F .router = true) (k_ring : F .ring = true) (k_maint : F .maint = true) (k_hbm : F .hbm = true) (k_memory : F .memory = true) (k_audio : F .audio = true) {s : State} {p : Fin 8} {input : List Word} {bad : List Nat} {hostOk : Bool} (h_s : P s) : P (audioFrame s p input bad hostOk) := by
    unfold audioFrame
    try dsimp only
    repeat' first
      | with_reducible assumption
      | with_reducible apply greet_foot hP k_audio
      | with_reducible apply latchMask_foot hP k_regs k_audio
      | with_reducible apply markRef_foot hP k_audio
      | with_reducible apply putPort_foot hP k_audio
      | with_reducible apply outputFrame_foot hP k_regs k_out k_router k_ring k_maint k_memory k_audio
      | with_reducible apply inputFrame_foot hP k_regs k_out k_router k_maint k_hbm k_memory k_audio
      | with_reducible apply clocksOnly_foot hP k_out
      | with_reducible apply Closed.wr64 hP k_regs
      | with_reducible apply ite_closed
      | (intro _ _)
      | (intro _)
      | dsimp only
      | split

theorem execAudioFrame_foot (hP : Closed F P) (k_regs : F .regs = true) (k_out : F .out = true) (k_router : F .router = true) (k_ring : F .ring = true) (k_maint : F .maint = true) (k_hbm : F .hbm = true) (k_memory : F .memory = true) (k_audio : F .audio = true) {p : Fin 8} {input : List Word} {bad : List Nat} {hostOk : Bool} {s : State} (h_s : P s) : OutP P (execAudioFrame p input bad hostOk s) := by
    unfold execAudioFrame
    try dsimp only
    repeat' first
      | with_reducible assumption
      | with_reducible apply outP_next
      | with_reducible apply outP_done
      | with_reducible apply sentDone_foot hP k_regs k_ring k_audio
      | with_reducible apply portHalt_foot hP k_regs k_out k_ring k_audio
      | with_reducible apply audioFrame_foot hP k_regs k_out k_router k_ring k_maint k_hbm k_memory k_audio
      | with_reducible apply ite_closed
      | (intro _ _)
      | (intro _)
      | dsimp only
      | split

theorem startPort_foot (hP : Closed F P) (k_regs : F .regs = true) (k_ring : F .ring = true) (k_audio : F .audio = true) {s : State} {p : Nat} {anchor : Nat} {group : Nat} (h_s : P s) : P (startPort s p anchor group) := by
    unfold startPort
    try dsimp only
    repeat' first
      | with_reducible assumption
      | with_reducible apply setPortState_foot hP k_regs
      | with_reducible apply putPort_foot hP k_audio
      | with_reducible apply rejudge_foot hP k_regs k_ring k_audio
      | with_reducible apply greet_foot hP k_audio
      | with_reducible apply Closed.wr64 hP k_regs
      | with_reducible apply Closed.wr hP k_regs
      | with_reducible apply ite_closed
      | (intro _ _)
      | (intro _)
      | dsimp only
      | split

theorem startGroup_foot (hP : Closed F P) (k_regs : F .regs = true) (k_ring : F .ring = true) (k_audio : F .audio = true) {s : State} {g : Nat} {anchor : Nat} (h_s : P s) : P (startGroup s g anchor) := by
    unfold startGroup
    try dsimp only
    repeat' first
      | with_reducible assumption
      | with_reducible apply startPort_foot hP k_regs k_ring k_audio
      | (with_reducible refine foldl_inv P _ (fun _ _ _ => ?_) _ _ ?_)
      | with_reducible apply ite_closed
      | (intro _ _)
      | (intro _)
      | dsimp only
      | split

theorem portEnable_foot (hP : Closed F P) (k_regs : F .regs = true) (k_out : F .out = true) (k_router : F .router = true) (k_ring : F .ring = true) (k_maint : F .maint = true) (k_audio : F .audio = true) {s : State} {p : Nat} (h_s : P s) : P (portEnable s p) := by
    unfold portEnable
    try dsimp only
    repeat' first
      | with_reducible assumption
      | with_reducible apply refuse_foot hP k_regs k_out k_router k_maint
      | with_reducible apply setOn_foot hP k_regs
      | with_reducible apply setPortState_foot hP k_regs
      | with_reducible apply putPort_foot hP k_audio
      | with_reducible apply startPort_foot hP k_regs k_ring k_audio
      | with_reducible apply ite_closed
      | (intro _ _)
      | (intro _)
      | dsimp only
      | split

theorem execSapEnable_foot (hP : Closed F P) (k_regs : F .regs = true) (k_out : F .out = true) (k_router : F .router = true) (k_ring : F .ring = true) (k_maint : F .maint = true) (k_audio : F .audio = true) {req : Requester} {p : Fin 8} {s : State} (h_s : P s) : OutP P (execSapEnable req p s) := by
    unfold execSapEnable
    try dsimp only
    repeat' first
      | with_reducible assumption
      | with_reducible apply outP_next
      | with_reducible apply outP_done
      | with_reducible apply gated_foot hP k_regs k_out k_router k_maint
      | with_reducible apply portEnable_foot hP k_regs k_out k_router k_ring k_maint k_audio
      | with_reducible apply ite_closed
      | (intro _ _)
      | (intro _)
      | dsimp only
      | split

theorem execGroupCmdStart_foot (hP : Closed F P) (k_regs : F .regs = true) (k_out : F .out = true) (k_router : F .router = true) (k_ring : F .ring = true) (k_maint : F .maint = true) (k_audio : F .audio = true) {req : Requester} {g : Fin 8} {s : State} (h_s : P s) : OutP P (execGroupCmdStart req g s) := by
    unfold execGroupCmdStart
    try dsimp only
    repeat' first
      | with_reducible assumption
      | with_reducible apply outP_next
      | with_reducible apply outP_done
      | with_reducible apply gated_foot hP k_regs k_out k_router k_maint
      | with_reducible apply startGroup_foot hP k_regs k_ring k_audio
      | with_reducible apply ite_closed
      | (intro _ _)
      | (intro _)
      | dsimp only
      | split

theorem portDisable_foot (hP : Closed F P) (k_regs : F .regs = true) (k_out : F .out = true) (k_ring : F .ring = true) (k_audio : F .audio = true) {s : State} {p : Nat} {abort : Bool} (h_s : P s) : P (portDisable s p abort) := by
    unfold portDisable
    try dsimp only
    repeat' first
      | with_reducible assumption
      | with_reducible apply setOff_foot hP k_regs
      | with_reducible apply portHalt_foot hP k_regs k_out k_ring k_audio
      | with_reducible apply setPortState_foot hP k_regs
      | with_reducible apply ite_closed
      | (intro _ _)
      | (intro _)
      | dsimp only
      | split

theorem slotMaskWrite_foot (hP : Closed F P) (k_regs : F .regs = true) (k_out : F .out = true) (k_router : F .router = true) (k_maint : F .maint = true) (k_audio : F .audio = true) {s : State} {p : Nat} {v : Word} (h_s : P s) : P (slotMaskWrite s p v) := by
    unfold slotMaskWrite
    try dsimp only
    repeat' first
      | with_reducible assumption
      | with_reducible apply refuse_foot hP k_regs k_out k_router k_maint
      | with_reducible apply putPort_foot hP k_audio
      | with_reducible apply Closed.wr hP k_regs
      | with_reducible apply ite_closed
      | (intro _ _)
      | (intro _)
      | dsimp only
      | split

theorem execSlotMaskWrite_foot (hP : Closed F P) (k_regs : F .regs = true) (k_out : F .out = true) (k_router : F .router = true) (k_maint : F .maint = true) (k_audio : F .audio = true) {req : Requester} {p : Fin 8} {value : Word} {s : State} (h_s : P s) : OutP P (execSlotMaskWrite req p value s) := by
    unfold execSlotMaskWrite
    try dsimp only
    repeat' first
      | with_reducible assumption
      | with_reducible apply outP_next
      | with_reducible apply outP_done
      | with_reducible apply gated_foot hP k_regs k_out k_router k_maint
      | with_reducible apply slotMaskWrite_foot hP k_regs k_out k_router k_maint k_audio
      | with_reducible apply ite_closed
      | (intro _ _)
      | (intro _)
      | dsimp only
      | split

theorem execAudioClockLoss_foot (hP : Closed F P) (k_regs : F .regs = true) (k_out : F .out = true) (k_router : F .router = true) (k_maint : F .maint = true) {p : Fin 8} {outOfRange : Bool} {ppm : Word} {s : State} (h_s : P s) : OutP P (execAudioClockLoss p outOfRange ppm s) := by
    unfold execAudioClockLoss
    try dsimp only
    repeat' first
      | with_reducible assumption
      | with_reducible apply outP_next
      | with_reducible apply outP_done
      | with_reducible apply State.raise_foot hP k_regs k_out k_router k_maint
      | with_reducible apply Closed.wr hP k_regs
      | with_reducible apply Closed.setB hP k_regs
      | with_reducible apply ite_closed
      | (intro _ _)
      | (intro _)
      | dsimp only
      | split

theorem execAudioClockReturn_foot (hP : Closed F P) (k_regs : F .regs = true) (k_audio : F .audio = true) {p : Fin 8} {s : State} (h_s : P s) : OutP P (execAudioClockReturn p s) := by
    unfold execAudioClockReturn
    try dsimp only
    repeat' first
      | with_reducible assumption
      | with_reducible apply outP_next
      | with_reducible apply outP_done
      | with_reducible apply putPort_foot hP k_audio
      | with_reducible apply Closed.setB hP k_regs
      | with_reducible apply ite_closed
      | (intro _ _)
      | (intro _)
      | dsimp only
      | split

theorem contClear_foot (hP : Closed F P) (k_regs : F .regs = true) (k_audio : F .audio = true) {s : State} {p : Nat} {v : Word} (h_s : P s) : P (contClear s p v) := by
    unfold contClear
    try dsimp only
    repeat' first
      | with_reducible assumption
      | with_reducible apply putPort_foot hP k_audio
      | with_reducible apply Closed.setB hP k_regs
      | with_reducible apply ite_closed
      | (intro _ _)
      | (intro _)
      | dsimp only
      | split

theorem execContClear_foot (hP : Closed F P) (k_regs : F .regs = true) (k_out : F .out = true) (k_router : F .router = true) (k_maint : F .maint = true) (k_audio : F .audio = true) {req : Requester} {p : Fin 8} {value : Word} {s : State} (h_s : P s) : OutP P (execContClear req p value s) := by
    unfold execContClear
    try dsimp only
    repeat' first
      | with_reducible assumption
      | with_reducible apply outP_next
      | with_reducible apply outP_done
      | with_reducible apply gated_foot hP k_regs k_out k_router k_maint
      | with_reducible apply contClear_foot hP k_regs k_audio
      | with_reducible apply ite_closed
      | (intro _ _)
      | (intro _)
      | dsimp only
      | split

theorem mclkWrite_foot (hP : Closed F P) (k_regs : F .regs = true) (k_out : F .out = true) {s : State} {v : Word} (h_s : P s) : P (mclkWrite s v) := by
    unfold mclkWrite
    try dsimp only
    repeat' first
      | with_reducible assumption
      | with_reducible apply Closed.emit hP k_out
      | with_reducible apply Closed.wr hP k_regs
      | with_reducible apply ite_closed
      | (intro _ _)
      | (intro _)
      | dsimp only
      | split

theorem execMclkCfgWrite_foot (hP : Closed F P) (k_regs : F .regs = true) (k_out : F .out = true) (k_router : F .router = true) (k_maint : F .maint = true) {req : Requester} {value : Word} {s : State} (h_s : P s) : OutP P (execMclkCfgWrite req value s) := by
    unfold execMclkCfgWrite
    try dsimp only
    repeat' first
      | with_reducible assumption
      | with_reducible apply outP_next
      | with_reducible apply outP_done
      | with_reducible apply gated_foot hP k_regs k_out k_router k_maint
      | with_reducible apply mclkWrite_foot hP k_regs k_out
      | with_reducible apply ite_closed
      | (intro _ _)
      | (intro _)
      | dsimp only
      | split

theorem portJump_foot (hP : Closed F P) (k_audio : F .audio = true) {c : Int} {e : Int} {s : State} {p : Nat} (h_s : P s) : P (portJump c e s p) := by
    unfold portJump
    try dsimp only
    repeat' first
      | with_reducible assumption
      | with_reducible apply putPort_foot hP k_audio
      | with_reducible apply ite_closed
      | (intro _ _)
      | (intro _)
      | dsimp only
      | split

end Sys2Proof.Machine
end

