-- ==== Sys2Proof/Laws/FootNet.lean ====
section
/-!
SUPPORT. Footprints of the definitions of Machine/Net.lean: which parts of the state each of them may update.
-/
namespace Sys2Proof.Machine

variable {F : Part → Bool} {P : State → Prop}

theorem putFlow_foot (hP : Closed F P) (k_ing : F .ing = true) {s : State} {i : Nat} {f : FlowSt} (h_s : P s) : P (putFlow s i f) := by
    unfold putFlow
    try dsimp only
    repeat' first
      | with_reducible assumption
      | with_reducible apply ite_closed
      | (intro _ _)
      | (intro _)
      | dsimp only
      | split
      | (with_reducible apply Closed.ing hP k_ing)

theorem flowCtrlWrite_foot (hP : Closed F P) (k_regs : F .regs = true) (k_out : F .out = true) (k_router : F .router = true) (k_maint : F .maint = true) (k_ing : F .ing = true) {s : State} {i : Nat} {v : Word} (h_s : P s) : P (flowCtrlWrite s i v) := by
    unfold flowCtrlWrite
    try dsimp only
    repeat' first
      | with_reducible assumption
      | with_reducible apply putFlow_foot hP k_ing
      | with_reducible apply refuse_foot hP k_regs k_out k_router k_maint
      | with_reducible apply Closed.wr hP k_regs
      | with_reducible apply ite_closed
      | (intro _ _)
      | (intro _)
      | dsimp only
      | split

theorem execFlowActivate_foot (hP : Closed F P) (k_regs : F .regs = true) (k_out : F .out = true) (k_router : F .router = true) (k_maint : F .maint = true) (k_ing : F .ing = true) {req : Requester} {flow : Fin 8192} {value : Word} {s : State} (h_s : P s) : OutP P (execFlowActivate req flow value s) := by
    unfold execFlowActivate
    try dsimp only
    repeat' first
      | with_reducible assumption
      | with_reducible apply outP_next
      | with_reducible apply outP_done
      | with_reducible apply gated_foot hP k_regs k_out k_router k_maint
      | with_reducible apply flowCtrlWrite_foot hP k_regs k_out k_router k_maint k_ing
      | with_reducible apply ite_closed
      | (intro _ _)
      | (intro _)
      | dsimp only
      | split

theorem fillSlots_foot (hP : Closed F P) (k_regs : F .regs = true) (k_out : F .out = true) (k_router : F .router = true) (k_maint : F .maint = true) (k_hbm : F .hbm = true) (k_memory : F .memory = true) {s : State} (x1 : List Nat) {x2 : List Byte} (h_s : P s) : P (fillSlots s x1 x2) := by
  induction x1 generalizing s x2 with
  | nil =>
    unfold fillSlots
    try dsimp only
    repeat' first
      | with_reducible assumption
      | with_reducible apply hbmWrite_foot hP k_regs k_out k_router k_maint k_hbm k_memory
      | with_reducible apply ite_closed
      | (intro _ _)
      | (intro _)
      | dsimp only
      | split
  | cons x_ t_ ih =>
    unfold fillSlots
    try dsimp only
    repeat' first
      | with_reducible assumption
      | with_reducible apply ih
      | with_reducible apply hbmWrite_foot hP k_regs k_out k_router k_maint k_hbm k_memory
      | with_reducible apply ite_closed
      | (intro _ _)
      | (intro _)
      | dsimp only
      | split

theorem takeSlots_foot (hP : Closed F P) (k_ing : F .ing = true) {s : State} {l : List Nat} (h_s : P s) : P (takeSlots s l) := by
    unfold takeSlots
    try dsimp only
    repeat' first
      | with_reducible assumption
      | with_reducible apply ite_closed
      | (intro _ _)
      | (intro _)
      | dsimp only
      | split
      | (with_reducible apply Closed.ing hP k_ing)

theorem giveSlots_foot (hP : Closed F P) (k_ing : F .ing = true) {s : State} {l : List Nat} (h_s : P s) : P (giveSlots s l) := by
    unfold giveSlots
    try dsimp only
    repeat' first
      | with_reducible assumption
      | with_reducible apply ite_closed
      | (intro _ _)
      | (intro _)
      | dsimp only
      | split
      | (with_reducible apply Closed.ing hP k_ing)

theorem notPst_foot (hP : Closed F P) (k_regs : F .regs = true) {s : State} {p : Nat} (h_s : P s) : P (notPst s p) := by
    unfold notPst
    try dsimp only
    repeat' first
      | with_reducible assumption
      | with_reducible apply Closed.inc hP k_regs
      | with_reducible apply ite_closed
      | (intro _ _)
      | (intro _)
      | dsimp only
      | split

theorem badPst_foot (hP : Closed F P) (k_regs : F .regs = true) (k_out : F .out = true) (k_router : F .router = true) (k_maint : F .maint = true) {s : State} {x1 : PstHdr} (h_s : P s) : P (badPst s x1) := by
    unfold badPst
    try dsimp only
    repeat' first
      | with_reducible assumption
      | with_reducible apply State.raise_foot hP k_regs k_out k_router k_maint
      | with_reducible apply Closed.inc hP k_regs
      | with_reducible apply ite_closed
      | (intro _ _)
      | (intro _)
      | dsimp only
      | split

theorem noFlow_foot (hP : Closed F P) (k_regs : F .regs = true) (k_out : F .out = true) (k_router : F .router = true) (k_maint : F .maint = true) {s : State} {x1 : PstHdr} {path : Nat} (h_s : P s) : P (noFlow s x1 path) := by
    unfold noFlow
    try dsimp only
    repeat' first
      | with_reducible assumption
      | with_reducible apply State.raise_foot hP k_regs k_out k_router k_maint
      | with_reducible apply Closed.inc hP k_regs
      | with_reducible apply ite_closed
      | (intro _ _)
      | (intro _)
      | dsimp only
      | split

theorem rxFull_foot (hP : Closed F P) (k_regs : F .regs = true) (k_out : F .out = true) (k_router : F .router = true) (k_maint : F .maint = true) {s : State} {p : Fin 2} (h_s : P s) : P (rxFull s p) := by
    unfold rxFull
    try dsimp only
    repeat' first
      | with_reducible assumption
      | with_reducible apply State.raise_foot hP k_regs k_out k_router k_maint
      | with_reducible apply Closed.inc hP k_regs
      | with_reducible apply ite_closed
      | (intro _ _)
      | (intro _)
      | dsimp only
      | split

theorem netPost_foot (hP : Closed F P) (k_regs : F .regs = true) (k_out : F .out = true) (k_router : F .router = true) (k_maint : F .maint = true) (k_hbm : F .hbm = true) (k_host : F .host = true) (k_memory : F .memory = true) (k_ing : F .ing = true) {s : State} {p : Fin 2} {flow : Nat} {b : List Byte} (h_s : P s) : P (netPost s p flow b) := by
    unfold netPost
    try dsimp only
    repeat' first
      | with_reducible assumption
      | (with_reducible refine optP_of (by assumption) ?_)
      | with_reducible exact optP_none
      | with_reducible apply optP_getD
      | with_reducible apply optP_some
      | with_reducible apply rxFull_foot hP k_regs k_out k_router k_maint
      | with_reducible apply ringPush_foot hP k_regs k_out k_router k_maint k_hbm k_host k_memory
      | with_reducible apply hbmWrite_foot hP k_regs k_out k_router k_maint k_hbm k_memory
      | with_reducible apply takeSlots_foot hP k_ing
      | with_reducible apply elim_closed
      | with_reducible apply ite_closed
      | (intro _ _)
      | (intro _)
      | dsimp only
      | split
      | (with_reducible apply Closed.ing hP k_ing)

theorem netReceive_foot (hP : Closed F P) (k_regs : F .regs = true) (k_out : F .out = true) (k_router : F .router = true) (k_maint : F .maint = true) (k_hbm : F .hbm = true) (k_host : F .host = true) (k_memory : F .memory = true) (k_ing : F .ing = true) {s : State} {p : Fin 2} {vlan : Option (BitVec 12)} {src : Word} {dst : Nat} {udp : Nat} {b : List Byte} (h_s : P s) : P (netReceive s p vlan src dst udp b) := by
    unfold netReceive
    try dsimp only
    repeat' first
      | with_reducible assumption
      | with_reducible apply notPst_foot hP k_regs
      | with_reducible apply badPst_foot hP k_regs k_out k_router k_maint
      | with_reducible apply netPost_foot hP k_regs k_out k_router k_maint k_hbm k_host k_memory k_ing
      | with_reducible apply noFlow_foot hP k_regs k_out k_router k_maint
      | with_reducible apply ite_closed
      | (intro _ _)
      | (intro _)
      | dsimp only
      | split

theorem execPstPacketReceived_foot (hP : Closed F P) (k_regs : F .regs = true) (k_out : F .out = true) (k_router : F .router = true) (k_maint : F .maint = true) (k_hbm : F .hbm = true) (k_host : F .host = true) (k_memory : F .memory = true) (k_ing : F .ing = true) {port : Fin 2} {vlan : Option (BitVec 12)} {src : Word} {dst : BitVec 128} {udp : BitVec 16} {packet : List Byte} {s : State} (h_s : P s) : OutP P (execPstPacketReceived port vlan src dst udp packet s) := by
    unfold execPstPacketReceived
    try dsimp only
    repeat' first
      | with_reducible assumption
      | with_reducible apply outP_next
      | with_reducible apply outP_done
      | with_reducible apply netReceive_foot hP k_regs k_out k_router k_maint k_hbm k_host k_memory k_ing
      | with_reducible apply ite_closed
      | (intro _ _)
      | (intro _)
      | dsimp only
      | split

theorem fecCount_foot (hP : Closed F P) (k_regs : F .regs = true) (k_out : F .out = true) (k_router : F .router = true) (k_maint : F .maint = true) {s : State} {p : Fin 2} {f : EthFrame} (h_s : P s) : P (fecCount s p f) := by
    unfold fecCount
    try dsimp only
    repeat' first
      | with_reducible assumption
      | with_reducible apply State.raise_foot hP k_regs k_out k_router k_maint
      | with_reducible apply Closed.wr64 hP k_regs
      | with_reducible apply Closed.incBy hP k_regs
      | with_reducible apply ite_closed
      | (intro _ _)
      | (intro _)
      | dsimp only
      | split

theorem execEthernetFrameReceived_foot (hP : Closed F P) (k_regs : F .regs = true) (k_out : F .out = true) (k_router : F .router = true) (k_maint : F .maint = true) {port : Fin 2} {frame : EthFrame} {s : State} (h_s : P s) : OutP P (execEthernetFrameReceived port frame s) := by
    unfold execEthernetFrameReceived
    try dsimp only
    repeat' first
      | with_reducible assumption
      | with_reducible apply outP_next
      | with_reducible apply outP_done
      | with_reducible apply fecCount_foot hP k_regs k_out k_router k_maint
      | with_reducible apply perfHit_foot hP k_regs k_out k_router k_maint
      | with_reducible apply notPst_foot hP k_regs
      | with_reducible apply Closed.inc hP k_regs
      | with_reducible apply Closed.wr64 hP k_regs
      | with_reducible apply ite_closed
      | (intro _ _)
      | (intro _)
      | dsimp only
      | split

theorem execArpRequest_foot (hP : Closed F P) (k_out : F .out = true) {port : Fin 2} {v6 : Bool} {addr : BitVec 128} {s : State} (h_s : P s) : OutP P (execArpRequest port v6 addr s) := by
    unfold execArpRequest
    try dsimp only
    repeat' first
      | with_reducible assumption
      | with_reducible apply outP_next
      | with_reducible apply outP_done
      | with_reducible apply Closed.emit hP k_out
      | with_reducible apply ite_closed
      | (intro _ _)
      | (intro _)
      | dsimp only
      | split

theorem mcastWrite_foot (hP : Closed F P) (k_regs : F .regs = true) (k_out : F .out = true) {s : State} {p : Fin 2} {m : Nat} {w : Nat} {v : Word} (h_s : P s) : P (mcastWrite s p m w v) := by
    unfold mcastWrite
    try dsimp only
    repeat' first
      | with_reducible assumption
      | with_reducible apply Closed.wr hP k_regs
      | with_reducible apply Closed.emit hP k_out
      | with_reducible apply ite_closed
      | (intro _ _)
      | (intro _)
      | dsimp only
      | split

theorem execMulticastEntryWrite_foot (hP : Closed F P) (k_regs : F .regs = true) (k_out : F .out = true) (k_router : F .router = true) (k_maint : F .maint = true) {req : Requester} {port : Fin 2} {m : Fin 64} {w : Fin 4} {value : Word} {s : State} (h_s : P s) : OutP P (execMulticastEntryWrite req port m w value s) := by
    unfold execMulticastEntryWrite
    try dsimp only
    repeat' first
      | with_reducible assumption
      | with_reducible apply outP_next
      | with_reducible apply outP_done
      | with_reducible apply gated_foot hP k_regs k_out k_router k_maint
      | with_reducible apply mcastWrite_foot hP k_regs k_out
      | with_reducible apply ite_closed
      | (intro _ _)
      | (intro _)
      | dsimp only
      | split

theorem execLinkUp_foot (hP : Closed F P) (k_regs : F .regs = true) (k_out : F .out = true) (k_router : F .router = true) (k_maint : F .maint = true) {port : Fin 2} {s : State} (h_s : P s) : OutP P (execLinkUp port s) := by
    unfold execLinkUp
    try dsimp only
    repeat' first
      | with_reducible assumption
      | with_reducible apply outP_next
      | with_reducible apply outP_done
      | with_reducible apply State.raise_foot hP k_regs k_out k_router k_maint
      | with_reducible apply Closed.wr hP k_regs
      | with_reducible apply ite_closed
      | (intro _ _)
      | (intro _)
      | dsimp only
      | split

theorem linkDown_foot (hP : Closed F P) (k_regs : F .regs = true) (k_out : F .out = true) (k_power : F .power = true) (k_router : F .router = true) (k_maint : F .maint = true) {s : State} {p : Fin 2} (h_s : P s) : P (linkDown s p) := by
    unfold linkDown
    try dsimp only
    repeat' first
      | with_reducible assumption
      | with_reducible apply State.raise_foot hP k_regs k_out k_router k_maint
      | with_reducible apply State.tell_foot hP k_power
      | with_reducible apply Closed.wr hP k_regs
      | with_reducible apply ite_closed
      | (intro _ _)
      | (intro _)
      | dsimp only
      | split

theorem execLinkDown_foot (hP : Closed F P) (k_regs : F .regs = true) (k_out : F .out = true) (k_power : F .power = true) (k_router : F .router = true) (k_maint : F .maint = true) {port : Fin 2} {s : State} (h_s : P s) : OutP P (execLinkDown port s) := by
    unfold execLinkDown
    try dsimp only
    repeat' first
      | with_reducible assumption
      | with_reducible apply outP_next
      | with_reducible apply outP_done
      | with_reducible apply linkDown_foot hP k_regs k_out k_power k_router k_maint
      | with_reducible apply ite_closed
      | (intro _ _)
      | (intro _)
      | dsimp only
      | split

end Sys2Proof.Machine
end

