-- ==== Sys2Proof/Laws/FootIngest.lean ====
section
/-!
SUPPORT. Footprints of the definitions of Machine/Ingest.lean: which parts of the state each of them may update.
-/
namespace Sys2Proof.Machine

variable {F : Part → Bool} {P : State → Prop}

theorem putStore_foot (hP : Closed F P) (k_ing : F .ing = true) {s : State} {n : Nat} {t : StoreSt} (h_s : P s) : P (putStore s n t) := by
    unfold putStore
    try dsimp only
    repeat' first
      | with_reducible assumption
      | with_reducible apply ite_closed
      | (intro _ _)
      | (intro _)
      | dsimp only
      | split
      | (with_reducible apply Closed.ing hP k_ing)

theorem frameOutcome_foot (hP : Closed F P) (k_regs : F .regs = true) (k_ring : F .ring = true) (k_ing : F .ing = true) {s : State} {n : Nat} {p : Past} (h_s : P s) : P (frameOutcome s n p) := by
    unfold frameOutcome
    try dsimp only
    repeat' first
      | with_reducible assumption
      | with_reducible apply putStore_foot hP k_ing
      | with_reducible apply finishJob_foot hP k_regs k_ring
      | (with_reducible refine foldl_inv P _ (fun _ _ _ => ?_) _ _ ?_)
      | with_reducible apply ite_closed
      | (intro _ _)
      | (intro _)
      | dsimp only
      | split

theorem refuseFrame_foot (hP : Closed F P) (k_regs : F .regs = true) (k_out : F .out = true) (k_router : F .router = true) (k_ring : F .ring = true) (k_maint : F .maint = true) (k_ing : F .ing = true) {s : State} {n : Nat} {num : Word} {sec : Nat} {ns : Nat} {reason : Nat} (h_s : P s) : P (refuseFrame s n num sec ns reason) := by
    unfold refuseFrame
    try dsimp only
    repeat' first
      | with_reducible assumption
      | with_reducible apply State.raise_foot hP k_regs k_out k_router k_maint
      | with_reducible apply frameOutcome_foot hP k_regs k_ring k_ing
      | with_reducible apply Closed.inc hP k_regs
      | with_reducible apply ite_closed
      | (intro _ _)
      | (intro _)
      | dsimp only
      | split

theorem refuseAsm_foot (hP : Closed F P) (k_regs : F .regs = true) (k_out : F .out = true) (k_router : F .router = true) (k_ring : F .ring = true) (k_maint : F .maint = true) (k_ing : F .ing = true) {s : State} {n : Nat} {f : Asm} {reason : Nat} (h_s : P s) : P (refuseAsm s n f reason) := by
    unfold refuseAsm
    try dsimp only
    repeat' first
      | with_reducible assumption
      | with_reducible apply putStore_foot hP k_ing
      | with_reducible apply refuseFrame_foot hP k_regs k_out k_router k_ring k_maint k_ing
      | with_reducible apply giveSlots_foot hP k_ing
      | with_reducible apply ite_closed
      | (intro _ _)
      | (intro _)
      | dsimp only
      | split
      | (with_reducible apply Closed.ing hP k_ing)

theorem storeOff_foot (hP : Closed F P) (k_regs : F .regs = true) (k_out : F .out = true) (k_router : F .router = true) (k_ring : F .ring = true) (k_maint : F .maint = true) (k_ing : F .ing = true) {s : State} {n : Nat} (h_s : P s) : P (storeOff s n) := by
    unfold storeOff
    try dsimp only
    repeat' first
      | with_reducible assumption
      | with_reducible apply refuseAsm_foot hP k_regs k_out k_router k_ring k_maint k_ing
      | with_reducible apply putStore_foot hP k_ing
      | (with_reducible refine foldl_inv P _ (fun _ _ _ => ?_) _ _ ?_)
      | with_reducible apply ite_closed
      | (intro _ _)
      | (intro _)
      | dsimp only
      | split

theorem storeCfgWrite_foot (hP : Closed F P) (k_regs : F .regs = true) (k_out : F .out = true) (k_router : F .router = true) (k_ring : F .ring = true) (k_maint : F .maint = true) (k_ing : F .ing = true) {s : State} {n : Nat} {v : Word} (h_s : P s) : P (storeCfgWrite s n v) := by
    unfold storeCfgWrite
    try dsimp only
    repeat' first
      | with_reducible assumption
      | with_reducible apply storeOff_foot hP k_regs k_out k_router k_ring k_maint k_ing
      | with_reducible apply putStore_foot hP k_ing
      | with_reducible apply Closed.wr hP k_regs
      | with_reducible apply Closed.setF hP k_regs
      | with_reducible apply Closed.setB hP k_regs
      | with_reducible apply ite_closed
      | (intro _ _)
      | (intro _)
      | dsimp only
      | split

theorem putSamples_foot (hP : Closed F P) (k_regs : F .regs = true) (k_out : F .out = true) (k_router : F .router = true) (k_maint : F .maint = true) (k_hbm : F .hbm = true) (k_memory : F .memory = true) {s : State} {base : Nat} {x2 : Nat} (x3 : List Nat) (h_s : P s) : P (putSamples s base x2 x3) := by
  induction x3 generalizing s base x2 with
  | nil =>
    unfold putSamples
    try dsimp only
    repeat' first
      | with_reducible assumption
      | with_reducible apply hbmWrite_foot hP k_regs k_out k_router k_maint k_hbm k_memory
      | with_reducible apply ite_closed
      | (intro _ _)
      | (intro _)
      | dsimp only
      | split
  | cons x_ t_ ih =>
    unfold putSamples
    try dsimp only
    repeat' first
      | with_reducible assumption
      | with_reducible apply ih
      | with_reducible apply hbmWrite_foot hP k_regs k_out k_router k_maint k_hbm k_memory
      | with_reducible apply ite_closed
      | (intro _ _)
      | (intro _)
      | dsimp only
      | split

theorem putRows_foot (hP : Closed F P) (k_regs : F .regs = true) (k_out : F .out = true) (k_router : F .router = true) (k_maint : F .maint = true) (k_hbm : F .hbm = true) (k_memory : F .memory = true) {base : Nat} {hd : FrameHdr} {g : TileGeom} {c : Nat} {f : Nat → Nat} {l : List Nat} {s : State} (h_s : P s) : P (putRows base hd g c f l s) := by
    unfold putRows
    try dsimp only
    repeat' first
      | with_reducible assumption
      | with_reducible apply putSamples_foot hP k_regs k_out k_router k_maint k_hbm k_memory
      | (with_reducible refine foldl_inv P _ (fun _ _ _ => ?_) _ _ ?_)
      | with_reducible apply ite_closed
      | (intro _ _)
      | (intro _)
      | dsimp only
      | split

theorem putTile_foot (hP : Closed F P) (k_regs : F .regs = true) (k_out : F .out = true) (k_router : F .router = true) (k_maint : F .maint = true) (k_hbm : F .hbm = true) (k_memory : F .memory = true) {s : State} {base : Nat} {hd : FrameHdr} {i : Nat} {comps : List (List Nat)} (h_s : P s) : P (putTile s base hd i comps) := by
    unfold putTile
    try dsimp only
    repeat' first
      | with_reducible assumption
      | with_reducible apply putRows_foot hP k_regs k_out k_router k_maint k_hbm k_memory
      | (with_reducible refine foldl_inv P _ (fun _ _ _ => ?_) _ _ ?_)
      | with_reducible apply ite_closed
      | (intro _ _)
      | (intro _)
      | dsimp only
      | split

theorem concealTile_foot (hP : Closed F P) (k_regs : F .regs = true) (k_out : F .out = true) (k_router : F .router = true) (k_maint : F .maint = true) (k_hbm : F .hbm = true) (k_memory : F .memory = true) {n : Nat} {f : Asm} {d : List Byte} {hd : FrameHdr} {s : State} {i : Nat} (h_s : P s) : P (concealTile n f d hd s i) := by
    unfold concealTile
    try dsimp only
    repeat' first
      | with_reducible assumption
      | with_reducible apply putSamples_foot hP k_regs k_out k_router k_maint k_hbm k_memory
      | (with_reducible refine foldl_inv P _ (fun _ _ _ => ?_) _ _ ?_)
      | with_reducible apply ite_closed
      | (intro _ _)
      | (intro _)
      | dsimp only
      | split

theorem tileError_foot (hP : Closed F P) (k_regs : F .regs = true) (k_out : F .out = true) (k_router : F .router = true) (k_maint : F .maint = true) {s : State} {n : Nat} {f : Asm} {i : Nat} {code : Nat} {count : Nat} (h_s : P s) : P (tileError s n f i code count).1 := by
    change FstP P _
    unfold tileError
    try dsimp only
    repeat' first
      | with_reducible assumption
      | (intro _ _ _)
      | with_reducible apply ite_closed
      | with_reducible apply State.raise_foot hP k_regs k_out k_router k_maint
      | (with_reducible exact fstP_elim (by assumption))
      | with_reducible apply foldl_fst
      | with_reducible apply Closed.incBy hP k_regs
      | with_reducible apply ite_closed
      | (intro _ _)
      | (intro _)
      | dsimp only
      | split
      | with_reducible apply fstP_mk

theorem dispatchN_foot (hP : Closed F P) (k_ing : F .ing = true) (x0 : Nat) {x1 : State} (h_x1 : P x1) : P (dispatchN x0 x1) := by
  induction x0 generalizing x1 with
  | zero =>
    unfold dispatchN
    try dsimp only
    repeat' first
      | with_reducible assumption
      | with_reducible apply putStore_foot hP k_ing
      | (with_reducible refine foldl_inv P _ (fun _ _ _ => ?_) _ _ ?_)
      | with_reducible apply ite_closed
      | (intro _ _)
      | (intro _)
      | dsimp only
      | split
      | (with_reducible apply Closed.ing hP k_ing)
  | succ n_ ih =>
    unfold dispatchN
    try dsimp only
    repeat' first
      | with_reducible assumption
      | with_reducible apply ih
      | with_reducible apply putStore_foot hP k_ing
      | (with_reducible refine foldl_inv P _ (fun _ _ _ => ?_) _ _ ?_)
      | with_reducible apply ite_closed
      | (intro _ _)
      | (intro _)
      | dsimp only
      | split
      | (with_reducible apply Closed.ing hP k_ing)

theorem dispatch_foot (hP : Closed F P) (k_ing : F .ing = true) {s : State} (h_s : P s) : P (dispatch s) := by
    unfold dispatch
    try dsimp only
    repeat' first
      | with_reducible assumption
      | with_reducible apply dispatchN_foot hP k_ing
      | with_reducible apply ite_closed
      | (intro _ _)
      | (intro _)
      | dsimp only
      | split

theorem decodeScene_foot (hP : Closed F P) (k_regs : F .regs = true) (k_out : F .out = true) (k_router : F .router = true) (k_maint : F .maint = true) (k_hbm : F .hbm = true) (k_memory : F .memory = true) (k_ing : F .ing = true) {s : State} {n : Nat} {f : Asm} {hd : FrameHdr} {i : Nat} {p : Pieces} (h_s : P s) : P (decodeScene s n f hd i p).1 := by
    change FstP P _
    unfold decodeScene
    try dsimp only
    repeat' first
      | with_reducible assumption
      | (intro _ _ _)
      | with_reducible apply ite_closed
      | with_reducible apply touch_foot hP k_regs k_out k_router k_maint k_memory
      | with_reducible apply putTile_foot hP k_regs k_out k_router k_maint k_hbm k_memory
      | with_reducible apply perfHit_foot hP k_regs k_out k_router k_maint
      | with_reducible apply tileError_foot hP k_regs k_out k_router k_maint
      | (with_reducible apply fstP_of; with_reducible apply tileError_foot hP k_regs k_out k_router k_maint)
      | with_reducible apply concealTile_foot hP k_regs k_out k_router k_maint k_hbm k_memory
      | (with_reducible exact fstP_elim (by assumption))
      | with_reducible apply foldl_fst
      | (with_reducible refine foldl_inv P _ (fun _ _ _ => ?_) _ _ ?_)
      | with_reducible apply Closed.inc48 hP k_regs
      | with_reducible apply ite_closed
      | (intro _ _)
      | (intro _)
      | dsimp only
      | split
      | with_reducible apply fstP_mk
      | (with_reducible apply Closed.ing hP k_ing)

theorem execTileDecodeComplete_foot (hP : Closed F P) (k_regs : F .regs = true) (k_out : F .out = true) (k_router : F .router = true) (k_maint : F .maint = true) (k_hbm : F .hbm = true) (k_memory : F .memory = true) (k_ing : F .ing = true) {store : Fin 16} {frame : Word} {tile : Nat} {s : State} (h_s : P s) : OutP P (execTileDecodeComplete store frame tile s) := by
    unfold execTileDecodeComplete
    try dsimp only
    repeat' first
      | with_reducible assumption
      | with_reducible apply outP_next
      | with_reducible apply outP_done
      | with_reducible apply decodeScene_foot hP k_regs k_out k_router k_maint k_hbm k_memory k_ing
      | (with_reducible apply fstP_of; with_reducible apply decodeScene_foot hP k_regs k_out k_router k_maint k_hbm k_memory k_ing)
      | with_reducible apply dispatch_foot hP k_ing
      | with_reducible apply putStore_foot hP k_ing
      | (with_reducible exact fstP_elim (by assumption))
      | with_reducible apply foldl_fst
      | with_reducible apply ite_closed
      | (intro _ _)
      | (intro _)
      | dsimp only
      | split
      | with_reducible apply fstP_mk
      | (with_reducible apply Closed.ing hP k_ing)

theorem execDecodeLoadUpdate_foot (hP : Closed F P) (k_regs : F .regs = true) (k_out : F .out = true) (k_router : F .router = true) (k_maint : F .maint = true) (k_ing : F .ing = true) {s : State} (h_s : P s) : OutP P (execDecodeLoadUpdate s) := by
    unfold execDecodeLoadUpdate
    try dsimp only
    repeat' first
      | with_reducible assumption
      | with_reducible apply outP_next
      | with_reducible apply outP_done
      | with_reducible apply State.raise_foot hP k_regs k_out k_router k_maint
      | (with_reducible refine foldl_inv P _ (fun _ _ _ => ?_) _ _ ?_)
      | with_reducible apply Closed.wr hP k_regs
      | with_reducible apply ite_closed
      | (intro _ _)
      | (intro _)
      | dsimp only
      | split
      | (with_reducible apply Closed.ing hP k_ing)

theorem unlane_foot (hP : Closed F P) (k_ing : F .ing = true) {s : State} {keep : Nat → Bool} (h_s : P s) : P (unlane s keep) := by
    unfold unlane
    try dsimp only
    repeat' first
      | with_reducible assumption
      | with_reducible apply putStore_foot hP k_ing
      | (with_reducible refine foldl_inv P _ (fun _ _ _ => ?_) _ _ ?_)
      | with_reducible apply ite_closed
      | (intro _ _)
      | (intro _)
      | dsimp only
      | split
      | (with_reducible apply Closed.ing hP k_ing)

theorem execDecodeSelftest_foot (hP : Closed F P) (k_regs : F .regs = true) (k_out : F .out = true) (k_router : F .router = true) (k_maint : F .maint = true) (k_ing : F .ing = true) {core : Fin 32} {pass : Bool} {s : State} (h_s : P s) : OutP P (execDecodeSelftest core pass s) := by
    unfold execDecodeSelftest
    try dsimp only
    repeat' first
      | with_reducible assumption
      | with_reducible apply outP_next
      | with_reducible apply outP_done
      | with_reducible apply unlane_foot hP k_ing
      | with_reducible apply dispatch_foot hP k_ing
      | with_reducible apply State.raise_foot hP k_regs k_out k_router k_maint
      | with_reducible apply Closed.setB hP k_regs
      | with_reducible apply ite_closed
      | (intro _ _)
      | (intro _)
      | dsimp only
      | split

theorem noteConcealed_foot (hP : Closed F P) (k_regs : F .regs = true) (k_out : F .out = true) (k_router : F .router = true) (k_maint : F .maint = true) {s : State} {n : Nat} {num : Word} {k : Nat} (h_s : P s) : P (noteConcealed s n num k) := by
    unfold noteConcealed
    try dsimp only
    repeat' first
      | with_reducible assumption
      | with_reducible apply State.raise_foot hP k_regs k_out k_router k_maint
      | with_reducible apply Closed.inc hP k_regs
      | with_reducible apply ite_closed
      | (intro _ _)
      | (intro _)
      | dsimp only
      | split

theorem closeAsm_foot (hP : Closed F P) (k_regs : F .regs = true) (k_out : F .out = true) (k_router : F .router = true) (k_ring : F .ring = true) (k_maint : F .maint = true) (k_hbm : F .hbm = true) (k_memory : F .memory = true) (k_ing : F .ing = true) {s : State} {n : Nat} {f : Asm} (h_s : P s) : P (closeAsm s n f) := by
    unfold closeAsm
    try dsimp only
    repeat' first
      | with_reducible assumption
      | with_reducible apply refuseAsm_foot hP k_regs k_out k_router k_ring k_maint k_ing
      | with_reducible apply perfHit_foot hP k_regs k_out k_router k_maint
      | with_reducible apply concealTile_foot hP k_regs k_out k_router k_maint k_hbm k_memory
      | with_reducible apply putStore_foot hP k_ing
      | with_reducible apply dispatch_foot hP k_ing
      | with_reducible apply noteConcealed_foot hP k_regs k_out k_router k_maint
      | (with_reducible refine foldl_inv P _ (fun _ _ _ => ?_) _ _ ?_)
      | with_reducible apply ite_closed
      | (intro _ _)
      | (intro _)
      | dsimp only
      | split

theorem execAssemblyClose_foot (hP : Closed F P) (k_regs : F .regs = true) (k_out : F .out = true) (k_router : F .router = true) (k_ring : F .ring = true) (k_maint : F .maint = true) (k_hbm : F .hbm = true) (k_memory : F .memory = true) (k_ing : F .ing = true) {store : Fin 16} {frame : Word} {s : State} (h_s : P s) : OutP P (execAssemblyClose store frame s) := by
    unfold execAssemblyClose
    try dsimp only
    repeat' first
      | with_reducible assumption
      | with_reducible apply outP_next
      | with_reducible apply outP_done
      | with_reducible apply closeAsm_foot hP k_regs k_out k_router k_ring k_maint k_hbm k_memory k_ing
      | with_reducible apply ite_closed
      | (intro _ _)
      | (intro _)
      | dsimp only
      | split

theorem closeOverdue_foot (hP : Closed F P) (k_regs : F .regs = true) (k_out : F .out = true) (k_router : F .router = true) (k_ring : F .ring = true) (k_maint : F .maint = true) (k_hbm : F .hbm = true) (k_memory : F .memory = true) (k_ing : F .ing = true) {s : State} (h_s : P s) : P (closeOverdue s) := by
    unfold closeOverdue
    try dsimp only
    repeat' first
      | with_reducible assumption
      | with_reducible apply closeAsm_foot hP k_regs k_out k_router k_ring k_maint k_hbm k_memory k_ing
      | (with_reducible refine foldl_inv P _ (fun _ _ _ => ?_) _ _ ?_)
      | with_reducible apply ite_closed
      | (intro _ _)
      | (intro _)
      | dsimp only
      | split

theorem frameReady_foot (hP : Closed F P) (k_regs : F .regs = true) (k_out : F .out = true) (k_freeCount : F .freeCount = true) (k_router : F .router = true) (k_ring : F .ring = true) (k_maint : F .maint = true) (k_hbm : F .hbm = true) (k_memory : F .memory = true) (k_ing : F .ing = true) {s : State} {n : Nat} {f : Asm} (h_s : P s) : P (frameReady s n f) := by
    unfold frameReady
    try dsimp only
    repeat' first
      | with_reducible assumption
      | with_reducible apply hbmWrite_foot hP k_regs k_out k_router k_maint k_hbm k_memory
      | with_reducible apply putStore_foot hP k_ing
      | with_reducible apply giveSlots_foot hP k_ing
      | with_reducible apply noteConcealed_foot hP k_regs k_out k_router k_maint
      | with_reducible apply State.raise_foot hP k_regs k_out k_router k_maint
      | with_reducible apply frameOutcome_foot hP k_regs k_ring k_ing
      | with_reducible apply Closed.useFree hP k_freeCount
      | with_reducible apply Closed.wr hP k_regs
      | with_reducible apply Closed.setB hP k_regs
      | with_reducible apply Closed.inc hP k_regs
      | with_reducible apply ite_closed
      | (intro _ _)
      | (intro _)
      | dsimp only
      | split

theorem execFrameReady_foot (hP : Closed F P) (k_regs : F .regs = true) (k_out : F .out = true) (k_freeCount : F .freeCount = true) (k_router : F .router = true) (k_ring : F .ring = true) (k_maint : F .maint = true) (k_hbm : F .hbm = true) (k_memory : F .memory = true) (k_ing : F .ing = true) {store : Fin 16} {frame : Word} {s : State} (h_s : P s) : OutP P (execFrameReady store frame s) := by
    unfold execFrameReady
    try dsimp only
    repeat' first
      | with_reducible assumption
      | with_reducible apply outP_next
      | with_reducible apply outP_done
      | with_reducible apply dispatch_foot hP k_ing
      | with_reducible apply frameReady_foot hP k_regs k_out k_freeCount k_router k_ring k_maint k_hbm k_memory k_ing
      | with_reducible apply ite_closed
      | (intro _ _)
      | (intro _)
      | dsimp only
      | split

theorem pathDelivered_foot (hP : Closed F P) (k_regs : F .regs = true) (k_out : F .out = true) (k_router : F .router = true) (k_maint : F .maint = true) (k_ing : F .ing = true) {s : State} {i : Nat} {p : Nat} (h_s : P s) : P (pathDelivered s i p) := by
    unfold pathDelivered
    try dsimp only
    repeat' first
      | with_reducible assumption
      | with_reducible apply putFlow_foot hP k_ing
      | with_reducible apply State.raise_foot hP k_regs k_out k_router k_maint
      | with_reducible apply Closed.setB hP k_regs
      | with_reducible apply ite_closed
      | (intro _ _)
      | (intro _)
      | dsimp only
      | split

theorem flowStale_foot (hP : Closed F P) (k_regs : F .regs = true) (k_out : F .out = true) (k_router : F .router = true) (k_maint : F .maint = true) (k_ing : F .ing = true) {s : State} {i : Nat} {n : Nat} (h_s : P s) : P (flowStale s i n) := by
    unfold flowStale
    try dsimp only
    repeat' first
      | with_reducible assumption
      | with_reducible apply State.raise_foot hP k_regs k_out k_router k_maint
      | with_reducible apply putFlow_foot hP k_ing
      | with_reducible apply Closed.setF hP k_regs
      | with_reducible apply ite_closed
      | (intro _ _)
      | (intro _)
      | dsimp only
      | split

theorem addAsm_foot (hP : Closed F P) (k_ing : F .ing = true) {s : State} {n : Nat} {f : Asm} (h_s : P s) : P (addAsm s n f) := by
    unfold addAsm
    try dsimp only
    repeat' first
      | with_reducible assumption
      | with_reducible apply putStore_foot hP k_ing
      | with_reducible apply ite_closed
      | (intro _ _)
      | (intro _)
      | dsimp only
      | split

theorem takeDesc_foot (hP : Closed F P) (k_regs : F .regs = true) (k_out : F .out = true) (k_router : F .router = true) (k_maint : F .maint = true) {s : State} {n : Nat} {f : Asm} {d : List Byte} (h_s : P s) : P (takeDesc s n f d).1 := by
    change FstP P _
    unfold takeDesc
    try dsimp only
    repeat' first
      | with_reducible assumption
      | (intro _ _ _)
      | with_reducible apply ite_closed
      | with_reducible apply tileError_foot hP k_regs k_out k_router k_maint
      | (with_reducible apply fstP_of; with_reducible apply tileError_foot hP k_regs k_out k_router k_maint)
      | (with_reducible exact fstP_elim (by assumption))
      | with_reducible apply foldl_fst
      | with_reducible apply ite_closed
      | (intro _ _)
      | (intro _)
      | dsimp only
      | split
      | with_reducible apply fstP_mk

theorem groupError_foot (hP : Closed F P) (k_regs : F .regs = true) (k_out : F .out = true) (k_router : F .router = true) (k_maint : F .maint = true) {s : State} {n : Nat} {f : Asm} {i : Nat} {code : Nat} {count : Nat} (h_s : P s) : P (groupError s n f i code count).1 := by
    change FstP P _
    unfold groupError
    try dsimp only
    repeat' first
      | with_reducible assumption
      | (intro _ _ _)
      | with_reducible apply ite_closed
      | with_reducible apply tileError_foot hP k_regs k_out k_router k_maint
      | (with_reducible apply fstP_of; with_reducible apply tileError_foot hP k_regs k_out k_router k_maint)
      | (with_reducible exact fstP_elim (by assumption))
      | with_reducible apply foldl_fst
      | with_reducible apply ite_closed
      | (intro _ _)
      | (intro _)
      | dsimp only
      | split
      | with_reducible apply fstP_mk

theorem takeTiles_foot (hP : Closed F P) (k_regs : F .regs = true) (k_out : F .out = true) (k_router : F .router = true) (k_maint : F .maint = true) {s : State} {n : Nat} {f : Asm} {x3 : PstHdr} {p : Pieces} {b : List Byte} (h_s : P s) : P (takeTiles s n f x3 p b).1 := by
    change FstP P _
    unfold takeTiles
    try dsimp only
    repeat' first
      | with_reducible assumption
      | (intro _ _ _)
      | with_reducible apply ite_closed
      | with_reducible apply groupError_foot hP k_regs k_out k_router k_maint
      | (with_reducible apply fstP_of; with_reducible apply groupError_foot hP k_regs k_out k_router k_maint)
      | (with_reducible exact fstP_elim (by assumption))
      | with_reducible apply foldl_fst
      | (with_reducible refine foldl_inv P _ (fun _ _ _ => ?_) _ _ ?_)
      | with_reducible apply ite_closed
      | (intro _ _)
      | (intro _)
      | dsimp only
      | split
      | with_reducible apply fstP_mk

theorem takeFrag_foot (hP : Closed F P) (k_regs : F .regs = true) (k_out : F .out = true) (k_router : F .router = true) (k_maint : F .maint = true) {s : State} {n : Nat} {f : Asm} {x3 : PstHdr} {p : Pieces} (h_s : P s) : P (takeFrag s n f x3 p).1 := by
    change FstP P _
    unfold takeFrag
    try dsimp only
    repeat' first
      | with_reducible assumption
      | (intro _ _ _)
      | with_reducible apply ite_closed
      | with_reducible apply groupError_foot hP k_regs k_out k_router k_maint
      | (with_reducible apply fstP_of; with_reducible apply groupError_foot hP k_regs k_out k_router k_maint)
      | (with_reducible exact fstP_elim (by assumption))
      | with_reducible apply foldl_fst
      | with_reducible apply ite_closed
      | (intro _ _)
      | (intro _)
      | dsimp only
      | split
      | with_reducible apply fstP_mk

theorem takePacket_foot (hP : Closed F P) (k_regs : F .regs = true) (k_out : F .out = true) (k_router : F .router = true) (k_maint : F .maint = true) (k_ing : F .ing = true) {s : State} {n : Nat} {f : Asm} {x3 : PstHdr} {p : Pieces} {b : List Byte} {slots : List Nat} (h_s : P s) : P (takePacket s n f x3 p b slots).1 := by
    change FstP P _
    unfold takePacket
    try dsimp only
    repeat' first
      | with_reducible assumption
      | (intro _ _ _)
      | with_reducible apply ite_closed
      | with_reducible apply takeDesc_foot hP k_regs k_out k_router k_maint
      | (with_reducible apply fstP_of; with_reducible apply takeDesc_foot hP k_regs k_out k_router k_maint)
      | with_reducible apply takeTiles_foot hP k_regs k_out k_router k_maint
      | (with_reducible apply fstP_of; with_reducible apply takeTiles_foot hP k_regs k_out k_router k_maint)
      | with_reducible apply takeFrag_foot hP k_regs k_out k_router k_maint
      | (with_reducible apply fstP_of; with_reducible apply takeFrag_foot hP k_regs k_out k_router k_maint)
      | with_reducible apply putStore_foot hP k_ing
      | with_reducible apply dispatch_foot hP k_ing
      | with_reducible apply giveSlots_foot hP k_ing
      | (with_reducible exact fstP_elim (by assumption))
      | with_reducible apply foldl_fst
      | with_reducible apply ite_closed
      | (intro _ _)
      | (intro _)
      | dsimp only
      | split
      | with_reducible apply fstP_mk

theorem assemble_foot (hP : Closed F P) (k_regs : F .regs = true) (k_out : F .out = true) (k_router : F .router = true) (k_ring : F .ring = true) (k_maint : F .maint = true) (k_ing : F .ing = true) {s : State} {n : Nat} {x2 : PstHdr} {p : Pieces} {b : List Byte} {slots : List Nat} (h_s : P s) : P (assemble s n x2 p b slots).1 := by
    change FstP P _
    unfold assemble
    try dsimp only
    repeat' first
      | with_reducible assumption
      | (intro _ _ _)
      | with_reducible apply ite_closed
      | with_reducible apply giveSlots_foot hP k_ing
      | with_reducible apply takePacket_foot hP k_regs k_out k_router k_maint k_ing
      | (with_reducible apply fstP_of; with_reducible apply takePacket_foot hP k_regs k_out k_router k_maint k_ing)
      | with_reducible apply refuseFrame_foot hP k_regs k_out k_router k_ring k_maint k_ing
      | with_reducible apply addAsm_foot hP k_ing
      | (with_reducible exact fstP_elim (by assumption))
      | with_reducible apply foldl_fst
      | with_reducible apply ite_closed
      | (intro _ _)
      | (intro _)
      | dsimp only
      | split
      | with_reducible apply fstP_mk

theorem countFlow_foot (hP : Closed F P) (k_regs : F .regs = true) (k_out : F .out = true) (k_router : F .router = true) (k_maint : F .maint = true) {s : State} {i : Nat} {d : Nat} (h_s : P s) : P (countFlow s i d) := by
    unfold countFlow
    try dsimp only
    repeat' first
      | with_reducible assumption
      | with_reducible apply perfHit_foot hP k_regs k_out k_router k_maint
      | with_reducible apply Closed.inc hP k_regs
      | with_reducible apply ite_closed
      | (intro _ _)
      | (intro _)
      | dsimp only
      | split

theorem ingestPacket_foot (hP : Closed F P) (k_regs : F .regs = true) (k_out : F .out = true) (k_router : F .router = true) (k_ring : F .ring = true) (k_maint : F .maint = true) (k_ing : F .ing = true) {s : State} {path : Nat} {b : List Byte} {slots : List Nat} (h_s : P s) : P (ingestPacket s path b slots).1 := by
    change FstP P _
    unfold ingestPacket
    try dsimp only
    repeat' first
      | with_reducible assumption
      | (intro _ _ _)
      | with_reducible apply ite_closed
      | with_reducible apply badPst_foot hP k_regs k_out k_router k_maint
      | with_reducible apply giveSlots_foot hP k_ing
      | with_reducible apply noFlow_foot hP k_regs k_out k_router k_maint
      | with_reducible apply pathDelivered_foot hP k_regs k_out k_router k_maint k_ing
      | with_reducible apply flowStale_foot hP k_regs k_out k_router k_maint k_ing
      | with_reducible apply putFlow_foot hP k_ing
      | with_reducible apply countFlow_foot hP k_regs k_out k_router k_maint
      | with_reducible apply assemble_foot hP k_regs k_out k_router k_ring k_maint k_ing
      | (with_reducible apply fstP_of; with_reducible apply assemble_foot hP k_regs k_out k_router k_ring k_maint k_ing)
      | (with_reducible exact fstP_elim (by assumption))
      | with_reducible apply foldl_fst
      | with_reducible apply ite_closed
      | (intro _ _)
      | (intro _)
      | dsimp only
      | split
      | with_reducible apply fstP_mk

theorem mediaDiscard_foot (hP : Closed F P) (k_regs : F .regs = true) (k_ing : F .ing = true) {s : State} {slots : List Nat} (h_s : P s) : P (mediaDiscard s slots) := by
    unfold mediaDiscard
    try dsimp only
    repeat' first
      | with_reducible assumption
      | with_reducible apply giveSlots_foot hP k_ing
      | with_reducible apply Closed.inc hP k_regs
      | with_reducible apply ite_closed
      | (intro _ _)
      | (intro _)
      | dsimp only
      | split

theorem rxRecord_foot (hP : Closed F P) (k_regs : F .regs = true) (k_freeCount : F .freeCount = true) (k_ring : F .ring = true) {s : State} {r : Nat} {idx : Word} {tag : Word} {status : Nat} (h_s : P s) : P (rxRecord s r idx tag status) := by
    unfold rxRecord
    try dsimp only
    repeat' first
      | with_reducible assumption
      | with_reducible apply finish_foot hP k_regs k_ring
      | with_reducible apply ite_closed
      | (intro _ _)
      | (intro _)
      | dsimp only
      | split
      | (with_reducible apply Closed.freeCount hP k_freeCount)

theorem rxPacketIn_foot (hP : Closed F P) (k_regs : F .regs = true) (k_out : F .out = true) (k_router : F .router = true) (k_ring : F .ring = true) (k_maint : F .maint = true) (k_memory : F .memory = true) (k_ing : F .ing = true) {s : State} {x : RxEntry} (h_s : P s) : P (rxPacketIn s x).1 := by
    change FstP P _
    unfold rxPacketIn
    try dsimp only
    repeat' first
      | with_reducible assumption
      | (intro _ _ _)
      | with_reducible apply ite_closed
      | with_reducible apply mediaDiscard_foot hP k_regs k_ing
      | with_reducible apply touch_foot hP k_regs k_out k_router k_maint k_memory
      | with_reducible apply ingestPacket_foot hP k_regs k_out k_router k_ring k_maint k_ing
      | (with_reducible apply fstP_of; with_reducible apply ingestPacket_foot hP k_regs k_out k_router k_ring k_maint k_ing)
      | (with_reducible exact fstP_elim (by assumption))
      | with_reducible apply foldl_fst
      | (with_reducible refine foldl_inv P _ (fun _ _ _ => ?_) _ _ ?_)
      | with_reducible apply ite_closed
      | (intro _ _)
      | (intro _)
      | dsimp only
      | split
      | with_reducible apply fstP_mk

theorem rxEntry_foot (hP : Closed F P) (k_regs : F .regs = true) (k_out : F .out = true) (k_router : F .router = true) (k_ring : F .ring = true) (k_maint : F .maint = true) (k_memory : F .memory = true) (k_ing : F .ing = true) {s : State} {r : Nat} {idx : Word} {bad : Bool} (h_s : P s) : P (rxEntry s r idx bad).1 := by
    change FstP P _
    unfold rxEntry
    try dsimp only
    repeat' first
      | with_reducible assumption
      | (intro _ _ _)
      | with_reducible apply ite_closed
      | with_reducible apply State.raise_foot hP k_regs k_out k_router k_maint
      | with_reducible apply giveSlots_foot hP k_ing
      | with_reducible apply rxPacketIn_foot hP k_regs k_out k_router k_ring k_maint k_memory k_ing
      | (with_reducible apply fstP_of; with_reducible apply rxPacketIn_foot hP k_regs k_out k_router k_ring k_maint k_memory k_ing)
      | (with_reducible exact fstP_elim (by assumption))
      | with_reducible apply foldl_fst
      | with_reducible apply ite_closed
      | (intro _ _)
      | (intro _)
      | dsimp only
      | split
      | with_reducible apply fstP_mk
      | (with_reducible apply Closed.ing hP k_ing)

theorem rxAccept_foot (hP : Closed F P) (k_regs : F .regs = true) (k_out : F .out = true) (k_freeCount : F .freeCount = true) (k_router : F .router = true) (k_ring : F .ring = true) (k_maint : F .maint = true) (k_memory : F .memory = true) (k_ing : F .ing = true) {s : State} {r : Nat} (h_s : P s) : P (rxAccept s r) := by
    unfold rxAccept
    try dsimp only
    repeat' first
      | with_reducible assumption
      | with_reducible apply takeEntry_foot hP k_regs k_out k_router
      | with_reducible apply touch_foot hP k_regs k_out k_router k_maint k_memory
      | with_reducible apply rxEntry_foot hP k_regs k_out k_router k_ring k_maint k_memory k_ing
      | (with_reducible apply fstP_of; with_reducible apply rxEntry_foot hP k_regs k_out k_router k_ring k_maint k_memory k_ing)
      | with_reducible apply rxRecord_foot hP k_regs k_freeCount k_ring
      | (with_reducible exact fstP_elim (by assumption))
      | with_reducible apply foldl_fst
      | with_reducible apply ite_closed
      | (intro _ _)
      | (intro _)
      | dsimp only
      | split
      | with_reducible apply fstP_mk

theorem execSceneRxEntryAccept_foot (hP : Closed F P) (k_regs : F .regs = true) (k_out : F .out = true) (k_freeCount : F .freeCount = true) (k_router : F .router = true) (k_ring : F .ring = true) (k_maint : F .maint = true) (k_memory : F .memory = true) (k_ing : F .ing = true) {ring : Fin 8192} {s : State} (h_s : P s) : OutP P (execSceneRxEntryAccept ring s) := by
    unfold execSceneRxEntryAccept
    try dsimp only
    repeat' first
      | with_reducible assumption
      | with_reducible apply outP_next
      | with_reducible apply outP_done
      | with_reducible apply rxAccept_foot hP k_regs k_out k_freeCount k_router k_ring k_maint k_memory k_ing
      | with_reducible apply ite_closed
      | (intro _ _)
      | (intro _)
      | dsimp only
      | split

theorem rxSkipped_foot (hP : Closed F P) (k_regs : F .regs = true) (k_out : F .out = true) (k_router : F .router = true) (k_maint : F .maint = true) (k_ing : F .ing = true) {s : State} {r : Nat} {upTo : Word} (h_s : P s) : P (rxSkipped s r upTo) := by
    unfold rxSkipped
    try dsimp only
    repeat' first
      | with_reducible assumption
      | with_reducible apply giveSlots_foot hP k_ing
      | with_reducible apply rxFull_foot hP k_regs k_out k_router k_maint
      | (with_reducible refine foldl_inv P _ (fun _ _ _ => ?_) _ _ ?_)
      | with_reducible apply ite_closed
      | (intro _ _)
      | (intro _)
      | dsimp only
      | split
      | (with_reducible apply Closed.ing hP k_ing)

theorem hostScene_foot (hP : Closed F P) (k_regs : F .regs = true) (k_out : F .out = true) (k_router : F .router = true) (k_ring : F .ring = true) (k_maint : F .maint = true) (k_hbm : F .hbm = true) (k_memory : F .memory = true) (k_ing : F .ing = true) {s : State} {j : Job} (h_s : P s) : OptP P (hostScene s j) := by
    unfold hostScene
    try dsimp only
    repeat' first
      | with_reducible assumption
      | (with_reducible refine optP_of (by assumption) ?_)
      | with_reducible exact optP_none
      | with_reducible apply optP_getD
      | with_reducible apply optP_some
      | with_reducible apply ite_closed
      | with_reducible apply finishJob_foot hP k_regs k_ring
      | with_reducible apply touch_foot hP k_regs k_out k_router k_maint k_memory
      | with_reducible apply ingestPacket_foot hP k_regs k_out k_router k_ring k_maint k_ing
      | (with_reducible apply fstP_of; with_reducible apply ingestPacket_foot hP k_regs k_out k_router k_ring k_maint k_ing)
      | with_reducible apply takeSlots_foot hP k_ing
      | with_reducible apply fillSlots_foot hP k_regs k_out k_router k_maint k_hbm k_memory
      | (with_reducible exact fstP_elim (by assumption))
      | with_reducible apply foldl_fst
      | with_reducible apply Closed.inc hP k_regs
      | with_reducible apply elim_closed
      | with_reducible apply ite_closed
      | (intro _ _)
      | (intro _)
      | dsimp only
      | split
      | with_reducible apply fstP_mk

theorem frameReport_foot (hP : Closed F P) (k_regs : F .regs = true) (k_ring : F .ring = true) {s : State} {j : Job} (h_s : P s) : P (frameReport s j) := by
    unfold frameReport
    try dsimp only
    repeat' first
      | with_reducible assumption
      | with_reducible apply finishJob_foot hP k_regs k_ring
      | with_reducible apply ite_closed
      | (intro _ _)
      | (intro _)
      | dsimp only
      | split

theorem execFrameReportTimeout_foot (hP : Closed F P) (k_regs : F .regs = true) (k_ring : F .ring = true) {ring : Fin 8192} {index : Word} {s : State} (h_s : P s) : OutP P (execFrameReportTimeout ring index s) := by
    unfold execFrameReportTimeout
    try dsimp only
    repeat' first
      | with_reducible assumption
      | with_reducible apply outP_next
      | with_reducible apply outP_done
      | with_reducible apply finishJob_foot hP k_regs k_ring
      | with_reducible apply ite_closed
      | (intro _ _)
      | (intro _)
      | dsimp only
      | split

theorem execPathLost_foot (hP : Closed F P) (k_regs : F .regs = true) (k_out : F .out = true) (k_power : F .power = true) (k_router : F .router = true) (k_maint : F .maint = true) {flow : Fin 8192} {port : Fin 2} {s : State} (h_s : P s) : OutP P (execPathLost flow port s) := by
    unfold execPathLost
    try dsimp only
    repeat' first
      | with_reducible assumption
      | with_reducible apply outP_next
      | with_reducible apply outP_done
      | with_reducible apply spareLow_foot hP k_regs k_out k_power k_router k_maint
      | with_reducible apply State.raise_foot hP k_regs k_out k_router k_maint
      | with_reducible apply Closed.setB hP k_regs
      | with_reducible apply ite_closed
      | (intro _ _)
      | (intro _)
      | dsimp only
      | split

theorem selectFrame_foot (hP : Closed F P) (k_ing : F .ing = true) {x0 : Nat} {S : Int} {s : State} {n : Nat} (h_s : P s) : P (selectFrame x0 S s n) := by
    unfold selectFrame
    try dsimp only
    repeat' first
      | with_reducible assumption
      | with_reducible apply putStore_foot hP k_ing
      | with_reducible apply ite_closed
      | (intro _ _)
      | (intro _)
      | dsimp only
      | split

theorem selectFrames_foot (hP : Closed F P) (k_ing : F .ing = true) {s : State} {x1 : Nat} {S : Int} (h_s : P s) : P (selectFrames s x1 S) := by
    unfold selectFrames
    try dsimp only
    repeat' first
      | with_reducible assumption
      | with_reducible apply selectFrame_foot hP k_ing
      | (with_reducible refine foldl_inv P _ (fun _ _ _ => ?_) _ _ ?_)
      | with_reducible apply ite_closed
      | (intro _ _)
      | (intro _)
      | dsimp only
      | split

end Sys2Proof.Machine
end

