-- ==== Sys2Proof/Laws/FootJobs.lean ====
section
/-!
SUPPORT. Footprints of the definitions of Machine/Jobs.lean: which parts of the state each of them may update.
-/
namespace Sys2Proof.Machine

variable {F : Part → Bool} {P : State → Prop}

theorem spaceTouch_foot (hP : Closed F P) (k_regs : F .regs = true) (k_out : F .out = true) (k_router : F .router = true) (k_maint : F .maint = true) (k_memory : F .memory = true) {s : State} {host : Bool} {a : Nat} {n : Nat} (h_s : P s) : P (spaceTouch s host a n) := by
    unfold spaceTouch
    try dsimp only
    repeat' first
      | with_reducible assumption
      | with_reducible apply touch_foot hP k_regs k_out k_router k_maint k_memory
      | with_reducible apply ite_closed
      | (intro _ _)
      | (intro _)
      | dsimp only
      | split

theorem outByte_foot (hP : Closed F P) (k_regs : F .regs = true) (k_out : F .out = true) (k_router : F .router = true) (k_maint : F .maint = true) (k_hbm : F .hbm = true) (k_host : F .host = true) (k_memory : F .memory = true) {host : Bool} (x1 : List (Nat × Nat)) {x2 : State} {x3 : Nat} {x4 : Byte} (h_x2 : P x2) : P (outByte host x1 x2 x3 x4) := by
  induction x1 generalizing host x2 x3 x4 with
  | nil =>
    unfold outByte
    try dsimp only
    repeat' first
      | with_reducible assumption
      | with_reducible apply memWrite_foot hP k_regs k_out k_router k_maint k_hbm k_host k_memory
      | with_reducible apply ite_closed
      | (intro _ _)
      | (intro _)
      | dsimp only
      | split
  | cons x_ t_ ih =>
    unfold outByte
    try dsimp only
    repeat' first
      | with_reducible assumption
      | with_reducible apply ih
      | with_reducible apply memWrite_foot hP k_regs k_out k_router k_maint k_hbm k_host k_memory
      | with_reducible apply ite_closed
      | (intro _ _)
      | (intro _)
      | dsimp only
      | split

theorem outWrite_foot (hP : Closed F P) (k_regs : F .regs = true) (k_out : F .out = true) (k_router : F .router = true) (k_maint : F .maint = true) (k_hbm : F .hbm = true) (k_host : F .host = true) (k_memory : F .memory = true) {host : Bool} {segs : List (Nat × Nat)} {x2 : State} {x3 : Nat} (x4 : List Byte) (h_x2 : P x2) : P (outWrite host segs x2 x3 x4) := by
  induction x4 generalizing host segs x2 x3 with
  | nil =>
    unfold outWrite
    try dsimp only
    repeat' first
      | with_reducible assumption
      | with_reducible apply outByte_foot hP k_regs k_out k_router k_maint k_hbm k_host k_memory
      | with_reducible apply ite_closed
      | (intro _ _)
      | (intro _)
      | dsimp only
      | split
  | cons x_ t_ ih =>
    unfold outWrite
    try dsimp only
    repeat' first
      | with_reducible assumption
      | with_reducible apply ih
      | with_reducible apply outByte_foot hP k_regs k_out k_router k_maint k_hbm k_host k_memory
      | with_reducible apply ite_closed
      | (intro _ _)
      | (intro _)
      | dsimp only
      | split

theorem decompN_foot (hP : Closed F P) (k_regs : F .regs = true) (k_out : F .out = true) (k_router : F .router = true) (k_maint : F .maint = true) (k_hbm : F .hbm = true) (k_host : F .host = true) (k_memory : F .memory = true) {e : List Byte} {check : Bool} {segs : List (Nat × Nat)} {b : List Byte} (x4 : Nat) {x5 : Nat} {x6 : Decomp} (h_x6 : P x6.s) : P (decompN e check segs b x4 x5 x6).1.s := by
  induction x4 generalizing e check segs b x5 x6 with
  | zero =>
    change Via (fun (x : Decomp × JobStop) => x.1.s) P _
    unfold decompN
    try dsimp only
    repeat' first
      | with_reducible assumption
      | (intro _ _ _)
      | with_reducible apply ite_closed
      | with_reducible apply spaceTouch_foot hP k_regs k_out k_router k_maint k_memory
      | with_reducible apply outWrite_foot hP k_regs k_out k_router k_maint k_hbm k_host k_memory
      | (with_reducible refine foldl_inv P _ (fun _ _ _ => ?_) _ _ ?_)
      | with_reducible apply ite_closed
      | (intro _ _)
      | (intro _)
      | dsimp only
      | split
      | (refine via_of ?_; try dsimp only)
  | succ n_ ih =>
    change Via (fun (x : Decomp × JobStop) => x.1.s) P _
    unfold decompN
    try dsimp only
    repeat' first
      | with_reducible assumption
      | with_reducible apply ite_closed
      | with_reducible apply ih
      | (refine via_of ?_; with_reducible apply ih)
      | (intro _ _ _)
      | with_reducible apply ite_closed
      | with_reducible apply spaceTouch_foot hP k_regs k_out k_router k_maint k_memory
      | with_reducible apply outWrite_foot hP k_regs k_out k_router k_maint k_hbm k_host k_memory
      | (with_reducible refine foldl_inv P _ (fun _ _ _ => ?_) _ _ ?_)
      | with_reducible apply ite_closed
      | (intro _ _)
      | (intro _)
      | dsimp only
      | split
      | (refine via_of ?_; try dsimp only)

theorem runDecomp_foot (hP : Closed F P) (k_regs : F .regs = true) (k_out : F .out = true) (k_router : F .router = true) (k_maint : F .maint = true) (k_hbm : F .hbm = true) (k_host : F .host = true) (k_memory : F .memory = true) {s : State} {j : Job} {check : Bool} (h_s : P s) : P (runDecomp s j check).1 := by
    change FstP P _
    unfold runDecomp
    try dsimp only
    repeat' first
      | with_reducible assumption
      | (intro _ _ _)
      | with_reducible apply ite_closed
      | with_reducible apply spaceTouch_foot hP k_regs k_out k_router k_maint k_memory
      | with_reducible apply decompN_foot hP k_regs k_out k_router k_maint k_hbm k_host k_memory
      | (with_reducible exact fstP_elim (by assumption))
      | with_reducible apply foldl_fst
      | with_reducible apply ite_closed
      | (intro _ _)
      | (intro _)
      | dsimp only
      | split
      | with_reducible apply fstP_mk
      | (refine via_of ?_; try dsimp only)

theorem noteFixes_foot (hP : Closed F P) (k_regs : F .regs = true) (k_out : F .out = true) (k_router : F .router = true) (k_maint : F .maint = true) {s : State} {eng : Fin 8} {j : Job} {l : List (Nat × Bool)} (h_s : P s) : P (noteFixes s eng j l) := by
    unfold noteFixes
    try dsimp only
    repeat' first
      | with_reducible assumption
      | with_reducible apply State.raise_foot hP k_regs k_out k_router k_maint
      | (with_reducible refine foldl_inv P _ (fun _ _ _ => ?_) _ _ ?_)
      | with_reducible apply Closed.inc hP k_regs
      | with_reducible apply ite_closed
      | (intro _ _)
      | (intro _)
      | dsimp only
      | split

theorem compN_foot (hP : Closed F P) (k_regs : F .regs = true) (k_out : F .out = true) (k_freeCount : F .freeCount = true) (k_router : F .router = true) (k_maint : F .maint = true) (k_hbm : F .hbm = true) (k_host : F .host = true) (k_memory : F .memory = true) {j : Job} {segs : List (Nat × Nat)} {mism : List Nat} {rawFails : Bool} {first : Nat} (x5 : Nat) {x6 : Nat} {x7 : Comping} (h_x7 : P x7.s) : P (compN j segs mism rawFails first x5 x6 x7).1.s := by
  induction x5 generalizing j segs mism rawFails first x6 x7 with
  | zero =>
    change Via (fun (x : Comping × JobStop) => x.1.s) P _
    unfold compN
    try dsimp only
    repeat' first
      | with_reducible assumption
      | (intro _ _ _)
      | with_reducible apply ite_closed
      | with_reducible apply spaceTouch_foot hP k_regs k_out k_router k_maint k_memory
      | with_reducible apply outWrite_foot hP k_regs k_out k_router k_maint k_hbm k_host k_memory
      | with_reducible apply Closed.useFree hP k_freeCount
      | with_reducible apply ite_closed
      | (intro _ _)
      | (intro _)
      | dsimp only
      | split
      | (refine via_of ?_; try dsimp only)
  | succ n_ ih =>
    change Via (fun (x : Comping × JobStop) => x.1.s) P _
    unfold compN
    try dsimp only
    repeat' first
      | with_reducible assumption
      | with_reducible apply ite_closed
      | with_reducible apply ih
      | (refine via_of ?_; with_reducible apply ih)
      | (intro _ _ _)
      | with_reducible apply ite_closed
      | with_reducible apply spaceTouch_foot hP k_regs k_out k_router k_maint k_memory
      | with_reducible apply outWrite_foot hP k_regs k_out k_router k_maint k_hbm k_host k_memory
      | with_reducible apply Closed.useFree hP k_freeCount
      | with_reducible apply ite_closed
      | (intro _ _)
      | (intro _)
      | dsimp only
      | split
      | (refine via_of ?_; try dsimp only)

theorem runComp_foot (hP : Closed F P) (k_regs : F .regs = true) (k_out : F .out = true) (k_freeCount : F .freeCount = true) (k_router : F .router = true) (k_maint : F .maint = true) (k_hbm : F .hbm = true) (k_host : F .host = true) (k_memory : F .memory = true) {s : State} {j : Job} {mism : List Nat} {rawFails : Bool} (h_s : P s) : P (runComp s j mism rawFails).1 := by
    change FstP P _
    unfold runComp
    try dsimp only
    repeat' first
      | with_reducible assumption
      | (intro _ _ _)
      | with_reducible apply ite_closed
      | with_reducible apply outWrite_foot hP k_regs k_out k_router k_maint k_hbm k_host k_memory
      | with_reducible apply compN_foot hP k_regs k_out k_freeCount k_router k_maint k_hbm k_host k_memory
      | (with_reducible exact fstP_elim (by assumption))
      | with_reducible apply foldl_fst
      | with_reducible apply ite_closed
      | (intro _ _)
      | (intro _)
      | dsimp only
      | split
      | with_reducible apply fstP_mk
      | (refine via_of ?_; try dsimp only)

theorem putEng_foot (hP : Closed F P) (k_eng : F .eng = true) {s : State} {j : Nat} {e : EngineSt} (h_s : P s) : P (putEng s j e) := by
    unfold putEng
    try dsimp only
    repeat' first
      | with_reducible assumption
      | with_reducible apply ite_closed
      | (intro _ _)
      | (intro _)
      | dsimp only
      | split
      | (with_reducible apply Closed.eng hP k_eng)

theorem jobReports_foot (hP : Closed F P) (k_regs : F .regs = true) (k_out : F .out = true) (k_router : F .router = true) (k_maint : F .maint = true) {s : State} {eng : Fin 8} {r : JobRun} {status : Nat} {code : Nat} {k : Nat} (h_s : P s) : P (jobReports s eng r status code k) := by
    unfold jobReports
    try dsimp only
    repeat' first
      | with_reducible assumption
      | with_reducible apply noteFixes_foot hP k_regs k_out k_router k_maint
      | with_reducible apply State.raise_foot hP k_regs k_out k_router k_maint
      | with_reducible apply ite_closed
      | (intro _ _)
      | (intro _)
      | dsimp only
      | split

theorem endJob_foot (hP : Closed F P) (k_regs : F .regs = true) (k_out : F .out = true) (k_router : F .router = true) (k_ring : F .ring = true) (k_maint : F .maint = true) (k_eng : F .eng = true) {s : State} {eng : Nat} {r : JobRun} {status : Nat} {code : Nat} {k : Nat} (h_s : P s) : P (endJob s eng r status code k) := by
    unfold endJob
    try dsimp only
    repeat' first
      | with_reducible assumption
      | with_reducible apply jobReports_foot hP k_regs k_out k_router k_maint
      | with_reducible apply putEng_foot hP k_eng
      | with_reducible apply perfHit_foot hP k_regs k_out k_router k_maint
      | with_reducible apply finishJob_foot hP k_regs k_ring
      | with_reducible apply Closed.wr hP k_regs
      | with_reducible apply Closed.inc48 hP k_regs
      | with_reducible apply ite_closed
      | (intro _ _)
      | (intro _)
      | dsimp only
      | split

theorem stopJob_foot (hP : Closed F P) (k_regs : F .regs = true) (k_out : F .out = true) (k_freeCount : F .freeCount = true) (k_router : F .router = true) (k_ring : F .ring = true) (k_maint : F .maint = true) (k_hbm : F .hbm = true) (k_host : F .host = true) (k_memory : F .memory = true) (k_eng : F .eng = true) {s : State} {eng : Nat} {r : JobRun} {status : Nat} (h_s : P s) : P (stopJob s eng r status) := by
    unfold stopJob
    try dsimp only
    repeat' first
      | with_reducible assumption
      | with_reducible apply endJob_foot hP k_regs k_out k_router k_ring k_maint k_eng
      | with_reducible apply outWrite_foot hP k_regs k_out k_router k_maint k_hbm k_host k_memory
      | with_reducible apply Closed.useFree hP k_freeCount
      | with_reducible apply ite_closed
      | (intro _ _)
      | (intro _)
      | dsimp only
      | split

theorem startJob_foot (hP : Closed F P) (k_regs : F .regs = true) (k_out : F .out = true) (k_freeCount : F .freeCount = true) (k_router : F .router = true) (k_ring : F .ring = true) (k_maint : F .maint = true) (k_hbm : F .hbm = true) (k_host : F .host = true) (k_memory : F .memory = true) (k_eng : F .eng = true) {s : State} {eng : Fin 8} {j : Job} {mism : List Nat} {rawFails : Bool} (h_s : P s) : P (startJob s eng j mism rawFails) := by
    unfold startJob
    try dsimp only
    repeat' first
      | with_reducible assumption
      | with_reducible apply finishJob_foot hP k_regs k_ring
      | with_reducible apply runComp_foot hP k_regs k_out k_freeCount k_router k_maint k_hbm k_host k_memory
      | (with_reducible apply fstP_of; with_reducible apply runComp_foot hP k_regs k_out k_freeCount k_router k_maint k_hbm k_host k_memory)
      | with_reducible apply runDecomp_foot hP k_regs k_out k_router k_maint k_hbm k_host k_memory
      | (with_reducible apply fstP_of; with_reducible apply runDecomp_foot hP k_regs k_out k_router k_maint k_hbm k_host k_memory)
      | with_reducible apply putEng_foot hP k_eng
      | (with_reducible exact fstP_elim (by assumption))
      | with_reducible apply foldl_fst
      | with_reducible apply Closed.wr hP k_regs
      | with_reducible apply ite_closed
      | (intro _ _)
      | (intro _)
      | dsimp only
      | split
      | with_reducible apply fstP_mk

end Sys2Proof.Machine
end

