-- ==== Sys2Proof/Laws/FootGlint.lean ====
section
/-!
SUPPORT. Footprints of the definitions of Machine/Glint.lean: which parts of the state each of them may update.
-/
namespace Sys2Proof.Machine

variable {F : Part → Bool} {P : State → Prop}

theorem putGlint_foot (hP : Closed F P) (k_perf : F .perf = true) {s : State} {x1 : Nat} {g : GlintSt} (h_s : P s) : P (putGlint s x1 g) := by
    unfold putGlint
    try dsimp only
    repeat' first
      | with_reducible assumption
      | with_reducible apply ite_closed
      | (intro _ _)
      | (intro _)
      | dsimp only
      | split
      | (with_reducible apply Closed.perf hP k_perf)

theorem glintLatch_foot (hP : Closed F P) (k_perf : F .perf = true) {s : State} {x1 : Nat} (h_s : P s) : P (glintLatch s x1) := by
    unfold glintLatch
    try dsimp only
    repeat' first
      | with_reducible assumption
      | with_reducible apply putGlint_foot hP k_perf
      | with_reducible apply ite_closed
      | (intro _ _)
      | (intro _)
      | dsimp only
      | split

theorem glintDraw_foot (hP : Closed F P) (k_regs : F .regs = true) (k_perf : F .perf = true) {s : State} {x1 : Nat} {x : Nat} {y : Nat} {ch : Nat} (h_s : P s) : P (glintDraw s x1 x y ch).1 := by
    change FstP P _
    unfold glintDraw
    try dsimp only
    repeat' first
      | with_reducible assumption
      | (intro _ _ _)
      | with_reducible apply ite_closed
      | with_reducible apply putGlint_foot hP k_perf
      | (with_reducible exact fstP_elim (by assumption))
      | with_reducible apply foldl_fst
      | with_reducible apply Closed.inc hP k_regs
      | with_reducible apply ite_closed
      | (intro _ _)
      | (intro _)
      | dsimp only
      | split
      | with_reducible apply fstP_mk

theorem glintPush_foot (hP : Closed F P) (k_perf : F .perf = true) {s : State} {x1 : Nat} {r : GlintRay} (h_s : P s) : P (glintPush s x1 r) := by
    unfold glintPush
    try dsimp only
    repeat' first
      | with_reducible assumption
      | with_reducible apply putGlint_foot hP k_perf
      | with_reducible apply ite_closed
      | (intro _ _)
      | (intro _)
      | dsimp only
      | split

theorem glintMap_foot (hP : Closed F P) (k_perf : F .perf = true) {s : State} {x1 : Nat} {field : Word} {y : Nat} {f : GlintRay → GlintRay} (h_s : P s) : P (glintMap s x1 field y f) := by
    unfold glintMap
    try dsimp only
    repeat' first
      | with_reducible assumption
      | with_reducible apply putGlint_foot hP k_perf
      | with_reducible apply ite_closed
      | (intro _ _)
      | (intro _)
      | dsimp only
      | split

theorem glintCompose_foot (hP : Closed F P) (k_perf : F .perf = true) {s : State} {x1 : Nat} {field : Word} {y : Nat} {ecl : Bool} {v : List Nat} {o : List Nat} (h_s : P s) : P (glintCompose s x1 field y ecl v o) := by
    unfold glintCompose
    try dsimp only
    repeat' first
      | with_reducible assumption
      | with_reducible apply glintMap_foot hP k_perf
      | with_reducible apply ite_closed
      | (intro _ _)
      | (intro _)
      | dsimp only
      | split

theorem glintSent_foot (hP : Closed F P) (k_perf : F .perf = true) {s : State} {x1 : Nat} {field : Word} {y : Nat} {rep : Bool} {lane : Nat → Nat} (h_s : P s) : P (glintSent s x1 field y rep lane) := by
    unfold glintSent
    try dsimp only
    repeat' first
      | with_reducible assumption
      | with_reducible apply glintMap_foot hP k_perf
      | with_reducible apply ite_closed
      | (intro _ _)
      | (intro _)
      | dsimp only
      | split

theorem glintAbandon_foot (hP : Closed F P) (k_perf : F .perf = true) {s : State} {x1 : Nat} (h_s : P s) : P (glintAbandon s x1) := by
    unfold glintAbandon
    try dsimp only
    repeat' first
      | with_reducible assumption
      | with_reducible apply putGlint_foot hP k_perf
      | with_reducible apply ite_closed
      | (intro _ _)
      | (intro _)
      | dsimp only
      | split

end Sys2Proof.Machine
end

