-- ==== Sys2Proof/Laws/FootRays.lean ====
section
/-!
SUPPORT. Footprints of the definitions of Machine/Rays.lean: which parts of the state each of them may update.
-/
namespace Sys2Proof.Machine

variable {F : Part → Bool} {P : State → Prop}

theorem putHead_foot (hP : Closed F P) (k_heads : F .heads = true) {s : State} {x1 : Nat} {t : HeadSt} (h_s : P s) : P (putHead s x1 t) := by
    unfold putHead
    try dsimp only
    repeat' first
      | with_reducible assumption
      | with_reducible apply ite_closed
      | (intro _ _)
      | (intro _)
      | dsimp only
      | split
      | (with_reducible apply Closed.heads hP k_heads)

theorem putFill_foot (hP : Closed F P) (k_heads : F .heads = true) {s : State} {x1 : Nat} {e : Nat} {v : Nat × Word} (h_s : P s) : P (putFill s x1 e v) := by
    unfold putFill
    try dsimp only
    repeat' first
      | with_reducible assumption
      | with_reducible apply putHead_foot hP k_heads
      | with_reducible apply ite_closed
      | (intro _ _)
      | (intro _)
      | dsimp only
      | split

theorem putData_foot (hP : Closed F P) (k_heads : F .heads = true) {s : State} {x1 : Nat} {e : Nat} {b : List Byte} (h_s : P s) : P (putData s x1 e b) := by
    unfold putData
    try dsimp only
    repeat' first
      | with_reducible assumption
      | with_reducible apply putHead_foot hP k_heads
      | with_reducible apply ite_closed
      | (intro _ _)
      | (intro _)
      | dsimp only
      | split

theorem dirTouch_foot (hP : Closed F P) (k_regs : F .regs = true) {s : State} {x1 : Nat} {line : Nat} {e : Nat} {age : Nat} (h_s : P s) : P (dirTouch s x1 line e age) := by
    unfold dirTouch
    try dsimp only
    repeat' first
      | with_reducible assumption
      | (with_reducible refine foldl_inv P _ (fun _ _ _ => ?_) _ _ ?_)
      | with_reducible apply Closed.setF hP k_regs
      | with_reducible apply ite_closed
      | (intro _ _)
      | (intro _)
      | dsimp only
      | split

theorem dirDrop_foot (hP : Closed F P) (k_regs : F .regs = true) (k_heads : F .heads = true) {s : State} {x1 : Nat} {line : Nat} {e : Nat} (h_s : P s) : P (dirDrop s x1 line e) := by
    unfold dirDrop
    try dsimp only
    repeat' first
      | with_reducible assumption
      | with_reducible apply putData_foot hP k_heads
      | with_reducible apply putFill_foot hP k_heads
      | (with_reducible refine foldl_inv P _ (fun _ _ _ => ?_) _ _ ?_)
      | with_reducible apply Closed.setF hP k_regs
      | with_reducible apply Closed.wr hP k_regs
      | with_reducible apply ite_closed
      | (intro _ _)
      | (intro _)
      | dsimp only
      | split

theorem dirPut_foot (hP : Closed F P) (k_regs : F .regs = true) (k_out : F .out = true) (k_router : F .router = true) (k_maint : F .maint = true) (k_heads : F .heads = true) {s : State} {x1 : Nat} {gen : Nat} {line : Nat} {e : Nat} {num : Word} (h_s : P s) : P (dirPut s x1 gen line e num) := by
    unfold dirPut
    try dsimp only
    repeat' first
      | with_reducible assumption
      | with_reducible apply dirTouch_foot hP k_regs
      | with_reducible apply perfHit_foot hP k_regs k_out k_router k_maint
      | with_reducible apply putData_foot hP k_heads
      | with_reducible apply putFill_foot hP k_heads
      | with_reducible apply Closed.wr hP k_regs
      | with_reducible apply ite_closed
      | (intro _ _)
      | (intro _)
      | dsimp only
      | split

theorem noteFetch_foot (hP : Closed F P) (k_regs : F .regs = true) (k_out : F .out = true) (k_router : F .router = true) (k_maint : F .maint = true) {s : State} {x1 : Fin 4} {told : Bool} {a : Nat} (h_s : P s) : P (noteFetch s x1 told a) := by
    unfold noteFetch
    try dsimp only
    repeat' first
      | with_reducible assumption
      | with_reducible apply State.raise_foot hP k_regs k_out k_router k_maint
      | with_reducible apply Closed.inc hP k_regs
      | with_reducible apply ite_closed
      | (intro _ _)
      | (intro _)
      | dsimp only
      | split

theorem dirInstall_foot (hP : Closed F P) (k_regs : F .regs = true) (k_out : F .out = true) (k_router : F .router = true) (k_maint : F .maint = true) (k_memory : F .memory = true) (k_heads : F .heads = true) {s : State} {x1 : Nat} {line : Nat} {e : Nat} (h_s : P s) : P (dirInstall s x1 line e).1 := by
    change FstP P _
    unfold dirInstall
    try dsimp only
    repeat' first
      | with_reducible assumption
      | (intro _ _ _)
      | with_reducible apply ite_closed
      | with_reducible apply touch_foot hP k_regs k_out k_router k_maint k_memory
      | with_reducible apply dirDrop_foot hP k_regs k_heads
      | with_reducible apply putData_foot hP k_heads
      | (with_reducible exact fstP_elim (by assumption))
      | with_reducible apply foldl_fst
      | with_reducible apply Closed.setB hP k_regs
      | with_reducible apply ite_closed
      | (intro _ _)
      | (intro _)
      | dsimp only
      | split
      | with_reducible apply fstP_mk

theorem dirFill_foot (hP : Closed F P) (k_regs : F .regs = true) (k_out : F .out = true) (k_router : F .router = true) (k_maint : F .maint = true) (k_memory : F .memory = true) (k_heads : F .heads = true) {s : State} {x1 : Fin 4} {x2 : FieldSt} {line : Nat} {e : Nat} (h_s : P s) : P (dirFill s x1 x2 line e).1 := by
    change FstP P _
    unfold dirFill
    try dsimp only
    repeat' first
      | with_reducible assumption
      | (intro _ _ _)
      | with_reducible apply ite_closed
      | with_reducible apply dirInstall_foot hP k_regs k_out k_router k_maint k_memory k_heads
      | (with_reducible apply fstP_of; with_reducible apply dirInstall_foot hP k_regs k_out k_router k_maint k_memory k_heads)
      | with_reducible apply noteFetch_foot hP k_regs k_out k_router k_maint
      | (with_reducible exact fstP_elim (by assumption))
      | with_reducible apply foldl_fst
      | with_reducible apply ite_closed
      | (intro _ _)
      | (intro _)
      | dsimp only
      | split
      | with_reducible apply fstP_mk

theorem makeRoom_foot (hP : Closed F P) (k_regs : F .regs = true) (k_out : F .out = true) (k_router : F .router = true) (k_maint : F .maint = true) (k_memory : F .memory = true) (k_heads : F .heads = true) {s : State} {x1 : Fin 4} {x2 : FieldSt} {line : Nat} (h_s : P s) : P (makeRoom s x1 x2 line).1 := by
    change FstP P _
    unfold makeRoom
    try dsimp only
    repeat' first
      | with_reducible assumption
      | (intro _ _ _)
      | with_reducible apply ite_closed
      | with_reducible apply dirFill_foot hP k_regs k_out k_router k_maint k_memory k_heads
      | (with_reducible apply fstP_of; with_reducible apply dirFill_foot hP k_regs k_out k_router k_maint k_memory k_heads)
      | (with_reducible exact fstP_elim (by assumption))
      | with_reducible apply foldl_fst
      | with_reducible apply ite_closed
      | (intro _ _)
      | (intro _)
      | dsimp only
      | split
      | with_reducible apply fstP_mk

theorem countMiss_foot (hP : Closed F P) (k_regs : F .regs = true) {s : State} {x1 : Nat} (h_s : P s) : P (countMiss s x1) := by
    unfold countMiss
    try dsimp only
    repeat' first
      | with_reducible assumption
      | with_reducible apply Closed.inc48 hP k_regs
      | with_reducible apply ite_closed
      | (intro _ _)
      | (intro _)
      | dsimp only
      | split

theorem countHit_foot (hP : Closed F P) (k_regs : F .regs = true) {s : State} {x1 : Nat} {e : Nat} (h_s : P s) : P (countHit s x1 e) := by
    unfold countHit
    try dsimp only
    repeat' first
      | with_reducible assumption
      | with_reducible apply Closed.setF hP k_regs
      | with_reducible apply ite_closed
      | (intro _ _)
      | (intro _)
      | dsimp only
      | split

theorem cacheLookup_foot (hP : Closed F P) (k_regs : F .regs = true) (k_out : F .out = true) (k_router : F .router = true) (k_maint : F .maint = true) (k_memory : F .memory = true) (k_heads : F .heads = true) {x0 : Fin 4} {gen : Nat} {p : State × FieldSt} {a : Nat} (h_p : P p.1) : P (cacheLookup x0 gen p a).1 := by
    change FstP P _
    unfold cacheLookup
    try dsimp only
    repeat' first
      | with_reducible assumption
      | (intro _ _ _)
      | with_reducible apply ite_closed
      | with_reducible apply countMiss_foot hP k_regs
      | with_reducible apply makeRoom_foot hP k_regs k_out k_router k_maint k_memory k_heads
      | (with_reducible apply fstP_of; with_reducible apply makeRoom_foot hP k_regs k_out k_router k_maint k_memory k_heads)
      | with_reducible apply dirFill_foot hP k_regs k_out k_router k_maint k_memory k_heads
      | (with_reducible apply fstP_of; with_reducible apply dirFill_foot hP k_regs k_out k_router k_maint k_memory k_heads)
      | with_reducible apply dirPut_foot hP k_regs k_out k_router k_maint k_heads
      | with_reducible apply dirTouch_foot hP k_regs
      | with_reducible apply countHit_foot hP k_regs
      | (with_reducible exact fstP_elim (by assumption))
      | with_reducible apply foldl_fst
      | with_reducible apply Closed.inc48 hP k_regs
      | with_reducible apply elim_closed
      | with_reducible apply ite_closed
      | (intro _ _)
      | (intro _)
      | dsimp only
      | split
      | with_reducible apply fstP_mk

theorem cacheIssue_foot (hP : Closed F P) (k_regs : F .regs = true) (k_out : F .out = true) (k_router : F .router = true) (k_maint : F .maint = true) (k_heads : F .heads = true) {x0 : Fin 4} {gen : Nat} {x2 : FieldSt} {p : State × Bool} {a : Nat} (h_p : P p.1) : P (cacheIssue x0 gen x2 p a).1 := by
    change FstP P _
    unfold cacheIssue
    try dsimp only
    repeat' first
      | with_reducible assumption
      | (intro _ _ _)
      | with_reducible apply ite_closed
      | with_reducible apply countMiss_foot hP k_regs
      | with_reducible apply dirPut_foot hP k_regs k_out k_router k_maint k_heads
      | with_reducible apply dirTouch_foot hP k_regs
      | with_reducible apply putFill_foot hP k_heads
      | with_reducible apply countHit_foot hP k_regs
      | (with_reducible exact fstP_elim (by assumption))
      | with_reducible apply foldl_fst
      | with_reducible apply Closed.inc48 hP k_regs
      | with_reducible apply elim_closed
      | with_reducible apply ite_closed
      | (intro _ _)
      | (intro _)
      | dsimp only
      | split
      | with_reducible apply fstP_mk

end Sys2Proof.Machine
end

