-- ==== Sys2Proof/Laws/FootHeadCore.lean ====
section
/-!
SUPPORT. Footprints of the definitions of Machine/HeadCore.lean: which parts of the state each of them may update.
-/
namespace Sys2Proof.Machine

variable {F : Part → Bool} {P : State → Prop}

theorem setHeadState_foot (hP : Closed F P) (k_regs : F .regs = true) {s : State} {x1 : Nat} {st : Nat} (h_s : P s) : P (setHeadState s x1 st) := by
    unfold setHeadState
    try dsimp only
    repeat' first
      | with_reducible assumption
      | with_reducible apply Closed.setF hP k_regs
      | with_reducible apply ite_closed
      | (intro _ _)
      | (intro _)
      | dsimp only
      | split

theorem showPhase_foot (hP : Closed F P) (k_regs : F .regs = true) {s : State} {x1 : Nat} (h_s : P s) : P (showPhase s x1) := by
    unfold showPhase
    try dsimp only
    repeat' first
      | with_reducible assumption
      | with_reducible apply Closed.wr64 hP k_regs
      | with_reducible apply Closed.setB hP k_regs
      | with_reducible apply ite_closed
      | (intro _ _)
      | (intro _)
      | dsimp only
      | split

theorem settleHead_foot (hP : Closed F P) (k_regs : F .regs = true) (k_out : F .out = true) (k_router : F .router = true) (k_maint : F .maint = true) (k_heads : F .heads = true) {s : State} {x1 : Fin 4} (h_s : P s) : P (settleHead s x1) := by
    unfold settleHead
    try dsimp only
    repeat' first
      | with_reducible assumption
      | with_reducible apply showPhase_foot hP k_regs
      | with_reducible apply putHead_foot hP k_heads
      | with_reducible apply State.raise_foot hP k_regs k_out k_router k_maint
      | with_reducible apply ite_closed
      | (intro _ _)
      | (intro _)
      | dsimp only
      | split

theorem settleGroup_foot (hP : Closed F P) (k_regs : F .regs = true) (k_out : F .out = true) (k_router : F .router = true) (k_maint : F .maint = true) (k_heads : F .heads = true) {s : State} {g : Nat} (h_s : P s) : P (settleGroup s g) := by
    unfold settleGroup
    try dsimp only
    repeat' first
      | with_reducible assumption
      | with_reducible apply settleHead_foot hP k_regs k_out k_router k_maint k_heads
      | (with_reducible refine foldl_inv P _ (fun _ _ _ => ?_) _ _ ?_)
      | with_reducible apply ite_closed
      | (intro _ _)
      | (intro _)
      | dsimp only
      | split

end Sys2Proof.Machine
end

