-- ==== Sys2Proof/Laws/FootKeeper.lean ====
section
/-!
SUPPORT. Footprints of the definitions of Machine/Keeper.lean: which parts of the state each of them may update.
-/
namespace Sys2Proof.Machine

variable {F : Part → Bool} {P : State → Prop}

theorem setKState_foot (hP : Closed F P) (k_regs : F .regs = true) {s : State} {v : Nat} (h_s : P s) : P (setKState s v) := by
    unfold setKState
    try dsimp only
    repeat' first
      | with_reducible assumption
      | with_reducible apply Closed.setF hP k_regs
      | with_reducible apply ite_closed
      | (intro _ _)
      | (intro _)
      | dsimp only
      | split

theorem setReq_foot (hP : Closed F P) (k_regs : F .regs = true) {s : State} {v : Bool} (h_s : P s) : P (setReq s v) := by
    unfold setReq
    try dsimp only
    repeat' first
      | with_reducible assumption
      | with_reducible apply Closed.setB hP k_regs
      | with_reducible apply ite_closed
      | (intro _ _)
      | (intro _)
      | dsimp only
      | split

theorem dropReq_foot (hP : Closed F P) (k_regs : F .regs = true) (k_keeper : F .keeper = true) {s : State} (h_s : P s) : P (dropReq s) := by
    unfold dropReq
    try dsimp only
    repeat' first
      | with_reducible assumption
      | with_reducible apply setReq_foot hP k_regs
      | with_reducible apply ite_closed
      | (intro _ _)
      | (intro _)
      | dsimp only
      | split
      | (with_reducible apply Closed.keeper hP k_keeper)

theorem railSummary_foot (hP : Closed F P) (k_regs : F .regs = true) {s : State} (h_s : P s) : P (railSummary s) := by
    unfold railSummary
    try dsimp only
    repeat' first
      | with_reducible assumption
      | (with_reducible refine foldl_inv P _ (fun _ _ _ => ?_) _ _ ?_)
      | with_reducible apply Closed.wr hP k_regs
      | with_reducible apply ite_closed
      | (intro _ _)
      | (intro _)
      | dsimp only
      | split

theorem setRail_foot (hP : Closed F P) (k_regs : F .regs = true) {s : State} {r : Nat} {st : Nat} (h_s : P s) : P (setRail s r st) := by
    unfold setRail
    try dsimp only
    repeat' first
      | with_reducible assumption
      | with_reducible apply railSummary_foot hP k_regs
      | with_reducible apply Closed.setF hP k_regs
      | with_reducible apply Closed.setB hP k_regs
      | with_reducible apply ite_closed
      | (intro _ _)
      | (intro _)
      | dsimp only
      | split

theorem setRails_foot (hP : Closed F P) (k_regs : F .regs = true) {s : State} {l : List Nat} {st : Nat} (h_s : P s) : P (setRails s l st) := by
    unfold setRails
    try dsimp only
    repeat' first
      | with_reducible assumption
      | with_reducible apply setRail_foot hP k_regs
      | (with_reducible refine foldl_inv P _ (fun _ _ _ => ?_) _ _ ?_)
      | with_reducible apply ite_closed
      | (intro _ _)
      | (intro _)
      | dsimp only
      | split

theorem loadRecord_foot (hP : Closed F P) (k_regs : F .regs = true) {s : State} (h_s : P s) : P (loadRecord s) := by
    unfold loadRecord
    try dsimp only
    repeat' first
      | with_reducible assumption
      | (with_reducible refine foldl_inv P _ (fun _ _ _ => ?_) _ _ ?_)
      | with_reducible apply Closed.setB hP k_regs
      | with_reducible apply Closed.wrAll hP k_regs
      | with_reducible apply Closed.wr hP k_regs
      | with_reducible apply ite_closed
      | (intro _ _)
      | (intro _)
      | dsimp only
      | split

theorem resetGeom_foot (hP : Closed F P) (k_regs : F .regs = true) {s : State} (h_s : P s) : P (resetGeom s) := by
    unfold resetGeom
    try dsimp only
    repeat' first
      | with_reducible assumption
      | with_reducible apply Closed.wr hP k_regs
      | with_reducible apply ite_closed
      | (intro _ _)
      | (intro _)
      | dsimp only
      | split

theorem setJournal_foot (hP : Closed F P) (k_regs : F .regs = true) {s : State} {v : Nat} (h_s : P s) : P (setJournal s v) := by
    unfold setJournal
    try dsimp only
    repeat' first
      | with_reducible assumption
      | with_reducible apply Closed.setF hP k_regs
      | with_reducible apply ite_closed
      | (intro _ _)
      | (intro _)
      | dsimp only
      | split

theorem copyProfile_foot (hP : Closed F P) (k_regs : F .regs = true) (k_keeper : F .keeper = true) {s : State} (h_s : P s) : P (copyProfile s) := by
    unfold copyProfile
    try dsimp only
    repeat' first
      | with_reducible assumption
      | with_reducible apply setJournal_foot hP k_regs
      | with_reducible apply loadRecord_foot hP k_regs
      | with_reducible apply ite_closed
      | (intro _ _)
      | (intro _)
      | dsimp only
      | split
      | (with_reducible apply Closed.keeper hP k_keeper)

theorem journalCopy_foot (hP : Closed F P) (k_regs : F .regs = true) (k_keeper : F .keeper = true) {s : State} (h_s : P s) : P (journalCopy s) := by
    unfold journalCopy
    try dsimp only
    repeat' first
      | with_reducible assumption
      | with_reducible apply copyProfile_foot hP k_regs k_keeper
      | with_reducible apply ite_closed
      | (intro _ _)
      | (intro _)
      | dsimp only
      | split

theorem gateEdgesStop_foot (hP : Closed F P) (k_keeper : F .keeper = true) {s : State} {x1 : Nat} (h_s : P s) : P (gateEdgesStop s x1) := by
    unfold gateEdgesStop
    try dsimp only
    repeat' first
      | with_reducible assumption
      | with_reducible apply ite_closed
      | (intro _ _)
      | (intro _)
      | dsimp only
      | split
      | (with_reducible apply Closed.keeper hP k_keeper)

theorem railGate_foot (hP : Closed F P) (k_regs : F .regs = true) (k_out : F .out = true) (k_router : F .router = true) (k_maint : F .maint = true) {s : State} {req : Requester} {page : Nat} {a : Nat} {g : State → State} (h_s : P s) (h_g : ∀ y0, P y0 → P (g y0)) : P (railGate s req page a g) := by
    unfold railGate
    try dsimp only
    repeat' first
      | with_reducible assumption
      | with_reducible apply gatedIf_foot hP k_regs k_out k_router k_maint
      | with_reducible apply h_g
      | with_reducible apply ite_closed
      | (intro _ _)
      | (intro _)
      | dsimp only
      | split

end Sys2Proof.Machine
end

