-- ==== Sys2Proof/Laws/FootLane.lean ====
section
/-!
SUPPORT. Footprints of the definitions of Machine/Lane.lean: which parts of the state each of them may update.
-/
namespace Sys2Proof.Machine

variable {F : Part → Bool} {P : State → Prop}

theorem putLink_foot (hP : Closed F P) (k_links : F .links = true) {s : State} {x1 : Nat} {l : LinkSt} (h_s : P s) : P (putLink s x1 l) := by
    unfold putLink
    try dsimp only
    repeat' first
      | with_reducible assumption
      | with_reducible apply ite_closed
      | (intro _ _)
      | (intro _)
      | dsimp only
      | split
      | (with_reducible apply Closed.links hP k_links)

theorem putLane_foot (hP : Closed F P) (k_links : F .links = true) {s : State} {x1 : Nat} {n : Nat} {x : LaneSt} (h_s : P s) : P (putLane s x1 n x) := by
    unfold putLane
    try dsimp only
    repeat' first
      | with_reducible assumption
      | with_reducible apply putLink_foot hP k_links
      | with_reducible apply ite_closed
      | (intro _ _)
      | (intro _)
      | dsimp only
      | split

theorem showLanes_foot (hP : Closed F P) (k_regs : F .regs = true) {s : State} {x1 : Nat} (h_s : P s) : P (showLanes s x1) := by
    unfold showLanes
    try dsimp only
    repeat' first
      | with_reducible assumption
      | (with_reducible refine foldl_inv P _ (fun _ _ _ => ?_) _ _ ?_)
      | with_reducible apply Closed.setF hP k_regs
      | with_reducible apply Closed.setB hP k_regs
      | with_reducible apply ite_closed
      | (intro _ _)
      | (intro _)
      | dsimp only
      | split

theorem swapLanes_foot (hP : Closed F P) (k_regs : F .regs = true) (k_links : F .links = true) {s : State} {x1 : Nat} {pin : Nat → Nat} (h_s : P s) : P (swapLanes s x1 pin) := by
    unfold swapLanes
    try dsimp only
    repeat' first
      | with_reducible assumption
      | with_reducible apply putLane_foot hP k_links
      | (with_reducible refine foldl_inv P _ (fun _ _ _ => ?_) _ _ ?_)
      | with_reducible apply Closed.wr hP k_regs
      | with_reducible apply Closed.setF hP k_regs
      | with_reducible apply ite_closed
      | (intro _ _)
      | (intro _)
      | dsimp only
      | split

theorem clearOrientation_foot (hP : Closed F P) (k_regs : F .regs = true) (k_links : F .links = true) {s : State} {x1 : Nat} (h_s : P s) : P (clearOrientation s x1) := by
    unfold clearOrientation
    try dsimp only
    repeat' first
      | with_reducible assumption
      | with_reducible apply swapLanes_foot hP k_regs k_links
      | with_reducible apply Closed.setF hP k_regs
      | with_reducible apply ite_closed
      | (intro _ _)
      | (intro _)
      | dsimp only
      | split

theorem laneStream_foot (hP : Closed F P) (k_out : F .out = true) {s : State} {x1 : Nat} {n : Nat} {rate : Nat} {b : Option Block} (h_s : P s) : P (laneStream s x1 n rate b) := by
    unfold laneStream
    try dsimp only
    repeat' first
      | with_reducible assumption
      | with_reducible apply Closed.emit hP k_out
      | with_reducible apply ite_closed
      | (intro _ _)
      | (intro _)
      | dsimp only
      | split

theorem laneSends_foot (hP : Closed F P) (k_out : F .out = true) (k_links : F .links = true) {s : State} {x1 : Nat} {n : Nat} {st : Nat} (h_s : P s) : P (laneSends s x1 n st) := by
    unfold laneSends
    try dsimp only
    repeat' first
      | with_reducible assumption
      | with_reducible apply putLane_foot hP k_links
      | with_reducible apply laneStream_foot hP k_out
      | with_reducible apply ite_closed
      | (intro _ _)
      | (intro _)
      | dsimp only
      | split

theorem showRate_foot (hP : Closed F P) (k_regs : F .regs = true) {s : State} {x1 : Nat} (h_s : P s) : P (showRate s x1) := by
    unfold showRate
    try dsimp only
    repeat' first
      | with_reducible assumption
      | with_reducible apply Closed.setB hP k_regs
      | with_reducible apply Closed.wr hP k_regs
      | with_reducible apply ite_closed
      | (intro _ _)
      | (intro _)
      | dsimp only
      | split

theorem enterLane_foot (hP : Closed F P) (k_regs : F .regs = true) (k_out : F .out = true) (k_links : F .links = true) {s : State} {x1 : Nat} {n : Nat} {st : Nat} (h_s : P s) : P (enterLane s x1 n st) := by
    unfold enterLane
    try dsimp only
    repeat' first
      | with_reducible assumption
      | with_reducible apply laneSends_foot hP k_out k_links
      | with_reducible apply putLink_foot hP k_links
      | with_reducible apply showRate_foot hP k_regs
      | with_reducible apply putLane_foot hP k_links
      | with_reducible apply Closed.setF hP k_regs
      | with_reducible apply Closed.setB hP k_regs
      | with_reducible apply ite_closed
      | (intro _ _)
      | (intro _)
      | dsimp only
      | split

theorem lanesWake_foot (hP : Closed F P) (k_regs : F .regs = true) (k_out : F .out = true) (k_links : F .links = true) {s : State} {x1 : Fin 4} (h_s : P s) : P (lanesWake s x1) := by
    unfold lanesWake
    try dsimp only
    repeat' first
      | with_reducible assumption
      | with_reducible apply enterLane_foot hP k_regs k_out k_links
      | (with_reducible refine foldl_inv P _ (fun _ _ _ => ?_) _ _ ?_)
      | with_reducible apply ite_closed
      | (intro _ _)
      | (intro _)
      | dsimp only
      | split

theorem laneOff_foot (hP : Closed F P) (k_regs : F .regs = true) (k_out : F .out = true) (k_links : F .links = true) {s : State} {x1 : Nat} {n : Nat} (h_s : P s) : P (laneOff s x1 n) := by
    unfold laneOff
    try dsimp only
    repeat' first
      | with_reducible assumption
      | with_reducible apply putLane_foot hP k_links
      | with_reducible apply enterLane_foot hP k_regs k_out k_links
      | with_reducible apply Closed.setB hP k_regs
      | with_reducible apply Closed.setF hP k_regs
      | with_reducible apply ite_closed
      | (intro _ _)
      | (intro _)
      | dsimp only
      | split

theorem resumeLanes_foot (hP : Closed F P) (k_out : F .out = true) (k_links : F .links = true) {s : State} {x1 : Nat} (h_s : P s) : P (resumeLanes s x1) := by
    unfold resumeLanes
    try dsimp only
    repeat' first
      | with_reducible assumption
      | with_reducible apply putLane_foot hP k_links
      | with_reducible apply laneStream_foot hP k_out
      | (with_reducible refine foldl_inv P _ (fun _ _ _ => ?_) _ _ ?_)
      | with_reducible apply ite_closed
      | (intro _ _)
      | (intro _)
      | dsimp only
      | split

theorem linkEnable_foot (hP : Closed F P) (k_regs : F .regs = true) (k_out : F .out = true) (k_links : F .links = true) {s : State} {x1 : Fin 4} (h_s : P s) : P (linkEnable s x1) := by
    unfold linkEnable
    try dsimp only
    repeat' first
      | with_reducible assumption
      | with_reducible apply putLink_foot hP k_links
      | with_reducible apply showLanes_foot hP k_regs
      | with_reducible apply lanesWake_foot hP k_regs k_out k_links
      | with_reducible apply resumeLanes_foot hP k_out k_links
      | with_reducible apply Closed.setF hP k_regs
      | with_reducible apply ite_closed
      | (intro _ _)
      | (intro _)
      | dsimp only
      | split

theorem laneStand_foot (hP : Closed F P) (k_regs : F .regs = true) (k_out : F .out = true) (k_links : F .links = true) {x0 : Nat} {s : State} {n : Nat} (h_s : P s) : P (laneStand x0 s n) := by
    unfold laneStand
    try dsimp only
    repeat' first
      | with_reducible assumption
      | with_reducible apply putLane_foot hP k_links
      | with_reducible apply enterLane_foot hP k_regs k_out k_links
      | with_reducible apply laneOff_foot hP k_regs k_out k_links
      | with_reducible apply Closed.setB hP k_regs
      | with_reducible apply ite_closed
      | (intro _ _)
      | (intro _)
      | dsimp only
      | split

theorem linkStop_foot (hP : Closed F P) (k_regs : F .regs = true) (k_out : F .out = true) (k_links : F .links = true) {s : State} {x1 : Fin 4} (h_s : P s) : P (linkStop s x1) := by
    unfold linkStop
    try dsimp only
    repeat' first
      | with_reducible assumption
      | with_reducible apply putLink_foot hP k_links
      | with_reducible apply laneStand_foot hP k_regs k_out k_links
      | with_reducible apply clearOrientation_foot hP k_regs k_links
      | with_reducible apply showLanes_foot hP k_regs
      | (with_reducible refine foldl_inv P _ (fun _ _ _ => ?_) _ _ ?_)
      | with_reducible apply ite_closed
      | (intro _ _)
      | (intro _)
      | dsimp only
      | split

theorem keepLink_foot (hP : Closed F P) (k_regs : F .regs = true) (k_out : F .out = true) (k_links : F .links = true) {s : State} {x1 : Fin 4} (h_s : P s) : P (keepLink s x1) := by
    unfold keepLink
    try dsimp only
    repeat' first
      | with_reducible assumption
      | with_reducible apply showLanes_foot hP k_regs
      | with_reducible apply lanesWake_foot hP k_regs k_out k_links
      | with_reducible apply resumeLanes_foot hP k_out k_links
      | with_reducible apply linkStop_foot hP k_regs k_out k_links
      | with_reducible apply ite_closed
      | (intro _ _)
      | (intro _)
      | dsimp only
      | split

end Sys2Proof.Machine
end

