-- ==== Sys2Proof/Laws/FootWriteback.lean ====
section
/-!
SUPPORT. Footprints of the definitions of Machine/Writeback.lean: which parts of the state each of them may update.
-/
namespace Sys2Proof.Machine

variable {F : Part → Bool} {P : State → Prop}

theorem putWb_foot (hP : Closed F P) (k_heads : F .heads = true) {s : State} {x1 : Nat} {w : WbSt} (h_s : P s) : P (putWb s x1 w) := by
    unfold putWb
    try dsimp only
    repeat' first
      | with_reducible assumption
      | with_reducible apply putHead_foot hP k_heads
      | with_reducible apply ite_closed
      | (intro _ _)
      | (intro _)
      | dsimp only
      | split

theorem showWb_foot (hP : Closed F P) (k_regs : F .regs = true) {s : State} {x1 : Nat} (h_s : P s) : P (showWb s x1) := by
    unfold showWb
    try dsimp only
    repeat' first
      | with_reducible assumption
      | with_reducible apply Closed.setF hP k_regs
      | with_reducible apply Closed.setB hP k_regs
      | with_reducible apply ite_closed
      | (intro _ _)
      | (intro _)
      | dsimp only
      | split

theorem wbField_foot (hP : Closed F P) (k_regs : F .regs = true) (k_out : F .out = true) (k_router : F .router = true) (k_maint : F .maint = true) (k_heads : F .heads = true) {s : State} {x1 : Fin 4} {x2 : FieldSt} (h_s : P s) : P (wbField s x1 x2).1 := by
    change FstP P _
    unfold wbField
    try dsimp only
    repeat' first
      | with_reducible assumption
      | (intro _ _ _)
      | with_reducible apply ite_closed
      | with_reducible apply putWb_foot hP k_heads
      | with_reducible apply State.raise_foot hP k_regs k_out k_router k_maint
      | (with_reducible exact fstP_elim (by assumption))
      | with_reducible apply foldl_fst
      | with_reducible apply Closed.setF hP k_regs
      | with_reducible apply Closed.inc hP k_regs
      | with_reducible apply ite_closed
      | (intro _ _)
      | (intro _)
      | dsimp only
      | split
      | with_reducible apply fstP_mk

theorem wbLatch_foot (hP : Closed F P) (k_regs : F .regs = true) (k_out : F .out = true) (k_router : F .router = true) (k_maint : F .maint = true) (k_heads : F .heads = true) {s : State} {x1 : Fin 4} {x2 : FieldSt} (h_s : P s) : P (wbLatch s x1 x2).1 := by
    change FstP P _
    unfold wbLatch
    try dsimp only
    repeat' first
      | with_reducible assumption
      | (intro _ _ _)
      | with_reducible apply ite_closed
      | with_reducible apply putWb_foot hP k_heads
      | with_reducible apply putHead_foot hP k_heads
      | with_reducible apply wbField_foot hP k_regs k_out k_router k_maint k_heads
      | (with_reducible apply fstP_of; with_reducible apply wbField_foot hP k_regs k_out k_router k_maint k_heads)
      | with_reducible apply showWb_foot hP k_regs
      | (with_reducible exact fstP_elim (by assumption))
      | with_reducible apply foldl_fst
      | with_reducible apply ite_closed
      | (intro _ _)
      | (intro _)
      | dsimp only
      | split
      | with_reducible apply fstP_mk

theorem wbCapture_foot (hP : Closed F P) (k_heads : F .heads = true) {s : State} {x1 : Nat} {num : Word} {l : WbLine} (h_s : P s) : P (wbCapture s x1 num l) := by
    unfold wbCapture
    try dsimp only
    repeat' first
      | with_reducible assumption
      | with_reducible apply putWb_foot hP k_heads
      | with_reducible apply ite_closed
      | (intro _ _)
      | (intro _)
      | dsimp only
      | split

theorem wbStamp_foot (hP : Closed F P) (k_heads : F .heads = true) {s : State} {x1 : Nat} {num : Word} (h_s : P s) : P (wbStamp s x1 num) := by
    unfold wbStamp
    try dsimp only
    repeat' first
      | with_reducible assumption
      | with_reducible apply putWb_foot hP k_heads
      | with_reducible apply ite_closed
      | (intro _ _)
      | (intro _)
      | dsimp only
      | split

theorem wbAbandon_foot (hP : Closed F P) (k_heads : F .heads = true) {s : State} {x1 : Nat} (h_s : P s) : P (wbAbandon s x1) := by
    unfold wbAbandon
    try dsimp only
    repeat' first
      | with_reducible assumption
      | with_reducible apply putWb_foot hP k_heads
      | with_reducible apply ite_closed
      | (intro _ _)
      | (intro _)
      | dsimp only
      | split

theorem wbAbort_foot (hP : Closed F P) (k_regs : F .regs = true) (k_heads : F .heads = true) {s : State} {x1 : Nat} (h_s : P s) : P (wbAbort s x1) := by
    unfold wbAbort
    try dsimp only
    repeat' first
      | with_reducible assumption
      | with_reducible apply wbAbandon_foot hP k_heads
      | with_reducible apply showWb_foot hP k_regs
      | with_reducible apply putWb_foot hP k_heads
      | with_reducible apply ite_closed
      | (intro _ _)
      | (intro _)
      | dsimp only
      | split

theorem wbStore_foot (hP : Closed F P) (k_regs : F .regs = true) (k_out : F .out = true) (k_router : F .router = true) (k_maint : F .maint = true) (k_hbm : F .hbm = true) (k_memory : F .memory = true) {s : State} {l : List (Nat × List Byte)} (h_s : P s) : P (wbStore s l) := by
    unfold wbStore
    try dsimp only
    repeat' first
      | with_reducible assumption
      | with_reducible apply hbmWrite_foot hP k_regs k_out k_router k_maint k_hbm k_memory
      | (with_reducible refine foldl_inv P _ (fun _ _ _ => ?_) _ _ ?_)
      | with_reducible apply ite_closed
      | (intro _ _)
      | (intro _)
      | dsimp only
      | split

theorem wbRegion_foot (hP : Closed F P) (k_regs : F .regs = true) (k_out : F .out = true) (k_freeCount : F .freeCount = true) (k_router : F .router = true) (k_maint : F .maint = true) (k_hbm : F .hbm = true) (k_memory : F .memory = true) {s : State} {x1 : Fin 4} {w : WbField} {accepted : Bool} {mism : List Nat} (h_s : P s) : P (wbRegion s x1 w accepted mism).1 := by
    unfold wbRegion
    extract_lets
    split
    · refine foldl_inv P _ (fun _ _ hs => ?_) _ _ (wbStore_foot hP k_regs k_out k_router k_maint k_hbm k_memory h_s)
      exact State.raise_foot hP k_regs k_out k_router k_maint (hP.inc k_regs _ hs)
    · split
      · exact hP.useFree k_freeCount (ite_closed (State.raise_foot hP k_regs k_out k_router k_maint h_s) h_s)
      · exact hP.useFree k_freeCount (wbStore_foot hP k_regs k_out k_router k_maint k_hbm k_memory (hP.useFree k_freeCount h_s))

theorem wbFieldEnd_foot (hP : Closed F P) (k_regs : F .regs = true) (k_out : F .out = true) (k_freeCount : F .freeCount = true) (k_router : F .router = true) (k_ring : F .ring = true) (k_maint : F .maint = true) (k_hbm : F .hbm = true) (k_host : F .host = true) (k_memory : F .memory = true) (k_heads : F .heads = true) {s : State} {x1 : Fin 4} {w : WbField} (h_s : P s) : P (wbFieldEnd s x1 w) := by
    unfold wbFieldEnd
    try dsimp only
    repeat' first
      | with_reducible assumption
      | (with_reducible refine optP_of (by assumption) ?_)
      | with_reducible exact optP_none
      | with_reducible apply optP_getD
      | with_reducible apply optP_some
      | with_reducible apply hbmWrite_foot hP k_regs k_out k_router k_maint k_hbm k_memory
      | with_reducible apply ringPush_foot hP k_regs k_out k_router k_maint k_hbm k_host k_memory
      | with_reducible apply ringUnstall_foot hP k_regs k_ring
      | with_reducible apply putWb_foot hP k_heads
      | with_reducible apply Closed.useFree hP k_freeCount
      | with_reducible apply Closed.inc hP k_regs
      | with_reducible apply Closed.wr hP k_regs
      | with_reducible apply ite_closed
      | (intro _ _)
      | (intro _)
      | dsimp only
      | split

theorem wbComplete_foot (hP : Closed F P) (k_regs : F .regs = true) (k_out : F .out = true) (k_freeCount : F .freeCount = true) (k_router : F .router = true) (k_ring : F .ring = true) (k_maint : F .maint = true) (k_hbm : F .hbm = true) (k_host : F .host = true) (k_memory : F .memory = true) (k_heads : F .heads = true) {s : State} {x1 : Fin 4} {accepted : Bool} {mism : List Nat} (h_s : P s) : P (wbComplete s x1 accepted mism) := by
    unfold wbComplete
    try dsimp only
    repeat' first
      | with_reducible assumption
      | (with_reducible refine optP_of (by assumption) ?_)
      | with_reducible exact optP_none
      | with_reducible apply optP_getD
      | with_reducible apply optP_some
      | with_reducible apply ringStall_foot hP k_regs k_ring
      | with_reducible apply wbRegion_foot hP k_regs k_out k_freeCount k_router k_maint k_hbm k_memory
      | (with_reducible apply fstP_of; with_reducible apply wbRegion_foot hP k_regs k_out k_freeCount k_router k_maint k_hbm k_memory)
      | with_reducible apply ringPush_foot hP k_regs k_out k_router k_maint k_hbm k_host k_memory
      | with_reducible apply putWb_foot hP k_heads
      | with_reducible apply ringUnstall_foot hP k_regs k_ring
      | with_reducible apply wbFieldEnd_foot hP k_regs k_out k_freeCount k_router k_ring k_maint k_hbm k_host k_memory k_heads
      | (with_reducible exact fstP_elim (by assumption))
      | with_reducible apply foldl_fst
      | with_reducible apply ite_closed
      | (intro _ _)
      | (intro _)
      | dsimp only
      | split
      | with_reducible apply fstP_mk

theorem execWritebackRegionComplete_foot (hP : Closed F P) (k_regs : F .regs = true) (k_out : F .out = true) (k_freeCount : F .freeCount = true) (k_router : F .router = true) (k_ring : F .ring = true) (k_maint : F .maint = true) (k_hbm : F .hbm = true) (k_host : F .host = true) (k_memory : F .memory = true) (k_heads : F .heads = true) {x0 : Fin 4} {accepted : Bool} {mismatches : List Nat} {s : State} (h_s : P s) : OutP P (execWritebackRegionComplete x0 accepted mismatches s) := by
    unfold execWritebackRegionComplete
    try dsimp only
    repeat' first
      | with_reducible assumption
      | with_reducible apply outP_next
      | with_reducible apply outP_done
      | with_reducible apply wbComplete_foot hP k_regs k_out k_freeCount k_router k_ring k_maint k_hbm k_host k_memory k_heads
      | with_reducible apply ite_closed
      | (intro _ _)
      | (intro _)
      | dsimp only
      | split

end Sys2Proof.Machine
end

