-- ==== Sys2Proof/Laws/FootLink.lean ====
section
/-!
SUPPORT. Footprints of the definitions of Machine/Link.lean: which parts of the state each of them may update.
-/
namespace Sys2Proof.Machine

variable {F : Part → Bool} {P : State → Prop}

theorem leaveActive_foot (hP : Closed F P) (k_regs : F .regs = true) (k_heads : F .heads = true) (k_perf : F .perf = true) {s : State} {x1 : Fin 4} (h_s : P s) : P (leaveActive s x1) := by
    unfold leaveActive
    try dsimp only
    repeat' first
      | with_reducible assumption
      | with_reducible apply glintAbandon_foot hP k_perf
      | with_reducible apply wbAbandon_foot hP k_heads
      | with_reducible apply putHead_foot hP k_heads
      | with_reducible apply Closed.setB hP k_regs
      | with_reducible apply ite_closed
      | (intro _ _)
      | (intro _)
      | dsimp only
      | split

theorem headFollows_foot (hP : Closed F P) (k_regs : F .regs = true) (k_out : F .out = true) (k_power : F .power = true) (k_router : F .router = true) (k_maint : F .maint = true) (k_heads : F .heads = true) (k_perf : F .perf = true) {s : State} {x1 : Fin 4} (h_s : P s) : P (headFollows s x1) := by
    unfold headFollows
    try dsimp only
    repeat' first
      | with_reducible assumption
      | with_reducible apply setHeadState_foot hP k_regs
      | with_reducible apply State.raise_foot hP k_regs k_out k_router k_maint
      | with_reducible apply leaveActive_foot hP k_regs k_heads k_perf
      | with_reducible apply State.tell_foot hP k_power
      | with_reducible apply Closed.wr hP k_regs
      | with_reducible apply ite_closed
      | (intro _ _)
      | (intro _)
      | dsimp only
      | split

theorem watchGap_foot (hP : Closed F P) (k_links : F .links = true) {s : State} {x1 : Nat} (h_s : P s) : P (watchGap s x1) := by
    unfold watchGap
    try dsimp only
    repeat' first
      | with_reducible assumption
      | with_reducible apply putLink_foot hP k_links
      | with_reducible apply ite_closed
      | (intro _ _)
      | (intro _)
      | dsimp only
      | split

theorem lanesMoved_foot (hP : Closed F P) (k_regs : F .regs = true) (k_out : F .out = true) (k_power : F .power = true) (k_router : F .router = true) (k_maint : F .maint = true) (k_heads : F .heads = true) (k_links : F .links = true) (k_perf : F .perf = true) {s : State} {x1 : Fin 4} (h_s : P s) : P (lanesMoved s x1) := by
    unfold lanesMoved
    try dsimp only
    repeat' first
      | with_reducible assumption
      | with_reducible apply watchGap_foot hP k_links
      | with_reducible apply headFollows_foot hP k_regs k_out k_power k_router k_maint k_heads k_perf
      | with_reducible apply showLanes_foot hP k_regs
      | with_reducible apply ite_closed
      | (intro _ _)
      | (intro _)
      | dsimp only
      | split

theorem spareGone_foot (hP : Closed F P) (k_regs : F .regs = true) (k_out : F .out = true) (k_router : F .router = true) (k_maint : F .maint = true) {s : State} {x1 : Fin 4} (h_s : P s) : P (spareGone s x1) := by
    unfold spareGone
    try dsimp only
    repeat' first
      | with_reducible assumption
      | with_reducible apply State.raise_foot hP k_regs k_out k_router k_maint
      | with_reducible apply ite_closed
      | (intro _ _)
      | (intro _)
      | dsimp only
      | split

theorem laneDark_foot (hP : Closed F P) (k_regs : F .regs = true) (k_out : F .out = true) (k_router : F .router = true) (k_maint : F .maint = true) (k_links : F .links = true) {s : State} {x1 : Fin 4} {n : Nat} {first : Bool} (h_s : P s) : P (laneDark s x1 n first) := by
    unfold laneDark
    try dsimp only
    repeat' first
      | with_reducible assumption
      | with_reducible apply enterLane_foot hP k_regs k_out k_links
      | with_reducible apply State.raise_foot hP k_regs k_out k_router k_maint
      | with_reducible apply spareGone_foot hP k_regs k_out k_router k_maint
      | with_reducible apply ite_closed
      | (intro _ _)
      | (intro _)
      | dsimp only
      | split

theorem roundFail_foot (hP : Closed F P) (k_regs : F .regs = true) (k_out : F .out = true) (k_power : F .power = true) (k_router : F .router = true) (k_maint : F .maint = true) (k_heads : F .heads = true) (k_links : F .links = true) (k_perf : F .perf = true) {s : State} {x1 : Fin 4} {n : Nat} {reason : Nat} (h_s : P s) : P (roundFail s x1 n reason) := by
    unfold roundFail
    try dsimp only
    repeat' first
      | with_reducible assumption
      | with_reducible apply State.raise_foot hP k_regs k_out k_router k_maint
      | with_reducible apply laneDark_foot hP k_regs k_out k_router k_maint k_links
      | with_reducible apply enterLane_foot hP k_regs k_out k_links
      | with_reducible apply lanesMoved_foot hP k_regs k_out k_power k_router k_maint k_heads k_links k_perf
      | with_reducible apply Closed.setF hP k_regs
      | with_reducible apply ite_closed
      | (intro _ _)
      | (intro _)
      | dsimp only
      | split

theorem laneFails_foot (hP : Closed F P) (k_regs : F .regs = true) (k_out : F .out = true) (k_power : F .power = true) (k_router : F .router = true) (k_maint : F .maint = true) (k_heads : F .heads = true) (k_links : F .links = true) (k_perf : F .perf = true) {s : State} {x1 : Fin 4} {n : Nat} {reason : Nat} {st : Nat} (h_s : P s) : P (laneFails s x1 n reason st) := by
    unfold laneFails
    try dsimp only
    repeat' first
      | with_reducible assumption
      | with_reducible apply enterLane_foot hP k_regs k_out k_links
      | with_reducible apply putLink_foot hP k_links
      | with_reducible apply lanesMoved_foot hP k_regs k_out k_power k_router k_maint k_heads k_links k_perf
      | with_reducible apply Closed.setF hP k_regs
      | with_reducible apply ite_closed
      | (intro _ _)
      | (intro _)
      | dsimp only
      | split

theorem laneFail_foot (hP : Closed F P) (k_regs : F .regs = true) (k_out : F .out = true) (k_power : F .power = true) (k_router : F .router = true) (k_maint : F .maint = true) (k_heads : F .heads = true) (k_links : F .links = true) (k_perf : F .perf = true) {s : State} {x1 : Fin 4} {n : Nat} {reason : Nat} {st : Nat} (h_s : P s) : P (laneFail s x1 n reason st) := by
    unfold laneFail
    try dsimp only
    repeat' first
      | with_reducible assumption
      | with_reducible apply clearOrientation_foot hP k_regs k_links
      | with_reducible apply laneFails_foot hP k_regs k_out k_power k_router k_maint k_heads k_links k_perf
      | with_reducible apply ite_closed
      | (intro _ _)
      | (intro _)
      | dsimp only
      | split

theorem resumeOriented_foot (hP : Closed F P) (k_regs : F .regs = true) (k_links : F .links = true) {s : State} {x1 : Nat} {n : Nat} (h_s : P s) : P (resumeOriented s x1 n).1 := by
    change FstP P _
    unfold resumeOriented
    try dsimp only
    repeat' first
      | with_reducible assumption
      | (intro _ _ _)
      | with_reducible apply ite_closed
      | with_reducible apply swapLanes_foot hP k_regs k_links
      | (with_reducible exact fstP_elim (by assumption))
      | with_reducible apply foldl_fst
      | with_reducible apply Closed.setB hP k_regs
      | with_reducible apply ite_closed
      | (intro _ _)
      | (intro _)
      | dsimp only
      | split
      | with_reducible apply fstP_mk

theorem startEq_foot (hP : Closed F P) (k_regs : F .regs = true) (k_out : F .out = true) (k_links : F .links = true) {s : State} {x1 : Nat} {n : Nat} (h_s : P s) : P (startEq s x1 n) := by
    unfold startEq
    try dsimp only
    repeat' first
      | with_reducible assumption
      | with_reducible apply enterLane_foot hP k_regs k_out k_links
      | with_reducible apply putLane_foot hP k_links
      | with_reducible apply Closed.setF hP k_regs
      | with_reducible apply ite_closed
      | (intro _ _)
      | (intro _)
      | dsimp only
      | split

theorem nextPreset_foot (hP : Closed F P) (k_regs : F .regs = true) (k_out : F .out = true) (k_power : F .power = true) (k_router : F .router = true) (k_maint : F .maint = true) (k_heads : F .heads = true) (k_links : F .links = true) (k_perf : F .perf = true) {s : State} {x1 : Fin 4} {n : Nat} {fom : Nat} (h_s : P s) : P (nextPreset s x1 n fom) := by
    unfold nextPreset
    try dsimp only
    repeat' first
      | with_reducible assumption
      | with_reducible apply putLane_foot hP k_links
      | with_reducible apply roundFail_foot hP k_regs k_out k_power k_router k_maint k_heads k_links k_perf
      | with_reducible apply putLink_foot hP k_links
      | with_reducible apply Closed.setF hP k_regs
      | with_reducible apply ite_closed
      | (intro _ _)
      | (intro _)
      | dsimp only
      | split

theorem laneActive_foot (hP : Closed F P) (k_regs : F .regs = true) (k_out : F .out = true) (k_power : F .power = true) (k_router : F .router = true) (k_maint : F .maint = true) (k_heads : F .heads = true) (k_links : F .links = true) (k_perf : F .perf = true) {s : State} {x1 : Fin 4} {n : Nat} {round : Bool} (h_s : P s) : P (laneActive s x1 n round) := by
    unfold laneActive
    try dsimp only
    repeat' first
      | with_reducible assumption
      | with_reducible apply enterLane_foot hP k_regs k_out k_links
      | with_reducible apply putLane_foot hP k_links
      | with_reducible apply State.raise_foot hP k_regs k_out k_router k_maint
      | with_reducible apply putLink_foot hP k_links
      | with_reducible apply lanesMoved_foot hP k_regs k_out k_power k_router k_maint k_heads k_links k_perf
      | with_reducible apply Closed.setB hP k_regs
      | with_reducible apply Closed.wr hP k_regs
      | with_reducible apply Closed.setF hP k_regs
      | with_reducible apply ite_closed
      | (intro _ _)
      | (intro _)
      | dsimp only
      | split

theorem endTrainA_foot (hP : Closed F P) (k_regs : F .regs = true) (k_out : F .out = true) (k_power : F .power = true) (k_router : F .router = true) (k_maint : F .maint = true) (k_heads : F .heads = true) (k_links : F .links = true) (k_perf : F .perf = true) {s : State} {x1 : Fin 4} {n : Nat} (h_s : P s) : P (endTrainA s x1 n) := by
    unfold endTrainA
    try dsimp only
    repeat' first
      | with_reducible assumption
      | with_reducible apply roundFail_foot hP k_regs k_out k_power k_router k_maint k_heads k_links k_perf
      | with_reducible apply putLane_foot hP k_links
      | with_reducible apply swapLanes_foot hP k_regs k_links
      | with_reducible apply enterLane_foot hP k_regs k_out k_links
      | with_reducible apply State.raise_foot hP k_regs k_out k_router k_maint
      | with_reducible apply Closed.setB hP k_regs
      | with_reducible apply ite_closed
      | (intro _ _)
      | (intro _)
      | dsimp only
      | split

theorem endStage_foot (hP : Closed F P) (k_regs : F .regs = true) (k_out : F .out = true) (k_power : F .power = true) (k_router : F .router = true) (k_maint : F .maint = true) (k_heads : F .heads = true) (k_links : F .links = true) (k_perf : F .perf = true) {s : State} {x1 : Fin 4} {n : Nat} (h_s : P s) : P (endStage s x1 n) := by
    unfold endStage
    try dsimp only
    repeat' first
      | with_reducible assumption
      | with_reducible apply endTrainA_foot hP k_regs k_out k_power k_router k_maint k_heads k_links k_perf
      | with_reducible apply roundFail_foot hP k_regs k_out k_power k_router k_maint k_heads k_links k_perf
      | with_reducible apply enterLane_foot hP k_regs k_out k_links
      | with_reducible apply putLink_foot hP k_links
      | with_reducible apply startEq_foot hP k_regs k_out k_links
      | with_reducible apply laneActive_foot hP k_regs k_out k_power k_router k_maint k_heads k_links k_perf
      | with_reducible apply ite_closed
      | (intro _ _)
      | (intro _)
      | dsimp only
      | split

theorem endRxStage_foot (hP : Closed F P) (k_regs : F .regs = true) (k_out : F .out = true) (k_power : F .power = true) (k_router : F .router = true) (k_maint : F .maint = true) (k_heads : F .heads = true) (k_links : F .links = true) (k_perf : F .perf = true) {s : State} {x1 : Fin 4} {n : Nat} (h_s : P s) : P (endRxStage s x1 n) := by
    unfold endRxStage
    try dsimp only
    repeat' first
      | with_reducible assumption
      | with_reducible apply laneActive_foot hP k_regs k_out k_power k_router k_maint k_heads k_links k_perf
      | with_reducible apply enterLane_foot hP k_regs k_out k_links
      | with_reducible apply ite_closed
      | (intro _ _)
      | (intro _)
      | dsimp only
      | split

theorem execTrainingStageComplete_foot (hP : Closed F P) (k_regs : F .regs = true) (k_out : F .out = true) (k_power : F .power = true) (k_router : F .router = true) (k_maint : F .maint = true) (k_heads : F .heads = true) (k_links : F .links = true) (k_perf : F .perf = true) {x0 : Fin 4} {lane : Fin 13} {s : State} (h_s : P s) : OutP P (execTrainingStageComplete x0 lane s) := by
    unfold execTrainingStageComplete
    try dsimp only
    repeat' first
      | with_reducible assumption
      | with_reducible apply outP_next
      | with_reducible apply outP_done
      | with_reducible apply endRxStage_foot hP k_regs k_out k_power k_router k_maint k_heads k_links k_perf
      | with_reducible apply endStage_foot hP k_regs k_out k_power k_router k_maint k_heads k_links k_perf
      | with_reducible apply ite_closed
      | (intro _ _)
      | (intro _)
      | dsimp only
      | split

theorem execTrainingStageTimeout_foot (hP : Closed F P) (k_regs : F .regs = true) (k_out : F .out = true) (k_power : F .power = true) (k_router : F .router = true) (k_maint : F .maint = true) (k_heads : F .heads = true) (k_links : F .links = true) (k_perf : F .perf = true) {x0 : Fin 4} {lane : Fin 13} {s : State} (h_s : P s) : OutP P (execTrainingStageTimeout x0 lane s) := by
    unfold execTrainingStageTimeout
    try dsimp only
    repeat' first
      | with_reducible assumption
      | with_reducible apply outP_next
      | with_reducible apply outP_done
      | with_reducible apply roundFail_foot hP k_regs k_out k_power k_router k_maint k_heads k_links k_perf
      | with_reducible apply ite_closed
      | (intro _ _)
      | (intro _)
      | dsimp only
      | split

theorem execTrainAPortWaitEnd_foot (hP : Closed F P) (k_links : F .links = true) {x0 : Fin 4} {lane : Fin 13} {s : State} (h_s : P s) : OutP P (execTrainAPortWaitEnd x0 lane s) := by
    unfold execTrainAPortWaitEnd
    try dsimp only
    repeat' first
      | with_reducible assumption
      | with_reducible apply outP_next
      | with_reducible apply outP_done
      | with_reducible apply putLane_foot hP k_links
      | with_reducible apply ite_closed
      | (intro _ _)
      | (intro _)
      | dsimp only
      | split

theorem execEqPresetSettle_foot (hP : Closed F P) (k_links : F .links = true) {x0 : Fin 4} {lane : Fin 13} {s : State} (h_s : P s) : OutP P (execEqPresetSettle x0 lane s) := by
    unfold execEqPresetSettle
    try dsimp only
    repeat' first
      | with_reducible assumption
      | with_reducible apply outP_next
      | with_reducible apply outP_done
      | with_reducible apply putLink_foot hP k_links
      | with_reducible apply putLane_foot hP k_links
      | with_reducible apply ite_closed
      | (intro _ _)
      | (intro _)
      | dsimp only
      | split

theorem execDetectPoll_foot (hP : Closed F P) (k_regs : F .regs = true) (k_out : F .out = true) (k_power : F .power = true) (k_router : F .router = true) (k_maint : F .maint = true) (k_heads : F .heads = true) (k_links : F .links = true) (k_perf : F .perf = true) {x0 : Fin 4} {lane : Fin 13} {found : Bool} {s : State} (h_s : P s) : OutP P (execDetectPoll x0 lane found s) := by
    unfold execDetectPoll
    try dsimp only
    repeat' first
      | with_reducible assumption
      | with_reducible apply outP_next
      | with_reducible apply outP_done
      | with_reducible apply enterLane_foot hP k_regs k_out k_links
      | with_reducible apply putLane_foot hP k_links
      | with_reducible apply roundFail_foot hP k_regs k_out k_power k_router k_maint k_heads k_links k_perf
      | with_reducible apply Closed.setB hP k_regs
      | with_reducible apply ite_closed
      | (intro _ _)
      | (intro _)
      | dsimp only
      | split

theorem execLaneStandbyResumeTimeout_foot (hP : Closed F P) (k_regs : F .regs = true) (k_out : F .out = true) (k_power : F .power = true) (k_router : F .router = true) (k_maint : F .maint = true) (k_heads : F .heads = true) (k_links : F .links = true) (k_perf : F .perf = true) {x0 : Fin 4} {lane : Fin 13} {s : State} (h_s : P s) : OutP P (execLaneStandbyResumeTimeout x0 lane s) := by
    unfold execLaneStandbyResumeTimeout
    try dsimp only
    repeat' first
      | with_reducible assumption
      | with_reducible apply outP_next
      | with_reducible apply outP_done
      | with_reducible apply enterLane_foot hP k_regs k_out k_links
      | with_reducible apply lanesMoved_foot hP k_regs k_out k_power k_router k_maint k_heads k_links k_perf
      | with_reducible apply putLane_foot hP k_links
      | with_reducible apply Closed.setB hP k_regs
      | with_reducible apply ite_closed
      | (intro _ _)
      | (intro _)
      | dsimp only
      | split

theorem execReadbackLockLoss_foot (hP : Closed F P) (k_regs : F .regs = true) (k_out : F .out = true) (k_power : F .power = true) (k_router : F .router = true) (k_maint : F .maint = true) (k_heads : F .heads = true) (k_links : F .links = true) (k_perf : F .perf = true) {x0 : Fin 4} {lane : Fin 13} {s : State} (h_s : P s) : OutP P (execReadbackLockLoss x0 lane s) := by
    unfold execReadbackLockLoss
    try dsimp only
    repeat' first
      | with_reducible assumption
      | with_reducible apply outP_next
      | with_reducible apply outP_done
      | with_reducible apply laneFail_foot hP k_regs k_out k_power k_router k_maint k_heads k_links k_perf
      | with_reducible apply ite_closed
      | (intro _ _)
      | (intro _)
      | dsimp only
      | split

theorem makeMove_foot (hP : Closed F P) (k_regs : F .regs = true) (k_out : F .out = true) (k_router : F .router = true) (k_maint : F .maint = true) {s : State} {x1 : Fin 4} {f : Nat} {reason : Nat} (h_s : P s) : P (makeMove s x1 f reason) := by
    unfold makeMove
    try dsimp only
    repeat' first
      | with_reducible assumption
      | with_reducible apply State.raise_foot hP k_regs k_out k_router k_maint
      | with_reducible apply showLanes_foot hP k_regs
      | with_reducible apply Closed.inc hP k_regs
      | with_reducible apply Closed.setF hP k_regs
      | with_reducible apply ite_closed
      | (intro _ _)
      | (intro _)
      | dsimp only
      | split

theorem settleFail_foot (hP : Closed F P) (k_regs : F .regs = true) (k_out : F .out = true) (k_power : F .power = true) (k_router : F .router = true) (k_maint : F .maint = true) {x0 : Fin 4} {s : State} {x : Nat × Nat × Nat} (h_s : P s) : P (settleFail x0 s x) := by
    unfold settleFail
    try dsimp only
    repeat' first
      | with_reducible assumption
      | with_reducible apply makeMove_foot hP k_regs k_out k_router k_maint
      | with_reducible apply spareLow_foot hP k_regs k_out k_power k_router k_maint
      | with_reducible apply showLanes_foot hP k_regs
      | with_reducible apply State.raise_foot hP k_regs k_out k_router k_maint
      | with_reducible apply Closed.setB hP k_regs
      | with_reducible apply ite_closed
      | (intro _ _)
      | (intro _)
      | dsimp only
      | split

theorem groupBack_foot (hP : Closed F P) (k_regs : F .regs = true) (k_out : F .out = true) (k_router : F .router = true) (k_maint : F .maint = true) {s : State} {x1 : Fin 4} {g : Nat} (h_s : P s) : P (groupBack s x1 g) := by
    unfold groupBack
    try dsimp only
    repeat' first
      | with_reducible assumption
      | with_reducible apply showLanes_foot hP k_regs
      | with_reducible apply State.raise_foot hP k_regs k_out k_router k_maint
      | with_reducible apply Closed.setB hP k_regs
      | with_reducible apply ite_closed
      | (intro _ _)
      | (intro _)
      | dsimp only
      | split

theorem settleRestore_foot (hP : Closed F P) (k_regs : F .regs = true) (k_out : F .out = true) (k_router : F .router = true) (k_maint : F .maint = true) {x0 : Fin 4} {restore : List Nat} {s : State} {g : Nat} (h_s : P s) : P (settleRestore x0 restore s g) := by
    unfold settleRestore
    try dsimp only
    repeat' first
      | with_reducible assumption
      | with_reducible apply groupBack_foot hP k_regs k_out k_router k_maint
      | with_reducible apply makeMove_foot hP k_regs k_out k_router k_maint
      | with_reducible apply ite_closed
      | (intro _ _)
      | (intro _)
      | dsimp only
      | split

theorem settleLine_foot (hP : Closed F P) (k_regs : F .regs = true) (k_out : F .out = true) (k_power : F .power = true) (k_router : F .router = true) (k_maint : F .maint = true) (k_heads : F .heads = true) (k_links : F .links = true) (k_perf : F .perf = true) {s : State} {x1 : Fin 4} {T : Int} (h_s : P s) : P (settleLine s x1 T) := by
    unfold settleLine
    try dsimp only
    repeat' first
      | with_reducible assumption
      | with_reducible apply putLink_foot hP k_links
      | with_reducible apply settleFail_foot hP k_regs k_out k_power k_router k_maint
      | with_reducible apply lanesMoved_foot hP k_regs k_out k_power k_router k_maint k_heads k_links k_perf
      | with_reducible apply settleRestore_foot hP k_regs k_out k_router k_maint
      | (with_reducible refine foldl_inv P _ (fun _ _ _ => ?_) _ _ ?_)
      | with_reducible apply ite_closed
      | (intro _ _)
      | (intro _)
      | dsimp only
      | split

theorem execSparingMove_foot (hP : Closed F P) (k_regs : F .regs = true) (k_out : F .out = true) (k_power : F .power = true) (k_router : F .router = true) (k_maint : F .maint = true) (k_heads : F .heads = true) (k_links : F .links = true) (k_perf : F .perf = true) {x0 : Fin 4} {s : State} (h_s : P s) : OutP P (execSparingMove x0 s) := by
    unfold execSparingMove
    try dsimp only
    repeat' first
      | with_reducible assumption
      | with_reducible apply outP_next
      | with_reducible apply outP_done
      | with_reducible apply settleLine_foot hP k_regs k_out k_power k_router k_maint k_heads k_links k_perf
      | with_reducible apply ite_closed
      | (intro _ _)
      | (intro _)
      | dsimp only
      | split

theorem execGapUnhealthyTimeout_foot (hP : Closed F P) (k_regs : F .regs = true) (k_out : F .out = true) (k_router : F .router = true) (k_maint : F .maint = true) (k_links : F .links = true) {x0 : Fin 4} {s : State} (h_s : P s) : OutP P (execGapUnhealthyTimeout x0 s) := by
    unfold execGapUnhealthyTimeout
    try dsimp only
    repeat' first
      | with_reducible assumption
      | with_reducible apply outP_next
      | with_reducible apply outP_done
      | with_reducible apply spareGone_foot hP k_regs k_out k_router k_maint
      | with_reducible apply putLink_foot hP k_links
      | with_reducible apply ite_closed
      | (intro _ _)
      | (intro _)
      | dsimp only
      | split

theorem laneEpoch_foot (hP : Closed F P) (k_regs : F .regs = true) (k_out : F .out = true) (k_router : F .router = true) (k_maint : F .maint = true) {s : State} {x1 : Fin 4} {n : Nat} {epoch : BitVec 16} {g : State → State} (h_s : P s) (h_g : ∀ y0, P y0 → P (g y0)) : P (laneEpoch s x1 n epoch g) := by
    unfold laneEpoch
    try dsimp only
    repeat' first
      | with_reducible assumption
      | with_reducible apply State.raise_foot hP k_regs k_out k_router k_maint
      | with_reducible apply h_g
      | with_reducible apply Closed.incTo hP k_regs
      | with_reducible apply ite_closed
      | (intro _ _)
      | (intro _)
      | dsimp only
      | split

theorem laneCommand_foot (hP : Closed F P) (k_regs : F .regs = true) (k_out : F .out = true) (k_router : F .router = true) (k_maint : F .maint = true) {s : State} {req : Requester} {x2 : Fin 4} {n : Nat} {epoch : BitVec 16} {g : State → State} (h_s : P s) (h_g : ∀ y0, P y0 → P (g y0)) : P (laneCommand s req x2 n epoch g) := by
    unfold laneCommand
    try dsimp only
    repeat' first
      | with_reducible assumption
      | with_reducible apply gated_foot hP k_regs k_out k_router k_maint
      | with_reducible apply laneEpoch_foot hP k_regs k_out k_router k_maint
      | with_reducible apply h_g
      | with_reducible apply ite_closed
      | (intro _ _)
      | (intro _)
      | dsimp only
      | split

theorem execRetrain_foot (hP : Closed F P) (k_regs : F .regs = true) (k_out : F .out = true) (k_power : F .power = true) (k_router : F .router = true) (k_maint : F .maint = true) (k_heads : F .heads = true) (k_links : F .links = true) (k_perf : F .perf = true) {req : Requester} {x1 : Fin 4} {lane : Fin 13} {epoch : BitVec 16} {s : State} (h_s : P s) : OutP P (execRetrain req x1 lane epoch s) := by
    unfold execRetrain
    try dsimp only
    repeat' first
      | with_reducible assumption
      | with_reducible apply outP_next
      | with_reducible apply outP_done
      | with_reducible apply laneCommand_foot hP k_regs k_out k_router k_maint
      | with_reducible apply laneFail_foot hP k_regs k_out k_power k_router k_maint k_heads k_links k_perf
      | with_reducible apply ite_closed
      | (intro _ _)
      | (intro _)
      | dsimp only
      | split

theorem moveGap_foot (hP : Closed F P) (k_regs : F .regs = true) (k_out : F .out = true) (k_router : F .router = true) (k_maint : F .maint = true) (k_links : F .links = true) {s : State} {x1 : Fin 4} {n : Nat} (h_s : P s) : P (moveGap s x1 n) := by
    unfold moveGap
    try dsimp only
    repeat' first
      | with_reducible assumption
      | with_reducible apply putLink_foot hP k_links
      | with_reducible apply refuse_foot hP k_regs k_out k_router k_maint
      | with_reducible apply ite_closed
      | (intro _ _)
      | (intro _)
      | dsimp only
      | split

theorem execMoveGap_foot (hP : Closed F P) (k_regs : F .regs = true) (k_out : F .out = true) (k_router : F .router = true) (k_maint : F .maint = true) (k_links : F .links = true) {req : Requester} {x1 : Fin 4} {lane : Fin 13} {epoch : BitVec 16} {s : State} (h_s : P s) : OutP P (execMoveGap req x1 lane epoch s) := by
    unfold execMoveGap
    try dsimp only
    repeat' first
      | with_reducible assumption
      | with_reducible apply outP_next
      | with_reducible apply outP_done
      | with_reducible apply laneCommand_foot hP k_regs k_out k_router k_maint
      | with_reducible apply moveGap_foot hP k_regs k_out k_router k_maint k_links
      | with_reducible apply ite_closed
      | (intro _ _)
      | (intro _)
      | dsimp only
      | split

theorem clearPrbs_foot (hP : Closed F P) (k_regs : F .regs = true) {s : State} {x1 : Nat} {n : Nat} (h_s : P s) : P (clearPrbs s x1 n) := by
    unfold clearPrbs
    try dsimp only
    repeat' first
      | with_reducible assumption
      | with_reducible apply Closed.setB hP k_regs
      | with_reducible apply Closed.wr64 hP k_regs
      | with_reducible apply Closed.wr hP k_regs
      | with_reducible apply ite_closed
      | (intro _ _)
      | (intro _)
      | dsimp only
      | split

theorem execPrbsClear_foot (hP : Closed F P) (k_regs : F .regs = true) (k_out : F .out = true) (k_router : F .router = true) (k_maint : F .maint = true) {req : Requester} {x1 : Fin 4} {lane : Fin 13} {epoch : BitVec 16} {s : State} (h_s : P s) : OutP P (execPrbsClear req x1 lane epoch s) := by
    unfold execPrbsClear
    try dsimp only
    repeat' first
      | with_reducible assumption
      | with_reducible apply outP_next
      | with_reducible apply outP_done
      | with_reducible apply laneCommand_foot hP k_regs k_out k_router k_maint
      | with_reducible apply clearPrbs_foot hP k_regs
      | with_reducible apply ite_closed
      | (intro _ _)
      | (intro _)
      | dsimp only
      | split

theorem prbsErrors_foot (hP : Closed F P) (k_regs : F .regs = true) (k_out : F .out = true) (k_router : F .router = true) (k_maint : F .maint = true) {s : State} {x1 : Fin 4} {n : Nat} {k : Nat} (h_s : P s) : P (prbsErrors s x1 n k) := by
    unfold prbsErrors
    try dsimp only
    repeat' first
      | with_reducible assumption
      | with_reducible apply State.raise_foot hP k_regs k_out k_router k_maint
      | with_reducible apply Closed.incBy hP k_regs
      | with_reducible apply Closed.setB hP k_regs
      | with_reducible apply ite_closed
      | (intro _ _)
      | (intro _)
      | dsimp only
      | split

theorem chkBit_foot (hP : Closed F P) (k_regs : F .regs = true) (k_out : F .out = true) (k_router : F .router = true) (k_maint : F .maint = true) (k_links : F .links = true) {x0 : Fin 4} {n : Nat} {s : State} {r : Bool} (h_s : P s) : P (chkBit x0 n s r) := by
    unfold chkBit
    try dsimp only
    repeat' first
      | with_reducible assumption
      | with_reducible apply putLane_foot hP k_links
      | with_reducible apply prbsErrors_foot hP k_regs k_out k_router k_maint
      | with_reducible apply Closed.setB hP k_regs
      | with_reducible apply Closed.wr64 hP k_regs
      | with_reducible apply ite_closed
      | (intro _ _)
      | (intro _)
      | dsimp only
      | split

theorem flipBit_foot (hP : Closed F P) (k_regs : F .regs = true) (k_out : F .out = true) (k_router : F .router = true) (k_maint : F .maint = true) (k_links : F .links = true) {s : State} {x1 : Fin 4} {n : Nat} (h_s : P s) : P (flipBit s x1 n) := by
    unfold flipBit
    try dsimp only
    repeat' first
      | with_reducible assumption
      | with_reducible apply chkBit_foot hP k_regs k_out k_router k_maint k_links
      | with_reducible apply Closed.emit hP k_out
      | with_reducible apply ite_closed
      | (intro _ _)
      | (intro _)
      | dsimp only
      | split

theorem execPrbsInject_foot (hP : Closed F P) (k_regs : F .regs = true) (k_out : F .out = true) (k_router : F .router = true) (k_maint : F .maint = true) (k_links : F .links = true) {req : Requester} {x1 : Fin 4} {lane : Fin 13} {epoch : BitVec 16} {s : State} (h_s : P s) : OutP P (execPrbsInject req x1 lane epoch s) := by
    unfold execPrbsInject
    try dsimp only
    repeat' first
      | with_reducible assumption
      | with_reducible apply outP_next
      | with_reducible apply outP_done
      | with_reducible apply laneCommand_foot hP k_regs k_out k_router k_maint
      | with_reducible apply flipBit_foot hP k_regs k_out k_router k_maint k_links
      | with_reducible apply ite_closed
      | (intro _ _)
      | (intro _)
      | dsimp only
      | split

theorem laneCmdWrite_foot (hP : Closed F P) (k_regs : F .regs = true) (k_out : F .out = true) (k_power : F .power = true) (k_router : F .router = true) (k_maint : F .maint = true) (k_heads : F .heads = true) (k_links : F .links = true) (k_perf : F .perf = true) {s : State} {x1 : Fin 4} {v : Word} (h_s : P s) : P (laneCmdWrite s x1 v) := by
    unfold laneCmdWrite
    try dsimp only
    repeat' first
      | with_reducible assumption
      | with_reducible apply laneEpoch_foot hP k_regs k_out k_router k_maint
      | with_reducible apply laneFail_foot hP k_regs k_out k_power k_router k_maint k_heads k_links k_perf
      | with_reducible apply moveGap_foot hP k_regs k_out k_router k_maint k_links
      | with_reducible apply clearPrbs_foot hP k_regs
      | with_reducible apply flipBit_foot hP k_regs k_out k_router k_maint k_links
      | with_reducible apply ite_closed
      | (intro _ _)
      | (intro _)
      | dsimp only
      | split

theorem lanesFit_foot (hP : Closed F P) (k_regs : F .regs = true) (k_out : F .out = true) (k_links : F .links = true) {s : State} {x1 : Fin 4} (h_s : P s) : P (lanesFit s x1) := by
    unfold lanesFit
    try dsimp only
    repeat' first
      | with_reducible assumption
      | with_reducible apply showLanes_foot hP k_regs
      | with_reducible apply lanesWake_foot hP k_regs k_out k_links
      | with_reducible apply laneOff_foot hP k_regs k_out k_links
      | (with_reducible refine foldl_inv P _ (fun _ _ _ => ?_) _ _ ?_)
      | with_reducible apply ite_closed
      | (intro _ _)
      | (intro _)
      | dsimp only
      | split

theorem laneOut_foot (hP : Closed F P) (k_regs : F .regs = true) (k_out : F .out = true) (k_links : F .links = true) {s : State} {x1 : Fin 4} {n : Nat} (h_s : P s) : P (laneOut s x1 n) := by
    unfold laneOut
    try dsimp only
    repeat' first
      | with_reducible assumption
      | with_reducible apply clearOrientation_foot hP k_regs k_links
      | with_reducible apply showLanes_foot hP k_regs
      | with_reducible apply laneOff_foot hP k_regs k_out k_links
      | with_reducible apply lanesFit_foot hP k_regs k_out k_links
      | with_reducible apply ite_closed
      | (intro _ _)
      | (intro _)
      | dsimp only
      | split

theorem prbsRun_foot (hP : Closed F P) (k_regs : F .regs = true) (k_out : F .out = true) (k_links : F .links = true) {s : State} {x1 : Nat} {n : Nat} (h_s : P s) : P (prbsRun s x1 n) := by
    unfold prbsRun
    try dsimp only
    repeat' first
      | with_reducible assumption
      | with_reducible apply putLane_foot hP k_links
      | with_reducible apply Closed.setB hP k_regs
      | with_reducible apply Closed.emit hP k_out
      | with_reducible apply ite_closed
      | (intro _ _)
      | (intro _)
      | dsimp only
      | split

theorem prbsCtrl_foot (hP : Closed F P) (k_regs : F .regs = true) (k_out : F .out = true) (k_router : F .router = true) (k_maint : F .maint = true) (k_links : F .links = true) {s : State} {x1 : Fin 4} {n : Nat} {v : Word} (h_s : P s) : P (prbsCtrl s x1 n v) := by
    unfold prbsCtrl
    try dsimp only
    repeat' first
      | with_reducible assumption
      | with_reducible apply refuse_foot hP k_regs k_out k_router k_maint
      | with_reducible apply prbsRun_foot hP k_regs k_out k_links
      | with_reducible apply laneOff_foot hP k_regs k_out k_links
      | with_reducible apply laneOut_foot hP k_regs k_out k_links
      | with_reducible apply laneStream_foot hP k_out
      | with_reducible apply showLanes_foot hP k_regs
      | with_reducible apply enterLane_foot hP k_regs k_out k_links
      | with_reducible apply Closed.wr hP k_regs
      | with_reducible apply Closed.setB hP k_regs
      | with_reducible apply ite_closed
      | (intro _ _)
      | (intro _)
      | dsimp only
      | split

theorem execPrbsCtrlWrite_foot (hP : Closed F P) (k_regs : F .regs = true) (k_out : F .out = true) (k_router : F .router = true) (k_maint : F .maint = true) (k_links : F .links = true) {req : Requester} {x1 : Fin 4} {lane : Fin 13} {value : Word} {s : State} (h_s : P s) : OutP P (execPrbsCtrlWrite req x1 lane value s) := by
    unfold execPrbsCtrlWrite
    try dsimp only
    repeat' first
      | with_reducible assumption
      | with_reducible apply outP_next
      | with_reducible apply outP_done
      | with_reducible apply gated_foot hP k_regs k_out k_router k_maint
      | with_reducible apply prbsCtrl_foot hP k_regs k_out k_router k_maint k_links
      | with_reducible apply ite_closed
      | (intro _ _)
      | (intro _)
      | dsimp only
      | split

theorem execPrbsSync_foot (hP : Closed F P) (k_regs : F .regs = true) (k_out : F .out = true) (k_router : F .router = true) (k_maint : F .maint = true) (k_links : F .links = true) {x0 : Fin 4} {lane : Fin 13} {bits : List Bool} {s : State} (h_s : P s) : OutP P (execPrbsSync x0 lane bits s) := by
    unfold execPrbsSync
    try dsimp only
    repeat' first
      | with_reducible assumption
      | with_reducible apply outP_next
      | with_reducible apply outP_done
      | with_reducible apply chkBit_foot hP k_regs k_out k_router k_maint k_links
      | (with_reducible refine foldl_inv P _ (fun _ _ _ => ?_) _ _ ?_)
      | with_reducible apply ite_closed
      | (intro _ _)
      | (intro _)
      | dsimp only
      | split

theorem execPrbsSyncLoss_foot (hP : Closed F P) (k_regs : F .regs = true) (k_out : F .out = true) (k_router : F .router = true) (k_maint : F .maint = true) (k_links : F .links = true) {x0 : Fin 4} {lane : Fin 13} {bits : List Bool} {s : State} (h_s : P s) : OutP P (execPrbsSyncLoss x0 lane bits s) := by
    unfold execPrbsSyncLoss
    try dsimp only
    repeat' first
      | with_reducible assumption
      | with_reducible apply outP_next
      | with_reducible apply outP_done
      | with_reducible apply chkBit_foot hP k_regs k_out k_router k_maint k_links
      | (with_reducible refine foldl_inv P _ (fun _ _ _ => ?_) _ _ ?_)
      | with_reducible apply ite_closed
      | (intro _ _)
      | (intro _)
      | dsimp only
      | split

theorem prbsTest_foot (hP : Closed F P) (k_regs : F .regs = true) (k_out : F .out = true) (k_router : F .router = true) (k_maint : F .maint = true) (k_links : F .links = true) {s : State} {x1 : Fin 4} {id : Nat} (h_s : P s) : P (prbsTest s x1 id) := by
    unfold prbsTest
    try dsimp only
    repeat' first
      | with_reducible assumption
      | with_reducible apply clearPrbs_foot hP k_regs
      | with_reducible apply flipBit_foot hP k_regs k_out k_router k_maint k_links
      | (with_reducible refine foldl_inv P _ (fun _ _ _ => ?_) _ _ ?_)
      | with_reducible apply ite_closed
      | (intro _ _)
      | (intro _)
      | dsimp only
      | split

theorem laneCtrl_foot (hP : Closed F P) (k_regs : F .regs = true) (k_out : F .out = true) (k_power : F .power = true) (k_router : F .router = true) (k_maint : F .maint = true) (k_heads : F .heads = true) (k_links : F .links = true) (k_perf : F .perf = true) {s : State} {x1 : Fin 4} {n : Nat} {v : Word} (h_s : P s) : P (laneCtrl s x1 n v) := by
    unfold laneCtrl
    try dsimp only
    repeat' first
      | with_reducible assumption
      | with_reducible apply refuse_foot hP k_regs k_out k_router k_maint
      | with_reducible apply lanesMoved_foot hP k_regs k_out k_power k_router k_maint k_heads k_links k_perf
      | with_reducible apply laneOut_foot hP k_regs k_out k_links
      | with_reducible apply laneFails_foot hP k_regs k_out k_power k_router k_maint k_heads k_links k_perf
      | with_reducible apply enterLane_foot hP k_regs k_out k_links
      | with_reducible apply Closed.wr hP k_regs
      | with_reducible apply ite_closed
      | (intro _ _)
      | (intro _)
      | dsimp only
      | split

theorem zlEnable_foot (hP : Closed F P) (k_regs : F .regs = true) (k_out : F .out = true) (k_links : F .links = true) {s : State} {x1 : Fin 4} (h_s : P s) : P (zlEnable s x1) := by
    unfold zlEnable
    try dsimp only
    repeat' first
      | with_reducible assumption
      | with_reducible apply lanesWake_foot hP k_regs k_out k_links
      | with_reducible apply setOn_foot hP k_regs
      | with_reducible apply ite_closed
      | (intro _ _)
      | (intro _)
      | dsimp only
      | split

theorem zlOff_foot (hP : Closed F P) (k_regs : F .regs = true) (k_out : F .out = true) (k_links : F .links = true) {s : State} {x1 : Fin 4} {abort : Bool} (h_s : P s) : P (zlOff s x1 abort) := by
    unfold zlOff
    try dsimp only
    repeat' first
      | with_reducible assumption
      | with_reducible apply setOff_foot hP k_regs
      | with_reducible apply laneOff_foot hP k_regs k_out k_links
      | with_reducible apply clearOrientation_foot hP k_regs k_links
      | with_reducible apply showLanes_foot hP k_regs
      | (with_reducible refine foldl_inv P _ (fun _ _ _ => ?_) _ _ ?_)
      | with_reducible apply Closed.setB hP k_regs
      | with_reducible apply ite_closed
      | (intro _ _)
      | (intro _)
      | dsimp only
      | split

theorem execZlDisable_foot (hP : Closed F P) (k_regs : F .regs = true) (k_out : F .out = true) (k_router : F .router = true) (k_maint : F .maint = true) (k_links : F .links = true) {req : Requester} {x1 : Fin 4} {abort : Bool} {s : State} (h_s : P s) : OutP P (execZlDisable req x1 abort s) := by
    unfold execZlDisable
    try dsimp only
    repeat' first
      | with_reducible assumption
      | with_reducible apply outP_next
      | with_reducible apply outP_done
      | with_reducible apply gatedIf_foot hP k_regs k_out k_router k_maint
      | with_reducible apply zlOff_foot hP k_regs k_out k_links
      | with_reducible apply ite_closed
      | (intro _ _)
      | (intro _)
      | dsimp only
      | split

end Sys2Proof.Machine
end

