-- ==== Sys2Proof/Laws/FootOutput.lean ====
section
/-!
SUPPORT. Footprints of the definitions of Machine/Output.lean: which parts of the state each of them may update.
-/
namespace Sys2Proof.Machine

variable {F : Part → Bool} {P : State → Prop}

theorem lutWrite_foot (hP : Closed F P) (k_regs : F .regs = true) (k_out : F .out = true) (k_router : F .router = true) (k_maint : F .maint = true) {s : State} {x1 : Fin 4} {ch : Nat} {index : Nat} {v : Word} (h_s : P s) : P (lutWrite s x1 ch index v) := by
    unfold lutWrite
    try dsimp only
    repeat' first
      | with_reducible assumption
      | with_reducible apply State.raise_foot hP k_regs k_out k_router k_maint
      | with_reducible apply Closed.setF hP k_regs
      | with_reducible apply Closed.inc hP k_regs
      | with_reducible apply ite_closed
      | (intro _ _)
      | (intro _)
      | dsimp only
      | split

theorem execLutEntryWrite_foot (hP : Closed F P) (k_regs : F .regs = true) (k_out : F .out = true) (k_router : F .router = true) (k_maint : F .maint = true) {req : Requester} {x1 : Fin 4} {ch : Fin 3} {index : Fin 4096} {value : Word} {s : State} (h_s : P s) : OutP P (execLutEntryWrite req x1 ch index value s) := by
    unfold execLutEntryWrite
    try dsimp only
    repeat' first
      | with_reducible assumption
      | with_reducible apply outP_next
      | with_reducible apply outP_done
      | with_reducible apply gated_foot hP k_regs k_out k_router k_maint
      | with_reducible apply lutWrite_foot hP k_regs k_out k_router k_maint
      | with_reducible apply ite_closed
      | (intro _ _)
      | (intro _)
      | dsimp only
      | split

theorem setLedger_foot (hP : Closed F P) (k_regs : F .regs = true) {s : State} {x1 : Nat} {v : Int} (h_s : P s) : P (setLedger s x1 v) := by
    unfold setLedger
    try dsimp only
    repeat' first
      | with_reducible assumption
      | with_reducible apply Closed.wr64 hP k_regs
      | with_reducible apply ite_closed
      | (intro _ _)
      | (intro _)
      | dsimp only
      | split

theorem execLedgerClear_foot (hP : Closed F P) (k_regs : F .regs = true) (k_out : F .out = true) (k_router : F .router = true) (k_maint : F .maint = true) {req : Requester} {x1 : Fin 4} {value : Word} {s : State} (h_s : P s) : OutP P (execLedgerClear req x1 value s) := by
    unfold execLedgerClear
    try dsimp only
    repeat' first
      | with_reducible assumption
      | with_reducible apply outP_next
      | with_reducible apply outP_done
      | with_reducible apply gated_foot hP k_regs k_out k_router k_maint
      | with_reducible apply setLedger_foot hP k_regs
      | with_reducible apply ite_closed
      | (intro _ _)
      | (intro _)
      | dsimp only
      | split

end Sys2Proof.Machine
end

