-- ==== Sys2Proof/Laws/FootSched.lean ====
section
/-!
SUPPORT. Footprints of the definitions of Machine/Sched.lean: which parts of the state each of them may update.
-/
namespace Sys2Proof.Machine

variable {F : Part → Bool} {P : State → Prop}

theorem countArmed_foot (hP : Closed F P) (k_regs : F .regs = true) {s : State} (h_s : P s) : P (countArmed s) := by
    unfold countArmed
    try dsimp only
    repeat' first
      | with_reducible assumption
      | with_reducible apply Closed.wr hP k_regs
      | with_reducible apply ite_closed
      | (intro _ _)
      | (intro _)
      | dsimp only
      | split

theorem schedRecord_foot (hP : Closed F P) (k_regs : F .regs = true) (k_out : F .out = true) (k_router : F .router = true) (k_sched : F .sched = true) (k_maint : F .maint = true) {s : State} {i : Nat} {status : Nat} (h_s : P s) : P (schedRecord s i status) := by
    unfold schedRecord
    try dsimp only
    repeat' first
      | with_reducible assumption
      | with_reducible apply State.raise_foot hP k_regs k_out k_router k_maint
      | with_reducible apply Closed.inc hP k_regs
      | with_reducible apply ite_closed
      | (intro _ _)
      | (intro _)
      | dsimp only
      | split
      | (with_reducible apply Closed.sched hP k_sched)

theorem execSchedLogRecordWrite_foot (hP : Closed F P) (k_regs : F .regs = true) (k_out : F .out = true) (k_router : F .router = true) (k_ring : F .ring = true) (k_sched : F .sched = true) (k_maint : F .maint = true) (k_hbm : F .hbm = true) (k_host : F .host = true) (k_memory : F .memory = true) {s : State} (h_s : P s) : OutP P (execSchedLogRecordWrite s) := by
    unfold execSchedLogRecordWrite
    try dsimp only
    repeat' first
      | with_reducible assumption
      | with_reducible apply outP_next
      | with_reducible apply outP_done
      | (with_reducible refine optP_of (by assumption) ?_)
      | with_reducible exact optP_none
      | with_reducible apply optP_getD
      | with_reducible apply optP_some
      | with_reducible apply ringPush_foot hP k_regs k_out k_router k_maint k_hbm k_host k_memory
      | with_reducible apply ringUnstall_foot hP k_regs k_ring
      | with_reducible apply ringStall_foot hP k_regs k_ring
      | with_reducible apply ite_closed
      | (intro _ _)
      | (intro _)
      | dsimp only
      | split
      | (with_reducible apply Closed.sched hP k_sched)

theorem slotEnd_foot (hP : Closed F P) (k_regs : F .regs = true) (k_out : F .out = true) (k_router : F .router = true) (k_sched : F .sched = true) (k_maint : F .maint = true) {s : State} {i : Nat} {status : Nat} (h_s : P s) : P (slotEnd s i status) := by
    unfold slotEnd
    try dsimp only
    repeat' first
      | with_reducible assumption
      | with_reducible apply schedRecord_foot hP k_regs k_out k_router k_sched k_maint
      | with_reducible apply countArmed_foot hP k_regs
      | with_reducible apply Closed.wr hP k_regs
      | with_reducible apply ite_closed
      | (intro _ _)
      | (intro _)
      | dsimp only
      | split
      | (with_reducible apply Closed.sched hP k_sched)

theorem armSlot_foot (hP : Closed F P) (k_regs : F .regs = true) (k_out : F .out = true) (k_router : F .router = true) (k_sched : F .sched = true) (k_maint : F .maint = true) {s : State} {i : Nat} (h_s : P s) : P (armSlot s i).1 := by
    change FstP P _
    unfold armSlot
    try dsimp only
    repeat' first
      | with_reducible assumption
      | (intro _ _ _)
      | with_reducible apply ite_closed
      | with_reducible apply State.raise_foot hP k_regs k_out k_router k_maint
      | with_reducible apply slotEnd_foot hP k_regs k_out k_router k_sched k_maint
      | with_reducible apply countArmed_foot hP k_regs
      | (with_reducible exact fstP_elim (by assumption))
      | with_reducible apply foldl_fst
      | with_reducible apply Closed.setF hP k_regs
      | with_reducible apply ite_closed
      | (intro _ _)
      | (intro _)
      | dsimp only
      | split
      | with_reducible apply fstP_mk
      | (with_reducible apply Closed.sched hP k_sched)

theorem schedLast_foot (hP : Closed F P) (k_sched : F .sched = true) {s : State} {req : Requester} {i : Nat} {status : Nat} (h_s : P s) : P (schedLast s req i status) := by
    unfold schedLast
    try dsimp only
    repeat' first
      | with_reducible assumption
      | with_reducible apply ite_closed
      | (intro _ _)
      | (intro _)
      | dsimp only
      | split
      | (with_reducible apply Closed.sched hP k_sched)

theorem armCommand_foot (hP : Closed F P) (k_regs : F .regs = true) (k_out : F .out = true) (k_router : F .router = true) (k_sched : F .sched = true) (k_maint : F .maint = true) {s : State} {req : Requester} {i : Nat} (h_s : P s) : P (armCommand s req i) := by
    unfold armCommand
    try dsimp only
    repeat' first
      | with_reducible assumption
      | with_reducible apply schedLast_foot hP k_sched
      | with_reducible apply slotEnd_foot hP k_regs k_out k_router k_sched k_maint
      | with_reducible apply armSlot_foot hP k_regs k_out k_router k_sched k_maint
      | (with_reducible apply fstP_of; with_reducible apply armSlot_foot hP k_regs k_out k_router k_sched k_maint)
      | (with_reducible exact fstP_elim (by assumption))
      | with_reducible apply foldl_fst
      | with_reducible apply ite_closed
      | (intro _ _)
      | (intro _)
      | dsimp only
      | split
      | with_reducible apply fstP_mk

theorem execArm_foot (hP : Closed F P) (k_regs : F .regs = true) (k_out : F .out = true) (k_router : F .router = true) (k_sched : F .sched = true) (k_maint : F .maint = true) {req : Requester} {slot : Fin 256} {s : State} (h_s : P s) : OutP P (execArm req slot s) := by
    unfold execArm
    try dsimp only
    repeat' first
      | with_reducible assumption
      | with_reducible apply outP_next
      | with_reducible apply outP_done
      | with_reducible apply gated_foot hP k_regs k_out k_router k_maint
      | with_reducible apply armCommand_foot hP k_regs k_out k_router k_sched k_maint
      | with_reducible apply ite_closed
      | (intro _ _)
      | (intro _)
      | dsimp only
      | split

theorem disarmCommand_foot (hP : Closed F P) (k_regs : F .regs = true) (k_out : F .out = true) (k_router : F .router = true) (k_sched : F .sched = true) (k_maint : F .maint = true) {s : State} {req : Requester} {i : Nat} (h_s : P s) : P (disarmCommand s req i) := by
    unfold disarmCommand
    try dsimp only
    repeat' first
      | with_reducible assumption
      | with_reducible apply refuse_foot hP k_regs k_out k_router k_maint
      | with_reducible apply schedLast_foot hP k_sched
      | with_reducible apply slotEnd_foot hP k_regs k_out k_router k_sched k_maint
      | with_reducible apply ite_closed
      | (intro _ _)
      | (intro _)
      | dsimp only
      | split

theorem execDisarm_foot (hP : Closed F P) (k_regs : F .regs = true) (k_out : F .out = true) (k_router : F .router = true) (k_sched : F .sched = true) (k_maint : F .maint = true) {req : Requester} {slot : Fin 256} {s : State} (h_s : P s) : OutP P (execDisarm req slot s) := by
    unfold execDisarm
    try dsimp only
    repeat' first
      | with_reducible assumption
      | with_reducible apply outP_next
      | with_reducible apply outP_done
      | with_reducible apply gated_foot hP k_regs k_out k_router k_maint
      | with_reducible apply disarmCommand_foot hP k_regs k_out k_router k_sched k_maint
      | with_reducible apply ite_closed
      | (intro _ _)
      | (intro _)
      | dsimp only
      | split

end Sys2Proof.Machine
end

