-- ==== Sys2Proof/Laws/FootTxn.lean ====
section
/-!
SUPPORT. Footprints of the definitions of Machine/Txn.lean: which parts of the state each of them may update.
-/
namespace Sys2Proof.Machine

variable {F : Part → Bool} {P : State → Prop}

theorem putTxn_foot (hP : Closed F P) (k_txn : F .txn = true) {s : State} {t : Nat} {x : Txn} (h_s : P s) : P (putTxn s t x) := by
    unfold putTxn
    try dsimp only
    repeat' first
      | with_reducible assumption
      | with_reducible apply ite_closed
      | (intro _ _)
      | (intro _)
      | dsimp only
      | split
      | (with_reducible apply Closed.txn hP k_txn)

theorem txnLast_foot (hP : Closed F P) (k_txn : F .txn = true) {s : State} {r : Requester} {id : Nat} {status : Nat} (h_s : P s) : P (txnLast s r id status) := by
    unfold txnLast
    try dsimp only
    repeat' first
      | with_reducible assumption
      | with_reducible apply ite_closed
      | (intro _ _)
      | (intro _)
      | dsimp only
      | split
      | (with_reducible apply Closed.txn hP k_txn)

theorem noteTiming_foot (hP : Closed F P) (k_heads : F .heads = true) {s : State} {a : Nat} (h_s : P s) : P (noteTiming s a) := by
    unfold noteTiming
    try dsimp only
    repeat' first
      | with_reducible assumption
      | with_reducible apply putHead_foot hP k_heads
      | with_reducible apply ite_closed
      | (intro _ _)
      | (intro _)
      | dsimp only
      | split

theorem applyReg_foot (hP : Closed F P) (k_regs : F .regs = true) (k_out : F .out = true) (k_router : F .router = true) (k_ring : F .ring = true) (k_maint : F .maint = true) (k_ing : F .ing = true) (k_heads : F .heads = true) (k_links : F .links = true) {s : State} {a : Nat} {v : Word} (h_s : P s) : P (applyReg s a v) := by
    unfold applyReg
    try dsimp only
    repeat' first
      | with_reducible assumption
      | with_reducible apply storeCfgWrite_foot hP k_regs k_out k_router k_ring k_maint k_ing
      | with_reducible apply noteTiming_foot hP k_heads
      | with_reducible apply keepLink_foot hP k_regs k_out k_links
      | with_reducible apply Closed.wr hP k_regs
      | with_reducible apply ite_closed
      | (intro _ _)
      | (intro _)
      | dsimp only
      | split

theorem applyStaged_foot (hP : Closed F P) (k_regs : F .regs = true) (k_out : F .out = true) (k_router : F .router = true) (k_ring : F .ring = true) (k_maint : F .maint = true) (k_ing : F .ing = true) (k_heads : F .heads = true) (k_links : F .links = true) {o : Nat} {s : State} {a : Nat} {v : Word} (h_s : P s) : P (applyStaged o s a v) := by
    unfold applyStaged
    try dsimp only
    repeat' first
      | with_reducible assumption
      | with_reducible apply refuse_foot hP k_regs k_out k_router k_maint
      | with_reducible apply applyReg_foot hP k_regs k_out k_router k_ring k_maint k_ing k_heads k_links
      | with_reducible apply ite_closed
      | (intro _ _)
      | (intro _)
      | dsimp only
      | split

theorem applyWrites_foot (hP : Closed F P) (k_regs : F .regs = true) (k_out : F .out = true) (k_router : F .router = true) (k_ring : F .ring = true) (k_maint : F .maint = true) (k_ing : F .ing = true) (k_heads : F .heads = true) (k_links : F .links = true) {s : State} {o : Nat} {w : Tab Word} {p : Nat → Bool} (h_s : P s) : P (applyWrites s o w p) := by
    unfold applyWrites
    try dsimp only
    repeat' first
      | with_reducible assumption
      | with_reducible apply applyStaged_foot hP k_regs k_out k_router k_ring k_maint k_ing k_heads k_links
      | (with_reducible refine foldl_inv P _ (fun _ _ _ => ?_) _ _ ?_)
      | with_reducible apply ite_closed
      | (intro _ _)
      | (intro _)
      | dsimp only
      | split

theorem txnOutcome_foot (hP : Closed F P) (k_regs : F .regs = true) (k_ring : F .ring = true) (k_txn : F .txn = true) {s : State} {t : Nat} {status : Nat} (h_s : P s) : P (txnOutcome s t status) := by
    unfold txnOutcome
    try dsimp only
    repeat' first
      | with_reducible assumption
      | with_reducible apply putTxn_foot hP k_txn
      | with_reducible apply Closed.wr hP k_regs
      | with_reducible apply ite_closed
      | (intro _ _)
      | (intro _)
      | dsimp only
      | split
      | (with_reducible apply Closed.ring hP k_ring)

theorem txnFail_foot (hP : Closed F P) (k_regs : F .regs = true) (k_out : F .out = true) (k_router : F .router = true) (k_ring : F .ring = true) (k_txn : F .txn = true) (k_maint : F .maint = true) {s : State} {t : Nat} {status : Nat} {offset : Nat} (h_s : P s) : P (txnFail s t status offset) := by
    unfold txnFail
    try dsimp only
    repeat' first
      | with_reducible assumption
      | with_reducible apply putTxn_foot hP k_txn
      | with_reducible apply State.raise_foot hP k_regs k_out k_router k_maint
      | with_reducible apply txnOutcome_foot hP k_regs k_ring k_txn
      | with_reducible apply Closed.wr hP k_regs
      | with_reducible apply ite_closed
      | (intro _ _)
      | (intro _)
      | dsimp only
      | split

theorem txnDone_foot (hP : Closed F P) (k_regs : F .regs = true) (k_out : F .out = true) (k_router : F .router = true) (k_ring : F .ring = true) (k_txn : F .txn = true) (k_maint : F .maint = true) {s : State} {t : Nat} (h_s : P s) : P (txnDone s t) := by
    unfold txnDone
    try dsimp only
    repeat' first
      | with_reducible assumption
      | with_reducible apply State.raise_foot hP k_regs k_out k_router k_maint
      | with_reducible apply txnOutcome_foot hP k_regs k_ring k_txn
      | with_reducible apply ite_closed
      | (intro _ _)
      | (intro _)
      | dsimp only
      | split

theorem txnSettle_foot (hP : Closed F P) (k_regs : F .regs = true) (k_out : F .out = true) (k_router : F .router = true) (k_ring : F .ring = true) (k_txn : F .txn = true) (k_maint : F .maint = true) {s : State} {t : Nat} (h_s : P s) : P (txnSettle s t) := by
    unfold txnSettle
    try dsimp only
    repeat' first
      | with_reducible assumption
      | with_reducible apply txnDone_foot hP k_regs k_out k_router k_ring k_txn k_maint
      | with_reducible apply ite_closed
      | (intro _ _)
      | (intro _)
      | dsimp only
      | split

theorem txnBegin_foot (hP : Closed F P) (k_regs : F .regs = true) (k_out : F .out = true) (k_router : F .router = true) (k_ring : F .ring = true) (k_txn : F .txn = true) (k_maint : F .maint = true) (k_ing : F .ing = true) (k_heads : F .heads = true) (k_links : F .links = true) {s : State} {t : Nat} {recheck : Bool} (h_s : P s) : P (txnBegin s t recheck).1 := by
    change FstP P _
    unfold txnBegin
    try dsimp only
    repeat' first
      | with_reducible assumption
      | (intro _ _ _)
      | with_reducible apply ite_closed
      | with_reducible apply txnFail_foot hP k_regs k_out k_router k_ring k_txn k_maint
      | with_reducible apply applyWrites_foot hP k_regs k_out k_router k_ring k_maint k_ing k_heads k_links
      | with_reducible apply txnSettle_foot hP k_regs k_out k_router k_ring k_txn k_maint
      | with_reducible apply putTxn_foot hP k_txn
      | (with_reducible exact fstP_elim (by assumption))
      | with_reducible apply foldl_fst
      | with_reducible apply ite_closed
      | (intro _ _)
      | (intro _)
      | dsimp only
      | split
      | with_reducible apply fstP_mk

theorem txnApplyHead_foot (hP : Closed F P) (k_regs : F .regs = true) (k_out : F .out = true) (k_router : F .router = true) (k_ring : F .ring = true) (k_txn : F .txn = true) (k_maint : F .maint = true) (k_ing : F .ing = true) (k_heads : F .heads = true) (k_links : F .links = true) {s : State} {t : Nat} {x2 : Nat} {field : Word} (h_s : P s) : P (txnApplyHead s t x2 field) := by
    unfold txnApplyHead
    try dsimp only
    repeat' first
      | with_reducible assumption
      | with_reducible apply applyWrites_foot hP k_regs k_out k_router k_ring k_maint k_ing k_heads k_links
      | with_reducible apply txnSettle_foot hP k_regs k_out k_router k_ring k_txn k_maint
      | with_reducible apply putTxn_foot hP k_txn
      | with_reducible apply ite_closed
      | (intro _ _)
      | (intro _)
      | dsimp only
      | split

theorem latchTxns_foot (hP : Closed F P) (k_regs : F .regs = true) (k_out : F .out = true) (k_router : F .router = true) (k_ring : F .ring = true) (k_txn : F .txn = true) (k_maint : F .maint = true) (k_ing : F .ing = true) (k_heads : F .heads = true) (k_links : F .links = true) {s : State} {x1 : Nat} {field : Word} (h_s : P s) : P (latchTxns s x1 field) := by
    unfold latchTxns
    try dsimp only
    repeat' first
      | with_reducible assumption
      | with_reducible apply txnBegin_foot hP k_regs k_out k_router k_ring k_txn k_maint k_ing k_heads k_links
      | (with_reducible apply fstP_of; with_reducible apply txnBegin_foot hP k_regs k_out k_router k_ring k_txn k_maint k_ing k_heads k_links)
      | with_reducible apply txnApplyHead_foot hP k_regs k_out k_router k_ring k_txn k_maint k_ing k_heads k_links
      | (with_reducible exact fstP_elim (by assumption))
      | with_reducible apply foldl_fst
      | (with_reducible refine foldl_inv P _ (fun _ _ _ => ?_) _ _ ?_)
      | with_reducible apply ite_closed
      | (intro _ _)
      | (intro _)
      | dsimp only
      | split
      | with_reducible apply fstP_mk

theorem disabledTxns_foot (hP : Closed F P) (k_regs : F .regs = true) (k_out : F .out = true) (k_router : F .router = true) (k_ring : F .ring = true) (k_txn : F .txn = true) (k_maint : F .maint = true) (k_ing : F .ing = true) (k_heads : F .heads = true) (k_links : F .links = true) {s : State} {x1 : Nat} (h_s : P s) : P (disabledTxns s x1) := by
    unfold disabledTxns
    try dsimp only
    repeat' first
      | with_reducible assumption
      | with_reducible apply txnApplyHead_foot hP k_regs k_out k_router k_ring k_txn k_maint k_ing k_heads k_links
      | (with_reducible refine foldl_inv P _ (fun _ _ _ => ?_) _ _ ?_)
      | with_reducible apply ite_closed
      | (intro _ _)
      | (intro _)
      | dsimp only
      | split

theorem txnCommand_foot (hP : Closed F P) (k_regs : F .regs = true) (k_out : F .out = true) (k_router : F .router = true) (k_maint : F .maint = true) {s : State} {req : Requester} {g : State → State} (h_s : P s) (h_g : ∀ y0, P y0 → P (g y0)) : P (txnCommand s req g) := by
    unfold txnCommand
    try dsimp only
    repeat' first
      | with_reducible assumption
      | with_reducible apply gatedIf_foot hP k_regs k_out k_router k_maint
      | with_reducible apply h_g
      | with_reducible apply ite_closed
      | (intro _ _)
      | (intro _)
      | dsimp only
      | split

theorem txnOpen_foot (hP : Closed F P) (k_regs : F .regs = true) (k_txn : F .txn = true) {s : State} {req : Requester} (h_s : P s) : P (txnOpen s req) := by
    unfold txnOpen
    try dsimp only
    repeat' first
      | with_reducible assumption
      | with_reducible apply txnLast_foot hP k_txn
      | with_reducible apply putTxn_foot hP k_txn
      | with_reducible apply Closed.wr hP k_regs
      | with_reducible apply ite_closed
      | (intro _ _)
      | (intro _)
      | dsimp only
      | split

theorem execBeginTxn_foot (hP : Closed F P) (k_regs : F .regs = true) (k_out : F .out = true) (k_router : F .router = true) (k_txn : F .txn = true) (k_maint : F .maint = true) {req : Requester} {s : State} (h_s : P s) : OutP P (execBeginTxn req s) := by
    unfold execBeginTxn
    try dsimp only
    repeat' first
      | with_reducible assumption
      | with_reducible apply outP_next
      | with_reducible apply outP_done
      | with_reducible apply txnCommand_foot hP k_regs k_out k_router k_maint
      | with_reducible apply txnOpen_foot hP k_regs k_txn
      | with_reducible apply ite_closed
      | (intro _ _)
      | (intro _)
      | dsimp only
      | split

theorem stage_foot (hP : Closed F P) (k_regs : F .regs = true) (k_txn : F .txn = true) {s : State} {t : Nat} {v : Word} (h_s : P s) : P (stage s t v) := by
    unfold stage
    try dsimp only
    repeat' first
      | with_reducible assumption
      | with_reducible apply putTxn_foot hP k_txn
      | with_reducible apply Closed.setF hP k_regs
      | with_reducible apply Closed.wr hP k_regs
      | with_reducible apply ite_closed
      | (intro _ _)
      | (intro _)
      | dsimp only
      | split

theorem execStageDataWrite_foot (hP : Closed F P) (k_regs : F .regs = true) (k_out : F .out = true) (k_router : F .router = true) (k_txn : F .txn = true) (k_maint : F .maint = true) {req : Requester} {t : Fin 4} {value : Word} {s : State} (h_s : P s) : OutP P (execStageDataWrite req t value s) := by
    unfold execStageDataWrite
    try dsimp only
    repeat' first
      | with_reducible assumption
      | with_reducible apply outP_next
      | with_reducible apply outP_done
      | with_reducible apply gatedIf_foot hP k_regs k_out k_router k_maint
      | with_reducible apply stage_foot hP k_regs k_txn
      | with_reducible apply ite_closed
      | (intro _ _)
      | (intro _)
      | dsimp only
      | split

theorem commitCommand_foot (hP : Closed F P) (k_regs : F .regs = true) (k_out : F .out = true) (k_router : F .router = true) (k_txn : F .txn = true) (k_maint : F .maint = true) {s : State} {req : Requester} {v : Word} (h_s : P s) : P (commitCommand s req v) := by
    unfold commitCommand
    try dsimp only
    repeat' first
      | with_reducible assumption
      | with_reducible apply putTxn_foot hP k_txn
      | with_reducible apply txnLast_foot hP k_txn
      | with_reducible apply refuse_foot hP k_regs k_out k_router k_maint
      | with_reducible apply Closed.wr hP k_regs
      | with_reducible apply Closed.setB hP k_regs
      | with_reducible apply ite_closed
      | (intro _ _)
      | (intro _)
      | dsimp only
      | split

theorem execCommitTxn_foot (hP : Closed F P) (k_regs : F .regs = true) (k_out : F .out = true) (k_router : F .router = true) (k_txn : F .txn = true) (k_maint : F .maint = true) {req : Requester} {value : Word} {s : State} (h_s : P s) : OutP P (execCommitTxn req value s) := by
    unfold execCommitTxn
    try dsimp only
    repeat' first
      | with_reducible assumption
      | with_reducible apply outP_next
      | with_reducible apply outP_done
      | with_reducible apply txnCommand_foot hP k_regs k_out k_router k_maint
      | with_reducible apply commitCommand_foot hP k_regs k_out k_router k_txn k_maint
      | with_reducible apply ite_closed
      | (intro _ _)
      | (intro _)
      | dsimp only
      | split

theorem rollbackCommand_foot (hP : Closed F P) (k_regs : F .regs = true) (k_out : F .out = true) (k_router : F .router = true) (k_ring : F .ring = true) (k_txn : F .txn = true) (k_sched : F .sched = true) (k_maint : F .maint = true) {s : State} {req : Requester} {t : Nat} (h_s : P s) : P (rollbackCommand s req t) := by
    unfold rollbackCommand
    try dsimp only
    repeat' first
      | with_reducible assumption
      | with_reducible apply refuse_foot hP k_regs k_out k_router k_maint
      | with_reducible apply txnLast_foot hP k_txn
      | with_reducible apply slotEnd_foot hP k_regs k_out k_router k_sched k_maint
      | with_reducible apply putTxn_foot hP k_txn
      | with_reducible apply State.raise_foot hP k_regs k_out k_router k_maint
      | with_reducible apply txnOutcome_foot hP k_regs k_ring k_txn
      | with_reducible apply ite_closed
      | (intro _ _)
      | (intro _)
      | dsimp only
      | split

theorem execRollback_foot (hP : Closed F P) (k_regs : F .regs = true) (k_out : F .out = true) (k_router : F .router = true) (k_ring : F .ring = true) (k_txn : F .txn = true) (k_sched : F .sched = true) (k_maint : F .maint = true) {req : Requester} {t : Fin 4} {s : State} (h_s : P s) : OutP P (execRollback req t s) := by
    unfold execRollback
    try dsimp only
    repeat' first
      | with_reducible assumption
      | with_reducible apply outP_next
      | with_reducible apply outP_done
      | with_reducible apply txnCommand_foot hP k_regs k_out k_router k_maint
      | with_reducible apply rollbackCommand_foot hP k_regs k_out k_router k_ring k_txn k_sched k_maint
      | with_reducible apply ite_closed
      | (intro _ _)
      | (intro _)
      | dsimp only
      | split

theorem txnSlotEnded_foot (hP : Closed F P) (k_regs : F .regs = true) (k_out : F .out = true) (k_router : F .router = true) (k_ring : F .ring = true) (k_txn : F .txn = true) (k_maint : F .maint = true) {s : State} {t : Nat} (h_s : P s) : P (txnSlotEnded s t) := by
    unfold txnSlotEnded
    try dsimp only
    repeat' first
      | with_reducible assumption
      | with_reducible apply State.raise_foot hP k_regs k_out k_router k_maint
      | with_reducible apply txnOutcome_foot hP k_regs k_ring k_txn
      | with_reducible apply putTxn_foot hP k_txn
      | with_reducible apply ite_closed
      | (intro _ _)
      | (intro _)
      | dsimp only
      | split

theorem slotAborted_foot (hP : Closed F P) (k_regs : F .regs = true) (k_out : F .out = true) (k_router : F .router = true) (k_ring : F .ring = true) (k_txn : F .txn = true) (k_sched : F .sched = true) (k_maint : F .maint = true) {s : State} {i : Nat} (h_s : P s) : P (slotAborted s i) := by
    unfold slotAborted
    try dsimp only
    repeat' first
      | with_reducible assumption
      | with_reducible apply slotEnd_foot hP k_regs k_out k_router k_sched k_maint
      | with_reducible apply txnSlotEnded_foot hP k_regs k_out k_router k_ring k_txn k_maint
      | with_reducible apply ite_closed
      | (intro _ _)
      | (intro _)
      | dsimp only
      | split

theorem noteForeign_foot (hP : Closed F P) (k_txn : F .txn = true) {s : State} {t : Nat} (h_s : P s) : P (noteForeign s t) := by
    unfold noteForeign
    try dsimp only
    repeat' first
      | with_reducible assumption
      | with_reducible apply putTxn_foot hP k_txn
      | (with_reducible refine foldl_inv P _ (fun _ _ _ => ?_) _ _ ?_)
      | with_reducible apply ite_closed
      | (intro _ _)
      | (intro _)
      | dsimp only
      | split

theorem txnArm_foot (hP : Closed F P) (k_regs : F .regs = true) (k_txn : F .txn = true) {s : State} {t : Nat} (h_s : P s) : P (txnArm s t) := by
    unfold txnArm
    try dsimp only
    repeat' first
      | with_reducible assumption
      | with_reducible apply putTxn_foot hP k_txn
      | with_reducible apply Closed.wr hP k_regs
      | with_reducible apply Closed.setF hP k_regs
      | with_reducible apply ite_closed
      | (intro _ _)
      | (intro _)
      | dsimp only
      | split
      | (with_reducible apply Closed.txn hP k_txn)

theorem txnLate_foot (hP : Closed F P) (k_regs : F .regs = true) (k_out : F .out = true) (k_router : F .router = true) (k_ring : F .ring = true) (k_txn : F .txn = true) (k_maint : F .maint = true) {s : State} {t : Nat} (h_s : P s) : P (txnLate s t) := by
    unfold txnLate
    try dsimp only
    repeat' first
      | with_reducible assumption
      | with_reducible apply State.raise_foot hP k_regs k_out k_router k_maint
      | with_reducible apply txnOutcome_foot hP k_regs k_ring k_txn
      | with_reducible apply putTxn_foot hP k_txn
      | with_reducible apply ite_closed
      | (intro _ _)
      | (intro _)
      | dsimp only
      | split

theorem txnSlot_foot (hP : Closed F P) (k_regs : F .regs = true) (k_out : F .out = true) (k_router : F .router = true) (k_ring : F .ring = true) (k_txn : F .txn = true) (k_sched : F .sched = true) (k_maint : F .maint = true) {s : State} {t : Nat} (h_s : P s) : P (txnSlot s t) := by
    unfold txnSlot
    try dsimp only
    repeat' first
      | with_reducible assumption
      | with_reducible apply armSlot_foot hP k_regs k_out k_router k_sched k_maint
      | (with_reducible apply fstP_of; with_reducible apply armSlot_foot hP k_regs k_out k_router k_sched k_maint)
      | with_reducible apply txnLate_foot hP k_regs k_out k_router k_ring k_txn k_maint
      | (with_reducible exact fstP_elim (by assumption))
      | with_reducible apply foldl_fst
      | with_reducible apply Closed.wr hP k_regs
      | with_reducible apply ite_closed
      | (intro _ _)
      | (intro _)
      | dsimp only
      | split
      | with_reducible apply fstP_mk

theorem validate_foot (hP : Closed F P) (k_regs : F .regs = true) (k_out : F .out = true) (k_router : F .router = true) (k_ring : F .ring = true) (k_txn : F .txn = true) (k_sched : F .sched = true) (k_maint : F .maint = true) (k_ing : F .ing = true) (k_heads : F .heads = true) (k_links : F .links = true) {s : State} {t : Nat} (h_s : P s) : P (validate s t) := by
    unfold validate
    try dsimp only
    repeat' first
      | with_reducible assumption
      | with_reducible apply txnFail_foot hP k_regs k_out k_router k_ring k_txn k_maint
      | with_reducible apply txnArm_foot hP k_regs k_txn
      | with_reducible apply noteForeign_foot hP k_txn
      | with_reducible apply txnDone_foot hP k_regs k_out k_router k_ring k_txn k_maint
      | with_reducible apply putTxn_foot hP k_txn
      | with_reducible apply txnSlot_foot hP k_regs k_out k_router k_ring k_txn k_sched k_maint
      | with_reducible apply txnBegin_foot hP k_regs k_out k_router k_ring k_txn k_maint k_ing k_heads k_links
      | (with_reducible apply fstP_of; with_reducible apply txnBegin_foot hP k_regs k_out k_router k_ring k_txn k_maint k_ing k_heads k_links)
      | (with_reducible exact fstP_elim (by assumption))
      | with_reducible apply foldl_fst
      | with_reducible apply ite_closed
      | (intro _ _)
      | (intro _)
      | dsimp only
      | split
      | with_reducible apply fstP_mk

theorem execCommitValidationComplete_foot (hP : Closed F P) (k_regs : F .regs = true) (k_out : F .out = true) (k_router : F .router = true) (k_ring : F .ring = true) (k_txn : F .txn = true) (k_sched : F .sched = true) (k_maint : F .maint = true) (k_ing : F .ing = true) (k_heads : F .heads = true) (k_links : F .links = true) {t : Fin 4} {s : State} (h_s : P s) : OutP P (execCommitValidationComplete t s) := by
    unfold execCommitValidationComplete
    try dsimp only
    repeat' first
      | with_reducible assumption
      | with_reducible apply outP_next
      | with_reducible apply outP_done
      | with_reducible apply validate_foot hP k_regs k_out k_router k_ring k_txn k_sched k_maint k_ing k_heads k_links
      | with_reducible apply ite_closed
      | (intro _ _)
      | (intro _)
      | dsimp only
      | split

end Sys2Proof.Machine
end

