-- ==== Sys2Proof/Laws/FootFields.lean ====
section
/-!
SUPPORT. Footprints of the definitions of Machine/Fields.lean: which parts of the state each of them may update.
-/
namespace Sys2Proof.Machine

variable {F : Part → Bool} {P : State → Prop}

theorem putShadows_foot (hP : Closed F P) (k_eff : F .eff = true) {s : State} {x1 : Nat} (h_s : P s) : P (putShadows s x1) := by
    unfold putShadows
    try dsimp only
    repeat' first
      | with_reducible assumption
      | (with_reducible refine foldl_inv P _ (fun _ _ _ => ?_) _ _ ?_)
      | with_reducible apply Closed.putEff hP k_eff
      | with_reducible apply ite_closed
      | (intro _ _)
      | (intro _)
      | dsimp only
      | split

theorem layerCommit_foot (hP : Closed F P) (k_regs : F .regs = true) (k_eff : F .eff = true) (k_out : F .out = true) (k_router : F .router = true) (k_maint : F .maint = true) {s : State} {x1 : Fin 4} {field : Word} (h_s : P s) : P (layerCommit s x1 field) := by
    unfold layerCommit
    try dsimp only
    repeat' first
      | with_reducible assumption
      | with_reducible apply State.raise_foot hP k_regs k_out k_router k_maint
      | with_reducible apply putShadows_foot hP k_eff
      | with_reducible apply Closed.setB hP k_regs
      | with_reducible apply ite_closed
      | (intro _ _)
      | (intro _)
      | dsimp only
      | split

theorem putSwitch_foot (hP : Closed F P) (k_heads : F .heads = true) {s : State} {g : Nat} {q : Int × Nat × Nat × Nat × Int × Nat} (h_s : P s) : P (putSwitch s g q) := by
    unfold putSwitch
    try dsimp only
    repeat' first
      | with_reducible assumption
      | with_reducible apply putHead_foot hP k_heads
      | (with_reducible refine foldl_inv P _ (fun _ _ _ => ?_) _ _ ?_)
      | with_reducible apply ite_closed
      | (intro _ _)
      | (intro _)
      | dsimp only
      | split

theorem takeTiming_foot (hP : Closed F P) (k_regs : F .regs = true) (k_out : F .out = true) (k_router : F .router = true) (k_maint : F .maint = true) (k_heads : F .heads = true) {s : State} {x1 : Fin 4} {T : Int} {old : Tab Word} {cfg : Tab Word} {num1 : Word} (h_s : P s) : P (takeTiming s x1 T old cfg num1) := by
    unfold takeTiming
    try dsimp only
    repeat' first
      | with_reducible assumption
      | with_reducible apply putHead_foot hP k_heads
      | with_reducible apply putSwitch_foot hP k_heads
      | with_reducible apply State.raise_foot hP k_regs k_out k_router k_maint
      | with_reducible apply Closed.wr hP k_regs
      | with_reducible apply ite_closed
      | (intro _ _)
      | (intro _)
      | dsimp only
      | split

theorem readPresented_foot (hP : Closed F P) (k_regs : F .regs = true) (k_out : F .out = true) (k_freeCount : F .freeCount = true) (k_router : F .router = true) (k_maint : F .maint = true) (k_memory : F .memory = true) {s : State} {x1 : Nat} {bank : Nat} {mode : Nat} (h_s : P s) : P (readPresented s x1 bank mode) := by
    unfold readPresented
    try dsimp only
    repeat' first
      | with_reducible assumption
      | with_reducible apply touch_foot hP k_regs k_out k_router k_maint k_memory
      | (with_reducible refine foldl_inv P _ (fun _ _ _ => ?_) _ _ ?_)
      | with_reducible apply Closed.useFree hP k_freeCount
      | with_reducible apply ite_closed
      | (intro _ _)
      | (intro _)
      | dsimp only
      | split

theorem settleBanks_foot (hP : Closed F P) (k_regs : F .regs = true) (k_out : F .out = true) (k_router : F .router = true) (k_maint : F .maint = true) {s : State} {x1 : Fin 4} (h_s : P s) : P (settleBanks s x1) := by
    unfold settleBanks
    try dsimp only
    repeat' first
      | with_reducible assumption
      | with_reducible apply State.raise_foot hP k_regs k_out k_router k_maint
      | (with_reducible refine foldl_inv P _ (fun _ _ _ => ?_) _ _ ?_)
      | with_reducible apply Closed.setB hP k_regs
      | with_reducible apply ite_closed
      | (intro _ _)
      | (intro _)
      | dsimp only
      | split

theorem storesFetched_foot (hP : Closed F P) (k_ing : F .ing = true) {s : State} {x1 : Nat} (h_s : P s) : P (storesFetched s x1) := by
    unfold storesFetched
    try dsimp only
    repeat' first
      | with_reducible assumption
      | with_reducible apply putStore_foot hP k_ing
      | (with_reducible refine foldl_inv P _ (fun _ _ _ => ?_) _ _ ?_)
      | with_reducible apply ite_closed
      | (intro _ _)
      | (intro _)
      | dsimp only
      | split

theorem fieldFetched_foot (hP : Closed F P) (k_regs : F .regs = true) (k_out : F .out = true) (k_router : F .router = true) (k_maint : F .maint = true) (k_ing : F .ing = true) {s : State} {x1 : Fin 4} (h_s : P s) : P (fieldFetched s x1) := by
    unfold fieldFetched
    try dsimp only
    repeat' first
      | with_reducible assumption
      | with_reducible apply settleBanks_foot hP k_regs k_out k_router k_maint
      | with_reducible apply storesFetched_foot hP k_ing
      | with_reducible apply ite_closed
      | (intro _ _)
      | (intro _)
      | dsimp only
      | split

theorem releaseBuffer_foot (hP : Closed F P) (k_regs : F .regs = true) (k_out : F .out = true) (k_router : F .router = true) (k_maint : F .maint = true) (k_heads : F .heads = true) {s : State} {x1 : Fin 4} {k : Nat} (h_s : P s) : P (releaseBuffer s x1 k) := by
    unfold releaseBuffer
    try dsimp only
    repeat' first
      | with_reducible assumption
      | with_reducible apply putHead_foot hP k_heads
      | with_reducible apply State.raise_foot hP k_regs k_out k_router k_maint
      | with_reducible apply Closed.wr hP k_regs
      | with_reducible apply ite_closed
      | (intro _ _)
      | (intro _)
      | dsimp only
      | split

theorem showIssuing_foot (hP : Closed F P) (k_regs : F .regs = true) {s : State} {x1 : Nat} (h_s : P s) : P (showIssuing s x1) := by
    unfold showIssuing
    try dsimp only
    repeat' first
      | with_reducible assumption
      | with_reducible apply Closed.setB hP k_regs
      | with_reducible apply ite_closed
      | (intro _ _)
      | (intro _)
      | dsimp only
      | split

theorem readHeader_foot (hP : Closed F P) (k_regs : F .regs = true) (k_out : F .out = true) (k_router : F .router = true) (k_maint : F .maint = true) (k_memory : F .memory = true) {s : State} {x1 : Fin 4} {x2 : FieldSt} (h_s : P s) : P (readHeader s x1 x2).1 := by
    change FstP P _
    unfold readHeader
    try dsimp only
    repeat' first
      | with_reducible assumption
      | (intro _ _ _)
      | with_reducible apply ite_closed
      | with_reducible apply touch_foot hP k_regs k_out k_router k_maint k_memory
      | with_reducible apply noteFetch_foot hP k_regs k_out k_router k_maint
      | (with_reducible exact fstP_elim (by assumption))
      | with_reducible apply foldl_fst
      | with_reducible apply ite_closed
      | (intro _ _)
      | (intro _)
      | dsimp only
      | split
      | with_reducible apply fstP_mk

theorem notePlanes_foot (hP : Closed F P) (k_regs : F .regs = true) {s : State} {x1 : Nat} {cur : FieldSt} {nx : FieldSt} (h_s : P s) : P (notePlanes s x1 cur nx).1 := by
    change FstP P _
    unfold notePlanes
    try dsimp only
    repeat' first
      | with_reducible assumption
      | (intro _ _ _)
      | with_reducible apply ite_closed
      | (with_reducible exact fstP_elim (by assumption))
      | with_reducible apply foldl_fst
      | with_reducible apply Closed.inc hP k_regs
      | with_reducible apply ite_closed
      | (intro _ _)
      | (intro _)
      | dsimp only
      | split
      | with_reducible apply fstP_mk

theorem fixVariants_foot (hP : Closed F P) (k_regs : F .regs = true) (k_out : F .out = true) (k_freeCount : F .freeCount = true) (k_router : F .router = true) (k_maint : F .maint = true) (k_memory : F .memory = true) {s : State} {x1 : Fin 4} {S : Int} {cur : FieldSt} {x4 : FieldSt} (h_s : P s) : P (fixVariants s x1 S cur x4).1 := by
    change FstP P _
    unfold fixVariants
    try dsimp only
    repeat' first
      | with_reducible assumption
      | (intro _ _ _)
      | with_reducible apply ite_closed
      | with_reducible apply readPresented_foot hP k_regs k_out k_freeCount k_router k_maint k_memory
      | (with_reducible exact fstP_elim (by assumption))
      | with_reducible apply foldl_fst
      | with_reducible apply Closed.incBy hP k_regs
      | with_reducible apply ite_closed
      | (intro _ _)
      | (intro _)
      | dsimp only
      | split
      | with_reducible apply fstP_mk

theorem fixField_foot (hP : Closed F P) (k_regs : F .regs = true) (k_out : F .out = true) (k_freeCount : F .freeCount = true) (k_router : F .router = true) (k_maint : F .maint = true) (k_memory : F .memory = true) (k_heads : F .heads = true) {s : State} {x1 : Fin 4} {S : Int} {cur : FieldSt} {num : Word} {produced : Bool} (h_s : P s) : P (fixField s x1 S cur num produced).1 := by
    change FstP P _
    unfold fixField
    try dsimp only
    repeat' first
      | with_reducible assumption
      | (intro _ _ _)
      | with_reducible apply ite_closed
      | with_reducible apply fixVariants_foot hP k_regs k_out k_freeCount k_router k_maint k_memory
      | (with_reducible apply fstP_of; with_reducible apply fixVariants_foot hP k_regs k_out k_freeCount k_router k_maint k_memory)
      | with_reducible apply notePlanes_foot hP k_regs
      | (with_reducible apply fstP_of; with_reducible apply notePlanes_foot hP k_regs)
      | with_reducible apply putHead_foot hP k_heads
      | (with_reducible exact fstP_elim (by assumption))
      | with_reducible apply foldl_fst
      | with_reducible apply ite_closed
      | (intro _ _)
      | (intro _)
      | dsimp only
      | split
      | with_reducible apply fstP_mk

theorem fixPolarity_foot (hP : Closed F P) (k_regs : F .regs = true) (k_out : F .out = true) (k_router : F .router = true) (k_maint : F .maint = true) (k_heads : F .heads = true) {s : State} {x1 : Fin 4} {x2 : FieldSt} (h_s : P s) : P (fixPolarity s x1 x2).1 := by
    change FstP P _
    unfold fixPolarity
    try dsimp only
    repeat' first
      | with_reducible assumption
      | (intro _ _ _)
      | with_reducible apply ite_closed
      | with_reducible apply State.raise_foot hP k_regs k_out k_router k_maint
      | with_reducible apply putHead_foot hP k_heads
      | (with_reducible exact fstP_elim (by assumption))
      | with_reducible apply foldl_fst
      | with_reducible apply Closed.inc hP k_regs
      | with_reducible apply ite_closed
      | (intro _ _)
      | (intro _)
      | dsimp only
      | split
      | with_reducible apply fstP_mk

theorem startGenerator_foot (hP : Closed F P) (k_regs : F .regs = true) (k_out : F .out = true) (k_power : F .power = true) (k_router : F .router = true) (k_maint : F .maint = true) (k_heads : F .heads = true) (k_perf : F .perf = true) {s : State} {x1 : Fin 4} (h_s : P s) : P (startGenerator s x1) := by
    unfold startGenerator
    try dsimp only
    repeat' first
      | with_reducible assumption
      | with_reducible apply settleGroup_foot hP k_regs k_out k_router k_maint k_heads
      | with_reducible apply putHead_foot hP k_heads
      | with_reducible apply setHeadState_foot hP k_regs
      | with_reducible apply headFollows_foot hP k_regs k_out k_power k_router k_maint k_heads k_perf
      | with_reducible apply Closed.wr hP k_regs
      | with_reducible apply ite_closed
      | (intro _ _)
      | (intro _)
      | dsimp only
      | split

theorem latchWork_foot (hP : Closed F P) (k_regs : F .regs = true) (k_eff : F .eff = true) (k_out : F .out = true) (k_freeCount : F .freeCount = true) (k_power : F .power = true) (k_router : F .router = true) (k_ring : F .ring = true) (k_txn : F .txn = true) (k_maint : F .maint = true) (k_memory : F .memory = true) (k_ing : F .ing = true) (k_heads : F .heads = true) (k_links : F .links = true) (k_perf : F .perf = true) {s : State} {x1 : Fin 4} (h_s : P s) : P (latchWork s x1) := by
    unfold latchWork
    try dsimp only
    repeat' first
      | with_reducible assumption
      | with_reducible apply startGenerator_foot hP k_regs k_out k_power k_router k_maint k_heads k_perf
      | with_reducible apply selectFrames_foot hP k_ing
      | with_reducible apply latchTxns_foot hP k_regs k_out k_router k_ring k_txn k_maint k_ing k_heads k_links
      | with_reducible apply layerCommit_foot hP k_regs k_eff k_out k_router k_maint
      | with_reducible apply fixField_foot hP k_regs k_out k_freeCount k_router k_maint k_memory k_heads
      | (with_reducible apply fstP_of; with_reducible apply fixField_foot hP k_regs k_out k_freeCount k_router k_maint k_memory k_heads)
      | with_reducible apply takeTiming_foot hP k_regs k_out k_router k_maint k_heads
      | with_reducible apply fixPolarity_foot hP k_regs k_out k_router k_maint k_heads
      | (with_reducible apply fstP_of; with_reducible apply fixPolarity_foot hP k_regs k_out k_router k_maint k_heads)
      | with_reducible apply glintLatch_foot hP k_perf
      | with_reducible apply wbLatch_foot hP k_regs k_out k_router k_maint k_heads
      | (with_reducible apply fstP_of; with_reducible apply wbLatch_foot hP k_regs k_out k_router k_maint k_heads)
      | with_reducible apply putHead_foot hP k_heads
      | with_reducible apply showIssuing_foot hP k_regs
      | with_reducible apply showPhase_foot hP k_regs
      | with_reducible apply fieldFetched_foot hP k_regs k_out k_router k_maint k_ing
      | (with_reducible exact fstP_elim (by assumption))
      | with_reducible apply foldl_fst
      | with_reducible apply Closed.setB hP k_regs
      | with_reducible apply ite_closed
      | (intro _ _)
      | (intro _)
      | dsimp only
      | split
      | with_reducible apply fstP_mk

theorem headStop_foot (hP : Closed F P) (k_regs : F .regs = true) (k_out : F .out = true) (k_router : F .router = true) (k_maint : F .maint = true) (k_ing : F .ing = true) (k_heads : F .heads = true) (k_links : F .links = true) (k_keeper : F .keeper = true) (k_perf : F .perf = true) {s : State} {x1 : Fin 4} (h_s : P s) : P (headStop s x1) := by
    unfold headStop
    try dsimp only
    repeat' first
      | with_reducible assumption
      | with_reducible apply gateEdgesStop_foot hP k_keeper
      | with_reducible apply settleGroup_foot hP k_regs k_out k_router k_maint k_heads
      | with_reducible apply glintAbandon_foot hP k_perf
      | with_reducible apply wbAbort_foot hP k_regs k_heads
      | with_reducible apply putHead_foot hP k_heads
      | with_reducible apply settleBanks_foot hP k_regs k_out k_router k_maint
      | with_reducible apply storesFetched_foot hP k_ing
      | with_reducible apply showIssuing_foot hP k_regs
      | with_reducible apply showPhase_foot hP k_regs
      | with_reducible apply linkStop_foot hP k_regs k_out k_links
      | with_reducible apply setHeadState_foot hP k_regs
      | with_reducible apply Closed.setF hP k_regs
      | with_reducible apply Closed.wr hP k_regs
      | with_reducible apply Closed.setB hP k_regs
      | with_reducible apply ite_closed
      | (intro _ _)
      | (intro _)
      | dsimp only
      | split

theorem showLayer_foot (hP : Closed F P) (k_regs : F .regs = true) {x0 : FieldSt} {x1 : Nat} {s : State} {k : Nat} (h_s : P s) : P (showLayer x0 x1 s k) := by
    unfold showLayer
    try dsimp only
    repeat' first
      | with_reducible assumption
      | with_reducible apply Closed.wr hP k_regs
      | with_reducible apply ite_closed
      | (intro _ _)
      | (intro _)
      | dsimp only
      | split

theorem showRgu_foot (hP : Closed F P) (k_regs : F .regs = true) (k_out : F .out = true) (k_router : F .router = true) (k_maint : F .maint = true) {s : State} {x1 : Fin 4} {x2 : FieldSt} (h_s : P s) : P (showRgu s x1 x2) := by
    unfold showRgu
    try dsimp only
    repeat' first
      | with_reducible assumption
      | with_reducible apply State.raise_foot hP k_regs k_out k_router k_maint
      | with_reducible apply Closed.setB hP k_regs
      | with_reducible apply Closed.setF hP k_regs
      | with_reducible apply Closed.wr hP k_regs
      | with_reducible apply ite_closed
      | (intro _ _)
      | (intro _)
      | dsimp only
      | split

theorem endMargin_foot (hP : Closed F P) (k_regs : F .regs = true) (k_out : F .out = true) (k_router : F .router = true) (k_maint : F .maint = true) {s : State} {x1 : Fin 4} {x2 : FieldSt} (h_s : P s) : P (endMargin s x1 x2) := by
    unfold endMargin
    try dsimp only
    repeat' first
      | with_reducible assumption
      | with_reducible apply State.raise_foot hP k_regs k_out k_router k_maint
      | with_reducible apply Closed.wr hP k_regs
      | with_reducible apply ite_closed
      | (intro _ _)
      | (intro _)
      | dsimp only
      | split

theorem endInflight_foot (hP : Closed F P) (k_regs : F .regs = true) {s : State} {x1 : Nat} {x2 : FieldSt} (h_s : P s) : P (endInflight s x1 x2) := by
    unfold endInflight
    try dsimp only
    repeat' first
      | with_reducible assumption
      | with_reducible apply Closed.wr hP k_regs
      | with_reducible apply ite_closed
      | (intro _ _)
      | (intro _)
      | dsimp only
      | split

theorem endField_foot (hP : Closed F P) (k_regs : F .regs = true) (k_out : F .out = true) (k_router : F .router = true) (k_maint : F .maint = true) {s : State} {x1 : Fin 4} {T : Int} (h_s : P s) : P (endField s x1 T) := by
    unfold endField
    try dsimp only
    repeat' first
      | with_reducible assumption
      | with_reducible apply setLedger_foot hP k_regs
      | with_reducible apply endInflight_foot hP k_regs
      | with_reducible apply endMargin_foot hP k_regs k_out k_router k_maint
      | with_reducible apply Closed.wr hP k_regs
      | with_reducible apply ite_closed
      | (intro _ _)
      | (intro _)
      | dsimp only
      | split

theorem renameField_foot (hP : Closed F P) (k_heads : F .heads = true) (k_perf : F .perf = true) {s : State} {x1 : Nat} {old : Word} {new : Word} (h_s : P s) : P (renameField s x1 old new) := by
    unfold renameField
    try dsimp only
    repeat' first
      | with_reducible assumption
      | with_reducible apply putHead_foot hP k_heads
      | with_reducible apply putWb_foot hP k_heads
      | with_reducible apply putGlint_foot hP k_perf
      | with_reducible apply ite_closed
      | (intro _ _)
      | (intro _)
      | dsimp only
      | split

theorem notePhase_foot (hP : Closed F P) (k_regs : F .regs = true) (k_out : F .out = true) (k_router : F .router = true) (k_maint : F .maint = true) {s : State} {x1 : Fin 4} {was : Int} {cause : Nat} (h_s : P s) : P (notePhase s x1 was cause) := by
    unfold notePhase
    try dsimp only
    repeat' first
      | with_reducible assumption
      | with_reducible apply State.raise_foot hP k_regs k_out k_router k_maint
      | with_reducible apply ite_closed
      | (intro _ _)
      | (intro _)
      | dsimp only
      | split

theorem settleMove_foot (hP : Closed F P) (k_regs : F .regs = true) (k_out : F .out = true) (k_router : F .router = true) (k_maint : F .maint = true) (k_heads : F .heads = true) {s : State} {x1 : Nat} (h_s : P s) : P (settleMove s x1) := by
    unfold settleMove
    try dsimp only
    repeat' first
      | with_reducible assumption
      | with_reducible apply settleGroup_foot hP k_regs k_out k_router k_maint k_heads
      | with_reducible apply ite_closed
      | (intro _ _)
      | (intro _)
      | dsimp only
      | split

theorem beginField_foot (hP : Closed F P) (k_regs : F .regs = true) (k_out : F .out = true) (k_router : F .router = true) (k_maint : F .maint = true) (k_memory : F .memory = true) (k_ing : F .ing = true) (k_heads : F .heads = true) (k_perf : F .perf = true) {s : State} {x1 : Fin 4} {T : Int} (h_s : P s) : P (beginField s x1 T) := by
    unfold beginField
    try dsimp only
    repeat' first
      | with_reducible assumption
      | with_reducible apply settleMove_foot hP k_regs k_out k_router k_maint k_heads
      | with_reducible apply settleHead_foot hP k_regs k_out k_router k_maint k_heads
      | with_reducible apply readHeader_foot hP k_regs k_out k_router k_maint k_memory
      | (with_reducible apply fstP_of; with_reducible apply readHeader_foot hP k_regs k_out k_router k_maint k_memory)
      | with_reducible apply putHead_foot hP k_heads
      | with_reducible apply renameField_foot hP k_heads k_perf
      | with_reducible apply perfHit_foot hP k_regs k_out k_router k_maint
      | with_reducible apply notePhase_foot hP k_regs k_out k_router k_maint
      | with_reducible apply showRgu_foot hP k_regs k_out k_router k_maint
      | with_reducible apply showLayer_foot hP k_regs
      | with_reducible apply wbStamp_foot hP k_heads
      | with_reducible apply putStore_foot hP k_ing
      | with_reducible apply showIssuing_foot hP k_regs
      | with_reducible apply showPhase_foot hP k_regs
      | (with_reducible exact fstP_elim (by assumption))
      | with_reducible apply foldl_fst
      | (with_reducible refine foldl_inv P _ (fun _ _ _ => ?_) _ _ ?_)
      | with_reducible apply Closed.wr64 hP k_regs
      | with_reducible apply Closed.wr hP k_regs
      | with_reducible apply Closed.setF hP k_regs
      | with_reducible apply Closed.setB hP k_regs
      | with_reducible apply ite_closed
      | (intro _ _)
      | (intro _)
      | dsimp only
      | split
      | with_reducible apply fstP_mk

theorem fieldStart_foot (hP : Closed F P) (k_regs : F .regs = true) (k_out : F .out = true) (k_router : F .router = true) (k_maint : F .maint = true) (k_memory : F .memory = true) (k_ing : F .ing = true) (k_heads : F .heads = true) (k_links : F .links = true) (k_keeper : F .keeper = true) (k_perf : F .perf = true) {s : State} {x1 : Fin 4} (h_s : P s) : P (fieldStart s x1) := by
    unfold fieldStart
    try dsimp only
    repeat' first
      | with_reducible assumption
      | with_reducible apply endField_foot hP k_regs k_out k_router k_maint
      | with_reducible apply headStop_foot hP k_regs k_out k_router k_maint k_ing k_heads k_links k_keeper k_perf
      | with_reducible apply beginField_foot hP k_regs k_out k_router k_maint k_memory k_ing k_heads k_perf
      | with_reducible apply ite_closed
      | (intro _ _)
      | (intro _)
      | dsimp only
      | split

theorem joinSchedule_foot (hP : Closed F P) (k_heads : F .heads = true) {s : State} {x1 : Nat} (h_s : P s) : P (joinSchedule s x1) := by
    unfold joinSchedule
    try dsimp only
    repeat' first
      | with_reducible assumption
      | with_reducible apply putHead_foot hP k_heads
      | with_reducible apply ite_closed
      | (intro _ _)
      | (intro _)
      | dsimp only
      | split

theorem latchEvent_foot (hP : Closed F P) (k_regs : F .regs = true) (k_eff : F .eff = true) (k_out : F .out = true) (k_freeCount : F .freeCount = true) (k_power : F .power = true) (k_router : F .router = true) (k_ring : F .ring = true) (k_txn : F .txn = true) (k_maint : F .maint = true) (k_memory : F .memory = true) (k_ing : F .ing = true) (k_heads : F .heads = true) (k_links : F .links = true) (k_perf : F .perf = true) {s : State} {x1 : Fin 4} (h_s : P s) : P (latchEvent s x1) := by
    unfold latchEvent
    try dsimp only
    repeat' first
      | with_reducible assumption
      | with_reducible apply joinSchedule_foot hP k_heads
      | with_reducible apply latchWork_foot hP k_regs k_eff k_out k_freeCount k_power k_router k_ring k_txn k_maint k_memory k_ing k_heads k_links k_perf
      | with_reducible apply ite_closed
      | (intro _ _)
      | (intro _)
      | dsimp only
      | split

theorem headStart_foot (hP : Closed F P) (k_regs : F .regs = true) (k_out : F .out = true) (k_power : F .power = true) (k_router : F .router = true) (k_maint : F .maint = true) (k_heads : F .heads = true) (k_links : F .links = true) (k_perf : F .perf = true) {s : State} {x1 : Fin 4} (h_s : P s) : P (headStart s x1) := by
    unfold headStart
    try dsimp only
    repeat' first
      | with_reducible assumption
      | with_reducible apply setOn_foot hP k_regs
      | with_reducible apply setHeadState_foot hP k_regs
      | with_reducible apply joinSchedule_foot hP k_heads
      | with_reducible apply putHead_foot hP k_heads
      | with_reducible apply headFollows_foot hP k_regs k_out k_power k_router k_maint k_heads k_perf
      | with_reducible apply linkEnable_foot hP k_regs k_out k_links
      | with_reducible apply ite_closed
      | (intro _ _)
      | (intro _)
      | dsimp only
      | split

theorem headOnCmd_foot (hP : Closed F P) (k_regs : F .regs = true) (k_out : F .out = true) (k_power : F .power = true) (k_router : F .router = true) (k_maint : F .maint = true) (k_heads : F .heads = true) (k_links : F .links = true) (k_perf : F .perf = true) {s : State} {x1 : Fin 4} (h_s : P s) : P (headOnCmd s x1) := by
    unfold headOnCmd
    try dsimp only
    repeat' first
      | with_reducible assumption
      | with_reducible apply refuse_foot hP k_regs k_out k_router k_maint
      | with_reducible apply headStart_foot hP k_regs k_out k_power k_router k_maint k_heads k_links k_perf
      | with_reducible apply ite_closed
      | (intro _ _)
      | (intro _)
      | dsimp only
      | split

theorem execHeadEnable_foot (hP : Closed F P) (k_regs : F .regs = true) (k_out : F .out = true) (k_power : F .power = true) (k_router : F .router = true) (k_maint : F .maint = true) (k_heads : F .heads = true) (k_links : F .links = true) (k_perf : F .perf = true) {req : Requester} {x1 : Fin 4} {s : State} (h_s : P s) : OutP P (execHeadEnable req x1 s) := by
    unfold execHeadEnable
    try dsimp only
    repeat' first
      | with_reducible assumption
      | with_reducible apply outP_next
      | with_reducible apply outP_done
      | with_reducible apply gated_foot hP k_regs k_out k_router k_maint
      | with_reducible apply headOnCmd_foot hP k_regs k_out k_power k_router k_maint k_heads k_links k_perf
      | with_reducible apply ite_closed
      | (intro _ _)
      | (intro _)
      | dsimp only
      | split

theorem showActive_foot (hP : Closed F P) (k_regs : F .regs = true) {x0 : Nat} {s : State} {k : Nat} (h_s : P s) : P (showActive x0 s k) := by
    unfold showActive
    try dsimp only
    repeat' first
      | with_reducible assumption
      | with_reducible apply Closed.wr hP k_regs
      | with_reducible apply ite_closed
      | (intro _ _)
      | (intro _)
      | dsimp only
      | split

theorem commitGo_foot (hP : Closed F P) (k_regs : F .regs = true) (k_eff : F .eff = true) (k_out : F .out = true) (k_router : F .router = true) (k_maint : F .maint = true) {s : State} {x1 : Fin 4} (h_s : P s) : P (commitGo s x1) := by
    unfold commitGo
    try dsimp only
    repeat' first
      | with_reducible assumption
      | with_reducible apply showActive_foot hP k_regs
      | with_reducible apply layerCommit_foot hP k_regs k_eff k_out k_router k_maint
      | (with_reducible refine foldl_inv P _ (fun _ _ _ => ?_) _ _ ?_)
      | with_reducible apply Closed.wr hP k_regs
      | with_reducible apply Closed.setB hP k_regs
      | with_reducible apply ite_closed
      | (intro _ _)
      | (intro _)
      | dsimp only
      | split

theorem execCommitGo_foot (hP : Closed F P) (k_regs : F .regs = true) (k_eff : F .eff = true) (k_out : F .out = true) (k_router : F .router = true) (k_maint : F .maint = true) {req : Requester} {x1 : Fin 4} {s : State} (h_s : P s) : OutP P (execCommitGo req x1 s) := by
    unfold execCommitGo
    try dsimp only
    repeat' first
      | with_reducible assumption
      | with_reducible apply outP_next
      | with_reducible apply outP_done
      | with_reducible apply gated_foot hP k_regs k_out k_router k_maint
      | with_reducible apply commitGo_foot hP k_regs k_eff k_out k_router k_maint
      | with_reducible apply ite_closed
      | (intro _ _)
      | (intro _)
      | dsimp only
      | split

theorem execPhaseLockReached_foot (hP : Closed F P) (k_regs : F .regs = true) (k_out : F .out = true) (k_router : F .router = true) (k_maint : F .maint = true) (k_heads : F .heads = true) {group : Fin 4} {s : State} (h_s : P s) : OutP P (execPhaseLockReached group s) := by
    unfold execPhaseLockReached
    try dsimp only
    repeat' first
      | with_reducible assumption
      | with_reducible apply outP_next
      | with_reducible apply outP_done
      | with_reducible apply settleHead_foot hP k_regs k_out k_router k_maint k_heads
      | (with_reducible refine foldl_inv P _ (fun _ _ _ => ?_) _ _ ?_)
      | with_reducible apply ite_closed
      | (intro _ _)
      | (intro _)
      | dsimp only
      | split

end Sys2Proof.Machine
end

