-- ==== Sys2Proof/Laws/FootOptic.lean ====
section
/-!
SUPPORT. Footprints of the definitions of Machine/Optic.lean: which parts of the state each of them may update.
-/
namespace Sys2Proof.Machine

variable {F : Part → Bool} {P : State → Prop}

theorem putRow_foot (hP : Closed F P) (k_opt : F .opt = true) {s : State} {r : Nat} {x : OptRow} (h_s : P s) : P (putRow s r x) := by
    unfold putRow
    try dsimp only
    repeat' first
      | with_reducible assumption
      | with_reducible apply ite_closed
      | (intro _ _)
      | (intro _)
      | dsimp only
      | split
      | (with_reducible apply Closed.opt hP k_opt)

theorem putRun_foot (hP : Closed F P) (k_opt : F .opt = true) {s : State} {b : Option Batch} (h_s : P s) : P (putRun s b) := by
    unfold putRun
    try dsimp only
    repeat' first
      | with_reducible assumption
      | with_reducible apply ite_closed
      | (intro _ _)
      | (intro _)
      | dsimp only
      | split
      | (with_reducible apply Closed.opt hP k_opt)

theorem optShow_foot (hP : Closed F P) (k_regs : F .regs = true) {s : State} (h_s : P s) : P (optShow s) := by
    unfold optShow
    try dsimp only
    repeat' first
      | with_reducible assumption
      | with_reducible apply Closed.setF hP k_regs
      | with_reducible apply Closed.setB hP k_regs
      | with_reducible apply Closed.wrAll hP k_regs
      | with_reducible apply ite_closed
      | (intro _ _)
      | (intro _)
      | dsimp only
      | split

theorem bandWatch_foot (hP : Closed F P) (k_regs : F .regs = true) (k_out : F .out = true) (k_router : F .router = true) (k_maint : F .maint = true) (k_opt : F .opt = true) {s : State} (h_s : P s) : P (bandWatch s) := by
    unfold bandWatch
    try dsimp only
    repeat' first
      | with_reducible assumption
      | with_reducible apply State.raise_foot hP k_regs k_out k_router k_maint
      | with_reducible apply ite_closed
      | (intro _ _)
      | (intro _)
      | dsimp only
      | split
      | (with_reducible apply Closed.opt hP k_opt)

theorem showLedger_foot (hP : Closed F P) (k_regs : F .regs = true) {s : State} (h_s : P s) : P (showLedger s) := by
    unfold showLedger
    try dsimp only
    repeat' first
      | with_reducible assumption
      | (with_reducible refine foldl_inv P _ (fun _ _ _ => ?_) _ _ ?_)
      | with_reducible apply Closed.wr hP k_regs
      | with_reducible apply ite_closed
      | (intro _ _)
      | (intro _)
      | dsimp only
      | split

theorem ledgerHigh_foot (hP : Closed F P) (k_regs : F .regs = true) (k_out : F .out = true) (k_router : F .router = true) (k_maint : F .maint = true) {s : State} {told : Bool} (h_s : P s) : P (ledgerHigh s told).1 := by
    change FstP P _
    unfold ledgerHigh
    try dsimp only
    repeat' first
      | with_reducible assumption
      | (intro _ _ _)
      | with_reducible apply ite_closed
      | with_reducible apply State.raise_foot hP k_regs k_out k_router k_maint
      | (with_reducible exact fstP_elim (by assumption))
      | with_reducible apply foldl_fst
      | with_reducible apply ite_closed
      | (intro _ _)
      | (intro _)
      | dsimp only
      | split
      | with_reducible apply fstP_mk

theorem ledgerPhase_foot (hP : Closed F P) (k_opt : F .opt = true) {s : State} {b : Nat} {j : RowJob} {q : WavePhase} {us : Nat} (h_s : P s) : P (ledgerPhase s b j q us) := by
    unfold ledgerPhase
    try dsimp only
    repeat' first
      | with_reducible assumption
      | (with_reducible refine foldl_inv P _ (fun _ _ _ => ?_) _ _ ?_)
      | with_reducible apply ite_closed
      | (intro _ _)
      | (intro _)
      | dsimp only
      | split
      | (with_reducible apply Closed.opt hP k_opt)

theorem writeRow_foot (hP : Closed F P) (k_regs : F .regs = true) (k_out : F .out = true) (k_router : F .router = true) (k_maint : F .maint = true) (k_hbm : F .hbm = true) (k_memory : F .memory = true) (k_opt : F .opt = true) {s : State} {r : Nat} (h_s : P s) : P (writeRow s r) := by
    unfold writeRow
    try dsimp only
    repeat' first
      | with_reducible assumption
      | with_reducible apply hbmWrite_foot hP k_regs k_out k_router k_maint k_hbm k_memory
      | with_reducible apply ite_closed
      | (intro _ _)
      | (intro _)
      | dsimp only
      | split
      | (with_reducible apply Closed.opt hP k_opt)

theorem writeWaiting_foot (hP : Closed F P) (k_regs : F .regs = true) (k_out : F .out = true) (k_router : F .router = true) (k_maint : F .maint = true) (k_hbm : F .hbm = true) (k_memory : F .memory = true) (k_opt : F .opt = true) {s : State} (h_s : P s) : P (writeWaiting s) := by
    unfold writeWaiting
    try dsimp only
    repeat' first
      | with_reducible assumption
      | with_reducible apply hbmWrite_foot hP k_regs k_out k_router k_maint k_hbm k_memory
      | (with_reducible refine foldl_inv P _ (fun _ _ _ => ?_) _ _ ?_)
      | with_reducible apply ite_closed
      | (intro _ _)
      | (intro _)
      | dsimp only
      | split
      | (with_reducible apply Closed.opt hP k_opt)

theorem takeUnits_foot (hP : Closed F P) (k_opt : F .opt = true) {s : State} {key : Nat} (h_s : P s) : P (takeUnits s key) := by
    unfold takeUnits
    try dsimp only
    repeat' first
      | with_reducible assumption
      | with_reducible apply ite_closed
      | (intro _ _)
      | (intro _)
      | dsimp only
      | split
      | (with_reducible apply Closed.opt hP k_opt)

theorem countSwitch_foot (hP : Closed F P) (k_regs : F .regs = true) (k_out : F .out = true) (k_router : F .router = true) (k_maint : F .maint = true) (k_opt : F .opt = true) {s : State} {r : Nat} {c : Nat} (h_s : P s) : P (countSwitch s r c) := by
    unfold countSwitch
    try dsimp only
    repeat' first
      | with_reducible assumption
      | with_reducible apply State.raise_foot hP k_regs k_out k_router k_maint
      | with_reducible apply ite_closed
      | (intro _ _)
      | (intro _)
      | dsimp only
      | split
      | (with_reducible apply Closed.opt hP k_opt)

theorem charge_foot (hP : Closed F P) (k_regs : F .regs = true) (k_out : F .out = true) (k_router : F .router = true) (k_maint : F .maint = true) (k_opt : F .opt = true) {s : State} {r : Nat} {m : Nat} (h_s : P s) : P (charge s r m) := by
    unfold charge
    try dsimp only
    repeat' first
      | with_reducible assumption
      | with_reducible apply countSwitch_foot hP k_regs k_out k_router k_maint k_opt
      | with_reducible apply takeUnits_foot hP k_opt
      | (with_reducible refine foldl_inv P _ (fun _ _ _ => ?_) _ _ ?_)
      | with_reducible apply ite_closed
      | (intro _ _)
      | (intro _)
      | dsimp only
      | split

theorem giveBack_foot (hP : Closed F P) (k_opt : F .opt = true) {s : State} {j : RowJob} (h_s : P s) : P (giveBack s j) := by
    unfold giveBack
    try dsimp only
    repeat' first
      | with_reducible assumption
      | (with_reducible refine foldl_inv P _ (fun _ _ _ => ?_) _ _ ?_)
      | with_reducible apply ite_closed
      | (intro _ _)
      | (intro _)
      | dsimp only
      | split
      | (with_reducible apply Closed.opt hP k_opt)

theorem journal_foot (hP : Closed F P) (k_opt : F .opt = true) {s : State} {r : JournalRec} (h_s : P s) : P (journal s r) := by
    unfold journal
    try dsimp only
    repeat' first
      | with_reducible assumption
      | with_reducible apply ite_closed
      | (intro _ _)
      | (intro _)
      | dsimp only
      | split
      | (with_reducible apply Closed.opt hP k_opt)

theorem startRow_foot (hP : Closed F P) (k_regs : F .regs = true) (k_out : F .out = true) (k_router : F .router = true) (k_maint : F .maint = true) (k_opt : F .opt = true) {s : State} {x : Batch} (h_s : P s) : P (startRow s x) := by
    unfold startRow
    try dsimp only
    repeat' first
      | with_reducible assumption
      | with_reducible apply putRun_foot hP k_opt
      | with_reducible apply State.raise_foot hP k_regs k_out k_router k_maint
      | with_reducible apply charge_foot hP k_regs k_out k_router k_maint k_opt
      | with_reducible apply journal_foot hP k_opt
      | with_reducible apply ite_closed
      | (intro _ _)
      | (intro _)
      | dsimp only
      | split

theorem endBatch_foot (hP : Closed F P) (k_regs : F .regs = true) (k_out : F .out = true) (k_router : F .router = true) (k_maint : F .maint = true) (k_hbm : F .hbm = true) (k_memory : F .memory = true) (k_opt : F .opt = true) {s : State} {x : Batch} {outcome : Nat} (h_s : P s) : P (endBatch s x outcome) := by
    unfold endBatch
    try dsimp only
    repeat' first
      | with_reducible assumption
      | with_reducible apply writeRow_foot hP k_regs k_out k_router k_maint k_hbm k_memory k_opt
      | with_reducible apply putRow_foot hP k_opt
      | with_reducible apply putRun_foot hP k_opt
      | with_reducible apply journal_foot hP k_opt
      | with_reducible apply State.raise_foot hP k_regs k_out k_router k_maint
      | (with_reducible refine foldl_inv P _ (fun _ _ _ => ?_) _ _ ?_)
      | with_reducible apply Closed.setF hP k_regs
      | with_reducible apply Closed.inc hP k_regs
      | with_reducible apply ite_closed
      | (intro _ _)
      | (intro _)
      | dsimp only
      | split

theorem beginBatch_foot (hP : Closed F P) (k_regs : F .regs = true) (k_out : F .out = true) (k_router : F .router = true) (k_maint : F .maint = true) (k_hbm : F .hbm = true) (k_memory : F .memory = true) (k_opt : F .opt = true) {s : State} {id : Nat} {cs : List RowJob} (h_s : P s) : P (beginBatch s id cs) := by
    unfold beginBatch
    try dsimp only
    repeat' first
      | with_reducible assumption
      | with_reducible apply writeRow_foot hP k_regs k_out k_router k_maint k_hbm k_memory k_opt
      | with_reducible apply putRow_foot hP k_opt
      | with_reducible apply charge_foot hP k_regs k_out k_router k_maint k_opt
      | with_reducible apply State.raise_foot hP k_regs k_out k_router k_maint
      | with_reducible apply endBatch_foot hP k_regs k_out k_router k_maint k_hbm k_memory k_opt
      | with_reducible apply startRow_foot hP k_regs k_out k_router k_maint k_opt
      | (with_reducible refine foldl_inv P _ (fun _ _ _ => ?_) _ _ ?_)
      | with_reducible apply Closed.setF hP k_regs
      | with_reducible apply ite_closed
      | (intro _ _)
      | (intro _)
      | dsimp only
      | split
      | (with_reducible apply Closed.opt hP k_opt)

theorem startStaged_foot (hP : Closed F P) (k_regs : F .regs = true) (k_out : F .out = true) (k_router : F .router = true) (k_maint : F .maint = true) (k_hbm : F .hbm = true) (k_memory : F .memory = true) (k_opt : F .opt = true) {s : State} (h_s : P s) : P (startStaged s) := by
    unfold startStaged
    try dsimp only
    repeat' first
      | with_reducible assumption
      | with_reducible apply beginBatch_foot hP k_regs k_out k_router k_maint k_hbm k_memory k_opt
      | with_reducible apply ite_closed
      | (intro _ _)
      | (intro _)
      | dsimp only
      | split
      | (with_reducible apply Closed.opt hP k_opt)

theorem afterBatch_foot (hP : Closed F P) (k_regs : F .regs = true) (k_out : F .out = true) (k_router : F .router = true) (k_maint : F .maint = true) (k_hbm : F .hbm = true) (k_memory : F .memory = true) (k_opt : F .opt = true) {s : State} (h_s : P s) : P (afterBatch s) := by
    unfold afterBatch
    try dsimp only
    repeat' first
      | with_reducible assumption
      | with_reducible apply startStaged_foot hP k_regs k_out k_router k_maint k_hbm k_memory k_opt
      | with_reducible apply State.raise_foot hP k_regs k_out k_router k_maint
      | with_reducible apply ite_closed
      | (intro _ _)
      | (intro _)
      | dsimp only
      | split
      | (with_reducible apply Closed.opt hP k_opt)

theorem finishRow_foot (hP : Closed F P) (k_regs : F .regs = true) (k_out : F .out = true) (k_router : F .router = true) (k_maint : F .maint = true) (k_hbm : F .hbm = true) (k_memory : F .memory = true) (k_opt : F .opt = true) {s : State} {x : Batch} {j : RowJob} (h_s : P s) : P (finishRow s x j).1 := by
    change FstP P _
    unfold finishRow
    try dsimp only
    repeat' first
      | with_reducible assumption
      | (intro _ _ _)
      | with_reducible apply ite_closed
      | with_reducible apply writeRow_foot hP k_regs k_out k_router k_maint k_hbm k_memory k_opt
      | with_reducible apply putRow_foot hP k_opt
      | with_reducible apply journal_foot hP k_opt
      | with_reducible apply ledgerHigh_foot hP k_regs k_out k_router k_maint
      | (with_reducible apply fstP_of; with_reducible apply ledgerHigh_foot hP k_regs k_out k_router k_maint)
      | with_reducible apply showLedger_foot hP k_regs
      | (with_reducible exact fstP_elim (by assumption))
      | with_reducible apply foldl_fst
      | with_reducible apply Closed.wr64 hP k_regs
      | with_reducible apply ite_closed
      | (intro _ _)
      | (intro _)
      | dsimp only
      | split
      | with_reducible apply fstP_mk

theorem nextRow_foot (hP : Closed F P) (k_regs : F .regs = true) (k_out : F .out = true) (k_router : F .router = true) (k_maint : F .maint = true) (k_hbm : F .hbm = true) (k_memory : F .memory = true) (k_opt : F .opt = true) {s : State} {x : Batch} {rest : List RowJob} (h_s : P s) : P (nextRow s x rest) := by
    unfold nextRow
    try dsimp only
    repeat' first
      | with_reducible assumption
      | with_reducible apply afterBatch_foot hP k_regs k_out k_router k_maint k_hbm k_memory k_opt
      | with_reducible apply endBatch_foot hP k_regs k_out k_router k_maint k_hbm k_memory k_opt
      | with_reducible apply giveBack_foot hP k_opt
      | with_reducible apply startRow_foot hP k_regs k_out k_router k_maint k_opt
      | (with_reducible refine foldl_inv P _ (fun _ _ _ => ?_) _ _ ?_)
      | with_reducible apply ite_closed
      | (intro _ _)
      | (intro _)
      | dsimp only
      | split

theorem terminate_foot (hP : Closed F P) (k_regs : F .regs = true) (k_out : F .out = true) (k_router : F .router = true) (k_maint : F .maint = true) (k_hbm : F .hbm = true) (k_memory : F .memory = true) (k_opt : F .opt = true) {s : State} {cause : Nat} (h_s : P s) : P (terminate s cause) := by
    unfold terminate
    try dsimp only
    repeat' first
      | with_reducible assumption
      | with_reducible apply putRow_foot hP k_opt
      | with_reducible apply giveBack_foot hP k_opt
      | with_reducible apply journal_foot hP k_opt
      | with_reducible apply writeRow_foot hP k_regs k_out k_router k_maint k_hbm k_memory k_opt
      | with_reducible apply State.raise_foot hP k_regs k_out k_router k_maint
      | with_reducible apply endBatch_foot hP k_regs k_out k_router k_maint k_hbm k_memory k_opt
      | with_reducible apply afterBatch_foot hP k_regs k_out k_router k_maint k_hbm k_memory k_opt
      | (with_reducible refine foldl_inv P _ (fun _ _ _ => ?_) _ _ ?_)
      | with_reducible apply Closed.inc hP k_regs
      | with_reducible apply ite_closed
      | (intro _ _)
      | (intro _)
      | dsimp only
      | split

theorem cutRow_foot (hP : Closed F P) (k_regs : F .regs = true) (k_out : F .out = true) (k_router : F .router = true) (k_maint : F .maint = true) (k_hbm : F .hbm = true) (k_memory : F .memory = true) (k_opt : F .opt = true) {s : State} {cause : Nat} {us : Nat} (h_s : P s) : P (cutRow s cause us) := by
    unfold cutRow
    try dsimp only
    repeat' first
      | with_reducible assumption
      | with_reducible apply ledgerPhase_foot hP k_opt
      | with_reducible apply terminate_foot hP k_regs k_out k_router k_maint k_hbm k_memory k_opt
      | with_reducible apply ite_closed
      | (intro _ _)
      | (intro _)
      | dsimp only
      | split

theorem opticWatch_foot (hP : Closed F P) (k_regs : F .regs = true) (k_out : F .out = true) (k_router : F .router = true) (k_maint : F .maint = true) (k_hbm : F .hbm = true) (k_memory : F .memory = true) (k_opt : F .opt = true) {s : State} (h_s : P s) : P (opticWatch s) := by
    unfold opticWatch
    try dsimp only
    repeat' first
      | with_reducible assumption
      | with_reducible apply optShow_foot hP k_regs
      | with_reducible apply cutRow_foot hP k_regs k_out k_router k_maint k_hbm k_memory k_opt
      | with_reducible apply ite_closed
      | (intro _ _)
      | (intro _)
      | dsimp only
      | split

theorem batchRefuse_foot (hP : Closed F P) (k_regs : F .regs = true) (k_out : F .out = true) (k_router : F .router = true) (k_maint : F .maint = true) {s : State} {id : Nat} {why : Nat} (h_s : P s) : P (batchRefuse s id why) := by
    unfold batchRefuse
    try dsimp only
    repeat' first
      | with_reducible assumption
      | with_reducible apply State.raise_foot hP k_regs k_out k_router k_maint
      | with_reducible apply ite_closed
      | (intro _ _)
      | (intro _)
      | dsimp only
      | split

theorem stageBatch_foot (hP : Closed F P) (k_regs : F .regs = true) (k_out : F .out = true) (k_freeCount : F .freeCount = true) (k_router : F .router = true) (k_maint : F .maint = true) (k_hbm : F .hbm = true) (k_memory : F .memory = true) (k_opt : F .opt = true) {s : State} {id : Nat} (h_s : P s) : P (stageBatch s id) := by
    unfold stageBatch
    try dsimp only
    repeat' first
      | with_reducible assumption
      | with_reducible apply batchRefuse_foot hP k_regs k_out k_router k_maint
      | with_reducible apply touch_foot hP k_regs k_out k_router k_maint k_memory
      | with_reducible apply writeRow_foot hP k_regs k_out k_router k_maint k_hbm k_memory k_opt
      | with_reducible apply putRow_foot hP k_opt
      | with_reducible apply optShow_foot hP k_regs
      | (with_reducible refine foldl_inv P _ (fun _ _ _ => ?_) _ _ ?_)
      | with_reducible apply Closed.useFree hP k_freeCount
      | with_reducible apply ite_closed
      | (intro _ _)
      | (intro _)
      | dsimp only
      | split
      | (with_reducible apply Closed.opt hP k_opt)

theorem startBatch_foot (hP : Closed F P) (k_regs : F .regs = true) (k_out : F .out = true) (k_router : F .router = true) (k_maint : F .maint = true) (k_hbm : F .hbm = true) (k_memory : F .memory = true) (k_opt : F .opt = true) {s : State} {id : Nat} (h_s : P s) : P (startBatch s id).1 := by
    change FstP P _
    unfold startBatch
    try dsimp only
    repeat' first
      | with_reducible assumption
      | (intro _ _ _)
      | with_reducible apply ite_closed
      | with_reducible apply optShow_foot hP k_regs
      | with_reducible apply startStaged_foot hP k_regs k_out k_router k_maint k_hbm k_memory k_opt
      | (with_reducible exact fstP_elim (by assumption))
      | with_reducible apply foldl_fst
      | with_reducible apply ite_closed
      | (intro _ _)
      | (intro _)
      | dsimp only
      | split
      | with_reducible apply fstP_mk
      | (with_reducible apply Closed.opt hP k_opt)

theorem startCommand_foot (hP : Closed F P) (k_regs : F .regs = true) (k_out : F .out = true) (k_router : F .router = true) (k_maint : F .maint = true) (k_hbm : F .hbm = true) (k_memory : F .memory = true) (k_opt : F .opt = true) {s : State} {id : Nat} (h_s : P s) : P (startCommand s id) := by
    unfold startCommand
    try dsimp only
    repeat' first
      | with_reducible assumption
      | with_reducible apply startBatch_foot hP k_regs k_out k_router k_maint k_hbm k_memory k_opt
      | (with_reducible apply fstP_of; with_reducible apply startBatch_foot hP k_regs k_out k_router k_maint k_hbm k_memory k_opt)
      | with_reducible apply batchRefuse_foot hP k_regs k_out k_router k_maint
      | (with_reducible exact fstP_elim (by assumption))
      | with_reducible apply foldl_fst
      | with_reducible apply ite_closed
      | (intro _ _)
      | (intro _)
      | dsimp only
      | split
      | with_reducible apply fstP_mk

theorem dropStaged_foot (hP : Closed F P) (k_regs : F .regs = true) (k_opt : F .opt = true) {s : State} (h_s : P s) : P (dropStaged s) := by
    unfold dropStaged
    try dsimp only
    repeat' first
      | with_reducible assumption
      | with_reducible apply optShow_foot hP k_regs
      | with_reducible apply Closed.setF hP k_regs
      | with_reducible apply ite_closed
      | (intro _ _)
      | (intro _)
      | dsimp only
      | split
      | (with_reducible apply Closed.opt hP k_opt)

theorem cancelBatch_foot (hP : Closed F P) (k_regs : F .regs = true) (k_out : F .out = true) (k_router : F .router = true) (k_maint : F .maint = true) (k_opt : F .opt = true) {s : State} {id : Nat} (h_s : P s) : P (cancelBatch s id) := by
    unfold cancelBatch
    try dsimp only
    repeat' first
      | with_reducible assumption
      | with_reducible apply batchRefuse_foot hP k_regs k_out k_router k_maint
      | with_reducible apply dropStaged_foot hP k_regs k_opt
      | with_reducible apply ite_closed
      | (intro _ _)
      | (intro _)
      | dsimp only
      | split

theorem batchCommand_foot (hP : Closed F P) (k_regs : F .regs = true) (k_out : F .out = true) (k_freeCount : F .freeCount = true) (k_router : F .router = true) (k_maint : F .maint = true) (k_hbm : F .hbm = true) (k_memory : F .memory = true) (k_opt : F .opt = true) {s : State} {v : Word} (h_s : P s) : P (batchCommand s v) := by
    unfold batchCommand
    try dsimp only
    repeat' first
      | with_reducible assumption
      | with_reducible apply stageBatch_foot hP k_regs k_out k_freeCount k_router k_maint k_hbm k_memory k_opt
      | with_reducible apply startCommand_foot hP k_regs k_out k_router k_maint k_hbm k_memory k_opt
      | with_reducible apply cancelBatch_foot hP k_regs k_out k_router k_maint k_opt
      | with_reducible apply batchRefuse_foot hP k_regs k_out k_router k_maint
      | with_reducible apply ite_closed
      | (intro _ _)
      | (intro _)
      | dsimp only
      | split

theorem execBatchStage_foot (hP : Closed F P) (k_regs : F .regs = true) (k_out : F .out = true) (k_freeCount : F .freeCount = true) (k_router : F .router = true) (k_maint : F .maint = true) (k_hbm : F .hbm = true) (k_memory : F .memory = true) (k_opt : F .opt = true) {req : Requester} {id : Byte} {s : State} (h_s : P s) : OutP P (execBatchStage req id s) := by
    unfold execBatchStage
    try dsimp only
    repeat' first
      | with_reducible assumption
      | with_reducible apply outP_next
      | with_reducible apply outP_done
      | with_reducible apply gated_foot hP k_regs k_out k_router k_maint
      | with_reducible apply stageBatch_foot hP k_regs k_out k_freeCount k_router k_maint k_hbm k_memory k_opt
      | with_reducible apply ite_closed
      | (intro _ _)
      | (intro _)
      | dsimp only
      | split

theorem execBatchStart_foot (hP : Closed F P) (k_regs : F .regs = true) (k_out : F .out = true) (k_router : F .router = true) (k_maint : F .maint = true) (k_hbm : F .hbm = true) (k_memory : F .memory = true) (k_opt : F .opt = true) {req : Requester} {id : Byte} {s : State} (h_s : P s) : OutP P (execBatchStart req id s) := by
    unfold execBatchStart
    try dsimp only
    repeat' first
      | with_reducible assumption
      | with_reducible apply outP_next
      | with_reducible apply outP_done
      | with_reducible apply gated_foot hP k_regs k_out k_router k_maint
      | with_reducible apply startCommand_foot hP k_regs k_out k_router k_maint k_hbm k_memory k_opt
      | with_reducible apply ite_closed
      | (intro _ _)
      | (intro _)
      | dsimp only
      | split

theorem execBatchCancel_foot (hP : Closed F P) (k_regs : F .regs = true) (k_out : F .out = true) (k_router : F .router = true) (k_maint : F .maint = true) (k_opt : F .opt = true) {req : Requester} {id : Byte} {s : State} (h_s : P s) : OutP P (execBatchCancel req id s) := by
    unfold execBatchCancel
    try dsimp only
    repeat' first
      | with_reducible assumption
      | with_reducible apply outP_next
      | with_reducible apply outP_done
      | with_reducible apply gated_foot hP k_regs k_out k_router k_maint
      | with_reducible apply cancelBatch_foot hP k_regs k_out k_router k_maint k_opt
      | with_reducible apply ite_closed
      | (intro _ _)
      | (intro _)
      | dsimp only
      | split

theorem phaseEnd_foot (hP : Closed F P) (k_opt : F .opt = true) {s : State} {x : Batch} {j : RowJob} (h_s : P s) : P (phaseEnd s x j) := by
    unfold phaseEnd
    try dsimp only
    repeat' first
      | with_reducible assumption
      | with_reducible apply ledgerPhase_foot hP k_opt
      | with_reducible apply putRun_foot hP k_opt
      | with_reducible apply ite_closed
      | (intro _ _)
      | (intro _)
      | dsimp only
      | split

theorem execRowPhaseEnd_foot (hP : Closed F P) (k_opt : F .opt = true) {s : State} (h_s : P s) : OutP P (execRowPhaseEnd s) := by
    unfold execRowPhaseEnd
    try dsimp only
    repeat' first
      | with_reducible assumption
      | with_reducible apply outP_next
      | with_reducible apply outP_done
      | with_reducible apply phaseEnd_foot hP k_opt
      | with_reducible apply ite_closed
      | (intro _ _)
      | (intro _)
      | dsimp only
      | split

theorem execRowUpdateEnd_foot (hP : Closed F P) (k_regs : F .regs = true) (k_out : F .out = true) (k_router : F .router = true) (k_maint : F .maint = true) (k_hbm : F .hbm = true) (k_memory : F .memory = true) (k_opt : F .opt = true) {s : State} (h_s : P s) : OutP P (execRowUpdateEnd s) := by
    unfold execRowUpdateEnd
    try dsimp only
    repeat' first
      | with_reducible assumption
      | with_reducible apply outP_next
      | with_reducible apply outP_done
      | with_reducible apply finishRow_foot hP k_regs k_out k_router k_maint k_hbm k_memory k_opt
      | (with_reducible apply fstP_of; with_reducible apply finishRow_foot hP k_regs k_out k_router k_maint k_hbm k_memory k_opt)
      | with_reducible apply optShow_foot hP k_regs
      | with_reducible apply nextRow_foot hP k_regs k_out k_router k_maint k_hbm k_memory k_opt
      | (with_reducible exact fstP_elim (by assumption))
      | with_reducible apply foldl_fst
      | with_reducible apply ite_closed
      | (intro _ _)
      | (intro _)
      | dsimp only
      | split
      | with_reducible apply fstP_mk

theorem execTokenRefill_foot (hP : Closed F P) (k_opt : F .opt = true) {s : State} (h_s : P s) : OutP P (execTokenRefill s) := by
    unfold execTokenRefill
    try dsimp only
    repeat' first
      | with_reducible assumption
      | with_reducible apply outP_next
      | with_reducible apply outP_done
      | with_reducible apply ite_closed
      | (intro _ _)
      | (intro _)
      | dsimp only
      | split
      | (with_reducible apply Closed.opt hP k_opt)

theorem execAutoBatchStart_foot (hP : Closed F P) (k_regs : F .regs = true) (k_out : F .out = true) (k_router : F .router = true) (k_maint : F .maint = true) (k_hbm : F .hbm = true) (k_memory : F .memory = true) (k_opt : F .opt = true) {s : State} (h_s : P s) : OutP P (execAutoBatchStart s) := by
    unfold execAutoBatchStart
    try dsimp only
    repeat' first
      | with_reducible assumption
      | with_reducible apply outP_next
      | with_reducible apply outP_done
      | with_reducible apply optShow_foot hP k_regs
      | with_reducible apply beginBatch_foot hP k_regs k_out k_router k_maint k_hbm k_memory k_opt
      | with_reducible apply ite_closed
      | (intro _ _)
      | (intro _)
      | dsimp only
      | split

theorem optEnable_foot (hP : Closed F P) (k_regs : F .regs = true) (k_out : F .out = true) (k_router : F .router = true) (k_maint : F .maint = true) (k_hbm : F .hbm = true) (k_memory : F .memory = true) (k_opt : F .opt = true) {s : State} (h_s : P s) : P (optEnable s) := by
    unfold optEnable
    try dsimp only
    repeat' first
      | with_reducible assumption
      | with_reducible apply refuse_foot hP k_regs k_out k_router k_maint
      | with_reducible apply setOn_foot hP k_regs
      | with_reducible apply optShow_foot hP k_regs
      | with_reducible apply writeRow_foot hP k_regs k_out k_router k_maint k_hbm k_memory k_opt
      | with_reducible apply putRow_foot hP k_opt
      | (with_reducible refine foldl_inv P _ (fun _ _ _ => ?_) _ _ ?_)
      | with_reducible apply ite_closed
      | (intro _ _)
      | (intro _)
      | dsimp only
      | split

theorem execOptEnable_foot (hP : Closed F P) (k_regs : F .regs = true) (k_out : F .out = true) (k_router : F .router = true) (k_maint : F .maint = true) (k_hbm : F .hbm = true) (k_memory : F .memory = true) (k_opt : F .opt = true) {req : Requester} {s : State} (h_s : P s) : OutP P (execOptEnable req s) := by
    unfold execOptEnable
    try dsimp only
    repeat' first
      | with_reducible assumption
      | with_reducible apply outP_next
      | with_reducible apply outP_done
      | with_reducible apply gated_foot hP k_regs k_out k_router k_maint
      | with_reducible apply optEnable_foot hP k_regs k_out k_router k_maint k_hbm k_memory k_opt
      | with_reducible apply ite_closed
      | (intro _ _)
      | (intro _)
      | dsimp only
      | split

theorem optStop_foot (hP : Closed F P) (k_regs : F .regs = true) (k_opt : F .opt = true) {s : State} {abort : Bool} (h_s : P s) : P (optStop s abort) := by
    unfold optStop
    try dsimp only
    repeat' first
      | with_reducible assumption
      | with_reducible apply dropStaged_foot hP k_regs k_opt
      | with_reducible apply putRun_foot hP k_opt
      | with_reducible apply ite_closed
      | (intro _ _)
      | (intro _)
      | dsimp only
      | split

theorem optDisable_foot (hP : Closed F P) (k_regs : F .regs = true) (k_opt : F .opt = true) {s : State} {abort : Bool} (h_s : P s) : P (optDisable s abort) := by
    unfold optDisable
    try dsimp only
    repeat' first
      | with_reducible assumption
      | with_reducible apply setOff_foot hP k_regs
      | with_reducible apply optStop_foot hP k_regs k_opt
      | with_reducible apply ite_closed
      | (intro _ _)
      | (intro _)
      | dsimp only
      | split
      | (with_reducible apply Closed.opt hP k_opt)

theorem optStopDue_foot (hP : Closed F P) (k_regs : F .regs = true) (k_opt : F .opt = true) {s : State} (h_s : P s) : P (optStopDue s) := by
    unfold optStopDue
    try dsimp only
    repeat' first
      | with_reducible assumption
      | with_reducible apply optStop_foot hP k_regs k_opt
      | with_reducible apply ite_closed
      | (intro _ _)
      | (intro _)
      | dsimp only
      | split
      | (with_reducible apply Closed.opt hP k_opt)

theorem wholeRow_foot (hP : Closed F P) (k_opt : F .opt = true) {s : State} {b : Nat} {j : RowJob} (h_s : P s) : P (wholeRow s b j) := by
    unfold wholeRow
    try dsimp only
    repeat' first
      | with_reducible assumption
      | with_reducible apply ledgerPhase_foot hP k_opt
      | (with_reducible refine foldl_inv P _ (fun _ _ _ => ?_) _ _ ?_)
      | with_reducible apply ite_closed
      | (intro _ _)
      | (intro _)
      | dsimp only
      | split

theorem recoverRow_foot (hP : Closed F P) (k_regs : F .regs = true) (k_out : F .out = true) (k_router : F .router = true) (k_maint : F .maint = true) (k_opt : F .opt = true) {b : Nat} {s : State} {r : Nat} (h_s : P s) : P (recoverRow b s r) := by
    unfold recoverRow
    try dsimp only
    repeat' first
      | with_reducible assumption
      | with_reducible apply charge_foot hP k_regs k_out k_router k_maint k_opt
      | with_reducible apply wholeRow_foot hP k_opt
      | with_reducible apply journal_foot hP k_opt
      | with_reducible apply putRow_foot hP k_opt
      | with_reducible apply ite_closed
      | (intro _ _)
      | (intro _)
      | dsimp only
      | split

theorem recoverRows_foot (hP : Closed F P) (k_regs : F .regs = true) (k_out : F .out = true) (k_router : F .router = true) (k_maint : F .maint = true) (k_hbm : F .hbm = true) (k_memory : F .memory = true) (k_opt : F .opt = true) {s : State} {b : Nat} (h_s : P s) : P (recoverRows s b) := by
    unfold recoverRows
    try dsimp only
    repeat' first
      | with_reducible assumption
      | with_reducible apply recoverRow_foot hP k_regs k_out k_router k_maint k_opt
      | with_reducible apply writeRow_foot hP k_regs k_out k_router k_maint k_hbm k_memory k_opt
      | with_reducible apply State.raise_foot hP k_regs k_out k_router k_maint
      | with_reducible apply ledgerHigh_foot hP k_regs k_out k_router k_maint
      | (with_reducible apply fstP_of; with_reducible apply ledgerHigh_foot hP k_regs k_out k_router k_maint)
      | with_reducible apply showLedger_foot hP k_regs
      | (with_reducible exact fstP_elim (by assumption))
      | with_reducible apply foldl_fst
      | (with_reducible refine foldl_inv P _ (fun _ _ _ => ?_) _ _ ?_)
      | with_reducible apply Closed.setF hP k_regs
      | with_reducible apply Closed.wr64 hP k_regs
      | with_reducible apply ite_closed
      | (intro _ _)
      | (intro _)
      | dsimp only
      | split
      | with_reducible apply fstP_mk

theorem readJournal_foot (hP : Closed F P) (k_opt : F .opt = true) {s : State} (h_s : P s) : P (readJournal s) := by
    unfold readJournal
    try dsimp only
    repeat' first
      | with_reducible assumption
      | with_reducible apply putRow_foot hP k_opt
      | (with_reducible refine foldl_inv P _ (fun _ _ _ => ?_) _ _ ?_)
      | with_reducible apply ite_closed
      | (intro _ _)
      | (intro _)
      | dsimp only
      | split

end Sys2Proof.Machine
end

