-- ==== Sys2Proof/Laws/FootPerf.lean ====
section
/-!
SUPPORT. Footprints of the definitions of Machine/Perf.lean: which parts of the state each of them may update.
-/
namespace Sys2Proof.Machine

variable {F : Part → Bool} {P : State → Prop}

theorem counterCfg_foot (hP : Closed F P) (k_regs : F .regs = true) (k_out : F .out = true) (k_router : F .router = true) (k_maint : F .maint = true) {s : State} {c : Nat} {v : Word} (h_s : P s) : P (counterCfg s c v) := by
    unfold counterCfg
    try dsimp only
    repeat' first
      | with_reducible assumption
      | with_reducible apply refuse_foot hP k_regs k_out k_router k_maint
      | with_reducible apply Closed.wr hP k_regs
      | with_reducible apply ite_closed
      | (intro _ _)
      | (intro _)
      | dsimp only
      | split

theorem execCounterCfgWrite_foot (hP : Closed F P) (k_regs : F .regs = true) (k_out : F .out = true) (k_router : F .router = true) (k_maint : F .maint = true) {req : Requester} {i : Fin 256} {value : Word} {s : State} (h_s : P s) : OutP P (execCounterCfgWrite req i value s) := by
    unfold execCounterCfgWrite
    try dsimp only
    repeat' first
      | with_reducible assumption
      | with_reducible apply outP_next
      | with_reducible apply outP_done
      | with_reducible apply gated_foot hP k_regs k_out k_router k_maint
      | with_reducible apply counterCfg_foot hP k_regs k_out k_router k_maint
      | with_reducible apply ite_closed
      | (intro _ _)
      | (intro _)
      | dsimp only
      | split

theorem execCounterWrap_foot (hP : Closed F P) (k_regs : F .regs = true) (k_out : F .out = true) (k_router : F .router = true) (k_maint : F .maint = true) {counter : PerfCounter} {amount : Nat} {s : State} (h_s : P s) : OutP P (execCounterWrap counter amount s) := by
    unfold execCounterWrap
    try dsimp only
    repeat' first
      | with_reducible assumption
      | with_reducible apply outP_next
      | with_reducible apply outP_done
      | with_reducible apply cntAdd_foot hP k_regs k_out k_router k_maint
      | with_reducible apply ite_closed
      | (intro _ _)
      | (intro _)
      | dsimp only
      | split

theorem execFreezeWrite_foot (hP : Closed F P) (k_regs : F .regs = true) (k_out : F .out = true) (k_router : F .router = true) (k_maint : F .maint = true) {req : Requester} {value : Word} {s : State} (h_s : P s) : OutP P (execFreezeWrite req value s) := by
    unfold execFreezeWrite
    try dsimp only
    repeat' first
      | with_reducible assumption
      | with_reducible apply outP_next
      | with_reducible apply outP_done
      | with_reducible apply gated_foot hP k_regs k_out k_router k_maint
      | with_reducible apply Closed.wr hP k_regs
      | with_reducible apply ite_closed
      | (intro _ _)
      | (intro _)
      | dsimp only
      | split

theorem perfClear_foot (hP : Closed F P) (k_regs : F .regs = true) {s : State} (h_s : P s) : P (perfClear s) := by
    unfold perfClear
    try dsimp only
    repeat' first
      | with_reducible assumption
      | (with_reducible refine foldl_inv P _ (fun _ _ _ => ?_) _ _ ?_)
      | with_reducible apply Closed.wr64 hP k_regs
      | with_reducible apply Closed.wr hP k_regs
      | with_reducible apply ite_closed
      | (intro _ _)
      | (intro _)
      | dsimp only
      | split

theorem execPerfCmdClear_foot (hP : Closed F P) (k_regs : F .regs = true) (k_out : F .out = true) (k_router : F .router = true) (k_maint : F .maint = true) {req : Requester} {s : State} (h_s : P s) : OutP P (execPerfCmdClear req s) := by
    unfold execPerfCmdClear
    try dsimp only
    repeat' first
      | with_reducible assumption
      | with_reducible apply outP_next
      | with_reducible apply outP_done
      | with_reducible apply gated_foot hP k_regs k_out k_router k_maint
      | with_reducible apply perfClear_foot hP k_regs
      | with_reducible apply ite_closed
      | (intro _ _)
      | (intro _)
      | dsimp only
      | split

theorem privCtrlWrite_foot (hP : Closed F P) (k_regs : F .regs = true) {s : State} {v : Word} (h_s : P s) : P (privCtrlWrite s v) := by
    unfold privCtrlWrite
    try dsimp only
    repeat' first
      | with_reducible assumption
      | (with_reducible refine foldl_inv P _ (fun _ _ _ => ?_) _ _ ?_)
      | with_reducible apply Closed.wr hP k_regs
      | with_reducible apply Closed.wr64 hP k_regs
      | with_reducible apply ite_closed
      | (intro _ _)
      | (intro _)
      | dsimp only
      | split

theorem dumpCfg_foot (hP : Closed F P) (k_regs : F .regs = true) (k_out : F .out = true) (k_router : F .router = true) (k_maint : F .maint = true) {s : State} {v : Word} (h_s : P s) : P (dumpCfg s v) := by
    unfold dumpCfg
    try dsimp only
    repeat' first
      | with_reducible assumption
      | with_reducible apply refuse_foot hP k_regs k_out k_router k_maint
      | with_reducible apply Closed.wr hP k_regs
      | with_reducible apply ite_closed
      | (intro _ _)
      | (intro _)
      | dsimp only
      | split

theorem dumpMissed_foot (hP : Closed F P) (k_regs : F .regs = true) (k_out : F .out = true) (k_router : F .router = true) (k_maint : F .maint = true) (k_perf : F .perf = true) {s : State} (h_s : P s) : P (dumpMissed s) := by
    unfold dumpMissed
    try dsimp only
    repeat' first
      | with_reducible assumption
      | with_reducible apply State.raise_foot hP k_regs k_out k_router k_maint
      | with_reducible apply Closed.inc hP k_regs
      | with_reducible apply ite_closed
      | (intro _ _)
      | (intro _)
      | dsimp only
      | split
      | (with_reducible apply Closed.perf hP k_perf)

theorem takeDump_foot (hP : Closed F P) (k_regs : F .regs = true) (k_out : F .out = true) (k_router : F .router = true) (k_maint : F .maint = true) (k_perf : F .perf = true) {s : State} {trigger : Nat} (h_s : P s) : P (takeDump s trigger) := by
    unfold takeDump
    try dsimp only
    repeat' first
      | with_reducible assumption
      | with_reducible apply dumpMissed_foot hP k_regs k_out k_router k_maint k_perf
      | with_reducible apply ite_closed
      | (intro _ _)
      | (intro _)
      | dsimp only
      | split
      | (with_reducible apply Closed.perf hP k_perf)

theorem execPerfCmdDump_foot (hP : Closed F P) (k_regs : F .regs = true) (k_out : F .out = true) (k_router : F .router = true) (k_maint : F .maint = true) (k_perf : F .perf = true) {req : Requester} {s : State} (h_s : P s) : OutP P (execPerfCmdDump req s) := by
    unfold execPerfCmdDump
    try dsimp only
    repeat' first
      | with_reducible assumption
      | with_reducible apply outP_next
      | with_reducible apply outP_done
      | with_reducible apply gated_foot hP k_regs k_out k_router k_maint
      | with_reducible apply takeDump_foot hP k_regs k_out k_router k_maint k_perf
      | with_reducible apply ite_closed
      | (intro _ _)
      | (intro _)
      | dsimp only
      | split

theorem execDumpTrigger_foot (hP : Closed F P) (k_regs : F .regs = true) (k_out : F .out = true) (k_router : F .router = true) (k_maint : F .maint = true) (k_perf : F .perf = true) {byField : Option (Fin 4)} {s : State} (h_s : P s) : OutP P (execDumpTrigger byField s) := by
    unfold execDumpTrigger
    try dsimp only
    repeat' first
      | with_reducible assumption
      | with_reducible apply outP_next
      | with_reducible apply outP_done
      | with_reducible apply takeDump_foot hP k_regs k_out k_router k_maint k_perf
      | with_reducible apply ite_closed
      | (intro _ _)
      | (intro _)
      | dsimp only
      | split

theorem putEntries_foot (hP : Closed F P) (k_regs : F .regs = true) (k_out : F .out = true) (k_router : F .router = true) (k_maint : F .maint = true) (k_hbm : F .hbm = true) (k_host : F .host = true) (k_memory : F .memory = true) {s : State} {r : Nat} {k : Nat} (x3 : List (Nat → List Byte)) (h_s : P s) : P (putEntries s r k x3) := by
  induction x3 generalizing s r k with
  | nil =>
    unfold putEntries
    try dsimp only
    repeat' first
      | with_reducible assumption
      | with_reducible apply memWrite_foot hP k_regs k_out k_router k_maint k_hbm k_host k_memory
      | with_reducible apply ite_closed
      | (intro _ _)
      | (intro _)
      | dsimp only
      | split
  | cons x_ t_ ih =>
    unfold putEntries
    try dsimp only
    repeat' first
      | with_reducible assumption
      | with_reducible apply ih
      | with_reducible apply memWrite_foot hP k_regs k_out k_router k_maint k_hbm k_host k_memory
      | with_reducible apply ite_closed
      | (intro _ _)
      | (intro _)
      | dsimp only
      | split

theorem execDumpWriteComplete_foot (hP : Closed F P) (k_regs : F .regs = true) (k_out : F .out = true) (k_router : F .router = true) (k_maint : F .maint = true) (k_hbm : F .hbm = true) (k_host : F .host = true) (k_memory : F .memory = true) (k_perf : F .perf = true) {s : State} (h_s : P s) : OutP P (execDumpWriteComplete s) := by
    unfold execDumpWriteComplete
    try dsimp only
    repeat' first
      | with_reducible assumption
      | with_reducible apply outP_next
      | with_reducible apply outP_done
      | with_reducible apply dumpMissed_foot hP k_regs k_out k_router k_maint k_perf
      | with_reducible apply putEntries_foot hP k_regs k_out k_router k_maint k_hbm k_host k_memory
      | with_reducible apply ringSignal_foot hP k_regs k_out k_router
      | with_reducible apply Closed.wr hP k_regs
      | with_reducible apply ite_closed
      | (intro _ _)
      | (intro _)
      | dsimp only
      | split
      | (with_reducible apply Closed.perf hP k_perf)

theorem glintCtrl_foot (hP : Closed F P) (k_regs : F .regs = true) (k_out : F .out = true) (k_router : F .router = true) (k_maint : F .maint = true) {s : State} {v : Word} (h_s : P s) : P (glintCtrl s v) := by
    unfold glintCtrl
    try dsimp only
    repeat' first
      | with_reducible assumption
      | with_reducible apply refuse_foot hP k_regs k_out k_router k_maint
      | with_reducible apply Closed.wr hP k_regs
      | with_reducible apply ite_closed
      | (intro _ _)
      | (intro _)
      | dsimp only
      | split

theorem execGlintRecordWrite_foot (hP : Closed F P) (k_regs : F .regs = true) (k_out : F .out = true) (k_freeCount : F .freeCount = true) (k_router : F .router = true) (k_maint : F .maint = true) (k_hbm : F .hbm = true) (k_host : F .host = true) (k_memory : F .memory = true) (k_perf : F .perf = true) {x0 : Fin 4} {stages : GlintStages} {s : State} (h_s : P s) : OutP P (execGlintRecordWrite x0 stages s) := by
    unfold execGlintRecordWrite
    try dsimp only
    repeat' first
      | with_reducible assumption
      | with_reducible apply outP_next
      | with_reducible apply outP_done
      | (with_reducible refine optP_of (by assumption) ?_)
      | with_reducible exact optP_none
      | with_reducible apply optP_getD
      | with_reducible apply optP_some
      | with_reducible apply putGlint_foot hP k_perf
      | with_reducible apply ringPush_foot hP k_regs k_out k_router k_maint k_hbm k_host k_memory
      | with_reducible apply State.raise_foot hP k_regs k_out k_router k_maint
      | with_reducible apply Closed.useFree hP k_freeCount
      | with_reducible apply Closed.inc hP k_regs
      | with_reducible apply ite_closed
      | (intro _ _)
      | (intro _)
      | dsimp only
      | split
      | (with_reducible apply Closed.perf hP k_perf)

theorem perfEnable_foot (hP : Closed F P) (k_regs : F .regs = true) (k_out : F .out = true) (k_router : F .router = true) (k_maint : F .maint = true) {s : State} {a : Nat} (h_s : P s) : P (perfEnable s a) := by
    unfold perfEnable
    try dsimp only
    repeat' first
      | with_reducible assumption
      | with_reducible apply refuse_foot hP k_regs k_out k_router k_maint
      | with_reducible apply setOn_foot hP k_regs
      | (with_reducible refine foldl_inv P _ (fun _ _ _ => ?_) _ _ ?_)
      | with_reducible apply ite_closed
      | (intro _ _)
      | (intro _)
      | dsimp only
      | split

theorem perfDisable_foot (hP : Closed F P) (k_regs : F .regs = true) (k_perf : F .perf = true) {s : State} {abort : Bool} (h_s : P s) : P (perfDisable s abort) := by
    unfold perfDisable
    try dsimp only
    repeat' first
      | with_reducible assumption
      | with_reducible apply setOff_foot hP k_regs
      | with_reducible apply putGlint_foot hP k_perf
      | (with_reducible refine foldl_inv P _ (fun _ _ _ => ?_) _ _ ?_)
      | with_reducible apply Closed.incBy hP k_regs
      | with_reducible apply ite_closed
      | (intro _ _)
      | (intro _)
      | dsimp only
      | split
      | (with_reducible apply Closed.perf hP k_perf)

theorem perfReset_foot (hP : Closed F P) (k_perf : F .perf = true) {s : State} (h_s : P s) : P (perfReset s) := by
    unfold perfReset
    try dsimp only
    repeat' first
      | with_reducible assumption
      | with_reducible apply ite_closed
      | (intro _ _)
      | (intro _)
      | dsimp only
      | split
      | (with_reducible apply Closed.perf hP k_perf)

end Sys2Proof.Machine
end

