-- ==== Sys2Proof/Laws/FootLayers.lean ====
section
/-!
SUPPORT. Footprints of the definitions of Machine/Layers.lean: which parts of the state each of them may update.
-/
namespace Sys2Proof.Machine

variable {F : Part → Bool} {P : State → Prop}

theorem putProd_foot (hP : Closed F P) (k_heads : F .heads = true) {s : State} {x1 : Nat} {nx : Bool} {x3 : FieldSt} (h_s : P s) : P (putProd s x1 nx x3) := by
    unfold putProd
    try dsimp only
    repeat' first
      | with_reducible assumption
      | with_reducible apply putHead_foot hP k_heads
      | with_reducible apply ite_closed
      | (intro _ _)
      | (intro _)
      | dsimp only
      | split

theorem eclipse_foot (hP : Closed F P) (k_regs : F .regs = true) (k_out : F .out = true) (k_router : F .router = true) (k_maint : F .maint = true) {s : State} {x1 : Fin 4} {nx : Bool} {x3 : FieldSt} {k : Nat} {y : Nat} {cause : Nat} (h_s : P s) : P (eclipse s x1 nx x3 k y cause).1 := by
    change FstP P _
    unfold eclipse
    try dsimp only
    repeat' first
      | with_reducible assumption
      | (intro _ _ _)
      | with_reducible apply ite_closed
      | with_reducible apply perfHit_foot hP k_regs k_out k_router k_maint
      | with_reducible apply State.raise_foot hP k_regs k_out k_router k_maint
      | (with_reducible exact fstP_elim (by assumption))
      | with_reducible apply foldl_fst
      | with_reducible apply Closed.inc hP k_regs
      | with_reducible apply Closed.wr hP k_regs
      | with_reducible apply Closed.setB hP k_regs
      | with_reducible apply ite_closed
      | (intro _ _)
      | (intro _)
      | dsimp only
      | split
      | with_reducible apply fstP_mk

theorem layerTouch_foot (hP : Closed F P) (k_regs : F .regs = true) (k_out : F .out = true) (k_router : F .router = true) (k_maint : F .maint = true) (k_memory : F .memory = true) {x0 : Nat} {k : Nat} {s : State} {q : Nat × Nat} (h_s : P s) : P (layerTouch x0 k s q) := by
    unfold layerTouch
    try dsimp only
    repeat' first
      | with_reducible assumption
      | with_reducible apply perfHit_foot hP k_regs k_out k_router k_maint
      | with_reducible apply touch_foot hP k_regs k_out k_router k_maint k_memory
      | with_reducible apply ite_closed
      | (intro _ _)
      | (intro _)
      | dsimp only
      | split

theorem readDescriptor_foot (hP : Closed F P) (k_regs : F .regs = true) (k_out : F .out = true) (k_router : F .router = true) (k_maint : F .maint = true) (k_memory : F .memory = true) {x0 : Fin 4} {nx : Bool} {k : Nat} {p : State × FieldSt} (h_p : P p.1) : P (readDescriptor x0 nx k p).1 := by
    change FstP P _
    unfold readDescriptor
    try dsimp only
    repeat' first
      | with_reducible assumption
      | (intro _ _ _)
      | with_reducible apply ite_closed
      | with_reducible apply layerTouch_foot hP k_regs k_out k_router k_maint k_memory
      | with_reducible apply eclipse_foot hP k_regs k_out k_router k_maint
      | (with_reducible apply fstP_of; with_reducible apply eclipse_foot hP k_regs k_out k_router k_maint)
      | (with_reducible exact fstP_elim (by assumption))
      | with_reducible apply foldl_fst
      | (with_reducible refine foldl_inv P _ (fun _ _ _ => ?_) _ _ ?_)
      | with_reducible apply ite_closed
      | (intro _ _)
      | (intro _)
      | dsimp only
      | split
      | with_reducible apply fstP_mk

theorem readGuard_foot (hP : Closed F P) (k_regs : F .regs = true) (k_out : F .out = true) (k_router : F .router = true) (k_maint : F .maint = true) (k_memory : F .memory = true) {x0 : Fin 4} {nx : Bool} {k : Nat} {band : Nat} {p : State × FieldSt} (h_p : P p.1) : P (readGuard x0 nx k band p).1 := by
    change FstP P _
    unfold readGuard
    try dsimp only
    repeat' first
      | with_reducible assumption
      | (intro _ _ _)
      | with_reducible apply ite_closed
      | with_reducible apply layerTouch_foot hP k_regs k_out k_router k_maint k_memory
      | with_reducible apply eclipse_foot hP k_regs k_out k_router k_maint
      | (with_reducible apply fstP_of; with_reducible apply eclipse_foot hP k_regs k_out k_router k_maint)
      | (with_reducible exact fstP_elim (by assumption))
      | with_reducible apply foldl_fst
      | with_reducible apply ite_closed
      | (intro _ _)
      | (intro _)
      | dsimp only
      | split
      | with_reducible apply fstP_mk

theorem readLayerData_foot (hP : Closed F P) (k_regs : F .regs = true) (k_out : F .out = true) (k_router : F .router = true) (k_maint : F .maint = true) (k_memory : F .memory = true) {x0 : Fin 4} {nx : Bool} {k : Nat} {line : Nat} {p : State × FieldSt} (h_p : P p.1) : P (readLayerData x0 nx k line p).1 := by
    change FstP P _
    unfold readLayerData
    try dsimp only
    repeat' first
      | with_reducible assumption
      | (intro _ _ _)
      | with_reducible apply ite_closed
      | with_reducible apply readGuard_foot hP k_regs k_out k_router k_maint k_memory
      | (with_reducible apply fstP_of; with_reducible apply readGuard_foot hP k_regs k_out k_router k_maint k_memory)
      | with_reducible apply layerTouch_foot hP k_regs k_out k_router k_maint k_memory
      | with_reducible apply eclipse_foot hP k_regs k_out k_router k_maint
      | (with_reducible apply fstP_of; with_reducible apply eclipse_foot hP k_regs k_out k_router k_maint)
      | (with_reducible exact fstP_elim (by assumption))
      | with_reducible apply foldl_fst
      | (with_reducible refine foldl_inv P _ (fun _ _ _ => ?_) _ _ ?_)
      | with_reducible apply ite_closed
      | (intro _ _)
      | (intro _)
      | dsimp only
      | split
      | with_reducible apply fstP_mk

end Sys2Proof.Machine
end

