-- ==== Sys2Proof/Laws/FootDirect.lean ====
section
/-!
SUPPORT. Footprints of the definitions of Machine/Direct.lean: which parts of the state each of them may update.
-/
namespace Sys2Proof.Machine

variable {F : Part → Bool} {P : State → Prop}

theorem directWrite_foot (hP : Closed F P) (k_regs : F .regs = true) (k_out : F .out = true) (k_router : F .router = true) (k_ring : F .ring = true) (k_maint : F .maint = true) (k_ing : F .ing = true) (k_heads : F .heads = true) (k_links : F .links = true) {s : State} {a : Nat} {v : Word} (h_s : P s) : P (directWrite s a v) := by
    unfold directWrite
    try dsimp only
    repeat' first
      | with_reducible assumption
      | with_reducible apply refuse_foot hP k_regs k_out k_router k_maint
      | with_reducible apply applyReg_foot hP k_regs k_out k_router k_ring k_maint k_ing k_heads k_links
      | with_reducible apply ite_closed
      | (intro _ _)
      | (intro _)
      | dsimp only
      | split

end Sys2Proof.Machine
end

