-- ==== Sys2Proof/Laws/FootRails.lean ====
section
/-!
SUPPORT. Footprints of the definitions of Machine/Rails.lean: which parts of the state each of them may update.
-/
namespace Sys2Proof.Machine

variable {F : Part → Bool} {P : State → Prop}

theorem setGate_foot (hP : Closed F P) (k_out : F .out = true) (k_keeper : F .keeper = true) {x0 : Nat} {time : Int} {v : Bool} {s : State} {k : Nat} (h_s : P s) : P (setGate x0 time v s k) := by
    unfold setGate
    try dsimp only
    repeat' first
      | with_reducible assumption
      | with_reducible apply Closed.emit hP k_out
      | with_reducible apply ite_closed
      | (intro _ _)
      | (intro _)
      | dsimp only
      | split
      | (with_reducible apply Closed.keeper hP k_keeper)

theorem gatesTo_foot (hP : Closed F P) (k_out : F .out = true) (k_keeper : F .keeper = true) {v : Bool} {s : State} {x2 : Nat} (h_s : P s) : P (gatesTo v s x2) := by
    unfold gatesTo
    try dsimp only
    repeat' first
      | with_reducible assumption
      | with_reducible apply setGate_foot hP k_out k_keeper
      | (with_reducible refine foldl_inv P _ (fun _ _ _ => ?_) _ _ ?_)
      | with_reducible apply ite_closed
      | (intro _ _)
      | (intro _)
      | dsimp only
      | split

theorem gateShow_foot (hP : Closed F P) (k_regs : F .regs = true) (k_out : F .out = true) (k_keeper : F .keeper = true) {s : State} {x1 : Nat} (h_s : P s) : P (gateShow s x1) := by
    unfold gateShow
    try dsimp only
    repeat' first
      | with_reducible assumption
      | with_reducible apply setGate_foot hP k_out k_keeper
      | (with_reducible refine foldl_inv P _ (fun _ _ _ => ?_) _ _ ?_)
      | with_reducible apply Closed.wr hP k_regs
      | with_reducible apply ite_closed
      | (intro _ _)
      | (intro _)
      | dsimp only
      | split

theorem gatesStop_foot (hP : Closed F P) (k_regs : F .regs = true) (k_out : F .out = true) (k_keeper : F .keeper = true) {s : State} (h_s : P s) : P (gatesStop s) := by
    unfold gatesStop
    try dsimp only
    repeat' first
      | with_reducible assumption
      | with_reducible apply gateShow_foot hP k_regs k_out k_keeper
      | with_reducible apply gatesTo_foot hP k_out k_keeper
      | (with_reducible refine foldl_inv P _ (fun _ _ _ => ?_) _ _ ?_)
      | with_reducible apply ite_closed
      | (intro _ _)
      | (intro _)
      | dsimp only
      | split
      | (with_reducible apply Closed.keeper hP k_keeper)

theorem gateLine_foot (hP : Closed F P) (k_out : F .out = true) (k_keeper : F .keeper = true) {s : State} {x1 : Nat} {y : Nat} {active : Nat} {total : Nat} {start : Int} (h_s : P s) : P (gateLine s x1 y active total start) := by
    unfold gateLine
    try dsimp only
    repeat' first
      | with_reducible assumption
      | with_reducible apply gateEdgesStop_foot hP k_keeper
      | with_reducible apply setGate_foot hP k_out k_keeper
      | (with_reducible refine foldl_inv P _ (fun _ _ _ => ?_) _ _ ?_)
      | with_reducible apply ite_closed
      | (intro _ _)
      | (intro _)
      | dsimp only
      | split
      | (with_reducible apply Closed.keeper hP k_keeper)

theorem gateUnused_foot (hP : Closed F P) (k_out : F .out = true) (k_keeper : F .keeper = true) {s : State} {x1 : Nat} (h_s : P s) : P (gateUnused s x1) := by
    unfold gateUnused
    try dsimp only
    repeat' first
      | with_reducible assumption
      | with_reducible apply setGate_foot hP k_out k_keeper
      | (with_reducible refine foldl_inv P _ (fun _ _ _ => ?_) _ _ ?_)
      | with_reducible apply ite_closed
      | (intro _ _)
      | (intro _)
      | dsimp only
      | split

theorem gateField_foot (hP : Closed F P) (k_regs : F .regs = true) (k_eff : F .eff = true) (k_out : F .out = true) (k_keeper : F .keeper = true) {s : State} {x1 : Nat} (h_s : P s) : P (gateField s x1) := by
    unfold gateField
    try dsimp only
    repeat' first
      | with_reducible assumption
      | with_reducible apply gateShow_foot hP k_regs k_out k_keeper
      | with_reducible apply gateUnused_foot hP k_out k_keeper
      | (with_reducible refine foldl_inv P _ (fun _ _ _ => ?_) _ _ ?_)
      | with_reducible apply Closed.putEff hP k_eff
      | with_reducible apply ite_closed
      | (intro _ _)
      | (intro _)
      | dsimp only
      | split
      | (with_reducible apply Closed.keeper hP k_keeper)

theorem railTo_foot (hP : Closed F P) (k_regs : F .regs = true) (k_out : F .out = true) (k_router : F .router = true) (k_maint : F .maint = true) (k_hbm : F .hbm = true) (k_memory : F .memory = true) (k_opt : F .opt = true) {s : State} {r : Nat} {st : Nat} (h_s : P s) : P (railTo s r st) := by
    unfold railTo
    try dsimp only
    repeat' first
      | with_reducible assumption
      | with_reducible apply setRail_foot hP k_regs
      | with_reducible apply opticWatch_foot hP k_regs k_out k_router k_maint k_hbm k_memory k_opt
      | with_reducible apply Closed.setB hP k_regs
      | with_reducible apply ite_closed
      | (intro _ _)
      | (intro _)
      | dsimp only
      | split

theorem discharge_foot (hP : Closed F P) (k_regs : F .regs = true) (k_out : F .out = true) (k_router : F .router = true) (k_maint : F .maint = true) (k_hbm : F .hbm = true) (k_memory : F .memory = true) (k_opt : F .opt = true) {s : State} {r : Nat} {st : Nat} (h_s : P s) : P (discharge s r st) := by
    unfold discharge
    try dsimp only
    repeat' first
      | with_reducible assumption
      | with_reducible apply railTo_foot hP k_regs k_out k_router k_maint k_hbm k_memory k_opt
      | with_reducible apply ite_closed
      | (intro _ _)
      | (intro _)
      | dsimp only
      | split

theorem setStep_foot (hP : Closed F P) (k_regs : F .regs = true) (k_keeper : F .keeper = true) {s : State} {i : Nat} (h_s : P s) : P (setStep s i) := by
    unfold setStep
    try dsimp only
    repeat' first
      | with_reducible assumption
      | with_reducible apply Closed.setF hP k_regs
      | with_reducible apply ite_closed
      | (intro _ _)
      | (intro _)
      | dsimp only
      | split
      | (with_reducible apply Closed.keeper hP k_keeper)

theorem powerGone_foot (hP : Closed F P) (k_regs : F .regs = true) (k_out : F .out = true) (k_router : F .router = true) (k_maint : F .maint = true) (k_hbm : F .hbm = true) (k_memory : F .memory = true) (k_keeper : F .keeper = true) (k_opt : F .opt = true) {s : State} (h_s : P s) : P (powerGone s) := by
    unfold powerGone
    try dsimp only
    repeat' first
      | with_reducible assumption
      | with_reducible apply setRail_foot hP k_regs
      | with_reducible apply gatesStop_foot hP k_regs k_out k_keeper
      | with_reducible apply setKState_foot hP k_regs
      | with_reducible apply opticWatch_foot hP k_regs k_out k_router k_maint k_hbm k_memory k_opt
      | (with_reducible refine foldl_inv P _ (fun _ _ _ => ?_) _ _ ?_)
      | with_reducible apply Closed.setF hP k_regs
      | with_reducible apply Closed.setB hP k_regs
      | with_reducible apply ite_closed
      | (intro _ _)
      | (intro _)
      | dsimp only
      | split
      | (with_reducible apply Closed.keeper hP k_keeper)

theorem downDone_foot (hP : Closed F P) (k_regs : F .regs = true) (k_out : F .out = true) (k_router : F .router = true) (k_maint : F .maint = true) (k_hbm : F .hbm = true) (k_memory : F .memory = true) (k_keeper : F .keeper = true) (k_opt : F .opt = true) {s : State} (h_s : P s) : P (downDone s) := by
    unfold downDone
    try dsimp only
    repeat' first
      | with_reducible assumption
      | with_reducible apply setLedger_foot hP k_regs
      | with_reducible apply powerGone_foot hP k_regs k_out k_router k_maint k_hbm k_memory k_keeper k_opt
      | with_reducible apply setKState_foot hP k_regs
      | with_reducible apply State.raise_foot hP k_regs k_out k_router k_maint
      | with_reducible apply optShow_foot hP k_regs
      | with_reducible apply journalCopy_foot hP k_regs k_keeper
      | (with_reducible refine foldl_inv P _ (fun _ _ _ => ?_) _ _ ?_)
      | with_reducible apply Closed.setF hP k_regs
      | with_reducible apply ite_closed
      | (intro _ _)
      | (intro _)
      | dsimp only
      | split
      | (with_reducible apply Closed.keeper hP k_keeper)

theorem downFrom_foot (hP : Closed F P) (k_regs : F .regs = true) (k_out : F .out = true) (k_router : F .router = true) (k_maint : F .maint = true) (k_hbm : F .hbm = true) (k_memory : F .memory = true) (k_keeper : F .keeper = true) (k_opt : F .opt = true) (x0 : Nat) {x1 : State} (h_x1 : P x1) : P (downFrom x0 x1) := by
  induction x0 generalizing x1 with
  | zero =>
    unfold downFrom
    try dsimp only
    repeat' first
      | with_reducible assumption
      | with_reducible apply downDone_foot hP k_regs k_out k_router k_maint k_hbm k_memory k_keeper k_opt
      | with_reducible apply setStep_foot hP k_regs k_keeper
      | with_reducible apply railTo_foot hP k_regs k_out k_router k_maint k_hbm k_memory k_opt
      | with_reducible apply gatesStop_foot hP k_regs k_out k_keeper
      | with_reducible apply gatesTo_foot hP k_out k_keeper
      | with_reducible apply discharge_foot hP k_regs k_out k_router k_maint k_hbm k_memory k_opt
      | (with_reducible refine foldl_inv P _ (fun _ _ _ => ?_) _ _ ?_)
      | with_reducible apply ite_closed
      | (intro _ _)
      | (intro _)
      | dsimp only
      | split
  | succ n_ ih =>
    unfold downFrom
    try dsimp only
    repeat' first
      | with_reducible assumption
      | with_reducible apply ih
      | with_reducible apply downDone_foot hP k_regs k_out k_router k_maint k_hbm k_memory k_keeper k_opt
      | with_reducible apply setStep_foot hP k_regs k_keeper
      | with_reducible apply railTo_foot hP k_regs k_out k_router k_maint k_hbm k_memory k_opt
      | with_reducible apply gatesStop_foot hP k_regs k_out k_keeper
      | with_reducible apply gatesTo_foot hP k_out k_keeper
      | with_reducible apply discharge_foot hP k_regs k_out k_router k_maint k_hbm k_memory k_opt
      | (with_reducible refine foldl_inv P _ (fun _ _ _ => ?_) _ _ ?_)
      | with_reducible apply ite_closed
      | (intro _ _)
      | (intro _)
      | dsimp only
      | split

theorem downStart_foot (hP : Closed F P) (k_regs : F .regs = true) (k_out : F .out = true) (k_router : F .router = true) (k_maint : F .maint = true) (k_hbm : F .hbm = true) (k_memory : F .memory = true) (k_keeper : F .keeper = true) (k_opt : F .opt = true) {s : State} {cause : Option Nat} (h_s : P s) : P (downStart s cause) := by
    unfold downStart
    try dsimp only
    repeat' first
      | with_reducible assumption
      | with_reducible apply setKState_foot hP k_regs
      | with_reducible apply setRail_foot hP k_regs
      | with_reducible apply downFrom_foot hP k_regs k_out k_router k_maint k_hbm k_memory k_keeper k_opt
      | (with_reducible refine foldl_inv P _ (fun _ _ _ => ?_) _ _ ?_)
      | with_reducible apply ite_closed
      | (intro _ _)
      | (intro _)
      | dsimp only
      | split
      | (with_reducible apply Closed.keeper hP k_keeper)

theorem upDone_foot (hP : Closed F P) (k_regs : F .regs = true) (k_out : F .out = true) (k_router : F .router = true) (k_maint : F .maint = true) (k_keeper : F .keeper = true) {s : State} (h_s : P s) : P (upDone s) := by
    unfold upDone
    try dsimp only
    repeat' first
      | with_reducible assumption
      | with_reducible apply setKState_foot hP k_regs
      | with_reducible apply State.raise_foot hP k_regs k_out k_router k_maint
      | with_reducible apply Closed.inc hP k_regs
      | with_reducible apply Closed.setF hP k_regs
      | with_reducible apply ite_closed
      | (intro _ _)
      | (intro _)
      | dsimp only
      | split
      | (with_reducible apply Closed.keeper hP k_keeper)

theorem upFrom_foot (hP : Closed F P) (k_regs : F .regs = true) (k_out : F .out = true) (k_router : F .router = true) (k_maint : F .maint = true) (k_hbm : F .hbm = true) (k_memory : F .memory = true) (k_keeper : F .keeper = true) (k_opt : F .opt = true) (x0 : Nat) {x1 : State} (h_x1 : P x1) : P (upFrom x0 x1) := by
  induction x0 generalizing x1 with
  | zero =>
    unfold upFrom
    try dsimp only
    repeat' first
      | with_reducible assumption
      | with_reducible apply upDone_foot hP k_regs k_out k_router k_maint k_keeper
      | with_reducible apply setStep_foot hP k_regs k_keeper
      | with_reducible apply railTo_foot hP k_regs k_out k_router k_maint k_hbm k_memory k_opt
      | with_reducible apply gatesTo_foot hP k_out k_keeper
      | with_reducible apply discharge_foot hP k_regs k_out k_router k_maint k_hbm k_memory k_opt
      | (with_reducible refine foldl_inv P _ (fun _ _ _ => ?_) _ _ ?_)
      | with_reducible apply ite_closed
      | (intro _ _)
      | (intro _)
      | dsimp only
      | split
      | (with_reducible apply Closed.keeper hP k_keeper)
  | succ n_ ih =>
    unfold upFrom
    try dsimp only
    repeat' first
      | with_reducible assumption
      | with_reducible apply ih
      | with_reducible apply upDone_foot hP k_regs k_out k_router k_maint k_keeper
      | with_reducible apply setStep_foot hP k_regs k_keeper
      | with_reducible apply railTo_foot hP k_regs k_out k_router k_maint k_hbm k_memory k_opt
      | with_reducible apply gatesTo_foot hP k_out k_keeper
      | with_reducible apply discharge_foot hP k_regs k_out k_router k_maint k_hbm k_memory k_opt
      | (with_reducible refine foldl_inv P _ (fun _ _ _ => ?_) _ _ ?_)
      | with_reducible apply ite_closed
      | (intro _ _)
      | (intro _)
      | dsimp only
      | split
      | (with_reducible apply Closed.keeper hP k_keeper)

theorem seqFail_foot (hP : Closed F P) (k_regs : F .regs = true) (k_out : F .out = true) (k_router : F .router = true) (k_maint : F .maint = true) (k_hbm : F .hbm = true) (k_memory : F .memory = true) (k_keeper : F .keeper = true) (k_opt : F .opt = true) {s : State} {reason : Nat} (h_s : P s) : P (seqFail s reason) := by
    unfold seqFail
    try dsimp only
    repeat' first
      | with_reducible assumption
      | with_reducible apply State.raise_foot hP k_regs k_out k_router k_maint
      | with_reducible apply downStart_foot hP k_regs k_out k_router k_maint k_hbm k_memory k_keeper k_opt
      | with_reducible apply dropReq_foot hP k_regs k_keeper
      | with_reducible apply Closed.wr hP k_regs
      | with_reducible apply ite_closed
      | (intro _ _)
      | (intro _)
      | dsimp only
      | split

theorem rampFault_foot (hP : Closed F P) (k_regs : F .regs = true) (k_out : F .out = true) (k_router : F .router = true) (k_maint : F .maint = true) (k_hbm : F .hbm = true) (k_memory : F .memory = true) (k_keeper : F .keeper = true) (k_opt : F .opt = true) {s : State} {r : Nat} {above : Bool} (h_s : P s) : P (rampFault s r above) := by
    unfold rampFault
    try dsimp only
    repeat' first
      | with_reducible assumption
      | with_reducible apply seqFail_foot hP k_regs k_out k_router k_maint k_hbm k_memory k_keeper k_opt
      | with_reducible apply railTo_foot hP k_regs k_out k_router k_maint k_hbm k_memory k_opt
      | with_reducible apply State.raise_foot hP k_regs k_out k_router k_maint
      | with_reducible apply ite_closed
      | (intro _ _)
      | (intro _)
      | dsimp only
      | split

theorem stepEnd_foot (hP : Closed F P) (k_regs : F .regs = true) (k_out : F .out = true) (k_router : F .router = true) (k_maint : F .maint = true) (k_hbm : F .hbm = true) (k_memory : F .memory = true) (k_keeper : F .keeper = true) (k_opt : F .opt = true) {s : State} (h_s : P s) : P (stepEnd s) := by
    unfold stepEnd
    try dsimp only
    repeat' first
      | with_reducible assumption
      | with_reducible apply gatesTo_foot hP k_out k_keeper
      | with_reducible apply downStart_foot hP k_regs k_out k_router k_maint k_hbm k_memory k_keeper k_opt
      | with_reducible apply rampFault_foot hP k_regs k_out k_router k_maint k_hbm k_memory k_keeper k_opt
      | with_reducible apply upFrom_foot hP k_regs k_out k_router k_maint k_hbm k_memory k_keeper k_opt
      | with_reducible apply railTo_foot hP k_regs k_out k_router k_maint k_hbm k_memory k_opt
      | with_reducible apply discharge_foot hP k_regs k_out k_router k_maint k_hbm k_memory k_opt
      | with_reducible apply downFrom_foot hP k_regs k_out k_router k_maint k_hbm k_memory k_keeper k_opt
      | (with_reducible refine foldl_inv P _ (fun _ _ _ => ?_) _ _ ?_)
      | with_reducible apply ite_closed
      | (intro _ _)
      | (intro _)
      | dsimp only
      | split

theorem execPowerGoodTimeout_foot (hP : Closed F P) (k_regs : F .regs = true) (k_out : F .out = true) (k_router : F .router = true) (k_maint : F .maint = true) (k_hbm : F .hbm = true) (k_memory : F .memory = true) (k_keeper : F .keeper = true) (k_opt : F .opt = true) {s : State} (h_s : P s) : OutP P (execPowerGoodTimeout s) := by
    unfold execPowerGoodTimeout
    try dsimp only
    repeat' first
      | with_reducible assumption
      | with_reducible apply outP_next
      | with_reducible apply outP_done
      | with_reducible apply downStart_foot hP k_regs k_out k_router k_maint k_hbm k_memory k_keeper k_opt
      | with_reducible apply seqFail_foot hP k_regs k_out k_router k_maint k_hbm k_memory k_keeper k_opt
      | with_reducible apply ite_closed
      | (intro _ _)
      | (intro _)
      | dsimp only
      | split

theorem downAll_foot (hP : Closed F P) (k_regs : F .regs = true) (k_out : F .out = true) (k_router : F .router = true) (k_maint : F .maint = true) (k_hbm : F .hbm = true) (k_memory : F .memory = true) (k_keeper : F .keeper = true) (k_opt : F .opt = true) (x0 : Nat) {x1 : State} (h_x1 : P x1) : P (downAll x0 x1) := by
  induction x0 generalizing x1 with
  | zero =>
    unfold downAll
    try dsimp only
    repeat' first
      | with_reducible assumption
      | with_reducible apply stepEnd_foot hP k_regs k_out k_router k_maint k_hbm k_memory k_keeper k_opt
      | with_reducible apply ite_closed
      | (intro _ _)
      | (intro _)
      | dsimp only
      | split
  | succ n_ ih =>
    unfold downAll
    try dsimp only
    repeat' first
      | with_reducible assumption
      | with_reducible apply ih
      | with_reducible apply stepEnd_foot hP k_regs k_out k_router k_maint k_hbm k_memory k_keeper k_opt
      | with_reducible apply ite_closed
      | (intro _ _)
      | (intro _)
      | dsimp only
      | split

theorem startPrecheck_foot (hP : Closed F P) (k_regs : F .regs = true) {s : State} (h_s : P s) : P (startPrecheck s) := by
    unfold startPrecheck
    try dsimp only
    repeat' first
      | with_reducible assumption
      | with_reducible apply setKState_foot hP k_regs
      | with_reducible apply Closed.setF hP k_regs
      | with_reducible apply ite_closed
      | (intro _ _)
      | (intro _)
      | dsimp only
      | split

theorem panelOn_foot (hP : Closed F P) (k_regs : F .regs = true) (k_out : F .out = true) (k_router : F .router = true) (k_maint : F .maint = true) {s : State} (h_s : P s) : P (panelOn s) := by
    unfold panelOn
    try dsimp only
    repeat' first
      | with_reducible assumption
      | with_reducible apply refuse_foot hP k_regs k_out k_router k_maint
      | with_reducible apply startPrecheck_foot hP k_regs
      | with_reducible apply setReq_foot hP k_regs
      | with_reducible apply Closed.wr hP k_regs
      | with_reducible apply ite_closed
      | (intro _ _)
      | (intro _)
      | dsimp only
      | split

theorem panelDown_foot (hP : Closed F P) (k_regs : F .regs = true) (k_out : F .out = true) (k_router : F .router = true) (k_maint : F .maint = true) (k_hbm : F .hbm = true) (k_memory : F .memory = true) (k_keeper : F .keeper = true) (k_opt : F .opt = true) {s : State} {cause : Nat} (h_s : P s) : P (panelDown s cause) := by
    unfold panelDown
    try dsimp only
    repeat' first
      | with_reducible assumption
      | with_reducible apply dropReq_foot hP k_regs k_keeper
      | with_reducible apply optShow_foot hP k_regs
      | with_reducible apply journalCopy_foot hP k_regs k_keeper
      | with_reducible apply setKState_foot hP k_regs
      | with_reducible apply downStart_foot hP k_regs k_out k_router k_maint k_hbm k_memory k_keeper k_opt
      | with_reducible apply ite_closed
      | (intro _ _)
      | (intro _)
      | dsimp only
      | split
      | (with_reducible apply Closed.keeper hP k_keeper)

theorem panelOff_foot (hP : Closed F P) (k_regs : F .regs = true) (k_out : F .out = true) (k_router : F .router = true) (k_maint : F .maint = true) (k_hbm : F .hbm = true) (k_memory : F .memory = true) (k_keeper : F .keeper = true) (k_opt : F .opt = true) {s : State} (h_s : P s) : P (panelOff s) := by
    unfold panelOff
    try dsimp only
    repeat' first
      | with_reducible assumption
      | with_reducible apply panelDown_foot hP k_regs k_out k_router k_maint k_hbm k_memory k_keeper k_opt
      | with_reducible apply refuse_foot hP k_regs k_out k_router k_maint
      | with_reducible apply ite_closed
      | (intro _ _)
      | (intro _)
      | dsimp only
      | split

theorem execPanelCmdOn_foot (hP : Closed F P) (k_regs : F .regs = true) (k_out : F .out = true) (k_router : F .router = true) (k_maint : F .maint = true) {req : Requester} {s : State} (h_s : P s) : OutP P (execPanelCmdOn req s) := by
    unfold execPanelCmdOn
    try dsimp only
    repeat' first
      | with_reducible assumption
      | with_reducible apply outP_next
      | with_reducible apply outP_done
      | with_reducible apply railGate_foot hP k_regs k_out k_router k_maint
      | with_reducible apply panelOn_foot hP k_regs k_out k_router k_maint
      | with_reducible apply ite_closed
      | (intro _ _)
      | (intro _)
      | dsimp only
      | split

theorem execPanelCmdOff_foot (hP : Closed F P) (k_regs : F .regs = true) (k_out : F .out = true) (k_router : F .router = true) (k_maint : F .maint = true) (k_hbm : F .hbm = true) (k_memory : F .memory = true) (k_keeper : F .keeper = true) (k_opt : F .opt = true) {req : Requester} {s : State} (h_s : P s) : OutP P (execPanelCmdOff req s) := by
    unfold execPanelCmdOff
    try dsimp only
    repeat' first
      | with_reducible assumption
      | with_reducible apply outP_next
      | with_reducible apply outP_done
      | with_reducible apply railGate_foot hP k_regs k_out k_router k_maint
      | with_reducible apply panelOff_foot hP k_regs k_out k_router k_maint k_hbm k_memory k_keeper k_opt
      | with_reducible apply ite_closed
      | (intro _ _)
      | (intro _)
      | dsimp only
      | split

theorem panelCommand_foot (hP : Closed F P) (k_regs : F .regs = true) (k_out : F .out = true) (k_router : F .router = true) (k_maint : F .maint = true) (k_hbm : F .hbm = true) (k_memory : F .memory = true) (k_keeper : F .keeper = true) (k_opt : F .opt = true) {s : State} {v : Word} (h_s : P s) : P (panelCommand s v) := by
    unfold panelCommand
    try dsimp only
    repeat' first
      | with_reducible assumption
      | with_reducible apply panelOn_foot hP k_regs k_out k_router k_maint
      | with_reducible apply panelOff_foot hP k_regs k_out k_router k_maint k_hbm k_memory k_keeper k_opt
      | with_reducible apply refuse_foot hP k_regs k_out k_router k_maint
      | with_reducible apply ite_closed
      | (intro _ _)
      | (intro _)
      | dsimp only
      | split

theorem preRail_foot (hP : Closed F P) (k_regs : F .regs = true) {s : State} {r : Nat} {x : PreReading} (h_s : P s) : P (preRail s r x) := by
    unfold preRail
    try dsimp only
    repeat' first
      | with_reducible assumption
      | with_reducible apply Closed.wr hP k_regs
      | with_reducible apply ite_closed
      | (intro _ _)
      | (intro _)
      | dsimp only
      | split

theorem precheckEnd_foot (hP : Closed F P) (k_regs : F .regs = true) (k_out : F .out = true) (k_router : F .router = true) (k_maint : F .maint = true) (k_hbm : F .hbm = true) (k_memory : F .memory = true) (k_keeper : F .keeper = true) (k_opt : F .opt = true) {s : State} {readings : List PreReading} (h_s : P s) : P (precheckEnd s readings) := by
    unfold precheckEnd
    try dsimp only
    repeat' first
      | with_reducible assumption
      | with_reducible apply preRail_foot hP k_regs
      | with_reducible apply upFrom_foot hP k_regs k_out k_router k_maint k_hbm k_memory k_keeper k_opt
      | with_reducible apply setKState_foot hP k_regs
      | with_reducible apply dropReq_foot hP k_regs k_keeper
      | with_reducible apply optShow_foot hP k_regs
      | with_reducible apply journalCopy_foot hP k_regs k_keeper
      | with_reducible apply State.raise_foot hP k_regs k_out k_router k_maint
      | (with_reducible refine foldl_inv P _ (fun _ _ _ => ?_) _ _ ?_)
      | with_reducible apply Closed.wr hP k_regs
      | with_reducible apply elim_closed
      | with_reducible apply ite_closed
      | (intro _ _)
      | (intro _)
      | dsimp only
      | split

theorem execPrecheckComplete_foot (hP : Closed F P) (k_regs : F .regs = true) (k_out : F .out = true) (k_router : F .router = true) (k_maint : F .maint = true) (k_hbm : F .hbm = true) (k_memory : F .memory = true) (k_keeper : F .keeper = true) (k_opt : F .opt = true) {readings : List PreReading} {s : State} (h_s : P s) : OutP P (execPrecheckComplete readings s) := by
    unfold execPrecheckComplete
    try dsimp only
    repeat' first
      | with_reducible assumption
      | with_reducible apply outP_next
      | with_reducible apply outP_done
      | with_reducible apply precheckEnd_foot hP k_regs k_out k_router k_maint k_hbm k_memory k_keeper k_opt
      | with_reducible apply ite_closed
      | (intro _ _)
      | (intro _)
      | dsimp only
      | split

theorem latchRail_foot (hP : Closed F P) (k_regs : F .regs = true) (k_out : F .out = true) (k_router : F .router = true) (k_maint : F .maint = true) (k_hbm : F .hbm = true) (k_memory : F .memory = true) (k_keeper : F .keeper = true) (k_opt : F .opt = true) {s : State} {r : Nat} (h_s : P s) : P (latchRail s r) := by
    unfold latchRail
    try dsimp only
    repeat' first
      | with_reducible assumption
      | with_reducible apply State.raise_foot hP k_regs k_out k_router k_maint
      | with_reducible apply railTo_foot hP k_regs k_out k_router k_maint k_hbm k_memory k_opt
      | with_reducible apply downStart_foot hP k_regs k_out k_router k_maint k_hbm k_memory k_keeper k_opt
      | with_reducible apply ite_closed
      | (intro _ _)
      | (intro _)
      | dsimp only
      | split

theorem railFault_foot (hP : Closed F P) (k_regs : F .regs = true) (k_out : F .out = true) (k_router : F .router = true) (k_maint : F .maint = true) (k_hbm : F .hbm = true) (k_memory : F .memory = true) (k_keeper : F .keeper = true) (k_opt : F .opt = true) {s : State} {r : Nat} {above : Bool} (h_s : P s) : P (railFault s r above) := by
    unfold railFault
    try dsimp only
    repeat' first
      | with_reducible assumption
      | with_reducible apply rampFault_foot hP k_regs k_out k_router k_maint k_hbm k_memory k_keeper k_opt
      | with_reducible apply State.raise_foot hP k_regs k_out k_router k_maint
      | with_reducible apply latchRail_foot hP k_regs k_out k_router k_maint k_hbm k_memory k_keeper k_opt
      | with_reducible apply railTo_foot hP k_regs k_out k_router k_maint k_hbm k_memory k_opt
      | with_reducible apply ite_closed
      | (intro _ _)
      | (intro _)
      | dsimp only
      | split

theorem execRailFault_foot (hP : Closed F P) (k_regs : F .regs = true) (k_out : F .out = true) (k_router : F .router = true) (k_maint : F .maint = true) (k_hbm : F .hbm = true) (k_memory : F .memory = true) (k_keeper : F .keeper = true) (k_opt : F .opt = true) {r : Fin 13} {above : Bool} {s : State} (h_s : P s) : OutP P (execRailFault r above s) := by
    unfold execRailFault
    try dsimp only
    repeat' first
      | with_reducible assumption
      | with_reducible apply outP_next
      | with_reducible apply outP_done
      | with_reducible apply railFault_foot hP k_regs k_out k_router k_maint k_hbm k_memory k_keeper k_opt
      | with_reducible apply ite_closed
      | (intro _ _)
      | (intro _)
      | dsimp only
      | split

theorem execHiccupAttempt_foot (hP : Closed F P) (k_regs : F .regs = true) (k_out : F .out = true) (k_router : F .router = true) (k_maint : F .maint = true) (k_hbm : F .hbm = true) (k_memory : F .memory = true) (k_keeper : F .keeper = true) (k_opt : F .opt = true) {r : Fin 13} {good : Bool} {s : State} (h_s : P s) : OutP P (execHiccupAttempt r good s) := by
    unfold execHiccupAttempt
    try dsimp only
    repeat' first
      | with_reducible assumption
      | with_reducible apply outP_next
      | with_reducible apply outP_done
      | with_reducible apply State.raise_foot hP k_regs k_out k_router k_maint
      | with_reducible apply railTo_foot hP k_regs k_out k_router k_maint k_hbm k_memory k_opt
      | with_reducible apply latchRail_foot hP k_regs k_out k_router k_maint k_hbm k_memory k_keeper k_opt
      | with_reducible apply Closed.setF hP k_regs
      | with_reducible apply ite_closed
      | (intro _ _)
      | (intro _)
      | dsimp only
      | split

theorem execAttemptCountReset_foot (hP : Closed F P) (k_regs : F .regs = true) {r : Fin 13} {s : State} (h_s : P s) : OutP P (execAttemptCountReset r s) := by
    unfold execAttemptCountReset
    try dsimp only
    repeat' first
      | with_reducible assumption
      | with_reducible apply outP_next
      | with_reducible apply outP_done
      | with_reducible apply Closed.setF hP k_regs
      | with_reducible apply ite_closed
      | (intro _ _)
      | (intro _)
      | dsimp only
      | split

theorem execRailNoLoad_foot (hP : Closed F P) (k_regs : F .regs = true) (k_out : F .out = true) (k_router : F .router = true) (k_maint : F .maint = true) {r : Fin 13} {s : State} (h_s : P s) : OutP P (execRailNoLoad r s) := by
    unfold execRailNoLoad
    try dsimp only
    repeat' first
      | with_reducible assumption
      | with_reducible apply outP_next
      | with_reducible apply outP_done
      | with_reducible apply State.raise_foot hP k_regs k_out k_router k_maint
      | with_reducible apply Closed.setB hP k_regs
      | with_reducible apply ite_closed
      | (intro _ _)
      | (intro _)
      | dsimp only
      | split

theorem execPhaseLost_foot (hP : Closed F P) (k_regs : F .regs = true) (k_out : F .out = true) (k_power : F .power = true) (k_router : F .router = true) (k_maint : F .maint = true) (k_hbm : F .hbm = true) (k_memory : F .memory = true) (k_keeper : F .keeper = true) (k_opt : F .opt = true) {r : Fin 13} {phase : Nat} {s : State} (h_s : P s) : OutP P (execPhaseLost r phase s) := by
    unfold execPhaseLost
    try dsimp only
    repeat' first
      | with_reducible assumption
      | with_reducible apply outP_next
      | with_reducible apply outP_done
      | with_reducible apply State.raise_foot hP k_regs k_out k_router k_maint
      | with_reducible apply spareLow_foot hP k_regs k_out k_power k_router k_maint
      | with_reducible apply railFault_foot hP k_regs k_out k_router k_maint k_hbm k_memory k_keeper k_opt
      | with_reducible apply Closed.setF hP k_regs
      | with_reducible apply Closed.setB hP k_regs
      | with_reducible apply ite_closed
      | (intro _ _)
      | (intro _)
      | dsimp only
      | split

theorem limitRails_foot (hP : Closed F P) (k_regs : F .regs = true) (k_keeper : F .keeper = true) {s : State} {on : Bool} (h_s : P s) : P (limitRails s on) := by
    unfold limitRails
    try dsimp only
    repeat' first
      | with_reducible assumption
      | with_reducible apply setRail_foot hP k_regs
      | (with_reducible refine foldl_inv P _ (fun _ _ _ => ?_) _ _ ?_)
      | with_reducible apply Closed.setB hP k_regs
      | with_reducible apply ite_closed
      | (intro _ _)
      | (intro _)
      | dsimp only
      | split
      | (with_reducible apply Closed.keeper hP k_keeper)

theorem limitPower_foot (hP : Closed F P) (k_regs : F .regs = true) (k_keeper : F .keeper = true) {s : State} {loads : List RailLoad} (h_s : P s) : P (limitPower s loads) := by
    unfold limitPower
    try dsimp only
    repeat' first
      | with_reducible assumption
      | with_reducible apply Closed.wr hP k_regs
      | with_reducible apply ite_closed
      | (intro _ _)
      | (intro _)
      | dsimp only
      | split
      | (with_reducible apply Closed.keeper hP k_keeper)

theorem execRailPowerLimit_foot (hP : Closed F P) (k_regs : F .regs = true) (k_out : F .out = true) (k_router : F .router = true) (k_maint : F .maint = true) (k_keeper : F .keeper = true) {loads : List RailLoad} {s : State} (h_s : P s) : OutP P (execRailPowerLimit loads s) := by
    unfold execRailPowerLimit
    try dsimp only
    repeat' first
      | with_reducible assumption
      | with_reducible apply outP_next
      | with_reducible apply outP_done
      | with_reducible apply limitRails_foot hP k_regs k_keeper
      | with_reducible apply limitPower_foot hP k_regs k_keeper
      | with_reducible apply State.raise_foot hP k_regs k_out k_router k_maint
      | with_reducible apply Closed.wr hP k_regs
      | with_reducible apply ite_closed
      | (intro _ _)
      | (intro _)
      | dsimp only
      | split

theorem execPvlOverload_foot (hP : Closed F P) (k_regs : F .regs = true) (k_out : F .out = true) (k_router : F .router = true) (k_maint : F .maint = true) (k_keeper : F .keeper = true) {milliwatt : Word} {s : State} (h_s : P s) : OutP P (execPvlOverload milliwatt s) := by
    unfold execPvlOverload
    try dsimp only
    repeat' first
      | with_reducible assumption
      | with_reducible apply outP_next
      | with_reducible apply outP_done
      | with_reducible apply State.raise_foot hP k_regs k_out k_router k_maint
      | with_reducible apply Closed.wr hP k_regs
      | with_reducible apply ite_closed
      | (intro _ _)
      | (intro _)
      | dsimp only
      | split
      | (with_reducible apply Closed.keeper hP k_keeper)

theorem execPvlLoss_foot (hP : Closed F P) (k_regs : F .regs = true) (k_out : F .out = true) (k_router : F .router = true) (k_maint : F .maint = true) (k_hbm : F .hbm = true) (k_memory : F .memory = true) (k_keeper : F .keeper = true) (k_opt : F .opt = true) {s : State} (h_s : P s) : OutP P (execPvlLoss s) := by
    unfold execPvlLoss
    try dsimp only
    repeat' first
      | with_reducible assumption
      | with_reducible apply outP_next
      | with_reducible apply outP_done
      | with_reducible apply setRail_foot hP k_regs
      | with_reducible apply downStart_foot hP k_regs k_out k_router k_maint k_hbm k_memory k_keeper k_opt
      | (with_reducible refine foldl_inv P _ (fun _ _ _ => ?_) _ _ ?_)
      | with_reducible apply ite_closed
      | (intro _ _)
      | (intro _)
      | dsimp only
      | split

theorem execKeeperLinkLost_foot (hP : Closed F P) (k_regs : F .regs = true) (k_out : F .out = true) (k_router : F .router = true) (k_maint : F .maint = true) (k_keeper : F .keeper = true) {s : State} (h_s : P s) : OutP P (execKeeperLinkLost s) := by
    unfold execKeeperLinkLost
    try dsimp only
    repeat' first
      | with_reducible assumption
      | with_reducible apply outP_next
      | with_reducible apply outP_done
      | with_reducible apply State.raise_foot hP k_regs k_out k_router k_maint
      | with_reducible apply Closed.setB hP k_regs
      | with_reducible apply ite_closed
      | (intro _ _)
      | (intro _)
      | dsimp only
      | split
      | (with_reducible apply Closed.keeper hP k_keeper)

theorem execRailTargetWrite_foot (hP : Closed F P) (k_regs : F .regs = true) (k_out : F .out = true) (k_router : F .router = true) (k_ring : F .ring = true) (k_maint : F .maint = true) (k_ing : F .ing = true) (k_heads : F .heads = true) (k_links : F .links = true) {req : Requester} {addr : Nat} {value : Word} {s : State} (h_s : P s) : OutP P (execRailTargetWrite req addr value s) := by
    unfold execRailTargetWrite
    try dsimp only
    repeat' first
      | with_reducible assumption
      | with_reducible apply outP_next
      | with_reducible apply outP_done
      | with_reducible apply railGate_foot hP k_regs k_out k_router k_maint
      | with_reducible apply directWrite_foot hP k_regs k_out k_router k_ring k_maint k_ing k_heads k_links
      | with_reducible apply ite_closed
      | (intro _ _)
      | (intro _)
      | dsimp only
      | split

theorem clearLatches_foot (hP : Closed F P) (k_regs : F .regs = true) (k_keeper : F .keeper = true) {s : State} {v : Word} (h_s : P s) : P (clearLatches s v) := by
    unfold clearLatches
    try dsimp only
    repeat' first
      | with_reducible assumption
      | with_reducible apply setRail_foot hP k_regs
      | with_reducible apply optShow_foot hP k_regs
      | with_reducible apply journalCopy_foot hP k_regs k_keeper
      | with_reducible apply setKState_foot hP k_regs
      | (with_reducible refine foldl_inv P _ (fun _ _ _ => ?_) _ _ ?_)
      | with_reducible apply Closed.setF hP k_regs
      | with_reducible apply ite_closed
      | (intro _ _)
      | (intro _)
      | dsimp only
      | split

theorem faultClear_foot (hP : Closed F P) (k_regs : F .regs = true) (k_out : F .out = true) (k_router : F .router = true) (k_maint : F .maint = true) (k_keeper : F .keeper = true) {s : State} {v : Word} (h_s : P s) : P (faultClear s v) := by
    unfold faultClear
    try dsimp only
    repeat' first
      | with_reducible assumption
      | with_reducible apply clearLatches_foot hP k_regs k_keeper
      | with_reducible apply refuse_foot hP k_regs k_out k_router k_maint
      | with_reducible apply ite_closed
      | (intro _ _)
      | (intro _)
      | dsimp only
      | split
      | (with_reducible apply Closed.keeper hP k_keeper)

theorem execFaultClear_foot (hP : Closed F P) (k_regs : F .regs = true) (k_out : F .out = true) (k_router : F .router = true) (k_maint : F .maint = true) (k_keeper : F .keeper = true) {req : Requester} {value : Word} {s : State} (h_s : P s) : OutP P (execFaultClear req value s) := by
    unfold execFaultClear
    try dsimp only
    repeat' first
      | with_reducible assumption
      | with_reducible apply outP_next
      | with_reducible apply outP_done
      | with_reducible apply railGate_foot hP k_regs k_out k_router k_maint
      | with_reducible apply faultClear_foot hP k_regs k_out k_router k_maint k_keeper
      | with_reducible apply ite_closed
      | (intro _ _)
      | (intro _)
      | dsimp only
      | split

theorem execGateOutputFault_foot (hP : Closed F P) (k_regs : F .regs = true) (k_out : F .out = true) (k_router : F .router = true) (k_maint : F .maint = true) (k_keeper : F .keeper = true) {x0 : Fin 4} {output : Fin 17} {s : State} (h_s : P s) : OutP P (execGateOutputFault x0 output s) := by
    unfold execGateOutputFault
    try dsimp only
    repeat' first
      | with_reducible assumption
      | with_reducible apply outP_next
      | with_reducible apply outP_done
      | with_reducible apply State.raise_foot hP k_regs k_out k_router k_maint
      | with_reducible apply gateShow_foot hP k_regs k_out k_keeper
      | with_reducible apply ite_closed
      | (intro _ _)
      | (intro _)
      | dsimp only
      | split
      | (with_reducible apply Closed.keeper hP k_keeper)

theorem crackOpen_foot (hP : Closed F P) (k_regs : F .regs = true) (k_out : F .out = true) (k_router : F .router = true) (k_maint : F .maint = true) (k_hbm : F .hbm = true) (k_memory : F .memory = true) (k_keeper : F .keeper = true) (k_opt : F .opt = true) {s : State} {c : Nat} {ohm : Nat} (h_s : P s) : P (crackOpen s c ohm) := by
    unfold crackOpen
    try dsimp only
    repeat' first
      | with_reducible assumption
      | with_reducible apply State.raise_foot hP k_regs k_out k_router k_maint
      | with_reducible apply gateShow_foot hP k_regs k_out k_keeper
      | with_reducible apply panelDown_foot hP k_regs k_out k_router k_maint k_hbm k_memory k_keeper k_opt
      | with_reducible apply optShow_foot hP k_regs
      | with_reducible apply cutRow_foot hP k_regs k_out k_router k_maint k_hbm k_memory k_opt
      | with_reducible apply Closed.setB hP k_regs
      | with_reducible apply ite_closed
      | (intro _ _)
      | (intro _)
      | dsimp only
      | split

theorem crackRead_foot (hP : Closed F P) (k_regs : F .regs = true) (k_out : F .out = true) (k_router : F .router = true) (k_maint : F .maint = true) (k_hbm : F .hbm = true) (k_memory : F .memory = true) (k_keeper : F .keeper = true) (k_opt : F .opt = true) {s : State} {c : Nat} {ohm : Nat} (h_s : P s) : P (crackRead s c ohm) := by
    unfold crackRead
    try dsimp only
    repeat' first
      | with_reducible assumption
      | with_reducible apply crackOpen_foot hP k_regs k_out k_router k_maint k_hbm k_memory k_keeper k_opt
      | with_reducible apply Closed.setB hP k_regs
      | with_reducible apply Closed.wr hP k_regs
      | with_reducible apply ite_closed
      | (intro _ _)
      | (intro _)
      | dsimp only
      | split
      | (with_reducible apply Closed.keeper hP k_keeper)

theorem execCrackLoopMeasurement_foot (hP : Closed F P) (k_regs : F .regs = true) (k_out : F .out = true) (k_router : F .router = true) (k_maint : F .maint = true) (k_hbm : F .hbm = true) (k_memory : F .memory = true) (k_keeper : F .keeper = true) (k_opt : F .opt = true) {ohms : List Nat} {s : State} (h_s : P s) : OutP P (execCrackLoopMeasurement ohms s) := by
    unfold execCrackLoopMeasurement
    try dsimp only
    repeat' first
      | with_reducible assumption
      | with_reducible apply outP_next
      | with_reducible apply outP_done
      | with_reducible apply crackRead_foot hP k_regs k_out k_router k_maint k_hbm k_memory k_keeper k_opt
      | (with_reducible refine foldl_inv P _ (fun _ _ _ => ?_) _ _ ?_)
      | with_reducible apply ite_closed
      | (intro _ _)
      | (intro _)
      | dsimp only
      | split

theorem execBatchCrackMeasurement_foot (hP : Closed F P) (k_regs : F .regs = true) (k_out : F .out = true) (k_router : F .router = true) (k_maint : F .maint = true) (k_hbm : F .hbm = true) (k_memory : F .memory = true) (k_keeper : F .keeper = true) (k_opt : F .opt = true) {ohm4 : Nat} {ohm5 : Nat} {ranUs : Nat} {s : State} (h_s : P s) : OutP P (execBatchCrackMeasurement ohm4 ohm5 ranUs s) := by
    unfold execBatchCrackMeasurement
    try dsimp only
    repeat' first
      | with_reducible assumption
      | with_reducible apply outP_next
      | with_reducible apply outP_done
      | with_reducible apply optShow_foot hP k_regs
      | with_reducible apply cutRow_foot hP k_regs k_out k_router k_maint k_hbm k_memory k_opt
      | with_reducible apply crackRead_foot hP k_regs k_out k_router k_maint k_hbm k_memory k_keeper k_opt
      | with_reducible apply ite_closed
      | (intro _ _)
      | (intro _)
      | dsimp only
      | split

theorem crackAck_foot (hP : Closed F P) (k_regs : F .regs = true) (k_out : F .out = true) (k_router : F .router = true) (k_maint : F .maint = true) (k_keeper : F .keeper = true) {s : State} {v : Word} (h_s : P s) : P (crackAck s v) := by
    unfold crackAck
    try dsimp only
    repeat' first
      | with_reducible assumption
      | with_reducible apply gateShow_foot hP k_regs k_out k_keeper
      | with_reducible apply optShow_foot hP k_regs
      | with_reducible apply refuse_foot hP k_regs k_out k_router k_maint
      | (with_reducible refine foldl_inv P _ (fun _ _ _ => ?_) _ _ ?_)
      | with_reducible apply Closed.setB hP k_regs
      | with_reducible apply ite_closed
      | (intro _ _)
      | (intro _)
      | dsimp only
      | split

theorem execCrackAck_foot (hP : Closed F P) (k_regs : F .regs = true) (k_out : F .out = true) (k_router : F .router = true) (k_maint : F .maint = true) (k_keeper : F .keeper = true) {req : Requester} {value : Word} {s : State} (h_s : P s) : OutP P (execCrackAck req value s) := by
    unfold execCrackAck
    try dsimp only
    repeat' first
      | with_reducible assumption
      | with_reducible apply outP_next
      | with_reducible apply outP_done
      | with_reducible apply railGate_foot hP k_regs k_out k_router k_maint
      | with_reducible apply crackAck_foot hP k_regs k_out k_router k_maint k_keeper
      | with_reducible apply ite_closed
      | (intro _ _)
      | (intro _)
      | dsimp only
      | split

theorem thermistor_foot (hP : Closed F P) (k_regs : F .regs = true) (k_out : F .out = true) (k_power : F .power = true) (k_router : F .router = true) (k_maint : F .maint = true) {s : State} {t : Nat} {ohm : Nat} (h_s : P s) : P (thermistor s t ohm) := by
    unfold thermistor
    try dsimp only
    repeat' first
      | with_reducible assumption
      | with_reducible apply State.raise_foot hP k_regs k_out k_router k_maint
      | with_reducible apply State.tell_foot hP k_power
      | with_reducible apply Closed.wr hP k_regs
      | with_reducible apply ite_closed
      | (intro _ _)
      | (intro _)
      | dsimp only
      | split

theorem execThermistorRead_foot (hP : Closed F P) (k_regs : F .regs = true) (k_out : F .out = true) (k_power : F .power = true) (k_router : F .router = true) (k_maint : F .maint = true) (k_opt : F .opt = true) {ohms : List Nat} {s : State} (h_s : P s) : OutP P (execThermistorRead ohms s) := by
    unfold execThermistorRead
    try dsimp only
    repeat' first
      | with_reducible assumption
      | with_reducible apply outP_next
      | with_reducible apply outP_done
      | with_reducible apply thermistor_foot hP k_regs k_out k_power k_router k_maint
      | with_reducible apply optShow_foot hP k_regs
      | with_reducible apply bandWatch_foot hP k_regs k_out k_router k_maint k_opt
      | (with_reducible refine foldl_inv P _ (fun _ _ _ => ?_) _ _ ?_)
      | with_reducible apply Closed.wr hP k_regs
      | with_reducible apply ite_closed
      | (intro _ _)
      | (intro _)
      | dsimp only
      | split

theorem execHvinLow_foot (hP : Closed F P) (k_regs : F .regs = true) (k_out : F .out = true) (k_router : F .router = true) (k_maint : F .maint = true) {millivolt : Word} {s : State} (h_s : P s) : OutP P (execHvinLow millivolt s) := by
    unfold execHvinLow
    try dsimp only
    repeat' first
      | with_reducible assumption
      | with_reducible apply outP_next
      | with_reducible apply outP_done
      | with_reducible apply State.raise_foot hP k_regs k_out k_router k_maint
      | with_reducible apply Closed.wr hP k_regs
      | with_reducible apply Closed.setB hP k_regs
      | with_reducible apply ite_closed
      | (intro _ _)
      | (intro _)
      | dsimp only
      | split

theorem reportLoss_foot (hP : Closed F P) (k_regs : F .regs = true) (k_out : F .out = true) (k_router : F .router = true) (k_maint : F .maint = true) (k_keeper : F .keeper = true) {s : State} (h_s : P s) : P (reportLoss s) := by
    unfold reportLoss
    try dsimp only
    repeat' first
      | with_reducible assumption
      | with_reducible apply State.raise_foot hP k_regs k_out k_router k_maint
      | with_reducible apply ite_closed
      | (intro _ _)
      | (intro _)
      | dsimp only
      | split
      | (with_reducible apply Closed.keeper hP k_keeper)

theorem execHvinLoss_foot (hP : Closed F P) (k_regs : F .regs = true) (k_out : F .out = true) (k_router : F .router = true) (k_maint : F .maint = true) (k_hbm : F .hbm = true) (k_memory : F .memory = true) (k_keeper : F .keeper = true) (k_opt : F .opt = true) {s : State} (h_s : P s) : OutP P (execHvinLoss s) := by
    unfold execHvinLoss
    try dsimp only
    repeat' first
      | with_reducible assumption
      | with_reducible apply outP_next
      | with_reducible apply outP_done
      | with_reducible apply reportLoss_foot hP k_regs k_out k_router k_maint k_keeper
      | with_reducible apply setKState_foot hP k_regs
      | with_reducible apply optShow_foot hP k_regs
      | with_reducible apply cutRow_foot hP k_regs k_out k_router k_maint k_hbm k_memory k_opt
      | with_reducible apply downStart_foot hP k_regs k_out k_router k_maint k_hbm k_memory k_keeper k_opt
      | with_reducible apply powerGone_foot hP k_regs k_out k_router k_maint k_hbm k_memory k_keeper k_opt
      | with_reducible apply Closed.inc hP k_regs
      | with_reducible apply Closed.wr hP k_regs
      | with_reducible apply ite_closed
      | (intro _ _)
      | (intro _)
      | dsimp only
      | split
      | (with_reducible apply Closed.keeper hP k_keeper)

theorem execHoldupBusCollapse_foot (hP : Closed F P) (k_regs : F .regs = true) (k_out : F .out = true) (k_router : F .router = true) (k_maint : F .maint = true) (k_hbm : F .hbm = true) (k_memory : F .memory = true) (k_keeper : F .keeper = true) (k_opt : F .opt = true) {s : State} (h_s : P s) : OutP P (execHoldupBusCollapse s) := by
    unfold execHoldupBusCollapse
    try dsimp only
    repeat' first
      | with_reducible assumption
      | with_reducible apply outP_next
      | with_reducible apply outP_done
      | with_reducible apply powerGone_foot hP k_regs k_out k_router k_maint k_hbm k_memory k_keeper k_opt
      | with_reducible apply ite_closed
      | (intro _ _)
      | (intro _)
      | dsimp only
      | split

theorem opticRecovery_foot (hP : Closed F P) (k_regs : F .regs = true) (k_out : F .out = true) (k_router : F .router = true) (k_maint : F .maint = true) (k_hbm : F .hbm = true) (k_memory : F .memory = true) (k_opt : F .opt = true) {s : State} {readings : List PreReading} (h_s : P s) : P (opticRecovery s readings) := by
    unfold opticRecovery
    try dsimp only
    repeat' first
      | with_reducible assumption
      | with_reducible apply preRail_foot hP k_regs
      | with_reducible apply recoverRows_foot hP k_regs k_out k_router k_maint k_hbm k_memory k_opt
      | with_reducible apply ite_closed
      | (intro _ _)
      | (intro _)
      | dsimp only
      | split

theorem execKeeperStart_foot (hP : Closed F P) (k_regs : F .regs = true) (k_out : F .out = true) (k_freeCount : F .freeCount = true) (k_router : F .router = true) (k_maint : F .maint = true) (k_hbm : F .hbm = true) (k_memory : F .memory = true) (k_keeper : F .keeper = true) (k_opt : F .opt = true) {readings : List PreReading} {s : State} (h_s : P s) : OutP P (execKeeperStart readings s) := by
    unfold execKeeperStart
    try dsimp only
    repeat' first
      | with_reducible assumption
      | with_reducible apply outP_next
      | with_reducible apply outP_done
      | with_reducible apply readJournal_foot hP k_opt
      | with_reducible apply loadRecord_foot hP k_regs
      | with_reducible apply setKState_foot hP k_regs
      | with_reducible apply railSummary_foot hP k_regs
      | with_reducible apply State.raise_foot hP k_regs k_out k_router k_maint
      | with_reducible apply optShow_foot hP k_regs
      | with_reducible apply opticRecovery_foot hP k_regs k_out k_router k_maint k_hbm k_memory k_opt
      | (with_reducible refine foldl_inv P _ (fun _ _ _ => ?_) _ _ ?_)
      | with_reducible apply Closed.wr hP k_regs
      | with_reducible apply Closed.setB hP k_regs
      | with_reducible apply Closed.useFree hP k_freeCount
      | with_reducible apply ite_closed
      | (intro _ _)
      | (intro _)
      | dsimp only
      | split
      | (with_reducible apply Closed.keeper hP k_keeper)

end Sys2Proof.Machine
end

