-- ==== Sys2Proof/Laws/FootProduce.lean ====
section
/-!
SUPPORT. Footprints of the definitions of Machine/Produce.lean: which parts of the state each of them may update.
-/
namespace Sys2Proof.Machine

variable {F : Part → Bool} {P : State → Prop}

theorem blockFetch_foot (hP : Closed F P) (k_regs : F .regs = true) (k_out : F .out = true) (k_router : F .router = true) (k_maint : F .maint = true) (k_memory : F .memory = true) (k_heads : F .heads = true) {s : State} {x1 : Fin 4} {bx : Nat} {bY : Nat} (h_s : P s) : P (blockFetch s x1 bx bY) := by
    unfold blockFetch
    try dsimp only
    repeat' first
      | with_reducible assumption
      | with_reducible apply readHeader_foot hP k_regs k_out k_router k_maint k_memory
      | (with_reducible apply fstP_of; with_reducible apply readHeader_foot hP k_regs k_out k_router k_maint k_memory)
      | with_reducible apply putProd_foot hP k_heads
      | with_reducible apply touch_foot hP k_regs k_out k_router k_maint k_memory
      | with_reducible apply State.raise_foot hP k_regs k_out k_router k_maint
      | (with_reducible exact fstP_elim (by assumption))
      | with_reducible apply foldl_fst
      | (with_reducible refine foldl_inv P _ (fun _ _ _ => ?_) _ _ ?_)
      | with_reducible apply Closed.inc hP k_regs
      | with_reducible apply ite_closed
      | (intro _ _)
      | (intro _)
      | dsimp only
      | split
      | with_reducible apply fstP_mk

theorem execRayMapBlockFetch_foot (hP : Closed F P) (k_regs : F .regs = true) (k_out : F .out = true) (k_router : F .router = true) (k_maint : F .maint = true) (k_memory : F .memory = true) (k_heads : F .heads = true) {x0 : Fin 4} {bx : Nat} {x2 : Nat} {s : State} (h_s : P s) : OutP P (execRayMapBlockFetch x0 bx x2 s) := by
    unfold execRayMapBlockFetch
    try dsimp only
    repeat' first
      | with_reducible assumption
      | with_reducible apply outP_next
      | with_reducible apply outP_done
      | with_reducible apply blockFetch_foot hP k_regs k_out k_router k_maint k_memory k_heads
      | with_reducible apply ite_closed
      | (intro _ _)
      | (intro _)
      | dsimp only
      | split

theorem deliverRay_foot (hP : Closed F P) (k_regs : F .regs = true) (k_out : F .out = true) (k_router : F .router = true) (k_maint : F .maint = true) (k_memory : F .memory = true) (k_heads : F .heads = true) {x0 : Fin 4} {p : State × FieldSt} {r : Ray} (h_p : P p.1) : P (deliverRay x0 p r).1 := by
    change FstP P _
    unfold deliverRay
    try dsimp only
    repeat' first
      | with_reducible assumption
      | (intro _ _ _)
      | with_reducible apply ite_closed
      | with_reducible apply cacheLookup_foot hP k_regs k_out k_router k_maint k_memory k_heads
      | (with_reducible apply fstP_of; with_reducible apply cacheLookup_foot hP k_regs k_out k_router k_maint k_memory k_heads)
      | (with_reducible exact fstP_elim (by assumption))
      | with_reducible apply foldl_fst
      | (with_reducible refine foldl_inv P _ (fun _ _ _ => ?_) _ _ ?_)
      | with_reducible apply Closed.inc48 hP k_regs
      | with_reducible apply ite_closed
      | (intro _ _)
      | (intro _)
      | dsimp only
      | split
      | with_reducible apply fstP_mk

theorem tagRay_foot (hP : Closed F P) (k_regs : F .regs = true) (k_perf : F .perf = true) {s : State} {x1 : Fin 4} {x2 : FieldSt} {x : Nat} {y : Nat} {r : Ray} {misses : Nat} {value : Option (Nat × Nat)} (h_s : P s) : P (tagRay s x1 x2 x y r misses value) := by
    unfold tagRay
    try dsimp only
    repeat' first
      | with_reducible assumption
      | with_reducible apply glintDraw_foot hP k_regs k_perf
      | (with_reducible apply fstP_of; with_reducible apply glintDraw_foot hP k_regs k_perf)
      | with_reducible apply glintPush_foot hP k_perf
      | (with_reducible exact fstP_elim (by assumption))
      | with_reducible apply foldl_fst
      | with_reducible apply ite_closed
      | (intro _ _)
      | (intro _)
      | dsimp only
      | split
      | with_reducible apply fstP_mk

theorem deliverTagged_foot (hP : Closed F P) (k_regs : F .regs = true) (k_out : F .out = true) (k_router : F .router = true) (k_maint : F .maint = true) (k_memory : F .memory = true) (k_heads : F .heads = true) (k_perf : F .perf = true) {x0 : Fin 4} {tag : Bool} {p : State × FieldSt} {q : Nat × Ray × Nat} (h_p : P p.1) : P (deliverTagged x0 tag p q).1 := by
    change FstP P _
    unfold deliverTagged
    try dsimp only
    repeat' first
      | with_reducible assumption
      | (intro _ _ _)
      | with_reducible apply ite_closed
      | with_reducible apply deliverRay_foot hP k_regs k_out k_router k_maint k_memory k_heads
      | (with_reducible apply fstP_of; with_reducible apply deliverRay_foot hP k_regs k_out k_router k_maint k_memory k_heads)
      | with_reducible apply tagRay_foot hP k_regs k_perf
      | (with_reducible exact fstP_elim (by assumption))
      | with_reducible apply foldl_fst
      | with_reducible apply ite_closed
      | (intro _ _)
      | (intro _)
      | dsimp only
      | split
      | with_reducible apply fstP_mk

theorem issueRay_foot (hP : Closed F P) (k_regs : F .regs = true) (k_out : F .out = true) (k_router : F .router = true) (k_maint : F .maint = true) (k_heads : F .heads = true) (k_perf : F .perf = true) {x0 : Fin 4} {tag : Bool} {x2 : FieldSt} {p : State × Nat × Bool} {q : Nat × Ray × Nat} (h_p : P p.1) : P (issueRay x0 tag x2 p q).1 := by
    change FstP P _
    unfold issueRay
    try dsimp only
    repeat' first
      | with_reducible assumption
      | (intro _ _ _)
      | with_reducible apply ite_closed
      | with_reducible apply cacheIssue_foot hP k_regs k_out k_router k_maint k_heads
      | (with_reducible apply fstP_of; with_reducible apply cacheIssue_foot hP k_regs k_out k_router k_maint k_heads)
      | with_reducible apply tagRay_foot hP k_regs k_perf
      | (with_reducible exact fstP_elim (by assumption))
      | with_reducible apply foldl_fst
      | (with_reducible refine foldl_inv P _ (fun _ _ _ => ?_) _ _ ?_)
      | with_reducible apply ite_closed
      | (intro _ _)
      | (intro _)
      | dsimp only
      | split
      | with_reducible apply fstP_mk

theorem rguCounted_foot (hP : Closed F P) (k_regs : F .regs = true) (k_out : F .out = true) (k_router : F .router = true) (k_maint : F .maint = true) {a : State} {s : State} {x2 : Fin 4} {issued : Nat} (h_a : P a) (h_s : P s) : P (rguCounted a s x2 issued) := by
    unfold rguCounted
    try dsimp only
    repeat' first
      | with_reducible assumption
      | with_reducible apply perfHit_foot hP k_regs k_out k_router k_maint
      | with_reducible apply ite_closed
      | (intro _ _)
      | (intro _)
      | dsimp only
      | split

theorem eclipseRgu_foot (hP : Closed F P) (k_regs : F .regs = true) (k_out : F .out = true) (k_router : F .router = true) (k_maint : F .maint = true) {s : State} {x1 : Fin 4} {nx : Bool} {x3 : FieldSt} {y : Nat} {cause : Nat} (h_s : P s) : P (eclipseRgu s x1 nx x3 y cause).1 := by
    change FstP P _
    unfold eclipseRgu
    try dsimp only
    repeat' first
      | with_reducible assumption
      | (intro _ _ _)
      | with_reducible apply ite_closed
      | with_reducible apply State.raise_foot hP k_regs k_out k_router k_maint
      | with_reducible apply eclipse_foot hP k_regs k_out k_router k_maint
      | (with_reducible apply fstP_of; with_reducible apply eclipse_foot hP k_regs k_out k_router k_maint)
      | (with_reducible exact fstP_elim (by assumption))
      | with_reducible apply foldl_fst
      | (with_reducible refine foldl_inv P _ (fun _ _ _ => ?_) _ _ ?_)
      | with_reducible apply Closed.wr hP k_regs
      | with_reducible apply Closed.inc hP k_regs
      | with_reducible apply Closed.setB hP k_regs
      | with_reducible apply ite_closed
      | (intro _ _)
      | (intro _)
      | dsimp only
      | split
      | with_reducible apply fstP_mk

theorem runRays_foot (hP : Closed F P) (k_regs : F .regs = true) (k_out : F .out = true) (k_router : F .router = true) (k_maint : F .maint = true) (k_memory : F .memory = true) (k_heads : F .heads = true) (k_perf : F .perf = true) {x0 : Fin 4} {x1 : FieldSt} {s : State} {l : List (Nat × Ray × Nat)} {n : Nat} {m : Nat} (h_s : P s) : P (runRays x0 x1 s l n m).1 := by
    change FstP P _
    unfold runRays
    try dsimp only
    repeat' first
      | with_reducible assumption
      | (intro _ _ _)
      | with_reducible apply ite_closed
      | with_reducible apply deliverTagged_foot hP k_regs k_out k_router k_maint k_memory k_heads k_perf
      | (with_reducible apply fstP_of; with_reducible apply deliverTagged_foot hP k_regs k_out k_router k_maint k_memory k_heads k_perf)
      | with_reducible apply issueRay_foot hP k_regs k_out k_router k_maint k_heads k_perf
      | (with_reducible apply fstP_of; with_reducible apply issueRay_foot hP k_regs k_out k_router k_maint k_heads k_perf)
      | with_reducible apply rguCounted_foot hP k_regs k_out k_router k_maint
      | (with_reducible exact fstP_elim (by assumption))
      | with_reducible apply foldl_fst
      | (with_reducible refine foldl_inv P _ (fun _ _ _ => ?_) _ _ ?_)
      | with_reducible apply ite_closed
      | (intro _ _)
      | (intro _)
      | dsimp only
      | split
      | with_reducible apply fstP_mk

theorem cutRays_foot (hP : Closed F P) (k_regs : F .regs = true) (k_out : F .out = true) (k_freeCount : F .freeCount = true) (k_router : F .router = true) (k_maint : F .maint = true) (k_memory : F .memory = true) (k_heads : F .heads = true) (k_perf : F .perf = true) {s : State} {x1 : Fin 4} (h_s : P s) : P (cutRays s x1) := by
    unfold cutRays
    try dsimp only
    repeat' first
      | with_reducible assumption
      | with_reducible apply runRays_foot hP k_regs k_out k_router k_maint k_memory k_heads k_perf
      | (with_reducible apply fstP_of; with_reducible apply runRays_foot hP k_regs k_out k_router k_maint k_memory k_heads k_perf)
      | with_reducible apply putProd_foot hP k_heads
      | (with_reducible exact fstP_elim (by assumption))
      | with_reducible apply foldl_fst
      | with_reducible apply Closed.useFree hP k_freeCount
      | with_reducible apply ite_closed
      | (intro _ _)
      | (intro _)
      | dsimp only
      | split
      | with_reducible apply fstP_mk

theorem rgusDeadline_foot (hP : Closed F P) (k_regs : F .regs = true) (k_out : F .out = true) (k_router : F .router = true) (k_maint : F .maint = true) (k_memory : F .memory = true) (k_heads : F .heads = true) (k_perf : F .perf = true) {s : State} {x1 : Fin 4} {nx : Bool} {x3 : FieldSt} {y : Nat} {rays : RayProgress} (h_s : P s) : P (rgusDeadline s x1 nx x3 y rays).1 := by
    change FstP P _
    unfold rgusDeadline
    try dsimp only
    repeat' first
      | with_reducible assumption
      | (intro _ _ _)
      | with_reducible apply ite_closed
      | with_reducible apply runRays_foot hP k_regs k_out k_router k_maint k_memory k_heads k_perf
      | (with_reducible apply fstP_of; with_reducible apply runRays_foot hP k_regs k_out k_router k_maint k_memory k_heads k_perf)
      | with_reducible apply eclipseRgu_foot hP k_regs k_out k_router k_maint
      | (with_reducible apply fstP_of; with_reducible apply eclipseRgu_foot hP k_regs k_out k_router k_maint)
      | (with_reducible exact fstP_elim (by assumption))
      | with_reducible apply foldl_fst
      | with_reducible apply Closed.inc48 hP k_regs
      | with_reducible apply ite_closed
      | (intro _ _)
      | (intro _)
      | dsimp only
      | split
      | with_reducible apply fstP_mk

theorem flatError_foot (hP : Closed F P) (k_regs : F .regs = true) (k_out : F .out = true) (k_router : F .router = true) (k_maint : F .maint = true) {x0 : Fin 4} {nx : Bool} {k : Nat} {y : Nat} {p : State × FieldSt} (h_p : P p.1) : P (flatError x0 nx k y p).1 := by
    change FstP P _
    unfold flatError
    try dsimp only
    repeat' first
      | with_reducible assumption
      | (intro _ _ _)
      | with_reducible apply ite_closed
      | with_reducible apply eclipse_foot hP k_regs k_out k_router k_maint
      | (with_reducible apply fstP_of; with_reducible apply eclipse_foot hP k_regs k_out k_router k_maint)
      | (with_reducible exact fstP_elim (by assumption))
      | with_reducible apply foldl_fst
      | with_reducible apply ite_closed
      | (intro _ _)
      | (intro _)
      | dsimp only
      | split
      | with_reducible apply fstP_mk

theorem layerDeadline_foot (hP : Closed F P) (k_regs : F .regs = true) (k_out : F .out = true) (k_router : F .router = true) (k_maint : F .maint = true) (k_memory : F .memory = true) {x0 : Fin 4} {nx : Bool} {y : Nat} {late : BitVec 8} {p : State × FieldSt} {k : Nat} (h_p : P p.1) : P (layerDeadline x0 nx y late p k).1 := by
    change FstP P _
    unfold layerDeadline
    try dsimp only
    repeat' first
      | with_reducible assumption
      | (intro _ _ _)
      | with_reducible apply ite_closed
      | with_reducible apply eclipse_foot hP k_regs k_out k_router k_maint
      | (with_reducible apply fstP_of; with_reducible apply eclipse_foot hP k_regs k_out k_router k_maint)
      | with_reducible apply readDescriptor_foot hP k_regs k_out k_router k_maint k_memory
      | (with_reducible apply fstP_of; with_reducible apply readDescriptor_foot hP k_regs k_out k_router k_maint k_memory)
      | with_reducible apply flatError_foot hP k_regs k_out k_router k_maint
      | (with_reducible apply fstP_of; with_reducible apply flatError_foot hP k_regs k_out k_router k_maint)
      | with_reducible apply readGuard_foot hP k_regs k_out k_router k_maint k_memory
      | (with_reducible apply fstP_of; with_reducible apply readGuard_foot hP k_regs k_out k_router k_maint k_memory)
      | (with_reducible exact fstP_elim (by assumption))
      | with_reducible apply foldl_fst
      | with_reducible apply ite_closed
      | (intro _ _)
      | (intro _)
      | dsimp only
      | split
      | with_reducible apply fstP_mk

theorem layersDeadline_foot (hP : Closed F P) (k_regs : F .regs = true) (k_out : F .out = true) (k_router : F .router = true) (k_maint : F .maint = true) (k_memory : F .memory = true) {s : State} {x1 : Fin 4} {nx : Bool} {x3 : FieldSt} {y : Nat} {late : BitVec 8} (h_s : P s) : P (layersDeadline s x1 nx x3 y late).1 := by
    change FstP P _
    unfold layersDeadline
    try dsimp only
    repeat' first
      | with_reducible assumption
      | (intro _ _ _)
      | with_reducible apply ite_closed
      | with_reducible apply layerDeadline_foot hP k_regs k_out k_router k_maint k_memory
      | (with_reducible apply fstP_of; with_reducible apply layerDeadline_foot hP k_regs k_out k_router k_maint k_memory)
      | (with_reducible exact fstP_elim (by assumption))
      | with_reducible apply foldl_fst
      | (with_reducible refine foldl_inv P _ (fun _ _ _ => ?_) _ _ ?_)
      | with_reducible apply ite_closed
      | (intro _ _)
      | (intro _)
      | dsimp only
      | split
      | with_reducible apply fstP_mk

theorem composeLine_foot (hP : Closed F P) (k_freeCount : F .freeCount = true) (k_heads : F .heads = true) (k_perf : F .perf = true) {s : State} {x1 : Fin 4} {x2 : FieldSt} {y : Nat} {composed : Bool} (h_s : P s) : P (composeLine s x1 x2 y composed) := by
    unfold composeLine
    try dsimp only
    repeat' first
      | with_reducible assumption
      | with_reducible apply putHead_foot hP k_heads
      | with_reducible apply glintCompose_foot hP k_perf
      | with_reducible apply wbCapture_foot hP k_heads
      | with_reducible apply Closed.useFree hP k_freeCount
      | with_reducible apply ite_closed
      | (intro _ _)
      | (intro _)
      | dsimp only
      | split

theorem rayDeadline_foot (hP : Closed F P) (k_regs : F .regs = true) (k_out : F .out = true) (k_freeCount : F .freeCount = true) (k_router : F .router = true) (k_maint : F .maint = true) (k_memory : F .memory = true) (k_ing : F .ing = true) (k_heads : F .heads = true) (k_perf : F .perf = true) {s : State} {x1 : Fin 4} {rays : RayProgress} {late : BitVec 8} (h_s : P s) : P (rayDeadline s x1 rays late) := by
    unfold rayDeadline
    try dsimp only
    repeat' first
      | with_reducible assumption
      | with_reducible apply readHeader_foot hP k_regs k_out k_router k_maint k_memory
      | (with_reducible apply fstP_of; with_reducible apply readHeader_foot hP k_regs k_out k_router k_maint k_memory)
      | with_reducible apply layersDeadline_foot hP k_regs k_out k_router k_maint k_memory
      | (with_reducible apply fstP_of; with_reducible apply layersDeadline_foot hP k_regs k_out k_router k_maint k_memory)
      | with_reducible apply rgusDeadline_foot hP k_regs k_out k_router k_maint k_memory k_heads k_perf
      | (with_reducible apply fstP_of; with_reducible apply rgusDeadline_foot hP k_regs k_out k_router k_maint k_memory k_heads k_perf)
      | with_reducible apply composeLine_foot hP k_freeCount k_heads k_perf
      | with_reducible apply putProd_foot hP k_heads
      | with_reducible apply showIssuing_foot hP k_regs
      | with_reducible apply fieldFetched_foot hP k_regs k_out k_router k_maint k_ing
      | with_reducible apply showLayer_foot hP k_regs
      | (with_reducible exact fstP_elim (by assumption))
      | with_reducible apply foldl_fst
      | (with_reducible refine foldl_inv P _ (fun _ _ _ => ?_) _ _ ?_)
      | with_reducible apply ite_closed
      | (intro _ _)
      | (intro _)
      | dsimp only
      | split
      | with_reducible apply fstP_mk

theorem execRayDeadline_foot (hP : Closed F P) (k_regs : F .regs = true) (k_out : F .out = true) (k_freeCount : F .freeCount = true) (k_router : F .router = true) (k_maint : F .maint = true) (k_memory : F .memory = true) (k_ing : F .ing = true) (k_heads : F .heads = true) (k_perf : F .perf = true) {x0 : Fin 4} {rays : RayProgress} {layersLate : BitVec 8} {s : State} (h_s : P s) : OutP P (execRayDeadline x0 rays layersLate s) := by
    unfold execRayDeadline
    try dsimp only
    repeat' first
      | with_reducible assumption
      | with_reducible apply outP_next
      | with_reducible apply outP_done
      | with_reducible apply rayDeadline_foot hP k_regs k_out k_freeCount k_router k_maint k_memory k_ing k_heads k_perf
      | with_reducible apply ite_closed
      | (intro _ _)
      | (intro _)
      | dsimp only
      | split

theorem headOffCmd_foot (hP : Closed F P) (k_regs : F .regs = true) (k_out : F .out = true) (k_freeCount : F .freeCount = true) (k_router : F .router = true) (k_maint : F .maint = true) (k_memory : F .memory = true) (k_ing : F .ing = true) (k_heads : F .heads = true) (k_links : F .links = true) (k_keeper : F .keeper = true) (k_perf : F .perf = true) {s : State} {x1 : Fin 4} {abort : Bool} (h_s : P s) : P (headOffCmd s x1 abort) := by
    unfold headOffCmd
    try dsimp only
    repeat' first
      | with_reducible assumption
      | with_reducible apply setOff_foot hP k_regs
      | with_reducible apply cutRays_foot hP k_regs k_out k_freeCount k_router k_maint k_memory k_heads k_perf
      | with_reducible apply setHeadState_foot hP k_regs
      | with_reducible apply headStop_foot hP k_regs k_out k_router k_maint k_ing k_heads k_links k_keeper k_perf
      | with_reducible apply putHead_foot hP k_heads
      | with_reducible apply ite_closed
      | (intro _ _)
      | (intro _)
      | dsimp only
      | split

theorem execHeadDisable_foot (hP : Closed F P) (k_regs : F .regs = true) (k_out : F .out = true) (k_freeCount : F .freeCount = true) (k_router : F .router = true) (k_maint : F .maint = true) (k_memory : F .memory = true) (k_ing : F .ing = true) (k_heads : F .heads = true) (k_links : F .links = true) (k_keeper : F .keeper = true) (k_perf : F .perf = true) {req : Requester} {x1 : Fin 4} {abort : Bool} {s : State} (h_s : P s) : OutP P (execHeadDisable req x1 abort s) := by
    unfold execHeadDisable
    try dsimp only
    repeat' first
      | with_reducible assumption
      | with_reducible apply outP_next
      | with_reducible apply outP_done
      | with_reducible apply gated_foot hP k_regs k_out k_router k_maint
      | with_reducible apply headOffCmd_foot hP k_regs k_out k_freeCount k_router k_maint k_memory k_ing k_heads k_links k_keeper k_perf
      | with_reducible apply ite_closed
      | (intro _ _)
      | (intro _)
      | dsimp only
      | split

theorem layerRead_foot (hP : Closed F P) (k_heads : F .heads = true) {s : State} {x1 : Fin 4} {g : Bool → State × FieldSt → State × FieldSt} (h_s : P s) (h_g : ∀ y0 y1, P y1.1 → P (g y0 y1).1) : P (layerRead s x1 g) := by
    unfold layerRead
    try dsimp only
    repeat' first
      | with_reducible assumption
      | with_reducible apply putProd_foot hP k_heads
      | with_reducible apply h_g
      | (with_reducible apply fstP_of; with_reducible apply h_g)
      | with_reducible apply ite_closed
      | (intro _ _)
      | (intro _)
      | dsimp only
      | split

theorem execLayerDescriptorRead_foot (hP : Closed F P) (k_regs : F .regs = true) (k_out : F .out = true) (k_router : F .router = true) (k_maint : F .maint = true) (k_memory : F .memory = true) (k_heads : F .heads = true) {x0 : Fin 4} {k : Fin 8} {s : State} (h_s : P s) : OutP P (execLayerDescriptorRead x0 k s) := by
    unfold execLayerDescriptorRead
    try dsimp only
    repeat' first
      | with_reducible assumption
      | with_reducible apply outP_next
      | with_reducible apply outP_done
      | with_reducible apply layerRead_foot hP k_heads
      | with_reducible apply readDescriptor_foot hP k_regs k_out k_router k_maint k_memory
      | (with_reducible apply fstP_of; with_reducible apply readDescriptor_foot hP k_regs k_out k_router k_maint k_memory)
      | with_reducible apply showLayer_foot hP k_regs
      | (with_reducible exact fstP_elim (by assumption))
      | with_reducible apply foldl_fst
      | with_reducible apply ite_closed
      | (intro _ _)
      | (intro _)
      | dsimp only
      | split
      | with_reducible apply fstP_mk

theorem execGuardRead_foot (hP : Closed F P) (k_regs : F .regs = true) (k_out : F .out = true) (k_router : F .router = true) (k_maint : F .maint = true) (k_memory : F .memory = true) (k_heads : F .heads = true) {x0 : Fin 4} {k : Fin 8} {band : Nat} {s : State} (h_s : P s) : OutP P (execGuardRead x0 k band s) := by
    unfold execGuardRead
    try dsimp only
    repeat' first
      | with_reducible assumption
      | with_reducible apply outP_next
      | with_reducible apply outP_done
      | with_reducible apply layerRead_foot hP k_heads
      | with_reducible apply readGuard_foot hP k_regs k_out k_router k_maint k_memory
      | (with_reducible apply fstP_of; with_reducible apply readGuard_foot hP k_regs k_out k_router k_maint k_memory)
      | (with_reducible exact fstP_elim (by assumption))
      | with_reducible apply foldl_fst
      | with_reducible apply ite_closed
      | (intro _ _)
      | (intro _)
      | dsimp only
      | split
      | with_reducible apply fstP_mk

theorem execLayerDataRead_foot (hP : Closed F P) (k_regs : F .regs = true) (k_out : F .out = true) (k_router : F .router = true) (k_maint : F .maint = true) (k_memory : F .memory = true) (k_heads : F .heads = true) {x0 : Fin 4} {k : Fin 8} {line : Nat} {s : State} (h_s : P s) : OutP P (execLayerDataRead x0 k line s) := by
    unfold execLayerDataRead
    try dsimp only
    repeat' first
      | with_reducible assumption
      | with_reducible apply outP_next
      | with_reducible apply outP_done
      | with_reducible apply layerRead_foot hP k_heads
      | with_reducible apply readLayerData_foot hP k_regs k_out k_router k_maint k_memory
      | (with_reducible apply fstP_of; with_reducible apply readLayerData_foot hP k_regs k_out k_router k_maint k_memory)
      | (with_reducible exact fstP_elim (by assumption))
      | with_reducible apply foldl_fst
      | with_reducible apply ite_closed
      | (intro _ _)
      | (intro _)
      | dsimp only
      | split
      | with_reducible apply fstP_mk

theorem fillFailed_foot (hP : Closed F P) (k_regs : F .regs = true) (k_out : F .out = true) (k_router : F .router = true) (k_maint : F .maint = true) (k_heads : F .heads = true) {s : State} {x1 : Fin 4} {num : Word} {line : Nat} {a : Nat} (h_s : P s) : P (fillFailed s x1 num line a) := by
    unfold fillFailed
    try dsimp only
    repeat' first
      | with_reducible assumption
      | with_reducible apply noteFetch_foot hP k_regs k_out k_router k_maint
      | with_reducible apply putHead_foot hP k_heads
      | with_reducible apply ite_closed
      | (intro _ _)
      | (intro _)
      | dsimp only
      | split

theorem execCacheFillReturn_foot (hP : Closed F P) (k_regs : F .regs = true) (k_out : F .out = true) (k_router : F .router = true) (k_maint : F .maint = true) (k_memory : F .memory = true) (k_heads : F .heads = true) {x0 : Fin 4} {line : BitVec 26} {s : State} (h_s : P s) : OutP P (execCacheFillReturn x0 line s) := by
    unfold execCacheFillReturn
    try dsimp only
    repeat' first
      | with_reducible assumption
      | with_reducible apply outP_next
      | with_reducible apply outP_done
      | with_reducible apply dirInstall_foot hP k_regs k_out k_router k_maint k_memory k_heads
      | (with_reducible apply fstP_of; with_reducible apply dirInstall_foot hP k_regs k_out k_router k_maint k_memory k_heads)
      | with_reducible apply fillFailed_foot hP k_regs k_out k_router k_maint k_heads
      | (with_reducible exact fstP_elim (by assumption))
      | with_reducible apply foldl_fst
      | with_reducible apply ite_closed
      | (intro _ _)
      | (intro _)
      | dsimp only
      | split
      | with_reducible apply fstP_mk

theorem noteRepeat_foot (hP : Closed F P) (k_regs : F .regs = true) (k_out : F .out = true) (k_router : F .router = true) (k_maint : F .maint = true) (k_heads : F .heads = true) {s : State} {x1 : Fin 4} {y : Nat} (h_s : P s) : P (noteRepeat s x1 y) := by
    unfold noteRepeat
    try dsimp only
    repeat' first
      | with_reducible assumption
      | with_reducible apply perfHit_foot hP k_regs k_out k_router k_maint
      | with_reducible apply State.raise_foot hP k_regs k_out k_router k_maint
      | with_reducible apply putHead_foot hP k_heads
      | with_reducible apply Closed.inc hP k_regs
      | with_reducible apply ite_closed
      | (intro _ _)
      | (intro _)
      | dsimp only
      | split

theorem sendPackets_foot (hP : Closed F P) (k_out : F .out = true) {s : State} {x1 : Nat} {y : Nat} {b : Option BandLine} (h_s : P s) : P (sendPackets s x1 y b) := by
    unfold sendPackets
    try dsimp only
    repeat' first
      | with_reducible assumption
      | (with_reducible refine foldl_inv P _ (fun _ _ _ => ?_) _ _ ?_)
      | with_reducible apply Closed.emit hP k_out
      | with_reducible apply ite_closed
      | (intro _ _)
      | (intro _)
      | dsimp only
      | split

theorem lineStarts_foot (hP : Closed F P) (k_regs : F .regs = true) (k_out : F .out = true) (k_router : F .router = true) (k_maint : F .maint = true) (k_heads : F .heads = true) (k_keeper : F .keeper = true) (k_perf : F .perf = true) {s : State} {x1 : Fin 4} (h_s : P s) : P (lineStarts s x1) := by
    unfold lineStarts
    try dsimp only
    repeat' first
      | with_reducible assumption
      | with_reducible apply putHead_foot hP k_heads
      | with_reducible apply gateLine_foot hP k_out k_keeper
      | with_reducible apply glintSent_foot hP k_perf
      | with_reducible apply perfHit_foot hP k_regs k_out k_router k_maint
      | with_reducible apply noteRepeat_foot hP k_regs k_out k_router k_maint k_heads
      | with_reducible apply sendPackets_foot hP k_out
      | with_reducible apply Closed.wr hP k_regs
      | with_reducible apply Closed.emit hP k_out
      | with_reducible apply ite_closed
      | (intro _ _)
      | (intro _)
      | dsimp only
      | split

theorem execLineStart_foot (hP : Closed F P) (k_regs : F .regs = true) (k_out : F .out = true) (k_power : F .power = true) (k_router : F .router = true) (k_maint : F .maint = true) (k_ing : F .ing = true) (k_heads : F .heads = true) (k_links : F .links = true) (k_keeper : F .keeper = true) (k_perf : F .perf = true) {x0 : Fin 4} {s : State} (h_s : P s) : OutP P (execLineStart x0 s) := by
    unfold execLineStart
    try dsimp only
    repeat' first
      | with_reducible assumption
      | with_reducible apply outP_next
      | with_reducible apply outP_done
      | with_reducible apply headStop_foot hP k_regs k_out k_router k_maint k_ing k_heads k_links k_keeper k_perf
      | with_reducible apply lineStarts_foot hP k_regs k_out k_router k_maint k_heads k_keeper k_perf
      | with_reducible apply settleLine_foot hP k_regs k_out k_power k_router k_maint k_heads k_links k_perf
      | with_reducible apply ite_closed
      | (intro _ _)
      | (intro _)
      | dsimp only
      | split

theorem execToleranceUpdate_foot (hP : Closed F P) (k_regs : F .regs = true) (k_heads : F .heads = true) {x0 : Fin 4} {firstMissing : Nat} {lineIssueNs : Nat} {mapDecodeNs : Nat} {wbLines : Nat} {s : State} (h_s : P s) : OutP P (execToleranceUpdate x0 firstMissing lineIssueNs mapDecodeNs wbLines s) := by
    unfold execToleranceUpdate
    try dsimp only
    repeat' first
      | with_reducible assumption
      | with_reducible apply outP_next
      | with_reducible apply outP_done
      | with_reducible apply putHead_foot hP k_heads
      | with_reducible apply Closed.wr hP k_regs
      | with_reducible apply ite_closed
      | (intro _ _)
      | (intro _)
      | dsimp only
      | split

theorem mirrorMismatch_foot (hP : Closed F P) (k_regs : F .regs = true) (k_out : F .out = true) (k_power : F .power = true) (k_router : F .router = true) (k_maint : F .maint = true) (k_heads : F .heads = true) (k_links : F .links = true) (k_perf : F .perf = true) {s : State} {x1 : Fin 4} {n : Nat} {y : Nat} (h_s : P s) : P (mirrorMismatch s x1 n y) := by
    unfold mirrorMismatch
    try dsimp only
    repeat' first
      | with_reducible assumption
      | with_reducible apply State.raise_foot hP k_regs k_out k_router k_maint
      | with_reducible apply laneFail_foot hP k_regs k_out k_power k_router k_maint k_heads k_links k_perf
      | with_reducible apply putHead_foot hP k_heads
      | with_reducible apply Closed.inc hP k_regs
      | with_reducible apply Closed.setF hP k_regs
      | with_reducible apply Closed.wr hP k_regs
      | with_reducible apply ite_closed
      | (intro _ _)
      | (intro _)
      | dsimp only
      | split

theorem execMirrorCheckCompare_foot (hP : Closed F P) (k_regs : F .regs = true) (k_out : F .out = true) (k_power : F .power = true) (k_router : F .router = true) (k_maint : F .maint = true) (k_heads : F .heads = true) (k_links : F .links = true) (k_perf : F .perf = true) {x0 : Fin 4} {lane : Fin 13} {line : Nat} {crc : Word} {pol : Bool} {rep : Bool} {s : State} (h_s : P s) : OutP P (execMirrorCheckCompare x0 lane line crc pol rep s) := by
    unfold execMirrorCheckCompare
    try dsimp only
    repeat' first
      | with_reducible assumption
      | with_reducible apply outP_next
      | with_reducible apply outP_done
      | with_reducible apply putHead_foot hP k_heads
      | with_reducible apply mirrorMismatch_foot hP k_regs k_out k_power k_router k_maint k_heads k_links k_perf
      | with_reducible apply Closed.inc48 hP k_regs
      | with_reducible apply ite_closed
      | (intro _ _)
      | (intro _)
      | dsimp only
      | split

theorem rxDriven_foot (hP : Closed F P) (k_links : F .links = true) {s : State} {x1 : Nat} {y : Nat} (h_s : P s) : P (rxDriven s x1 y) := by
    unfold rxDriven
    try dsimp only
    repeat' first
      | with_reducible assumption
      | with_reducible apply putLink_foot hP k_links
      | (with_reducible refine foldl_inv P _ (fun _ _ _ => ?_) _ _ ?_)
      | with_reducible apply ite_closed
      | (intro _ _)
      | (intro _)
      | dsimp only
      | split

theorem rxError_foot (hP : Closed F P) (k_regs : F .regs = true) (k_out : F .out = true) (k_router : F .router = true) (k_maint : F .maint = true) (k_links : F .links = true) {s : State} {x1 : Fin 4} {y : Nat} (h_s : P s) : P (rxError s x1 y) := by
    unfold rxError
    try dsimp only
    repeat' first
      | with_reducible assumption
      | with_reducible apply State.raise_foot hP k_regs k_out k_router k_maint
      | with_reducible apply putLink_foot hP k_links
      | with_reducible apply ite_closed
      | (intro _ _)
      | (intro _)
      | dsimp only
      | split

theorem rxLineEnds_foot (hP : Closed F P) (k_regs : F .regs = true) (k_out : F .out = true) (k_router : F .router = true) (k_maint : F .maint = true) (k_links : F .links = true) {s : State} {x1 : Fin 4} (h_s : P s) : P (rxLineEnds s x1) := by
    unfold rxLineEnds
    try dsimp only
    repeat' first
      | with_reducible assumption
      | with_reducible apply rxDriven_foot hP k_links
      | with_reducible apply putLink_foot hP k_links
      | with_reducible apply rxError_foot hP k_regs k_out k_router k_maint k_links
      | with_reducible apply Closed.incBy hP k_regs
      | with_reducible apply ite_closed
      | (intro _ _)
      | (intro _)
      | dsimp only
      | split

theorem rxCapture_foot (hP : Closed F P) (k_heads : F .heads = true) {s : State} {x1 : Nat} (h_s : P s) : P (rxCapture s x1) := by
    unfold rxCapture
    try dsimp only
    repeat' first
      | with_reducible assumption
      | with_reducible apply wbCapture_foot hP k_heads
      | with_reducible apply ite_closed
      | (intro _ _)
      | (intro _)
      | dsimp only
      | split

theorem rxSkip_foot (hP : Closed F P) (k_regs : F .regs = true) (k_out : F .out = true) (k_router : F .router = true) (k_maint : F .maint = true) (k_heads : F .heads = true) (k_links : F .links = true) {s : State} {x1 : Fin 4} {y : Nat} (h_s : P s) : P (rxSkip s x1 y) := by
    unfold rxSkip
    try dsimp only
    repeat' first
      | with_reducible assumption
      | with_reducible apply putLink_foot hP k_links
      | with_reducible apply rxLineEnds_foot hP k_regs k_out k_router k_maint k_links
      | with_reducible apply rxCapture_foot hP k_heads
      | (with_reducible refine foldl_inv P _ (fun _ _ _ => ?_) _ _ ?_)
      | with_reducible apply ite_closed
      | (intro _ _)
      | (intro _)
      | dsimp only
      | split

theorem rxStart_foot (hP : Closed F P) (k_links : F .links = true) {s : State} {x1 : Nat} {p : RxPacket} (h_s : P s) : P (rxStart s x1 p) := by
    unfold rxStart
    try dsimp only
    repeat' first
      | with_reducible assumption
      | with_reducible apply putLink_foot hP k_links
      | with_reducible apply ite_closed
      | (intro _ _)
      | (intro _)
      | dsimp only
      | split

theorem rxLatch_foot (hP : Closed F P) (k_regs : F .regs = true) (k_eff : F .eff = true) (k_out : F .out = true) (k_router : F .router = true) (k_ring : F .ring = true) (k_txn : F .txn = true) (k_maint : F .maint = true) (k_ing : F .ing = true) (k_heads : F .heads = true) (k_links : F .links = true) {s : State} {x1 : Fin 4} (h_s : P s) : P (rxLatch s x1) := by
    unfold rxLatch
    try dsimp only
    repeat' first
      | with_reducible assumption
      | with_reducible apply latchTxns_foot hP k_regs k_out k_router k_ring k_txn k_maint k_ing k_heads k_links
      | with_reducible apply layerCommit_foot hP k_regs k_eff k_out k_router k_maint
      | with_reducible apply wbLatch_foot hP k_regs k_out k_router k_maint k_heads
      | (with_reducible apply fstP_of; with_reducible apply wbLatch_foot hP k_regs k_out k_router k_maint k_heads)
      | with_reducible apply putHead_foot hP k_heads
      | (with_reducible exact fstP_elim (by assumption))
      | with_reducible apply foldl_fst
      | with_reducible apply ite_closed
      | (intro _ _)
      | (intro _)
      | dsimp only
      | split
      | with_reducible apply fstP_mk

theorem rxFrameStart_foot (hP : Closed F P) (k_regs : F .regs = true) (k_out : F .out = true) (k_router : F .router = true) (k_maint : F .maint = true) (k_heads : F .heads = true) (k_links : F .links = true) {s : State} {x1 : Fin 4} {frame : Word} {vActive : Nat} (h_s : P s) : P (rxFrameStart s x1 frame vActive) := by
    unfold rxFrameStart
    try dsimp only
    repeat' first
      | with_reducible assumption
      | with_reducible apply rxLineEnds_foot hP k_regs k_out k_router k_maint k_links
      | with_reducible apply rxCapture_foot hP k_heads
      | with_reducible apply rxSkip_foot hP k_regs k_out k_router k_maint k_heads k_links
      | with_reducible apply State.raise_foot hP k_regs k_out k_router k_maint
      | with_reducible apply perfHit_foot hP k_regs k_out k_router k_maint
      | with_reducible apply putHead_foot hP k_heads
      | with_reducible apply putWb_foot hP k_heads
      | with_reducible apply wbStamp_foot hP k_heads
      | with_reducible apply putLink_foot hP k_links
      | with_reducible apply setHeadState_foot hP k_regs
      | with_reducible apply Closed.wr hP k_regs
      | with_reducible apply Closed.wr64 hP k_regs
      | with_reducible apply ite_closed
      | (intro _ _)
      | (intro _)
      | dsimp only
      | split

theorem execRxFrameStart_foot (hP : Closed F P) (k_regs : F .regs = true) (k_out : F .out = true) (k_router : F .router = true) (k_maint : F .maint = true) (k_heads : F .heads = true) (k_links : F .links = true) {x0 : Fin 4} {payload : List Byte} {s : State} (h_s : P s) : OutP P (execRxFrameStart x0 payload s) := by
    unfold execRxFrameStart
    try dsimp only
    repeat' first
      | with_reducible assumption
      | with_reducible apply outP_next
      | with_reducible apply outP_done
      | with_reducible apply rxFrameStart_foot hP k_regs k_out k_router k_maint k_heads k_links
      | with_reducible apply ite_closed
      | (intro _ _)
      | (intro _)
      | dsimp only
      | split

theorem rxPacket_foot (hP : Closed F P) (k_regs : F .regs = true) (k_eff : F .eff = true) (k_out : F .out = true) (k_router : F .router = true) (k_ring : F .ring = true) (k_txn : F .txn = true) (k_maint : F .maint = true) (k_ing : F .ing = true) (k_heads : F .heads = true) (k_links : F .links = true) {x0 : Fin 4} {n : Nat} {s : State} {p : RxPacket} (h_s : P s) : P (rxPacket x0 n s p) := by
    unfold rxPacket
    try dsimp only
    repeat' first
      | with_reducible assumption
      | with_reducible apply putLane_foot hP k_links
      | with_reducible apply rxError_foot hP k_regs k_out k_router k_maint k_links
      | with_reducible apply rxSkip_foot hP k_regs k_out k_router k_maint k_heads k_links
      | with_reducible apply rxLineEnds_foot hP k_regs k_out k_router k_maint k_links
      | with_reducible apply rxCapture_foot hP k_heads
      | with_reducible apply putHead_foot hP k_heads
      | with_reducible apply putLink_foot hP k_links
      | with_reducible apply rxLatch_foot hP k_regs k_eff k_out k_router k_ring k_txn k_maint k_ing k_heads k_links
      | with_reducible apply rxStart_foot hP k_links
      | with_reducible apply Closed.inc hP k_regs
      | with_reducible apply Closed.wr hP k_regs
      | with_reducible apply ite_closed
      | (intro _ _)
      | (intro _)
      | dsimp only
      | split

theorem rxBlock_foot (hP : Closed F P) (k_regs : F .regs = true) (k_eff : F .eff = true) (k_out : F .out = true) (k_power : F .power = true) (k_router : F .router = true) (k_ring : F .ring = true) (k_txn : F .txn = true) (k_maint : F .maint = true) (k_ing : F .ing = true) (k_heads : F .heads = true) (k_links : F .links = true) (k_perf : F .perf = true) {x0 : Fin 4} {n : Nat} {s : State} {q : Block × Nat} (h_s : P s) : P (rxBlock x0 n s q) := by
    unfold rxBlock
    try dsimp only
    repeat' first
      | with_reducible assumption
      | with_reducible apply putLane_foot hP k_links
      | with_reducible apply laneActive_foot hP k_regs k_out k_power k_router k_maint k_heads k_links k_perf
      | with_reducible apply rxPacket_foot hP k_regs k_eff k_out k_router k_ring k_txn k_maint k_ing k_heads k_links
      | with_reducible apply laneFail_foot hP k_regs k_out k_power k_router k_maint k_heads k_links k_perf
      | (with_reducible refine foldl_inv P _ (fun _ _ _ => ?_) _ _ ?_)
      | with_reducible apply Closed.inc hP k_regs
      | with_reducible apply ite_closed
      | (intro _ _)
      | (intro _)
      | dsimp only
      | split

theorem rxFeed_foot (hP : Closed F P) (k_regs : F .regs = true) (k_eff : F .eff = true) (k_out : F .out = true) (k_power : F .power = true) (k_router : F .router = true) (k_ring : F .ring = true) (k_txn : F .txn = true) (k_maint : F .maint = true) (k_ing : F .ing = true) (k_heads : F .heads = true) (k_links : F .links = true) (k_perf : F .perf = true) {s : State} {x1 : Fin 4} {n : Nat} {rx : RxBlocks} (h_s : P s) : P (rxFeed s x1 n rx) := by
    unfold rxFeed
    try dsimp only
    repeat' first
      | with_reducible assumption
      | with_reducible apply rxBlock_foot hP k_regs k_eff k_out k_power k_router k_ring k_txn k_maint k_ing k_heads k_links k_perf
      | (with_reducible refine foldl_inv P _ (fun _ _ _ => ?_) _ _ ?_)
      | with_reducible apply ite_closed
      | (intro _ _)
      | (intro _)
      | dsimp only
      | split

theorem execRxLinePacket_foot (hP : Closed F P) (k_regs : F .regs = true) (k_eff : F .eff = true) (k_out : F .out = true) (k_power : F .power = true) (k_router : F .router = true) (k_ring : F .ring = true) (k_txn : F .txn = true) (k_maint : F .maint = true) (k_ing : F .ing = true) (k_heads : F .heads = true) (k_links : F .links = true) (k_perf : F .perf = true) {x0 : Fin 4} {lane : Fin 13} {rx : RxBlocks} {s : State} (h_s : P s) : OutP P (execRxLinePacket x0 lane rx s) := by
    unfold execRxLinePacket
    try dsimp only
    repeat' first
      | with_reducible assumption
      | with_reducible apply outP_next
      | with_reducible apply outP_done
      | with_reducible apply rxFeed_foot hP k_regs k_eff k_out k_power k_router k_ring k_txn k_maint k_ing k_heads k_links k_perf
      | with_reducible apply ite_closed
      | (intro _ _)
      | (intro _)
      | dsimp only
      | split

theorem execBlockLock_foot (hP : Closed F P) (k_regs : F .regs = true) (k_eff : F .eff = true) (k_out : F .out = true) (k_power : F .power = true) (k_router : F .router = true) (k_ring : F .ring = true) (k_txn : F .txn = true) (k_maint : F .maint = true) (k_ing : F .ing = true) (k_heads : F .heads = true) (k_links : F .links = true) (k_perf : F .perf = true) {x0 : Fin 4} {lane : Fin 13} {rx : RxBlocks} {s : State} (h_s : P s) : OutP P (execBlockLock x0 lane rx s) := by
    unfold execBlockLock
    try dsimp only
    repeat' first
      | with_reducible assumption
      | with_reducible apply outP_next
      | with_reducible apply outP_done
      | with_reducible apply rxFeed_foot hP k_regs k_eff k_out k_power k_router k_ring k_txn k_maint k_ing k_heads k_links k_perf
      | with_reducible apply ite_closed
      | (intro _ _)
      | (intro _)
      | dsimp only
      | split

theorem execBlockLockLoss_foot (hP : Closed F P) (k_regs : F .regs = true) (k_eff : F .eff = true) (k_out : F .out = true) (k_power : F .power = true) (k_router : F .router = true) (k_ring : F .ring = true) (k_txn : F .txn = true) (k_maint : F .maint = true) (k_ing : F .ing = true) (k_heads : F .heads = true) (k_links : F .links = true) (k_perf : F .perf = true) {x0 : Fin 4} {lane : Fin 13} {rx : RxBlocks} {s : State} (h_s : P s) : OutP P (execBlockLockLoss x0 lane rx s) := by
    unfold execBlockLockLoss
    try dsimp only
    repeat' first
      | with_reducible assumption
      | with_reducible apply outP_next
      | with_reducible apply outP_done
      | with_reducible apply rxFeed_foot hP k_regs k_eff k_out k_power k_router k_ring k_txn k_maint k_ing k_heads k_links k_perf
      | with_reducible apply ite_closed
      | (intro _ _)
      | (intro _)
      | dsimp only
      | split

end Sys2Proof.Machine
end

