-- ==== Sys2Proof/Laws/FootPages.lean ====
section
/-!
SUPPORT. Footprints of the definitions of Machine/Pages.lean: which parts of the state each of them may update.
-/
namespace Sys2Proof.Machine

variable {F : Part → Bool} {P : State → Prop}

theorem mapFields_foot (hP : Closed F P) (k_heads : F .heads = true) {s : State} {x1 : Nat} {g : FieldSt → FieldSt} (h_s : P s) : P (mapFields s x1 g) := by
    unfold mapFields
    try dsimp only
    repeat' first
      | with_reducible assumption
      | with_reducible apply putHead_foot hP k_heads
      | with_reducible apply ite_closed
      | (intro _ _)
      | (intro _)
      | dsimp only
      | split

theorem abortJob_foot (hP : Closed F P) (k_regs : F .regs = true) (k_out : F .out = true) (k_freeCount : F .freeCount = true) (k_router : F .router = true) (k_ring : F .ring = true) (k_maint : F .maint = true) (k_hbm : F .hbm = true) (k_host : F .host = true) (k_memory : F .memory = true) (k_eng : F .eng = true) (k_links : F .links = true) (k_audio : F .audio = true) {s : State} {j : Job} (h_s : P s) : P (abortJob s j) := by
    unfold abortJob
    try dsimp only
    repeat' first
      | with_reducible assumption
      | with_reducible apply stopJob_foot hP k_regs k_out k_freeCount k_router k_ring k_maint k_hbm k_host k_memory k_eng
      | with_reducible apply finishJob_foot hP k_regs k_ring
      | with_reducible apply playDone_foot hP k_regs k_ring
      | with_reducible apply putPort_foot hP k_audio
      | with_reducible apply putLink_foot hP k_links
      | with_reducible apply ite_closed
      | (intro _ _)
      | (intro _)
      | dsimp only
      | split

theorem abortJobs_foot (hP : Closed F P) (k_regs : F .regs = true) (k_out : F .out = true) (k_freeCount : F .freeCount = true) (k_router : F .router = true) (k_ring : F .ring = true) (k_maint : F .maint = true) (k_hbm : F .hbm = true) (k_host : F .host = true) (k_memory : F .memory = true) (k_eng : F .eng = true) (k_links : F .links = true) (k_audio : F .audio = true) {s : State} {l : List Job} (h_s : P s) : P (abortJobs s l) := by
    unfold abortJobs
    try dsimp only
    repeat' first
      | with_reducible assumption
      | with_reducible apply abortJob_foot hP k_regs k_out k_freeCount k_router k_ring k_maint k_hbm k_host k_memory k_eng k_links k_audio
      | (with_reducible refine foldl_inv P _ (fun _ _ _ => ?_) _ _ ?_)
      | with_reducible apply ite_closed
      | (intro _ _)
      | (intro _)
      | dsimp only
      | split

theorem rguAbort_foot (hP : Closed F P) (k_regs : F .regs = true) (k_out : F .out = true) (k_freeCount : F .freeCount = true) (k_router : F .router = true) (k_maint : F .maint = true) (k_memory : F .memory = true) (k_heads : F .heads = true) (k_perf : F .perf = true) {s : State} {x1 : Fin 4} {b : Nat} (h_s : P s) : P (rguAbort s x1 b) := by
    unfold rguAbort
    try dsimp only
    repeat' first
      | with_reducible assumption
      | with_reducible apply cutRays_foot hP k_regs k_out k_freeCount k_router k_maint k_memory k_heads k_perf
      | with_reducible apply showIssuing_foot hP k_regs
      | with_reducible apply mapFields_foot hP k_heads
      | with_reducible apply ite_closed
      | (intro _ _)
      | (intro _)
      | dsimp only
      | split

theorem layerAbort_foot (hP : Closed F P) (k_heads : F .heads = true) {s : State} {x1 : Nat} {b : Nat} (h_s : P s) : P (layerAbort s x1 b) := by
    unfold layerAbort
    try dsimp only
    repeat' first
      | with_reducible assumption
      | with_reducible apply mapFields_foot hP k_heads
      | with_reducible apply ite_closed
      | (intro _ _)
      | (intro _)
      | dsimp only
      | split

theorem abortWork_foot (hP : Closed F P) (k_regs : F .regs = true) (k_out : F .out = true) (k_freeCount : F .freeCount = true) (k_router : F .router = true) (k_ring : F .ring = true) (k_txn : F .txn = true) (k_sched : F .sched = true) (k_maint : F .maint = true) (k_hbm : F .hbm = true) (k_host : F .host = true) (k_memory : F .memory = true) (k_ing : F .ing = true) (k_eng : F .eng = true) (k_heads : F .heads = true) (k_links : F .links = true) (k_keeper : F .keeper = true) (k_opt : F .opt = true) (k_audio : F .audio = true) (k_perf : F .perf = true) {s : State} {b : Nat} (h_s : P s) : P (abortWork s b) := by
    unfold abortWork
    try dsimp only
    repeat' first
      | with_reducible assumption
      | with_reducible apply slotAborted_foot hP k_regs k_out k_router k_ring k_txn k_sched k_maint
      | with_reducible apply abortJobs_foot hP k_regs k_out k_freeCount k_router k_ring k_maint k_hbm k_host k_memory k_eng k_links k_audio
      | with_reducible apply unlane_foot hP k_ing
      | with_reducible apply headOffCmd_foot hP k_regs k_out k_freeCount k_router k_maint k_memory k_ing k_heads k_links k_keeper k_perf
      | with_reducible apply rguAbort_foot hP k_regs k_out k_freeCount k_router k_maint k_memory k_heads k_perf
      | with_reducible apply layerAbort_foot hP k_heads
      | with_reducible apply optDisable_foot hP k_regs k_opt
      | with_reducible apply perfDisable_foot hP k_regs k_perf
      | (with_reducible refine foldl_inv P _ (fun _ _ _ => ?_) _ _ ?_)
      | with_reducible apply ite_closed
      | (intro _ _)
      | (intro _)
      | dsimp only
      | split

theorem pageStart_foot (hP : Closed F P) (k_regs : F .regs = true) (k_out : F .out = true) (k_power : F .power = true) (k_router : F .router = true) (k_ring : F .ring = true) (k_maint : F .maint = true) (k_hbm : F .hbm = true) (k_memory : F .memory = true) (k_ing : F .ing = true) (k_heads : F .heads = true) (k_links : F .links = true) (k_opt : F .opt = true) (k_audio : F .audio = true) (k_perf : F .perf = true) {s : State} {b : Nat} (h_s : P s) : P (pageStart s b) := by
    unfold pageStart
    try dsimp only
    repeat' first
      | with_reducible assumption
      | with_reducible apply headOnCmd_foot hP k_regs k_out k_power k_router k_maint k_heads k_links k_perf
      | with_reducible apply optEnable_foot hP k_regs k_out k_router k_maint k_hbm k_memory k_opt
      | with_reducible apply portEnable_foot hP k_regs k_out k_router k_ring k_maint k_audio
      | with_reducible apply perfEnable_foot hP k_regs k_out k_router k_maint
      | with_reducible apply refuse_foot hP k_regs k_out k_router k_maint
      | with_reducible apply zlEnable_foot hP k_regs k_out k_links
      | with_reducible apply dispatch_foot hP k_ing
      | with_reducible apply setOn_foot hP k_regs
      | (with_reducible refine foldl_inv P _ (fun _ _ _ => ?_) _ _ ?_)
      | with_reducible apply ite_closed
      | (intro _ _)
      | (intro _)
      | dsimp only
      | split

theorem pageOn_foot (hP : Closed F P) (k_regs : F .regs = true) (k_out : F .out = true) (k_power : F .power = true) (k_router : F .router = true) (k_ring : F .ring = true) (k_maint : F .maint = true) (k_hbm : F .hbm = true) (k_memory : F .memory = true) (k_ing : F .ing = true) (k_heads : F .heads = true) (k_links : F .links = true) (k_opt : F .opt = true) (k_audio : F .audio = true) (k_perf : F .perf = true) {s : State} {b : Nat} (h_s : P s) : P (pageOn s b) := by
    unfold pageOn
    try dsimp only
    repeat' first
      | with_reducible assumption
      | with_reducible apply pageStart_foot hP k_regs k_out k_power k_router k_ring k_maint k_hbm k_memory k_ing k_heads k_links k_opt k_audio k_perf
      | with_reducible apply ite_closed
      | (intro _ _)
      | (intro _)
      | dsimp only
      | split

theorem pageStop_foot (hP : Closed F P) (k_regs : F .regs = true) (k_out : F .out = true) (k_freeCount : F .freeCount = true) (k_router : F .router = true) (k_ring : F .ring = true) (k_txn : F .txn = true) (k_sched : F .sched = true) (k_maint : F .maint = true) (k_hbm : F .hbm = true) (k_host : F .host = true) (k_memory : F .memory = true) (k_ing : F .ing = true) (k_eng : F .eng = true) (k_heads : F .heads = true) (k_links : F .links = true) (k_keeper : F .keeper = true) (k_opt : F .opt = true) (k_audio : F .audio = true) (k_perf : F .perf = true) {s : State} {b : Nat} {abort : Bool} (h_s : P s) : P (pageStop s b abort) := by
    unfold pageStop
    try dsimp only
    repeat' first
      | with_reducible assumption
      | with_reducible apply headOffCmd_foot hP k_regs k_out k_freeCount k_router k_maint k_memory k_ing k_heads k_links k_keeper k_perf
      | with_reducible apply zlOff_foot hP k_regs k_out k_links
      | with_reducible apply refuse_foot hP k_regs k_out k_router k_maint
      | with_reducible apply portDisable_foot hP k_regs k_out k_ring k_audio
      | with_reducible apply optDisable_foot hP k_regs k_opt
      | with_reducible apply perfDisable_foot hP k_regs k_perf
      | with_reducible apply setOff_foot hP k_regs
      | with_reducible apply abortWork_foot hP k_regs k_out k_freeCount k_router k_ring k_txn k_sched k_maint k_hbm k_host k_memory k_ing k_eng k_heads k_links k_keeper k_opt k_audio k_perf
      | (with_reducible refine foldl_inv P _ (fun _ _ _ => ?_) _ _ ?_)
      | with_reducible apply ite_closed
      | (intro _ _)
      | (intro _)
      | dsimp only
      | split

theorem modeWrite_foot (hP : Closed F P) (k_regs : F .regs = true) (k_out : F .out = true) (k_freeCount : F .freeCount = true) (k_router : F .router = true) (k_ring : F .ring = true) (k_txn : F .txn = true) (k_sched : F .sched = true) (k_maint : F .maint = true) (k_hbm : F .hbm = true) (k_host : F .host = true) (k_memory : F .memory = true) (k_ing : F .ing = true) (k_eng : F .eng = true) (k_heads : F .heads = true) (k_links : F .links = true) (k_keeper : F .keeper = true) (k_opt : F .opt = true) (k_audio : F .audio = true) (k_perf : F .perf = true) {s : State} {b : Nat} {abort : Bool} (h_s : P s) : P (modeWrite s b abort) := by
    unfold modeWrite
    try dsimp only
    repeat' first
      | with_reducible assumption
      | with_reducible apply abortWork_foot hP k_regs k_out k_freeCount k_router k_ring k_txn k_sched k_maint k_hbm k_host k_memory k_ing k_eng k_heads k_links k_keeper k_opt k_audio k_perf
      | (with_reducible refine foldl_inv P _ (fun _ _ _ => ?_) _ _ ?_)
      | with_reducible apply Closed.setB hP k_regs
      | with_reducible apply ite_closed
      | (intro _ _)
      | (intro _)
      | dsimp only
      | split

theorem pageOff_foot (hP : Closed F P) (k_regs : F .regs = true) (k_out : F .out = true) (k_freeCount : F .freeCount = true) (k_router : F .router = true) (k_ring : F .ring = true) (k_txn : F .txn = true) (k_sched : F .sched = true) (k_maint : F .maint = true) (k_hbm : F .hbm = true) (k_host : F .host = true) (k_memory : F .memory = true) (k_ing : F .ing = true) (k_eng : F .eng = true) (k_heads : F .heads = true) (k_links : F .links = true) (k_keeper : F .keeper = true) (k_opt : F .opt = true) (k_audio : F .audio = true) (k_perf : F .perf = true) {s : State} {b : Nat} {abort : Bool} (h_s : P s) : P (pageOff s b abort) := by
    unfold pageOff
    try dsimp only
    repeat' first
      | with_reducible assumption
      | with_reducible apply pageStop_foot hP k_regs k_out k_freeCount k_router k_ring k_txn k_sched k_maint k_hbm k_host k_memory k_ing k_eng k_heads k_links k_keeper k_opt k_audio k_perf
      | with_reducible apply modeWrite_foot hP k_regs k_out k_freeCount k_router k_ring k_txn k_sched k_maint k_hbm k_host k_memory k_ing k_eng k_heads k_links k_keeper k_opt k_audio k_perf
      | with_reducible apply ite_closed
      | (intro _ _)
      | (intro _)
      | dsimp only
      | split

theorem execPageEnable_foot (hP : Closed F P) (k_regs : F .regs = true) (k_out : F .out = true) (k_power : F .power = true) (k_router : F .router = true) (k_ring : F .ring = true) (k_maint : F .maint = true) (k_hbm : F .hbm = true) (k_memory : F .memory = true) (k_ing : F .ing = true) (k_heads : F .heads = true) (k_links : F .links = true) (k_opt : F .opt = true) (k_audio : F .audio = true) (k_perf : F .perf = true) {req : Requester} {page : Nat} {s : State} (h_s : P s) : OutP P (execPageEnable req page s) := by
    unfold execPageEnable
    try dsimp only
    repeat' first
      | with_reducible assumption
      | with_reducible apply outP_next
      | with_reducible apply outP_done
      | with_reducible apply gated_foot hP k_regs k_out k_router k_maint
      | with_reducible apply pageOn_foot hP k_regs k_out k_power k_router k_ring k_maint k_hbm k_memory k_ing k_heads k_links k_opt k_audio k_perf
      | with_reducible apply ite_closed
      | (intro _ _)
      | (intro _)
      | dsimp only
      | split

theorem execPageDisable_foot (hP : Closed F P) (k_regs : F .regs = true) (k_out : F .out = true) (k_freeCount : F .freeCount = true) (k_router : F .router = true) (k_ring : F .ring = true) (k_txn : F .txn = true) (k_sched : F .sched = true) (k_maint : F .maint = true) (k_hbm : F .hbm = true) (k_host : F .host = true) (k_memory : F .memory = true) (k_ing : F .ing = true) (k_eng : F .eng = true) (k_heads : F .heads = true) (k_links : F .links = true) (k_keeper : F .keeper = true) (k_opt : F .opt = true) (k_audio : F .audio = true) (k_perf : F .perf = true) {req : Requester} {page : Nat} {abort : Bool} {s : State} (h_s : P s) : OutP P (execPageDisable req page abort s) := by
    unfold execPageDisable
    try dsimp only
    repeat' first
      | with_reducible assumption
      | with_reducible apply outP_next
      | with_reducible apply outP_done
      | with_reducible apply gated_foot hP k_regs k_out k_router k_maint
      | with_reducible apply pageOff_foot hP k_regs k_out k_freeCount k_router k_ring k_txn k_sched k_maint k_hbm k_host k_memory k_ing k_eng k_heads k_links k_keeper k_opt k_audio k_perf
      | with_reducible apply ite_closed
      | (intro _ _)
      | (intro _)
      | dsimp only
      | split

theorem execDisableModeWrite_foot (hP : Closed F P) (k_regs : F .regs = true) (k_out : F .out = true) (k_freeCount : F .freeCount = true) (k_router : F .router = true) (k_ring : F .ring = true) (k_txn : F .txn = true) (k_sched : F .sched = true) (k_maint : F .maint = true) (k_hbm : F .hbm = true) (k_host : F .host = true) (k_memory : F .memory = true) (k_ing : F .ing = true) (k_eng : F .eng = true) (k_heads : F .heads = true) (k_links : F .links = true) (k_keeper : F .keeper = true) (k_opt : F .opt = true) (k_audio : F .audio = true) (k_perf : F .perf = true) {req : Requester} {page : Nat} {abort : Bool} {s : State} (h_s : P s) : OutP P (execDisableModeWrite req page abort s) := by
    unfold execDisableModeWrite
    try dsimp only
    repeat' first
      | with_reducible assumption
      | with_reducible apply outP_next
      | with_reducible apply outP_done
      | with_reducible apply gated_foot hP k_regs k_out k_router k_maint
      | with_reducible apply modeWrite_foot hP k_regs k_out k_freeCount k_router k_ring k_txn k_sched k_maint k_hbm k_host k_memory k_ing k_eng k_heads k_links k_keeper k_opt k_audio k_perf
      | with_reducible apply ite_closed
      | (intro _ _)
      | (intro _)
      | dsimp only
      | split

theorem pageQuiet_foot (hP : Closed F P) (k_regs : F .regs = true) (k_out : F .out = true) (k_router : F .router = true) (k_ring : F .ring = true) (k_txn : F .txn = true) (k_maint : F .maint = true) (k_ing : F .ing = true) (k_heads : F .heads = true) (k_links : F .links = true) {s : State} {b : Nat} (h_s : P s) : P (pageQuiet s b) := by
    unfold pageQuiet
    try dsimp only
    repeat' first
      | with_reducible assumption
      | with_reducible apply disabledTxns_foot hP k_regs k_out k_router k_ring k_txn k_maint k_ing k_heads k_links
      | with_reducible apply setHeadState_foot hP k_regs
      | with_reducible apply setPortState_foot hP k_regs
      | (with_reducible refine foldl_inv P _ (fun _ _ _ => ?_) _ _ ?_)
      | with_reducible apply Closed.setB hP k_regs
      | with_reducible apply ite_closed
      | (intro _ _)
      | (intro _)
      | dsimp only
      | split

theorem execQuiescence_foot (hP : Closed F P) (k_regs : F .regs = true) (k_out : F .out = true) (k_router : F .router = true) (k_ring : F .ring = true) (k_txn : F .txn = true) (k_maint : F .maint = true) (k_ing : F .ing = true) (k_heads : F .heads = true) (k_links : F .links = true) {unit : QuietUnit} {s : State} (h_s : P s) : OutP P (execQuiescence unit s) := by
    unfold execQuiescence
    try dsimp only
    repeat' first
      | with_reducible assumption
      | with_reducible apply outP_next
      | with_reducible apply outP_done
      | with_reducible apply pageQuiet_foot hP k_regs k_out k_router k_ring k_txn k_maint k_ing k_heads k_links
      | with_reducible apply Closed.setB hP k_regs
      | with_reducible apply ite_closed
      | (intro _ _)
      | (intro _)
      | dsimp only
      | split

theorem softResetCmd_foot (hP : Closed F P) (k_regs : F .regs = true) (k_out : F .out = true) (k_router : F .router = true) (k_maint : F .maint = true) {s : State} {b : Nat} (h_s : P s) : P (softResetCmd s b) := by
    unfold softResetCmd
    try dsimp only
    repeat' first
      | with_reducible assumption
      | with_reducible apply refuse_foot hP k_regs k_out k_router k_maint
      | (with_reducible refine foldl_inv P _ (fun _ _ _ => ?_) _ _ ?_)
      | with_reducible apply Closed.setB hP k_regs
      | with_reducible apply ite_closed
      | (intro _ _)
      | (intro _)
      | dsimp only
      | split

theorem execSoftReset_foot (hP : Closed F P) (k_regs : F .regs = true) (k_out : F .out = true) (k_router : F .router = true) (k_maint : F .maint = true) {req : Requester} {page : Nat} {s : State} (h_s : P s) : OutP P (execSoftReset req page s) := by
    unfold execSoftReset
    try dsimp only
    repeat' first
      | with_reducible assumption
      | with_reducible apply outP_next
      | with_reducible apply outP_done
      | with_reducible apply gated_foot hP k_regs k_out k_router k_maint
      | with_reducible apply softResetCmd_foot hP k_regs k_out k_router k_maint
      | with_reducible apply ite_closed
      | (intro _ _)
      | (intro _)
      | dsimp only
      | split

theorem softLive_foot (hP : Closed F P) (k_regs : F .regs = true) {s : State} {b : Nat} (h_s : P s) : P (softLive s b) := by
    unfold softLive
    try dsimp only
    repeat' first
      | with_reducible assumption
      | (with_reducible refine foldl_inv P _ (fun _ _ _ => ?_) _ _ ?_)
      | with_reducible apply Closed.wr hP k_regs
      | with_reducible apply Closed.setF hP k_regs
      | with_reducible apply ite_closed
      | (intro _ _)
      | (intro _)
      | dsimp only
      | split

theorem softInner_foot (hP : Closed F P) (k_regs : F .regs = true) (k_sched : F .sched = true) (k_ing : F .ing = true) (k_eng : F .eng = true) (k_heads : F .heads = true) (k_links : F .links = true) (k_audio : F .audio = true) (k_therm : F .therm = true) (k_perf : F .perf = true) {s : State} {b : Nat} (h_s : P s) : P (softInner s b) := by
    unfold softInner
    try dsimp only
    repeat' first
      | with_reducible assumption
      | with_reducible apply putEng_foot hP k_eng
      | with_reducible apply putHead_foot hP k_heads
      | with_reducible apply putLink_foot hP k_links
      | with_reducible apply optShow_foot hP k_regs
      | with_reducible apply resetGeom_foot hP k_regs
      | with_reducible apply putPort_foot hP k_audio
      | with_reducible apply perfReset_foot hP k_perf
      | (with_reducible refine foldl_inv P _ (fun _ _ _ => ?_) _ _ ?_)
      | with_reducible apply Closed.wr hP k_regs
      | with_reducible apply Closed.wrAll hP k_regs
      | with_reducible apply ite_closed
      | (intro _ _)
      | (intro _)
      | dsimp only
      | split
      | (with_reducible apply Closed.sched hP k_sched)
      | (with_reducible apply Closed.ing hP k_ing)
      | (with_reducible apply Closed.therm hP k_therm)

theorem softRegs_foot (hP : Closed F P) (k_regs : F .regs = true) {s : State} {b : Nat} (h_s : P s) : P (softRegs s b) := by
    unfold softRegs
    try dsimp only
    repeat' first
      | with_reducible assumption
      | with_reducible apply ite_closed
      | (intro _ _)
      | (intro _)
      | dsimp only
      | split
      | (with_reducible apply Closed.regsFilter hP k_regs)

theorem softEff_foot (hP : Closed F P) (k_eff : F .eff = true) {s : State} {b : Nat} (h_s : P s) : P (softEff s b) := by
    unfold softEff
    try dsimp only
    repeat' first
      | with_reducible assumption
      | with_reducible apply ite_closed
      | (intro _ _)
      | (intro _)
      | dsimp only
      | split
      | (with_reducible apply Closed.effFilter hP k_eff)

theorem softResetPage_foot (hP : Closed F P) (k_regs : F .regs = true) (k_eff : F .eff = true) (k_out : F .out = true) (k_sched : F .sched = true) (k_ing : F .ing = true) (k_eng : F .eng = true) (k_heads : F .heads = true) (k_links : F .links = true) (k_audio : F .audio = true) (k_therm : F .therm = true) (k_perf : F .perf = true) {s : State} {b : Nat} (h_s : P s) : P (softResetPage s b) := by
    unfold softResetPage
    try dsimp only
    repeat' first
      | with_reducible assumption
      | with_reducible apply mclkWrite_foot hP k_regs k_out
      | with_reducible apply softLive_foot hP k_regs
      | with_reducible apply softInner_foot hP k_regs k_sched k_ing k_eng k_heads k_links k_audio k_therm k_perf
      | with_reducible apply softEff_foot hP k_eff
      | with_reducible apply softRegs_foot hP k_regs
      | with_reducible apply Closed.setB hP k_regs
      | with_reducible apply ite_closed
      | (intro _ _)
      | (intro _)
      | dsimp only
      | split

theorem execSoftResetComplete_foot (hP : Closed F P) (k_regs : F .regs = true) (k_eff : F .eff = true) (k_out : F .out = true) (k_sched : F .sched = true) (k_ing : F .ing = true) (k_eng : F .eng = true) (k_heads : F .heads = true) (k_links : F .links = true) (k_audio : F .audio = true) (k_therm : F .therm = true) (k_perf : F .perf = true) {page : Nat} {s : State} (h_s : P s) : OutP P (execSoftResetComplete page s) := by
    unfold execSoftResetComplete
    try dsimp only
    repeat' first
      | with_reducible assumption
      | with_reducible apply outP_next
      | with_reducible apply outP_done
      | with_reducible apply softResetPage_foot hP k_regs k_eff k_out k_sched k_ing k_eng k_heads k_links k_audio k_therm k_perf
      | (with_reducible refine foldl_inv P _ (fun _ _ _ => ?_) _ _ ?_)
      | with_reducible apply ite_closed
      | (intro _ _)
      | (intro _)
      | dsimp only
      | split

theorem roleCmd_foot (hP : Closed F P) (k_regs : F .regs = true) (k_out : F .out = true) (k_router : F .router = true) (k_maint : F .maint = true) {s : State} {target : RoleTarget} {v : Word} (h_s : P s) : P (roleCmd s target v) := by
    unfold roleCmd
    try dsimp only
    repeat' first
      | with_reducible assumption
      | with_reducible apply giveRole_foot hP k_regs
      | with_reducible apply refuse_foot hP k_regs k_out k_router k_maint
      | with_reducible apply ite_closed
      | (intro _ _)
      | (intro _)
      | dsimp only
      | split

theorem roleWrite_foot (hP : Closed F P) (k_regs : F .regs = true) (k_out : F .out = true) (k_router : F .router = true) (k_maint : F .maint = true) {s : State} {req : Requester} {target : RoleTarget} {v : Word} (h_s : P s) : P (roleWrite s req target v) := by
    unfold roleWrite
    try dsimp only
    repeat' first
      | with_reducible assumption
      | with_reducible apply gated_foot hP k_regs k_out k_router k_maint
      | with_reducible apply roleCmd_foot hP k_regs k_out k_router k_maint
      | with_reducible apply ite_closed
      | (intro _ _)
      | (intro _)
      | dsimp only
      | split

theorem execRoleWrite_foot (hP : Closed F P) (k_regs : F .regs = true) (k_out : F .out = true) (k_router : F .router = true) (k_maint : F .maint = true) {req : Requester} {target : RoleTarget} {value : Word} {s : State} (h_s : P s) : OutP P (execRoleWrite req target value s) := by
    unfold execRoleWrite
    try dsimp only
    repeat' first
      | with_reducible assumption
      | with_reducible apply outP_next
      | with_reducible apply outP_done
      | with_reducible apply roleWrite_foot hP k_regs k_out k_router k_maint
      | with_reducible apply ite_closed
      | (intro _ _)
      | (intro _)
      | dsimp only
      | split

end Sys2Proof.Machine
end

