-- ==== Sys2Proof/Laws/FootSideband.lean ====
section
/-!
SUPPORT. Footprints of the definitions of Machine/Sideband.lean: which parts of the state each of them may update.
-/
namespace Sys2Proof.Machine

variable {F : Part → Bool} {P : State → Prop}

theorem sbSend_foot (hP : Closed F P) (k_regs : F .regs = true) (k_out : F .out = true) {s : State} {x1 : Nat} {dst : Byte} {src : Byte} {typ : Byte} {payload : List Byte} (h_s : P s) : P (sbSend s x1 dst src typ payload) := by
    unfold sbSend
    try dsimp only
    repeat' first
      | with_reducible assumption
      | with_reducible apply Closed.emit hP k_out
      | with_reducible apply Closed.inc hP k_regs
      | with_reducible apply ite_closed
      | (intro _ _)
      | (intro _)
      | dsimp only
      | split

theorem sbRequest_foot (hP : Closed F P) (k_regs : F .regs = true) (k_out : F .out = true) (k_links : F .links = true) {s : State} {x1 : Nat} {dst : Byte} {typ : Byte} {payload : List Byte} {job : Option Job} (h_s : P s) : P (sbRequest s x1 dst typ payload job) := by
    unfold sbRequest
    try dsimp only
    repeat' first
      | with_reducible assumption
      | with_reducible apply sbSend_foot hP k_regs k_out
      | with_reducible apply putLink_foot hP k_links
      | with_reducible apply ite_closed
      | (intro _ _)
      | (intro _)
      | dsimp only
      | split

theorem execStatusReq_foot (hP : Closed F P) (k_regs : F .regs = true) (k_out : F .out = true) (k_links : F .links = true) {x0 : Fin 4} {g : Fin 12} {s : State} (h_s : P s) : OutP P (execStatusReq x0 g s) := by
    unfold execStatusReq
    try dsimp only
    repeat' first
      | with_reducible assumption
      | with_reducible apply outP_next
      | with_reducible apply outP_done
      | with_reducible apply sbRequest_foot hP k_regs k_out k_links
      | with_reducible apply ite_closed
      | (intro _ _)
      | (intro _)
      | dsimp only
      | split

theorem execCapsReq_foot (hP : Closed F P) (k_regs : F .regs = true) (k_out : F .out = true) (k_links : F .links = true) {x0 : Fin 4} {g : Fin 12} {s : State} (h_s : P s) : OutP P (execCapsReq x0 g s) := by
    unfold execCapsReq
    try dsimp only
    repeat' first
      | with_reducible assumption
      | with_reducible apply outP_next
      | with_reducible apply outP_done
      | with_reducible apply sbRequest_foot hP k_regs k_out k_links
      | with_reducible apply ite_closed
      | (intro _ _)
      | (intro _)
      | dsimp only
      | split

theorem portLost_foot (hP : Closed F P) (k_regs : F .regs = true) (k_out : F .out = true) (k_power : F .power = true) (k_router : F .router = true) (k_maint : F .maint = true) (k_heads : F .heads = true) (k_links : F .links = true) (k_perf : F .perf = true) {s : State} {x1 : Fin 4} {g : Nat} {n : Nat} (h_s : P s) : P (portLost s x1 g n) := by
    unfold portLost
    try dsimp only
    repeat' first
      | with_reducible assumption
      | with_reducible apply laneFail_foot hP k_regs k_out k_power k_router k_maint k_heads k_links k_perf
      | with_reducible apply Closed.setB hP k_regs
      | with_reducible apply ite_closed
      | (intro _ _)
      | (intro _)
      | dsimp only
      | split

theorem reportedErrors_foot (hP : Closed F P) (k_regs : F .regs = true) {s : State} {x1 : Nat} {g : Nat} {b : List Byte} (h_s : P s) : P (reportedErrors s x1 g b) := by
    unfold reportedErrors
    try dsimp only
    repeat' first
      | with_reducible assumption
      | with_reducible apply Closed.incBy hP k_regs
      | with_reducible apply ite_closed
      | (intro _ _)
      | (intro _)
      | dsimp only
      | split

theorem laneReported_foot (hP : Closed F P) (k_regs : F .regs = true) (k_out : F .out = true) (k_power : F .power = true) (k_router : F .router = true) (k_maint : F .maint = true) (k_heads : F .heads = true) (k_links : F .links = true) (k_perf : F .perf = true) {x0 : Fin 4} {s : State} {n : Nat} (h_s : P s) : P (laneReported x0 s n) := by
    unfold laneReported
    try dsimp only
    repeat' first
      | with_reducible assumption
      | with_reducible apply putLane_foot hP k_links
      | with_reducible apply nextPreset_foot hP k_regs k_out k_power k_router k_maint k_heads k_links k_perf
      | with_reducible apply resumeOriented_foot hP k_regs k_links
      | (with_reducible apply fstP_of; with_reducible apply resumeOriented_foot hP k_regs k_links)
      | with_reducible apply laneActive_foot hP k_regs k_out k_power k_router k_maint k_heads k_links k_perf
      | (with_reducible exact fstP_elim (by assumption))
      | with_reducible apply foldl_fst
      | (with_reducible refine foldl_inv P _ (fun _ _ _ => ?_) _ _ ?_)
      | with_reducible apply ite_closed
      | (intro _ _)
      | (intro _)
      | dsimp only
      | split
      | with_reducible apply fstP_mk

theorem statusIn_foot (hP : Closed F P) (k_regs : F .regs = true) (k_out : F .out = true) (k_power : F .power = true) (k_router : F .router = true) (k_maint : F .maint = true) (k_heads : F .heads = true) (k_links : F .links = true) (k_perf : F .perf = true) {s : State} {x1 : Fin 4} {g : Nat} {b : List Byte} (h_s : P s) : P (statusIn s x1 g b) := by
    unfold statusIn
    try dsimp only
    repeat' first
      | with_reducible assumption
      | with_reducible apply putLink_foot hP k_links
      | with_reducible apply reportedErrors_foot hP k_regs
      | with_reducible apply portLost_foot hP k_regs k_out k_power k_router k_maint k_heads k_links k_perf
      | with_reducible apply laneReported_foot hP k_regs k_out k_power k_router k_maint k_heads k_links k_perf
      | (with_reducible refine foldl_inv P _ (fun _ _ _ => ?_) _ _ ?_)
      | with_reducible apply Closed.setB hP k_regs
      | with_reducible apply Closed.inc hP k_regs
      | with_reducible apply Closed.wr hP k_regs
      | with_reducible apply ite_closed
      | (intro _ _)
      | (intro _)
      | dsimp only
      | split

theorem execStatus_foot (hP : Closed F P) (k_regs : F .regs = true) (k_out : F .out = true) (k_power : F .power = true) (k_router : F .router = true) (k_maint : F .maint = true) (k_heads : F .heads = true) (k_links : F .links = true) (k_perf : F .perf = true) {x0 : Fin 4} {g : Fin 12} {payload : List Byte} {s : State} (h_s : P s) : OutP P (execStatus x0 g payload s) := by
    unfold execStatus
    try dsimp only
    repeat' first
      | with_reducible assumption
      | with_reducible apply outP_next
      | with_reducible apply outP_done
      | with_reducible apply statusIn_foot hP k_regs k_out k_power k_router k_maint k_heads k_links k_perf
      | with_reducible apply ite_closed
      | (intro _ _)
      | (intro _)
      | dsimp only
      | split

theorem capsIn_foot (hP : Closed F P) (k_regs : F .regs = true) (k_out : F .out = true) (k_power : F .power = true) (k_router : F .router = true) (k_maint : F .maint = true) (k_heads : F .heads = true) (k_links : F .links = true) (k_perf : F .perf = true) {s : State} {x1 : Fin 4} {g : Nat} {b : List Byte} (h_s : P s) : P (capsIn s x1 g b) := by
    unfold capsIn
    try dsimp only
    repeat' first
      | with_reducible assumption
      | with_reducible apply putLink_foot hP k_links
      | with_reducible apply State.raise_foot hP k_regs k_out k_router k_maint
      | with_reducible apply roundFail_foot hP k_regs k_out k_power k_router k_maint k_heads k_links k_perf
      | (with_reducible refine foldl_inv P _ (fun _ _ _ => ?_) _ _ ?_)
      | with_reducible apply Closed.inc hP k_regs
      | with_reducible apply Closed.wr hP k_regs
      | with_reducible apply ite_closed
      | (intro _ _)
      | (intro _)
      | dsimp only
      | split

theorem execCaps_foot (hP : Closed F P) (k_regs : F .regs = true) (k_out : F .out = true) (k_power : F .power = true) (k_router : F .router = true) (k_maint : F .maint = true) (k_heads : F .heads = true) (k_links : F .links = true) (k_perf : F .perf = true) {x0 : Fin 4} {g : Fin 12} {payload : List Byte} {s : State} (h_s : P s) : OutP P (execCaps x0 g payload s) := by
    unfold execCaps
    try dsimp only
    repeat' first
      | with_reducible assumption
      | with_reducible apply outP_next
      | with_reducible apply outP_done
      | with_reducible apply capsIn_foot hP k_regs k_out k_power k_router k_maint k_heads k_links k_perf
      | with_reducible apply ite_closed
      | (intro _ _)
      | (intro _)
      | dsimp only
      | split

theorem replyTimeout_foot (hP : Closed F P) (k_regs : F .regs = true) (k_out : F .out = true) (k_router : F .router = true) (k_ring : F .ring = true) (k_maint : F .maint = true) (k_links : F .links = true) {s : State} {x1 : Fin 4} {q : SbReq} (h_s : P s) : P (replyTimeout s x1 q) := by
    unfold replyTimeout
    try dsimp only
    repeat' first
      | with_reducible assumption
      | with_reducible apply sbSend_foot hP k_regs k_out
      | with_reducible apply putLink_foot hP k_links
      | with_reducible apply finishJob_foot hP k_regs k_ring
      | with_reducible apply State.raise_foot hP k_regs k_out k_router k_maint
      | with_reducible apply Closed.inc hP k_regs
      | with_reducible apply Closed.setB hP k_regs
      | with_reducible apply ite_closed
      | (intro _ _)
      | (intro _)
      | dsimp only
      | split

theorem execSbReplyTimeout_foot (hP : Closed F P) (k_regs : F .regs = true) (k_out : F .out = true) (k_router : F .router = true) (k_ring : F .ring = true) (k_maint : F .maint = true) (k_links : F .links = true) {x0 : Fin 4} {s : State} (h_s : P s) : OutP P (execSbReplyTimeout x0 s) := by
    unfold execSbReplyTimeout
    try dsimp only
    repeat' first
      | with_reducible assumption
      | with_reducible apply outP_next
      | with_reducible apply outP_done
      | with_reducible apply replyTimeout_foot hP k_regs k_out k_router k_ring k_maint k_links
      | with_reducible apply ite_closed
      | (intro _ _)
      | (intro _)
      | dsimp only
      | split

theorem execSbContention_foot (hP : Closed F P) (k_regs : F .regs = true) (k_out : F .out = true) (k_router : F .router = true) (k_maint : F .maint = true) {x0 : Fin 4} {s : State} (h_s : P s) : OutP P (execSbContention x0 s) := by
    unfold execSbContention
    try dsimp only
    repeat' first
      | with_reducible assumption
      | with_reducible apply outP_next
      | with_reducible apply outP_done
      | with_reducible apply State.raise_foot hP k_regs k_out k_router k_maint
      | with_reducible apply ite_closed
      | (intro _ _)
      | (intro _)
      | dsimp only
      | split

theorem sbDeliver_foot (hP : Closed F P) (k_regs : F .regs = true) (k_out : F .out = true) (k_router : F .router = true) (k_maint : F .maint = true) (k_hbm : F .hbm = true) (k_host : F .host = true) (k_memory : F .memory = true) {s : State} {x1 : Nat} {kind : Nat} {src : Byte} {typ : Byte} {tag : Word} {payload : List Byte} (h_s : P s) : P (sbDeliver s x1 kind src typ tag payload).1 := by
    change FstP P _
    unfold sbDeliver
    try dsimp only
    repeat' first
      | with_reducible assumption
      | (with_reducible refine optP_of (by assumption) ?_)
      | with_reducible exact optP_none
      | with_reducible apply optP_getD
      | with_reducible apply optP_some
      | (intro _ _ _)
      | with_reducible apply ite_closed
      | with_reducible apply ringPush_foot hP k_regs k_out k_router k_maint k_hbm k_host k_memory
      | (with_reducible exact fstP_elim (by assumption))
      | with_reducible apply foldl_fst
      | with_reducible apply Closed.inc hP k_regs
      | with_reducible apply ite_closed
      | (intro _ _)
      | (intro _)
      | dsimp only
      | split
      | with_reducible apply fstP_mk

theorem hostReply_foot (hP : Closed F P) (k_regs : F .regs = true) (k_out : F .out = true) (k_router : F .router = true) (k_ring : F .ring = true) (k_maint : F .maint = true) (k_hbm : F .hbm = true) (k_host : F .host = true) (k_memory : F .memory = true) (k_links : F .links = true) {s : State} {x1 : Nat} {q : SbReq} {src : Byte} {typ : Byte} {payload : List Byte} (h_s : P s) : P (hostReply s x1 q src typ payload) := by
    unfold hostReply
    try dsimp only
    repeat' first
      | with_reducible assumption
      | with_reducible apply sbDeliver_foot hP k_regs k_out k_router k_maint k_hbm k_host k_memory
      | (with_reducible apply fstP_of; with_reducible apply sbDeliver_foot hP k_regs k_out k_router k_maint k_hbm k_host k_memory)
      | with_reducible apply finishJob_foot hP k_regs k_ring
      | with_reducible apply putLink_foot hP k_links
      | (with_reducible exact fstP_elim (by assumption))
      | with_reducible apply foldl_fst
      | with_reducible apply Closed.inc hP k_regs
      | with_reducible apply ite_closed
      | (intro _ _)
      | (intro _)
      | dsimp only
      | split
      | with_reducible apply fstP_mk

theorem sendJob_foot (hP : Closed F P) (k_regs : F .regs = true) (k_out : F .out = true) (k_ring : F .ring = true) (k_links : F .links = true) {s : State} {x1 : Nat} {j : Job} (h_s : P s) : P (sendJob s x1 j) := by
    unfold sendJob
    try dsimp only
    repeat' first
      | with_reducible assumption
      | with_reducible apply finishJob_foot hP k_regs k_ring
      | with_reducible apply sbRequest_foot hP k_regs k_out k_links
      | with_reducible apply sbSend_foot hP k_regs k_out
      | with_reducible apply ite_closed
      | (intro _ _)
      | (intro _)
      | dsimp only
      | split

theorem sbAnswer_foot (hP : Closed F P) (k_regs : F .regs = true) (k_out : F .out = true) (k_freeCount : F .freeCount = true) (k_router : F .router = true) (k_maint : F .maint = true) (k_hbm : F .hbm = true) (k_host : F .host = true) (k_memory : F .memory = true) (k_links : F .links = true) {s : State} {x1 : Fin 4} {g : Nat} {typ : Byte} {payload : List Byte} (h_s : P s) : P (sbAnswer s x1 g typ payload) := by
    unfold sbAnswer
    try dsimp only
    repeat' first
      | with_reducible assumption
      | with_reducible apply sbSend_foot hP k_regs k_out
      | with_reducible apply putLink_foot hP k_links
      | with_reducible apply putLane_foot hP k_links
      | with_reducible apply sbDeliver_foot hP k_regs k_out k_router k_maint k_hbm k_host k_memory
      | (with_reducible apply fstP_of; with_reducible apply sbDeliver_foot hP k_regs k_out k_router k_maint k_hbm k_host k_memory)
      | (with_reducible exact fstP_elim (by assumption))
      | with_reducible apply foldl_fst
      | with_reducible apply Closed.inc hP k_regs
      | with_reducible apply Closed.useFree hP k_freeCount
      | with_reducible apply ite_closed
      | (intro _ _)
      | (intro _)
      | dsimp only
      | split
      | with_reducible apply fstP_mk

theorem execSbRequestReceived_foot (hP : Closed F P) (k_regs : F .regs = true) (k_out : F .out = true) (k_freeCount : F .freeCount = true) (k_router : F .router = true) (k_maint : F .maint = true) (k_hbm : F .hbm = true) (k_host : F .host = true) (k_memory : F .memory = true) (k_links : F .links = true) {x0 : Fin 4} {g : Fin 12} {typ : Byte} {payload : List Byte} {s : State} (h_s : P s) : OutP P (execSbRequestReceived x0 g typ payload s) := by
    unfold execSbRequestReceived
    try dsimp only
    repeat' first
      | with_reducible assumption
      | with_reducible apply outP_next
      | with_reducible apply outP_done
      | with_reducible apply sbAnswer_foot hP k_regs k_out k_freeCount k_router k_maint k_hbm k_host k_memory k_links
      | with_reducible apply ite_closed
      | (intro _ _)
      | (intro _)
      | dsimp only
      | split

theorem sbFrameIn_foot (hP : Closed F P) (k_regs : F .regs = true) (k_out : F .out = true) (k_freeCount : F .freeCount = true) (k_power : F .power = true) (k_router : F .router = true) (k_ring : F .ring = true) (k_maint : F .maint = true) (k_hbm : F .hbm = true) (k_host : F .host = true) (k_memory : F .memory = true) (k_heads : F .heads = true) (k_links : F .links = true) (k_perf : F .perf = true) {s : State} {x1 : Fin 4} {dst : Byte} {src : Byte} {typ : Byte} {payload : List Byte} (h_s : P s) : P (sbFrameIn s x1 dst src typ payload) := by
    unfold sbFrameIn
    try dsimp only
    repeat' first
      | with_reducible assumption
      | with_reducible apply statusIn_foot hP k_regs k_out k_power k_router k_maint k_heads k_links k_perf
      | with_reducible apply capsIn_foot hP k_regs k_out k_power k_router k_maint k_heads k_links k_perf
      | with_reducible apply hostReply_foot hP k_regs k_out k_router k_ring k_maint k_hbm k_host k_memory k_links
      | with_reducible apply sbAnswer_foot hP k_regs k_out k_freeCount k_router k_maint k_hbm k_host k_memory k_links
      | with_reducible apply Closed.inc hP k_regs
      | with_reducible apply ite_closed
      | (intro _ _)
      | (intro _)
      | dsimp only
      | split

theorem execSbFrameReceived_foot (hP : Closed F P) (k_regs : F .regs = true) (k_out : F .out = true) (k_freeCount : F .freeCount = true) (k_power : F .power = true) (k_router : F .router = true) (k_ring : F .ring = true) (k_maint : F .maint = true) (k_hbm : F .hbm = true) (k_host : F .host = true) (k_memory : F .memory = true) (k_heads : F .heads = true) (k_links : F .links = true) (k_perf : F .perf = true) {x0 : Fin 4} {body : List Byte} {s : State} (h_s : P s) : OutP P (execSbFrameReceived x0 body s) := by
    unfold execSbFrameReceived
    try dsimp only
    repeat' first
      | with_reducible assumption
      | with_reducible apply outP_next
      | with_reducible apply outP_done
      | with_reducible apply sbFrameIn_foot hP k_regs k_out k_freeCount k_power k_router k_ring k_maint k_hbm k_host k_memory k_heads k_links k_perf
      | with_reducible apply State.raise_foot hP k_regs k_out k_router k_maint
      | with_reducible apply Closed.inc hP k_regs
      | with_reducible apply ite_closed
      | (intro _ _)
      | (intro _)
      | dsimp only
      | split

end Sys2Proof.Machine
end

