-- ==== Sys2Proof/Laws/FootAccept.lean ====
section
/-!
SUPPORT. Footprints of the definitions of Machine/Accept.lean: which parts of the state each of them may update.
-/
namespace Sys2Proof.Machine

variable {F : Part → Bool} {P : State → Prop}

theorem abortGo_foot (hP : Closed F P) (k_regs : F .regs = true) (k_out : F .out = true) (k_freeCount : F .freeCount = true) (k_router : F .router = true) (k_ring : F .ring = true) (k_maint : F .maint = true) (k_hbm : F .hbm = true) (k_host : F .host = true) (k_memory : F .memory = true) (k_eng : F .eng = true) (k_links : F .links = true) (k_audio : F .audio = true) {s : State} {j : Job} (h_s : P s) : P (abortGo s j) := by
    unfold abortGo
    try dsimp only
    repeat' first
      | with_reducible assumption
      | with_reducible apply finishJob_foot hP k_regs k_ring
      | with_reducible apply abortJob_foot hP k_regs k_out k_freeCount k_router k_ring k_maint k_hbm k_host k_memory k_eng k_links k_audio
      | with_reducible apply ite_closed
      | (intro _ _)
      | (intro _)
      | dsimp only
      | split
      | (with_reducible apply Closed.ring hP k_ring)

theorem runEntry_foot (hP : Closed F P) (k_regs : F .regs = true) (k_out : F .out = true) (k_freeCount : F .freeCount = true) (k_router : F .router = true) (k_ring : F .ring = true) (k_maint : F .maint = true) (k_hbm : F .hbm = true) (k_host : F .host = true) (k_memory : F .memory = true) (k_ing : F .ing = true) (k_eng : F .eng = true) (k_links : F .links = true) (k_audio : F .audio = true) {s : State} {j : Job} {mism : List Nat} {rawFails : Bool} (h_s : P s) : OptP P (runEntry s j mism rawFails) := by
    unfold runEntry
    try dsimp only
    repeat' first
      | with_reducible assumption
      | (with_reducible refine optP_of (by assumption) ?_)
      | with_reducible exact optP_none
      | with_reducible apply optP_getD
      | with_reducible apply optP_some
      | with_reducible apply ite_closed
      | with_reducible apply finishJob_foot hP k_regs k_ring
      | with_reducible apply hostScene_foot hP k_regs k_out k_router k_ring k_maint k_hbm k_memory k_ing
      | with_reducible apply abortGo_foot hP k_regs k_out k_freeCount k_router k_ring k_maint k_hbm k_host k_memory k_eng k_links k_audio
      | with_reducible apply frameReport_foot hP k_regs k_ring
      | with_reducible apply startJob_foot hP k_regs k_out k_freeCount k_router k_ring k_maint k_hbm k_host k_memory k_eng
      | with_reducible apply playAccept_foot hP k_regs k_ring k_audio
      | with_reducible apply sendJob_foot hP k_regs k_out k_ring k_links
      | with_reducible apply ite_closed
      | (intro _ _)
      | (intro _)
      | dsimp only
      | split

theorem noteRing_foot (hP : Closed F P) (k_eng : F .eng = true) {s : State} {r : Nat} (h_s : P s) : P (noteRing s r) := by
    unfold noteRing
    try dsimp only
    repeat' first
      | with_reducible assumption
      | with_reducible apply putEng_foot hP k_eng
      | with_reducible apply ite_closed
      | (intro _ _)
      | (intro _)
      | dsimp only
      | split

theorem acceptEntry_foot (hP : Closed F P) (k_regs : F .regs = true) (k_out : F .out = true) (k_freeCount : F .freeCount = true) (k_router : F .router = true) (k_ring : F .ring = true) (k_maint : F .maint = true) (k_hbm : F .hbm = true) (k_host : F .host = true) (k_memory : F .memory = true) (k_ing : F .ing = true) (k_eng : F .eng = true) (k_links : F .links = true) (k_audio : F .audio = true) {s : State} {r : Nat} {mism : List Nat} {rawFails : Bool} (h_s : P s) : P (acceptEntry s r mism rawFails) := by
    unfold acceptEntry
    try dsimp only
    repeat' first
      | with_reducible assumption
      | (with_reducible refine optP_of (by assumption) ?_)
      | with_reducible exact optP_none
      | with_reducible apply optP_getD
      | with_reducible apply optP_some
      | with_reducible apply acceptHead_foot hP k_regs k_out k_router k_ring k_maint k_memory
      | (with_reducible apply fstP_of; with_reducible apply acceptHead_foot hP k_regs k_out k_router k_ring k_maint k_memory)
      | with_reducible apply noteRing_foot hP k_eng
      | with_reducible apply runEntry_foot hP k_regs k_out k_freeCount k_router k_ring k_maint k_hbm k_host k_memory k_ing k_eng k_links k_audio
      | (with_reducible exact fstP_elim (by assumption))
      | with_reducible apply foldl_fst
      | with_reducible apply elim_closed
      | with_reducible apply ite_closed
      | (intro _ _)
      | (intro _)
      | dsimp only
      | split
      | with_reducible apply fstP_mk

theorem execEntryAccept_foot (hP : Closed F P) (k_regs : F .regs = true) (k_out : F .out = true) (k_freeCount : F .freeCount = true) (k_router : F .router = true) (k_ring : F .ring = true) (k_maint : F .maint = true) (k_hbm : F .hbm = true) (k_host : F .host = true) (k_memory : F .memory = true) (k_ing : F .ing = true) (k_eng : F .eng = true) (k_links : F .links = true) (k_audio : F .audio = true) {ring : Fin 8192} {s : State} (h_s : P s) : OutP P (execEntryAccept ring s) := by
    unfold execEntryAccept
    try dsimp only
    repeat' first
      | with_reducible assumption
      | with_reducible apply outP_next
      | with_reducible apply outP_done
      | with_reducible apply acceptEntry_foot hP k_regs k_out k_freeCount k_router k_ring k_maint k_hbm k_host k_memory k_ing k_eng k_links k_audio
      | with_reducible apply ite_closed
      | (intro _ _)
      | (intro _)
      | dsimp only
      | split

theorem execAbortEntry_foot (hP : Closed F P) (k_regs : F .regs = true) (k_out : F .out = true) (k_freeCount : F .freeCount = true) (k_router : F .router = true) (k_ring : F .ring = true) (k_maint : F .maint = true) (k_hbm : F .hbm = true) (k_host : F .host = true) (k_memory : F .memory = true) (k_ing : F .ing = true) (k_eng : F .eng = true) (k_links : F .links = true) (k_audio : F .audio = true) {ring : Fin 8192} {s : State} (h_s : P s) : OutP P (execAbortEntry ring s) := by
    unfold execAbortEntry
    try dsimp only
    repeat' first
      | with_reducible assumption
      | with_reducible apply outP_next
      | with_reducible apply outP_done
      | with_reducible apply acceptEntry_foot hP k_regs k_out k_freeCount k_router k_ring k_maint k_hbm k_host k_memory k_ing k_eng k_links k_audio
      | with_reducible apply ite_closed
      | (intro _ _)
      | (intro _)
      | dsimp only
      | split

theorem execPacket_foot (hP : Closed F P) (k_regs : F .regs = true) (k_out : F .out = true) (k_freeCount : F .freeCount = true) (k_router : F .router = true) (k_ring : F .ring = true) (k_maint : F .maint = true) (k_hbm : F .hbm = true) (k_host : F .host = true) (k_memory : F .memory = true) (k_ing : F .ing = true) (k_eng : F .eng = true) (k_links : F .links = true) (k_audio : F .audio = true) {ring : Fin 8192} {s : State} (h_s : P s) : OutP P (execPacket ring s) := by
    unfold execPacket
    try dsimp only
    repeat' first
      | with_reducible assumption
      | with_reducible apply outP_next
      | with_reducible apply outP_done
      | with_reducible apply acceptEntry_foot hP k_regs k_out k_freeCount k_router k_ring k_maint k_hbm k_host k_memory k_ing k_eng k_links k_audio
      | with_reducible apply ite_closed
      | (intro _ _)
      | (intro _)
      | dsimp only
      | split

theorem execFrameReport_foot (hP : Closed F P) (k_regs : F .regs = true) (k_out : F .out = true) (k_freeCount : F .freeCount = true) (k_router : F .router = true) (k_ring : F .ring = true) (k_maint : F .maint = true) (k_hbm : F .hbm = true) (k_host : F .host = true) (k_memory : F .memory = true) (k_ing : F .ing = true) (k_eng : F .eng = true) (k_links : F .links = true) (k_audio : F .audio = true) {ring : Fin 8192} {s : State} (h_s : P s) : OutP P (execFrameReport ring s) := by
    unfold execFrameReport
    try dsimp only
    repeat' first
      | with_reducible assumption
      | with_reducible apply outP_next
      | with_reducible apply outP_done
      | with_reducible apply acceptEntry_foot hP k_regs k_out k_freeCount k_router k_ring k_maint k_hbm k_host k_memory k_ing k_eng k_links k_audio
      | with_reducible apply ite_closed
      | (intro _ _)
      | (intro _)
      | dsimp only
      | split

theorem engineEntry_foot (hP : Closed F P) (k_regs : F .regs = true) (k_out : F .out = true) (k_freeCount : F .freeCount = true) (k_router : F .router = true) (k_ring : F .ring = true) (k_maint : F .maint = true) (k_hbm : F .hbm = true) (k_host : F .host = true) (k_memory : F .memory = true) (k_ing : F .ing = true) (k_eng : F .eng = true) (k_links : F .links = true) (k_audio : F .audio = true) {s : State} {eng : Fin 8} {ring : Fin 8192} {op : Nat} {mism : List Nat} {rawFails : Bool} (h_s : P s) : P (engineEntry s eng ring op mism rawFails) := by
    unfold engineEntry
    try dsimp only
    repeat' first
      | with_reducible assumption
      | with_reducible apply acceptEntry_foot hP k_regs k_out k_freeCount k_router k_ring k_maint k_hbm k_host k_memory k_ing k_eng k_links k_audio
      | with_reducible apply ite_closed
      | (intro _ _)
      | (intro _)
      | dsimp only
      | split

theorem execDecompress_foot (hP : Closed F P) (k_regs : F .regs = true) (k_out : F .out = true) (k_freeCount : F .freeCount = true) (k_router : F .router = true) (k_ring : F .ring = true) (k_maint : F .maint = true) (k_hbm : F .hbm = true) (k_host : F .host = true) (k_memory : F .memory = true) (k_ing : F .ing = true) (k_eng : F .eng = true) (k_links : F .links = true) (k_audio : F .audio = true) {engine : Fin 8} {ring : Fin 8192} {s : State} (h_s : P s) : OutP P (execDecompress engine ring s) := by
    unfold execDecompress
    try dsimp only
    repeat' first
      | with_reducible assumption
      | with_reducible apply outP_next
      | with_reducible apply outP_done
      | with_reducible apply engineEntry_foot hP k_regs k_out k_freeCount k_router k_ring k_maint k_hbm k_host k_memory k_ing k_eng k_links k_audio
      | with_reducible apply ite_closed
      | (intro _ _)
      | (intro _)
      | dsimp only
      | split

theorem execCheckJob_foot (hP : Closed F P) (k_regs : F .regs = true) (k_out : F .out = true) (k_freeCount : F .freeCount = true) (k_router : F .router = true) (k_ring : F .ring = true) (k_maint : F .maint = true) (k_hbm : F .hbm = true) (k_host : F .host = true) (k_memory : F .memory = true) (k_ing : F .ing = true) (k_eng : F .eng = true) (k_links : F .links = true) (k_audio : F .audio = true) {engine : Fin 8} {ring : Fin 8192} {s : State} (h_s : P s) : OutP P (execCheckJob engine ring s) := by
    unfold execCheckJob
    try dsimp only
    repeat' first
      | with_reducible assumption
      | with_reducible apply outP_next
      | with_reducible apply outP_done
      | with_reducible apply engineEntry_foot hP k_regs k_out k_freeCount k_router k_ring k_maint k_hbm k_host k_memory k_ing k_eng k_links k_audio
      | with_reducible apply ite_closed
      | (intro _ _)
      | (intro _)
      | dsimp only
      | split

theorem execCompress_foot (hP : Closed F P) (k_regs : F .regs = true) (k_out : F .out = true) (k_freeCount : F .freeCount = true) (k_router : F .router = true) (k_ring : F .ring = true) (k_maint : F .maint = true) (k_hbm : F .hbm = true) (k_host : F .host = true) (k_memory : F .memory = true) (k_ing : F .ing = true) (k_eng : F .eng = true) (k_links : F .links = true) (k_audio : F .audio = true) {engine : Fin 8} {ring : Fin 8192} {mismatches : List Nat} {rawFails : Bool} {s : State} (h_s : P s) : OutP P (execCompress engine ring mismatches rawFails s) := by
    unfold execCompress
    try dsimp only
    repeat' first
      | with_reducible assumption
      | with_reducible apply outP_next
      | with_reducible apply outP_done
      | with_reducible apply engineEntry_foot hP k_regs k_out k_freeCount k_router k_ring k_maint k_hbm k_host k_memory k_ing k_eng k_links k_audio
      | with_reducible apply ite_closed
      | (intro _ _)
      | (intro _)
      | dsimp only
      | split

theorem execPlay_foot (hP : Closed F P) (k_regs : F .regs = true) (k_out : F .out = true) (k_freeCount : F .freeCount = true) (k_router : F .router = true) (k_ring : F .ring = true) (k_maint : F .maint = true) (k_hbm : F .hbm = true) (k_host : F .host = true) (k_memory : F .memory = true) (k_ing : F .ing = true) (k_eng : F .eng = true) (k_links : F .links = true) (k_audio : F .audio = true) {ring : Fin 8192} {s : State} (h_s : P s) : OutP P (execPlay ring s) := by
    unfold execPlay
    try dsimp only
    repeat' first
      | with_reducible assumption
      | with_reducible apply outP_next
      | with_reducible apply outP_done
      | with_reducible apply acceptEntry_foot hP k_regs k_out k_freeCount k_router k_ring k_maint k_hbm k_host k_memory k_ing k_eng k_links k_audio
      | with_reducible apply ite_closed
      | (intro _ _)
      | (intro _)
      | dsimp only
      | split

theorem execSend_foot (hP : Closed F P) (k_regs : F .regs = true) (k_out : F .out = true) (k_freeCount : F .freeCount = true) (k_router : F .router = true) (k_ring : F .ring = true) (k_maint : F .maint = true) (k_hbm : F .hbm = true) (k_host : F .host = true) (k_memory : F .memory = true) (k_ing : F .ing = true) (k_eng : F .eng = true) (k_links : F .links = true) (k_audio : F .audio = true) {ring : Fin 8192} {s : State} (h_s : P s) : OutP P (execSend ring s) := by
    unfold execSend
    try dsimp only
    repeat' first
      | with_reducible assumption
      | with_reducible apply outP_next
      | with_reducible apply outP_done
      | with_reducible apply acceptEntry_foot hP k_regs k_out k_freeCount k_router k_ring k_maint k_hbm k_host k_memory k_ing k_eng k_links k_audio
      | with_reducible apply ite_closed
      | (intro _ _)
      | (intro _)
      | dsimp only
      | split

theorem execJobComplete_foot (hP : Closed F P) (k_regs : F .regs = true) (k_out : F .out = true) (k_router : F .router = true) (k_ring : F .ring = true) (k_maint : F .maint = true) (k_eng : F .eng = true) {engine : Fin 8} {s : State} (h_s : P s) : OutP P (execJobComplete engine s) := by
    unfold execJobComplete
    try dsimp only
    repeat' first
      | with_reducible assumption
      | with_reducible apply outP_next
      | with_reducible apply outP_done
      | with_reducible apply endJob_foot hP k_regs k_out k_router k_ring k_maint k_eng
      | with_reducible apply ite_closed
      | (intro _ _)
      | (intro _)
      | dsimp only
      | split

theorem execJobTimeout_foot (hP : Closed F P) (k_regs : F .regs = true) (k_out : F .out = true) (k_freeCount : F .freeCount = true) (k_router : F .router = true) (k_ring : F .ring = true) (k_maint : F .maint = true) (k_hbm : F .hbm = true) (k_host : F .host = true) (k_memory : F .memory = true) (k_eng : F .eng = true) {engine : Fin 8} {s : State} (h_s : P s) : OutP P (execJobTimeout engine s) := by
    unfold execJobTimeout
    try dsimp only
    repeat' first
      | with_reducible assumption
      | with_reducible apply outP_next
      | with_reducible apply outP_done
      | with_reducible apply stopJob_foot hP k_regs k_out k_freeCount k_router k_ring k_maint k_hbm k_host k_memory k_eng
      | with_reducible apply State.raise_foot hP k_regs k_out k_router k_maint
      | with_reducible apply Closed.inc hP k_regs
      | with_reducible apply ite_closed
      | (intro _ _)
      | (intro _)
      | dsimp only
      | split

end Sys2Proof.Machine
end

