-- ==== Sys2Proof/Laws/FootConnector.lean ====
section
/-!
SUPPORT. Footprints of the definitions of Machine/Connector.lean: which parts of the state each of them may update.
-/
namespace Sys2Proof.Machine

variable {F : Part → Bool} {P : State → Prop}

theorem putPulse_foot (hP : Closed F P) (k_sched : F .sched = true) {s : State} {g : Nat} {e : Option Nat} (h_s : P s) : P (putPulse s g e) := by
    unfold putPulse
    try dsimp only
    repeat' first
      | with_reducible assumption
      | with_reducible apply ite_closed
      | (intro _ _)
      | (intro _)
      | dsimp only
      | split
      | (with_reducible apply Closed.sched hP k_sched)

theorem drivePin_foot (hP : Closed F P) (k_regs : F .regs = true) (k_out : F .out = true) {s : State} {g : Nat} {v : Bool} (h_s : P s) : P (drivePin s g v) := by
    unfold drivePin
    try dsimp only
    repeat' first
      | with_reducible assumption
      | with_reducible apply Closed.emit hP k_out
      | with_reducible apply Closed.setB hP k_regs
      | with_reducible apply ite_closed
      | (intro _ _)
      | (intro _)
      | dsimp only
      | split

theorem setTrig_foot (hP : Closed F P) (k_regs : F .regs = true) (k_out : F .out = true) {s : State} {g : Nat} {v : Bool} (h_s : P s) : P (setTrig s g v) := by
    unfold setTrig
    try dsimp only
    repeat' first
      | with_reducible assumption
      | with_reducible apply drivePin_foot hP k_regs k_out
      | with_reducible apply Closed.setB hP k_regs
      | with_reducible apply ite_closed
      | (intro _ _)
      | (intro _)
      | dsimp only
      | split

theorem gpioEdge_foot (hP : Closed F P) (k_regs : F .regs = true) (k_out : F .out = true) (k_sched : F .sched = true) {s : State} {g : Nat} {edge : Nat} {width : Nat} (h_s : P s) : P (gpioEdge s g edge width) := by
    unfold gpioEdge
    try dsimp only
    repeat' first
      | with_reducible assumption
      | with_reducible apply setTrig_foot hP k_regs k_out
      | with_reducible apply putPulse_foot hP k_sched
      | with_reducible apply ite_closed
      | (intro _ _)
      | (intro _)
      | dsimp only
      | split

theorem execGpioPulseEnd_foot (hP : Closed F P) (k_regs : F .regs = true) (k_out : F .out = true) (k_sched : F .sched = true) {g : Fin 8} {s : State} (h_s : P s) : OutP P (execGpioPulseEnd g s) := by
    unfold execGpioPulseEnd
    try dsimp only
    repeat' first
      | with_reducible assumption
      | with_reducible apply outP_next
      | with_reducible apply outP_done
      | with_reducible apply setTrig_foot hP k_regs k_out
      | with_reducible apply putPulse_foot hP k_sched
      | with_reducible apply ite_closed
      | (intro _ _)
      | (intro _)
      | dsimp only
      | split

theorem auxLevel_foot (hP : Closed F P) (k_regs : F .regs = true) (k_out : F .out = true) (k_sched : F .sched = true) {s : State} {v : Word} (h_s : P s) : P (auxLevel s v) := by
    unfold auxLevel
    try dsimp only
    repeat' first
      | with_reducible assumption
      | with_reducible apply setTrig_foot hP k_regs k_out
      | with_reducible apply putPulse_foot hP k_sched
      | (with_reducible refine foldl_inv P _ (fun _ _ _ => ?_) _ _ ?_)
      | with_reducible apply ite_closed
      | (intro _ _)
      | (intro _)
      | dsimp only
      | split

theorem execAuxLevelWrite_foot (hP : Closed F P) (k_regs : F .regs = true) (k_out : F .out = true) (k_router : F .router = true) (k_sched : F .sched = true) (k_maint : F .maint = true) {req : Requester} {value : Word} {s : State} (h_s : P s) : OutP P (execAuxLevelWrite req value s) := by
    unfold execAuxLevelWrite
    try dsimp only
    repeat' first
      | with_reducible assumption
      | with_reducible apply outP_next
      | with_reducible apply outP_done
      | with_reducible apply gated_foot hP k_regs k_out k_router k_maint
      | with_reducible apply auxLevel_foot hP k_regs k_out k_sched
      | with_reducible apply ite_closed
      | (intro _ _)
      | (intro _)
      | dsimp only
      | split

theorem trigEnable_foot (hP : Closed F P) (k_regs : F .regs = true) (k_out : F .out = true) (k_sched : F .sched = true) {v : Word} {s : State} {g : Nat} (h_s : P s) : P (trigEnable v s g) := by
    unfold trigEnable
    try dsimp only
    repeat' first
      | with_reducible assumption
      | with_reducible apply drivePin_foot hP k_regs k_out
      | with_reducible apply Closed.setB hP k_regs
      | with_reducible apply ite_closed
      | (intro _ _)
      | (intro _)
      | dsimp only
      | split
      | (with_reducible apply Closed.sched hP k_sched)

theorem showRefOut_foot (hP : Closed F P) (k_out : F .out = true) {s : State} {t : State} (h_s : P s) (h_t : P t) : P (showRefOut s t) := by
    unfold showRefOut
    try dsimp only
    repeat' first
      | with_reducible assumption
      | with_reducible apply Closed.emit hP k_out
      | with_reducible apply ite_closed
      | (intro _ _)
      | (intro _)
      | dsimp only
      | split

theorem auxCtrl_foot (hP : Closed F P) (k_regs : F .regs = true) (k_out : F .out = true) (k_sched : F .sched = true) {s : State} {v : Word} (h_s : P s) : P (auxCtrl s v) := by
    unfold auxCtrl
    try dsimp only
    repeat' first
      | with_reducible assumption
      | with_reducible apply showRefOut_foot hP k_out
      | with_reducible apply trigEnable_foot hP k_regs k_out k_sched
      | (with_reducible refine foldl_inv P _ (fun _ _ _ => ?_) _ _ ?_)
      | with_reducible apply Closed.setB hP k_regs
      | with_reducible apply ite_closed
      | (intro _ _)
      | (intro _)
      | dsimp only
      | split

theorem execAuxCtrlWrite_foot (hP : Closed F P) (k_regs : F .regs = true) (k_out : F .out = true) (k_router : F .router = true) (k_sched : F .sched = true) (k_maint : F .maint = true) {req : Requester} {value : Word} {s : State} (h_s : P s) : OutP P (execAuxCtrlWrite req value s) := by
    unfold execAuxCtrlWrite
    try dsimp only
    repeat' first
      | with_reducible assumption
      | with_reducible apply outP_next
      | with_reducible apply outP_done
      | with_reducible apply gated_foot hP k_regs k_out k_router k_maint
      | with_reducible apply auxCtrl_foot hP k_regs k_out k_sched
      | with_reducible apply ite_closed
      | (intro _ _)
      | (intro _)
      | dsimp only
      | split

theorem execTriggerOutputReadback_foot (hP : Closed F P) (k_regs : F .regs = true) (k_sched : F .sched = true) {g : Fin 8} {level : Bool} {s : State} (h_s : P s) : OutP P (execTriggerOutputReadback g level s) := by
    unfold execTriggerOutputReadback
    try dsimp only
    repeat' first
      | with_reducible assumption
      | with_reducible apply outP_next
      | with_reducible apply outP_done
      | with_reducible apply Closed.setB hP k_regs
      | with_reducible apply ite_closed
      | (intro _ _)
      | (intro _)
      | dsimp only
      | split
      | (with_reducible apply Closed.sched hP k_sched)

theorem execTriggerInputEdge_foot (hP : Closed F P) (k_regs : F .regs = true) {g : Fin 8} {rising : Bool} {s : State} (h_s : P s) : OutP P (execTriggerInputEdge g rising s) := by
    unfold execTriggerInputEdge
    try dsimp only
    repeat' first
      | with_reducible assumption
      | with_reducible apply outP_next
      | with_reducible apply outP_done
      | with_reducible apply Closed.setB hP k_regs
      | with_reducible apply Closed.inc hP k_regs
      | with_reducible apply Closed.wr64 hP k_regs
      | with_reducible apply ite_closed
      | (intro _ _)
      | (intro _)
      | dsimp only
      | split

theorem execPpsOutPulse_foot (hP : Closed F P) (k_out : F .out = true) {s : State} (h_s : P s) : OutP P (execPpsOutPulse s) := by
    unfold execPpsOutPulse
    try dsimp only
    repeat' first
      | with_reducible assumption
      | with_reducible apply outP_next
      | with_reducible apply outP_done
      | with_reducible apply Closed.emit hP k_out
      | with_reducible apply ite_closed
      | (intro _ _)
      | (intro _)
      | dsimp only
      | split

theorem execQsfpModuleInserted_foot (hP : Closed F P) (k_regs : F .regs = true) {port : Fin 2} {media : QsfpMedia} {powerClass : Nat} {s : State} (h_s : P s) : OutP P (execQsfpModuleInserted port media powerClass s) := by
    unfold execQsfpModuleInserted
    try dsimp only
    repeat' first
      | with_reducible assumption
      | with_reducible apply outP_next
      | with_reducible apply outP_done
      | with_reducible apply Closed.wr hP k_regs
      | with_reducible apply ite_closed
      | (intro _ _)
      | (intro _)
      | dsimp only
      | split

theorem execQsfpModuleRemoved_foot (hP : Closed F P) (k_regs : F .regs = true) (k_out : F .out = true) (k_power : F .power = true) (k_router : F .router = true) (k_maint : F .maint = true) {port : Fin 2} {s : State} (h_s : P s) : OutP P (execQsfpModuleRemoved port s) := by
    unfold execQsfpModuleRemoved
    try dsimp only
    repeat' first
      | with_reducible assumption
      | with_reducible apply outP_next
      | with_reducible apply outP_done
      | with_reducible apply linkDown_foot hP k_regs k_out k_power k_router k_maint
      | with_reducible apply Closed.setF hP k_regs
      | with_reducible apply ite_closed
      | (intro _ _)
      | (intro _)
      | dsimp only
      | split

end Sys2Proof.Machine
end

