-- ==== Sys2Proof/Laws/FootClock.lean ====
section
/-!
SUPPORT. Footprints of the definitions of Machine/Clock.lean: which parts of the state each of them may update.
-/
namespace Sys2Proof.Machine

variable {F : Part → Bool} {P : State → Prop}

theorem showSlew_foot (hP : Closed F P) (k_regs : F .regs = true) {s : State} (h_s : P s) : P (showSlew s) := by
    unfold showSlew
    try dsimp only
    repeat' first
      | with_reducible assumption
      | with_reducible apply Closed.wr64 hP k_regs
      | with_reducible apply Closed.setB hP k_regs
      | with_reducible apply ite_closed
      | (intro _ _)
      | (intro _)
      | dsimp only
      | split

theorem timeTick_foot (hP : Closed F P) (k_clock : F .clock = true) {s : State} {incr : Nat} (h_s : P s) : P (timeTick s incr) := by
    unfold timeTick
    try dsimp only
    repeat' first
      | with_reducible assumption
      | with_reducible apply ite_closed
      | (intro _ _)
      | (intro _)
      | dsimp only
      | split
      | (with_reducible refine Closed.clock hP k_clock _ _ ?_)

theorem startSlew_foot (hP : Closed F P) (k_regs : F .regs = true) (k_servo : F .servo = true) {s : State} {c : Int} {fast : Bool} (h_s : P s) : P (startSlew s c fast) := by
    unfold startSlew
    try dsimp only
    repeat' first
      | with_reducible assumption
      | with_reducible apply showSlew_foot hP k_regs
      | with_reducible apply Closed.setB hP k_regs
      | with_reducible apply ite_closed
      | (intro _ _)
      | (intro _)
      | dsimp only
      | split
      | (with_reducible apply Closed.servo hP k_servo)

theorem nextSlew_foot (hP : Closed F P) (k_regs : F .regs = true) (k_servo : F .servo = true) {s : State} (h_s : P s) : P (nextSlew s) := by
    unfold nextSlew
    try dsimp only
    repeat' first
      | with_reducible assumption
      | with_reducible apply startSlew_foot hP k_regs k_servo
      | with_reducible apply ite_closed
      | (intro _ _)
      | (intro _)
      | dsimp only
      | split
      | (with_reducible apply Closed.servo hP k_servo)

theorem tick_foot (hP : Closed F P) (k_regs : F .regs = true) (k_out : F .out = true) (k_clock : F .clock = true) (k_servo : F .servo = true) (k_router : F .router = true) (k_maint : F .maint = true) {s : State} (h_s : P s) : P (tick s) := by
    unfold tick
    try dsimp only
    repeat' first
      | with_reducible assumption
      | with_reducible apply timeTick_foot hP k_clock
      | with_reducible apply showSlew_foot hP k_regs
      | with_reducible apply nextSlew_foot hP k_regs k_servo
      | with_reducible apply State.raise_foot hP k_regs k_out k_router k_maint
      | with_reducible apply ite_closed
      | (intro _ _)
      | (intro _)
      | dsimp only
      | split
      | (with_reducible apply Closed.servo hP k_servo)

end Sys2Proof.Machine
end

