-- ==== Sys2Proof/Laws/FootMemory.lean ====
section
/-!
SUPPORT. Footprints of the definitions of Machine/Memory.lean: which parts of the state each of them may update.
-/
namespace Sys2Proof.Machine

variable {F : Part → Bool} {P : State → Prop}

theorem setPc_foot (hP : Closed F P) (k_regs : F .regs = true) {s : State} {p : Nat} {st : Nat} {l : Nat} (h_s : P s) : P (setPc s p st l) := by
    unfold setPc
    try dsimp only
    repeat' first
      | with_reducible assumption
      | with_reducible apply Closed.setF hP k_regs
      | with_reducible apply ite_closed
      | (intro _ _)
      | (intro _)
      | dsimp only
      | split

theorem showSpares_foot (hP : Closed F P) (k_regs : F .regs = true) {s : State} (h_s : P s) : P (showSpares s) := by
    unfold showSpares
    try dsimp only
    repeat' first
      | with_reducible assumption
      | with_reducible apply Closed.setF hP k_regs
      | with_reducible apply Closed.setB hP k_regs
      | with_reducible apply ite_closed
      | (intro _ _)
      | (intro _)
      | dsimp only
      | split

theorem holdEval_foot (hP : Closed F P) (k_regs : F .regs = true) (k_memory : F .memory = true) {s : State} (h_s : P s) : P (holdEval s) := by
    unfold holdEval
    try dsimp only
    repeat' first
      | with_reducible assumption
      | with_reducible apply Closed.setB hP k_regs
      | with_reducible apply ite_closed
      | (intro _ _)
      | (intro _)
      | dsimp only
      | split
      | (with_reducible apply Closed.memory hP k_memory)

theorem ageOne_foot (hP : Closed F P) (k_regs : F .regs = true) (k_out : F .out = true) (k_router : F .router = true) (k_maint : F .maint = true) (k_memory : F .memory = true) {s : State} {w : MemWait} (h_s : P s) : P (ageOne s w) := by
    unfold ageOne
    try dsimp only
    repeat' first
      | with_reducible assumption
      | with_reducible apply State.raise_foot hP k_regs k_out k_router k_maint
      | with_reducible apply Closed.inc hP k_regs
      | with_reducible apply ite_closed
      | (intro _ _)
      | (intro _)
      | dsimp only
      | split
      | (with_reducible apply Closed.memory hP k_memory)

theorem ageIf_foot (hP : Closed F P) (k_regs : F .regs = true) (k_out : F .out = true) (k_router : F .router = true) (k_maint : F .maint = true) (k_memory : F .memory = true) {s : State} {c : MemWait → Bool} (h_s : P s) : P (ageIf s c) := by
    unfold ageIf
    try dsimp only
    repeat' first
      | with_reducible assumption
      | with_reducible apply ageOne_foot hP k_regs k_out k_router k_maint k_memory
      | (with_reducible refine foldl_inv P _ (fun _ _ _ => ?_) _ _ ?_)
      | with_reducible apply ite_closed
      | (intro _ _)
      | (intro _)
      | dsimp only
      | split
      | (with_reducible apply Closed.memory hP k_memory)

theorem execPowerDownEntry_foot (hP : Closed F P) (k_regs : F .regs = true) {s : State} (h_s : P s) : OutP P (execPowerDownEntry s) := by
    unfold execPowerDownEntry
    try dsimp only
    repeat' first
      | with_reducible assumption
      | with_reducible apply outP_next
      | with_reducible apply outP_done
      | with_reducible apply setSleep_foot hP k_regs
      | with_reducible apply ite_closed
      | (intro _ _)
      | (intro _)
      | dsimp only
      | split

theorem execSelfRefreshEntry_foot (hP : Closed F P) (k_regs : F .regs = true) (k_memory : F .memory = true) {s : State} (h_s : P s) : OutP P (execSelfRefreshEntry s) := by
    unfold execSelfRefreshEntry
    try dsimp only
    repeat' first
      | with_reducible assumption
      | with_reducible apply outP_next
      | with_reducible apply outP_done
      | with_reducible apply setSleep_foot hP k_regs
      | with_reducible apply Closed.inc hP k_regs
      | with_reducible apply ite_closed
      | (intro _ _)
      | (intro _)
      | dsimp only
      | split
      | (with_reducible apply Closed.memory hP k_memory)

theorem sleepOut_foot (hP : Closed F P) (k_regs : F .regs = true) (k_memory : F .memory = true) {s : State} {req : Bool} (h_s : P s) : P (sleepOut s req) := by
    unfold sleepOut
    try dsimp only
    repeat' first
      | with_reducible assumption
      | with_reducible apply setSleep_foot hP k_regs
      | with_reducible apply Closed.inc hP k_regs
      | with_reducible apply ite_closed
      | (intro _ _)
      | (intro _)
      | dsimp only
      | split
      | (with_reducible apply Closed.memory hP k_memory)

theorem execSleepExit_foot (hP : Closed F P) (k_regs : F .regs = true) (k_memory : F .memory = true) {req : Bool} {s : State} (h_s : P s) : OutP P (execSleepExit req s) := by
    unfold execSleepExit
    try dsimp only
    repeat' first
      | with_reducible assumption
      | with_reducible apply outP_next
      | with_reducible apply outP_done
      | with_reducible apply sleepOut_foot hP k_regs k_memory
      | with_reducible apply ite_closed
      | (intro _ _)
      | (intro _)
      | dsimp only
      | split

theorem execSleepExitComplete_foot (hP : Closed F P) (k_regs : F .regs = true) (k_memory : F .memory = true) {s : State} (h_s : P s) : OutP P (execSleepExitComplete s) := by
    unfold execSleepExitComplete
    try dsimp only
    repeat' first
      | with_reducible assumption
      | with_reducible apply outP_next
      | with_reducible apply outP_done
      | with_reducible apply setSleep_foot hP k_regs
      | with_reducible apply ite_closed
      | (intro _ _)
      | (intro _)
      | dsimp only
      | split
      | (with_reducible apply Closed.memory hP k_memory)

theorem memArrive_foot (hP : Closed F P) (k_regs : F .regs = true) (k_memory : F .memory = true) {s : State} {p : Nat} {r : MemReq} (h_s : P s) : P (memArrive s p r) := by
    unfold memArrive
    try dsimp only
    repeat' first
      | with_reducible assumption
      | with_reducible apply sleepOut_foot hP k_regs k_memory
      | with_reducible apply ite_closed
      | (intro _ _)
      | (intro _)
      | dsimp only
      | split
      | (with_reducible apply Closed.memory hP k_memory)

theorem remapQueue_foot (hP : Closed F P) (k_memory : F .memory = true) {s : State} (h_s : P s) : P (remapQueue s) := by
    unfold remapQueue
    try dsimp only
    repeat' first
      | with_reducible assumption
      | with_reducible apply ite_closed
      | (intro _ _)
      | (intro _)
      | dsimp only
      | split
      | (with_reducible apply Closed.memory hP k_memory)

theorem memServe_foot (hP : Closed F P) (k_regs : F .regs = true) (k_out : F .out = true) (k_router : F .router = true) (k_maint : F .maint = true) (k_hbm : F .hbm = true) (k_memory : F .memory = true) {s : State} {w : MemWait} (h_s : P s) : P (memServe s w) := by
    unfold memServe
    try dsimp only
    repeat' first
      | with_reducible assumption
      | with_reducible apply hbmWrite_foot hP k_regs k_out k_router k_maint k_hbm k_memory
      | with_reducible apply touch_foot hP k_regs k_out k_router k_maint k_memory
      | with_reducible apply ite_closed
      | (intro _ _)
      | (intro _)
      | dsimp only
      | split
      | (with_reducible apply Closed.memory hP k_memory)

theorem execMemoryRequest_foot (hP : Closed F P) (k_regs : F .regs = true) (k_out : F .out = true) (k_router : F .router = true) (k_maint : F .maint = true) (k_hbm : F .hbm = true) (k_memory : F .memory = true) {pc : Fin 64} {arrive : Option MemReq} {s : State} (h_s : P s) : OutP P (execMemoryRequest pc arrive s) := by
    unfold execMemoryRequest
    try dsimp only
    repeat' first
      | with_reducible assumption
      | with_reducible apply outP_next
      | with_reducible apply outP_done
      | with_reducible apply memArrive_foot hP k_regs k_memory
      | with_reducible apply holdEval_foot hP k_regs k_memory
      | with_reducible apply ageIf_foot hP k_regs k_out k_router k_maint k_memory
      | with_reducible apply memServe_foot hP k_regs k_out k_router k_maint k_hbm k_memory
      | with_reducible apply ite_closed
      | (intro _ _)
      | (intro _)
      | dsimp only
      | split

theorem execRequestAged_foot (hP : Closed F P) (k_regs : F .regs = true) (k_out : F .out = true) (k_router : F .router = true) (k_maint : F .maint = true) (k_memory : F .memory = true) {seq : Nat} {s : State} (h_s : P s) : OutP P (execRequestAged seq s) := by
    unfold execRequestAged
    try dsimp only
    repeat' first
      | with_reducible assumption
      | with_reducible apply outP_next
      | with_reducible apply outP_done
      | with_reducible apply holdEval_foot hP k_regs k_memory
      | with_reducible apply ageIf_foot hP k_regs k_out k_router k_maint k_memory
      | with_reducible apply ite_closed
      | (intro _ _)
      | (intro _)
      | dsimp only
      | split

theorem execCeilingHoldTimeout_foot (hP : Closed F P) (k_regs : F .regs = true) (k_out : F .out = true) (k_router : F .router = true) (k_maint : F .maint = true) (k_memory : F .memory = true) {s : State} (h_s : P s) : OutP P (execCeilingHoldTimeout s) := by
    unfold execCeilingHoldTimeout
    try dsimp only
    repeat' first
      | with_reducible assumption
      | with_reducible apply outP_next
      | with_reducible apply outP_done
      | with_reducible apply holdEval_foot hP k_regs k_memory
      | with_reducible apply State.raise_foot hP k_regs k_out k_router k_maint
      | with_reducible apply ite_closed
      | (intro _ _)
      | (intro _)
      | dsimp only
      | split
      | (with_reducible apply Closed.memory hP k_memory)

theorem copyRow_foot (hP : Closed F P) (k_regs : F .regs = true) (k_out : F .out = true) (k_router : F .router = true) (k_maint : F .maint = true) (k_memory : F .memory = true) {m : Mig} {s : State} {j : Nat} (h_s : P s) : P (copyRow m s j) := by
    unfold copyRow
    try dsimp only
    repeat' first
      | with_reducible assumption
      | with_reducible apply issueAt_foot hP k_regs k_out k_router k_maint k_memory
      | with_reducible apply ite_closed
      | (intro _ _)
      | (intro _)
      | dsimp only
      | split

theorem copyRows_foot (hP : Closed F P) (k_regs : F .regs = true) (k_out : F .out = true) (k_router : F .router = true) (k_maint : F .maint = true) (k_memory : F .memory = true) {s : State} {m : Mig} {n : Nat} (h_s : P s) : P (copyRows s m n) := by
    unfold copyRows
    try dsimp only
    repeat' first
      | with_reducible assumption
      | with_reducible apply xfer_foot hP k_regs k_out k_router k_maint k_memory
      | with_reducible apply perfHit_foot hP k_regs k_out k_router k_maint
      | with_reducible apply copyRow_foot hP k_regs k_out k_router k_maint k_memory
      | with_reducible apply touchBlock_foot hP k_regs k_out k_router k_maint k_memory
      | (with_reducible refine foldl_inv P _ (fun _ _ _ => ?_) _ _ ?_)
      | with_reducible apply Closed.inc48 hP k_regs
      | with_reducible apply ite_closed
      | (intro _ _)
      | (intro _)
      | dsimp only
      | split
      | (with_reducible apply Closed.memory hP k_memory)

theorem migLook_foot (hP : Closed F P) (k_regs : F .regs = true) (k_out : F .out = true) (k_freeCount : F .freeCount = true) (k_router : F .router = true) (k_maint : F .maint = true) (k_memory : F .memory = true) {s : State} (h_s : P s) : P (migLook s) := by
    unfold migLook
    try dsimp only
    repeat' first
      | with_reducible assumption
      | with_reducible apply copyRows_foot hP k_regs k_out k_router k_maint k_memory
      | with_reducible apply Closed.useFree hP k_freeCount
      | with_reducible apply ite_closed
      | (intro _ _)
      | (intro _)
      | dsimp only
      | split

theorem memLook_foot (hP : Closed F P) (k_regs : F .regs = true) (k_out : F .out = true) (k_freeCount : F .freeCount = true) (k_router : F .router = true) (k_maint : F .maint = true) (k_memory : F .memory = true) {s : State} (h_s : P s) : P (memLook s) := by
    unfold memLook
    try dsimp only
    repeat' first
      | with_reducible assumption
      | with_reducible apply holdEval_foot hP k_regs k_memory
      | with_reducible apply migLook_foot hP k_regs k_out k_freeCount k_router k_maint k_memory
      | with_reducible apply ite_closed
      | (intro _ _)
      | (intro _)
      | dsimp only
      | split

theorem execRefreshWindow_foot (hP : Closed F P) (k_regs : F .regs = true) (k_out : F .out = true) (k_freeCount : F .freeCount = true) (k_router : F .router = true) (k_maint : F .maint = true) (k_memory : F .memory = true) {s : State} (h_s : P s) : OutP P (execRefreshWindow s) := by
    unfold execRefreshWindow
    try dsimp only
    repeat' first
      | with_reducible assumption
      | with_reducible apply outP_next
      | with_reducible apply outP_done
      | with_reducible apply migLook_foot hP k_regs k_out k_freeCount k_router k_maint k_memory
      | with_reducible apply ite_closed
      | (intro _ _)
      | (intro _)
      | dsimp only
      | split
      | (with_reducible apply Closed.memory hP k_memory)

theorem setMig_foot (hP : Closed F P) (k_memory : F .memory = true) {s : State} {m : Option Mig} {due : List Mig} (h_s : P s) : P (setMig s m due) := by
    unfold setMig
    try dsimp only
    repeat' first
      | with_reducible assumption
      | with_reducible apply ite_closed
      | (intro _ _)
      | (intro _)
      | dsimp only
      | split
      | (with_reducible apply Closed.memory hP k_memory)

theorem runMig_foot (hP : Closed F P) (k_regs : F .regs = true) (k_memory : F .memory = true) {s : State} {m : Mig} {due : List Mig} (h_s : P s) : P (runMig s m due) := by
    unfold runMig
    try dsimp only
    repeat' first
      | with_reducible assumption
      | with_reducible apply memWake_foot hP k_regs k_memory
      | with_reducible apply setMig_foot hP k_memory
      | with_reducible apply setPc_foot hP k_regs
      | with_reducible apply showSpares_foot hP k_regs
      | with_reducible apply Closed.setF hP k_regs
      | with_reducible apply Closed.wr hP k_regs
      | with_reducible apply ite_closed
      | (intro _ _)
      | (intro _)
      | dsimp only
      | split

theorem oneLost_foot (hP : Closed F P) (k_regs : F .regs = true) (k_memory : F .memory = true) {s : State} (h_s : P s) : P (oneLost s) := by
    unfold oneLost
    try dsimp only
    repeat' first
      | with_reducible assumption
      | with_reducible apply Closed.setF hP k_regs
      | with_reducible apply ite_closed
      | (intro _ _)
      | (intro _)
      | dsimp only
      | split
      | (with_reducible apply Closed.memory hP k_memory)

theorem dropAbove_foot (hP : Closed F P) (k_hbm : F .hbm = true) {s : State} {top : Nat} (h_s : P s) : P (dropAbove s top) := by
    unfold dropAbove
    try dsimp only
    repeat' first
      | with_reducible assumption
      | with_reducible apply ite_closed
      | (intro _ _)
      | (intro _)
      | dsimp only
      | split
      | (with_reducible apply Closed.hbmSet hP k_hbm)
      | (with_reducible apply Closed.hbmFilter hP k_hbm)

theorem shrinkTop_foot (hP : Closed F P) (k_regs : F .regs = true) (k_out : F .out = true) (k_router : F .router = true) (k_maint : F .maint = true) (k_hbm : F .hbm = true) (k_memory : F .memory = true) {s : State} (h_s : P s) : P (shrinkTop s) := by
    unfold shrinkTop
    try dsimp only
    repeat' first
      | with_reducible assumption
      | with_reducible apply oneLost_foot hP k_regs k_memory
      | with_reducible apply dropAbove_foot hP k_hbm
      | with_reducible apply State.raise_foot hP k_regs k_out k_router k_maint
      | with_reducible apply Closed.wr64 hP k_regs
      | with_reducible apply ite_closed
      | (intro _ _)
      | (intro _)
      | dsimp only
      | split
      | (with_reducible apply Closed.memory hP k_memory)

theorem startNext_foot (hP : Closed F P) (k_regs : F .regs = true) (k_out : F .out = true) (k_router : F .router = true) (k_maint : F .maint = true) (k_hbm : F .hbm = true) (k_memory : F .memory = true) (x0 : Nat) {x1 : State} (h_x1 : P x1) : P (startNext x0 x1) := by
  induction x0 generalizing x1 with
  | zero =>
    unfold startNext
    try dsimp only
    repeat' first
      | with_reducible assumption
      | with_reducible apply showSpares_foot hP k_regs
      | with_reducible apply runMig_foot hP k_regs k_memory
      | with_reducible apply setMig_foot hP k_memory
      | with_reducible apply State.raise_foot hP k_regs k_out k_router k_maint
      | with_reducible apply shrinkTop_foot hP k_regs k_out k_router k_maint k_hbm k_memory
      | with_reducible apply ite_closed
      | (intro _ _)
      | (intro _)
      | dsimp only
      | split
      | (with_reducible apply Closed.memory hP k_memory)
  | succ n_ ih =>
    unfold startNext
    try dsimp only
    repeat' first
      | with_reducible assumption
      | with_reducible apply ih
      | with_reducible apply showSpares_foot hP k_regs
      | with_reducible apply runMig_foot hP k_regs k_memory
      | with_reducible apply setMig_foot hP k_memory
      | with_reducible apply State.raise_foot hP k_regs k_out k_router k_maint
      | with_reducible apply shrinkTop_foot hP k_regs k_out k_router k_maint k_hbm k_memory
      | with_reducible apply ite_closed
      | (intro _ _)
      | (intro _)
      | dsimp only
      | split
      | (with_reducible apply Closed.memory hP k_memory)

theorem migNext_foot (hP : Closed F P) (k_regs : F .regs = true) (k_out : F .out = true) (k_router : F .router = true) (k_maint : F .maint = true) (k_hbm : F .hbm = true) (k_memory : F .memory = true) {s : State} (h_s : P s) : P (migNext s) := by
    unfold migNext
    try dsimp only
    repeat' first
      | with_reducible assumption
      | with_reducible apply startNext_foot hP k_regs k_out k_router k_maint k_hbm k_memory
      | with_reducible apply ite_closed
      | (intro _ _)
      | (intro _)
      | dsimp only
      | split

theorem abandonMig_foot (hP : Closed F P) (k_regs : F .regs = true) (k_memory : F .memory = true) {s : State} (h_s : P s) : P (abandonMig s) := by
    unfold abandonMig
    try dsimp only
    repeat' first
      | with_reducible assumption
      | with_reducible apply setMig_foot hP k_memory
      | with_reducible apply setPc_foot hP k_regs
      | with_reducible apply Closed.setF hP k_regs
      | with_reducible apply ite_closed
      | (intro _ _)
      | (intro _)
      | dsimp only
      | split

theorem migDue_foot (hP : Closed F P) (k_regs : F .regs = true) (k_out : F .out = true) (k_router : F .router = true) (k_maint : F .maint = true) (k_hbm : F .hbm = true) (k_memory : F .memory = true) {s : State} {p : Nat} {reason : Nat} {retire : Bool} (h_s : P s) : P (migDue s p reason retire) := by
    unfold migDue
    try dsimp only
    repeat' first
      | with_reducible assumption
      | with_reducible apply setMig_foot hP k_memory
      | with_reducible apply abandonMig_foot hP k_regs k_memory
      | with_reducible apply migNext_foot hP k_regs k_out k_router k_maint k_hbm k_memory
      | with_reducible apply Closed.setF hP k_regs
      | with_reducible apply ite_closed
      | (intro _ _)
      | (intro _)
      | dsimp only
      | split
      | (with_reducible apply Closed.memory hP k_memory)

theorem execMigrationStart_foot (hP : Closed F P) (k_regs : F .regs = true) (k_out : F .out = true) (k_router : F .router = true) (k_maint : F .maint = true) (k_hbm : F .hbm = true) (k_memory : F .memory = true) {pc : Fin 64} {reason : MigReason} {s : State} (h_s : P s) : OutP P (execMigrationStart pc reason s) := by
    unfold execMigrationStart
    try dsimp only
    repeat' first
      | with_reducible assumption
      | with_reducible apply outP_next
      | with_reducible apply outP_done
      | with_reducible apply migDue_foot hP k_regs k_out k_router k_maint k_hbm k_memory
      | with_reducible apply migNext_foot hP k_regs k_out k_router k_maint k_hbm k_memory
      | with_reducible apply ite_closed
      | (intro _ _)
      | (intro _)
      | dsimp only
      | split

theorem execMigrationComplete_foot (hP : Closed F P) (k_regs : F .regs = true) (k_out : F .out = true) (k_router : F .router = true) (k_maint : F .maint = true) (k_hbm : F .hbm = true) (k_memory : F .memory = true) {s : State} (h_s : P s) : OutP P (execMigrationComplete s) := by
    unfold execMigrationComplete
    try dsimp only
    repeat' first
      | with_reducible assumption
      | with_reducible apply outP_next
      | with_reducible apply outP_done
      | with_reducible apply setMig_foot hP k_memory
      | with_reducible apply copyRows_foot hP k_regs k_out k_router k_maint k_memory
      | with_reducible apply setPc_foot hP k_regs
      | with_reducible apply remapQueue_foot hP k_memory
      | with_reducible apply State.raise_foot hP k_regs k_out k_router k_maint
      | with_reducible apply migNext_foot hP k_regs k_out k_router k_maint k_hbm k_memory
      | with_reducible apply Closed.setB hP k_regs
      | with_reducible apply Closed.setF hP k_regs
      | with_reducible apply Closed.inc hP k_regs
      | with_reducible apply ite_closed
      | (intro _ _)
      | (intro _)
      | dsimp only
      | split
      | (with_reducible apply Closed.memory hP k_memory)

theorem retirePc_foot (hP : Closed F P) (k_regs : F .regs = true) (k_memory : F .memory = true) {s : State} {p : Nat} {flash : Bool} (h_s : P s) : P (retirePc s p flash) := by
    unfold retirePc
    try dsimp only
    repeat' first
      | with_reducible assumption
      | with_reducible apply setPc_foot hP k_regs
      | with_reducible apply Closed.setB hP k_regs
      | with_reducible apply ite_closed
      | (intro _ _)
      | (intro _)
      | dsimp only
      | split
      | (with_reducible apply Closed.memory hP k_memory)

theorem execOfflineRetrainComplete_foot (hP : Closed F P) (k_regs : F .regs = true) (k_out : F .out = true) (k_power : F .power = true) (k_router : F .router = true) (k_maint : F .maint = true) (k_hbm : F .hbm = true) (k_memory : F .memory = true) {pc : Fin 64} {ok : Bool} {s : State} (h_s : P s) : OutP P (execOfflineRetrainComplete pc ok s) := by
    unfold execOfflineRetrainComplete
    try dsimp only
    repeat' first
      | with_reducible assumption
      | with_reducible apply outP_next
      | with_reducible apply outP_done
      | with_reducible apply setPc_foot hP k_regs
      | with_reducible apply migNext_foot hP k_regs k_out k_router k_maint k_hbm k_memory
      | with_reducible apply State.raise_foot hP k_regs k_out k_router k_maint
      | with_reducible apply showSpares_foot hP k_regs
      | with_reducible apply retirePc_foot hP k_regs k_memory
      | with_reducible apply spareLow_foot hP k_regs k_out k_power k_router k_maint
      | with_reducible apply Closed.setF hP k_regs
      | with_reducible apply ite_closed
      | (intro _ _)
      | (intro _)
      | dsimp only
      | split
      | (with_reducible apply Closed.memory hP k_memory)

theorem memCommand_foot (hP : Closed F P) (k_regs : F .regs = true) (k_out : F .out = true) (k_router : F .router = true) (k_maint : F .maint = true) (k_hbm : F .hbm = true) (k_memory : F .memory = true) {s : State} {r : Requester} {p : Nat} {retire : Bool} (h_s : P s) : P (memCommand s r p retire) := by
    unfold memCommand
    try dsimp only
    repeat' first
      | with_reducible assumption
      | with_reducible apply gatedIf_foot hP k_regs k_out k_router k_maint
      | with_reducible apply migDue_foot hP k_regs k_out k_router k_maint k_hbm k_memory
      | with_reducible apply ite_closed
      | (intro _ _)
      | (intro _)
      | dsimp only
      | split

theorem execMemCmdRetrain_foot (hP : Closed F P) (k_regs : F .regs = true) (k_out : F .out = true) (k_router : F .router = true) (k_maint : F .maint = true) (k_hbm : F .hbm = true) (k_memory : F .memory = true) {req : Requester} {pc : Fin 64} {s : State} (h_s : P s) : OutP P (execMemCmdRetrain req pc s) := by
    unfold execMemCmdRetrain
    try dsimp only
    repeat' first
      | with_reducible assumption
      | with_reducible apply outP_next
      | with_reducible apply outP_done
      | with_reducible apply memCommand_foot hP k_regs k_out k_router k_maint k_hbm k_memory
      | with_reducible apply ite_closed
      | (intro _ _)
      | (intro _)
      | dsimp only
      | split

theorem execMemCmdRetire_foot (hP : Closed F P) (k_regs : F .regs = true) (k_out : F .out = true) (k_router : F .router = true) (k_maint : F .maint = true) (k_hbm : F .hbm = true) (k_memory : F .memory = true) {req : Requester} {pc : Fin 64} {s : State} (h_s : P s) : OutP P (execMemCmdRetire req pc s) := by
    unfold execMemCmdRetire
    try dsimp only
    repeat' first
      | with_reducible assumption
      | with_reducible apply outP_next
      | with_reducible apply outP_done
      | with_reducible apply memCommand_foot hP k_regs k_out k_router k_maint k_hbm k_memory
      | with_reducible apply ite_closed
      | (intro _ _)
      | (intro _)
      | dsimp only
      | split

theorem ackShrink_foot (hP : Closed F P) (k_regs : F .regs = true) (k_out : F .out = true) (k_router : F .router = true) (k_maint : F .maint = true) (k_hbm : F .hbm = true) (k_memory : F .memory = true) {s : State} (h_s : P s) : P (ackShrink s) := by
    unfold ackShrink
    try dsimp only
    repeat' first
      | with_reducible assumption
      | with_reducible apply shrinkTop_foot hP k_regs k_out k_router k_maint k_hbm k_memory
      | with_reducible apply migNext_foot hP k_regs k_out k_router k_maint k_hbm k_memory
      | with_reducible apply setMig_foot hP k_memory
      | with_reducible apply ite_closed
      | (intro _ _)
      | (intro _)
      | dsimp only
      | split
      | (with_reducible apply Closed.memory hP k_memory)

theorem execShrinkAck_foot (hP : Closed F P) (k_regs : F .regs = true) (k_out : F .out = true) (k_router : F .router = true) (k_maint : F .maint = true) (k_hbm : F .hbm = true) (k_memory : F .memory = true) {req : Requester} {s : State} (h_s : P s) : OutP P (execShrinkAck req s) := by
    unfold execShrinkAck
    try dsimp only
    repeat' first
      | with_reducible assumption
      | with_reducible apply outP_next
      | with_reducible apply outP_done
      | with_reducible apply gated_foot hP k_regs k_out k_router k_maint
      | with_reducible apply ackShrink_foot hP k_regs k_out k_router k_maint k_hbm k_memory
      | with_reducible apply ite_closed
      | (intro _ _)
      | (intro _)
      | dsimp only
      | split

theorem replay_foot (hP : Closed F P) (k_out : F .out = true) {s : State} {p : Nat} {first : Nat} (x3 : Nat) (h_s : P s) : P (replay s p first x3) := by
  induction x3 generalizing s p first with
  | zero =>
    unfold replay
    try dsimp only
    repeat' first
      | with_reducible assumption
      | with_reducible apply Closed.emit hP k_out
      | with_reducible apply ite_closed
      | (intro _ _)
      | (intro _)
      | dsimp only
      | split
  | succ n_ ih =>
    unfold replay
    try dsimp only
    repeat' first
      | with_reducible assumption
      | with_reducible apply ih
      | with_reducible apply Closed.emit hP k_out
      | with_reducible apply ite_closed
      | (intro _ _)
      | (intro _)
      | dsimp only
      | split

theorem execParityError_foot (hP : Closed F P) (k_regs : F .regs = true) (k_out : F .out = true) (k_router : F .router = true) (k_maint : F .maint = true) {pc : Fin 64} {first : Nat} {attempts : Nat} {s : State} (h_s : P s) : OutP P (execParityError pc first attempts s) := by
    unfold execParityError
    try dsimp only
    repeat' first
      | with_reducible assumption
      | with_reducible apply outP_next
      | with_reducible apply outP_done
      | with_reducible apply State.raise_foot hP k_regs k_out k_router k_maint
      | with_reducible apply replay_foot hP k_out
      | with_reducible apply Closed.incBy hP k_regs
      | with_reducible apply ite_closed
      | (intro _ _)
      | (intro _)
      | dsimp only
      | split

theorem execQuickRetrain_foot (hP : Closed F P) (k_regs : F .regs = true) (k_out : F .out = true) (k_router : F .router = true) (k_maint : F .maint = true) {pc : Fin 64} {ok : Bool} {s : State} (h_s : P s) : OutP P (execQuickRetrain pc ok s) := by
    unfold execQuickRetrain
    try dsimp only
    repeat' first
      | with_reducible assumption
      | with_reducible apply outP_next
      | with_reducible apply outP_done
      | with_reducible apply State.raise_foot hP k_regs k_out k_router k_maint
      | with_reducible apply ite_closed
      | (intro _ _)
      | (intro _)
      | dsimp only
      | split

theorem dropTarget_foot (hP : Closed F P) (k_regs : F .regs = true) (k_memory : F .memory = true) {s : State} {p : Nat} (h_s : P s) : P (dropTarget s p) := by
    unfold dropTarget
    try dsimp only
    repeat' first
      | with_reducible assumption
      | with_reducible apply abandonMig_foot hP k_regs k_memory
      | with_reducible apply setMig_foot hP k_memory
      | with_reducible apply ite_closed
      | (intro _ _)
      | (intro _)
      | dsimp only
      | split

theorem execSafeMode_foot (hP : Closed F P) (k_regs : F .regs = true) (k_out : F .out = true) (k_router : F .router = true) (k_maint : F .maint = true) (k_hbm : F .hbm = true) (k_memory : F .memory = true) {pc : Fin 64} {s : State} (h_s : P s) : OutP P (execSafeMode pc s) := by
    unfold execSafeMode
    try dsimp only
    repeat' first
      | with_reducible assumption
      | with_reducible apply outP_next
      | with_reducible apply outP_done
      | with_reducible apply dropTarget_foot hP k_regs k_memory
      | with_reducible apply State.raise_foot hP k_regs k_out k_router k_maint
      | with_reducible apply showSpares_foot hP k_regs
      | with_reducible apply migDue_foot hP k_regs k_out k_router k_maint k_hbm k_memory
      | with_reducible apply migNext_foot hP k_regs k_out k_router k_maint k_hbm k_memory
      | with_reducible apply Closed.setF hP k_regs
      | with_reducible apply ite_closed
      | (intro _ _)
      | (intro _)
      | dsimp only
      | split
      | (with_reducible apply Closed.memory hP k_memory)

theorem unback_foot (hP : Closed F P) (k_regs : F .regs = true) (k_out : F .out = true) (k_router : F .router = true) (k_maint : F .maint = true) {s : State} {l : Nat} {p : Nat} (h_s : P s) : P (unback s l p) := by
    unfold unback
    try dsimp only
    repeat' first
      | with_reducible assumption
      | with_reducible apply State.raise_foot hP k_regs k_out k_router k_maint
      | with_reducible apply Closed.setB hP k_regs
      | with_reducible apply ite_closed
      | (intro _ _)
      | (intro _)
      | dsimp only
      | split

theorem execDataLost_foot (hP : Closed F P) (k_regs : F .regs = true) (k_out : F .out = true) (k_router : F .router = true) (k_maint : F .maint = true) (k_hbm : F .hbm = true) (k_memory : F .memory = true) {pc : Fin 64} {s : State} (h_s : P s) : OutP P (execDataLost pc s) := by
    unfold execDataLost
    try dsimp only
    repeat' first
      | with_reducible assumption
      | with_reducible apply outP_next
      | with_reducible apply outP_done
      | with_reducible apply abandonMig_foot hP k_regs k_memory
      | with_reducible apply setPc_foot hP k_regs
      | with_reducible apply shrinkTop_foot hP k_regs k_out k_router k_maint k_hbm k_memory
      | with_reducible apply remapQueue_foot hP k_memory
      | with_reducible apply State.raise_foot hP k_regs k_out k_router k_maint
      | with_reducible apply unback_foot hP k_regs k_out k_router k_maint
      | with_reducible apply migNext_foot hP k_regs k_out k_router k_maint k_hbm k_memory
      | with_reducible apply showSpares_foot hP k_regs
      | with_reducible apply Closed.setB hP k_regs
      | with_reducible apply ite_closed
      | (intro _ _)
      | (intro _)
      | dsimp only
      | split
      | (with_reducible apply Closed.memory hP k_memory)

theorem eccInject_foot (hP : Closed F P) (k_regs : F .regs = true) {s : State} {value : Word} (h_s : P s) : P (eccInject s value) := by
    unfold eccInject
    try dsimp only
    repeat' first
      | with_reducible assumption
      | with_reducible apply Closed.wr hP k_regs
      | with_reducible apply ite_closed
      | (intro _ _)
      | (intro _)
      | dsimp only
      | split

theorem execEccInjectWrite_foot (hP : Closed F P) (k_regs : F .regs = true) (k_out : F .out = true) (k_router : F .router = true) (k_maint : F .maint = true) {req : Requester} {value : Word} {s : State} (h_s : P s) : OutP P (execEccInjectWrite req value s) := by
    unfold execEccInjectWrite
    try dsimp only
    repeat' first
      | with_reducible assumption
      | with_reducible apply outP_next
      | with_reducible apply outP_done
      | with_reducible apply gated_foot hP k_regs k_out k_router k_maint
      | with_reducible apply eccInject_foot hP k_regs
      | with_reducible apply ite_closed
      | (intro _ _)
      | (intro _)
      | dsimp only
      | split

theorem scrubStep_foot (hP : Closed F P) (k_regs : F .regs = true) (k_memory : F .memory = true) {s : State} (h_s : P s) : P (scrubStep s) := by
    unfold scrubStep
    try dsimp only
    repeat' first
      | with_reducible assumption
      | with_reducible apply Closed.inc hP k_regs
      | with_reducible apply Closed.wr hP k_regs
      | with_reducible apply ite_closed
      | (intro _ _)
      | (intro _)
      | dsimp only
      | split
      | (with_reducible apply Closed.memory hP k_memory)

theorem scrubBad_foot (hP : Closed F P) (k_regs : F .regs = true) (k_out : F .out = true) (k_router : F .router = true) (k_maint : F .maint = true) {s : State} {p : Nat} {a : Nat} (h_s : P s) : P (scrubBad s p a) := by
    unfold scrubBad
    try dsimp only
    repeat' first
      | with_reducible assumption
      | with_reducible apply State.raise_foot hP k_regs k_out k_router k_maint
      | with_reducible apply Closed.inc hP k_regs
      | with_reducible apply Closed.wr64 hP k_regs
      | with_reducible apply ite_closed
      | (intro _ _)
      | (intro _)
      | dsimp only
      | split

theorem scrubServed_foot (hP : Closed F P) (k_regs : F .regs = true) (k_out : F .out = true) (k_router : F .router = true) (k_maint : F .maint = true) (k_memory : F .memory = true) {s : State} {p : Nat} {a : Nat} {result : EccResult} (h_s : P s) : P (scrubServed s p a result) := by
    unfold scrubServed
    try dsimp only
    repeat' first
      | with_reducible assumption
      | with_reducible apply setEcc_foot hP k_memory
      | with_reducible apply touchBlock_foot hP k_regs k_out k_router k_maint k_memory
      | with_reducible apply scrubBad_foot hP k_regs k_out k_router k_maint
      | with_reducible apply ite_closed
      | (intro _ _)
      | (intro _)
      | dsimp only
      | split

theorem scrubSpare_foot (hP : Closed F P) (k_regs : F .regs = true) (k_out : F .out = true) (k_freeCount : F .freeCount = true) (k_router : F .router = true) (k_maint : F .maint = true) (k_memory : F .memory = true) {s : State} {p : Nat} {off : Nat} {result : EccResult} (h_s : P s) : P (scrubSpare s p off result) := by
    unfold scrubSpare
    try dsimp only
    repeat' first
      | with_reducible assumption
      | with_reducible apply issueAt_foot hP k_regs k_out k_router k_maint k_memory
      | with_reducible apply State.raise_foot hP k_regs k_out k_router k_maint
      | with_reducible apply noteCe_foot hP k_memory
      | with_reducible apply scrubBad_foot hP k_regs k_out k_router k_maint
      | with_reducible apply Closed.useFree hP k_freeCount
      | with_reducible apply Closed.inc hP k_regs
      | with_reducible apply ite_closed
      | (intro _ _)
      | (intro _)
      | dsimp only
      | split
      | (with_reducible apply Closed.memory hP k_memory)

theorem execScrubBurst_foot (hP : Closed F P) (k_regs : F .regs = true) (k_out : F .out = true) (k_freeCount : F .freeCount = true) (k_router : F .router = true) (k_maint : F .maint = true) (k_memory : F .memory = true) {pc : Fin 64} {addr : Nat} {result : EccResult} {s : State} (h_s : P s) : OutP P (execScrubBurst pc addr result s) := by
    unfold execScrubBurst
    try dsimp only
    repeat' first
      | with_reducible assumption
      | with_reducible apply outP_next
      | with_reducible apply outP_done
      | with_reducible apply scrubStep_foot hP k_regs k_memory
      | with_reducible apply scrubSpare_foot hP k_regs k_out k_freeCount k_router k_maint k_memory
      | with_reducible apply xfer_foot hP k_regs k_out k_router k_maint k_memory
      | with_reducible apply scrubServed_foot hP k_regs k_out k_router k_maint k_memory
      | with_reducible apply issue_foot hP k_regs k_out k_router k_maint k_memory
      | with_reducible apply ite_closed
      | (intro _ _)
      | (intro _)
      | dsimp only
      | split

theorem missing_foot (hP : Closed F P) (k_regs : F .regs = true) (k_out : F .out = true) (k_router : F .router = true) (k_maint : F .maint = true) (k_memory : F .memory = true) {s : State} (x1 : List Nat) (h_s : P s) : P (missing s x1) := by
  induction x1 generalizing s with
  | nil =>
    unfold missing
    try dsimp only
    repeat' first
      | with_reducible assumption
      | with_reducible apply oneLost_foot hP k_regs k_memory
      | with_reducible apply unback_foot hP k_regs k_out k_router k_maint
      | with_reducible apply Closed.setB hP k_regs
      | with_reducible apply ite_closed
      | (intro _ _)
      | (intro _)
      | dsimp only
      | split
  | cons x_ t_ ih =>
    unfold missing
    try dsimp only
    repeat' first
      | with_reducible assumption
      | with_reducible apply ih
      | with_reducible apply oneLost_foot hP k_regs k_memory
      | with_reducible apply unback_foot hP k_regs k_out k_router k_maint
      | with_reducible apply Closed.setB hP k_regs
      | with_reducible apply ite_closed
      | (intro _ _)
      | (intro _)
      | dsimp only
      | split

theorem mapChans_foot (hP : Closed F P) (k_regs : F .regs = true) {s : State} {l : Nat} (x2 : List Nat) (h_s : P s) : P (mapChans s l x2) := by
  induction x2 generalizing s l with
  | nil =>
    unfold mapChans
    try dsimp only
    repeat' first
      | with_reducible assumption
      | with_reducible apply setPc_foot hP k_regs
      | with_reducible apply Closed.wr hP k_regs
      | with_reducible apply ite_closed
      | (intro _ _)
      | (intro _)
      | dsimp only
      | split
  | cons x_ t_ ih =>
    unfold mapChans
    try dsimp only
    repeat' first
      | with_reducible assumption
      | with_reducible apply ih
      | with_reducible apply setPc_foot hP k_regs
      | with_reducible apply Closed.wr hP k_regs
      | with_reducible apply ite_closed
      | (intro _ _)
      | (intro _)
      | dsimp only
      | split

theorem markTrained_foot (hP : Closed F P) (k_regs : F .regs = true) (k_memory : F .memory = true) {s : State} {p : Nat} (h_s : P s) : P (markTrained s p) := by
    unfold markTrained
    try dsimp only
    repeat' first
      | with_reducible assumption
      | with_reducible apply Closed.setF hP k_regs
      | with_reducible apply ite_closed
      | (intro _ _)
      | (intro _)
      | dsimp only
      | split
      | (with_reducible apply Closed.memory hP k_memory)

theorem putTemp_foot (hP : Closed F P) (k_regs : F .regs = true) {s : State} {k : Nat} {t : Int} (h_s : P s) : P (putTemp s k t) := by
    unfold putTemp
    try dsimp only
    repeat' first
      | with_reducible assumption
      | with_reducible apply Closed.wr hP k_regs
      | with_reducible apply ite_closed
      | (intro _ _)
      | (intro _)
      | dsimp only
      | split

theorem trainMemory_foot (hP : Closed F P) (k_regs : F .regs = true) (k_out : F .out = true) (k_router : F .router = true) (k_maint : F .maint = true) (k_memory : F .memory = true) {s : State} {trained : BitVec 64} {t0 : Int} {t1 : Int} (h_s : P s) : P (trainMemory s trained t0 t1) := by
    unfold trainMemory
    try dsimp only
    repeat' first
      | with_reducible assumption
      | with_reducible apply putTemp_foot hP k_regs
      | with_reducible apply retirePc_foot hP k_regs k_memory
      | with_reducible apply markTrained_foot hP k_regs k_memory
      | with_reducible apply mapChans_foot hP k_regs
      | with_reducible apply setPc_foot hP k_regs
      | with_reducible apply missing_foot hP k_regs k_out k_router k_maint k_memory
      | with_reducible apply showSpares_foot hP k_regs
      | with_reducible apply State.raise_foot hP k_regs k_out k_router k_maint
      | (with_reducible refine foldl_inv P _ (fun _ _ _ => ?_) _ _ ?_)
      | with_reducible apply Closed.wr64 hP k_regs
      | with_reducible apply Closed.setB hP k_regs
      | with_reducible apply ite_closed
      | (intro _ _)
      | (intro _)
      | dsimp only
      | split
      | (with_reducible apply Closed.memory hP k_memory)

theorem execMemoryTrainingComplete_foot (hP : Closed F P) (k_regs : F .regs = true) (k_out : F .out = true) (k_router : F .router = true) (k_maint : F .maint = true) (k_memory : F .memory = true) {trained : BitVec 64} {temp0 : Int} {temp1 : Int} {s : State} (h_s : P s) : OutP P (execMemoryTrainingComplete trained temp0 temp1 s) := by
    unfold execMemoryTrainingComplete
    try dsimp only
    repeat' first
      | with_reducible assumption
      | with_reducible apply outP_next
      | with_reducible apply outP_done
      | with_reducible apply setStage_foot hP k_regs k_out
      | with_reducible apply trainMemory_foot hP k_regs k_out k_router k_maint k_memory
      | with_reducible apply ite_closed
      | (intro _ _)
      | (intro _)
      | dsimp only
      | split

theorem execStackTemperatureRead_foot (hP : Closed F P) (k_regs : F .regs = true) (k_out : F .out = true) (k_router : F .router = true) (k_maint : F .maint = true) (k_hbm : F .hbm = true) (k_memory : F .memory = true) {stack : Fin 2} {temp : Int} {s : State} (h_s : P s) : OutP P (execStackTemperatureRead stack temp s) := by
    unfold execStackTemperatureRead
    try dsimp only
    repeat' first
      | with_reducible assumption
      | with_reducible apply outP_next
      | with_reducible apply outP_done
      | with_reducible apply putTemp_foot hP k_regs
      | with_reducible apply migDue_foot hP k_regs k_out k_router k_maint k_hbm k_memory
      | (with_reducible refine foldl_inv P _ (fun _ _ _ => ?_) _ _ ?_)
      | with_reducible apply ite_closed
      | (intro _ _)
      | (intro _)
      | dsimp only
      | split

theorem systemTopWrite_foot (hP : Closed F P) (k_regs : F .regs = true) (k_out : F .out = true) (k_router : F .router = true) (k_maint : F .maint = true) {s : State} {n : Nat} (h_s : P s) : P (systemTopWrite s n) := by
    unfold systemTopWrite
    try dsimp only
    repeat' first
      | with_reducible assumption
      | with_reducible apply refuse_foot hP k_regs k_out k_router k_maint
      | with_reducible apply Closed.wr64 hP k_regs
      | with_reducible apply ite_closed
      | (intro _ _)
      | (intro _)
      | dsimp only
      | split

theorem execSystemTopWrite_foot (hP : Closed F P) (k_regs : F .regs = true) (k_out : F .out = true) (k_router : F .router = true) (k_maint : F .maint = true) {req : Requester} {value : BitVec 64} {s : State} (h_s : P s) : OutP P (execSystemTopWrite req value s) := by
    unfold execSystemTopWrite
    try dsimp only
    repeat' first
      | with_reducible assumption
      | with_reducible apply outP_next
      | with_reducible apply outP_done
      | with_reducible apply gated_foot hP k_regs k_out k_router k_maint
      | with_reducible apply systemTopWrite_foot hP k_regs k_out k_router k_maint
      | with_reducible apply ite_closed
      | (intro _ _)
      | (intro _)
      | dsimp only
      | split

end Sys2Proof.Machine
end

