-- ==== Sys2Proof/Laws/FootTherm.lean ====
section
/-!
SUPPORT. Footprints of the definitions of Machine/Therm.lean: which parts of the state each of them may update.
-/
namespace Sys2Proof.Machine

variable {F : Part → Bool} {P : State → Prop}

theorem putSensor_foot (hP : Closed F P) (k_therm : F .therm = true) {s : State} {i : Nat} {x : SensorSt} (h_s : P s) : P (putSensor s i x) := by
    unfold putSensor
    try dsimp only
    repeat' first
      | with_reducible assumption
      | with_reducible apply ite_closed
      | (intro _ _)
      | (intro _)
      | dsimp only
      | split
      | (with_reducible apply Closed.therm hP k_therm)

theorem convert_foot (hP : Closed F P) (k_regs : F .regs = true) (k_out : F .out = true) (k_router : F .router = true) (k_maint : F .maint = true) (k_therm : F .therm = true) {s : State} {i : Nat} {n : Nat} (h_s : P s) : P (convert s i n) := by
    unfold convert
    try dsimp only
    repeat' first
      | with_reducible assumption
      | with_reducible apply putSensor_foot hP k_therm
      | with_reducible apply State.raise_foot hP k_regs k_out k_router k_maint
      | with_reducible apply Closed.setF hP k_regs
      | with_reducible apply ite_closed
      | (intro _ _)
      | (intro _)
      | dsimp only
      | split

theorem checkSensor_foot (hP : Closed F P) (k_regs : F .regs = true) (k_out : F .out = true) (k_router : F .router = true) (k_maint : F .maint = true) (k_therm : F .therm = true) {ok : List Nat} {s : State} {i : Nat} (h_s : P s) : P (checkSensor ok s i) := by
    unfold checkSensor
    try dsimp only
    repeat' first
      | with_reducible assumption
      | with_reducible apply State.raise_foot hP k_regs k_out k_router k_maint
      | with_reducible apply putSensor_foot hP k_therm
      | with_reducible apply Closed.setF hP k_regs
      | with_reducible apply ite_closed
      | (intro _ _)
      | (intro _)
      | dsimp only
      | split

theorem formEff_foot (hP : Closed F P) (k_regs : F .regs = true) (k_freeCount : F .freeCount = true) {z : Nat} {s : State} {i : Nat} (h_s : P s) : P (formEff z s i) := by
    unfold formEff
    try dsimp only
    repeat' first
      | with_reducible assumption
      | with_reducible apply Closed.setF hP k_regs
      | with_reducible apply Closed.useFree hP k_freeCount
      | with_reducible apply ite_closed
      | (intro _ _)
      | (intro _)
      | dsimp only
      | split

theorem zoneFollow_foot (hP : Closed F P) (k_regs : F .regs = true) (k_out : F .out = true) (k_router : F .router = true) (k_maint : F .maint = true) {s : State} {z : Nat} (h_s : P s) : P (zoneFollow s z) := by
    unfold zoneFollow
    try dsimp only
    repeat' first
      | with_reducible assumption
      | with_reducible apply State.raise_foot hP k_regs k_out k_router k_maint
      | with_reducible apply Closed.setF hP k_regs
      | with_reducible apply ite_closed
      | (intro _ _)
      | (intro _)
      | dsimp only
      | split

theorem thresholdWrite_foot (hP : Closed F P) (k_regs : F .regs = true) (k_out : F .out = true) (k_router : F .router = true) (k_maint : F .maint = true) {s : State} {z : Nat} {second : Bool} {v : Word} (h_s : P s) : P (thresholdWrite s z second v) := by
    unfold thresholdWrite
    try dsimp only
    repeat' first
      | with_reducible assumption
      | with_reducible apply zoneFollow_foot hP k_regs k_out k_router k_maint
      | with_reducible apply refuse_foot hP k_regs k_out k_router k_maint
      | with_reducible apply Closed.wr hP k_regs
      | with_reducible apply ite_closed
      | (intro _ _)
      | (intro _)
      | dsimp only
      | split

theorem putZone_foot (hP : Closed F P) (k_therm : F .therm = true) {s : State} {z : Nat} {x : ZoneSt} (h_s : P s) : P (putZone s z x) := by
    unfold putZone
    try dsimp only
    repeat' first
      | with_reducible assumption
      | with_reducible apply ite_closed
      | (intro _ _)
      | (intro _)
      | dsimp only
      | split
      | (with_reducible apply Closed.therm hP k_therm)

theorem zoneDemand_foot (hP : Closed F P) (k_regs : F .regs = true) (k_out : F .out = true) (k_router : F .router = true) (k_maint : F .maint = true) (k_therm : F .therm = true) {s : State} {z : Nat} {T : Option Int} {lost : Bool} (h_s : P s) : P (zoneDemand s z T lost) := by
    unfold zoneDemand
    try dsimp only
    repeat' first
      | with_reducible assumption
      | with_reducible apply putZone_foot hP k_therm
      | with_reducible apply State.raise_foot hP k_regs k_out k_router k_maint
      | with_reducible apply Closed.setF hP k_regs
      | with_reducible apply Closed.setB hP k_regs
      | with_reducible apply ite_closed
      | (intro _ _)
      | (intro _)
      | dsimp only
      | split

theorem levelFollow_foot (hP : Closed F P) (k_regs : F .regs = true) (k_out : F .out = true) (k_freeCount : F .freeCount = true) (k_router : F .router = true) (k_maint : F .maint = true) {s : State} (h_s : P s) : P (levelFollow s) := by
    unfold levelFollow
    try dsimp only
    repeat' first
      | with_reducible assumption
      | with_reducible apply State.raise_foot hP k_regs k_out k_router k_maint
      | with_reducible apply Closed.useFree hP k_freeCount
      | with_reducible apply Closed.setB hP k_regs
      | with_reducible apply Closed.setF hP k_regs
      | with_reducible apply Closed.inc hP k_regs
      | with_reducible apply ite_closed
      | (intro _ _)
      | (intro _)
      | dsimp only
      | split

theorem sampleZone_foot (hP : Closed F P) (k_regs : F .regs = true) (k_out : F .out = true) (k_freeCount : F .freeCount = true) (k_power : F .power = true) (k_router : F .router = true) (k_maint : F .maint = true) (k_therm : F .therm = true) {s : State} {z : Nat} {counts : List Nat} (h_s : P s) : P (sampleZone s z counts) := by
    unfold sampleZone
    try dsimp only
    repeat' first
      | with_reducible assumption
      | with_reducible apply convert_foot hP k_regs k_out k_router k_maint k_therm
      | with_reducible apply checkSensor_foot hP k_regs k_out k_router k_maint k_therm
      | with_reducible apply formEff_foot hP k_regs k_freeCount
      | with_reducible apply levelFollow_foot hP k_regs k_out k_freeCount k_router k_maint
      | with_reducible apply zoneDemand_foot hP k_regs k_out k_router k_maint k_therm
      | with_reducible apply zoneFollow_foot hP k_regs k_out k_router k_maint
      | with_reducible apply spareLow_foot hP k_regs k_out k_power k_router k_maint
      | (with_reducible refine foldl_inv P _ (fun _ _ _ => ?_) _ _ ?_)
      | with_reducible apply Closed.setF hP k_regs
      | with_reducible apply ite_closed
      | (intro _ _)
      | (intro _)
      | dsimp only
      | split

theorem execLossFloorExpiry_foot (hP : Closed F P) (k_regs : F .regs = true) (k_therm : F .therm = true) {zone : Fin 8} {s : State} (h_s : P s) : OutP P (execLossFloorExpiry zone s) := by
    unfold execLossFloorExpiry
    try dsimp only
    repeat' first
      | with_reducible assumption
      | with_reducible apply outP_next
      | with_reducible apply outP_done
      | with_reducible apply putZone_foot hP k_therm
      | with_reducible apply Closed.setB hP k_regs
      | with_reducible apply ite_closed
      | (intro _ _)
      | (intro _)
      | dsimp only
      | split

end Sys2Proof.Machine
end

