-- ==== Sys2Proof/Laws/FootTime.lean ====
section
/-!
SUPPORT. Footprints of the definitions of Machine/Time.lean: which parts of the state each of them may update.
-/
namespace Sys2Proof.Machine

variable {F : Part → Bool} {P : State → Prop}

theorem putDom_foot (hP : Closed F P) (k_servo : F .servo = true) {s : State} {d : Nat} {x : DomSt} (h_s : P s) : P (putDom s d x) := by
    unfold putDom
    try dsimp only
    repeat' first
      | with_reducible assumption
      | with_reducible apply ite_closed
      | (intro _ _)
      | (intro _)
      | dsimp only
      | split
      | (with_reducible apply Closed.servo hP k_servo)

theorem setEpochOffset_foot (hP : Closed F P) (k_regs : F .regs = true) {s : State} {v : Int} (h_s : P s) : P (setEpochOffset s v) := by
    unfold setEpochOffset
    try dsimp only
    repeat' first
      | with_reducible assumption
      | with_reducible apply Closed.wr64 hP k_regs
      | with_reducible apply ite_closed
      | (intro _ _)
      | (intro _)
      | dsimp only
      | split

theorem enterDom_foot (hP : Closed F P) (k_regs : F .regs = true) (k_out : F .out = true) (k_servo : F .servo = true) (k_router : F .router = true) (k_maint : F .maint = true) {s : State} {d : Nat} {st : Nat} (h_s : P s) : P (enterDom s d st) := by
    unfold enterDom
    try dsimp only
    repeat' first
      | with_reducible assumption
      | with_reducible apply putDom_foot hP k_servo
      | with_reducible apply State.raise_foot hP k_regs k_out k_router k_maint
      | with_reducible apply Closed.wr hP k_regs
      | with_reducible apply ite_closed
      | (intro _ _)
      | (intro _)
      | dsimp only
      | split

theorem refuseJump_foot (hP : Closed F P) (k_regs : F .regs = true) (k_out : F .out = true) (k_servo : F .servo = true) (k_router : F .router = true) (k_maint : F .maint = true) {s : State} {d : Nat} {c : Int} (h_s : P s) : P (refuseJump s d c) := by
    unfold refuseJump
    try dsimp only
    repeat' first
      | with_reducible assumption
      | with_reducible apply enterDom_foot hP k_regs k_out k_servo k_router k_maint
      | with_reducible apply State.raise_foot hP k_regs k_out k_router k_maint
      | with_reducible apply Closed.inc hP k_regs
      | with_reducible apply Closed.wr64 hP k_regs
      | with_reducible apply ite_closed
      | (intro _ _)
      | (intro _)
      | dsimp only
      | split

theorem correct_foot (hP : Closed F P) (k_regs : F .regs = true) (k_out : F .out = true) (k_servo : F .servo = true) (k_router : F .router = true) (k_maint : F .maint = true) {s : State} {d : Nat} {c : Int} (h_s : P s) : P (correct s d c) := by
    unfold correct
    try dsimp only
    repeat' first
      | with_reducible assumption
      | with_reducible apply refuseJump_foot hP k_regs k_out k_servo k_router k_maint
      | with_reducible apply startSlew_foot hP k_regs k_servo
      | with_reducible apply ite_closed
      | (intro _ _)
      | (intro _)
      | dsimp only
      | split

theorem setFreq_foot (hP : Closed F P) (k_regs : F .regs = true) (k_servo : F .servo = true) {s : State} {f : Int} (h_s : P s) : P (setFreq s f) := by
    unfold setFreq
    try dsimp only
    repeat' first
      | with_reducible assumption
      | with_reducible apply showSlew_foot hP k_regs
      | with_reducible apply ite_closed
      | (intro _ _)
      | (intro _)
      | dsimp only
      | split
      | (with_reducible apply Closed.servo hP k_servo)

theorem firstLock_foot (hP : Closed F P) (k_regs : F .regs = true) (k_out : F .out = true) (k_servo : F .servo = true) (k_router : F .router = true) (k_maint : F .maint = true) {s : State} {d : Nat} {raw : Int} (h_s : P s) : P (firstLock s d raw) := by
    unfold firstLock
    try dsimp only
    repeat' first
      | with_reducible assumption
      | with_reducible apply setEpochOffset_foot hP k_regs
      | with_reducible apply enterDom_foot hP k_regs k_out k_servo k_router k_maint
      | with_reducible apply Closed.wr64 hP k_regs
      | with_reducible apply ite_closed
      | (intro _ _)
      | (intro _)
      | dsimp only
      | split
      | (with_reducible apply Closed.servo hP k_servo)

theorem judge_foot (hP : Closed F P) (k_regs : F .regs = true) (k_out : F .out = true) (k_servo : F .servo = true) (k_router : F .router = true) (k_maint : F .maint = true) {s : State} {d : Nat} {raw : Int} {c : Int} (h_s : P s) : P (judge s d raw c) := by
    unfold judge
    try dsimp only
    repeat' first
      | with_reducible assumption
      | with_reducible apply putDom_foot hP k_servo
      | with_reducible apply enterDom_foot hP k_regs k_out k_servo k_router k_maint
      | with_reducible apply refuseJump_foot hP k_regs k_out k_servo k_router k_maint
      | with_reducible apply firstLock_foot hP k_regs k_out k_servo k_router k_maint
      | with_reducible apply correct_foot hP k_regs k_out k_servo k_router k_maint
      | with_reducible apply ite_closed
      | (intro _ _)
      | (intro _)
      | dsimp only
      | split

theorem measure_foot (hP : Closed F P) (k_regs : F .regs = true) (k_out : F .out = true) (k_servo : F .servo = true) (k_router : F .router = true) (k_maint : F .maint = true) {s : State} {d : Nat} {raw : Int} {freq : Option Int} (h_s : P s) : P (measure s d raw freq) := by
    unfold measure
    try dsimp only
    repeat' first
      | with_reducible assumption
      | with_reducible apply enterDom_foot hP k_regs k_out k_servo k_router k_maint
      | with_reducible apply putDom_foot hP k_servo
      | with_reducible apply setFreq_foot hP k_regs k_servo
      | with_reducible apply judge_foot hP k_regs k_out k_servo k_router k_maint
      | with_reducible apply Closed.wr64 hP k_regs
      | with_reducible apply Closed.wr hP k_regs
      | with_reducible apply ite_closed
      | (intro _ _)
      | (intro _)
      | dsimp only
      | split

theorem newGm_foot (hP : Closed F P) (k_regs : F .regs = true) (k_out : F .out = true) (k_servo : F .servo = true) (k_router : F .router = true) (k_maint : F .maint = true) {s : State} {d : Nat} {gm : BitVec 64} (h_s : P s) : P (newGm s d gm) := by
    unfold newGm
    try dsimp only
    repeat' first
      | with_reducible assumption
      | with_reducible apply putDom_foot hP k_servo
      | with_reducible apply State.raise_foot hP k_regs k_out k_router k_maint
      | with_reducible apply enterDom_foot hP k_regs k_out k_servo k_router k_maint
      | with_reducible apply Closed.wr64 hP k_regs
      | with_reducible apply ite_closed
      | (intro _ _)
      | (intro _)
      | dsimp only
      | split

theorem hearGm_foot (hP : Closed F P) (k_regs : F .regs = true) (k_out : F .out = true) (k_servo : F .servo = true) (k_router : F .router = true) (k_maint : F .maint = true) {s : State} {d : Nat} {gm : BitVec 64} {announce : Bool} (h_s : P s) : P (hearGm s d gm announce) := by
    unfold hearGm
    try dsimp only
    repeat' first
      | with_reducible assumption
      | with_reducible apply newGm_foot hP k_regs k_out k_servo k_router k_maint
      | with_reducible apply putDom_foot hP k_servo
      | with_reducible apply enterDom_foot hP k_regs k_out k_servo k_router k_maint
      | with_reducible apply Closed.wr64 hP k_regs
      | with_reducible apply ite_closed
      | (intro _ _)
      | (intro _)
      | dsimp only
      | split

theorem execSyncReceived_foot (hP : Closed F P) (k_regs : F .regs = true) (k_out : F .out = true) (k_servo : F .servo = true) (k_router : F .router = true) (k_maint : F .maint = true) {d : Fin 2} {gm : BitVec 64} {tai : Int} {freq : Option Int} {s : State} (h_s : P s) : OutP P (execSyncReceived d gm tai freq s) := by
    unfold execSyncReceived
    try dsimp only
    repeat' first
      | with_reducible assumption
      | with_reducible apply outP_next
      | with_reducible apply outP_done
      | with_reducible apply hearGm_foot hP k_regs k_out k_servo k_router k_maint
      | with_reducible apply measure_foot hP k_regs k_out k_servo k_router k_maint
      | with_reducible apply ite_closed
      | (intro _ _)
      | (intro _)
      | dsimp only
      | split

theorem execAnnounceReceived_foot (hP : Closed F P) (k_regs : F .regs = true) (k_out : F .out = true) (k_servo : F .servo = true) (k_router : F .router = true) (k_maint : F .maint = true) {d : Fin 2} {gm : BitVec 64} {s : State} (h_s : P s) : OutP P (execAnnounceReceived d gm s) := by
    unfold execAnnounceReceived
    try dsimp only
    repeat' first
      | with_reducible assumption
      | with_reducible apply outP_next
      | with_reducible apply outP_done
      | with_reducible apply hearGm_foot hP k_regs k_out k_servo k_router k_maint
      | with_reducible apply ite_closed
      | (intro _ _)
      | (intro _)
      | dsimp only
      | split

theorem execDelayRespReceived_foot (hP : Closed F P) (k_regs : F .regs = true) (k_servo : F .servo = true) {d : Fin 2} {delay : Word} {s : State} (h_s : P s) : OutP P (execDelayRespReceived d delay s) := by
    unfold execDelayRespReceived
    try dsimp only
    repeat' first
      | with_reducible assumption
      | with_reducible apply outP_next
      | with_reducible apply outP_done
      | with_reducible apply putDom_foot hP k_servo
      | with_reducible apply Closed.wr hP k_regs
      | with_reducible apply ite_closed
      | (intro _ _)
      | (intro _)
      | dsimp only
      | split

theorem execAnnounceTimeout_foot (hP : Closed F P) (k_regs : F .regs = true) (k_out : F .out = true) (k_servo : F .servo = true) (k_router : F .router = true) (k_maint : F .maint = true) {d : Fin 2} {s : State} (h_s : P s) : OutP P (execAnnounceTimeout d s) := by
    unfold execAnnounceTimeout
    try dsimp only
    repeat' first
      | with_reducible assumption
      | with_reducible apply outP_next
      | with_reducible apply outP_done
      | with_reducible apply enterDom_foot hP k_regs k_out k_servo k_router k_maint
      | with_reducible apply ite_closed
      | (intro _ _)
      | (intro _)
      | dsimp only
      | split

theorem ptpSend_foot (hP : Closed F P) (k_out : F .out = true) {s : State} {d : Nat} {m : PtpMsg} (h_s : P s) : P (ptpSend s d m) := by
    unfold ptpSend
    try dsimp only
    repeat' first
      | with_reducible assumption
      | with_reducible apply Closed.emit hP k_out
      | with_reducible apply ite_closed
      | (intro _ _)
      | (intro _)
      | dsimp only
      | split

theorem execPtpMessageSend_foot (hP : Closed F P) (k_out : F .out = true) {d : Fin 2} {msg : PtpMsg} {s : State} (h_s : P s) : OutP P (execPtpMessageSend d msg s) := by
    unfold execPtpMessageSend
    try dsimp only
    repeat' first
      | with_reducible assumption
      | with_reducible apply outP_next
      | with_reducible apply outP_done
      | with_reducible apply ptpSend_foot hP k_out
      | with_reducible apply ite_closed
      | (intro _ _)
      | (intro _)
      | dsimp only
      | split

theorem execDelayReqReceived_foot (hP : Closed F P) (k_out : F .out = true) {d : Fin 2} {s : State} (h_s : P s) : OutP P (execDelayReqReceived d s) := by
    unfold execDelayReqReceived
    try dsimp only
    repeat' first
      | with_reducible assumption
      | with_reducible apply outP_next
      | with_reducible apply outP_done
      | with_reducible apply ptpSend_foot hP k_out
      | with_reducible apply ite_closed
      | (intro _ _)
      | (intro _)
      | dsimp only
      | split

theorem execPpsEdge_foot (hP : Closed F P) (k_regs : F .regs = true) (k_out : F .out = true) (k_freeCount : F .freeCount = true) (k_servo : F .servo = true) (k_router : F .router = true) (k_maint : F .maint = true) {s : State} (h_s : P s) : OutP P (execPpsEdge s) := by
    unfold execPpsEdge
    try dsimp only
    repeat' first
      | with_reducible assumption
      | with_reducible apply outP_next
      | with_reducible apply outP_done
      | with_reducible apply enterDom_foot hP k_regs k_out k_servo k_router k_maint
      | with_reducible apply putDom_foot hP k_servo
      | with_reducible apply measure_foot hP k_regs k_out k_servo k_router k_maint
      | with_reducible apply Closed.setB hP k_regs
      | with_reducible apply Closed.useFree hP k_freeCount
      | with_reducible apply ite_closed
      | (intro _ _)
      | (intro _)
      | dsimp only
      | split

theorem execPpsLost_foot (hP : Closed F P) (k_regs : F .regs = true) (k_out : F .out = true) (k_power : F .power = true) (k_router : F .router = true) (k_maint : F .maint = true) {s : State} (h_s : P s) : OutP P (execPpsLost s) := by
    unfold execPpsLost
    try dsimp only
    repeat' first
      | with_reducible assumption
      | with_reducible apply outP_next
      | with_reducible apply outP_done
      | with_reducible apply State.raise_foot hP k_regs k_out k_router k_maint
      | with_reducible apply State.tell_foot hP k_power
      | with_reducible apply Closed.setB hP k_regs
      | with_reducible apply ite_closed
      | (intro _ _)
      | (intro _)
      | dsimp only
      | split

theorem showRef_foot (hP : Closed F P) (k_regs : F .regs = true) {s : State} (h_s : P s) : P (showRef s) := by
    unfold showRef
    try dsimp only
    repeat' first
      | with_reducible assumption
      | with_reducible apply Closed.setB hP k_regs
      | with_reducible apply ite_closed
      | (intro _ _)
      | (intro _)
      | dsimp only
      | split

theorem timeCtrl_foot (hP : Closed F P) (k_regs : F .regs = true) (k_servo : F .servo = true) {s : State} {v : Word} (h_s : P s) : P (timeCtrl s v) := by
    unfold timeCtrl
    try dsimp only
    repeat' first
      | with_reducible assumption
      | with_reducible apply putDom_foot hP k_servo
      | with_reducible apply showRef_foot hP k_regs
      | with_reducible apply Closed.wr hP k_regs
      | with_reducible apply ite_closed
      | (intro _ _)
      | (intro _)
      | dsimp only
      | split
      | (with_reducible apply Closed.servo hP k_servo)

theorem execRefSelWrite_foot (hP : Closed F P) (k_regs : F .regs = true) (k_out : F .out = true) (k_servo : F .servo = true) (k_router : F .router = true) (k_maint : F .maint = true) {req : Requester} {value : Word} {s : State} (h_s : P s) : OutP P (execRefSelWrite req value s) := by
    unfold execRefSelWrite
    try dsimp only
    repeat' first
      | with_reducible assumption
      | with_reducible apply outP_next
      | with_reducible apply outP_done
      | with_reducible apply gated_foot hP k_regs k_out k_router k_maint
      | with_reducible apply timeCtrl_foot hP k_regs k_servo
      | with_reducible apply ite_closed
      | (intro _ _)
      | (intro _)
      | dsimp only
      | split

theorem execAutoSwitchWrite_foot (hP : Closed F P) (k_regs : F .regs = true) (k_out : F .out = true) (k_servo : F .servo = true) (k_router : F .router = true) (k_maint : F .maint = true) {req : Requester} {value : Word} {s : State} (h_s : P s) : OutP P (execAutoSwitchWrite req value s) := by
    unfold execAutoSwitchWrite
    try dsimp only
    repeat' first
      | with_reducible assumption
      | with_reducible apply outP_next
      | with_reducible apply outP_done
      | with_reducible apply gated_foot hP k_regs k_out k_router k_maint
      | with_reducible apply timeCtrl_foot hP k_regs k_servo
      | with_reducible apply ite_closed
      | (intro _ _)
      | (intro _)
      | dsimp only
      | split

theorem execRefInputQualified_foot (hP : Closed F P) (k_regs : F .regs = true) (k_out : F .out = true) (k_servo : F .servo = true) (k_router : F .router = true) (k_maint : F .maint = true) {s : State} (h_s : P s) : OutP P (execRefInputQualified s) := by
    unfold execRefInputQualified
    try dsimp only
    repeat' first
      | with_reducible assumption
      | with_reducible apply outP_next
      | with_reducible apply outP_done
      | with_reducible apply showRef_foot hP k_regs
      | with_reducible apply State.raise_foot hP k_regs k_out k_router k_maint
      | with_reducible apply ite_closed
      | (intro _ _)
      | (intro _)
      | dsimp only
      | split
      | (with_reducible apply Closed.servo hP k_servo)

theorem execRefLost_foot (hP : Closed F P) (k_regs : F .regs = true) (k_out : F .out = true) (k_servo : F .servo = true) (k_router : F .router = true) (k_maint : F .maint = true) {s : State} (h_s : P s) : OutP P (execRefLost s) := by
    unfold execRefLost
    try dsimp only
    repeat' first
      | with_reducible assumption
      | with_reducible apply outP_next
      | with_reducible apply outP_done
      | with_reducible apply showRef_foot hP k_regs
      | with_reducible apply State.raise_foot hP k_regs k_out k_router k_maint
      | with_reducible apply ite_closed
      | (intro _ _)
      | (intro _)
      | dsimp only
      | split
      | (with_reducible apply Closed.servo hP k_servo)

theorem epochOffsetWrite_foot (hP : Closed F P) (k_regs : F .regs = true) (k_out : F .out = true) (k_router : F .router = true) (k_maint : F .maint = true) {s : State} {v : BitVec 64} (h_s : P s) : P (epochOffsetWrite s v) := by
    unfold epochOffsetWrite
    try dsimp only
    repeat' first
      | with_reducible assumption
      | with_reducible apply setEpochOffset_foot hP k_regs
      | with_reducible apply refuse_foot hP k_regs k_out k_router k_maint
      | with_reducible apply ite_closed
      | (intro _ _)
      | (intro _)
      | dsimp only
      | split

theorem execEpochOffsetWrite_foot (hP : Closed F P) (k_regs : F .regs = true) (k_out : F .out = true) (k_router : F .router = true) (k_maint : F .maint = true) {req : Requester} {value : BitVec 64} {s : State} (h_s : P s) : OutP P (execEpochOffsetWrite req value s) := by
    unfold execEpochOffsetWrite
    try dsimp only
    repeat' first
      | with_reducible assumption
      | with_reducible apply outP_next
      | with_reducible apply outP_done
      | with_reducible apply gated_foot hP k_regs k_out k_router k_maint
      | with_reducible apply epochOffsetWrite_foot hP k_regs k_out k_router k_maint
      | with_reducible apply ite_closed
      | (intro _ _)
      | (intro _)
      | dsimp only
      | split

theorem domCtrlWrite_foot (hP : Closed F P) (k_regs : F .regs = true) (k_out : F .out = true) (k_servo : F .servo = true) (k_router : F .router = true) (k_maint : F .maint = true) {s : State} {d : Nat} {v : Word} (h_s : P s) : P (domCtrlWrite s d v) := by
    unfold domCtrlWrite
    try dsimp only
    repeat' first
      | with_reducible assumption
      | with_reducible apply refuse_foot hP k_regs k_out k_router k_maint
      | with_reducible apply putDom_foot hP k_servo
      | with_reducible apply enterDom_foot hP k_regs k_out k_servo k_router k_maint
      | with_reducible apply Closed.setF hP k_regs
      | with_reducible apply Closed.setB hP k_regs
      | with_reducible apply Closed.wr hP k_regs
      | with_reducible apply ite_closed
      | (intro _ _)
      | (intro _)
      | dsimp only
      | split

theorem execDomCtrlWrite_foot (hP : Closed F P) (k_regs : F .regs = true) (k_out : F .out = true) (k_servo : F .servo = true) (k_router : F .router = true) (k_maint : F .maint = true) {req : Requester} {d : Fin 2} {value : Word} {s : State} (h_s : P s) : OutP P (execDomCtrlWrite req d value s) := by
    unfold execDomCtrlWrite
    try dsimp only
    repeat' first
      | with_reducible assumption
      | with_reducible apply outP_next
      | with_reducible apply outP_done
      | with_reducible apply gated_foot hP k_regs k_out k_router k_maint
      | with_reducible apply domCtrlWrite_foot hP k_regs k_out k_servo k_router k_maint
      | with_reducible apply ite_closed
      | (intro _ _)
      | (intro _)
      | dsimp only
      | split

theorem execSlewEnd_foot (hP : Closed F P) (k_regs : F .regs = true) (k_out : F .out = true) (k_clock : F .clock = true) (k_servo : F .servo = true) (k_router : F .router = true) (k_maint : F .maint = true) {s : State} (h_s : P s) : OutP P (execSlewEnd s) := by
    unfold execSlewEnd
    try dsimp only
    repeat' first
      | with_reducible assumption
      | with_reducible apply outP_next
      | with_reducible apply outP_done
      | with_reducible apply tick_foot hP k_regs k_out k_clock k_servo k_router k_maint
      | with_reducible apply ite_closed
      | (intro _ _)
      | (intro _)
      | dsimp only
      | split

theorem switchTo_foot (hP : Closed F P) (k_regs : F .regs = true) (k_out : F .out = true) (k_power : F .power = true) (k_servo : F .servo = true) (k_router : F .router = true) (k_maint : F .maint = true) {s : State} {d : Nat} (h_s : P s) : P (switchTo s d) := by
    unfold switchTo
    try dsimp only
    repeat' first
      | with_reducible assumption
      | with_reducible apply putDom_foot hP k_servo
      | with_reducible apply State.raise_foot hP k_regs k_out k_router k_maint
      | with_reducible apply correct_foot hP k_regs k_out k_servo k_router k_maint
      | with_reducible apply spareLow_foot hP k_regs k_out k_power k_router k_maint
      | with_reducible apply Closed.setF hP k_regs
      | with_reducible apply ite_closed
      | (intro _ _)
      | (intro _)
      | dsimp only
      | split

theorem domainSwitch_foot (hP : Closed F P) (k_regs : F .regs = true) (k_out : F .out = true) (k_power : F .power = true) (k_servo : F .servo = true) (k_router : F .router = true) (k_maint : F .maint = true) {s : State} {v : Word} (h_s : P s) : P (domainSwitch s v) := by
    unfold domainSwitch
    try dsimp only
    repeat' first
      | with_reducible assumption
      | with_reducible apply switchTo_foot hP k_regs k_out k_power k_servo k_router k_maint
      | with_reducible apply refuse_foot hP k_regs k_out k_router k_maint
      | with_reducible apply ite_closed
      | (intro _ _)
      | (intro _)
      | dsimp only
      | split

theorem execDomainSwitch_foot (hP : Closed F P) (k_regs : F .regs = true) (k_out : F .out = true) (k_power : F .power = true) (k_servo : F .servo = true) (k_router : F .router = true) (k_maint : F .maint = true) {req : Requester} {value : Word} {s : State} (h_s : P s) : OutP P (execDomainSwitch req value s) := by
    unfold execDomainSwitch
    try dsimp only
    repeat' first
      | with_reducible assumption
      | with_reducible apply outP_next
      | with_reducible apply outP_done
      | with_reducible apply gated_foot hP k_regs k_out k_router k_maint
      | with_reducible apply domainSwitch_foot hP k_regs k_out k_power k_servo k_router k_maint
      | with_reducible apply ite_closed
      | (intro _ _)
      | (intro _)
      | dsimp only
      | split

theorem execAutoDomainSwitch_foot (hP : Closed F P) (k_regs : F .regs = true) (k_out : F .out = true) (k_power : F .power = true) (k_servo : F .servo = true) (k_router : F .router = true) (k_maint : F .maint = true) {s : State} (h_s : P s) : OutP P (execAutoDomainSwitch s) := by
    unfold execAutoDomainSwitch
    try dsimp only
    repeat' first
      | with_reducible assumption
      | with_reducible apply outP_next
      | with_reducible apply outP_done
      | with_reducible apply switchTo_foot hP k_regs k_out k_power k_servo k_router k_maint
      | with_reducible apply putDom_foot hP k_servo
      | with_reducible apply ite_closed
      | (intro _ _)
      | (intro _)
      | dsimp only
      | split

theorem standbyTime_foot (hP : Closed F P) (k_regs : F .regs = true) (k_out : F .out = true) (k_servo : F .servo = true) (k_router : F .router = true) (k_maint : F .maint = true) {s : State} (h_s : P s) : P (standbyTime s) := by
    unfold standbyTime
    try dsimp only
    repeat' first
      | with_reducible assumption
      | with_reducible apply enterDom_foot hP k_regs k_out k_servo k_router k_maint
      | with_reducible apply putDom_foot hP k_servo
      | with_reducible apply ite_closed
      | (intro _ _)
      | (intro _)
      | dsimp only
      | split

end Sys2Proof.Machine
end

