-- ==== Sys2Proof/Laws/FootPower.lean ====
section
/-!
SUPPORT. Footprints of the definitions of Machine/Power.lean: which parts of the state each of them may update.
-/
namespace Sys2Proof.Machine

variable {F : Part → Bool} {P : State → Prop}

theorem setPower_foot (hP : Closed F P) (k_regs : F .regs = true) {s : State} {st : Nat} {tr : Nat} (h_s : P s) : P (setPower s st tr) := by
    unfold setPower
    try dsimp only
    repeat' first
      | with_reducible assumption
      | with_reducible apply Closed.setF hP k_regs
      | with_reducible apply ite_closed
      | (intro _ _)
      | (intro _)
      | dsimp only
      | split

theorem closeFrames_foot (hP : Closed F P) (k_regs : F .regs = true) (k_out : F .out = true) (k_router : F .router = true) (k_ring : F .ring = true) (k_maint : F .maint = true) (k_hbm : F .hbm = true) (k_memory : F .memory = true) (k_ing : F .ing = true) {s : State} (h_s : P s) : P (closeFrames s) := by
    unfold closeFrames
    try dsimp only
    repeat' first
      | with_reducible assumption
      | with_reducible apply closeAsm_foot hP k_regs k_out k_router k_ring k_maint k_hbm k_memory k_ing
      | (with_reducible refine foldl_inv P _ (fun _ _ _ => ?_) _ _ ?_)
      | with_reducible apply ite_closed
      | (intro _ _)
      | (intro _)
      | dsimp only
      | split

theorem abortSlots_foot (hP : Closed F P) (k_regs : F .regs = true) (k_out : F .out = true) (k_router : F .router = true) (k_ring : F .ring = true) (k_txn : F .txn = true) (k_sched : F .sched = true) (k_maint : F .maint = true) {s : State} (h_s : P s) : P (abortSlots s) := by
    unfold abortSlots
    try dsimp only
    repeat' first
      | with_reducible assumption
      | with_reducible apply slotAborted_foot hP k_regs k_out k_router k_ring k_txn k_sched k_maint
      | (with_reducible refine foldl_inv P _ (fun _ _ _ => ?_) _ _ ?_)
      | with_reducible apply ite_closed
      | (intro _ _)
      | (intro _)
      | dsimp only
      | split

theorem suspendEngines_foot (hP : Closed F P) (k_regs : F .regs = true) (k_out : F .out = true) (k_freeCount : F .freeCount = true) (k_router : F .router = true) (k_ring : F .ring = true) (k_maint : F .maint = true) (k_hbm : F .hbm = true) (k_host : F .host = true) (k_memory : F .memory = true) (k_ing : F .ing = true) (k_eng : F .eng = true) {s : State} (h_s : P s) : P (suspendEngines s) := by
    unfold suspendEngines
    try dsimp only
    repeat' first
      | with_reducible assumption
      | with_reducible apply unlane_foot hP k_ing
      | with_reducible apply stopJob_foot hP k_regs k_out k_freeCount k_router k_ring k_maint k_hbm k_host k_memory k_eng
      | (with_reducible refine foldl_inv P _ (fun _ _ _ => ?_) _ _ ?_)
      | with_reducible apply ite_closed
      | (intro _ _)
      | (intro _)
      | dsimp only
      | split

theorem startStandby_foot (hP : Closed F P) (k_regs : F .regs = true) (k_out : F .out = true) (k_freeCount : F .freeCount = true) (k_router : F .router = true) (k_ring : F .ring = true) (k_txn : F .txn = true) (k_sched : F .sched = true) (k_maint : F .maint = true) (k_hbm : F .hbm = true) (k_host : F .host = true) (k_memory : F .memory = true) (k_ing : F .ing = true) (k_eng : F .eng = true) (k_audio : F .audio = true) {s : State} (h_s : P s) : P (startStandby s) := by
    unfold startStandby
    try dsimp only
    repeat' first
      | with_reducible assumption
      | with_reducible apply closeFrames_foot hP k_regs k_out k_router k_ring k_maint k_hbm k_memory k_ing
      | with_reducible apply abortSlots_foot hP k_regs k_out k_router k_ring k_txn k_sched k_maint
      | with_reducible apply portDisable_foot hP k_regs k_out k_ring k_audio
      | with_reducible apply suspendEngines_foot hP k_regs k_out k_freeCount k_router k_ring k_maint k_hbm k_host k_memory k_ing k_eng
      | (with_reducible refine foldl_inv P _ (fun _ _ _ => ?_) _ _ ?_)
      | with_reducible apply Closed.setF hP k_regs
      | with_reducible apply ite_closed
      | (intro _ _)
      | (intro _)
      | dsimp only
      | split

theorem parkHead_foot (hP : Closed F P) (k_regs : F .regs = true) (k_out : F .out = true) (k_router : F .router = true) (k_maint : F .maint = true) (k_ing : F .ing = true) (k_heads : F .heads = true) (k_links : F .links = true) (k_keeper : F .keeper = true) (k_perf : F .perf = true) {s : State} {x1 : Fin 4} (h_s : P s) : P (parkHead s x1) := by
    unfold parkHead
    try dsimp only
    repeat' first
      | with_reducible assumption
      | with_reducible apply headStop_foot hP k_regs k_out k_router k_maint k_ing k_heads k_links k_keeper k_perf
      | with_reducible apply endField_foot hP k_regs k_out k_router k_maint
      | with_reducible apply setHeadState_foot hP k_regs
      | with_reducible apply ite_closed
      | (intro _ _)
      | (intro _)
      | dsimp only
      | split

theorem parkPanel_foot (hP : Closed F P) (k_regs : F .regs = true) (k_out : F .out = true) (k_router : F .router = true) (k_maint : F .maint = true) (k_hbm : F .hbm = true) (k_memory : F .memory = true) (k_keeper : F .keeper = true) (k_opt : F .opt = true) {s : State} (h_s : P s) : P (parkPanel s) := by
    unfold parkPanel
    try dsimp only
    repeat' first
      | with_reducible assumption
      | with_reducible apply dropReq_foot hP k_regs k_keeper
      | with_reducible apply panelDown_foot hP k_regs k_out k_router k_maint k_hbm k_memory k_keeper k_opt
      | with_reducible apply downAll_foot hP k_regs k_out k_router k_maint k_hbm k_memory k_keeper k_opt
      | with_reducible apply stepEnd_foot hP k_regs k_out k_router k_maint k_hbm k_memory k_keeper k_opt
      | with_reducible apply ite_closed
      | (intro _ _)
      | (intro _)
      | dsimp only
      | split

theorem beginWake_foot (hP : Closed F P) (k_regs : F .regs = true) (k_out : F .out = true) (k_router : F .router = true) (k_maint : F .maint = true) (k_therm : F .therm = true) {s : State} {cause : Nat} {reduced : Bool} (h_s : P s) : P (beginWake s cause reduced) := by
    unfold beginWake
    try dsimp only
    repeat' first
      | with_reducible assumption
      | with_reducible apply State.raise_foot hP k_regs k_out k_router k_maint
      | with_reducible apply Closed.setF hP k_regs
      | with_reducible apply ite_closed
      | (intro _ _)
      | (intro _)
      | dsimp only
      | split
      | (with_reducible apply Closed.therm hP k_therm)

theorem wakeCause_foot (hP : Closed F P) (k_regs : F .regs = true) (k_out : F .out = true) (k_router : F .router = true) (k_maint : F .maint = true) (k_therm : F .therm = true) {s : State} {cause : Nat} (h_s : P s) : P (wakeCause s cause) := by
    unfold wakeCause
    try dsimp only
    repeat' first
      | with_reducible assumption
      | with_reducible apply beginWake_foot hP k_regs k_out k_router k_maint k_therm
      | with_reducible apply ite_closed
      | (intro _ _)
      | (intro _)
      | dsimp only
      | split
      | (with_reducible apply Closed.therm hP k_therm)

theorem standbyMem_foot (hP : Closed F P) (k_memory : F .memory = true) {s : State} (h_s : P s) : P (standbyMem s) := by
    unfold standbyMem
    try dsimp only
    repeat' first
      | with_reducible assumption
      | with_reducible apply ite_closed
      | (intro _ _)
      | (intro _)
      | dsimp only
      | split
      | (with_reducible apply Closed.memory hP k_memory)

theorem stopFast_foot (hP : Closed F P) (k_power : F .power = true) {s : State} (h_s : P s) : P (stopFast s) := by
    unfold stopFast
    try dsimp only
    repeat' first
      | with_reducible assumption
      | with_reducible apply ite_closed
      | (intro _ _)
      | (intro _)
      | dsimp only
      | split
      | (with_reducible apply Closed.power hP k_power)

theorem reachStandby_foot (hP : Closed F P) (k_regs : F .regs = true) (k_out : F .out = true) (k_power : F .power = true) (k_servo : F .servo = true) (k_router : F .router = true) (k_ring : F .ring = true) (k_maint : F .maint = true) (k_hbm : F .hbm = true) (k_memory : F .memory = true) (k_ing : F .ing = true) (k_heads : F .heads = true) (k_links : F .links = true) (k_keeper : F .keeper = true) (k_opt : F .opt = true) (k_audio : F .audio = true) (k_therm : F .therm = true) (k_perf : F .perf = true) {s : State} (h_s : P s) : P (reachStandby s) := by
    unfold reachStandby
    try dsimp only
    repeat' first
      | with_reducible assumption
      | with_reducible apply parkHead_foot hP k_regs k_out k_router k_maint k_ing k_heads k_links k_keeper k_perf
      | with_reducible apply portHalt_foot hP k_regs k_out k_ring k_audio
      | with_reducible apply parkPanel_foot hP k_regs k_out k_router k_maint k_hbm k_memory k_keeper k_opt
      | with_reducible apply showLanes_foot hP k_regs
      | with_reducible apply laneOff_foot hP k_regs k_out k_links
      | with_reducible apply linkDown_foot hP k_regs k_out k_power k_router k_maint
      | with_reducible apply standbyMem_foot hP k_memory
      | with_reducible apply setSleep_foot hP k_regs
      | with_reducible apply standbyTime_foot hP k_regs k_out k_servo k_router k_maint
      | with_reducible apply stopFast_foot hP k_power
      | with_reducible apply showSlew_foot hP k_regs
      | with_reducible apply State.raise_foot hP k_regs k_out k_router k_maint
      | with_reducible apply showRefOut_foot hP k_out
      | with_reducible apply setPower_foot hP k_regs
      | with_reducible apply beginWake_foot hP k_regs k_out k_router k_maint k_therm
      | (with_reducible refine foldl_inv P _ (fun _ _ _ => ?_) _ _ ?_)
      | with_reducible apply Closed.setB hP k_regs
      | with_reducible apply elim_closed
      | with_reducible apply ite_closed
      | (intro _ _)
      | (intro _)
      | dsimp only
      | split

theorem execStandbyReached_foot (hP : Closed F P) (k_regs : F .regs = true) (k_out : F .out = true) (k_power : F .power = true) (k_servo : F .servo = true) (k_router : F .router = true) (k_ring : F .ring = true) (k_maint : F .maint = true) (k_hbm : F .hbm = true) (k_memory : F .memory = true) (k_ing : F .ing = true) (k_heads : F .heads = true) (k_links : F .links = true) (k_keeper : F .keeper = true) (k_opt : F .opt = true) (k_audio : F .audio = true) (k_therm : F .therm = true) (k_perf : F .perf = true) {s : State} (h_s : P s) : OutP P (execStandbyReached s) := by
    unfold execStandbyReached
    try dsimp only
    repeat' first
      | with_reducible assumption
      | with_reducible apply outP_next
      | with_reducible apply outP_done
      | with_reducible apply reachStandby_foot hP k_regs k_out k_power k_servo k_router k_ring k_maint k_hbm k_memory k_ing k_heads k_links k_keeper k_opt k_audio k_therm k_perf
      | with_reducible apply ite_closed
      | (intro _ _)
      | (intro _)
      | dsimp only
      | split

theorem trip_foot (hP : Closed F P) (k_regs : F .regs = true) (k_out : F .out = true) (k_freeCount : F .freeCount = true) (k_router : F .router = true) (k_ring : F .ring = true) (k_txn : F .txn = true) (k_sched : F .sched = true) (k_maint : F .maint = true) (k_hbm : F .hbm = true) (k_host : F .host = true) (k_memory : F .memory = true) (k_ing : F .ing = true) (k_eng : F .eng = true) (k_audio : F .audio = true) (k_therm : F .therm = true) {s : State} {z : Nat} (h_s : P s) : P (trip s z) := by
    unfold trip
    try dsimp only
    repeat' first
      | with_reducible assumption
      | with_reducible apply State.raise_foot hP k_regs k_out k_router k_maint
      | with_reducible apply startStandby_foot hP k_regs k_out k_freeCount k_router k_ring k_txn k_sched k_maint k_hbm k_host k_memory k_ing k_eng k_audio
      | with_reducible apply Closed.inc hP k_regs
      | with_reducible apply Closed.setF hP k_regs
      | with_reducible apply ite_closed
      | (intro _ _)
      | (intro _)
      | dsimp only
      | split
      | (with_reducible apply Closed.therm hP k_therm)

theorem watchWake_foot (hP : Closed F P) (k_regs : F .regs = true) (k_out : F .out = true) (k_router : F .router = true) (k_maint : F .maint = true) (k_therm : F .therm = true) {s : State} (h_s : P s) : P (watchWake s) := by
    unfold watchWake
    try dsimp only
    repeat' first
      | with_reducible assumption
      | with_reducible apply State.raise_foot hP k_regs k_out k_router k_maint
      | with_reducible apply ite_closed
      | (intro _ _)
      | (intro _)
      | dsimp only
      | split
      | (with_reducible apply Closed.therm hP k_therm)

theorem execSensorSample_foot (hP : Closed F P) (k_regs : F .regs = true) (k_out : F .out = true) (k_freeCount : F .freeCount = true) (k_power : F .power = true) (k_router : F .router = true) (k_ring : F .ring = true) (k_txn : F .txn = true) (k_sched : F .sched = true) (k_maint : F .maint = true) (k_hbm : F .hbm = true) (k_host : F .host = true) (k_memory : F .memory = true) (k_ing : F .ing = true) (k_eng : F .eng = true) (k_audio : F .audio = true) (k_therm : F .therm = true) {zone : Fin 8} {counts : List Nat} {s : State} (h_s : P s) : OutP P (execSensorSample zone counts s) := by
    unfold execSensorSample
    try dsimp only
    repeat' first
      | with_reducible assumption
      | with_reducible apply outP_next
      | with_reducible apply outP_done
      | with_reducible apply sampleZone_foot hP k_regs k_out k_freeCount k_power k_router k_maint k_therm
      | with_reducible apply trip_foot hP k_regs k_out k_freeCount k_router k_ring k_txn k_sched k_maint k_hbm k_host k_memory k_ing k_eng k_audio k_therm
      | with_reducible apply watchWake_foot hP k_regs k_out k_router k_maint k_therm
      | with_reducible apply ite_closed
      | (intro _ _)
      | (intro _)
      | dsimp only
      | split

theorem powerGate_foot (hP : Closed F P) (k_regs : F .regs = true) (k_out : F .out = true) (k_router : F .router = true) (k_maint : F .maint = true) {s : State} {r : Requester} {g : State → State} (h_s : P s) (h_g : ∀ y0, P y0 → P (g y0)) : P (powerGate s r g) := by
    unfold powerGate
    try dsimp only
    repeat' first
      | with_reducible assumption
      | with_reducible apply gatedIf_foot hP k_regs k_out k_router k_maint
      | with_reducible apply h_g
      | with_reducible apply ite_closed
      | (intro _ _)
      | (intro _)
      | dsimp only
      | split

theorem powerActive_foot (hP : Closed F P) (k_regs : F .regs = true) (k_out : F .out = true) (k_router : F .router = true) (k_maint : F .maint = true) (k_therm : F .therm = true) {s : State} (h_s : P s) : P (powerActive s) := by
    unfold powerActive
    try dsimp only
    repeat' first
      | with_reducible assumption
      | with_reducible apply beginWake_foot hP k_regs k_out k_router k_maint k_therm
      | with_reducible apply Closed.setF hP k_regs
      | with_reducible apply ite_closed
      | (intro _ _)
      | (intro _)
      | dsimp only
      | split

theorem powerReduced_foot (hP : Closed F P) (k_regs : F .regs = true) (k_out : F .out = true) (k_router : F .router = true) (k_maint : F .maint = true) (k_therm : F .therm = true) {s : State} (h_s : P s) : P (powerReduced s) := by
    unfold powerReduced
    try dsimp only
    repeat' first
      | with_reducible assumption
      | with_reducible apply beginWake_foot hP k_regs k_out k_router k_maint k_therm
      | with_reducible apply Closed.setF hP k_regs
      | with_reducible apply ite_closed
      | (intro _ _)
      | (intro _)
      | dsimp only
      | split

theorem powerStandby_foot (hP : Closed F P) (k_regs : F .regs = true) (k_out : F .out = true) (k_freeCount : F .freeCount = true) (k_router : F .router = true) (k_ring : F .ring = true) (k_txn : F .txn = true) (k_sched : F .sched = true) (k_maint : F .maint = true) (k_hbm : F .hbm = true) (k_host : F .host = true) (k_memory : F .memory = true) (k_ing : F .ing = true) (k_eng : F .eng = true) (k_audio : F .audio = true) (k_therm : F .therm = true) {s : State} (h_s : P s) : P (powerStandby s) := by
    unfold powerStandby
    try dsimp only
    repeat' first
      | with_reducible assumption
      | with_reducible apply startStandby_foot hP k_regs k_out k_freeCount k_router k_ring k_txn k_sched k_maint k_hbm k_host k_memory k_ing k_eng k_audio
      | with_reducible apply ite_closed
      | (intro _ _)
      | (intro _)
      | dsimp only
      | split
      | (with_reducible apply Closed.therm hP k_therm)

theorem powerCommand_foot (hP : Closed F P) (k_regs : F .regs = true) (k_out : F .out = true) (k_freeCount : F .freeCount = true) (k_router : F .router = true) (k_ring : F .ring = true) (k_txn : F .txn = true) (k_sched : F .sched = true) (k_maint : F .maint = true) (k_hbm : F .hbm = true) (k_host : F .host = true) (k_memory : F .memory = true) (k_ing : F .ing = true) (k_eng : F .eng = true) (k_audio : F .audio = true) (k_therm : F .therm = true) {s : State} {v : Word} (h_s : P s) : P (powerCommand s v) := by
    unfold powerCommand
    try dsimp only
    repeat' first
      | with_reducible assumption
      | with_reducible apply refuse_foot hP k_regs k_out k_router k_maint
      | with_reducible apply powerActive_foot hP k_regs k_out k_router k_maint k_therm
      | with_reducible apply powerReduced_foot hP k_regs k_out k_router k_maint k_therm
      | with_reducible apply powerStandby_foot hP k_regs k_out k_freeCount k_router k_ring k_txn k_sched k_maint k_hbm k_host k_memory k_ing k_eng k_audio k_therm
      | with_reducible apply ite_closed
      | (intro _ _)
      | (intro _)
      | dsimp only
      | split

theorem execPowerCmdActive_foot (hP : Closed F P) (k_regs : F .regs = true) (k_out : F .out = true) (k_router : F .router = true) (k_maint : F .maint = true) (k_therm : F .therm = true) {req : Requester} {s : State} (h_s : P s) : OutP P (execPowerCmdActive req s) := by
    unfold execPowerCmdActive
    try dsimp only
    repeat' first
      | with_reducible assumption
      | with_reducible apply outP_next
      | with_reducible apply outP_done
      | with_reducible apply powerGate_foot hP k_regs k_out k_router k_maint
      | with_reducible apply powerActive_foot hP k_regs k_out k_router k_maint k_therm
      | with_reducible apply ite_closed
      | (intro _ _)
      | (intro _)
      | dsimp only
      | split

theorem execPowerCmdReduced_foot (hP : Closed F P) (k_regs : F .regs = true) (k_out : F .out = true) (k_router : F .router = true) (k_maint : F .maint = true) (k_therm : F .therm = true) {req : Requester} {s : State} (h_s : P s) : OutP P (execPowerCmdReduced req s) := by
    unfold execPowerCmdReduced
    try dsimp only
    repeat' first
      | with_reducible assumption
      | with_reducible apply outP_next
      | with_reducible apply outP_done
      | with_reducible apply powerGate_foot hP k_regs k_out k_router k_maint
      | with_reducible apply powerReduced_foot hP k_regs k_out k_router k_maint k_therm
      | with_reducible apply ite_closed
      | (intro _ _)
      | (intro _)
      | dsimp only
      | split

theorem execPowerCmdStandby_foot (hP : Closed F P) (k_regs : F .regs = true) (k_out : F .out = true) (k_freeCount : F .freeCount = true) (k_router : F .router = true) (k_ring : F .ring = true) (k_txn : F .txn = true) (k_sched : F .sched = true) (k_maint : F .maint = true) (k_hbm : F .hbm = true) (k_host : F .host = true) (k_memory : F .memory = true) (k_ing : F .ing = true) (k_eng : F .eng = true) (k_audio : F .audio = true) (k_therm : F .therm = true) {req : Requester} {s : State} (h_s : P s) : OutP P (execPowerCmdStandby req s) := by
    unfold execPowerCmdStandby
    try dsimp only
    repeat' first
      | with_reducible assumption
      | with_reducible apply outP_next
      | with_reducible apply outP_done
      | with_reducible apply powerGate_foot hP k_regs k_out k_router k_maint
      | with_reducible apply powerStandby_foot hP k_regs k_out k_freeCount k_router k_ring k_txn k_sched k_maint k_hbm k_host k_memory k_ing k_eng k_audio k_therm
      | with_reducible apply ite_closed
      | (intro _ _)
      | (intro _)
      | dsimp only
      | split

theorem execWakeGpioEdge_foot (hP : Closed F P) (k_regs : F .regs = true) (k_out : F .out = true) (k_router : F .router = true) (k_maint : F .maint = true) (k_therm : F .therm = true) {g : Fin 8} {rising : Bool} {s : State} (h_s : P s) : OutP P (execWakeGpioEdge g rising s) := by
    unfold execWakeGpioEdge
    try dsimp only
    repeat' first
      | with_reducible assumption
      | with_reducible apply outP_next
      | with_reducible apply outP_done
      | with_reducible apply wakeCause_foot hP k_regs k_out k_router k_maint k_therm
      | with_reducible apply ite_closed
      | (intro _ _)
      | (intro _)
      | dsimp only
      | split

theorem wakeMemory_foot (hP : Closed F P) (k_regs : F .regs = true) (k_out : F .out = true) (k_router : F .router = true) (k_maint : F .maint = true) (k_memory : F .memory = true) {s : State} {t0 : Int} {t1 : Int} (h_s : P s) : P (wakeMemory s t0 t1) := by
    unfold wakeMemory
    try dsimp only
    repeat' first
      | with_reducible assumption
      | with_reducible apply putTemp_foot hP k_regs
      | with_reducible apply setSleep_foot hP k_regs
      | with_reducible apply markTrained_foot hP k_regs k_memory
      | with_reducible apply State.raise_foot hP k_regs k_out k_router k_maint
      | (with_reducible refine foldl_inv P _ (fun _ _ _ => ?_) _ _ ?_)
      | with_reducible apply ite_closed
      | (intro _ _)
      | (intro _)
      | dsimp only
      | split
      | (with_reducible apply Closed.memory hP k_memory)

theorem rejoin_foot (hP : Closed F P) (k_regs : F .regs = true) (k_out : F .out = true) (k_power : F .power = true) (k_router : F .router = true) (k_maint : F .maint = true) (k_heads : F .heads = true) (k_links : F .links = true) (k_perf : F .perf = true) {s : State} {x1 : Fin 4} (h_s : P s) : P (rejoin s x1) := by
    unfold rejoin
    try dsimp only
    repeat' first
      | with_reducible assumption
      | with_reducible apply setHeadState_foot hP k_regs
      | with_reducible apply joinSchedule_foot hP k_heads
      | with_reducible apply putHead_foot hP k_heads
      | with_reducible apply headFollows_foot hP k_regs k_out k_power k_router k_maint k_heads k_perf
      | with_reducible apply linkEnable_foot hP k_regs k_out k_links
      | with_reducible apply lanesWake_foot hP k_regs k_out k_links
      | with_reducible apply ite_closed
      | (intro _ _)
      | (intro _)
      | dsimp only
      | split

theorem wakeTime_foot (hP : Closed F P) (k_regs : F .regs = true) (k_out : F .out = true) (k_servo : F .servo = true) (k_router : F .router = true) (k_maint : F .maint = true) {s : State} (h_s : P s) : P (wakeTime s) := by
    unfold wakeTime
    try dsimp only
    repeat' first
      | with_reducible assumption
      | with_reducible apply enterDom_foot hP k_regs k_out k_servo k_router k_maint
      | (with_reducible refine foldl_inv P _ (fun _ _ _ => ?_) _ _ ?_)
      | with_reducible apply ite_closed
      | (intro _ _)
      | (intro _)
      | dsimp only
      | split

theorem wakePanel_foot (hP : Closed F P) (k_regs : F .regs = true) (k_out : F .out = true) (k_router : F .router = true) (k_maint : F .maint = true) (k_keeper : F .keeper = true) {s : State} (h_s : P s) : P (wakePanel s) := by
    unfold wakePanel
    try dsimp only
    repeat' first
      | with_reducible assumption
      | with_reducible apply panelOn_foot hP k_regs k_out k_router k_maint
      | with_reducible apply ite_closed
      | (intro _ _)
      | (intro _)
      | dsimp only
      | split
      | (with_reducible apply Closed.keeper hP k_keeper)

theorem execWakeClocksReady_foot (hP : Closed F P) (k_regs : F .regs = true) (k_out : F .out = true) (k_power : F .power = true) (k_servo : F .servo = true) (k_router : F .router = true) (k_maint : F .maint = true) (k_memory : F .memory = true) (k_ing : F .ing = true) (k_heads : F .heads = true) (k_links : F .links = true) (k_keeper : F .keeper = true) (k_therm : F .therm = true) (k_perf : F .perf = true) {temp0 : Int} {temp1 : Int} {s : State} (h_s : P s) : OutP P (execWakeClocksReady temp0 temp1 s) := by
    unfold execWakeClocksReady
    try dsimp only
    repeat' first
      | with_reducible assumption
      | with_reducible apply outP_next
      | with_reducible apply outP_done
      | with_reducible apply watchWake_foot hP k_regs k_out k_router k_maint k_therm
      | with_reducible apply showSlew_foot hP k_regs
      | with_reducible apply showRefOut_foot hP k_out
      | with_reducible apply setPower_foot hP k_regs
      | with_reducible apply wakeMemory_foot hP k_regs k_out k_router k_maint k_memory
      | with_reducible apply wakeTime_foot hP k_regs k_out k_servo k_router k_maint
      | with_reducible apply dispatch_foot hP k_ing
      | with_reducible apply wakePanel_foot hP k_regs k_out k_router k_maint k_keeper
      | with_reducible apply rejoin_foot hP k_regs k_out k_power k_router k_maint k_heads k_links k_perf
      | (with_reducible refine foldl_inv P _ (fun _ _ _ => ?_) _ _ ?_)
      | with_reducible apply Closed.setB hP k_regs
      | with_reducible apply ite_closed
      | (intro _ _)
      | (intro _)
      | dsimp only
      | split
      | (with_reducible apply Closed.power hP k_power)

end Sys2Proof.Machine
end

