-- ==== Sys2Proof/Laws/FootActions.lean ====
section
/-!
SUPPORT. Footprints of the definitions of Machine/Actions.lean: which parts of the state each of them may update.
-/
namespace Sys2Proof.Machine

variable {F : Part → Bool} {P : State → Prop}

theorem overrun_foot (hP : Closed F P) (k_regs : F .regs = true) (k_out : F .out = true) (k_router : F .router = true) (k_maint : F .maint = true) {s : State} {i : Nat} (h_s : P s) : P (overrun s i) := by
    unfold overrun
    try dsimp only
    repeat' first
      | with_reducible assumption
      | with_reducible apply State.raise_foot hP k_regs k_out k_router k_maint
      | with_reducible apply ite_closed
      | (intro _ _)
      | (intro _)
      | dsimp only
      | split

theorem slotDone_foot (hP : Closed F P) (k_regs : F .regs = true) (k_out : F .out = true) (k_router : F .router = true) (k_sched : F .sched = true) (k_maint : F .maint = true) {s : State} {i : Nat} {late : Bool} {above : Bool} (h_s : P s) : P (slotDone s i late above) := by
    unfold slotDone
    try dsimp only
    repeat' first
      | with_reducible assumption
      | with_reducible apply slotEnd_foot hP k_regs k_out k_router k_sched k_maint
      | with_reducible apply State.raise_foot hP k_regs k_out k_router k_maint
      | with_reducible apply ite_closed
      | (intro _ _)
      | (intro _)
      | dsimp only
      | split

theorem runSlot_foot (hP : Closed F P) (k_regs : F .regs = true) (k_out : F .out = true) (k_router : F .router = true) (k_sched : F .sched = true) (k_maint : F .maint = true) {s : State} {i : Nat} {action : Nat} {g : State → State × Bool} (h_s : P s) (h_g : ∀ y0, P y0 → P (g y0).1) : P (runSlot s i action g) := by
    unfold runSlot
    try dsimp only
    repeat' first
      | with_reducible assumption
      | with_reducible apply overrun_foot hP k_regs k_out k_router k_maint
      | with_reducible apply slotDone_foot hP k_regs k_out k_router k_sched k_maint
      | with_reducible apply slotEnd_foot hP k_regs k_out k_router k_sched k_maint
      | with_reducible apply h_g
      | (with_reducible apply fstP_of; with_reducible apply h_g)
      | with_reducible apply ite_closed
      | (intro _ _)
      | (intro _)
      | dsimp only
      | split

theorem runHeadSlot_foot (hP : Closed F P) (k_regs : F .regs = true) (k_out : F .out = true) (k_router : F .router = true) (k_sched : F .sched = true) (k_maint : F .maint = true) {s : State} {i : Nat} {action : Nat} {g : State → Fin 4 → State} (h_s : P s) (h_g : ∀ y0 y1, P y0 → P (g y0 y1)) : P (runHeadSlot s i action g) := by
    unfold runHeadSlot
    try dsimp only
    repeat' first
      | with_reducible assumption
      | with_reducible apply overrun_foot hP k_regs k_out k_router k_maint
      | with_reducible apply slotDone_foot hP k_regs k_out k_router k_sched k_maint
      | with_reducible apply State.raise_foot hP k_regs k_out k_router k_maint
      | with_reducible apply staleCount_foot hP k_regs
      | with_reducible apply slotEnd_foot hP k_regs k_out k_router k_sched k_maint
      | with_reducible apply h_g
      | with_reducible apply ite_closed
      | (intro _ _)
      | (intro _)
      | dsimp only
      | split

theorem execHeadCommit_foot (hP : Closed F P) (k_regs : F .regs = true) (k_eff : F .eff = true) (k_out : F .out = true) (k_router : F .router = true) (k_sched : F .sched = true) (k_maint : F .maint = true) {slot : Fin 256} {s : State} (h_s : P s) : OutP P (execHeadCommit slot s) := by
    unfold execHeadCommit
    try dsimp only
    repeat' first
      | with_reducible assumption
      | with_reducible apply outP_next
      | with_reducible apply outP_done
      | with_reducible apply runHeadSlot_foot hP k_regs k_out k_router k_sched k_maint
      | with_reducible apply commitGo_foot hP k_regs k_eff k_out k_router k_maint
      | with_reducible apply ite_closed
      | (intro _ _)
      | (intro _)
      | dsimp only
      | split

theorem testStart_foot (hP : Closed F P) (k_regs : F .regs = true) (k_out : F .out = true) (k_router : F .router = true) (k_maint : F .maint = true) (k_heads : F .heads = true) (k_links : F .links = true) {id : Nat} {s : State} {x2 : Fin 4} (h_s : P s) : P (testStart id s x2) := by
    unfold testStart
    try dsimp only
    repeat' first
      | with_reducible assumption
      | with_reducible apply prbsTest_foot hP k_regs k_out k_router k_maint k_links
      | with_reducible apply putHead_foot hP k_heads
      | with_reducible apply ite_closed
      | (intro _ _)
      | (intro _)
      | dsimp only
      | split

theorem execTestStart_foot (hP : Closed F P) (k_regs : F .regs = true) (k_out : F .out = true) (k_router : F .router = true) (k_sched : F .sched = true) (k_maint : F .maint = true) (k_heads : F .heads = true) (k_links : F .links = true) {slot : Fin 256} {s : State} (h_s : P s) : OutP P (execTestStart slot s) := by
    unfold execTestStart
    try dsimp only
    repeat' first
      | with_reducible assumption
      | with_reducible apply outP_next
      | with_reducible apply outP_done
      | with_reducible apply runHeadSlot_foot hP k_regs k_out k_router k_sched k_maint
      | with_reducible apply testStart_foot hP k_regs k_out k_router k_maint k_heads k_links
      | with_reducible apply ite_closed
      | (intro _ _)
      | (intro _)
      | dsimp only
      | split

theorem execTxnApply_foot (hP : Closed F P) (k_regs : F .regs = true) (k_out : F .out = true) (k_router : F .router = true) (k_ring : F .ring = true) (k_txn : F .txn = true) (k_sched : F .sched = true) (k_maint : F .maint = true) (k_ing : F .ing = true) (k_heads : F .heads = true) (k_links : F .links = true) {slot : Fin 256} {s : State} (h_s : P s) : OutP P (execTxnApply slot s) := by
    unfold execTxnApply
    try dsimp only
    repeat' first
      | with_reducible assumption
      | with_reducible apply outP_next
      | with_reducible apply outP_done
      | with_reducible apply runSlot_foot hP k_regs k_out k_router k_sched k_maint
      | with_reducible apply txnBegin_foot hP k_regs k_out k_router k_ring k_txn k_maint k_ing k_heads k_links
      | (with_reducible apply fstP_of; with_reducible apply txnBegin_foot hP k_regs k_out k_router k_ring k_txn k_maint k_ing k_heads k_links)
      | with_reducible apply putTxn_foot hP k_txn
      | (with_reducible exact fstP_elim (by assumption))
      | with_reducible apply foldl_fst
      | with_reducible apply ite_closed
      | (intro _ _)
      | (intro _)
      | dsimp only
      | split
      | with_reducible apply fstP_mk

theorem execAudioStart_foot (hP : Closed F P) (k_regs : F .regs = true) (k_out : F .out = true) (k_router : F .router = true) (k_ring : F .ring = true) (k_sched : F .sched = true) (k_maint : F .maint = true) (k_audio : F .audio = true) {slot : Fin 256} {s : State} (h_s : P s) : OutP P (execAudioStart slot s) := by
    unfold execAudioStart
    try dsimp only
    repeat' first
      | with_reducible assumption
      | with_reducible apply outP_next
      | with_reducible apply outP_done
      | with_reducible apply runSlot_foot hP k_regs k_out k_router k_sched k_maint
      | with_reducible apply startGroup_foot hP k_regs k_ring k_audio
      | with_reducible apply ite_closed
      | (intro _ _)
      | (intro _)
      | dsimp only
      | split

theorem execOpticBatch_foot (hP : Closed F P) (k_regs : F .regs = true) (k_out : F .out = true) (k_router : F .router = true) (k_sched : F .sched = true) (k_maint : F .maint = true) (k_hbm : F .hbm = true) (k_memory : F .memory = true) (k_opt : F .opt = true) {slot : Fin 256} {s : State} (h_s : P s) : OutP P (execOpticBatch slot s) := by
    unfold execOpticBatch
    try dsimp only
    repeat' first
      | with_reducible assumption
      | with_reducible apply outP_next
      | with_reducible apply outP_done
      | with_reducible apply runSlot_foot hP k_regs k_out k_router k_sched k_maint
      | with_reducible apply startBatch_foot hP k_regs k_out k_router k_maint k_hbm k_memory k_opt
      | (with_reducible apply fstP_of; with_reducible apply startBatch_foot hP k_regs k_out k_router k_maint k_hbm k_memory k_opt)
      | with_reducible apply batchRefuse_foot hP k_regs k_out k_router k_maint
      | (with_reducible exact fstP_elim (by assumption))
      | with_reducible apply foldl_fst
      | with_reducible apply ite_closed
      | (intro _ _)
      | (intro _)
      | dsimp only
      | split
      | with_reducible apply fstP_mk

theorem execGpioEdge_foot (hP : Closed F P) (k_regs : F .regs = true) (k_out : F .out = true) (k_router : F .router = true) (k_sched : F .sched = true) (k_maint : F .maint = true) {slot : Fin 256} {s : State} (h_s : P s) : OutP P (execGpioEdge slot s) := by
    unfold execGpioEdge
    try dsimp only
    repeat' first
      | with_reducible assumption
      | with_reducible apply outP_next
      | with_reducible apply outP_done
      | with_reducible apply runSlot_foot hP k_regs k_out k_router k_sched k_maint
      | with_reducible apply gpioEdge_foot hP k_regs k_out k_sched
      | with_reducible apply ite_closed
      | (intro _ _)
      | (intro _)
      | dsimp only
      | split

theorem execWake_foot (hP : Closed F P) (k_regs : F .regs = true) (k_out : F .out = true) (k_router : F .router = true) (k_sched : F .sched = true) (k_maint : F .maint = true) (k_therm : F .therm = true) {slot : Fin 256} {s : State} (h_s : P s) : OutP P (execWake slot s) := by
    unfold execWake
    try dsimp only
    repeat' first
      | with_reducible assumption
      | with_reducible apply outP_next
      | with_reducible apply outP_done
      | with_reducible apply runSlot_foot hP k_regs k_out k_router k_sched k_maint
      | with_reducible apply wakeCause_foot hP k_regs k_out k_router k_maint k_therm
      | with_reducible apply ite_closed
      | (intro _ _)
      | (intro _)
      | dsimp only
      | split

theorem stepOver_foot (hP : Closed F P) (k_regs : F .regs = true) (k_out : F .out = true) (k_router : F .router = true) (k_ring : F .ring = true) (k_txn : F .txn = true) (k_sched : F .sched = true) (k_maint : F .maint = true) {before_ : Nat} {s : State} {i : Nat} (h_s : P s) : P (stepOver before_ s i) := by
    unfold stepOver
    try dsimp only
    repeat' first
      | with_reducible assumption
      | with_reducible apply State.raise_foot hP k_regs k_out k_router k_maint
      | with_reducible apply slotEnd_foot hP k_regs k_out k_router k_sched k_maint
      | with_reducible apply txnLate_foot hP k_regs k_out k_router k_ring k_txn k_maint
      | with_reducible apply ite_closed
      | (intro _ _)
      | (intro _)
      | dsimp only
      | split
      | (with_reducible apply Closed.sched hP k_sched)

end Sys2Proof.Machine
end

