-- ==== Sys2Proof/Laws/FootJump.lean ====
section
/-!
SUPPORT. Footprints of the definitions of Machine/Jump.lean: which parts of the state each of them may update.
-/
namespace Sys2Proof.Machine

variable {F : Part → Bool} {P : State → Prop}

theorem pushMark_foot (hP : Closed F P) (k_router : F .router = true) {s : State} (h_s : P s) : P (pushMark s) := by
    unfold pushMark
    try dsimp only
    repeat' first
      | with_reducible assumption
      | with_reducible apply ite_closed
      | (intro _ _)
      | (intro _)
      | dsimp only
      | split
      | (with_reducible apply Closed.router hP k_router)

theorem stepTime_foot (hP : Closed F P) (k_clock : F .clock = true) (k_links : F .links = true) {s : State} {c : Int} (h_s : P s) : P (stepTime s c) := by
    unfold stepTime
    try dsimp only
    repeat' first
      | with_reducible assumption
      | with_reducible apply putLink_foot hP k_links
      | (with_reducible refine foldl_inv P _ (fun _ _ _ => ?_) _ _ ?_)
      | with_reducible apply ite_closed
      | (intro _ _)
      | (intro _)
      | dsimp only
      | split
      | (with_reducible refine Closed.clock hP k_clock _ _ ?_)

theorem headJump_foot (hP : Closed F P) (k_regs : F .regs = true) (k_out : F .out = true) (k_router : F .router = true) (k_maint : F .maint = true) (k_heads : F .heads = true) {c : Int} {e : Int} {s : State} {x3 : Fin 4} (h_s : P s) : P (headJump c e s x3) := by
    unfold headJump
    try dsimp only
    repeat' first
      | with_reducible assumption
      | with_reducible apply State.raise_foot hP k_regs k_out k_router k_maint
      | with_reducible apply showPhase_foot hP k_regs
      | with_reducible apply putHead_foot hP k_heads
      | with_reducible apply ite_closed
      | (intro _ _)
      | (intro _)
      | dsimp only
      | split

theorem stepForward_foot (hP : Closed F P) (k_regs : F .regs = true) (k_out : F .out = true) (k_clock : F .clock = true) (k_router : F .router = true) (k_ring : F .ring = true) (k_txn : F .txn = true) (k_sched : F .sched = true) (k_maint : F .maint = true) (k_hbm : F .hbm = true) (k_memory : F .memory = true) (k_ing : F .ing = true) (k_heads : F .heads = true) (k_links : F .links = true) (k_audio : F .audio = true) {s : State} {c : Int} (h_s : P s) : P (stepForward s c) := by
    unfold stepForward
    try dsimp only
    repeat' first
      | with_reducible assumption
      | with_reducible apply pushMark_foot hP k_router
      | with_reducible apply stepTime_foot hP k_clock k_links
      | with_reducible apply headJump_foot hP k_regs k_out k_router k_maint k_heads
      | with_reducible apply portJump_foot hP k_audio
      | with_reducible apply stepOver_foot hP k_regs k_out k_router k_ring k_txn k_sched k_maint
      | with_reducible apply closeOverdue_foot hP k_regs k_out k_router k_ring k_maint k_hbm k_memory k_ing
      | (with_reducible refine foldl_inv P _ (fun _ _ _ => ?_) _ _ ?_)
      | with_reducible apply ite_closed
      | (intro _ _)
      | (intro _)
      | dsimp only
      | split

theorem slewJump_foot (hP : Closed F P) (k_regs : F .regs = true) (k_servo : F .servo = true) {s : State} {c : Int} (h_s : P s) : P (slewJump s c) := by
    unfold slewJump
    try dsimp only
    repeat' first
      | with_reducible assumption
      | with_reducible apply startSlew_foot hP k_regs k_servo
      | with_reducible apply ite_closed
      | (intro _ _)
      | (intro _)
      | dsimp only
      | split
      | (with_reducible apply Closed.servo hP k_servo)

theorem acceptJump_foot (hP : Closed F P) (k_regs : F .regs = true) (k_out : F .out = true) (k_clock : F .clock = true) (k_servo : F .servo = true) (k_router : F .router = true) (k_ring : F .ring = true) (k_txn : F .txn = true) (k_sched : F .sched = true) (k_maint : F .maint = true) (k_hbm : F .hbm = true) (k_memory : F .memory = true) (k_ing : F .ing = true) (k_heads : F .heads = true) (k_links : F .links = true) (k_audio : F .audio = true) {s : State} {d : Nat} (h_s : P s) : P (acceptJump s d) := by
    unfold acceptJump
    try dsimp only
    repeat' first
      | with_reducible assumption
      | with_reducible apply enterDom_foot hP k_regs k_out k_servo k_router k_maint
      | with_reducible apply State.raise_foot hP k_regs k_out k_router k_maint
      | with_reducible apply slewJump_foot hP k_regs k_servo
      | with_reducible apply pushMark_foot hP k_router
      | with_reducible apply stepTime_foot hP k_clock k_links
      | with_reducible apply stepForward_foot hP k_regs k_out k_clock k_router k_ring k_txn k_sched k_maint k_hbm k_memory k_ing k_heads k_links k_audio
      | with_reducible apply Closed.wr64 hP k_regs
      | with_reducible apply ite_closed
      | (intro _ _)
      | (intro _)
      | dsimp only
      | split

theorem acceptJumpWrite_foot (hP : Closed F P) (k_regs : F .regs = true) (k_out : F .out = true) (k_clock : F .clock = true) (k_servo : F .servo = true) (k_router : F .router = true) (k_ring : F .ring = true) (k_txn : F .txn = true) (k_sched : F .sched = true) (k_maint : F .maint = true) (k_hbm : F .hbm = true) (k_memory : F .memory = true) (k_ing : F .ing = true) (k_heads : F .heads = true) (k_links : F .links = true) (k_audio : F .audio = true) {s : State} {v : Word} (h_s : P s) : P (acceptJumpWrite s v) := by
    unfold acceptJumpWrite
    try dsimp only
    repeat' first
      | with_reducible assumption
      | with_reducible apply acceptJump_foot hP k_regs k_out k_clock k_servo k_router k_ring k_txn k_sched k_maint k_hbm k_memory k_ing k_heads k_links k_audio
      | with_reducible apply refuse_foot hP k_regs k_out k_router k_maint
      | with_reducible apply ite_closed
      | (intro _ _)
      | (intro _)
      | dsimp only
      | split

theorem execAcceptJump_foot (hP : Closed F P) (k_regs : F .regs = true) (k_out : F .out = true) (k_clock : F .clock = true) (k_servo : F .servo = true) (k_router : F .router = true) (k_ring : F .ring = true) (k_txn : F .txn = true) (k_sched : F .sched = true) (k_maint : F .maint = true) (k_hbm : F .hbm = true) (k_memory : F .memory = true) (k_ing : F .ing = true) (k_heads : F .heads = true) (k_links : F .links = true) (k_audio : F .audio = true) {req : Requester} {value : Word} {s : State} (h_s : P s) : OutP P (execAcceptJump req value s) := by
    unfold execAcceptJump
    try dsimp only
    repeat' first
      | with_reducible assumption
      | with_reducible apply outP_next
      | with_reducible apply outP_done
      | with_reducible apply gated_foot hP k_regs k_out k_router k_maint
      | with_reducible apply acceptJumpWrite_foot hP k_regs k_out k_clock k_servo k_router k_ring k_txn k_sched k_maint k_hbm k_memory k_ing k_heads k_links k_audio
      | with_reducible apply ite_closed
      | (intro _ _)
      | (intro _)
      | dsimp only
      | split

end Sys2Proof.Machine
end

