-- ==== Sys2Proof/Laws/FootMaint.lean ====
section
/-!
SUPPORT. Footprints of the definitions of Machine/Maint.lean: which parts of the state each of them may update.
-/
namespace Sys2Proof.Machine

variable {F : Part → Bool} {P : State → Prop}

theorem putSlot_foot (hP : Closed F P) (k_maint : F .maint = true) {s : State} {b : Bool} {x : Option FwImage} (h_s : P s) : P (putSlot s b x) := by
    unfold putSlot
    try dsimp only
    repeat' first
      | with_reducible assumption
      | with_reducible apply ite_closed
      | (intro _ _)
      | (intro _)
      | dsimp only
      | split
      | (with_reducible apply Closed.maint hP k_maint)

theorem fwResult_foot (hP : Closed F P) (k_regs : F .regs = true) {s : State} {r : Nat} (h_s : P s) : P (fwResult s r) := by
    unfold fwResult
    try dsimp only
    repeat' first
      | with_reducible assumption
      | with_reducible apply Closed.setF hP k_regs
      | with_reducible apply ite_closed
      | (intro _ _)
      | (intro _)
      | dsimp only
      | split

theorem setFwState_foot (hP : Closed F P) (k_regs : F .regs = true) {s : State} {v : Nat} (h_s : P s) : P (setFwState s v) := by
    unfold setFwState
    try dsimp only
    repeat' first
      | with_reducible assumption
      | with_reducible apply Closed.setF hP k_regs
      | with_reducible apply ite_closed
      | (intro _ _)
      | (intro _)
      | dsimp only
      | split

theorem confirmSlot_foot (hP : Closed F P) (k_regs : F .regs = true) (k_maint : F .maint = true) {s : State} {b : Bool} (h_s : P s) : P (confirmSlot s b) := by
    unfold confirmSlot
    try dsimp only
    repeat' first
      | with_reducible assumption
      | with_reducible apply Closed.wr hP k_regs
      | with_reducible apply ite_closed
      | (intro _ _)
      | (intro _)
      | dsimp only
      | split
      | (with_reducible apply Closed.maint hP k_maint)

theorem stageImage_foot (hP : Closed F P) (k_regs : F .regs = true) (k_out : F .out = true) (k_router : F .router = true) (k_maint : F .maint = true) (k_memory : F .memory = true) {s : State} (h_s : P s) : P (stageImage s) := by
    unfold stageImage
    try dsimp only
    repeat' first
      | with_reducible assumption
      | with_reducible apply putSlot_foot hP k_maint
      | with_reducible apply touch_foot hP k_regs k_out k_router k_maint k_memory
      | with_reducible apply setFwState_foot hP k_regs
      | with_reducible apply ite_closed
      | (intro _ _)
      | (intro _)
      | dsimp only
      | split
      | (with_reducible apply Closed.maint hP k_maint)

theorem execFwStage_foot (hP : Closed F P) (k_regs : F .regs = true) (k_out : F .out = true) (k_router : F .router = true) (k_maint : F .maint = true) (k_memory : F .memory = true) {req : Requester} {s : State} (h_s : P s) : OutP P (execFwStage req s) := by
    unfold execFwStage
    try dsimp only
    repeat' first
      | with_reducible assumption
      | with_reducible apply outP_next
      | with_reducible apply outP_done
      | with_reducible apply gatedIf_foot hP k_regs k_out k_router k_maint
      | with_reducible apply stageImage_foot hP k_regs k_out k_router k_maint k_memory
      | with_reducible apply ite_closed
      | (intro _ _)
      | (intro _)
      | dsimp only
      | split

theorem execFwStageComplete_foot (hP : Closed F P) (k_regs : F .regs = true) (k_out : F .out = true) (k_router : F .router = true) (k_maint : F .maint = true) {mediaOk : Bool} {s : State} (h_s : P s) : OutP P (execFwStageComplete mediaOk s) := by
    unfold execFwStageComplete
    try dsimp only
    repeat' first
      | with_reducible assumption
      | with_reducible apply outP_next
      | with_reducible apply outP_done
      | with_reducible apply setFwState_foot hP k_regs
      | with_reducible apply fwResult_foot hP k_regs
      | with_reducible apply putSlot_foot hP k_maint
      | with_reducible apply State.raise_foot hP k_regs k_out k_router k_maint
      | with_reducible apply Closed.wr hP k_regs
      | with_reducible apply ite_closed
      | (intro _ _)
      | (intro _)
      | dsimp only
      | split
      | (with_reducible apply Closed.maint hP k_maint)

theorem swapGate_foot (hP : Closed F P) (k_regs : F .regs = true) (k_out : F .out = true) (k_router : F .router = true) (k_maint : F .maint = true) {s : State} {r : Requester} {ok : State → Bool} {g : State → State} (h_s : P s) (h_g : ∀ y0, P y0 → P (g y0)) : P (swapGate s r ok g) := by
    unfold swapGate
    try dsimp only
    repeat' first
      | with_reducible assumption
      | with_reducible apply gatedIf_foot hP k_regs k_out k_router k_maint
      | with_reducible apply h_g
      | with_reducible apply ite_closed
      | (intro _ _)
      | (intro _)
      | dsimp only
      | split

theorem pendSwap_foot (hP : Closed F P) (k_regs : F .regs = true) (k_maint : F .maint = true) {s : State} {x1 : Nat} (h_s : P s) : P (pendSwap s x1) := by
    unfold pendSwap
    try dsimp only
    repeat' first
      | with_reducible assumption
      | with_reducible apply Closed.setB hP k_regs
      | with_reducible apply ite_closed
      | (intro _ _)
      | (intro _)
      | dsimp only
      | split
      | (with_reducible apply Closed.maint hP k_maint)

theorem execFwSwap_foot (hP : Closed F P) (k_regs : F .regs = true) (k_out : F .out = true) (k_router : F .router = true) (k_maint : F .maint = true) {req : Requester} {x1 : Fin 4} {s : State} (h_s : P s) : OutP P (execFwSwap req x1 s) := by
    unfold execFwSwap
    try dsimp only
    repeat' first
      | with_reducible assumption
      | with_reducible apply outP_next
      | with_reducible apply outP_done
      | with_reducible apply swapGate_foot hP k_regs k_out k_router k_maint
      | with_reducible apply pendSwap_foot hP k_regs k_maint
      | with_reducible apply ite_closed
      | (intro _ _)
      | (intro _)
      | dsimp only
      | split

theorem fwFieldStart_foot (hP : Closed F P) (k_regs : F .regs = true) (k_out : F .out = true) (k_router : F .router = true) (k_maint : F .maint = true) {s : State} {x1 : Nat} (h_s : P s) : P (fwFieldStart s x1) := by
    unfold fwFieldStart
    try dsimp only
    repeat' first
      | with_reducible assumption
      | with_reducible apply State.raise_foot hP k_regs k_out k_router k_maint
      | with_reducible apply setFwState_foot hP k_regs
      | with_reducible apply Closed.wr hP k_regs
      | with_reducible apply Closed.setB hP k_regs
      | with_reducible apply ite_closed
      | (intro _ _)
      | (intro _)
      | dsimp only
      | split
      | (with_reducible apply Closed.maint hP k_maint)

theorem execFwSwapTimeout_foot (hP : Closed F P) (k_regs : F .regs = true) (k_maint : F .maint = true) {s : State} (h_s : P s) : OutP P (execFwSwapTimeout s) := by
    unfold execFwSwapTimeout
    try dsimp only
    repeat' first
      | with_reducible assumption
      | with_reducible apply outP_next
      | with_reducible apply outP_done
      | with_reducible apply fwResult_foot hP k_regs
      | with_reducible apply Closed.setB hP k_regs
      | with_reducible apply ite_closed
      | (intro _ _)
      | (intro _)
      | dsimp only
      | split
      | (with_reducible apply Closed.maint hP k_maint)

theorem runImage_foot (hP : Closed F P) (k_regs : F .regs = true) (k_maint : F .maint = true) {s : State} {b : Bool} (h_s : P s) : P (runImage s b) := by
    unfold runImage
    try dsimp only
    repeat' first
      | with_reducible assumption
      | with_reducible apply Closed.wrAll hP k_regs
      | with_reducible apply ite_closed
      | (intro _ _)
      | (intro _)
      | dsimp only
      | split
      | (with_reducible apply Closed.maint hP k_maint)

theorem fwRecord_foot (hP : Closed F P) (k_maint : F .maint = true) {s : State} {old : Word} (h_s : P s) : P (fwRecord s old) := by
    unfold fwRecord
    try dsimp only
    repeat' first
      | with_reducible assumption
      | with_reducible apply maintNote_foot hP k_maint
      | with_reducible apply ite_closed
      | (intro _ _)
      | (intro _)
      | dsimp only
      | split

theorem execFwTakeover_foot (hP : Closed F P) (k_regs : F .regs = true) (k_out : F .out = true) (k_router : F .router = true) (k_maint : F .maint = true) {s : State} (h_s : P s) : OutP P (execFwTakeover s) := by
    unfold execFwTakeover
    try dsimp only
    repeat' first
      | with_reducible assumption
      | with_reducible apply outP_next
      | with_reducible apply outP_done
      | with_reducible apply runImage_foot hP k_regs k_maint
      | with_reducible apply setFwState_foot hP k_regs
      | with_reducible apply State.raise_foot hP k_regs k_out k_router k_maint
      | with_reducible apply fwRecord_foot hP k_maint
      | with_reducible apply Closed.wr hP k_regs
      | with_reducible apply Closed.setB hP k_regs
      | with_reducible apply Closed.inc hP k_regs
      | with_reducible apply ite_closed
      | (intro _ _)
      | (intro _)
      | dsimp only
      | split
      | (with_reducible apply Closed.maint hP k_maint)

theorem revert_foot (hP : Closed F P) (k_regs : F .regs = true) (k_out : F .out = true) (k_router : F .router = true) (k_maint : F .maint = true) {s : State} {why : Nat} (h_s : P s) : P (revert s why) := by
    unfold revert
    try dsimp only
    repeat' first
      | with_reducible assumption
      | with_reducible apply putSlot_foot hP k_maint
      | with_reducible apply runImage_foot hP k_regs k_maint
      | with_reducible apply fwRecord_foot hP k_maint
      | with_reducible apply State.raise_foot hP k_regs k_out k_router k_maint
      | with_reducible apply Closed.wr hP k_regs
      | with_reducible apply Closed.inc hP k_regs
      | with_reducible apply Closed.setB hP k_regs
      | with_reducible apply ite_closed
      | (intro _ _)
      | (intro _)
      | dsimp only
      | split
      | (with_reducible apply Closed.maint hP k_maint)

theorem execFwSelfCheckFailure_foot (hP : Closed F P) (k_regs : F .regs = true) (k_out : F .out = true) (k_router : F .router = true) (k_maint : F .maint = true) {s : State} (h_s : P s) : OutP P (execFwSelfCheckFailure s) := by
    unfold execFwSelfCheckFailure
    try dsimp only
    repeat' first
      | with_reducible assumption
      | with_reducible apply outP_next
      | with_reducible apply outP_done
      | with_reducible apply revert_foot hP k_regs k_out k_router k_maint
      | with_reducible apply ite_closed
      | (intro _ _)
      | (intro _)
      | dsimp only
      | split

theorem execMgmtWatchdog_foot (hP : Closed F P) (k_regs : F .regs = true) (k_out : F .out = true) (k_router : F .router = true) (k_maint : F .maint = true) {s : State} (h_s : P s) : OutP P (execMgmtWatchdog s) := by
    unfold execMgmtWatchdog
    try dsimp only
    repeat' first
      | with_reducible assumption
      | with_reducible apply outP_next
      | with_reducible apply outP_done
      | with_reducible apply State.raise_foot hP k_regs k_out k_router k_maint
      | with_reducible apply revert_foot hP k_regs k_out k_router k_maint
      | with_reducible apply ite_closed
      | (intro _ _)
      | (intro _)
      | dsimp only
      | split

theorem execFwRevert_foot (hP : Closed F P) (k_regs : F .regs = true) (k_out : F .out = true) (k_router : F .router = true) (k_maint : F .maint = true) {req : Requester} {s : State} (h_s : P s) : OutP P (execFwRevert req s) := by
    unfold execFwRevert
    try dsimp only
    repeat' first
      | with_reducible assumption
      | with_reducible apply outP_next
      | with_reducible apply outP_done
      | with_reducible apply swapGate_foot hP k_regs k_out k_router k_maint
      | with_reducible apply revert_foot hP k_regs k_out k_router k_maint
      | with_reducible apply ite_closed
      | (intro _ _)
      | (intro _)
      | dsimp only
      | split

theorem toldConfirmed_foot (hP : Closed F P) (k_regs : F .regs = true) (k_out : F .out = true) (k_router : F .router = true) (k_maint : F .maint = true) {s : State} {b : Bool} {old : Word} (h_s : P s) : P (toldConfirmed s b old) := by
    unfold toldConfirmed
    try dsimp only
    repeat' first
      | with_reducible assumption
      | with_reducible apply fwRecord_foot hP k_maint
      | with_reducible apply State.raise_foot hP k_regs k_out k_router k_maint
      | with_reducible apply ite_closed
      | (intro _ _)
      | (intro _)
      | dsimp only
      | split

theorem confirmFw_foot (hP : Closed F P) (k_regs : F .regs = true) (k_out : F .out = true) (k_router : F .router = true) (k_maint : F .maint = true) {s : State} (h_s : P s) : P (confirmFw s) := by
    unfold confirmFw
    try dsimp only
    repeat' first
      | with_reducible assumption
      | with_reducible apply runImage_foot hP k_regs k_maint
      | with_reducible apply confirmSlot_foot hP k_regs k_maint
      | with_reducible apply setFwState_foot hP k_regs
      | with_reducible apply setStage_foot hP k_regs k_out
      | with_reducible apply toldConfirmed_foot hP k_regs k_out k_router k_maint
      | with_reducible apply Closed.wr hP k_regs
      | with_reducible apply Closed.setB hP k_regs
      | with_reducible apply ite_closed
      | (intro _ _)
      | (intro _)
      | dsimp only
      | split

theorem execFwConfirm_foot (hP : Closed F P) (k_regs : F .regs = true) (k_out : F .out = true) (k_router : F .router = true) (k_maint : F .maint = true) {req : Requester} {s : State} (h_s : P s) : OutP P (execFwConfirm req s) := by
    unfold execFwConfirm
    try dsimp only
    repeat' first
      | with_reducible assumption
      | with_reducible apply outP_next
      | with_reducible apply outP_done
      | with_reducible apply gatedIf_foot hP k_regs k_out k_router k_maint
      | with_reducible apply confirmFw_foot hP k_regs k_out k_router k_maint
      | with_reducible apply ite_closed
      | (intro _ _)
      | (intro _)
      | dsimp only
      | split

theorem fwCommand_foot (hP : Closed F P) (k_regs : F .regs = true) (k_out : F .out = true) (k_router : F .router = true) (k_maint : F .maint = true) (k_memory : F .memory = true) {s : State} {r : Requester} {v : Word} (h_s : P s) : P (fwCommand s r v) := by
    unfold fwCommand
    try dsimp only
    repeat' first
      | with_reducible assumption
      | with_reducible apply gatedIf_foot hP k_regs k_out k_router k_maint
      | with_reducible apply stageImage_foot hP k_regs k_out k_router k_maint k_memory
      | with_reducible apply swapGate_foot hP k_regs k_out k_router k_maint
      | with_reducible apply pendSwap_foot hP k_regs k_maint
      | with_reducible apply confirmFw_foot hP k_regs k_out k_router k_maint
      | with_reducible apply revert_foot hP k_regs k_out k_router k_maint
      | with_reducible apply refuse_foot hP k_regs k_out k_router k_maint
      | with_reducible apply ite_closed
      | (intro _ _)
      | (intro _)
      | dsimp only
      | split

theorem execMaintenanceLogRecordWrite_foot (hP : Closed F P) (k_regs : F .regs = true) (k_out : F .out = true) (k_router : F .router = true) (k_maint : F .maint = true) {s : State} (h_s : P s) : OutP P (execMaintenanceLogRecordWrite s) := by
    unfold execMaintenanceLogRecordWrite
    try dsimp only
    repeat' first
      | with_reducible assumption
      | with_reducible apply outP_next
      | with_reducible apply outP_done
      | with_reducible apply State.raise_foot hP k_regs k_out k_router k_maint
      | with_reducible apply Closed.emit hP k_out
      | with_reducible apply Closed.inc hP k_regs
      | with_reducible apply ite_closed
      | (intro _ _)
      | (intro _)
      | dsimp only
      | split
      | (with_reducible apply Closed.maint hP k_maint)

theorem execLifetimeRecord_foot (hP : Closed F P) (k_regs : F .regs = true) (k_maint : F .maint = true) {s : State} (h_s : P s) : OutP P (execLifetimeRecord s) := by
    unfold execLifetimeRecord
    try dsimp only
    repeat' first
      | with_reducible assumption
      | with_reducible apply outP_next
      | with_reducible apply outP_done
      | with_reducible apply maintNote_foot hP k_maint
      | with_reducible apply Closed.inc hP k_regs
      | with_reducible apply ite_closed
      | (intro _ _)
      | (intro _)
      | dsimp only
      | split
      | (with_reducible apply Closed.maint hP k_maint)

end Sys2Proof.Machine
end

