-- ==== Sys2Proof/Laws/FootRingCmd.lean ====
section
/-!
SUPPORT. Footprints of the definitions of Machine/RingCmd.lean: which parts of the state each of them may update.
-/
namespace Sys2Proof.Machine

variable {F : Part → Bool} {P : State → Prop}

theorem dropRx_foot (hP : Closed F P) (k_ing : F .ing = true) {s : State} {r : Nat} (h_s : P s) : P (dropRx s r) := by
    unfold dropRx
    try dsimp only
    repeat' first
      | with_reducible assumption
      | with_reducible apply giveSlots_foot hP k_ing
      | with_reducible apply ite_closed
      | (intro _ _)
      | (intro _)
      | dsimp only
      | split
      | (with_reducible apply Closed.ing hP k_ing)

theorem ringStop_foot (hP : Closed F P) (k_regs : F .regs = true) (k_out : F .out = true) (k_freeCount : F .freeCount = true) (k_router : F .router = true) (k_ring : F .ring = true) (k_maint : F .maint = true) (k_hbm : F .hbm = true) (k_host : F .host = true) (k_memory : F .memory = true) (k_ing : F .ing = true) (k_eng : F .eng = true) (k_links : F .links = true) (k_audio : F .audio = true) {s : State} {r : Nat} {abort : Bool} {fails : List Word} (h_s : P s) : P (ringStop s r abort fails) := by
    unfold ringStop
    try dsimp only
    repeat' first
      | with_reducible assumption
      | with_reducible apply abortJobs_foot hP k_regs k_out k_freeCount k_router k_ring k_maint k_hbm k_host k_memory k_eng k_links k_audio
      | with_reducible apply flushRing_foot hP k_regs k_out k_freeCount k_router k_ring k_maint k_memory
      | with_reducible apply dropRx_foot hP k_ing
      | with_reducible apply Closed.setB hP k_regs
      | with_reducible apply ite_closed
      | (intro _ _)
      | (intro _)
      | dsimp only
      | split

theorem ringStart_foot (hP : Closed F P) (k_regs : F .regs = true) (k_out : F .out = true) (k_router : F .router = true) (k_ring : F .ring = true) (k_maint : F .maint = true) {s : State} {r : Nat} {v : Word} (h_s : P s) : P (ringStart s r v) := by
    unfold ringStart
    try dsimp only
    repeat' first
      | with_reducible assumption
      | with_reducible apply refuse_foot hP k_regs k_out k_router k_maint
      | with_reducible apply State.raise_foot hP k_regs k_out k_router k_maint
      | with_reducible apply ringTurnOn_foot hP k_regs k_ring
      | with_reducible apply Closed.wr hP k_regs
      | with_reducible apply Closed.setF hP k_regs
      | with_reducible apply ite_closed
      | (intro _ _)
      | (intro _)
      | dsimp only
      | split

theorem ringHalt_foot (hP : Closed F P) (k_regs : F .regs = true) (k_out : F .out = true) (k_freeCount : F .freeCount = true) (k_router : F .router = true) (k_ring : F .ring = true) (k_maint : F .maint = true) (k_hbm : F .hbm = true) (k_host : F .host = true) (k_memory : F .memory = true) (k_ing : F .ing = true) (k_eng : F .eng = true) (k_links : F .links = true) (k_audio : F .audio = true) {s : State} {r : Nat} {v : Word} {fails : List Word} (h_s : P s) : P (ringHalt s r v fails) := by
    unfold ringHalt
    try dsimp only
    repeat' first
      | with_reducible assumption
      | with_reducible apply abortJobs_foot hP k_regs k_out k_freeCount k_router k_ring k_maint k_hbm k_host k_memory k_eng k_links k_audio
      | with_reducible apply refuse_foot hP k_regs k_out k_router k_maint
      | with_reducible apply ringStop_foot hP k_regs k_out k_freeCount k_router k_ring k_maint k_hbm k_host k_memory k_ing k_eng k_links k_audio
      | with_reducible apply Closed.wr hP k_regs
      | with_reducible apply ite_closed
      | (intro _ _)
      | (intro _)
      | dsimp only
      | split

theorem ringCtrlWrite_foot (hP : Closed F P) (k_regs : F .regs = true) (k_out : F .out = true) (k_freeCount : F .freeCount = true) (k_router : F .router = true) (k_ring : F .ring = true) (k_maint : F .maint = true) (k_hbm : F .hbm = true) (k_host : F .host = true) (k_memory : F .memory = true) (k_ing : F .ing = true) (k_eng : F .eng = true) (k_links : F .links = true) (k_audio : F .audio = true) {s : State} {r : Nat} {v : Word} {fails : List Word} (h_s : P s) : P (ringCtrlWrite s r v fails) := by
    unfold ringCtrlWrite
    try dsimp only
    repeat' first
      | with_reducible assumption
      | with_reducible apply ringStart_foot hP k_regs k_out k_router k_ring k_maint
      | with_reducible apply ringHalt_foot hP k_regs k_out k_freeCount k_router k_ring k_maint k_hbm k_host k_memory k_ing k_eng k_links k_audio
      | with_reducible apply ite_closed
      | (intro _ _)
      | (intro _)
      | dsimp only
      | split

theorem execRingEnable_foot (hP : Closed F P) (k_regs : F .regs = true) (k_out : F .out = true) (k_freeCount : F .freeCount = true) (k_router : F .router = true) (k_ring : F .ring = true) (k_maint : F .maint = true) (k_hbm : F .hbm = true) (k_host : F .host = true) (k_memory : F .memory = true) (k_ing : F .ing = true) (k_eng : F .eng = true) (k_links : F .links = true) (k_audio : F .audio = true) {req : Requester} {ring : Fin 8192} {value : Word} {s : State} (h_s : P s) : OutP P (execRingEnable req ring value s) := by
    unfold execRingEnable
    try dsimp only
    repeat' first
      | with_reducible assumption
      | with_reducible apply outP_next
      | with_reducible apply outP_done
      | with_reducible apply gated_foot hP k_regs k_out k_router k_maint
      | with_reducible apply ringCtrlWrite_foot hP k_regs k_out k_freeCount k_router k_ring k_maint k_hbm k_host k_memory k_ing k_eng k_links k_audio
      | with_reducible apply ite_closed
      | (intro _ _)
      | (intro _)
      | dsimp only
      | split

theorem execRingDisable_foot (hP : Closed F P) (k_regs : F .regs = true) (k_out : F .out = true) (k_freeCount : F .freeCount = true) (k_router : F .router = true) (k_ring : F .ring = true) (k_maint : F .maint = true) (k_hbm : F .hbm = true) (k_host : F .host = true) (k_memory : F .memory = true) (k_ing : F .ing = true) (k_eng : F .eng = true) (k_links : F .links = true) (k_audio : F .audio = true) {req : Requester} {ring : Fin 8192} {value : Word} {hostFails : List Word} {s : State} (h_s : P s) : OutP P (execRingDisable req ring value hostFails s) := by
    unfold execRingDisable
    try dsimp only
    repeat' first
      | with_reducible assumption
      | with_reducible apply outP_next
      | with_reducible apply outP_done
      | with_reducible apply gated_foot hP k_regs k_out k_router k_maint
      | with_reducible apply ringCtrlWrite_foot hP k_regs k_out k_freeCount k_router k_ring k_maint k_hbm k_host k_memory k_ing k_eng k_links k_audio
      | with_reducible apply ite_closed
      | (intro _ _)
      | (intro _)
      | dsimp only
      | split

theorem doorbellGo_foot (hP : Closed F P) (k_regs : F .regs = true) (k_out : F .out = true) (k_router : F .router = true) (k_maint : F .maint = true) (k_ing : F .ing = true) {s : State} {r : Nat} {idx : Word} (h_s : P s) : P (doorbellGo s r idx) := by
    unfold doorbellGo
    try dsimp only
    repeat' first
      | with_reducible assumption
      | with_reducible apply rxSkipped_foot hP k_regs k_out k_router k_maint k_ing
      | with_reducible apply Closed.wr hP k_regs
      | with_reducible apply ite_closed
      | (intro _ _)
      | (intro _)
      | dsimp only
      | split

theorem doorbellRefuse_foot (hP : Closed F P) (k_regs : F .regs = true) (k_out : F .out = true) (k_router : F .router = true) (k_maint : F .maint = true) {s : State} {r : Nat} {idx : Word} {why : Nat} (h_s : P s) : P (doorbellRefuse s r idx why) := by
    unfold doorbellRefuse
    try dsimp only
    repeat' first
      | with_reducible assumption
      | with_reducible apply State.raise_foot hP k_regs k_out k_router k_maint
      | with_reducible apply Closed.inc hP k_regs
      | with_reducible apply Closed.setF hP k_regs
      | with_reducible apply ite_closed
      | (intro _ _)
      | (intro _)
      | dsimp only
      | split

theorem execDoorbell_foot (hP : Closed F P) (k_regs : F .regs = true) (k_out : F .out = true) (k_router : F .router = true) (k_maint : F .maint = true) (k_ing : F .ing = true) {ring : Fin 8192} {index : Word} {epoch : BitVec 16} {_top : BitVec 16} {bytes : Nat} {s : State} (h_s : P s) : OutP P (execDoorbell ring index epoch _top bytes s) := by
    unfold execDoorbell
    try dsimp only
    repeat' first
      | with_reducible assumption
      | with_reducible apply outP_next
      | with_reducible apply outP_done
      | with_reducible apply refuse_foot hP k_regs k_out k_router k_maint
      | with_reducible apply doorbellGo_foot hP k_regs k_out k_router k_maint k_ing
      | with_reducible apply doorbellRefuse_foot hP k_regs k_out k_router k_maint
      | with_reducible apply ite_closed
      | (intro _ _)
      | (intro _)
      | dsimp only
      | split

theorem execHostReadFailure_foot (hP : Closed F P) (k_regs : F .regs = true) (k_out : F .out = true) (k_freeCount : F .freeCount = true) (k_router : F .router = true) (k_ring : F .ring = true) (k_maint : F .maint = true) (k_hbm : F .hbm = true) (k_host : F .host = true) (k_memory : F .memory = true) (k_ing : F .ing = true) (k_eng : F .eng = true) (k_links : F .links = true) (k_audio : F .audio = true) {ring : Fin 8192} {flushFails : List Word} {s : State} (h_s : P s) : OutP P (execHostReadFailure ring flushFails s) := by
    unfold execHostReadFailure
    try dsimp only
    repeat' first
      | with_reducible assumption
      | with_reducible apply outP_next
      | with_reducible apply outP_done
      | with_reducible apply State.raise_foot hP k_regs k_out k_router k_maint
      | with_reducible apply ringStop_foot hP k_regs k_out k_freeCount k_router k_ring k_maint k_hbm k_host k_memory k_ing k_eng k_links k_audio
      | with_reducible apply Closed.setB hP k_regs
      | with_reducible apply ite_closed
      | (intro _ _)
      | (intro _)
      | dsimp only
      | split

theorem execRingStalled_foot (hP : Closed F P) (k_regs : F .regs = true) (k_out : F .out = true) (k_router : F .router = true) (k_ring : F .ring = true) (k_maint : F .maint = true) {ring : Fin 8192} {s : State} (h_s : P s) : OutP P (execRingStalled ring s) := by
    unfold execRingStalled
    try dsimp only
    repeat' first
      | with_reducible assumption
      | with_reducible apply outP_next
      | with_reducible apply outP_done
      | with_reducible apply State.raise_foot hP k_regs k_out k_router k_maint
      | with_reducible apply ite_closed
      | (intro _ _)
      | (intro _)
      | dsimp only
      | split
      | (with_reducible apply Closed.ring hP k_ring)

theorem execCompletionRecordWrite_foot (hP : Closed F P) (k_regs : F .regs = true) (k_out : F .out = true) (k_router : F .router = true) (k_ring : F .ring = true) (k_maint : F .maint = true) (k_hbm : F .hbm = true) (k_host : F .host = true) (k_memory : F .memory = true) {ring : Fin 8192} {s : State} (h_s : P s) : OutP P (execCompletionRecordWrite ring s) := by
    unfold execCompletionRecordWrite
    try dsimp only
    repeat' first
      | with_reducible assumption
      | with_reducible apply outP_next
      | with_reducible apply outP_done
      | with_reducible apply writeComp_foot hP k_regs k_out k_router k_ring k_maint k_hbm k_host k_memory
      | with_reducible apply ite_closed
      | (intro _ _)
      | (intro _)
      | dsimp only
      | split

end Sys2Proof.Machine
end

