-- ==== Sys2Proof/Laws/FootRouter.lean ====
section
/-!
SUPPORT. Footprints of the definitions of Machine/Router.lean: which parts of the state each of them may update.
-/
namespace Sys2Proof.Machine

variable {F : Part → Bool} {P : State → Prop}

theorem headerGated_foot (hP : Closed F P) (k_regs : F .regs = true) (k_out : F .out = true) (k_router : F .router = true) (k_maint : F .maint = true) {s : State} {r : Requester} {a : Nat} {g : State → State} (h_s : P s) (h_g : ∀ y0, P y0 → P (g y0)) : P (headerGated s r a g) := by
    unfold headerGated
    try dsimp only
    repeat' first
      | with_reducible assumption
      | with_reducible apply unmappedOp_foot hP k_regs k_out k_router k_maint
      | with_reducible apply refuse_foot hP k_regs k_out k_router k_maint
      | with_reducible apply h_g
      | with_reducible apply ite_closed
      | (intro _ _)
      | (intro _)
      | dsimp only
      | split

theorem occurNow_foot (hP : Closed F P) (k_regs : F .regs = true) (k_out : F .out = true) (k_freeCount : F .freeCount = true) (k_router : F .router = true) (k_maint : F .maint = true) {s : State} {e : Ev} (h_s : P s) : P (occurNow s e) := by
    unfold occurNow
    try dsimp only
    repeat' first
      | with_reducible assumption
      | with_reducible apply State.raise_foot hP k_regs k_out k_router k_maint
      | with_reducible apply ite_closed
      | (intro _ _)
      | (intro _)
      | dsimp only
      | split
      | (with_reducible apply Closed.freeCount hP k_freeCount)

theorem statusClear_foot (hP : Closed F P) (k_regs : F .regs = true) (k_out : F .out = true) (k_freeCount : F .freeCount = true) (k_router : F .router = true) (k_maint : F .maint = true) {s : State} {base : Nat} {mask : Word} {occurring : Word} (h_s : P s) : P (statusClear s base mask occurring) := by
    unfold statusClear
    try dsimp only
    repeat' first
      | with_reducible assumption
      | with_reducible apply occurNow_foot hP k_regs k_out k_freeCount k_router k_maint
      | (with_reducible refine foldl_inv P _ (fun _ _ _ => ?_) _ _ ?_)
      | with_reducible apply Closed.wr hP k_regs
      | with_reducible apply ite_closed
      | (intro _ _)
      | (intro _)
      | dsimp only
      | split

theorem execEventStatusClear_foot (hP : Closed F P) (k_regs : F .regs = true) (k_out : F .out = true) (k_freeCount : F .freeCount = true) (k_router : F .router = true) (k_maint : F .maint = true) {req : Requester} {page : Nat} {mask : Word} {occurring : Word} {s : State} (h_s : P s) : OutP P (execEventStatusClear req page mask occurring s) := by
    unfold execEventStatusClear
    try dsimp only
    repeat' first
      | with_reducible assumption
      | with_reducible apply outP_next
      | with_reducible apply outP_done
      | with_reducible apply headerGated_foot hP k_regs k_out k_router k_maint
      | with_reducible apply statusClear_foot hP k_regs k_out k_freeCount k_router k_maint
      | with_reducible apply ite_closed
      | (intro _ _)
      | (intro _)
      | dsimp only
      | split

theorem forceWrite_foot (hP : Closed F P) (k_regs : F .regs = true) (k_out : F .out = true) (k_router : F .router = true) (k_maint : F .maint = true) {s : State} {base : Nat} {mask : Word} (h_s : P s) : P (forceWrite s base mask) := by
    unfold forceWrite
    try dsimp only
    repeat' first
      | with_reducible assumption
      | with_reducible apply State.force_foot hP k_regs k_out k_router k_maint
      | (with_reducible refine foldl_inv P _ (fun _ _ _ => ?_) _ _ ?_)
      | with_reducible apply ite_closed
      | (intro _ _)
      | (intro _)
      | dsimp only
      | split

theorem execEventForce_foot (hP : Closed F P) (k_regs : F .regs = true) (k_out : F .out = true) (k_router : F .router = true) (k_maint : F .maint = true) {req : Requester} {page : Nat} {mask : Word} {s : State} (h_s : P s) : OutP P (execEventForce req page mask s) := by
    unfold execEventForce
    try dsimp only
    repeat' first
      | with_reducible assumption
      | with_reducible apply outP_next
      | with_reducible apply outP_done
      | with_reducible apply headerGated_foot hP k_regs k_out k_router k_maint
      | with_reducible apply forceWrite_foot hP k_regs k_out k_router k_maint
      | with_reducible apply ite_closed
      | (intro _ _)
      | (intro _)
      | dsimp only
      | split

theorem execVectorHoldoffEnd_foot (hP : Closed F P) (k_regs : F .regs = true) (k_out : F .out = true) (k_router : F .router = true) {v : Fin 64} {s : State} (h_s : P s) : OutP P (execVectorHoldoffEnd v s) := by
    unfold execVectorHoldoffEnd
    try dsimp only
    repeat' first
      | with_reducible assumption
      | with_reducible apply outP_next
      | with_reducible apply outP_done
      | with_reducible apply sendVector_foot hP k_regs k_out k_router
      | with_reducible apply ite_closed
      | (intro _ _)
      | (intro _)
      | dsimp only
      | split
      | (with_reducible apply Closed.router hP k_router)

theorem unmaskVector_foot (hP : Closed F P) (k_regs : F .regs = true) (k_out : F .out = true) (k_router : F .router = true) {s : State} {v : Nat} (h_s : P s) : P (unmaskVector s v) := by
    unfold unmaskVector
    try dsimp only
    repeat' first
      | with_reducible assumption
      | with_reducible apply triggerVector_foot hP k_regs k_out k_router
      | with_reducible apply Closed.setB hP k_regs
      | with_reducible apply ite_closed
      | (intro _ _)
      | (intro _)
      | dsimp only
      | split

theorem execVectorUnmask_foot (hP : Closed F P) (k_regs : F .regs = true) (k_out : F .out = true) (k_router : F .router = true) {v : Fin 64} {s : State} (h_s : P s) : OutP P (execVectorUnmask v s) := by
    unfold execVectorUnmask
    try dsimp only
    repeat' first
      | with_reducible assumption
      | with_reducible apply outP_next
      | with_reducible apply outP_done
      | with_reducible apply unmaskVector_foot hP k_regs k_out k_router
      | with_reducible apply ite_closed
      | (intro _ _)
      | (intro _)
      | dsimp only
      | split

theorem logStart_foot (hP : Closed F P) (k_regs : F .regs = true) (k_out : F .out = true) (k_router : F .router = true) (k_ring : F .ring = true) (k_maint : F .maint = true) {s : State} {r : Nat} (h_s : P s) : P (logStart s r) := by
    unfold logStart
    try dsimp only
    repeat' first
      | with_reducible assumption
      | with_reducible apply refuse_foot hP k_regs k_out k_router k_maint
      | with_reducible apply State.raise_foot hP k_regs k_out k_router k_maint
      | with_reducible apply ringTurnOn_foot hP k_regs k_ring
      | with_reducible apply Closed.wr hP k_regs
      | with_reducible apply Closed.setF hP k_regs
      | with_reducible apply ite_closed
      | (intro _ _)
      | (intro _)
      | dsimp only
      | split
      | (with_reducible apply Closed.router hP k_router)

theorem logStop_foot (hP : Closed F P) (k_regs : F .regs = true) (k_out : F .out = true) (k_freeCount : F .freeCount = true) (k_router : F .router = true) (k_ring : F .ring = true) (k_maint : F .maint = true) (k_hbm : F .hbm = true) (k_host : F .host = true) (k_memory : F .memory = true) (k_ing : F .ing = true) (k_eng : F .eng = true) (k_links : F .links = true) (k_audio : F .audio = true) {s : State} (h_s : P s) : P (logStop s) := by
    unfold logStop
    try dsimp only
    repeat' first
      | with_reducible assumption
      | with_reducible apply ringStop_foot hP k_regs k_out k_freeCount k_router k_ring k_maint k_hbm k_host k_memory k_ing k_eng k_links k_audio
      | with_reducible apply Closed.setB hP k_regs
      | with_reducible apply ite_closed
      | (intro _ _)
      | (intro _)
      | dsimp only
      | split

theorem logRingWrite_foot (hP : Closed F P) (k_regs : F .regs = true) (k_out : F .out = true) (k_freeCount : F .freeCount = true) (k_router : F .router = true) (k_ring : F .ring = true) (k_maint : F .maint = true) (k_hbm : F .hbm = true) (k_host : F .host = true) (k_memory : F .memory = true) (k_ing : F .ing = true) (k_eng : F .eng = true) (k_links : F .links = true) (k_audio : F .audio = true) {s : State} {v : Word} (h_s : P s) : P (logRingWrite s v) := by
    unfold logRingWrite
    try dsimp only
    repeat' first
      | with_reducible assumption
      | with_reducible apply refuse_foot hP k_regs k_out k_router k_maint
      | with_reducible apply logStop_foot hP k_regs k_out k_freeCount k_router k_ring k_maint k_hbm k_host k_memory k_ing k_eng k_links k_audio
      | with_reducible apply logStart_foot hP k_regs k_out k_router k_ring k_maint
      | with_reducible apply Closed.wr hP k_regs
      | with_reducible apply ite_closed
      | (intro _ _)
      | (intro _)
      | dsimp only
      | split

theorem execLogRingEnable_foot (hP : Closed F P) (k_regs : F .regs = true) (k_out : F .out = true) (k_freeCount : F .freeCount = true) (k_router : F .router = true) (k_ring : F .ring = true) (k_maint : F .maint = true) (k_hbm : F .hbm = true) (k_host : F .host = true) (k_memory : F .memory = true) (k_ing : F .ing = true) (k_eng : F .eng = true) (k_links : F .links = true) (k_audio : F .audio = true) {req : Requester} {ring : Fin 8192} {s : State} (h_s : P s) : OutP P (execLogRingEnable req ring s) := by
    unfold execLogRingEnable
    try dsimp only
    repeat' first
      | with_reducible assumption
      | with_reducible apply outP_next
      | with_reducible apply outP_done
      | with_reducible apply gated_foot hP k_regs k_out k_router k_maint
      | with_reducible apply logRingWrite_foot hP k_regs k_out k_freeCount k_router k_ring k_maint k_hbm k_host k_memory k_ing k_eng k_links k_audio
      | with_reducible apply ite_closed
      | (intro _ _)
      | (intro _)
      | dsimp only
      | split

theorem execLogRingDisable_foot (hP : Closed F P) (k_regs : F .regs = true) (k_out : F .out = true) (k_freeCount : F .freeCount = true) (k_router : F .router = true) (k_ring : F .ring = true) (k_maint : F .maint = true) (k_hbm : F .hbm = true) (k_host : F .host = true) (k_memory : F .memory = true) (k_ing : F .ing = true) (k_eng : F .eng = true) (k_links : F .links = true) (k_audio : F .audio = true) {req : Requester} {s : State} (h_s : P s) : OutP P (execLogRingDisable req s) := by
    unfold execLogRingDisable
    try dsimp only
    repeat' first
      | with_reducible assumption
      | with_reducible apply outP_next
      | with_reducible apply outP_done
      | with_reducible apply gated_foot hP k_regs k_out k_router k_maint
      | with_reducible apply logStop_foot hP k_regs k_out k_freeCount k_router k_ring k_maint k_hbm k_host k_memory k_ing k_eng k_links k_audio
      | with_reducible apply ite_closed
      | (intro _ _)
      | (intro _)
      | dsimp only
      | split

theorem logPut_foot (hP : Closed F P) (k_regs : F .regs = true) (k_out : F .out = true) (k_router : F .router = true) (k_ring : F .ring = true) (k_maint : F .maint = true) (k_hbm : F .hbm = true) (k_host : F .host = true) (k_memory : F .memory = true) {s : State} {r : LogRec} (h_s : P s) : OptP P (logPut s r) := by
    unfold logPut
    try dsimp only
    repeat' first
      | with_reducible assumption
      | (with_reducible refine optP_of (by assumption) ?_)
      | with_reducible exact optP_none
      | with_reducible apply optP_getD
      | with_reducible apply optP_some
      | with_reducible apply ite_closed
      | with_reducible apply ringPush_foot hP k_regs k_out k_router k_maint k_hbm k_host k_memory
      | with_reducible apply ringUnstall_foot hP k_regs k_ring
      | with_reducible apply Closed.wr hP k_regs
      | with_reducible apply ite_closed
      | (intro _ _)
      | (intro _)
      | dsimp only
      | split
      | (with_reducible apply Closed.router hP k_router)

theorem logTake_foot (hP : Closed F P) (k_regs : F .regs = true) (k_out : F .out = true) (k_router : F .router = true) (k_ring : F .ring = true) (k_maint : F .maint = true) (k_hbm : F .hbm = true) (k_host : F .host = true) (k_memory : F .memory = true) {s : State} (h_s : P s) : P (logTake s) := by
    unfold logTake
    try dsimp only
    repeat' first
      | with_reducible assumption
      | (with_reducible refine optP_of (by assumption) ?_)
      | with_reducible exact optP_none
      | with_reducible apply optP_getD
      | with_reducible apply optP_some
      | with_reducible apply ringStall_foot hP k_regs k_ring
      | with_reducible apply logPut_foot hP k_regs k_out k_router k_ring k_maint k_hbm k_host k_memory
      | with_reducible apply Closed.wr hP k_regs
      | with_reducible apply ite_closed
      | (intro _ _)
      | (intro _)
      | dsimp only
      | split
      | (with_reducible apply Closed.router hP k_router)

theorem logMove_foot (hP : Closed F P) (k_regs : F .regs = true) (k_out : F .out = true) (k_router : F .router = true) (k_ring : F .ring = true) (k_maint : F .maint = true) (k_hbm : F .hbm = true) (k_host : F .host = true) (k_memory : F .memory = true) {s : State} (h_s : P s) : P (logMove s) := by
    unfold logMove
    try dsimp only
    repeat' first
      | with_reducible assumption
      | (with_reducible refine optP_of (by assumption) ?_)
      | with_reducible exact optP_none
      | with_reducible apply optP_getD
      | with_reducible apply optP_some
      | with_reducible apply logPut_foot hP k_regs k_out k_router k_ring k_maint k_hbm k_host k_memory
      | with_reducible apply logTake_foot hP k_regs k_out k_router k_ring k_maint k_hbm k_host k_memory
      | with_reducible apply ringStall_foot hP k_regs k_ring
      | with_reducible apply ite_closed
      | (intro _ _)
      | (intro _)
      | dsimp only
      | split

theorem execEventLogRecordWrite_foot (hP : Closed F P) (k_regs : F .regs = true) (k_out : F .out = true) (k_router : F .router = true) (k_ring : F .ring = true) (k_maint : F .maint = true) (k_hbm : F .hbm = true) (k_host : F .host = true) (k_memory : F .memory = true) {s : State} (h_s : P s) : OutP P (execEventLogRecordWrite s) := by
    unfold execEventLogRecordWrite
    try dsimp only
    repeat' first
      | with_reducible assumption
      | with_reducible apply outP_next
      | with_reducible apply outP_done
      | with_reducible apply logMove_foot hP k_regs k_out k_router k_ring k_maint k_hbm k_host k_memory
      | with_reducible apply ite_closed
      | (intro _ _)
      | (intro _)
      | dsimp only
      | split

theorem execTimeMark_foot (hP : Closed F P) (k_regs : F .regs = true) (k_out : F .out = true) (k_router : F .router = true) (k_ring : F .ring = true) (k_maint : F .maint = true) (k_hbm : F .hbm = true) (k_host : F .host = true) (k_memory : F .memory = true) {s : State} (h_s : P s) : OutP P (execTimeMark s) := by
    unfold execTimeMark
    try dsimp only
    repeat' first
      | with_reducible assumption
      | with_reducible apply outP_next
      | with_reducible apply outP_done
      | (with_reducible refine optP_of (by assumption) ?_)
      | with_reducible exact optP_none
      | with_reducible apply optP_getD
      | with_reducible apply optP_some
      | with_reducible apply logPut_foot hP k_regs k_out k_router k_ring k_maint k_hbm k_host k_memory
      | with_reducible apply ite_closed
      | (intro _ _)
      | (intro _)
      | dsimp only
      | split
      | (with_reducible apply Closed.router hP k_router)

theorem featureAccept_foot (hP : Closed F P) (k_regs : F .regs = true) (k_out : F .out = true) (k_router : F .router = true) (k_maint : F .maint = true) {s : State} {v : Word} (h_s : P s) : P (featureAccept s v) := by
    unfold featureAccept
    try dsimp only
    repeat' first
      | with_reducible assumption
      | with_reducible apply refuse_foot hP k_regs k_out k_router k_maint
      | with_reducible apply Closed.setB hP k_regs
      | with_reducible apply ite_closed
      | (intro _ _)
      | (intro _)
      | dsimp only
      | split

theorem execFeatureAccept_foot (hP : Closed F P) (k_regs : F .regs = true) (k_out : F .out = true) (k_router : F .router = true) (k_maint : F .maint = true) {req : Requester} {value : Word} {s : State} (h_s : P s) : OutP P (execFeatureAccept req value s) := by
    unfold execFeatureAccept
    try dsimp only
    repeat' first
      | with_reducible assumption
      | with_reducible apply outP_next
      | with_reducible apply outP_done
      | with_reducible apply gated_foot hP k_regs k_out k_router k_maint
      | with_reducible apply featureAccept_foot hP k_regs k_out k_router k_maint
      | with_reducible apply ite_closed
      | (intro _ _)
      | (intro _)
      | dsimp only
      | split

theorem drvFeatures_foot (hP : Closed F P) (k_regs : F .regs = true) (k_out : F .out = true) (k_router : F .router = true) (k_maint : F .maint = true) {s : State} {a : Nat} {v : Word} (h_s : P s) : P (drvFeatures s a v) := by
    unfold drvFeatures
    try dsimp only
    repeat' first
      | with_reducible assumption
      | with_reducible apply refuse_foot hP k_regs k_out k_router k_maint
      | with_reducible apply Closed.wr hP k_regs
      | with_reducible apply ite_closed
      | (intro _ _)
      | (intro _)
      | dsimp only
      | split

theorem featureCheck_foot (hP : Closed F P) (k_regs : F .regs = true) (k_out : F .out = true) (k_router : F .router = true) (k_maint : F .maint = true) {s : State} (h_s : P s) : P (featureCheck s) := by
    unfold featureCheck
    try dsimp only
    repeat' first
      | with_reducible assumption
      | with_reducible apply State.raise_foot hP k_regs k_out k_router k_maint
      | (with_reducible refine foldl_inv P _ (fun _ _ _ => ?_) _ _ ?_)
      | with_reducible apply Closed.setF hP k_regs
      | with_reducible apply Closed.setB hP k_regs
      | with_reducible apply Closed.wr hP k_regs
      | with_reducible apply ite_closed
      | (intro _ _)
      | (intro _)
      | dsimp only
      | split

theorem execFeatureCheckComplete_foot (hP : Closed F P) (k_regs : F .regs = true) (k_out : F .out = true) (k_router : F .router = true) (k_maint : F .maint = true) {s : State} (h_s : P s) : OutP P (execFeatureCheckComplete s) := by
    unfold execFeatureCheckComplete
    try dsimp only
    repeat' first
      | with_reducible assumption
      | with_reducible apply outP_next
      | with_reducible apply outP_done
      | with_reducible apply featureCheck_foot hP k_regs k_out k_router k_maint
      | with_reducible apply ite_closed
      | (intro _ _)
      | (intro _)
      | dsimp only
      | split

theorem flrTxns_foot (hP : Closed F P) (k_regs : F .regs = true) (k_out : F .out = true) (k_router : F .router = true) (k_ring : F .ring = true) (k_txn : F .txn = true) (k_maint : F .maint = true) {s : State} (h_s : P s) : P (flrTxns s) := by
    unfold flrTxns
    try dsimp only
    repeat' first
      | with_reducible assumption
      | with_reducible apply State.raise_foot hP k_regs k_out k_router k_maint
      | with_reducible apply txnOutcome_foot hP k_regs k_ring k_txn
      | with_reducible apply putTxn_foot hP k_txn
      | (with_reducible refine foldl_inv P _ (fun _ _ _ => ?_) _ _ ?_)
      | with_reducible apply ite_closed
      | (intro _ _)
      | (intro _)
      | dsimp only
      | split

theorem flrGo_foot (hP : Closed F P) (k_regs : F .regs = true) (k_out : F .out = true) (k_freeCount : F .freeCount = true) (k_router : F .router = true) (k_ring : F .ring = true) (k_txn : F .txn = true) (k_maint : F .maint = true) (k_hbm : F .hbm = true) (k_host : F .host = true) (k_memory : F .memory = true) (k_ing : F .ing = true) (k_eng : F .eng = true) (k_links : F .links = true) (k_audio : F .audio = true) {s : State} {fails : List HostRead} (h_s : P s) : P (flrGo s fails) := by
    unfold flrGo
    try dsimp only
    repeat' first
      | with_reducible assumption
      | with_reducible apply ringStop_foot hP k_regs k_out k_freeCount k_router k_ring k_maint k_hbm k_host k_memory k_ing k_eng k_links k_audio
      | with_reducible apply State.raise_foot hP k_regs k_out k_router k_maint
      | with_reducible apply flrTxns_foot hP k_regs k_out k_router k_ring k_txn k_maint
      | (with_reducible refine foldl_inv P _ (fun _ _ _ => ?_) _ _ ?_)
      | with_reducible apply ite_closed
      | (intro _ _)
      | (intro _)
      | dsimp only
      | split
      | (with_reducible apply Closed.regsFilter hP k_regs)

theorem execFunctionLevelReset_foot (hP : Closed F P) (k_regs : F .regs = true) (k_out : F .out = true) (k_freeCount : F .freeCount = true) (k_router : F .router = true) (k_ring : F .ring = true) (k_txn : F .txn = true) (k_maint : F .maint = true) (k_hbm : F .hbm = true) (k_host : F .host = true) (k_memory : F .memory = true) (k_ing : F .ing = true) (k_eng : F .eng = true) (k_links : F .links = true) (k_audio : F .audio = true) {hostFails : List HostRead} {s : State} (h_s : P s) : OutP P (execFunctionLevelReset hostFails s) := by
    unfold execFunctionLevelReset
    try dsimp only
    repeat' first
      | with_reducible assumption
      | with_reducible apply outP_next
      | with_reducible apply outP_done
      | with_reducible apply flrGo_foot hP k_regs k_out k_freeCount k_router k_ring k_txn k_maint k_hbm k_host k_memory k_ing k_eng k_links k_audio
      | with_reducible apply ite_closed
      | (intro _ _)
      | (intro _)
      | dsimp only
      | split

theorem execPerstAssert_foot (hP : Closed F P) (k_power : F .power = true) {s : State} (h_s : P s) : OutP P (execPerstAssert s) := by
    unfold execPerstAssert
    try dsimp only
    repeat' first
      | with_reducible assumption
      | with_reducible apply outP_next
      | with_reducible apply outP_done
      | with_reducible apply ite_closed
      | (intro _ _)
      | (intro _)
      | dsimp only
      | split
      | (with_reducible apply Closed.power hP k_power)

theorem execPerstDeassert_foot (hP : Closed F P) (k_regs : F .regs = true) (k_out : F .out = true) (k_freeCount : F .freeCount = true) (k_power : F .power = true) (k_router : F .router = true) (k_ring : F .ring = true) (k_txn : F .txn = true) (k_maint : F .maint = true) (k_hbm : F .hbm = true) (k_host : F .host = true) (k_memory : F .memory = true) (k_ing : F .ing = true) (k_eng : F .eng = true) (k_links : F .links = true) (k_audio : F .audio = true) {s : State} (h_s : P s) : OutP P (execPerstDeassert s) := by
    unfold execPerstDeassert
    try dsimp only
    repeat' first
      | with_reducible assumption
      | with_reducible apply outP_next
      | with_reducible apply outP_done
      | with_reducible apply flrGo_foot hP k_regs k_out k_freeCount k_router k_ring k_txn k_maint k_hbm k_host k_memory k_ing k_eng k_links k_audio
      | with_reducible apply ite_closed
      | (intro _ _)
      | (intro _)
      | dsimp only
      | split
      | (with_reducible apply Closed.power hP k_power)

theorem execPcieLinkDown_foot (hP : Closed F P) (k_regs : F .regs = true) (k_out : F .out = true) (k_power : F .power = true) (k_router : F .router = true) (k_maint : F .maint = true) {speedWidth : Word} {s : State} (h_s : P s) : OutP P (execPcieLinkDown speedWidth s) := by
    unfold execPcieLinkDown
    try dsimp only
    repeat' first
      | with_reducible assumption
      | with_reducible apply outP_next
      | with_reducible apply outP_done
      | with_reducible apply State.raise_foot hP k_regs k_out k_router k_maint
      | with_reducible apply State.tell_foot hP k_power
      | with_reducible apply ite_closed
      | (intro _ _)
      | (intro _)
      | dsimp only
      | split
      | (with_reducible apply Closed.power hP k_power)

theorem execPcieLinkUp_foot (hP : Closed F P) (k_power : F .power = true) {s : State} (h_s : P s) : OutP P (execPcieLinkUp s) := by
    unfold execPcieLinkUp
    try dsimp only
    repeat' first
      | with_reducible assumption
      | with_reducible apply outP_next
      | with_reducible apply outP_done
      | with_reducible apply ite_closed
      | (intro _ _)
      | (intro _)
      | dsimp only
      | split
      | (with_reducible apply Closed.power hP k_power)

end Sys2Proof.Machine
end

