-- ==== Sys2Proof/Laws/FootProfile.lean ====
section
/-!
SUPPORT. Footprints of the definitions of Machine/Profile.lean: which parts of the state each of them may update.
-/
namespace Sys2Proof.Machine

variable {F : Part → Bool} {P : State → Prop}

theorem putHeadSection_foot (hP : Closed F P) (k_regs : F .regs = true) {s : State} {l : List Byte} {x2 : Nat} (h_s : P s) : P (putHeadSection s l x2) := by
    unfold putHeadSection
    try dsimp only
    repeat' first
      | with_reducible assumption
      | with_reducible apply Closed.wrAll hP k_regs
      | with_reducible apply ite_closed
      | (intro _ _)
      | (intro _)
      | dsimp only
      | split

theorem asIf_foot (hP : Closed F P) (k_regs : F .regs = true) (k_keeper : F .keeper = true) {s : State} {l : List Byte} (h_s : P s) : P (asIf s l) := by
    unfold asIf
    try dsimp only
    repeat' first
      | with_reducible assumption
      | with_reducible apply loadRecord_foot hP k_regs
      | with_reducible apply putHeadSection_foot hP k_regs
      | (with_reducible refine foldl_inv P _ (fun _ _ _ => ?_) _ _ ?_)
      | with_reducible apply Closed.setB hP k_regs
      | with_reducible apply Closed.setF hP k_regs
      | with_reducible apply ite_closed
      | (intro _ _)
      | (intro _)
      | dsimp only
      | split
      | (with_reducible apply Closed.keeper hP k_keeper)

theorem setFail_foot (hP : Closed F P) (k_regs : F .regs = true) {s : State} {sec : Nat} {item : Nat} (h_s : P s) : P (setFail s sec item) := by
    unfold setFail
    try dsimp only
    repeat' first
      | with_reducible assumption
      | with_reducible apply Closed.setF hP k_regs
      | with_reducible apply ite_closed
      | (intro _ _)
      | (intro _)
      | dsimp only
      | split

end Sys2Proof.Machine
end

