-- ==== Sys2Proof/Laws/FootStartup.lean ====
section
/-!
SUPPORT. Footprints of the definitions of Machine/Startup.lean: which parts of the state each of them may update.
-/
namespace Sys2Proof.Machine

variable {F : Part → Bool} {P : State → Prop}

theorem logicReset_foot (hP : Closed F P) (k_regs : F .regs = true) (k_eff : F .eff = true) (k_power : F .power = true) (k_clock : F .clock = true) (k_servo : F .servo = true) (k_router : F .router = true) (k_bus : F .bus = true) (k_ring : F .ring = true) (k_txn : F .txn = true) (k_sched : F .sched = true) (k_maint : F .maint = true) (k_hbm : F .hbm = true) (k_memory : F .memory = true) (k_ing : F .ing = true) (k_eng : F .eng = true) (k_heads : F .heads = true) (k_links : F .links = true) (k_keeper : F .keeper = true) (k_opt : F .opt = true) (k_audio : F .audio = true) (k_therm : F .therm = true) (k_perf : F .perf = true) {s : State}
    (h : P s) : P (logicReset s) := by
  have h1 := hP.hbmClear k_hbm (hP.effFilter k_eff (fun p => lasts p.1) (hP.regsFilter k_regs (fun p => lasts p.1) h))
  unfold logicReset
  dsimp only
  refine hP.setB k_regs _ _ _ (hP.rest ?_ ?_ ?_ ?_ ?_ ?_ h1)
  · intro p hp
    cases p <;> first | rfl | simp_all
  all_goals rfl

theorem execLvinApplied_foot (hP : Closed F P) (k_regs : F .regs = true) (k_eff : F .eff = true) (k_out : F .out = true) (k_power : F .power = true) (k_clock : F .clock = true) (k_servo : F .servo = true) (k_router : F .router = true) (k_bus : F .bus = true) (k_ring : F .ring = true) (k_txn : F .txn = true) (k_sched : F .sched = true) (k_maint : F .maint = true) (k_hbm : F .hbm = true) (k_memory : F .memory = true) (k_ing : F .ing = true) (k_eng : F .eng = true) (k_heads : F .heads = true) (k_links : F .links = true) (k_keeper : F .keeper = true) (k_opt : F .opt = true) (k_audio : F .audio = true) (k_therm : F .therm = true) (k_perf : F .perf = true) {s : State} (h_s : P s) : OutP P (execLvinApplied s) := by
    unfold execLvinApplied
    try dsimp only
    repeat' first
      | with_reducible assumption
      | with_reducible apply outP_next
      | with_reducible apply outP_done
      | with_reducible apply resetGeom_foot hP k_regs
      | with_reducible apply logicReset_foot hP k_regs k_eff k_power k_clock k_servo k_router k_bus k_ring k_txn k_sched k_maint k_hbm k_memory k_ing k_eng k_heads k_links k_keeper k_opt k_audio k_therm k_perf
      | with_reducible apply setStage_foot hP k_regs k_out
      | with_reducible apply ite_closed
      | (intro _ _)
      | (intro _)
      | dsimp only
      | split
      | (with_reducible apply Closed.power hP k_power)

theorem execLvinLost_foot (hP : Closed F P) (k_regs : F .regs = true) (k_eff : F .eff = true) (k_power : F .power = true) (k_clock : F .clock = true) (k_servo : F .servo = true) (k_router : F .router = true) (k_bus : F .bus = true) (k_ring : F .ring = true) (k_txn : F .txn = true) (k_sched : F .sched = true) (k_maint : F .maint = true) (k_hbm : F .hbm = true) (k_memory : F .memory = true) (k_ing : F .ing = true) (k_eng : F .eng = true) (k_heads : F .heads = true) (k_links : F .links = true) (k_keeper : F .keeper = true) (k_opt : F .opt = true) (k_audio : F .audio = true) (k_therm : F .therm = true) (k_perf : F .perf = true) {s : State} (h_s : P s) : OutP P (execLvinLost s) := by
    unfold execLvinLost
    try dsimp only
    repeat' first
      | with_reducible assumption
      | with_reducible apply outP_next
      | with_reducible apply outP_done
      | with_reducible apply logicReset_foot hP k_regs k_eff k_power k_clock k_servo k_router k_bus k_ring k_txn k_sched k_maint k_hbm k_memory k_ing k_eng k_heads k_links k_keeper k_opt k_audio k_therm k_perf
      | with_reducible apply ite_closed
      | (intro _ _)
      | (intro _)
      | dsimp only
      | split

theorem execFastClockStart_foot (hP : Closed F P) (k_regs : F .regs = true) (k_out : F .out = true) (k_power : F .power = true) (k_router : F .router = true) (k_maint : F .maint = true) {s : State} (h_s : P s) : OutP P (execFastClockStart s) := by
    unfold execFastClockStart
    try dsimp only
    repeat' first
      | with_reducible assumption
      | with_reducible apply outP_next
      | with_reducible apply outP_done
      | with_reducible apply State.raise_foot hP k_regs k_out k_router k_maint
      | with_reducible apply setStage_foot hP k_regs k_out
      | with_reducible apply Closed.setB hP k_regs
      | with_reducible apply ite_closed
      | (intro _ _)
      | (intro _)
      | dsimp only
      | split
      | (with_reducible apply Closed.power hP k_power)

theorem startImage_foot (hP : Closed F P) (k_regs : F .regs = true) (k_out : F .out = true) (k_maint : F .maint = true) {s : State} {b : Bool} (h_s : P s) : P (startImage s b) := by
    unfold startImage
    try dsimp only
    repeat' first
      | with_reducible assumption
      | with_reducible apply setStage_foot hP k_regs k_out
      | with_reducible apply runImage_foot hP k_regs k_maint
      | with_reducible apply ite_closed
      | (intro _ _)
      | (intro _)
      | dsimp only
      | split

theorem bootRom_foot (hP : Closed F P) (k_regs : F .regs = true) (k_out : F .out = true) (k_maint : F .maint = true) {s : State} (h_s : P s) : P (bootRom s) := by
    unfold bootRom
    try dsimp only
    repeat' first
      | with_reducible assumption
      | with_reducible apply startImage_foot hP k_regs k_out k_maint
      | with_reducible apply putSlot_foot hP k_maint
      | with_reducible apply confirmSlot_foot hP k_regs k_maint
      | with_reducible apply Closed.setF hP k_regs
      | with_reducible apply Closed.setB hP k_regs
      | with_reducible apply ite_closed
      | (intro _ _)
      | (intro _)
      | dsimp only
      | split

theorem readFlash_foot (hP : Closed F P) (k_regs : F .regs = true) {s : State} (h_s : P s) : P (readFlash s) := by
    unfold readFlash
    try dsimp only
    repeat' first
      | with_reducible assumption
      | with_reducible apply setFail_foot hP k_regs
      | with_reducible apply Closed.setF hP k_regs
      | with_reducible apply Closed.wr hP k_regs
      | with_reducible apply ite_closed
      | (intro _ _)
      | (intro _)
      | dsimp only
      | split

theorem compareJournal_foot (hP : Closed F P) (k_regs : F .regs = true) (k_keeper : F .keeper = true) {s : State} (h_s : P s) : P (compareJournal s) := by
    unfold compareJournal
    try dsimp only
    repeat' first
      | with_reducible assumption
      | with_reducible apply setJournal_foot hP k_regs
      | with_reducible apply copyProfile_foot hP k_regs k_keeper
      | with_reducible apply ite_closed
      | (intro _ _)
      | (intro _)
      | dsimp only
      | split

theorem noAuto_foot (hP : Closed F P) (k_keeper : F .keeper = true) {s : State} (h_s : P s) : P (noAuto s) := by
    unfold noAuto
    try dsimp only
    repeat' first
      | with_reducible assumption
      | with_reducible apply ite_closed
      | (intro _ _)
      | (intro _)
      | dsimp only
      | split
      | (with_reducible apply Closed.keeper hP k_keeper)

theorem decidePanel_foot (hP : Closed F P) (k_regs : F .regs = true) (k_out : F .out = true) (k_router : F .router = true) (k_maint : F .maint = true) (k_keeper : F .keeper = true) {s : State} (h_s : P s) : P (decidePanel s) := by
    unfold decidePanel
    try dsimp only
    repeat' first
      | with_reducible assumption
      | with_reducible apply panelOn_foot hP k_regs k_out k_router k_maint
      | with_reducible apply noAuto_foot hP k_keeper
      | with_reducible apply dropReq_foot hP k_regs k_keeper
      | with_reducible apply Closed.setB hP k_regs
      | with_reducible apply ite_closed
      | (intro _ _)
      | (intro _)
      | dsimp only
      | split
      | (with_reducible apply Closed.maint hP k_maint)

theorem firstMessage_foot (hP : Closed F P) (k_regs : F .regs = true) (k_out : F .out = true) (k_router : F .router = true) (k_maint : F .maint = true) (k_keeper : F .keeper = true) {s : State} (h_s : P s) : P (firstMessage s) := by
    unfold firstMessage
    try dsimp only
    repeat' first
      | with_reducible assumption
      | with_reducible apply compareJournal_foot hP k_regs k_keeper
      | with_reducible apply readFlash_foot hP k_regs
      | with_reducible apply decidePanel_foot hP k_regs k_out k_router k_maint k_keeper
      | with_reducible apply optShow_foot hP k_regs
      | with_reducible apply startPrecheck_foot hP k_regs
      | with_reducible apply noAuto_foot hP k_keeper
      | with_reducible apply ite_closed
      | (intro _ _)
      | (intro _)
      | dsimp only
      | split

theorem execBootImageVerified_foot (hP : Closed F P) (k_regs : F .regs = true) (k_out : F .out = true) (k_router : F .router = true) (k_maint : F .maint = true) (k_keeper : F .keeper = true) {s : State} (h_s : P s) : OutP P (execBootImageVerified s) := by
    unfold execBootImageVerified
    try dsimp only
    repeat' first
      | with_reducible assumption
      | with_reducible apply outP_next
      | with_reducible apply outP_done
      | with_reducible apply firstMessage_foot hP k_regs k_out k_router k_maint k_keeper
      | with_reducible apply bootRom_foot hP k_regs k_out k_maint
      | with_reducible apply ite_closed
      | (intro _ _)
      | (intro _)
      | dsimp only
      | split

theorem standbyLayer_foot (hP : Closed F P) (k_regs : F .regs = true) (k_out : F .out = true) (k_freeCount : F .freeCount = true) (k_router : F .router = true) (k_maint : F .maint = true) (k_hbm : F .hbm = true) (k_memory : F .memory = true) {s : State} {l : List Byte} {x2 : Nat} (h_s : P s) : P (standbyLayer s l x2) := by
    unfold standbyLayer
    try dsimp only
    repeat' first
      | with_reducible assumption
      | with_reducible apply hbmWrite_foot hP k_regs k_out k_router k_maint k_hbm k_memory
      | with_reducible apply setOn_foot hP k_regs
      | with_reducible apply Closed.useFree hP k_freeCount
      | with_reducible apply Closed.wrAll hP k_regs
      | with_reducible apply ite_closed
      | (intro _ _)
      | (intro _)
      | dsimp only
      | split

theorem standbyLanes_foot (hP : Closed F P) (k_regs : F .regs = true) {s : State} {l : List Byte} {x2 : Nat} (h_s : P s) : P (standbyLanes s l x2) := by
    unfold standbyLanes
    try dsimp only
    repeat' first
      | with_reducible assumption
      | with_reducible apply giveRole_foot hP k_regs
      | (with_reducible refine foldl_inv P _ (fun _ _ _ => ?_) _ _ ?_)
      | with_reducible apply Closed.setB hP k_regs
      | with_reducible apply ite_closed
      | (intro _ _)
      | (intro _)
      | dsimp only
      | split

theorem standbyHead_foot (hP : Closed F P) (k_regs : F .regs = true) (k_eff : F .eff = true) (k_out : F .out = true) (k_freeCount : F .freeCount = true) (k_router : F .router = true) (k_maint : F .maint = true) (k_hbm : F .hbm = true) (k_memory : F .memory = true) {l : List Byte} {s : State} {x2 : Nat} (h_s : P s) : P (standbyHead l s x2) := by
    unfold standbyHead
    try dsimp only
    repeat' first
      | with_reducible assumption
      | with_reducible apply giveRole_foot hP k_regs
      | with_reducible apply putHeadSection_foot hP k_regs
      | with_reducible apply putShadows_foot hP k_eff
      | with_reducible apply standbyLanes_foot hP k_regs
      | with_reducible apply standbyLayer_foot hP k_regs k_out k_freeCount k_router k_maint k_hbm k_memory
      | with_reducible apply ite_closed
      | (intro _ _)
      | (intro _)
      | dsimp only
      | split

theorem presentOptic_foot (hP : Closed F P) (k_maint : F .maint = true) {s : State} (h_s : P s) : P (presentOptic s) := by
    unfold presentOptic
    try dsimp only
    repeat' first
      | with_reducible assumption
      | with_reducible apply ite_closed
      | (intro _ _)
      | (intro _)
      | dsimp only
      | split
      | (with_reducible apply Closed.maint hP k_maint)

theorem standbyBatch_foot (hP : Closed F P) (k_regs : F .regs = true) (k_out : F .out = true) (k_router : F .router = true) (k_maint : F .maint = true) (k_hbm : F .hbm = true) (k_memory : F .memory = true) (k_opt : F .opt = true) {s : State} (h_s : P s) : P (standbyBatch s) := by
    unfold standbyBatch
    try dsimp only
    repeat' first
      | with_reducible assumption
      | with_reducible apply optEnable_foot hP k_regs k_out k_router k_maint k_hbm k_memory k_opt
      | with_reducible apply optShow_foot hP k_regs
      | with_reducible apply presentOptic_foot hP k_maint
      | with_reducible apply Closed.wrAll hP k_regs
      | with_reducible apply ite_closed
      | (intro _ _)
      | (intro _)
      | dsimp only
      | split
      | (with_reducible apply Closed.opt hP k_opt)

theorem configPresent_foot (hP : Closed F P) (k_regs : F .regs = true) (k_eff : F .eff = true) (k_out : F .out = true) (k_freeCount : F .freeCount = true) (k_router : F .router = true) (k_maint : F .maint = true) (k_hbm : F .hbm = true) (k_memory : F .memory = true) (k_opt : F .opt = true) {s : State} (h_s : P s) : P (configPresent s) := by
    unfold configPresent
    try dsimp only
    repeat' first
      | with_reducible assumption
      | with_reducible apply standbyHead_foot hP k_regs k_eff k_out k_freeCount k_router k_maint k_hbm k_memory
      | with_reducible apply standbyBatch_foot hP k_regs k_out k_router k_maint k_hbm k_memory k_opt
      | (with_reducible refine foldl_inv P _ (fun _ _ _ => ?_) _ _ ?_)
      | with_reducible apply ite_closed
      | (intro _ _)
      | (intro _)
      | dsimp only
      | split
      | (with_reducible apply Closed.maint hP k_maint)

theorem setHeld_foot (hP : Closed F P) (k_regs : F .regs = true) {s : State} {l : List Nat} {v : Bool} (h_s : P s) : P (setHeld s l v) := by
    unfold setHeld
    try dsimp only
    repeat' first
      | with_reducible assumption
      | (with_reducible refine foldl_inv P _ (fun _ _ _ => ?_) _ _ ?_)
      | with_reducible apply Closed.setB hP k_regs
      | with_reducible apply ite_closed
      | (intro _ _)
      | (intro _)
      | dsimp only
      | split

theorem presentAnchor_foot (hP : Closed F P) (k_regs : F .regs = true) {s : State} {x1 : Nat} (h_s : P s) : P (presentAnchor s x1) := by
    unfold presentAnchor
    try dsimp only
    repeat' first
      | with_reducible assumption
      | with_reducible apply Closed.wr64 hP k_regs
      | with_reducible apply ite_closed
      | (intro _ _)
      | (intro _)
      | dsimp only
      | split

theorem presentHead_foot (hP : Closed F P) (k_regs : F .regs = true) (k_out : F .out = true) (k_power : F .power = true) (k_router : F .router = true) (k_maint : F .maint = true) (k_heads : F .heads = true) (k_links : F .links = true) (k_perf : F .perf = true) {s : State} {x1 : Fin 4} (h_s : P s) : P (presentHead s x1) := by
    unfold presentHead
    try dsimp only
    repeat' first
      | with_reducible assumption
      | with_reducible apply setOn_foot hP k_regs
      | with_reducible apply zlEnable_foot hP k_regs k_out k_links
      | with_reducible apply presentAnchor_foot hP k_regs
      | with_reducible apply setHeld_foot hP k_regs
      | with_reducible apply headStart_foot hP k_regs k_out k_power k_router k_maint k_heads k_links k_perf
      | with_reducible apply ite_closed
      | (intro _ _)
      | (intro _)
      | dsimp only
      | split
      | (with_reducible apply Closed.maint hP k_maint)

theorem startPresent_foot (hP : Closed F P) (k_regs : F .regs = true) (k_out : F .out = true) (k_power : F .power = true) (k_router : F .router = true) (k_maint : F .maint = true) (k_hbm : F .hbm = true) (k_memory : F .memory = true) (k_heads : F .heads = true) (k_links : F .links = true) (k_opt : F .opt = true) (k_perf : F .perf = true) {s : State} (h_s : P s) : P (startPresent s) := by
    unfold startPresent
    try dsimp only
    repeat' first
      | with_reducible assumption
      | with_reducible apply presentHead_foot hP k_regs k_out k_power k_router k_maint k_heads k_links k_perf
      | with_reducible apply setHeld_foot hP k_regs
      | with_reducible apply startBatch_foot hP k_regs k_out k_router k_maint k_hbm k_memory k_opt
      | (with_reducible apply fstP_of; with_reducible apply startBatch_foot hP k_regs k_out k_router k_maint k_hbm k_memory k_opt)
      | (with_reducible exact fstP_elim (by assumption))
      | with_reducible apply foldl_fst
      | (with_reducible refine foldl_inv P _ (fun _ _ _ => ?_) _ _ ?_)
      | with_reducible apply Closed.setB hP k_regs
      | with_reducible apply ite_closed
      | (intro _ _)
      | (intro _)
      | dsimp only
      | split
      | with_reducible apply fstP_mk
      | (with_reducible apply Closed.maint hP k_maint)

theorem execSequenceStepComplete_foot (hP : Closed F P) (k_regs : F .regs = true) (k_out : F .out = true) (k_power : F .power = true) (k_router : F .router = true) (k_maint : F .maint = true) (k_hbm : F .hbm = true) (k_memory : F .memory = true) (k_heads : F .heads = true) (k_links : F .links = true) (k_keeper : F .keeper = true) (k_opt : F .opt = true) (k_perf : F .perf = true) {s : State} (h_s : P s) : OutP P (execSequenceStepComplete s) := by
    unfold execSequenceStepComplete
    try dsimp only
    repeat' first
      | with_reducible assumption
      | with_reducible apply outP_next
      | with_reducible apply outP_done
      | with_reducible apply startPresent_foot hP k_regs k_out k_power k_router k_maint k_hbm k_memory k_heads k_links k_opt k_perf
      | with_reducible apply stepEnd_foot hP k_regs k_out k_router k_maint k_hbm k_memory k_keeper k_opt
      | with_reducible apply ite_closed
      | (intro _ _)
      | (intro _)
      | dsimp only
      | split

theorem execKeeperChannelUp_foot (hP : Closed F P) (k_regs : F .regs = true) (k_out : F .out = true) (k_power : F .power = true) (k_router : F .router = true) (k_maint : F .maint = true) (k_hbm : F .hbm = true) (k_memory : F .memory = true) (k_heads : F .heads = true) (k_links : F .links = true) (k_keeper : F .keeper = true) (k_opt : F .opt = true) (k_perf : F .perf = true) {s : State} (h_s : P s) : OutP P (execKeeperChannelUp s) := by
    unfold execKeeperChannelUp
    try dsimp only
    repeat' first
      | with_reducible assumption
      | with_reducible apply outP_next
      | with_reducible apply outP_done
      | with_reducible apply State.raise_foot hP k_regs k_out k_router k_maint
      | with_reducible apply reportLoss_foot hP k_regs k_out k_router k_maint k_keeper
      | with_reducible apply setRail_foot hP k_regs
      | with_reducible apply optStopDue_foot hP k_regs k_opt
      | with_reducible apply writeWaiting_foot hP k_regs k_out k_router k_maint k_hbm k_memory k_opt
      | with_reducible apply journalCopy_foot hP k_regs k_keeper
      | with_reducible apply firstMessage_foot hP k_regs k_out k_router k_maint k_keeper
      | with_reducible apply startPresent_foot hP k_regs k_out k_power k_router k_maint k_hbm k_memory k_heads k_links k_opt k_perf
      | with_reducible apply optShow_foot hP k_regs
      | (with_reducible refine foldl_inv P _ (fun _ _ _ => ?_) _ _ ?_)
      | with_reducible apply Closed.setB hP k_regs
      | with_reducible apply ite_closed
      | (intro _ _)
      | (intro _)
      | dsimp only
      | split
      | (with_reducible apply Closed.keeper hP k_keeper)

theorem execStageReady_foot (hP : Closed F P) (k_regs : F .regs = true) (k_eff : F .eff = true) (k_out : F .out = true) (k_freeCount : F .freeCount = true) (k_power : F .power = true) (k_router : F .router = true) (k_ring : F .ring = true) (k_txn : F .txn = true) (k_sched : F .sched = true) (k_maint : F .maint = true) (k_hbm : F .hbm = true) (k_host : F .host = true) (k_memory : F .memory = true) (k_ing : F .ing = true) (k_eng : F .eng = true) (k_heads : F .heads = true) (k_links : F .links = true) (k_keeper : F .keeper = true) (k_opt : F .opt = true) (k_audio : F .audio = true) (k_perf : F .perf = true) {s : State} (h_s : P s) : OutP P (execStageReady s) := by
    unfold execStageReady
    try dsimp only
    repeat' first
      | with_reducible assumption
      | with_reducible apply outP_next
      | with_reducible apply outP_done
      | with_reducible apply readFlash_foot hP k_regs
      | with_reducible apply configPresent_foot hP k_regs k_eff k_out k_freeCount k_router k_maint k_hbm k_memory k_opt
      | with_reducible apply firstMessage_foot hP k_regs k_out k_router k_maint k_keeper
      | with_reducible apply setStage_foot hP k_regs k_out
      | with_reducible apply startStandby_foot hP k_regs k_out k_freeCount k_router k_ring k_txn k_sched k_maint k_hbm k_host k_memory k_ing k_eng k_audio
      | with_reducible apply startPresent_foot hP k_regs k_out k_power k_router k_maint k_hbm k_memory k_heads k_links k_opt k_perf
      | with_reducible apply Closed.wr hP k_regs
      | with_reducible apply ite_closed
      | (intro _ _)
      | (intro _)
      | dsimp only
      | split

theorem setInstall_foot (hP : Closed F P) (k_regs : F .regs = true) {s : State} {v : Nat} (h_s : P s) : P (setInstall s v) := by
    unfold setInstall
    try dsimp only
    repeat' first
      | with_reducible assumption
      | with_reducible apply Closed.setF hP k_regs
      | with_reducible apply ite_closed
      | (intro _ _)
      | (intro _)
      | dsimp only
      | split

theorem installProfile_foot (hP : Closed F P) (k_regs : F .regs = true) (k_out : F .out = true) (k_router : F .router = true) (k_maint : F .maint = true) (k_memory : F .memory = true) {s : State} (h_s : P s) : P (installProfile s) := by
    unfold installProfile
    try dsimp only
    repeat' first
      | with_reducible assumption
      | with_reducible apply refuse_foot hP k_regs k_out k_router k_maint
      | with_reducible apply setInstall_foot hP k_regs
      | with_reducible apply setFail_foot hP k_regs
      | with_reducible apply touch_foot hP k_regs k_out k_router k_maint k_memory
      | with_reducible apply Closed.setB hP k_regs
      | with_reducible apply ite_closed
      | (intro _ _)
      | (intro _)
      | dsimp only
      | split
      | (with_reducible apply Closed.maint hP k_maint)

theorem execProfileInstall_foot (hP : Closed F P) (k_regs : F .regs = true) (k_out : F .out = true) (k_router : F .router = true) (k_maint : F .maint = true) (k_memory : F .memory = true) {req : Requester} {s : State} (h_s : P s) : OutP P (execProfileInstall req s) := by
    unfold execProfileInstall
    try dsimp only
    repeat' first
      | with_reducible assumption
      | with_reducible apply outP_next
      | with_reducible apply outP_done
      | with_reducible apply gated_foot hP k_regs k_out k_router k_maint
      | with_reducible apply installProfile_foot hP k_regs k_out k_router k_maint k_memory
      | with_reducible apply ite_closed
      | (intro _ _)
      | (intro _)
      | dsimp only
      | split

theorem execProfileInstallComplete_foot (hP : Closed F P) (k_regs : F .regs = true) (k_maint : F .maint = true) (k_keeper : F .keeper = true) {mediaOk : Bool} {s : State} (h_s : P s) : OutP P (execProfileInstallComplete mediaOk s) := by
    unfold execProfileInstallComplete
    try dsimp only
    repeat' first
      | with_reducible assumption
      | with_reducible apply outP_next
      | with_reducible apply outP_done
      | with_reducible apply setInstall_foot hP k_regs
      | with_reducible apply optShow_foot hP k_regs
      | with_reducible apply journalCopy_foot hP k_regs k_keeper
      | with_reducible apply setJournal_foot hP k_regs
      | with_reducible apply Closed.setB hP k_regs
      | with_reducible apply Closed.wr hP k_regs
      | with_reducible apply Closed.setF hP k_regs
      | with_reducible apply ite_closed
      | (intro _ _)
      | (intro _)
      | dsimp only
      | split
      | (with_reducible apply Closed.maint hP k_maint)

theorem setHandover_foot (hP : Closed F P) (k_regs : F .regs = true) {s : State} {st : Nat} {code : Nat} (h_s : P s) : P (setHandover s st code) := by
    unfold setHandover
    try dsimp only
    repeat' first
      | with_reducible assumption
      | with_reducible apply Closed.setF hP k_regs
      | with_reducible apply ite_closed
      | (intro _ _)
      | (intro _)
      | dsimp only
      | split

theorem heldShow_foot (hP : Closed F P) (k_regs : F .regs = true) {s : State} (h_s : P s) : P (heldShow s) := by
    unfold heldShow
    try dsimp only
    repeat' first
      | with_reducible assumption
      | with_reducible apply setHandover_foot hP k_regs
      | with_reducible apply Closed.setB hP k_regs
      | with_reducible apply ite_closed
      | (intro _ _)
      | (intro _)
      | dsimp only
      | split

theorem handoverGo_foot (hP : Closed F P) (k_regs : F .regs = true) (k_out : F .out = true) (k_router : F .router = true) (k_maint : F .maint = true) {s : State} (h_s : P s) : P (handoverGo s) := by
    unfold handoverGo
    try dsimp only
    repeat' first
      | with_reducible assumption
      | with_reducible apply refuse_foot hP k_regs k_out k_router k_maint
      | with_reducible apply setHandover_foot hP k_regs
      | with_reducible apply heldShow_foot hP k_regs
      | with_reducible apply setHeld_foot hP k_regs
      | with_reducible apply Closed.wr hP k_regs
      | with_reducible apply ite_closed
      | (intro _ _)
      | (intro _)
      | dsimp only
      | split
      | (with_reducible apply Closed.maint hP k_maint)

theorem execHandover_foot (hP : Closed F P) (k_regs : F .regs = true) (k_out : F .out = true) (k_router : F .router = true) (k_maint : F .maint = true) {req : Requester} {s : State} (h_s : P s) : OutP P (execHandover req s) := by
    unfold execHandover
    try dsimp only
    repeat' first
      | with_reducible assumption
      | with_reducible apply outP_next
      | with_reducible apply outP_done
      | with_reducible apply gated_foot hP k_regs k_out k_router k_maint
      | with_reducible apply handoverGo_foot hP k_regs k_out k_router k_maint
      | with_reducible apply ite_closed
      | (intro _ _)
      | (intro _)
      | dsimp only
      | split

theorem handoverLatch_foot (hP : Closed F P) (k_regs : F .regs = true) (k_maint : F .maint = true) {s : State} {x1 : Nat} (h_s : P s) : P (handoverLatch s x1) := by
    unfold handoverLatch
    try dsimp only
    repeat' first
      | with_reducible assumption
      | with_reducible apply setHeld_foot hP k_regs
      | with_reducible apply heldShow_foot hP k_regs
      | with_reducible apply ite_closed
      | (intro _ _)
      | (intro _)
      | dsimp only
      | split
      | (with_reducible apply Closed.maint hP k_maint)

theorem execLatchPoint_foot (hP : Closed F P) (k_regs : F .regs = true) (k_eff : F .eff = true) (k_out : F .out = true) (k_freeCount : F .freeCount = true) (k_power : F .power = true) (k_router : F .router = true) (k_ring : F .ring = true) (k_txn : F .txn = true) (k_maint : F .maint = true) (k_memory : F .memory = true) (k_ing : F .ing = true) (k_heads : F .heads = true) (k_links : F .links = true) (k_perf : F .perf = true) {x0 : Fin 4} {s : State} (h_s : P s) : OutP P (execLatchPoint x0 s) := by
    unfold execLatchPoint
    try dsimp only
    repeat' first
      | with_reducible assumption
      | with_reducible apply outP_next
      | with_reducible apply outP_done
      | with_reducible apply handoverLatch_foot hP k_regs k_maint
      | with_reducible apply latchEvent_foot hP k_regs k_eff k_out k_freeCount k_power k_router k_ring k_txn k_maint k_memory k_ing k_heads k_links k_perf
      | with_reducible apply ite_closed
      | (intro _ _)
      | (intro _)
      | dsimp only
      | split

theorem wakeField_foot (hP : Closed F P) (k_keeper : F .keeper = true) {s : State} {x1 : Nat} (h_s : P s) : P (wakeField s x1) := by
    unfold wakeField
    try dsimp only
    repeat' first
      | with_reducible assumption
      | with_reducible apply ite_closed
      | (intro _ _)
      | (intro _)
      | dsimp only
      | split
      | (with_reducible apply Closed.keeper hP k_keeper)

theorem execFieldStart_foot (hP : Closed F P) (k_regs : F .regs = true) (k_eff : F .eff = true) (k_out : F .out = true) (k_router : F .router = true) (k_maint : F .maint = true) (k_memory : F .memory = true) (k_ing : F .ing = true) (k_heads : F .heads = true) (k_links : F .links = true) (k_keeper : F .keeper = true) (k_perf : F .perf = true) {x0 : Fin 4} {s : State} (h_s : P s) : OutP P (execFieldStart x0 s) := by
    unfold execFieldStart
    try dsimp only
    repeat' first
      | with_reducible assumption
      | with_reducible apply outP_next
      | with_reducible apply outP_done
      | with_reducible apply parkHead_foot hP k_regs k_out k_router k_maint k_ing k_heads k_links k_keeper k_perf
      | with_reducible apply fieldStart_foot hP k_regs k_out k_router k_maint k_memory k_ing k_heads k_links k_keeper k_perf
      | with_reducible apply fwFieldStart_foot hP k_regs k_out k_router k_maint
      | with_reducible apply wakeField_foot hP k_keeper
      | with_reducible apply gateField_foot hP k_regs k_eff k_out k_keeper
      | with_reducible apply ite_closed
      | (intro _ _)
      | (intro _)
      | dsimp only
      | split

theorem execBufferRelease_foot (hP : Closed F P) (k_regs : F .regs = true) (k_out : F .out = true) (k_router : F .router = true) (k_maint : F .maint = true) (k_heads : F .heads = true) {x0 : Fin 4} {k : Fin 8} {s : State} (h_s : P s) : OutP P (execBufferRelease x0 k s) := by
    unfold execBufferRelease
    try dsimp only
    repeat' first
      | with_reducible assumption
      | with_reducible apply outP_next
      | with_reducible apply outP_done
      | with_reducible apply releaseBuffer_foot hP k_regs k_out k_router k_maint k_heads
      | with_reducible apply Closed.setB hP k_regs
      | with_reducible apply ite_closed
      | (intro _ _)
      | (intro _)
      | dsimp only
      | split
      | (with_reducible apply Closed.maint hP k_maint)

end Sys2Proof.Machine
end

