-- ==== Sys2Proof/Laws/FootBus.lean ====
section
/-!
SUPPORT. Footprints of the definitions of Machine/Bus.lean: which parts of the state each of them may update.
-/
namespace Sys2Proof.Machine

variable {F : Part → Bool} {P : State → Prop}

theorem setHeldLow_foot (hP : Closed F P) (k_bus : F .bus = true) {s : State} {r : Requester} {lo : Nat} {v : Option Word} (h_s : P s) : P (setHeldLow s r lo v) := by
    unfold setHeldLow
    try dsimp only
    repeat' first
      | with_reducible assumption
      | with_reducible apply ite_closed
      | (intro _ _)
      | (intro _)
      | dsimp only
      | split
      | (with_reducible apply Closed.bus hP k_bus)

theorem ringDirty_foot (hP : Closed F P) (k_ring : F .ring = true) {s : State} {r : Nat} (h_s : P s) : P (ringDirty s r) := by
    unfold ringDirty
    try dsimp only
    repeat' first
      | with_reducible assumption
      | with_reducible apply ite_closed
      | (intro _ _)
      | (intro _)
      | dsimp only
      | split
      | (with_reducible apply Closed.ring hP k_ring)

theorem afterStore_foot (hP : Closed F P) (k_regs : F .regs = true) (k_ring : F .ring = true) {s : State} {a : Nat} (h_s : P s) : P (afterStore s a) := by
    unfold afterStore
    try dsimp only
    repeat' first
      | with_reducible assumption
      | with_reducible apply ringDirty_foot hP k_ring
      | with_reducible apply Closed.wr hP k_regs
      | with_reducible apply ite_closed
      | (intro _ _)
      | (intro _)
      | dsimp only
      | split

theorem wordWrite_foot (hP : Closed F P) (k_regs : F .regs = true) (k_out : F .out = true) (k_router : F .router = true) (k_ring : F .ring = true) (k_maint : F .maint = true) (k_ing : F .ing = true) (k_heads : F .heads = true) (k_links : F .links = true) {s : State} {a : Nat} {v : Word} (h_s : P s) : P (wordWrite s a v) := by
    unfold wordWrite
    try dsimp only
    repeat' first
      | with_reducible assumption
      | with_reducible apply directWrite_foot hP k_regs k_out k_router k_ring k_maint k_ing k_heads k_links
      | with_reducible apply afterStore_foot hP k_regs k_ring
      | with_reducible apply refuse_foot hP k_regs k_out k_router k_maint
      | with_reducible apply Closed.wr hP k_regs
      | with_reducible apply ite_closed
      | (intro _ _)
      | (intro _)
      | dsimp only
      | split

theorem pairStore_foot (hP : Closed F P) (k_regs : F .regs = true) (k_out : F .out = true) (k_router : F .router = true) (k_ring : F .ring = true) (k_maint : F .maint = true) (k_ing : F .ing = true) (k_heads : F .heads = true) (k_links : F .links = true) {s : State} {lo : Nat} {vlo : Word} {vhi : Word} (h_s : P s) : P (pairStore s lo vlo vhi) := by
    unfold pairStore
    try dsimp only
    repeat' first
      | with_reducible assumption
      | with_reducible apply refuse_foot hP k_regs k_out k_router k_maint
      | with_reducible apply applyReg_foot hP k_regs k_out k_router k_ring k_maint k_ing k_heads k_links
      | with_reducible apply afterStore_foot hP k_regs k_ring
      | with_reducible apply Closed.wr hP k_regs
      | with_reducible apply ite_closed
      | (intro _ _)
      | (intro _)
      | dsimp only
      | split

theorem pairWrite_foot (hP : Closed F P) (k_regs : F .regs = true) (k_out : F .out = true) (k_router : F .router = true) (k_ring : F .ring = true) (k_maint : F .maint = true) (k_ing : F .ing = true) (k_heads : F .heads = true) (k_links : F .links = true) {s : State} {lo : Nat} {vlo : Word} {vhi : Word} (h_s : P s) : P (pairWrite s lo vlo vhi) := by
    unfold pairWrite
    try dsimp only
    repeat' first
      | with_reducible assumption
      | with_reducible apply refuse_foot hP k_regs k_out k_router k_maint
      | with_reducible apply epochOffsetWrite_foot hP k_regs k_out k_router k_maint
      | with_reducible apply systemTopWrite_foot hP k_regs k_out k_router k_maint
      | with_reducible apply pairStore_foot hP k_regs k_out k_router k_ring k_maint k_ing k_heads k_links
      | with_reducible apply ite_closed
      | (intro _ _)
      | (intro _)
      | dsimp only
      | split

theorem txnCmdWrite_foot (hP : Closed F P) (k_regs : F .regs = true) (k_out : F .out = true) (k_router : F .router = true) (k_ring : F .ring = true) (k_txn : F .txn = true) (k_sched : F .sched = true) (k_maint : F .maint = true) {s : State} {req : Requester} {v : Word} (h_s : P s) : P (txnCmdWrite s req v) := by
    unfold txnCmdWrite
    try dsimp only
    repeat' first
      | with_reducible assumption
      | with_reducible apply refuse_foot hP k_regs k_out k_router k_maint
      | with_reducible apply txnOpen_foot hP k_regs k_txn
      | with_reducible apply commitCommand_foot hP k_regs k_out k_router k_txn k_maint
      | with_reducible apply rollbackCommand_foot hP k_regs k_out k_router k_ring k_txn k_sched k_maint
      | with_reducible apply ite_closed
      | (intro _ _)
      | (intro _)
      | dsimp only
      | split

theorem stageWrite_foot (hP : Closed F P) (k_regs : F .regs = true) (k_out : F .out = true) (k_router : F .router = true) (k_txn : F .txn = true) (k_maint : F .maint = true) {s : State} {req : Requester} {t : Nat} {v : Word} (h_s : P s) : P (stageWrite s req t v) := by
    unfold stageWrite
    try dsimp only
    repeat' first
      | with_reducible assumption
      | with_reducible apply stage_foot hP k_regs k_txn
      | with_reducible apply refuse_foot hP k_regs k_out k_router k_maint
      | with_reducible apply ite_closed
      | (intro _ _)
      | (intro _)
      | dsimp only
      | split

theorem slotCmdWrite_foot (hP : Closed F P) (k_regs : F .regs = true) (k_out : F .out = true) (k_router : F .router = true) (k_sched : F .sched = true) (k_maint : F .maint = true) {s : State} {req : Requester} {v : Word} (h_s : P s) : P (slotCmdWrite s req v) := by
    unfold slotCmdWrite
    try dsimp only
    repeat' first
      | with_reducible assumption
      | with_reducible apply armCommand_foot hP k_regs k_out k_router k_sched k_maint
      | with_reducible apply disarmCommand_foot hP k_regs k_out k_router k_sched k_maint
      | with_reducible apply ite_closed
      | (intro _ _)
      | (intro _)
      | dsimp only
      | split

theorem memCmdWrite_foot (hP : Closed F P) (k_regs : F .regs = true) (k_out : F .out = true) (k_router : F .router = true) (k_maint : F .maint = true) (k_hbm : F .hbm = true) (k_memory : F .memory = true) {s : State} {v : Word} (h_s : P s) : P (memCmdWrite s v) := by
    unfold memCmdWrite
    try dsimp only
    repeat' first
      | with_reducible assumption
      | with_reducible apply ackShrink_foot hP k_regs k_out k_router k_maint k_hbm k_memory
      | with_reducible apply migDue_foot hP k_regs k_out k_router k_maint k_hbm k_memory
      | with_reducible apply refuse_foot hP k_regs k_out k_router k_maint
      | with_reducible apply ite_closed
      | (intro _ _)
      | (intro _)
      | dsimp only
      | split

theorem lockPullWrite_foot (hP : Closed F P) (k_regs : F .regs = true) (k_out : F .out = true) (k_router : F .router = true) (k_maint : F .maint = true) (k_heads : F .heads = true) {s : State} {x1 : Nat} {v : Word} (h_s : P s) : P (lockPullWrite s x1 v) := by
    unfold lockPullWrite
    try dsimp only
    repeat' first
      | with_reducible assumption
      | with_reducible apply settleGroup_foot hP k_regs k_out k_router k_maint k_heads
      | with_reducible apply refuse_foot hP k_regs k_out k_router k_maint
      | with_reducible apply Closed.wr hP k_regs
      | with_reducible apply ite_closed
      | (intro _ _)
      | (intro _)
      | dsimp only
      | split

theorem portPullWrite_foot (hP : Closed F P) (k_regs : F .regs = true) (k_out : F .out = true) (k_router : F .router = true) (k_maint : F .maint = true) (k_audio : F .audio = true) {s : State} {p : Nat} {v : Word} (h_s : P s) : P (portPullWrite s p v) := by
    unfold portPullWrite
    try dsimp only
    repeat' first
      | with_reducible assumption
      | with_reducible apply putPort_foot hP k_audio
      | with_reducible apply refuse_foot hP k_regs k_out k_router k_maint
      | with_reducible apply Closed.wr hP k_regs
      | with_reducible apply ite_closed
      | (intro _ _)
      | (intro _)
      | dsimp only
      | split

theorem perfCmdWrite_foot (hP : Closed F P) (k_regs : F .regs = true) (k_out : F .out = true) (k_router : F .router = true) (k_maint : F .maint = true) (k_perf : F .perf = true) {s : State} {v : Word} (h_s : P s) : P (perfCmdWrite s v) := by
    unfold perfCmdWrite
    try dsimp only
    repeat' first
      | with_reducible assumption
      | with_reducible apply perfClear_foot hP k_regs
      | with_reducible apply takeDump_foot hP k_regs k_out k_router k_maint k_perf
      | with_reducible apply ite_closed
      | (intro _ _)
      | (intro _)
      | dsimp only
      | split

theorem actSystem_foot (hP : Closed F P) (k_regs : F .regs = true) (k_out : F .out = true) (k_freeCount : F .freeCount = true) (k_router : F .router = true) (k_ring : F .ring = true) (k_txn : F .txn = true) (k_sched : F .sched = true) (k_maint : F .maint = true) (k_hbm : F .hbm = true) (k_host : F .host = true) (k_memory : F .memory = true) (k_ing : F .ing = true) (k_eng : F .eng = true) (k_links : F .links = true) (k_audio : F .audio = true) {s : State} {req : Requester} {p : PageId} {o : Nat} {v : Word} (h_s : P s) : OptP P (actSystem s req p o v) := by
    unfold actSystem
    try dsimp only
    repeat' first
      | with_reducible assumption
      | (with_reducible refine optP_of (by assumption) ?_)
      | with_reducible exact optP_none
      | with_reducible apply optP_getD
      | with_reducible apply optP_some
      | with_reducible apply ite_closed
      | with_reducible apply drvFeatures_foot hP k_regs k_out k_router k_maint
      | with_reducible apply featureAccept_foot hP k_regs k_out k_router k_maint
      | with_reducible apply txnCmdWrite_foot hP k_regs k_out k_router k_ring k_txn k_sched k_maint
      | with_reducible apply stageWrite_foot hP k_regs k_out k_router k_txn k_maint
      | with_reducible apply logRingWrite_foot hP k_regs k_out k_freeCount k_router k_ring k_maint k_hbm k_host k_memory k_ing k_eng k_links k_audio
      | with_reducible apply unmaskVector_foot hP k_regs k_out k_router
      | with_reducible apply fwCommand_foot hP k_regs k_out k_router k_maint k_memory
      | with_reducible apply installProfile_foot hP k_regs k_out k_router k_maint k_memory
      | with_reducible apply handoverGo_foot hP k_regs k_out k_router k_maint
      | with_reducible apply Closed.wr hP k_regs
      | with_reducible apply ite_closed
      | (intro _ _)
      | (intro _)
      | dsimp only
      | split

theorem actTime_foot (hP : Closed F P) (k_regs : F .regs = true) (k_out : F .out = true) (k_power : F .power = true) (k_clock : F .clock = true) (k_servo : F .servo = true) (k_router : F .router = true) (k_ring : F .ring = true) (k_txn : F .txn = true) (k_sched : F .sched = true) (k_maint : F .maint = true) (k_hbm : F .hbm = true) (k_memory : F .memory = true) (k_ing : F .ing = true) (k_heads : F .heads = true) (k_links : F .links = true) (k_audio : F .audio = true) {s : State} {req : Requester} {p : PageId} {o : Nat} {v : Word} (h_s : P s) : OptP P (actTime s req p o v) := by
    unfold actTime
    try dsimp only
    repeat' first
      | with_reducible assumption
      | (with_reducible refine optP_of (by assumption) ?_)
      | with_reducible exact optP_none
      | with_reducible apply optP_getD
      | with_reducible apply optP_some
      | with_reducible apply ite_closed
      | with_reducible apply timeCtrl_foot hP k_regs k_servo
      | with_reducible apply domainSwitch_foot hP k_regs k_out k_power k_servo k_router k_maint
      | with_reducible apply acceptJumpWrite_foot hP k_regs k_out k_clock k_servo k_router k_ring k_txn k_sched k_maint k_hbm k_memory k_ing k_heads k_links k_audio
      | with_reducible apply auxCtrl_foot hP k_regs k_out k_sched
      | with_reducible apply auxLevel_foot hP k_regs k_out k_sched
      | with_reducible apply domCtrlWrite_foot hP k_regs k_out k_servo k_router k_maint
      | with_reducible apply slotCmdWrite_foot hP k_regs k_out k_router k_sched k_maint
      | with_reducible apply mcastWrite_foot hP k_regs k_out
      | with_reducible apply ite_closed
      | (intro _ _)
      | (intro _)
      | dsimp only
      | split

theorem actHead_foot (hP : Closed F P) (k_regs : F .regs = true) (k_eff : F .eff = true) (k_out : F .out = true) (k_power : F .power = true) (k_router : F .router = true) (k_maint : F .maint = true) (k_heads : F .heads = true) (k_links : F .links = true) (k_perf : F .perf = true) {s : State} {req : Requester} {p : PageId} {o : Nat} {v : Word} (h_s : P s) : OptP P (actHead s req p o v) := by
    unfold actHead
    try dsimp only
    repeat' first
      | with_reducible assumption
      | (with_reducible refine optP_of (by assumption) ?_)
      | with_reducible exact optP_none
      | with_reducible apply optP_getD
      | with_reducible apply optP_some
      | with_reducible apply ite_closed
      | with_reducible apply lockPullWrite_foot hP k_regs k_out k_router k_maint k_heads
      | with_reducible apply commitGo_foot hP k_regs k_eff k_out k_router k_maint
      | with_reducible apply mapCmdLoad_foot hP k_regs k_out k_router k_maint
      | with_reducible apply setLedger_foot hP k_regs
      | with_reducible apply laneCmdWrite_foot hP k_regs k_out k_power k_router k_maint k_heads k_links k_perf
      | with_reducible apply laneCtrl_foot hP k_regs k_out k_power k_router k_maint k_heads k_links k_perf
      | with_reducible apply roleWrite_foot hP k_regs k_out k_router k_maint
      | with_reducible apply prbsCtrl_foot hP k_regs k_out k_router k_maint k_links
      | with_reducible apply ite_closed
      | (intro _ _)
      | (intro _)
      | dsimp only
      | split

theorem actRail_foot (hP : Closed F P) (k_regs : F .regs = true) (k_out : F .out = true) (k_router : F .router = true) (k_ring : F .ring = true) (k_maint : F .maint = true) (k_hbm : F .hbm = true) (k_memory : F .memory = true) (k_ing : F .ing = true) (k_heads : F .heads = true) (k_links : F .links = true) (k_keeper : F .keeper = true) (k_opt : F .opt = true) {s : State} {req : Requester} {p : PageId} {o : Nat} {v : Word} (h_s : P s) : P (actRail s req p o v) := by
    unfold actRail
    try dsimp only
    repeat' first
      | with_reducible assumption
      | with_reducible apply railGate_foot hP k_regs k_out k_router k_maint
      | with_reducible apply faultClear_foot hP k_regs k_out k_router k_maint k_keeper
      | with_reducible apply crackAck_foot hP k_regs k_out k_router k_maint k_keeper
      | with_reducible apply panelCommand_foot hP k_regs k_out k_router k_maint k_hbm k_memory k_keeper k_opt
      | with_reducible apply wordWrite_foot hP k_regs k_out k_router k_ring k_maint k_ing k_heads k_links
      | with_reducible apply ite_closed
      | (intro _ _)
      | (intro _)
      | dsimp only
      | split

theorem actRest_foot (hP : Closed F P) (k_regs : F .regs = true) (k_out : F .out = true) (k_freeCount : F .freeCount = true) (k_router : F .router = true) (k_ring : F .ring = true) (k_txn : F .txn = true) (k_sched : F .sched = true) (k_maint : F .maint = true) (k_hbm : F .hbm = true) (k_host : F .host = true) (k_memory : F .memory = true) (k_ing : F .ing = true) (k_eng : F .eng = true) (k_opt : F .opt = true) (k_audio : F .audio = true) (k_therm : F .therm = true) (k_perf : F .perf = true) {s : State} {p : PageId} {o : Nat} {v : Word} (h_s : P s) : OptP P (actRest s p o v) := by
    unfold actRest
    try dsimp only
    repeat' first
      | with_reducible assumption
      | (with_reducible refine optP_of (by assumption) ?_)
      | with_reducible exact optP_none
      | with_reducible apply optP_getD
      | with_reducible apply optP_some
      | with_reducible apply ite_closed
      | with_reducible apply batchCommand_foot hP k_regs k_out k_freeCount k_router k_maint k_hbm k_memory k_opt
      | with_reducible apply refuse_foot hP k_regs k_out k_router k_maint
      | with_reducible apply eccInject_foot hP k_regs
      | with_reducible apply memCmdWrite_foot hP k_regs k_out k_router k_maint k_hbm k_memory
      | with_reducible apply slotMaskWrite_foot hP k_regs k_out k_router k_maint k_audio
      | with_reducible apply portPullWrite_foot hP k_regs k_out k_router k_maint k_audio
      | with_reducible apply contClear_foot hP k_regs k_audio
      | with_reducible apply mclkWrite_foot hP k_regs k_out
      | with_reducible apply startGroup_foot hP k_regs k_ring k_audio
      | with_reducible apply thresholdWrite_foot hP k_regs k_out k_router k_maint
      | with_reducible apply powerCommand_foot hP k_regs k_out k_freeCount k_router k_ring k_txn k_sched k_maint k_hbm k_host k_memory k_ing k_eng k_audio k_therm
      | with_reducible apply counterCfg_foot hP k_regs k_out k_router k_maint
      | with_reducible apply perfCmdWrite_foot hP k_regs k_out k_router k_maint k_perf
      | with_reducible apply dumpCfg_foot hP k_regs k_out k_router k_maint
      | with_reducible apply glintCtrl_foot hP k_regs k_out k_router k_maint
      | with_reducible apply privCtrlWrite_foot hP k_regs
      | with_reducible apply Closed.wr hP k_regs
      | with_reducible apply ite_closed
      | (intro _ _)
      | (intro _)
      | dsimp only
      | split

theorem actPage_foot (hP : Closed F P) (k_regs : F .regs = true) (k_eff : F .eff = true) (k_out : F .out = true) (k_freeCount : F .freeCount = true) (k_power : F .power = true) (k_clock : F .clock = true) (k_servo : F .servo = true) (k_router : F .router = true) (k_ring : F .ring = true) (k_txn : F .txn = true) (k_sched : F .sched = true) (k_maint : F .maint = true) (k_hbm : F .hbm = true) (k_host : F .host = true) (k_memory : F .memory = true) (k_ing : F .ing = true) (k_eng : F .eng = true) (k_heads : F .heads = true) (k_links : F .links = true) (k_keeper : F .keeper = true) (k_opt : F .opt = true) (k_audio : F .audio = true) (k_therm : F .therm = true) (k_perf : F .perf = true) {s : State} {req : Requester} {p : PageId} {o : Nat} {v : Word} (h_s : P s) : OptP P (actPage s req p o v) := by
    unfold actPage
    try dsimp only
    repeat' first
      | with_reducible assumption
      | (with_reducible refine optP_of (by assumption) ?_)
      | with_reducible exact optP_none
      | with_reducible apply optP_getD
      | with_reducible apply optP_some
      | with_reducible apply ite_closed
      | with_reducible apply actSystem_foot hP k_regs k_out k_freeCount k_router k_ring k_txn k_sched k_maint k_hbm k_host k_memory k_ing k_eng k_links k_audio
      | with_reducible apply actTime_foot hP k_regs k_out k_power k_clock k_servo k_router k_ring k_txn k_sched k_maint k_hbm k_memory k_ing k_heads k_links k_audio
      | with_reducible apply actHead_foot hP k_regs k_eff k_out k_power k_router k_maint k_heads k_links k_perf
      | with_reducible apply actRail_foot hP k_regs k_out k_router k_ring k_maint k_hbm k_memory k_ing k_heads k_links k_keeper k_opt
      | with_reducible apply actRest_foot hP k_regs k_out k_freeCount k_router k_ring k_txn k_sched k_maint k_hbm k_host k_memory k_ing k_eng k_opt k_audio k_therm k_perf
      | with_reducible apply ite_closed
      | (intro _ _)
      | (intro _)
      | dsimp only
      | split

theorem pageCtrlWrite_foot (hP : Closed F P) (k_regs : F .regs = true) (k_out : F .out = true) (k_freeCount : F .freeCount = true) (k_power : F .power = true) (k_router : F .router = true) (k_ring : F .ring = true) (k_txn : F .txn = true) (k_sched : F .sched = true) (k_maint : F .maint = true) (k_hbm : F .hbm = true) (k_host : F .host = true) (k_memory : F .memory = true) (k_ing : F .ing = true) (k_eng : F .eng = true) (k_heads : F .heads = true) (k_links : F .links = true) (k_keeper : F .keeper = true) (k_opt : F .opt = true) (k_audio : F .audio = true) (k_perf : F .perf = true) {s : State} {b : Nat} {v : Word} (h_s : P s) : P (pageCtrlWrite s b v) := by
    unfold pageCtrlWrite
    try dsimp only
    repeat' first
      | with_reducible assumption
      | with_reducible apply softResetCmd_foot hP k_regs k_out k_router k_maint
      | with_reducible apply pageOn_foot hP k_regs k_out k_power k_router k_ring k_maint k_hbm k_memory k_ing k_heads k_links k_opt k_audio k_perf
      | with_reducible apply modeWrite_foot hP k_regs k_out k_freeCount k_router k_ring k_txn k_sched k_maint k_hbm k_host k_memory k_ing k_eng k_heads k_links k_keeper k_opt k_audio k_perf
      | with_reducible apply pageOff_foot hP k_regs k_out k_freeCount k_router k_ring k_txn k_sched k_maint k_hbm k_host k_memory k_ing k_eng k_heads k_links k_keeper k_opt k_audio k_perf
      | with_reducible apply ite_closed
      | (intro _ _)
      | (intro _)
      | dsimp only
      | split

theorem regWrite_foot (hP : Closed F P) (k_regs : F .regs = true) (k_out : F .out = true) (k_router : F .router = true) (k_bus : F .bus = true) (k_ring : F .ring = true) (k_maint : F .maint = true) (k_ing : F .ing = true) (k_heads : F .heads = true) (k_links : F .links = true) {s : State} {req : Requester} {a : Nat} {v : Word} (h_s : P s) : P (regWrite s req a v) := by
    unfold regWrite
    try dsimp only
    repeat' first
      | with_reducible assumption
      | with_reducible apply refuse_foot hP k_regs k_out k_router k_maint
      | with_reducible apply setHeldLow_foot hP k_bus
      | with_reducible apply pairWrite_foot hP k_regs k_out k_router k_ring k_maint k_ing k_heads k_links
      | with_reducible apply wordWrite_foot hP k_regs k_out k_router k_ring k_maint k_ing k_heads k_links
      | with_reducible apply ite_closed
      | (intro _ _)
      | (intro _)
      | dsimp only
      | split

theorem tableWrite_foot (hP : Closed F P) (k_regs : F .regs = true) (k_out : F .out = true) (k_freeCount : F .freeCount = true) (k_router : F .router = true) (k_bus : F .bus = true) (k_ring : F .ring = true) (k_maint : F .maint = true) (k_hbm : F .hbm = true) (k_host : F .host = true) (k_memory : F .memory = true) (k_ing : F .ing = true) (k_eng : F .eng = true) (k_heads : F .heads = true) (k_links : F .links = true) (k_audio : F .audio = true) {s : State} {req : Requester} {a : Nat} {v : Word} (h_s : P s) : P (tableWrite s req a v) := by
    unfold tableWrite
    try dsimp only
    repeat' first
      | with_reducible assumption
      | with_reducible apply ringCtrlWrite_foot hP k_regs k_out k_freeCount k_router k_ring k_maint k_hbm k_host k_memory k_ing k_eng k_links k_audio
      | with_reducible apply flowCtrlWrite_foot hP k_regs k_out k_router k_maint k_ing
      | with_reducible apply lutWrite_foot hP k_regs k_out k_router k_maint
      | with_reducible apply refuse_foot hP k_regs k_out k_router k_maint
      | with_reducible apply regWrite_foot hP k_regs k_out k_router k_bus k_ring k_maint k_ing k_heads k_links
      | with_reducible apply ite_closed
      | (intro _ _)
      | (intro _)
      | dsimp only
      | split

theorem headerWrite_foot (hP : Closed F P) (k_regs : F .regs = true) (k_out : F .out = true) (k_freeCount : F .freeCount = true) (k_power : F .power = true) (k_router : F .router = true) (k_ring : F .ring = true) (k_txn : F .txn = true) (k_sched : F .sched = true) (k_maint : F .maint = true) (k_hbm : F .hbm = true) (k_host : F .host = true) (k_memory : F .memory = true) (k_ing : F .ing = true) (k_eng : F .eng = true) (k_heads : F .heads = true) (k_links : F .links = true) (k_keeper : F .keeper = true) (k_opt : F .opt = true) (k_audio : F .audio = true) (k_perf : F .perf = true) {s : State} {req : Requester} {b : Nat} {o : Nat} {v : Word} (h_s : P s) : P (headerWrite s req b o v) := by
    unfold headerWrite
    try dsimp only
    repeat' first
      | with_reducible assumption
      | with_reducible apply gated_foot hP k_regs k_out k_router k_maint
      | with_reducible apply pageCtrlWrite_foot hP k_regs k_out k_freeCount k_power k_router k_ring k_txn k_sched k_maint k_hbm k_host k_memory k_ing k_eng k_heads k_links k_keeper k_opt k_audio k_perf
      | with_reducible apply roleWrite_foot hP k_regs k_out k_router k_maint
      | with_reducible apply headerGated_foot hP k_regs k_out k_router k_maint
      | with_reducible apply statusClear_foot hP k_regs k_out k_freeCount k_router k_maint
      | with_reducible apply wordWrite_foot hP k_regs k_out k_router k_ring k_maint k_ing k_heads k_links
      | with_reducible apply forceWrite_foot hP k_regs k_out k_router k_maint
      | with_reducible apply ite_closed
      | (intro _ _)
      | (intro _)
      | dsimp only
      | split

theorem busWrite_foot (hP : Closed F P) (k_regs : F .regs = true) (k_eff : F .eff = true) (k_out : F .out = true) (k_freeCount : F .freeCount = true) (k_power : F .power = true) (k_clock : F .clock = true) (k_servo : F .servo = true) (k_router : F .router = true) (k_bus : F .bus = true) (k_ring : F .ring = true) (k_txn : F .txn = true) (k_sched : F .sched = true) (k_maint : F .maint = true) (k_hbm : F .hbm = true) (k_host : F .host = true) (k_memory : F .memory = true) (k_ing : F .ing = true) (k_eng : F .eng = true) (k_heads : F .heads = true) (k_links : F .links = true) (k_keeper : F .keeper = true) (k_opt : F .opt = true) (k_audio : F .audio = true) (k_therm : F .therm = true) (k_perf : F .perf = true) {s : State} {req : Requester} {a : Nat} {v : Word} (h_s : P s) : P (busWrite s req a v) := by
    unfold busWrite
    try dsimp only
    repeat' first
      | with_reducible assumption
      | (with_reducible refine optP_of (by assumption) ?_)
      | with_reducible exact optP_none
      | with_reducible apply optP_getD
      | with_reducible apply optP_some
      | with_reducible apply headerWrite_foot hP k_regs k_out k_freeCount k_power k_router k_ring k_txn k_sched k_maint k_hbm k_host k_memory k_ing k_eng k_heads k_links k_keeper k_opt k_audio k_perf
      | with_reducible apply gated_foot hP k_regs k_out k_router k_maint
      | with_reducible apply actPage_foot hP k_regs k_eff k_out k_freeCount k_power k_clock k_servo k_router k_ring k_txn k_sched k_maint k_hbm k_host k_memory k_ing k_eng k_heads k_links k_keeper k_opt k_audio k_therm k_perf
      | with_reducible apply regWrite_foot hP k_regs k_out k_router k_bus k_ring k_maint k_ing k_heads k_links
      | with_reducible apply tableWrite_foot hP k_regs k_out k_freeCount k_router k_bus k_ring k_maint k_hbm k_host k_memory k_ing k_eng k_heads k_links k_audio
      | with_reducible apply ite_closed
      | (intro _ _)
      | (intro _)
      | dsimp only
      | split

theorem partialWrite_foot (hP : Closed F P) (k_regs : F .regs = true) (k_out : F .out = true) (k_router : F .router = true) (k_maint : F .maint = true) {s : State} {a : Nat} (h_s : P s) : P (partialWrite s a) := by
    unfold partialWrite
    try dsimp only
    repeat' first
      | with_reducible assumption
      | with_reducible apply State.raise_foot hP k_regs k_out k_router k_maint
      | with_reducible apply Closed.inc hP k_regs
      | with_reducible apply ite_closed
      | (intro _ _)
      | (intro _)
      | dsimp only
      | split

theorem writeAt_foot (hP : Closed F P) (k_regs : F .regs = true) (k_eff : F .eff = true) (k_out : F .out = true) (k_freeCount : F .freeCount = true) (k_power : F .power = true) (k_clock : F .clock = true) (k_servo : F .servo = true) (k_router : F .router = true) (k_bus : F .bus = true) (k_ring : F .ring = true) (k_txn : F .txn = true) (k_sched : F .sched = true) (k_maint : F .maint = true) (k_hbm : F .hbm = true) (k_host : F .host = true) (k_memory : F .memory = true) (k_ing : F .ing = true) (k_eng : F .eng = true) (k_heads : F .heads = true) (k_links : F .links = true) (k_keeper : F .keeper = true) (k_opt : F .opt = true) (k_audio : F .audio = true) (k_therm : F .therm = true) (k_perf : F .perf = true) {s : State} {req : Requester} {addr : Nat} {v : Word} {be : BitVec 4} (h_s : P s) : P (writeAt s req addr v be) := by
    unfold writeAt
    try dsimp only
    repeat' first
      | with_reducible assumption
      | with_reducible apply unmappedOp_foot hP k_regs k_out k_router k_maint
      | with_reducible apply partialWrite_foot hP k_regs k_out k_router k_maint
      | with_reducible apply busWrite_foot hP k_regs k_eff k_out k_freeCount k_power k_clock k_servo k_router k_bus k_ring k_txn k_sched k_maint k_hbm k_host k_memory k_ing k_eng k_heads k_links k_keeper k_opt k_audio k_therm k_perf
      | with_reducible apply ite_closed
      | (intro _ _)
      | (intro _)
      | dsimp only
      | split

theorem execRegisterWrite_foot (hP : Closed F P) (k_regs : F .regs = true) (k_eff : F .eff = true) (k_out : F .out = true) (k_freeCount : F .freeCount = true) (k_power : F .power = true) (k_clock : F .clock = true) (k_servo : F .servo = true) (k_router : F .router = true) (k_bus : F .bus = true) (k_ring : F .ring = true) (k_txn : F .txn = true) (k_sched : F .sched = true) (k_maint : F .maint = true) (k_hbm : F .hbm = true) (k_host : F .host = true) (k_memory : F .memory = true) (k_ing : F .ing = true) (k_eng : F .eng = true) (k_heads : F .heads = true) (k_links : F .links = true) (k_keeper : F .keeper = true) (k_opt : F .opt = true) (k_audio : F .audio = true) (k_therm : F .therm = true) (k_perf : F .perf = true) {req : Requester} {addr : Nat} {value : Word} {be : BitVec 4} {s : State} (h_s : P s) : OutP P (execRegisterWrite req addr value be s) := by
    unfold execRegisterWrite
    try dsimp only
    repeat' first
      | with_reducible assumption
      | with_reducible apply outP_next
      | with_reducible apply outP_done
      | with_reducible apply writeAt_foot hP k_regs k_eff k_out k_freeCount k_power k_clock k_servo k_router k_bus k_ring k_txn k_sched k_maint k_hbm k_host k_memory k_ing k_eng k_heads k_links k_keeper k_opt k_audio k_therm k_perf
      | with_reducible apply ite_closed
      | (intro _ _)
      | (intro _)
      | dsimp only
      | split

theorem execHighWordWrite_foot (hP : Closed F P) (k_regs : F .regs = true) (k_eff : F .eff = true) (k_out : F .out = true) (k_freeCount : F .freeCount = true) (k_power : F .power = true) (k_clock : F .clock = true) (k_servo : F .servo = true) (k_router : F .router = true) (k_bus : F .bus = true) (k_ring : F .ring = true) (k_txn : F .txn = true) (k_sched : F .sched = true) (k_maint : F .maint = true) (k_hbm : F .hbm = true) (k_host : F .host = true) (k_memory : F .memory = true) (k_ing : F .ing = true) (k_eng : F .eng = true) (k_heads : F .heads = true) (k_links : F .links = true) (k_keeper : F .keeper = true) (k_opt : F .opt = true) (k_audio : F .audio = true) (k_therm : F .therm = true) (k_perf : F .perf = true) {req : Requester} {addr : Nat} {value : Word} {s : State} (h_s : P s) : OutP P (execHighWordWrite req addr value s) := by
    unfold execHighWordWrite
    try dsimp only
    repeat' first
      | with_reducible assumption
      | with_reducible apply outP_next
      | with_reducible apply outP_done
      | with_reducible apply writeAt_foot hP k_regs k_eff k_out k_freeCount k_power k_clock k_servo k_router k_bus k_ring k_txn k_sched k_maint k_hbm k_host k_memory k_ing k_eng k_heads k_links k_keeper k_opt k_audio k_therm k_perf
      | with_reducible apply ite_closed
      | (intro _ _)
      | (intro _)
      | dsimp only
      | split

theorem execMapSelWrite_foot (hP : Closed F P) (k_regs : F .regs = true) (k_out : F .out = true) (k_router : F .router = true) (k_ring : F .ring = true) (k_maint : F .maint = true) (k_ing : F .ing = true) (k_heads : F .heads = true) (k_links : F .links = true) {req : Requester} {x1 : Fin 4} {value : Word} {s : State} (h_s : P s) : OutP P (execMapSelWrite req x1 value s) := by
    unfold execMapSelWrite
    try dsimp only
    repeat' first
      | with_reducible assumption
      | with_reducible apply outP_next
      | with_reducible apply outP_done
      | with_reducible apply gated_foot hP k_regs k_out k_router k_maint
      | with_reducible apply directWrite_foot hP k_regs k_out k_router k_ring k_maint k_ing k_heads k_links
      | with_reducible apply ite_closed
      | (intro _ _)
      | (intro _)
      | dsimp only
      | split

theorem bar4Go_foot (hP : Closed F P) (k_regs : F .regs = true) (k_out : F .out = true) (k_router : F .router = true) (k_maint : F .maint = true) (k_hbm : F .hbm = true) (k_memory : F .memory = true) {s : State} {write : Bool} {a : Nat} {n : Nat} {data : List Byte} (h_s : P s) : P (bar4Go s write a n data) := by
    unfold bar4Go
    try dsimp only
    repeat' first
      | with_reducible assumption
      | with_reducible apply State.raise_foot hP k_regs k_out k_router k_maint
      | with_reducible apply hbmWrite_foot hP k_regs k_out k_router k_maint k_hbm k_memory
      | with_reducible apply touch_foot hP k_regs k_out k_router k_maint k_memory
      | with_reducible apply Closed.emit hP k_out
      | with_reducible apply ite_closed
      | (intro _ _)
      | (intro _)
      | dsimp only
      | split

theorem execBar4Access_foot (hP : Closed F P) (k_regs : F .regs = true) (k_out : F .out = true) (k_router : F .router = true) (k_maint : F .maint = true) (k_hbm : F .hbm = true) (k_memory : F .memory = true) {write : Bool} {offset : Nat} {len : Nat} {data : List Byte} {s : State} (h_s : P s) : OutP P (execBar4Access write offset len data s) := by
    unfold execBar4Access
    try dsimp only
    repeat' first
      | with_reducible assumption
      | with_reducible apply outP_next
      | with_reducible apply outP_done
      | with_reducible apply bar4Go_foot hP k_regs k_out k_router k_maint k_hbm k_memory
      | with_reducible apply ite_closed
      | (intro _ _)
      | (intro _)
      | dsimp only
      | split

theorem execBar4BaseWrite_foot (hP : Closed F P) (k_regs : F .regs = true) (k_out : F .out = true) (k_router : F .router = true) (k_ring : F .ring = true) (k_maint : F .maint = true) (k_ing : F .ing = true) (k_heads : F .heads = true) (k_links : F .links = true) {req : Requester} {value : BitVec 64} {s : State} (h_s : P s) : OutP P (execBar4BaseWrite req value s) := by
    unfold execBar4BaseWrite
    try dsimp only
    repeat' first
      | with_reducible assumption
      | with_reducible apply outP_next
      | with_reducible apply outP_done
      | with_reducible apply gated_foot hP k_regs k_out k_router k_maint
      | with_reducible apply pairWrite_foot hP k_regs k_out k_router k_ring k_maint k_ing k_heads k_links
      | with_reducible apply ite_closed
      | (intro _ _)
      | (intro _)
      | dsimp only
      | split

end Sys2Proof.Machine
end

