-- ==== Sys2Proof/Laws/FootReads.lean ====
section
/-!
SUPPORT. Footprints of the definitions of Machine/Reads.lean: which parts of the state each of them may update.
-/
namespace Sys2Proof.Machine

variable {F : Part → Bool} {P : State → Prop}

theorem setLatch_foot (hP : Closed F P) (k_bus : F .bus = true) {s : State} {r : Requester} {lo : Nat} {v : Word} (h_s : P s) : P (setLatch s r lo v) := by
    unfold setLatch
    try dsimp only
    repeat' first
      | with_reducible assumption
      | with_reducible apply ite_closed
      | (intro _ _)
      | (intro _)
      | dsimp only
      | split
      | (with_reducible apply Closed.bus hP k_bus)

theorem busRead_foot (hP : Closed F P) (k_regs : F .regs = true) (k_out : F .out = true) (k_freeCount : F .freeCount = true) (k_router : F .router = true) (k_bus : F .bus = true) (k_maint : F .maint = true) (k_memory : F .memory = true) {s : State} {r : Requester} {a : Nat} (h_s : P s) : P (busRead s r a) := by
    unfold busRead
    try dsimp only
    repeat' first
      | with_reducible assumption
      | with_reducible apply memLook_foot hP k_regs k_out k_freeCount k_router k_maint k_memory
      | with_reducible apply setLatch_foot hP k_bus
      | with_reducible apply Closed.emit hP k_out
      | with_reducible apply Closed.useFree hP k_freeCount
      | with_reducible apply ite_closed
      | (intro _ _)
      | (intro _)
      | dsimp only
      | split

theorem readAt_foot (hP : Closed F P) (k_regs : F .regs = true) (k_out : F .out = true) (k_freeCount : F .freeCount = true) (k_router : F .router = true) (k_bus : F .bus = true) (k_maint : F .maint = true) (k_memory : F .memory = true) {s : State} {r : Requester} {addr : Nat} (h_s : P s) : P (readAt s r addr) := by
    unfold readAt
    try dsimp only
    repeat' first
      | with_reducible assumption
      | with_reducible apply unmappedOp_foot hP k_regs k_out k_router k_maint
      | with_reducible apply busRead_foot hP k_regs k_out k_freeCount k_router k_bus k_maint k_memory
      | with_reducible apply Closed.emit hP k_out
      | with_reducible apply ite_closed
      | (intro _ _)
      | (intro _)
      | dsimp only
      | split

theorem execLowWordRead_foot (hP : Closed F P) (k_regs : F .regs = true) (k_out : F .out = true) (k_freeCount : F .freeCount = true) (k_router : F .router = true) (k_bus : F .bus = true) (k_maint : F .maint = true) (k_memory : F .memory = true) {req : Requester} {addr : Nat} {s : State} (h_s : P s) : OutP P (execLowWordRead req addr s) := by
    unfold execLowWordRead
    try dsimp only
    repeat' first
      | with_reducible assumption
      | with_reducible apply outP_next
      | with_reducible apply outP_done
      | with_reducible apply readAt_foot hP k_regs k_out k_freeCount k_router k_bus k_maint k_memory
      | with_reducible apply ite_closed
      | (intro _ _)
      | (intro _)
      | dsimp only
      | split

theorem execUnmappedAddressAccess_foot (hP : Closed F P) (k_regs : F .regs = true) (k_out : F .out = true) (k_router : F .router = true) (k_maint : F .maint = true) {req : Requester} {addr : Nat} {write : Bool} {s : State} (h_s : P s) : OutP P (execUnmappedAddressAccess req addr write s) := by
    unfold execUnmappedAddressAccess
    try dsimp only
    repeat' first
      | with_reducible assumption
      | with_reducible apply outP_next
      | with_reducible apply outP_done
      | with_reducible apply unmappedOp_foot hP k_regs k_out k_router k_maint
      | with_reducible apply Closed.emit hP k_out
      | with_reducible apply ite_closed
      | (intro _ _)
      | (intro _)
      | dsimp only
      | split

end Sys2Proof.Machine
end

