-- ==== Sys2Proof/Laws/Foot.lean ====
section
/-!
SUPPORT. The footprint of every command: what survives the updates of the parts that `footprint` lists, the command keeps.
-/
namespace Sys2Proof.Machine

/-- A command does nothing beyond primitive updates of the parts of its footprint. -/
theorem exec_closed {P : State → Prop} {c : Instr} {s : State}
    (hP : Closed (fun p => (footprint c).elem p) P) (h : P s) : OutP P (exec c s) := by
  revert hP
  exact match c with
  | .lvinApplied => fun hP => execLvinApplied_foot hP rfl rfl rfl rfl rfl rfl rfl rfl rfl rfl rfl rfl rfl rfl rfl rfl rfl rfl rfl rfl rfl rfl rfl h
  | .lvinLost => fun hP => execLvinLost_foot hP rfl rfl rfl rfl rfl rfl rfl rfl rfl rfl rfl rfl rfl rfl rfl rfl rfl rfl rfl rfl rfl rfl h
  | .fastClockStart => fun hP => execFastClockStart_foot hP rfl rfl rfl rfl rfl h
  | .bootImageVerified => fun hP => execBootImageVerified_foot hP rfl rfl rfl rfl rfl h
  | .memoryTrainingComplete _ _ _ => fun hP => execMemoryTrainingComplete_foot hP rfl rfl rfl rfl rfl h
  | .stageReady => fun hP => execStageReady_foot hP rfl rfl rfl rfl rfl rfl rfl rfl rfl rfl rfl rfl rfl rfl rfl rfl rfl rfl rfl rfl rfl h
  | .functionLevelReset _ => fun hP => execFunctionLevelReset_foot hP rfl rfl rfl rfl rfl rfl rfl rfl rfl rfl rfl rfl rfl rfl h
  | .perstAssert => fun hP => execPerstAssert_foot hP rfl h
  | .perstDeassert => fun hP => execPerstDeassert_foot hP rfl rfl rfl rfl rfl rfl rfl rfl rfl rfl rfl rfl rfl rfl rfl h
  | .pcieLinkDown _ => fun hP => execPcieLinkDown_foot hP rfl rfl rfl rfl rfl h
  | .registerWrite _ _ _ _ => fun hP => execRegisterWrite_foot hP rfl rfl rfl rfl rfl rfl rfl rfl rfl rfl rfl rfl rfl rfl rfl rfl rfl rfl rfl rfl rfl rfl rfl rfl rfl h
  | .unmappedAddressAccess _ _ _ => fun hP => execUnmappedAddressAccess_foot hP rfl rfl rfl rfl h
  | .lowWordRead _ _ => fun hP => execLowWordRead_foot hP rfl rfl rfl rfl rfl rfl rfl h
  | .highWordWrite _ _ _ => fun hP => execHighWordWrite_foot hP rfl rfl rfl rfl rfl rfl rfl rfl rfl rfl rfl rfl rfl rfl rfl rfl rfl rfl rfl rfl rfl rfl rfl rfl rfl h
  | .bar4Access _ _ _ _ => fun hP => execBar4Access_foot hP rfl rfl rfl rfl rfl rfl h
  | .bar4BaseWrite _ _ => fun hP => execBar4BaseWrite_foot hP rfl rfl rfl rfl rfl rfl rfl rfl h
  | .pageEnable _ _ => fun hP => execPageEnable_foot hP rfl rfl rfl rfl rfl rfl rfl rfl rfl rfl rfl rfl rfl rfl h
  | .pageDisable _ _ _ => fun hP => execPageDisable_foot hP rfl rfl rfl rfl rfl rfl rfl rfl rfl rfl rfl rfl rfl rfl rfl rfl rfl rfl rfl h
  | .disableModeWrite _ _ _ => fun hP => execDisableModeWrite_foot hP rfl rfl rfl rfl rfl rfl rfl rfl rfl rfl rfl rfl rfl rfl rfl rfl rfl rfl rfl h
  | .softReset _ _ => fun hP => execSoftReset_foot hP rfl rfl rfl rfl h
  | .softResetComplete _ => fun hP => execSoftResetComplete_foot hP rfl rfl rfl rfl rfl rfl rfl rfl rfl rfl rfl h
  | .quiescence _ => fun hP => execQuiescence_foot hP rfl rfl rfl rfl rfl rfl rfl rfl rfl h
  | .roleWrite _ _ _ => fun hP => execRoleWrite_foot hP rfl rfl rfl rfl h
  | .eventStatusClear _ _ _ _ => fun hP => execEventStatusClear_foot hP rfl rfl rfl rfl rfl h
  | .eventForce _ _ _ => fun hP => execEventForce_foot hP rfl rfl rfl rfl h
  | .vectorHoldoffEnd _ => fun hP => execVectorHoldoffEnd_foot hP rfl rfl rfl h
  | .vectorUnmask _ => fun hP => execVectorUnmask_foot hP rfl rfl rfl h
  | .logRingEnable _ _ => fun hP => execLogRingEnable_foot hP rfl rfl rfl rfl rfl rfl rfl rfl rfl rfl rfl rfl rfl h
  | .logRingDisable _ => fun hP => execLogRingDisable_foot hP rfl rfl rfl rfl rfl rfl rfl rfl rfl rfl rfl rfl rfl h
  | .eventLogRecordWrite => fun hP => execEventLogRecordWrite_foot hP rfl rfl rfl rfl rfl rfl rfl rfl h
  | .timeMark => fun hP => execTimeMark_foot hP rfl rfl rfl rfl rfl rfl rfl rfl h
  | .featureAccept _ _ => fun hP => execFeatureAccept_foot hP rfl rfl rfl rfl h
  | .featureCheckComplete => fun hP => execFeatureCheckComplete_foot hP rfl rfl rfl rfl h
  | .ringEnable _ _ _ => fun hP => execRingEnable_foot hP rfl rfl rfl rfl rfl rfl rfl rfl rfl rfl rfl rfl rfl h
  | .ringDisable _ _ _ _ => fun hP => execRingDisable_foot hP rfl rfl rfl rfl rfl rfl rfl rfl rfl rfl rfl rfl rfl h
  | .doorbell _ _ _ tp _ => fun hP => execDoorbell_foot (_top := tp) hP rfl rfl rfl rfl rfl h
  | .entryAccept _ => fun hP => execEntryAccept_foot hP rfl rfl rfl rfl rfl rfl rfl rfl rfl rfl rfl rfl rfl h
  | .hostReadFailure _ _ => fun hP => execHostReadFailure_foot hP rfl rfl rfl rfl rfl rfl rfl rfl rfl rfl rfl rfl rfl h
  | .ringStalled _ => fun hP => execRingStalled_foot hP rfl rfl rfl rfl rfl h
  | .completionRecordWrite _ => fun hP => execCompletionRecordWrite_foot hP rfl rfl rfl rfl rfl rfl rfl rfl h
  | .abortEntry _ => fun hP => execAbortEntry_foot hP rfl rfl rfl rfl rfl rfl rfl rfl rfl rfl rfl rfl rfl h
  | .beginTxn _ => fun hP => execBeginTxn_foot hP rfl rfl rfl rfl rfl h
  | .stageDataWrite _ _ _ => fun hP => execStageDataWrite_foot hP rfl rfl rfl rfl rfl h
  | .commitTxn _ _ => fun hP => execCommitTxn_foot hP rfl rfl rfl rfl rfl h
  | .commitValidationComplete _ => fun hP => execCommitValidationComplete_foot hP rfl rfl rfl rfl rfl rfl rfl rfl rfl rfl h
  | .rollback _ _ => fun hP => execRollback_foot hP rfl rfl rfl rfl rfl rfl rfl h
  | .refSelWrite _ _ => fun hP => execRefSelWrite_foot hP rfl rfl rfl rfl rfl h
  | .refInputQualified => fun hP => execRefInputQualified_foot hP rfl rfl rfl rfl rfl h
  | .refLost => fun hP => execRefLost_foot hP rfl rfl rfl rfl rfl h
  | .autoSwitchWrite _ _ => fun hP => execAutoSwitchWrite_foot hP rfl rfl rfl rfl rfl h
  | .epochOffsetWrite _ _ => fun hP => execEpochOffsetWrite_foot hP rfl rfl rfl rfl h
  | .domCtrlWrite _ _ _ => fun hP => execDomCtrlWrite_foot hP rfl rfl rfl rfl rfl h
  | .syncReceived _ _ _ _ => fun hP => execSyncReceived_foot hP rfl rfl rfl rfl rfl h
  | .announceReceived _ _ => fun hP => execAnnounceReceived_foot hP rfl rfl rfl rfl rfl h
  | .announceTimeout _ => fun hP => execAnnounceTimeout_foot hP rfl rfl rfl rfl rfl h
  | .ptpMessageSend _ _ => fun hP => execPtpMessageSend_foot hP rfl h
  | .ppsEdge => fun hP => execPpsEdge_foot hP rfl rfl rfl rfl rfl rfl h
  | .ppsLost => fun hP => execPpsLost_foot hP rfl rfl rfl rfl rfl h
  | .slewEnd => fun hP => execSlewEnd_foot hP rfl rfl rfl rfl rfl rfl h
  | .acceptJump _ _ => fun hP => execAcceptJump_foot hP rfl rfl rfl rfl rfl rfl rfl rfl rfl rfl rfl rfl rfl rfl rfl h
  | .domainSwitch _ _ => fun hP => execDomainSwitch_foot hP rfl rfl rfl rfl rfl rfl h
  | .autoDomainSwitch => fun hP => execAutoDomainSwitch_foot hP rfl rfl rfl rfl rfl rfl h
  | .arm _ _ => fun hP => execArm_foot hP rfl rfl rfl rfl rfl h
  | .disarm _ _ => fun hP => execDisarm_foot hP rfl rfl rfl rfl rfl h
  | .txnApply _ => fun hP => execTxnApply_foot hP rfl rfl rfl rfl rfl rfl rfl rfl rfl rfl h
  | .headCommit _ => fun hP => execHeadCommit_foot hP rfl rfl rfl rfl rfl rfl h
  | .audioStart _ => fun hP => execAudioStart_foot hP rfl rfl rfl rfl rfl rfl rfl h
  | .opticBatch _ => fun hP => execOpticBatch_foot hP rfl rfl rfl rfl rfl rfl rfl rfl h
  | .gpioEdge _ => fun hP => execGpioEdge_foot hP rfl rfl rfl rfl rfl h
  | .gpioPulseEnd _ => fun hP => execGpioPulseEnd_foot hP rfl rfl rfl h
  | .testStart _ => fun hP => execTestStart_foot hP rfl rfl rfl rfl rfl rfl rfl h
  | .wake _ => fun hP => execWake_foot hP rfl rfl rfl rfl rfl rfl h
  | .schedLogRecordWrite => fun hP => execSchedLogRecordWrite_foot hP rfl rfl rfl rfl rfl rfl rfl rfl rfl h
  | .ppsOutPulse => fun hP => execPpsOutPulse_foot hP rfl h
  | .linkUp _ => fun hP => execLinkUp_foot hP rfl rfl rfl rfl h
  | .linkDown _ => fun hP => execLinkDown_foot hP rfl rfl rfl rfl rfl h
  | .ethernetFrameReceived _ _ => fun hP => execEthernetFrameReceived_foot hP rfl rfl rfl rfl h
  | .arpRequest _ _ _ => fun hP => execArpRequest_foot hP rfl h
  | .multicastEntryWrite _ _ _ _ _ => fun hP => execMulticastEntryWrite_foot hP rfl rfl rfl rfl h
  | .pstPacketReceived _ _ _ _ _ _ => fun hP => execPstPacketReceived_foot hP rfl rfl rfl rfl rfl rfl rfl rfl h
  | .flowActivate _ _ _ => fun hP => execFlowActivate_foot hP rfl rfl rfl rfl rfl h
  | .sceneRxEntryAccept _ => fun hP => execSceneRxEntryAccept_foot hP rfl rfl rfl rfl rfl rfl rfl rfl h
  | .packet _ => fun hP => execPacket_foot hP rfl rfl rfl rfl rfl rfl rfl rfl rfl rfl rfl rfl rfl h
  | .pathLost _ _ => fun hP => execPathLost_foot hP rfl rfl rfl rfl rfl h
  | .assemblyClose _ _ => fun hP => execAssemblyClose_foot hP rfl rfl rfl rfl rfl rfl rfl rfl h
  | .frameReady _ _ => fun hP => execFrameReady_foot hP rfl rfl rfl rfl rfl rfl rfl rfl rfl h
  | .tileDecodeComplete _ _ _ => fun hP => execTileDecodeComplete_foot hP rfl rfl rfl rfl rfl rfl rfl h
  | .decodeLoadUpdate => fun hP => execDecodeLoadUpdate_foot hP rfl rfl rfl rfl rfl h
  | .decodeSelftest _ _ => fun hP => execDecodeSelftest_foot hP rfl rfl rfl rfl rfl h
  | .frameReport _ => fun hP => execFrameReport_foot hP rfl rfl rfl rfl rfl rfl rfl rfl rfl rfl rfl rfl rfl h
  | .frameReportTimeout _ _ => fun hP => execFrameReportTimeout_foot hP rfl rfl h
  | .decompress _ _ => fun hP => execDecompress_foot hP rfl rfl rfl rfl rfl rfl rfl rfl rfl rfl rfl rfl rfl h
  | .checkJob _ _ => fun hP => execCheckJob_foot hP rfl rfl rfl rfl rfl rfl rfl rfl rfl rfl rfl rfl rfl h
  | .compress _ _ _ _ => fun hP => execCompress_foot hP rfl rfl rfl rfl rfl rfl rfl rfl rfl rfl rfl rfl rfl h
  | .jobComplete _ => fun hP => execJobComplete_foot hP rfl rfl rfl rfl rfl rfl h
  | .jobTimeout _ => fun hP => execJobTimeout_foot hP rfl rfl rfl rfl rfl rfl rfl rfl rfl rfl h
  | .mapCmdLoad _ _ _ => fun hP => execMapCmdLoad_foot hP rfl rfl rfl rfl h
  | .mapLoadComplete _ _ => fun hP => execMapLoadComplete_foot hP rfl rfl rfl rfl rfl h
  | .mapSelWrite _ _ _ => fun hP => execMapSelWrite_foot hP rfl rfl rfl rfl rfl rfl rfl rfl h
  | .rayMapBlockFetch _ _ _ => fun hP => execRayMapBlockFetch_foot hP rfl rfl rfl rfl rfl rfl h
  | .latchPoint _ => fun hP => execLatchPoint_foot hP rfl rfl rfl rfl rfl rfl rfl rfl rfl rfl rfl rfl rfl rfl h
  | .fieldStart _ => fun hP => execFieldStart_foot hP rfl rfl rfl rfl rfl rfl rfl rfl rfl rfl rfl h
  | .lineStart _ => fun hP => execLineStart_foot hP rfl rfl rfl rfl rfl rfl rfl rfl rfl rfl h
  | .rayDeadline _ _ _ => fun hP => execRayDeadline_foot hP rfl rfl rfl rfl rfl rfl rfl rfl rfl h
  | .cacheFillReturn _ _ => fun hP => execCacheFillReturn_foot hP rfl rfl rfl rfl rfl rfl h
  | .layerDescriptorRead _ _ => fun hP => execLayerDescriptorRead_foot hP rfl rfl rfl rfl rfl rfl h
  | .guardRead _ _ _ => fun hP => execGuardRead_foot hP rfl rfl rfl rfl rfl rfl h
  | .layerDataRead _ _ _ => fun hP => execLayerDataRead_foot hP rfl rfl rfl rfl rfl rfl h
  | .commitGo _ _ => fun hP => execCommitGo_foot hP rfl rfl rfl rfl rfl h
  | .bufferRelease _ _ => fun hP => execBufferRelease_foot hP rfl rfl rfl rfl rfl h
  | .writebackRegionComplete _ _ _ => fun hP => execWritebackRegionComplete_foot hP rfl rfl rfl rfl rfl rfl rfl rfl rfl rfl h
  | .headEnable _ _ => fun hP => execHeadEnable_foot hP rfl rfl rfl rfl rfl rfl rfl rfl h
  | .headDisable _ _ _ => fun hP => execHeadDisable_foot hP rfl rfl rfl rfl rfl rfl rfl rfl rfl rfl rfl h
  | .phaseLockReached _ => fun hP => execPhaseLockReached_foot hP rfl rfl rfl rfl rfl h
  | .toleranceUpdate _ _ _ _ _ => fun hP => execToleranceUpdate_foot hP rfl rfl h
  | .lutEntryWrite _ _ _ _ _ => fun hP => execLutEntryWrite_foot hP rfl rfl rfl rfl h
  | .ledgerClear _ _ _ => fun hP => execLedgerClear_foot hP rfl rfl rfl rfl h
  | .mirrorCheckCompare _ _ _ _ _ _ => fun hP => execMirrorCheckCompare_foot hP rfl rfl rfl rfl rfl rfl rfl rfl h
  | .rxFrameStart _ _ => fun hP => execRxFrameStart_foot hP rfl rfl rfl rfl rfl rfl h
  | .rxLinePacket _ _ _ => fun hP => execRxLinePacket_foot hP rfl rfl rfl rfl rfl rfl rfl rfl rfl rfl rfl rfl h
  | .blockLock _ _ _ => fun hP => execBlockLock_foot hP rfl rfl rfl rfl rfl rfl rfl rfl rfl rfl rfl rfl h
  | .blockLockLoss _ _ _ => fun hP => execBlockLockLoss_foot hP rfl rfl rfl rfl rfl rfl rfl rfl rfl rfl rfl rfl h
  | .detectPoll _ _ _ => fun hP => execDetectPoll_foot hP rfl rfl rfl rfl rfl rfl rfl rfl h
  | .trainingStageComplete _ _ => fun hP => execTrainingStageComplete_foot hP rfl rfl rfl rfl rfl rfl rfl rfl h
  | .trainingStageTimeout _ _ => fun hP => execTrainingStageTimeout_foot hP rfl rfl rfl rfl rfl rfl rfl rfl h
  | .trainAPortWaitEnd _ _ => fun hP => execTrainAPortWaitEnd_foot hP rfl h
  | .eqPresetSettle _ _ => fun hP => execEqPresetSettle_foot hP rfl h
  | .retrain _ _ _ _ => fun hP => execRetrain_foot hP rfl rfl rfl rfl rfl rfl rfl rfl h
  | .moveGap _ _ _ _ => fun hP => execMoveGap_foot hP rfl rfl rfl rfl rfl h
  | .prbsClear _ _ _ _ => fun hP => execPrbsClear_foot hP rfl rfl rfl rfl h
  | .prbsInject _ _ _ _ => fun hP => execPrbsInject_foot hP rfl rfl rfl rfl rfl h
  | .readbackLockLoss _ _ => fun hP => execReadbackLockLoss_foot hP rfl rfl rfl rfl rfl rfl rfl rfl h
  | .sparingMove _ => fun hP => execSparingMove_foot hP rfl rfl rfl rfl rfl rfl rfl rfl h
  | .gapUnhealthyTimeout _ => fun hP => execGapUnhealthyTimeout_foot hP rfl rfl rfl rfl rfl h
  | .statusReq _ _ => fun hP => execStatusReq_foot hP rfl rfl rfl h
  | .status _ _ _ => fun hP => execStatus_foot hP rfl rfl rfl rfl rfl rfl rfl rfl h
  | .capsReq _ _ => fun hP => execCapsReq_foot hP rfl rfl rfl h
  | .caps _ _ _ => fun hP => execCaps_foot hP rfl rfl rfl rfl rfl rfl rfl rfl h
  | .sbReplyTimeout _ => fun hP => execSbReplyTimeout_foot hP rfl rfl rfl rfl rfl rfl h
  | .sbContention _ => fun hP => execSbContention_foot hP rfl rfl rfl rfl h
  | .sbFrameReceived _ _ => fun hP => execSbFrameReceived_foot hP rfl rfl rfl rfl rfl rfl rfl rfl rfl rfl rfl rfl rfl h
  | .send _ => fun hP => execSend_foot hP rfl rfl rfl rfl rfl rfl rfl rfl rfl rfl rfl rfl rfl h
  | .sbRequestReceived _ _ _ _ => fun hP => execSbRequestReceived_foot hP rfl rfl rfl rfl rfl rfl rfl rfl rfl h
  | .prbsCtrlWrite _ _ _ _ => fun hP => execPrbsCtrlWrite_foot hP rfl rfl rfl rfl rfl h
  | .prbsSync _ _ _ => fun hP => execPrbsSync_foot hP rfl rfl rfl rfl rfl h
  | .prbsSyncLoss _ _ _ => fun hP => execPrbsSyncLoss_foot hP rfl rfl rfl rfl rfl h
  | .zlDisable _ _ _ => fun hP => execZlDisable_foot hP rfl rfl rfl rfl rfl h
  | .panelCmdOn _ => fun hP => execPanelCmdOn_foot hP rfl rfl rfl rfl h
  | .panelCmdOff _ => fun hP => execPanelCmdOff_foot hP rfl rfl rfl rfl rfl rfl rfl rfl h
  | .precheckComplete _ => fun hP => execPrecheckComplete_foot hP rfl rfl rfl rfl rfl rfl rfl rfl h
  | .sequenceStepComplete => fun hP => execSequenceStepComplete_foot hP rfl rfl rfl rfl rfl rfl rfl rfl rfl rfl rfl rfl h
  | .powerGoodTimeout => fun hP => execPowerGoodTimeout_foot hP rfl rfl rfl rfl rfl rfl rfl rfl h
  | .railFault _ _ => fun hP => execRailFault_foot hP rfl rfl rfl rfl rfl rfl rfl rfl h
  | .hiccupAttempt _ _ => fun hP => execHiccupAttempt_foot hP rfl rfl rfl rfl rfl rfl rfl rfl h
  | .attemptCountReset _ => fun hP => execAttemptCountReset_foot hP rfl h
  | .railNoLoad _ => fun hP => execRailNoLoad_foot hP rfl rfl rfl rfl h
  | .phaseLost _ _ => fun hP => execPhaseLost_foot hP rfl rfl rfl rfl rfl rfl rfl rfl rfl h
  | .railPowerLimit _ => fun hP => execRailPowerLimit_foot hP rfl rfl rfl rfl rfl h
  | .pvlOverload _ => fun hP => execPvlOverload_foot hP rfl rfl rfl rfl rfl h
  | .pvlLoss => fun hP => execPvlLoss_foot hP rfl rfl rfl rfl rfl rfl rfl rfl h
  | .keeperLinkLost => fun hP => execKeeperLinkLost_foot hP rfl rfl rfl rfl rfl h
  | .keeperChannelUp => fun hP => execKeeperChannelUp_foot hP rfl rfl rfl rfl rfl rfl rfl rfl rfl rfl rfl rfl h
  | .railTargetWrite _ _ _ => fun hP => execRailTargetWrite_foot hP rfl rfl rfl rfl rfl rfl rfl rfl h
  | .faultClear _ _ => fun hP => execFaultClear_foot hP rfl rfl rfl rfl rfl h
  | .gateOutputFault _ _ => fun hP => execGateOutputFault_foot hP rfl rfl rfl rfl rfl h
  | .crackLoopMeasurement _ => fun hP => execCrackLoopMeasurement_foot hP rfl rfl rfl rfl rfl rfl rfl rfl h
  | .crackAck _ _ => fun hP => execCrackAck_foot hP rfl rfl rfl rfl rfl h
  | .thermistorRead _ => fun hP => execThermistorRead_foot hP rfl rfl rfl rfl rfl rfl h
  | .hvinLow _ => fun hP => execHvinLow_foot hP rfl rfl rfl rfl h
  | .hvinLoss => fun hP => execHvinLoss_foot hP rfl rfl rfl rfl rfl rfl rfl rfl h
  | .holdupBusCollapse => fun hP => execHoldupBusCollapse_foot hP rfl rfl rfl rfl rfl rfl rfl rfl h
  | .keeperStart _ => fun hP => execKeeperStart_foot hP rfl rfl rfl rfl rfl rfl rfl rfl rfl h
  | .batchStage _ _ => fun hP => execBatchStage_foot hP rfl rfl rfl rfl rfl rfl rfl rfl h
  | .batchStart _ _ => fun hP => execBatchStart_foot hP rfl rfl rfl rfl rfl rfl rfl h
  | .batchCancel _ _ => fun hP => execBatchCancel_foot hP rfl rfl rfl rfl rfl h
  | .rowPhaseEnd => fun hP => execRowPhaseEnd_foot hP rfl h
  | .rowUpdateEnd => fun hP => execRowUpdateEnd_foot hP rfl rfl rfl rfl rfl rfl rfl h
  | .tokenRefill => fun hP => execTokenRefill_foot hP rfl h
  | .autoBatchStart => fun hP => execAutoBatchStart_foot hP rfl rfl rfl rfl rfl rfl rfl h
  | .batchCrackMeasurement _ _ _ => fun hP => execBatchCrackMeasurement_foot hP rfl rfl rfl rfl rfl rfl rfl rfl h
  | .optEnable _ => fun hP => execOptEnable_foot hP rfl rfl rfl rfl rfl rfl rfl h
  | .memoryRequest _ _ => fun hP => execMemoryRequest_foot hP rfl rfl rfl rfl rfl rfl h
  | .requestAged _ => fun hP => execRequestAged_foot hP rfl rfl rfl rfl rfl h
  | .ceilingHoldTimeout => fun hP => execCeilingHoldTimeout_foot hP rfl rfl rfl rfl rfl h
  | .powerDownEntry => fun hP => execPowerDownEntry_foot hP rfl h
  | .selfRefreshEntry => fun hP => execSelfRefreshEntry_foot hP rfl rfl h
  | .sleepExit _ => fun hP => execSleepExit_foot hP rfl rfl h
  | .sleepExitComplete => fun hP => execSleepExitComplete_foot hP rfl rfl h
  | .refreshWindow => fun hP => execRefreshWindow_foot hP rfl rfl rfl rfl rfl rfl h
  | .parityError _ _ _ => fun hP => execParityError_foot hP rfl rfl rfl rfl h
  | .quickRetrain _ _ => fun hP => execQuickRetrain_foot hP rfl rfl rfl rfl h
  | .safeMode _ => fun hP => execSafeMode_foot hP rfl rfl rfl rfl rfl rfl h
  | .dataLost _ => fun hP => execDataLost_foot hP rfl rfl rfl rfl rfl rfl h
  | .scrubBurst _ _ _ => fun hP => execScrubBurst_foot hP rfl rfl rfl rfl rfl rfl h
  | .eccInjectWrite _ _ => fun hP => execEccInjectWrite_foot hP rfl rfl rfl rfl h
  | .migrationStart _ _ => fun hP => execMigrationStart_foot hP rfl rfl rfl rfl rfl rfl h
  | .migrationComplete => fun hP => execMigrationComplete_foot hP rfl rfl rfl rfl rfl rfl h
  | .offlineRetrainComplete _ _ => fun hP => execOfflineRetrainComplete_foot hP rfl rfl rfl rfl rfl rfl rfl h
  | .memCmdRetrain _ _ => fun hP => execMemCmdRetrain_foot hP rfl rfl rfl rfl rfl rfl h
  | .memCmdRetire _ _ => fun hP => execMemCmdRetire_foot hP rfl rfl rfl rfl rfl rfl h
  | .shrinkAck _ => fun hP => execShrinkAck_foot hP rfl rfl rfl rfl rfl rfl h
  | .systemTopWrite _ _ => fun hP => execSystemTopWrite_foot hP rfl rfl rfl rfl h
  | .sapEnable _ _ => fun hP => execSapEnable_foot hP rfl rfl rfl rfl rfl rfl h
  | .groupCmdStart _ _ => fun hP => execGroupCmdStart_foot hP rfl rfl rfl rfl rfl rfl h
  | .play _ => fun hP => execPlay_foot hP rfl rfl rfl rfl rfl rfl rfl rfl rfl rfl rfl rfl rfl h
  | .audioFrame _ _ _ _ => fun hP => execAudioFrame_foot hP rfl rfl rfl rfl rfl rfl rfl rfl h
  | .slotMaskWrite _ _ _ => fun hP => execSlotMaskWrite_foot hP rfl rfl rfl rfl rfl h
  | .audioClockLoss _ _ _ => fun hP => execAudioClockLoss_foot hP rfl rfl rfl rfl h
  | .audioClockReturn _ => fun hP => execAudioClockReturn_foot hP rfl rfl h
  | .contClear _ _ _ => fun hP => execContClear_foot hP rfl rfl rfl rfl rfl h
  | .audioRecordWrite _ => fun hP => execAudioRecordWrite_foot hP rfl rfl rfl rfl rfl rfl rfl rfl rfl h
  | .mclkCfgWrite _ _ => fun hP => execMclkCfgWrite_foot hP rfl rfl rfl rfl h
  | .sensorSample _ _ => fun hP => execSensorSample_foot hP rfl rfl rfl rfl rfl rfl rfl rfl rfl rfl rfl rfl rfl rfl rfl rfl h
  | .lossFloorExpiry _ => fun hP => execLossFloorExpiry_foot hP rfl rfl h
  | .powerCmdActive _ => fun hP => execPowerCmdActive_foot hP rfl rfl rfl rfl rfl h
  | .powerCmdReduced _ => fun hP => execPowerCmdReduced_foot hP rfl rfl rfl rfl rfl h
  | .powerCmdStandby _ => fun hP => execPowerCmdStandby_foot hP rfl rfl rfl rfl rfl rfl rfl rfl rfl rfl rfl rfl rfl rfl rfl h
  | .standbyReached => fun hP => execStandbyReached_foot hP rfl rfl rfl rfl rfl rfl rfl rfl rfl rfl rfl rfl rfl rfl rfl rfl rfl h
  | .wakeGpioEdge _ _ => fun hP => execWakeGpioEdge_foot hP rfl rfl rfl rfl rfl h
  | .wakeClocksReady _ _ => fun hP => execWakeClocksReady_foot hP rfl rfl rfl rfl rfl rfl rfl rfl rfl rfl rfl rfl rfl h
  | .counterCfgWrite _ _ _ => fun hP => execCounterCfgWrite_foot hP rfl rfl rfl rfl h
  | .counterWrap _ _ => fun hP => execCounterWrap_foot hP rfl rfl rfl rfl h
  | .freezeWrite _ _ => fun hP => execFreezeWrite_foot hP rfl rfl rfl rfl h
  | .perfCmdClear _ => fun hP => execPerfCmdClear_foot hP rfl rfl rfl rfl h
  | .perfCmdDump _ => fun hP => execPerfCmdDump_foot hP rfl rfl rfl rfl rfl h
  | .dumpTrigger _ => fun hP => execDumpTrigger_foot hP rfl rfl rfl rfl rfl h
  | .dumpWriteComplete => fun hP => execDumpWriteComplete_foot hP rfl rfl rfl rfl rfl rfl rfl rfl h
  | .glintRecordWrite _ _ => fun hP => execGlintRecordWrite_foot hP rfl rfl rfl rfl rfl rfl rfl rfl rfl h
  | .mgmtWatchdog => fun hP => execMgmtWatchdog_foot hP rfl rfl rfl rfl h
  | .fwStage _ => fun hP => execFwStage_foot hP rfl rfl rfl rfl rfl h
  | .fwStageComplete _ => fun hP => execFwStageComplete_foot hP rfl rfl rfl rfl h
  | .fwSwap _ _ => fun hP => execFwSwap_foot hP rfl rfl rfl rfl h
  | .fwTakeover => fun hP => execFwTakeover_foot hP rfl rfl rfl rfl h
  | .fwSwapTimeout => fun hP => execFwSwapTimeout_foot hP rfl rfl h
  | .fwSelfCheckFailure => fun hP => execFwSelfCheckFailure_foot hP rfl rfl rfl rfl h
  | .fwConfirm _ => fun hP => execFwConfirm_foot hP rfl rfl rfl rfl h
  | .fwRevert _ => fun hP => execFwRevert_foot hP rfl rfl rfl rfl h
  | .maintenanceLogRecordWrite => fun hP => execMaintenanceLogRecordWrite_foot hP rfl rfl rfl rfl h
  | .lifetimeRecord => fun hP => execLifetimeRecord_foot hP rfl rfl h
  | .profileInstall _ => fun hP => execProfileInstall_foot hP rfl rfl rfl rfl rfl h
  | .profileInstallComplete _ => fun hP => execProfileInstallComplete_foot hP rfl rfl rfl h
  | .handover _ => fun hP => execHandover_foot hP rfl rfl rfl rfl h
  | .qsfpModuleInserted _ _ _ => fun hP => execQsfpModuleInserted_foot hP rfl h
  | .qsfpModuleRemoved _ => fun hP => execQsfpModuleRemoved_foot hP rfl rfl rfl rfl rfl h
  | .triggerInputEdge _ _ => fun hP => execTriggerInputEdge_foot hP rfl h
  | .triggerOutputReadback _ _ => fun hP => execTriggerOutputReadback_foot hP rfl rfl h
  | .auxLevelWrite _ _ => fun hP => execAuxLevelWrite_foot hP rfl rfl rfl rfl rfl h
  | .auxCtrlWrite _ _ => fun hP => execAuxCtrlWrite_foot hP rfl rfl rfl rfl rfl h
  | .delayRespReceived _ _ => fun hP => execDelayRespReceived_foot hP rfl rfl h
  | .delayReqReceived _ => fun hP => execDelayReqReceived_foot hP rfl h
  | .pcieLinkUp => fun hP => execPcieLinkUp_foot hP rfl h
  | .laneStandbyResumeTimeout _ _ => fun hP => execLaneStandbyResumeTimeout_foot hP rfl rfl rfl rfl rfl rfl rfl rfl h
  | .stackTemperatureRead _ _ => fun hP => execStackTemperatureRead_foot hP rfl rfl rfl rfl rfl rfl h

end Sys2Proof.Machine
end

