-- ==== Sys2Proof/Laws/Noted.lean ====
section
/-!
SUPPORT. What an occurrence shows: its EVT_STATUS bit reads 1 from then on, until software clears it (R63, R65).
-/
namespace Sys2Proof.Machine

theorem evBit_lt (e : Ev) : evBit e < 32 := by cases e <;> (simp only [evBit]; decide)

/-- A status bit that reads 1 stays so when another bit is set. -/
theorem State.b_setB_mono (s : State) (a i b j : Nat) (hi : i < 32) (h : s.b b j = true) : (s.setB a i true).b b j = true := by
  by_cases hd : b = a ∧ j = i
  · rw [hd.1, hd.2, s.b_setB a i true hi]
  · rw [s.b_setB_ne a i true b j hi (by omega)]; exact h

/-- Words the accept path writes lie outside every EVT_STATUS. -/
theorem sendVector_b (s : State) (v : Nat) (hv : v < 64) (e : Ev) (j : Nat) :
    (sendVector s v).b (Reg.PAGE_EVT_STATUS (evPage e)) j = s.b (Reg.PAGE_EVT_STATUS (evPage e)) j := by
  have h := evPage_base e
  unfold sendVector
  split
  · exact s.b_setB_ne _ _ _ _ _ (by omega) (.inl (by simp only [Reg.PAGE_EVT_STATUS, Reg.MSIX_PBA]; omega))
  · simp only []
    split <;> rfl

theorem triggerVector_b (s : State) (v : Nat) (hv : v < 64) (e : Ev) (j : Nat) :
    (triggerVector s v).b (Reg.PAGE_EVT_STATUS (evPage e)) j = s.b (Reg.PAGE_EVT_STATUS (evPage e)) j := by
  unfold triggerVector
  split
  · split <;> rfl
  · exact sendVector_b s v hv e j

theorem lanternPush_b (s : State) (r : LogRec) (e : Ev) (j : Nat) :
    (lanternPush s r).1.b (Reg.PAGE_EVT_STATUS (evPage e)) j = s.b (Reg.PAGE_EVT_STATUS (evPage e)) j := by
  have h := evPage_base e
  unfold lanternPush
  dsimp only
  split
  · exact State.b_wr_ne _ _ _ (by simp only [Reg.PAGE_EVT_STATUS, Reg.EVT0_LOG_FILL]; omega)
  · refine (State.b_wr_ne _ _ _ ?_).trans rfl
    simp only [Reg.PAGE_EVT_STATUS, Reg.EVT0_LOG_DROPPED_LOW, Reg.EVT0_LOG_DROPPED_HIGH]
    split <;> omega

theorem ite_b (c : Prop) [Decidable c] {s t u : State} {a j : Nat} (h : t.b a j = s.b a j) (k : u.b a j = s.b a j) :
    (if c then t else u).b a j = s.b a j := by
  split
  · exact h
  · exact k

theorem maintNote_b (s : State) (k n sv : Nat) (d : List Word) (a j : Nat) : (maintNote s k n sv d).b a j = s.b a j :=
  ite_b _ rfl rfl

theorem acceptEvent_b (s : State) (e : Ev) (f : Bool) (d : List Word) (x : Ev) (j : Nat) :
    (acceptEvent s e f d).1.b (Reg.PAGE_EVT_STATUS (evPage x)) j = s.b (Reg.PAGE_EVT_STATUS (evPage x)) j := by
  have h1 : (if mapEntry s (evNumber e) / 128 % 2 = 1 then
      lanternPush { s with router := { s.router with
        coalesced := tabSet (fun _ => 0) s.router.coalesced (evNumber e) 0 } }
        ⟨evNumber e, evSev e, f, 0, tabGet (fun _ => 0) s.router.coalesced (evNumber e), s.now, d⟩
      else (s, none)).1.b (Reg.PAGE_EVT_STATUS (evPage x)) j = s.b (Reg.PAGE_EVT_STATUS (evPage x)) j := by
    split
    · exact (lanternPush_b _ _ x j).trans rfl
    · rfl
  unfold acceptEvent
  simp only []
  have h3 := ite_b (1 ≤ evSev e) ((maintNote_b _ 0 (evNumber e) (evSev e) d _ _).trans h1) h1
  exact ite_b _ ((triggerVector_b _ _ (Nat.mod_lt _ (by decide)) x j).trans h3) h3

/-- A status bit that reads 1 is not cleared by an occurrence. -/
theorem raiseN_mono (fuel : Nat) : ∀ (s : State) (e : Ev) (f : Bool) (d : List Word) (x : Ev) (j : Nat),
    s.b (Reg.PAGE_EVT_STATUS (evPage x)) j = true → (raiseN fuel s e f d).b (Reg.PAGE_EVT_STATUS (evPage x)) j = true := by
  induction fuel with
  | zero => intro s _ _ _ _ _ h; exact h
  | succ n ih =>
    intro s e f d x j h
    have h2 := s.b_setB_mono (Reg.PAGE_EVT_STATUS (evPage e)) (evBit e) _ _ (evBit_lt e) h
    have h3 := (acceptEvent_b (s.setB (Reg.PAGE_EVT_STATUS (evPage e)) (evBit e) true) e f d x j).trans h2
    unfold raiseN
    simp only []
    split
    · exact h
    · split
      · split
        · exact h3
        · split
          · exact ih _ _ _ _ _ _ h3
          · exact ih _ _ _ _ _ _ h3
      · exact h2

/-- An occurrence sets its status bit. -/
theorem raiseN_sets (fuel : Nat) (s : State) (e : Ev) (f : Bool) (d : List Word) :
    (raiseN (fuel + 1) s e f d).b (Reg.PAGE_EVT_STATUS (evPage e)) (evBit e) = true := by
  have h2 := s.b_setB (Reg.PAGE_EVT_STATUS (evPage e)) (evBit e) true (evBit_lt e)
  have h3 := (acceptEvent_b (s.setB (Reg.PAGE_EVT_STATUS (evPage e)) (evBit e) true) e f d e (evBit e)).trans h2
  unfold raiseN
  simp only []
  split
  · next h => exact h
  · split
    · split
      · exact h3
      · split
        · exact raiseN_mono _ _ _ _ _ _ _ h3
        · exact raiseN_mono _ _ _ _ _ _ _ h3
    · exact h2

/-- With LVIN applied, a raised event is noted. -/
theorem noted_raise_self (s : State) (e : Ev) (d : List Word) (h : s.on = true) : noted e (s.raise e d) := by
  unfold noted State.raise
  rw [if_pos h]
  exact raiseN_sets 4 s e false d

theorem noted_force_self (s : State) (e : Ev) (h : s.on = true) : noted e (s.force e) := by
  unfold noted State.force
  rw [if_pos h]
  exact raiseN_sets 4 s e true _

/-- A noted event stays noted when another is raised. -/
theorem noted_raise {s : State} {x : Ev} (e : Ev) (d : List Word) (h : noted x s) : noted x (s.raise e d) := by
  unfold noted State.raise at *
  split
  · exact raiseN_mono 5 s e false d x _ h
  · exact h

theorem noted_force {s : State} {x : Ev} (e : Ev) (h : noted x s) : noted x (s.force e) := by
  unfold noted State.force at *
  split
  · exact raiseN_mono 5 s e true _ x _ h
  · exact h

/-- A noted event stays noted when a register of another kind is written. -/
theorem noted_wr {s : State} {x : Ev} {a : Nat} (v : Word) (ha : routerReg a = false) (h : noted x s) : noted x (s.wr a v) := by
  unfold noted at *
  rw [State.b_wr_ne s v _ (fun e => by rw [← e, routerReg_evtStatus] at ha; cases ha)]
  exact h

theorem noted_congr {s t : State} {x : Ev} (hr : t.regs = s.regs) (h : noted x s) : noted x t := by
  unfold noted State.b at *
  rw [State.rd_congr hr]
  exact h

end Sys2Proof.Machine
end

