-- ==== Sys2Proof/Laws/Same.lean ====
section
/-!
SUPPORT. What an update outside a part leaves of it.
-/
namespace Sys2Proof.Machine

/-- Updates of the parts that F allows leave the queue and every other part. -/
theorem closed_same (s0 : State) (F : Part → Bool) :
    Closed F (fun t => t.pending = s0.pending ∧ ∀ p, F p = false → samePart p s0 t) where
  wr := fun hF {s} a v h => ⟨h.1, fun p hp => by
    have := h.2 p hp
    cases p <;> first | exact this | (rw [hF] at hp; cases hp)⟩
  regsFilter := fun hF {s} q h => ⟨h.1, fun p hp => by
    have := h.2 p hp
    cases p <;> first | exact this | (rw [hF] at hp; cases hp)⟩
  putEff := fun hF {s} a v h => ⟨h.1, fun p hp => by
    have := h.2 p hp
    cases p <;> first | exact this | (rw [hF] at hp; cases hp)⟩
  effFilter := fun hF {s} q h => ⟨h.1, fun p hp => by
    have := h.2 p hp
    cases p <;> first | exact this | (rw [hF] at hp; cases hp)⟩
  hbmSet := fun hF {s} a b h => ⟨h.1, fun p hp => by
    have := h.2 p hp
    cases p <;> first | exact this | (rw [hF] at hp; cases hp)⟩
  hbmFilter := fun hF {s} q h => ⟨h.1, fun p hp => by
    have := h.2 p hp
    cases p <;> first | exact this | (rw [hF] at hp; cases hp)⟩
  hbmClear := fun hF {s} h => ⟨h.1, fun p hp => by
    have := h.2 p hp
    cases p <;> first | exact this | (rw [hF] at hp; cases hp)⟩
  hostSet := fun hF {s} a b h => ⟨h.1, fun p hp => by
    have := h.2 p hp
    cases p <;> first | exact this | (rw [hF] at hp; cases hp)⟩
  rest := fun {s t} hs h1 h2 h3 h4 h5 h => ⟨h1.trans h.1, fun p hp => by
    have a := hs p hp
    have b := h.2 p hp
    cases p <;> first
      | exact a.trans b
      | exact ⟨a.1.trans b.1, a.2.trans b.2⟩
      | (simp only [samePart] at a b ⊢; rw [← b, ← a])⟩

theorem same_refl (s : State) (F : Part → Bool) : s.pending = s.pending ∧ ∀ p, F p = false → samePart p s s :=
  ⟨rfl, fun p _ => by cases p <;> first | rfl | exact ⟨rfl, rfl⟩⟩

end Sys2Proof.Machine
end

