-- ==== Sys2Proof/Laws/Push.lean ====
section
/-!
SUPPORT. What producing an entry does (R94): the entry's bytes are written at PROD and PROD advances by one.
-/
namespace Sys2Proof.Machine

/-- Writing bytes to host memory changes exactly those bytes. -/
theorem hostWrite_byte : ∀ (l : List Byte) (s : State) (a x : Nat),
    hostByte (hostWrite s a l) x = if a ≤ x ∧ x < a + l.length then l.getD (x - a) 0 else hostByte s x
  | [], s, a, x => by rw [if_neg (by simp)]; rfl
  | b :: l, s, a, x => by
    refine (hostWrite_byte l _ (a + 1) x).trans ?_
    have h : hostByte { s with mem := { s.mem with host := tabSet byteDefault s.mem.host a b } } x = if x = a then b else hostByte s x :=
      Laws.tabGet_tabSet ..
    rw [h]
    simp only [List.length_cons]
    by_cases h1 : x = a
    · subst h1
      rw [if_neg (by omega), if_pos rfl, if_pos (by omega), Nat.sub_self]; rfl
    · by_cases h2 : a + 1 ≤ x ∧ x < a + 1 + l.length
      · rw [if_pos h2, if_pos (by omega)]
        obtain ⟨k, hk⟩ : ∃ k, x - a = k + 1 := ⟨x - a - 1, by omega⟩
        rw [hk, show x - (a + 1) = k by omega]; rfl
      · rw [if_neg h2, if_neg h1, if_neg (by omega)]

/-- Writing bytes to HBM changes exactly those bytes, except where writes are discarded (R460, R476). -/
theorem putBytes_byte : ∀ (l : List Byte) (s : State) (a x : Nat),
    hbmByte (putBytes s a l) x =
      if a ≤ x ∧ x < a + l.length ∧ ¬(usableTop s ≤ x ∨ unbackedAt s x = true) then l.getD (x - a) 0 else hbmByte s x
  | [], s, a, x => by
    rw [if_neg (by simp only [List.length_nil]; omega)]; rfl
  | b :: l, s, a, x => by
    refine (putBytes_byte l _ (a + 1) x).trans ?_
    have h : hbmByte (if usableTop s ≤ a ∨ unbackedAt s a = true then s
        else { s with mem := { s.mem with hbm := tabSet byteDefault s.mem.hbm a b } }) x =
        if x = a ∧ ¬(usableTop s ≤ x ∨ unbackedAt s x = true) then b else hbmByte s x := by
      by_cases hd : usableTop s ≤ a ∨ unbackedAt s a = true
      · rw [if_pos hd, if_neg (fun ⟨e, k⟩ => k (e ▸ hd))]
      · rw [if_neg hd]
        refine (Laws.tabGet_tabSet ..).trans ?_
        by_cases e : x = a
        · rw [if_pos e, if_pos ⟨e, e ▸ hd⟩]
        · rw [if_neg e, if_neg (fun k => e k.1)]; rfl
    have hu : ∀ y, (usableTop (if usableTop s ≤ a ∨ unbackedAt s a = true then s
        else { s with mem := { s.mem with hbm := tabSet byteDefault s.mem.hbm a b } }) ≤ y ∨
        unbackedAt (if usableTop s ≤ a ∨ unbackedAt s a = true then s
        else { s with mem := { s.mem with hbm := tabSet byteDefault s.mem.hbm a b } }) y = true) ↔
        (usableTop s ≤ y ∨ unbackedAt s y = true) := by
      intro y
      split <;> exact Iff.rfl
    rw [h]
    simp only [hu, List.length_cons]
    by_cases h1 : x = a
    · subst h1
      rw [if_neg (by omega)]
      by_cases hd : usableTop s ≤ x ∨ unbackedAt s x = true
      · rw [if_neg (fun k => k.2 hd), if_neg (fun k => k.2.2 hd)]
      · rw [if_pos ⟨rfl, hd⟩, if_pos ⟨by omega, by omega, hd⟩, Nat.sub_self]; rfl
    · by_cases h2 : a + 1 ≤ x ∧ x < a + 1 + l.length ∧ ¬(usableTop s ≤ x ∨ unbackedAt s x = true)
      · rw [if_pos h2, if_pos ⟨by omega, by omega, h2.2.2⟩]
        obtain ⟨k, hk⟩ : ∃ k, x - a = k + 1 := ⟨x - a - 1, by omega⟩
        rw [hk, show x - (a + 1) = k by omega]; rfl
      · rw [if_neg h2, if_neg (fun k => h1 k.1), if_neg (fun k => h2 ⟨by omega, by omega, k.2.2⟩)]

theorem ringSignal_routerOnly (s : State) (r : Nat) : RouterOnly s (ringSignal s r) := by
  unfold ringSignal
  split
  · exact triggerVector_routerOnly _ _ (fld_lt _ 8 6)
  · exact .refl s

theorem ringClass_lt (s : State) (r : Nat) : ringClass s r < 8 := by
  unfold ringClass
  split <;> omega

/-- An enabled ring with room takes an entry, and says how. -/
theorem ringPush_eq (s : State) (r : Nat) (l : List Byte) (h1 : ringEnabled s r = true) (h2 : ringFull s r = false) :
    ringPush s r l = some (ringSignal ((memWrite s (ringHost s r) (ringClass s r) (entryAddr s r (s.rd (Reg.RING_PROD r)))
      (pushBytes s r l)).wr (Reg.RING_PROD r) ((memWrite s (ringHost s r) (ringClass s r) (entryAddr s r (s.rd (Reg.RING_PROD r)))
      (pushBytes s r l)).rd (Reg.RING_PROD r) + 1)) r) := by
  unfold ringPush
  rw [h1, h2]
  rfl

theorem ringReg_plain (r : Nat) (o : Nat) (h : o < 64) : routerReg (0x100000 + 64 * r + o) = false ∧ dataReg (0x100000 + 64 * r + o) = false := by
  constructor <;> (apply decide_eq_false; omega)

/-- Producing an entry changes PROD, and no other register but those that count moving data and the router's. -/
theorem ringPush_regs {s t : State} {r : Nat} {l : List Byte} (h : ringPush s r l = some t) :
    t.rd (Reg.RING_PROD r) = s.rd (Reg.RING_PROD r) + 1 ∧ dataKept [Reg.RING_PROD r] s t := by
  have h1 : ringEnabled s r = true := by
    cases e : ringEnabled s r with
    | true => rfl
    | false => rw [ringPush, e] at h; cases h
  have h2 : ringFull s r = false := by
    cases e : ringFull s r with
    | false => rfl
    | true => rw [ringPush, e, Bool.or_true] at h; cases h
  rw [ringPush_eq s r l h1 h2] at h
  injection h with h
  have hd := memWrite_data s (ringHost s r) (ringClass s r) (entryAddr s r (s.rd (Reg.RING_PROD r))) (pushBytes s r l) (ringClass_lt s r)
  generalize memWrite s (ringHost s r) (ringClass s r) (entryAddr s r (s.rd (Reg.RING_PROD r))) (pushBytes s r l) = m at h hd
  have hp : routerReg (Reg.RING_PROD r) = false ∧ dataReg (Reg.RING_PROD r) = false := ringReg_plain r 0x10 (by omega)
  have hr := ringSignal_routerOnly (m.wr (Reg.RING_PROD r) (m.rd (Reg.RING_PROD r) + 1)) r
  rw [h] at hr
  constructor
  · rw [hr.2.1 _ hp.1, State.rd_wr_self, hd _ hp.1 hp.2]
  · intro a ha h3 h4
    rw [hr.2.1 _ h3, State.rd_wr_ne _ _ (by simpa using ha), hd a h3 h4]

/-! ### The bytes of an entry -/

theorem xfer_hbm (s : State) (cls n : Nat) : (xfer s cls n).mem.hbm = s.mem.hbm := by
  have h := xfer_foot (closed_same s fun p => !decide (p = .hbm)) rfl rfl rfl rfl rfl (same_refl s _) (cls := cls) (n := n)
  exact h.2 .hbm rfl

theorem issue_hbm (s : State) (w : Bool) (a n : Nat) : (issue s w a n).mem.hbm = s.mem.hbm := by
  have h := issue_foot (closed_same s fun p => !decide (p = .hbm)) rfl rfl rfl rfl rfl (same_refl s _) (write := w) (a := a) (n := n)
  exact h.2 .hbm rfl

theorem cleanBlock_hbm (a n : Nat) (l : List Nat) : ∀ s : State, (l.foldl (cleanBlock a n) s).mem.hbm = s.mem.hbm := by
  induction l with
  | nil => intro _; rfl
  | cons b l ih =>
    intro s
    refine (ih _).trans ?_
    unfold cleanBlock
    split <;> rfl

theorem injectOn_hbm (s : State) (a n : Nat) : (injectOn s a n).mem.hbm = s.mem.hbm := by
  unfold injectOn
  simp only []
  split
  · split <;> rfl
  · rfl

theorem mem4_plain (o : Nat) (h : o < 0x1000) (k : o ≠ 0x14) :
    routerReg (0x94000 + o) = false ∧ dataReg (0x94000 + o) = false := by
  constructor <;> (apply decide_eq_false; omega)

/-- A write to HBM changes exactly its bytes, except where writes are discarded (R460, R476). -/
theorem hbmWrite_byte (s : State) (cls a x : Nat) (l : List Byte) (h : cls < 8) :
    hbmByte (hbmWrite s cls a l) x =
      if a ≤ x ∧ x < a + l.length ∧ ¬(usableTop s ≤ x ∨ unbackedAt s x = true) then l.getD (x - a) 0 else hbmByte s x := by
  have hd := (xfer_data s cls l.length h).trans (issue_data _ true a l.length)
  have hh : (issue (xfer s cls l.length) true a l.length).mem.hbm = s.mem.hbm := (issue_hbm _ _ _ _).trans (xfer_hbm _ _ _)
  have e0 : hbmByte (hbmWrite s cls a l) x = hbmByte (putBytes (issue (xfer s cls l.length) true a l.length) a l) x := by
    unfold hbmByte hbmWrite
    simp only []
    rw [injectOn_hbm, cleanBlock_hbm]
  generalize issue (xfer s cls l.length) true a l.length = u at hd hh e0
  have e1 : hbmByte u x = hbmByte s x := by unfold hbmByte; rw [hh]
  have e2 : usableTop u = usableTop s := by
    unfold usableTop State.rd64 State.rdN
    rw [hd Reg.MEM4_USABLE_TOP_LO (by decide) (by decide), hd Reg.MEM4_USABLE_TOP_HI (by decide) (by decide)]
  have e3 : unbackedAt u x = unbackedAt s x := by
    unfold unbackedAt chanUnbacked State.b
    have hl : x / 1024 % 62 < 62 := Nat.mod_lt _ (by decide)
    generalize x / 1024 % 62 = c at hl
    have hc := mem4_plain (0xC00 + 4 * c) (by omega) (by omega)
    have hm : Reg.MEM4_CHAN_MAP c = 0x94000 + (0xC00 + 4 * c) := by simp only [Reg.MEM4_CHAN_MAP]; omega
    rw [hm, hd _ hc.1 hc.2]
  rw [e0, putBytes_byte, e1, e2, e3]

theorem hbmWrite_host (s : State) (cls a : Nat) (l : List Byte) : (hbmWrite s cls a l).mem.host = s.mem.host := by
  have h := hbmWrite_foot (closed_same s fun p => !decide (p = .host)) rfl rfl rfl rfl rfl rfl (same_refl s _) (cls := cls) (a := a) (l := l)
  exact h.2 .host rfl

theorem hostWrite_hbm (s : State) (a : Nat) (l : List Byte) : (hostWrite s a l).mem.hbm = s.mem.hbm := by
  have h := hostWrite_foot (closed_same s fun p => !decide (p = .hbm)) rfl (a := a) l (same_refl s _)
  exact h.2 .hbm rfl

/-- A write stores its bytes and no other. -/
theorem memWrite_bytes (s : State) (sp : Bool) (cls a : Nat) (l : List Byte) (h : cls < 8) : bytesPut sp a l s (memWrite s sp cls a l) := by
  cases sp with
  | true =>
    refine ⟨fun x => ?_, fun x => ?_⟩
    · simp only [memWrite, if_true, true_and, hostWrite_byte]
    · simp only [memWrite, if_true, Bool.true_eq_false, false_and, if_false, hbmByte, hostWrite_hbm]
  | false =>
    refine ⟨fun x => ?_, fun x => ?_⟩
    · simp only [memWrite, Bool.false_eq_true, false_and, if_false, hostByte, hbmWrite_host]
    · simp only [memWrite, Bool.false_eq_true, if_false, true_and, hbmWrite_byte s cls a x l h]

theorem bytesPut_after {sp : Bool} {a : Nat} {l : List Byte} {s t u : State} (h : bytesPut sp a l s t)
    (k : u.mem.hbm = t.mem.hbm ∧ u.mem.host = t.mem.host) : bytesPut sp a l s u := by
  refine ⟨fun x => (?_ : hostByte u x = hostByte t x).trans (h.1 x), fun x => (?_ : hbmByte u x = hbmByte t x).trans (h.2 x)⟩
  · rw [hostByte, k.2]; rfl
  · rw [hbmByte, k.1]; rfl

/-- Producing an entry stores exactly its bytes. -/
theorem ringPush_bytes {s t : State} {r : Nat} {l : List Byte} (h : ringPush s r l = some t) : ringPut r l s t := by
  have h1 : ringEnabled s r = true := by
    cases e : ringEnabled s r with
    | true => rfl
    | false => rw [ringPush, e] at h; cases h
  have h2 : ringFull s r = false := by
    cases e : ringFull s r with
    | false => rfl
    | true => rw [ringPush, e, Bool.or_true] at h; cases h
  rw [ringPush_eq s r l h1 h2] at h
  injection h with h
  have hb := memWrite_bytes s (ringHost s r) (ringClass s r) (entryAddr s r (s.rd (Reg.RING_PROD r))) (pushBytes s r l) (ringClass_lt s r)
  generalize memWrite s (ringHost s r) (ringClass s r) (entryAddr s r (s.rd (Reg.RING_PROD r))) (pushBytes s r l) = m at h hb
  refine bytesPut_after hb ?_
  have hm := congrArg State.mem (ringSignal_routerOnly (m.wr (Reg.RING_PROD r) (m.rd (Reg.RING_PROD r) + 1)) r).1
  rw [← h, hm]
  exact ⟨rfl, rfl⟩

end Sys2Proof.Machine
end

