-- ==== Sys2Proof/Tests/Slice0.lean ====
section
/-!
SUPPORT. The model's own tests. First helpers that build small states. Then the well-formedness checks, each with a term it refuses;
one-step results taken from the worked examples of the spec; and, for every statement that has hypotheses, a theorem `meets_<name>`
that gives, for each of its clauses, a concrete state and operands meeting all hypotheses of the clause together.
-/
namespace Sys2Proof.Tests
set_option maxRecDepth 4000
set_option Elab.async false
open Sys2Proof Sys2Proof.Machine

/-! ### Helpers -/

/-- The state after boot, 5 s after reset: the fast clocks run, the PCIe link is up, every feature is active, boot is at READY and the memory
is up with nothing retired. -/
def on : State := ({ State.reset with
  power := { State.reset.power with lvin := true, fastClk := true, pcieUp := true, powerOns := 1 }, time := { State.reset.time with ns := 5000000000 } }).wrAll
  [(Reg.FEAT_ACTIVE_FEATURES 0, 0x1FFFFF), (Reg.FEAT_FEAT_STATUS, 1), (Reg.MAINT_BOOT_STATUS, 4),
   (Reg.MEM0_MEM_STATUS, 1), (Reg.MEM4_USABLE_TOP_LO, w32 (topFor 0)), (Reg.MEM4_USABLE_TOP_HI, w32 (topFor 0 / 2 ^ 32))]

/-- That state with these registers stored. -/
def st (l : List (Nat × Word)) : State := on.wrAll l

/-- The registers of a ring. -/
def ringBy (r : Nat) (cfg owner base prod cons ctrl : Word) : List (Nat × Word) :=
  [(Reg.RING_CFG r, cfg), (Reg.RING_OWNER r, owner), (Reg.RING_BASE_LO r, base), (Reg.RING_PROD r, prod), (Reg.RING_CONS r, cons),
   (Reg.RING_CTRL r, ctrl), (Reg.RING_STATUS r, if bit ctrl 0 then 0 else 1)]

/-- The state with bytes put into HBM. -/
def hbmPut (s : State) (a : Nat) (l : List Byte) : State := memWrite s false 4 a l

/-- An entry with the common header (R98), filled with 0 to its size. -/
def entry (size : Nat) (op epoch tag : Nat) (body : List Byte) : List Byte :=
  (leBytes 2 op ++ leBytes 2 epoch ++ leBytes 4 tag ++ body ++ List.replicate size 0).take size

/-- Ring 7, an event log ring of 16 entries in host memory. -/
def logSt (ctrl prod cons : Word) (sel : Word) : State := st (ringBy 7 0x784 4 0x10000 prod cons ctrl ++ [(Reg.EVT0_LOG_RING, sel)])

/-- A log record. -/
def rec0 : LogRec := ⟨3, 1, false, 0, 0, 5000000000, [1]⟩

/-- Ring 40, a job ring of CJE0 with 16 entries of 128 bytes, and its completion ring 41. -/
def jobRings (ctrl prod cons : Word) : State :=
  st (ringBy 40 0x2C4 0x31 0x20000 prod cons ctrl ++ [(Reg.RING_COMP 40, 0x80000029)] ++ ringBy 41 0x384 0 0x30000 0 0 1)

/-- The state with bytes put into host memory. -/
def hostPut (s : State) (a : Nat) (l : List Byte) : State := memWrite s true 4 a l

/-- The state a command answers. -/
def after (c : Instr) (s : State) : State := match exec c s with | .next t => t | _ => s

/-- The state after commands, in order. -/
def ran : List Instr → State → State
  | [], s => s
  | c :: l, s => ran l (after c s)

/-- Ring 40 of an owner whose page is enabled, with one entry of host memory at index 1, and its completion ring 41. -/
def held (cfg owner : Word) (page : Nat) (regs : List (Nat × Word)) (e : List Byte) : State :=
  hostPut (st ([(Reg.PAGE_CTRL page, 1), (Reg.PAGE_STATUS page, 0)] ++ ringBy 40 cfg owner 0x20000 2 1 1 ++
    [(Reg.RING_COMP 40, 0x80000029)] ++ ringBy 41 0x384 0 0x30000 0 0 1 ++ regs)) (0x20000 + e.length) e

/-- An entry of a COMPRESS job: one frame of 4 × 1 samples of 8 bits. -/
def compressEntry : List Byte :=
  entry 128 2 0 9 (List.replicate 24 0 ++ leBytes 4 16 ++ List.replicate 16 0 ++
    [16, 0, 0, 0, 4, 0, 1, 0, 1, 0, 8, 1, 0x44, 0, 0, 0, 1, 0, 0, 0])

/-- An ABORT entry that names the entry with index 5 of ring 42. -/
def abortEntry : List Byte := entry 128 0xFF 0 9 (leBytes 4 42 ++ leBytes 4 5)

/-- A job of ring 40. -/
def job (e : List Byte) : Job := ⟨40, 1, 9, e, 5000000000⟩

/-- Job engine 0 with role 3 and an entry to take. -/
def cje (e : List Byte) : State := held 0x2C4 0x31 0x31000 [(Reg.PAGE_ROLE 0x31000, 3)] e

/-- A job that runs on job engine 0. -/
def run0 : JobRun := ⟨job (entry 128 3 0 9 []), 0, 0, [⟨0, 0, 0, 0, 0, []⟩], 0, 0, [], (0, 0)⟩

/-- Job engine 0 with that job. -/
def busyCje : State := { cje [] with eng := [(0, ⟨some run0, 40⟩)], ring := { on.ring with jobs := [run0.job] } }

/-- The decode cluster with an entry to take. -/
def codec (e : List Byte) (regs : List (Nat × Word)) : State := held 0x2C4 0x30 0x30000 ([(Reg.PAGE_ROLE 0x30000, 1)] ++ regs) e

/-- A FRAME_REPORT entry for frame 7 of store 0. -/
def reportEntry : List Byte := entry 128 0x10 0 9 (leBytes 4 0 ++ leBytes 4 7)

/-- A PLAY entry of 100 frames from frame 50000 on. -/
def playEntry : List Byte := entry 64 1 0 9 (leBytes 8 0x5000 ++ leBytes 4 100 ++ leBytes 4 0 ++ leBytes 8 50000)

/-- A SEND entry to group 0 with two payload bytes. -/
def sendEntry : List Byte := entry 64 1 0 9 ([0x10, 0x40, 2, 0, 0, 0, 0, 0, 7, 8])

/-- A HOST_SCENE entry that names 32 bytes of host memory. -/
def sceneEntry : List Byte := entry 64 0x101 0 9 (leBytes 8 0x5000 ++ leBytes 4 32)

/-- Its state: a pool of 16 slots. -/
def sceneSt : State := held 0xCA4 0x21 0x22000 [(Reg.INGEST_POOL_SIZE, 16)] sceneEntry

/-- Transaction 0 of the host in a state, with what it holds. -/
def txn0 (state : Word) (result : Word) (x : Txn) (regs : List (Nat × Word)) : State :=
  { st ([(Reg.TXN_TXN_STATE 0, state), (Reg.TXN_TXN_RESULT 0, result)] ++ regs) with txn := { on.txn with t0 := x } }

/-- A transaction that stages POL_CTRL of head 0 for its next latch. -/
def polTxn (cmd : Word) : Txn := { Txn.free with staged := [(Reg.OUT_POL_CTRL 0, 0x33)], cmd := cmd }

/-- Registers of domain `d` in a mode and a state. -/
def dom (d : Nat) (ctrl state : Word) : List (Nat × Word) := [(Reg.TIME_DOM_CTRL d, ctrl), (Reg.TIME_DOM_STATE d, state)]

/-- Domain 0 follows grandmaster 7 and has been LOCKED. -/
def slave0 : State :=
  { st (dom 0 1 3 ++ [(Reg.TIME_GM_ID_LO 0, 7)]) with
    time := { on.time with epochSet := true, domA := { DomSt.reset with hasGm := true, hasDelay := true, hasFreq := true } } }

/-- PPS mode, LOCKED, 5 s and 10 ns. -/
def pps0 : State :=
  { st (dom 0 3 3 ++ [(Reg.TIME_TIME_STATUS, 0x20)]) with time := { on.time with epochSet := true, ns := 5000000010 } }

/-- Slot `i` with its CTRL and PAYLOAD, ARMED for 5 s, in an enabled scheduler. -/
def slot (i : Nat) (ctrl payload : Word) : State :=
  st [(Reg.PAGE_CTRL 0x11000, 1), (Reg.SCHED_SLOT_CTRL i, ctrl), (Reg.SCHED_SLOT_PAYLOAD i, payload), (Reg.SCHED_SLOT_STATUS i, 1),
    (Reg.SCHED_SLOT_TIME_LO i, w32 5000000000), (Reg.SCHED_SLOT_TIME_HI i, 1), (Reg.SCHED_ARMED_COUNT, 1)]

/-- A scheduler with a record and an enabled SCHED_LOG ring. -/
def schedLog (prod : Word) : State :=
  { st (ringBy 43 0xA84 0x11 0x50000 prod 0 1) with sched := { on.sched with buf := [⟨3, 1, 5000000000, 5000000000, 0, 2⟩] } }

/-- Head 0, enabled with role 1 and ACTIVE, with what it holds; a field lasts 1/60 s. -/
def headSt (t : HeadSt) (regs : List (Nat × Word)) : State :=
  { st ([(Reg.PAGE_CTRL 0x40000, 1), (Reg.PAGE_STATUS 0x40000, 0), (Reg.PAGE_ROLE 0x40000, 1), (Reg.HEAD_HEAD_STATUS 0, 3)] ++ regs) with
    heads := [(0, t)] }

/-- A head that runs, its field begun 15 ms ago. -/
def running : HeadSt := { HeadSt.fresh with run := true, sending := true, anchor := 4985000000, cur := { FieldSt.none_ with produced := true } }

/-- Lanes 0 to 11 of head 0, enabled with a role. -/
def lanesOf (role : Word) : List (Nat × Word) :=
  (List.range 12).flatMap fun n => [(Reg.ZL_LANE_ROLE 0 n, role), (Reg.ZL_LANE_CTRL 0 n, 1)]

/-- A running head whose field in production has these registers in effect. -/
def producingSt (F : FieldSt → FieldSt) : State := headSt { running with cur := F running.cur } []

/-- A field whose layer 1 of head 0 reads a buffer. -/
def layer1 (descs : Tab (Option LayerBuf)) (F : FieldSt) : FieldSt :=
  { F with cfg := [(Reg.PAGE_CTRL (layerBase 0 1), 1), (Reg.LAYER_LAYER_CFG 0 1, 1)], descs := descs }

/-- A frame in assembly of a store, due at 4 s. -/
def asm0 (closed : Bool) (tiles : Tab TileSt) (hdr : Option FrameHdr) : Asm :=
  ⟨7, 0, 4000000000, 0, 0, 0, none, hdr, tiles, 0, closed, false, false, false, []⟩

/-- Store 3 with a frame in assembly. -/
def store3 (f : Asm) : State := { on with ing := { on.ing with stores := [(3, { StoreSt.fresh with asm := [f] })] } }

/-- A frame header of one tile. -/
def hdr0 : FrameHdr := ⟨true, false, 8, 1, 8, 8, 1, 4, 4, [0, 0, 0, 0], [], 1, 0⟩

/-- Port 0 up, with address 10.0.0.1, a page that is enabled and a pool. -/
def port0 : State := st [(Reg.NET_LINK_STATUS 0, 5), (Reg.NET_PORT_CTRL 0, 0x18), (Reg.NET_IPV4_ADDR 0, 0x0A000001), (Reg.NET_IPV6_ADDR 0 0, 0xFE800000),
  (Reg.NET_PST_UDP_PORT 0, 5000), (Reg.PAGE_CTRL 0x20000, 1), (Reg.INGEST_POOL_SIZE, 16)]

/-- That port with flow 0 to ring 40, a SCENE_RX ring, as CFG says. -/
def flowPort (cfg : Word) : State :=
  port0.wrAll ([(Reg.FLOW_FLOW_CTRL 0, 3), (Reg.FLOW_FLOW_TARGET 0, 40)] ++ ringBy 40 cfg 0x21 0x2000000 2 1 1)

/-- A field captured by writeback whose regions have all stopped with a status. -/
def wb0 : WbField := ⟨1, 0, [], [], 0, [], 0, 2, 0, 0, 0, 0, 0⟩

/-- A RECEIVE head whose lane 0 holds block lock and has synchronised. -/
def rxSt : State :=
  { headSt running [(Reg.PAGE_ROLE 0x40000, 2), (Reg.ZL_LANE_ROLE 0 0, 2), (Reg.ZL_LANE_STATUS 0 0, 5)] with
    links := [(0, { LinkSt.fresh with lanes := [(0, { LaneSt.fresh with lock := true, scr := some (zlSeed 0) })] })] }

/-- The blank packet of line 0, group 0, as the lane sends it. -/
def rxBlk : Block := ⟨2, (zlBytes (zlSeed 0) (lineStartBlock 0 0 false false true 0 0).payload).2⟩

/-- A firmware image that verifies. -/
def image0 : FwImage := ⟨0x10000, 1, 100, 0, true, true⟩

/-- A boot stage with what the management core holds; an image in slot A. -/
def bootSt (stage : Word) (running : Option Bool) : State :=
  { st [(Reg.MAINT_BOOT_STATUS, stage)] with maint := { on.maint with slotA := some image0, running := running } }

/-- The rail keeper in a state, with its channel up, and registers. -/
def keeper (state : Word) (regs : List (Nat × Word)) : State :=
  st ([(Reg.PAGE_CTRL 0x80000, 1), (Reg.PAGE_CTRL 0x81000, 1), (Reg.PAGE_CTRL 0x82000, 1), (Reg.RAIL2_KEEPER_STATUS, state + 8)] ++ regs)

/-- Lane 0 of head 0, enabled with a role and in a state, with what it and its link hold; the head's role is `hr`. -/
def lane0 (hr role state : Word) (x : LaneSt) (l : LinkSt) (regs : List (Nat × Word)) : State :=
  { st ([(Reg.PAGE_CTRL 0x4C000, 1), (Reg.PAGE_ROLE 0x40000, hr), (Reg.ZL_LINK_CFG 0, 0x10), (Reg.ZL_LANE_CTRL 0 0, 1), (Reg.ZL_LANE_ROLE 0 0, role),
    (Reg.ZL_LANE_STATUS 0 0, 0xF000 + state)] ++ regs) with links := [(0, { l with lanes := [(0, x)] })] }

/-- A lane whose port A is present. -/
def portA : LaneSt := { LaneSt.fresh with presA := true }

/-- A link whose group 0 has reported this status. -/
def reported (b : List Byte) : LinkSt := { LinkSt.fresh with status := [(0, b)] }

/-- A request to group 0 that waits for its reply. -/
def asked (typ : Byte) : LinkSt := { LinkSt.fresh with req := some ⟨0x10, typ, [], none, false, 4000000000⟩ }

/-- A band of a waveform table (R436): two balanced phases of 100 µs. -/
def waveBand (b : Nat) : List Byte :=
  leBytes 4 ((65436 + 80 * b) % 65536 + 2 * 2 ^ 16 + 4 * 2 ^ 24) ++ leBytes 4 1000 ++ leBytes 4 (100 + 2 * 2 ^ 16) ++ leBytes 4 0 ++
    leBytes 8 (100 + 2 ^ 16 + 2 ^ 20 + 2 * 2 ^ 22) ++ leBytes 8 (100 + 2 * 2 ^ 16 + 2 * 2 ^ 20 + 2 ^ 22) ++ List.replicate 96 0

/-- A waveform table. -/
def wave0 : List Byte := (List.range 8).flatMap waveBand

/-- The optic layer enabled, its rails regulating, at 25.0 °C, with a waveform table; row 5 waits for re-drive. -/
def optic : State :=
  { keeper 4 [(Reg.PAGE_CTRL optBase, 1), (Reg.PAGE_STATUS optBase, 0), (Reg.OPT_OPT_CFG, 1), (Reg.RAIL0_RAIL_STATUS 8, 2), (Reg.RAIL0_RAIL_STATUS 9, 2),
      (Reg.RAIL1_PANEL_TEMP, 0x100FA), (Reg.OPT_OPT_GEOM, 0xA00140)] with
    keeper := { on.keeper with wave := wave0 }, opt := { on.opt with rows := [(5, { OptRow.fresh with driven := 1, redrive := 1 })] } }

/-- A row to drive: cell 1 to CLEAR, cell 0 to LENS. -/
def row5 : RowJob := ⟨5, 2, 1, 0⟩

/-- A RUNNING batch with that row, in a phase. -/
def batch0 (phase : Nat) : Batch := ⟨7, 4, [row5], phase, (0, 0), 1, 0, false, false, false, false, false⟩

/-- The optic layer with that batch. -/
def driving (phase : Nat) : State := { optic with opt := { optic.opt with run := some (batch0 phase) } }

/-- A read request. -/
def memReq0 : MemReq := ⟨.engine 3, 0x1000, none, 32⟩

/-- Its place in the queue. -/
def memWait0 (at_ : Nat) : MemWait := ⟨0, 0, memReq0, at_, false⟩

/-- The memory with what its controller holds and registers. -/
def memSt (m : MemSt → MemSt) (regs : List (Nat × Word)) : State := { st regs with mem := m on.mem }

/-- PC 0 serves channel 0, PC 62 is a spare; the periods of training are 0. -/
def pcs : List (Nat × Word) := [(Reg.STACK_PC_STATUS 0 0, 0), (Reg.STACK_PC_STATUS 1 30, 0x3F01), (Reg.MEM4_RETRAIN_PERIOD, 0)]

/-- Port 0 of audio in a state of its own, with registers. -/
def sap0 (t : PortSt) (regs : List (Nat × Word)) : State := { st regs with audio := [(0, t)] }

/-- A dump that waits, of one counter. -/
def dump0 : Dump := ⟨0, 5000000000, 0, 1, 2, [(5, false)]⟩

/-- The performance page with a ring of a type for dumps or glint records. -/
def perfSt (cfg : Word) : List (Nat × Word) :=
  [(Reg.PAGE_CTRL 0xC0000, 1), (Reg.PERF0_DUMP_RING, 45), (Reg.PERF0_GLINT_RING, 45), (Reg.PERF0_DUMP_SEL, 0x10000)] ++ ringBy 45 cfg 0xC0 0x60000 0 0 1

/-- A tagged ray that has ended. -/
def ray0 : GlintRay := ⟨1, 2, 3, 0, true, false, false, 4, 0, 5, some (1, 2), 6, 7, false, false, false, 8, 0, true, some 5⟩

/-- A record of the maintenance log. -/
def maintRec0 : MaintRec := ⟨1, 2, 0, 0, 5000000000, 0, 1, [], 0⟩

/-- The management core with what it holds and FW_STATUS; it runs slot A. -/
def fwSt (status : Word) (m : MaintSt → MaintSt) (regs : List (Nat × Word)) : State :=
  { st ([(Reg.MAINT_FW_STATUS, status)] ++ regs) with
    maint := m { on.maint with running := some false, slotA := some image0, slotB := some { image0 with version := 0x20000 } } }

/-- The maintenance log with as many records as flash holds. -/
def fullLog : State := fwSt 0 (fun m => { m with wait := [maintRec0], log := List.replicate 65536 (1, maintRec0) }) []

/-! ### Well-formed commands: for each check a term that it refuses -/

theorem test_wf_refuses_unaligned_address : wf (.registerWrite .host 0x40002 0 0xF) = false := by decide
theorem test_wf_refuses_address_past_bar0 : wf (.lowWordRead .host 0x1000000) = false := by decide
theorem test_wf_refuses_page_base : wf (.pageEnable .host 0x40004) = false := by decide
theorem test_wf_refuses_quiet_unit : wf (.quiescence (.page 0x100000)) = false := by decide
theorem test_wf_refuses_role_target : wf (.roleWrite .host (.page 0x40001) 1) = false := by decide
theorem test_wf_refuses_bar4_data : wf (.bar4Access true 0 2 [1]) = false := by decide
theorem test_wf_refuses_bar4_range : wf (.bar4Access false 0xFFFFFFF 2 []) = false := by decide
theorem test_wf_refuses_ipv4_address : wf (.arpRequest 0 false 0x100000000) = false := by decide
theorem test_wf_refuses_empty_frame : wf (.ethernetFrameReceived 0 ⟨true, 0, 0, .pst, false, 0, 0⟩) = false := by decide
theorem test_wf_refuses_block_header : wf (.rxLinePacket 0 0 ⟨0, [⟨4, []⟩]⟩) = false := by decide
theorem test_wf_refuses_ray_before_issue : wf (.rayDeadline 0 ⟨0, 1, 2, 0, 0, true⟩ 0) = false := by decide
theorem test_wf_refuses_readings : wf (.precheckComplete []) = false := by decide
theorem test_wf_refuses_rail_load : wf (.railPowerLimit [⟨13, 0⟩]) = false := by decide
theorem test_wf_refuses_crack_readings : wf (.crackLoopMeasurement [1, 2]) = false := by decide
theorem test_wf_refuses_thermistors : wf (.thermistorRead [1]) = false := by decide
theorem test_wf_refuses_sensor_count : wf (.sensorSample 0 [1, 2, 3, 4, 5, 65536]) = false := by decide
theorem test_wf_refuses_audio_words : wf (.audioFrame 0 (List.replicate 33 0) [] true) = false := by decide
theorem test_wf_refuses_memory_bytes : wf (.memoryRequest 0 (some { memReq0 with write := some [1] })) = false := by decide
theorem test_wf_accepts : (wf (.pageEnable .host 0x40000) && wf (.bar4Access true 0xFFFFFFE 2 [1, 2]) &&
    wf (.sensorSample 0 [1, 2, 3, 4, 5, 65535])) = true := by decide

/-! ### One step, with results taken from the spec's worked examples -/

/-- The features before any request, with a request written. -/
def asking (active request : Word) (regs : List (Nat × Word)) : State :=
  st ([(Reg.FEAT_ACTIVE_FEATURES 0, active), (Reg.FEAT_FEAT_STATUS, 0), (Reg.FEAT_DRV_FEATURES 0, request)] ++ regs)

/-- A request's check, run to its end. -/
def checked (s : State) : State := ran [.featureAccept .host 1, .featureCheckComplete] s

/-- 02_register_model.md, worked example, first request: RESULT 4 and BIT 3; only BASE stays active. -/
theorem test_feature_dependency :
    let t := checked (asking 1 0x300B9 [])
    t.rd Reg.FEAT_FEAT_STATUS = 0x00030040 ∧ t.rd (Reg.FEAT_ACTIVE_FEATURES 0) = 1 := by decide +kernel

/-- The same example, second request. -/
theorem test_feature_accepted :
    let t := checked (asking 1 0xB00BB [])
    t.rd Reg.FEAT_FEAT_STATUS = 0x11 ∧ t.rd (Reg.FEAT_ACTIVE_FEATURES 0) = 0xB00BB := by decide +kernel

/-- The same example: PAGE_FEAT of RGU0, OPT, HEAD0, ZL0 and CJE0 after the second request. -/
theorem test_page_feat :
    [0x41000, 0x84000, 0x40000, 0x4C000, 0x31000].map (fun b => readVal (asking 0xB00BB 0 []) .host (Reg.PAGE_FEAT b)) =
      [0x3, 0x11, 0x80021, 0x21, 0x1] := by decide +kernel

/-- The same example: AUDIO is in use while SAP2 is enabled (RESULT 5, BIT 7). -/
theorem test_feature_in_use :
    let t := checked (asking 0xB00BB 0xB003B [(Reg.PAGE_CTRL 0xA2000, 1), (Reg.PAGE_STATUS 0xA2000, 0)])
    t.rd Reg.FEAT_FEAT_STATUS = 0x00070050 ∧ t.rd (Reg.FEAT_ACTIVE_FEATURES 0) = 0xB00BB := by decide +kernel

/-- 03_rings_and_transactions.md, worked example: BEGIN while the management core holds transaction 0 gives transaction 1. -/
theorem test_begin_txn :
    let t := after (.beginTxn .host) (txn0 5 0 Txn.free [])
    readVal t .host Reg.TXN_TXN_LAST = 0x11 ∧ t.rd (Reg.TXN_TXN_STATE 1) = 1 := by decide +kernel

/-- The same example: two writes staged. -/
theorem test_stage :
    let s := st [(Reg.TXN_TXN_STATE 1, 1), (Reg.TXN_STAGE_ADDR 1, 0x4B104)]
    let t := (after (.stageDataWrite .host 1 1) s).wr (Reg.TXN_STAGE_ADDR 1) 0x5B104
    (after (.stageDataWrite .host 1 1) t).rd (Reg.TXN_TXN_STATE 1) = 0x00020001 := by decide +kernel

/-- 04_time_and_schedule.md, worked example: the tick increment of +2,500 ppb, and during a slew of 100 ppm. -/
theorem test_increment :
    incrOf 0x40000000 2500 0 = 0x40000A7C ∧ slewMag 0x40000000 100 = 107374 ∧ incrOf 0x40000000 2500 107374 = 0x4001ADEA := by decide +kernel

/-- The same example: a correction of −3 ms is refused, proposed and makes the domain SUSPECT. -/
theorem test_jump_refused :
    let t := refuseJump (st []) 0 (-3000000)
    t.rd64 (Reg.TIME_PROPOSED_LO 0) (Reg.TIME_PROPOSED_HI 0) = 0xFFFFFFFFFFD23940 ∧ t.rd (Reg.TIME_DOM_STATE 0) = 5 := by decide +kernel

/-- The same example: DOMAIN_SWITCH to domain B, 420 ns away. -/
theorem test_domain_switch :
    let t := after (.domainSwitch .host 0x80000001) (st (dom 1 1 3 ++ [(Reg.TIME_OFFSET_LO 1, 420)]))
    t.rd Reg.TIME_SLEW_REMAINING_LO = 420 ∧ t.f Reg.TIME_TIME_STATUS 0 1 = 1 := by decide +kernel

/-- The frame header of 06_shuoc_codec.md's worked example. -/
def shuocHdr : List Byte := [1, 1, 0x0A, 1, 0, 0x14, 0, 0x12, 0, 1, 0x44, 0, 0, 1, 0, 0, 0, 0, 0, 4, 0, 0, 0, 0]

/-- Its tile 3, with a table selector. -/
def shuocTile (tsel : Byte) : List Byte := [0, 0, 0x0A, 3, tsel, 0xF9, 0x13, 0x81, 0xBA, 0x10]

/-- What that frame's consumer needs: PST form, with both features. -/
def shuocNeeds : ShuocNeeds := ⟨false, false, true, true, true, [0, 1, 2, 3, 4, 5, 6]⟩

/-- The decoded tile, or its error. -/
def shuocDecoded (tsel : Byte) : List (List Nat) × Nat :=
  match decodeTile shuocNeeds (hdrFields shuocHdr) 3 true false (fun _ _ _ _ _ => 0) (shuocTile tsel) with
  | .ok l => (l, 0)
  | .error e => ([], e)

/-- 06_shuoc_codec.md, worked example: the header's fields. -/
theorem test_shuoc_header :
    let h := hdrFields shuocHdr
    h.key = true ∧ [h.bd, h.c, h.width, h.height, h.tx, h.ty, h.tileCount] = [10, 1, 20, 18, 2, 2, 4] ∧ h.near = [1, 0, 0, 0] := by decide +kernel

/-- The same example: the samples of tile 3, and the first one as the store holds it. -/
theorem test_shuoc_tile :
    shuocDecoded 0x20 = ([[572, 575, 575, 575, 572, 569, 581, 578]], 0) ∧ widen12 10 572 = 2290 := by decide +kernel

/-- The same example: selector 8 names a table the frame does not hold; 0x28 has an unused nibble that is not 0. Both are one error. -/
theorem test_shuoc_table_sel : (shuocDecoded 0x80).1 = [] ∧ (shuocDecoded 0x80).2 = (shuocDecoded 0x28).2 := by decide +kernel

/-- The LENS record of block (3, 2) in 08_ray_maps.md's worked example. -/
def lensRec : BlkRec :=
  blkRec (wordsBytes [0x00400000, 0x00147AE1, 0x00F92C60, 0x00000100, 0x00800000, 0, 0, 0x00600000, 0x00002AAB, 0, 0x00400000, 0,
    0x00008000, 0x41003F00, 0x01424000, 3])

/-- 08_ray_maps.md, worked example: the record's slopes and cell. -/
theorem test_block_record : (lensRec.sDx, lensRec.sDy, lensRec.sDr, lensRec.cell, lensRec.wrap) = (1342177, -447392, 256, 322, true) := by
  decide +kernel

/-- The same example: the ray of the green subpixel of pixel (202, 133), residual 0x85. -/
theorem test_ray_record : rayRecord lensRec 0 10 5 1 false 0x85 = ⟨0x98C4, 0x8000, 0x652B, 0x4280, 0x4100, true, false, 1⟩ := by
  decide +kernel

/-- The same example: a value of 2,000 after that gain. -/
theorem test_gain : applyGain 2000 0x4100 = 2031 := by decide +kernel

/-- The taps of 09_ray_gather.md's worked example: picture, column, row. -/
def exampleTap (p x y : Nat) : Nat :=
  (if p = 43 then 2100 else if p = 54 then 1900 else 2000) + (if x = 26 then 40 else 0) - (if y = 17 then 20 else 0)

/-- Its scene and its ray, under a LENS or a CLEAR cell. -/
def exampleScene : SceneGeom := ⟨3840, 2160, 3, 12, 8⟩
def exampleRay (clear : Bool) : Ray := ⟨0x98C4, 0x8000, 0x652B, 0x4280, 0x4100, true, clear, 1⟩

/-- 09_ray_gather.md, worked example: the views, weights and spatial results. -/
theorem test_view_position :
    viewPos 0x98C4 12 false = (6, 7, 169) ∧ viewPos 0x8000 8 false = (3, 4, 128) ∧
    [42, 43, 54, 55].map (fun p => spatial (exampleTap p) (corners 3840 2160 0x652B 0x4280)) =
      [131010560, 137564160, 124456960, 131010560] := by decide +kernel

/-- The same example: the ray value. -/
theorem test_view_ray : viewRay exampleScene exampleTap (exampleRay false) true = (2046, 4095) := by decide +kernel

/-- The same example: under a CLEAR cell the single nearest view, picture 55, gives 1,999 before the gain (2,030 after it: 08's formula). -/
theorem test_clear_flat_ray : viewRay exampleScene exampleTap (exampleRay true) true = (applyGain 1999 0x4100, 4095) := by decide +kernel

/-- The plane stack of the example: colour and alpha of each plane, the same at every tap. -/
def exampleTaps (j c _x _y : Nat) : Nat := if c = 3 then [2000, 4000, 3000, 4095].getD j 0 else [1000, 1500, 800, 4095].getD j 0

/-- The same example: after three planes the ray ends with (1,777, 4,082). -/
theorem test_plane_steps :
    let p := planeSteps exampleScene (fun _ => (0, 0)) exampleTaps (exampleRay false) false 4 0 ⟨0, 0, 0, []⟩
    (p.ac, p.aa, p.steps) = (1777, 4082, 3) := by decide +kernel

/-- 10_composition.md, worked example: widening, and the composition of four layers, and without layer 2. -/
theorem test_composition :
    widenTo12 8 64 = 1028 ∧ widenTo12 8 230 = 3694 ∧
    blendStep 0 2046 387 1542 = 1663 ∧ blendStep 3 1663 3694 4095 = 1500 ∧ blendStep 1 1500 100 0 = 1600 ∧
    blendStep 1 (blendStep 3 2046 3694 4095) 100 0 = 1946 := by decide +kernel

/-- 11_scanout.md, worked example: the starts of fields 1200, 1201 and 1202. -/
theorem test_field_starts :
    [1200, 1201, 1202].map (schedStart 2000000000 60 1) = [22000000000, 22016666666, 22033333333] := by decide +kernel

/-- The same example: dithering 1,710 to 10 bits in fields 1201 and 1203, ROTATING. -/
theorem test_dither : dither 1710 202 133 1 1201 10 2 = 427 ∧ dither 1710 202 133 1 1203 10 2 = 428 := by decide +kernel

/-- 12_zalen_link.md, worked example: payload and blocks of a group of a 15360 pixel line at 10 bits, and the width of the group. -/
theorem test_link_blocks : payloadBytes 0 15360 10 = 4800 ∧ dataBlocks 0 15360 10 = 300 ∧ groupW 0 15360 = 1280 := by decide +kernel

/-- The same example: bytes 0 to 11 of the LINE_START of line 133, field 1201, and the payload bytes of value 607 = 0x1AB of group 0. -/
theorem test_line_start_block :
    (lineStartBlock 133 0 false false false 300 1201).payload.take 12 = [0x66, 0x85, 0, 0, 0x2C, 1, 0xB1, 4, 0, 0, 0, 0] ∧
    ((packLine (List.replicate 607 0 ++ [0x1AB]) 10 760).drop 758).take 2 = [0xC0, 0x6A] := by decide +kernel

/-- 13_panel_rails.md, worked example: the sequence table. -/
def exampleSeq : List (Nat × Word) :=
  ([(0x01F400A1, 0x005003E8), (0x01F400C1, 0x005003E8), (0x07D00021, 0x00A001F4), (0x07D00031, 0x00A001F4), (0x03E80011, 0x00A001F4),
    (0x03E80001, 0x00A003E8), (0x03E80041, 0x00A001F4), (0x00000204, 0x000007D0), (0x00000003, 0)].zipIdx).flatMap
    fun p => [(Reg.RAIL2_SEQ_A p.2, p.1.1), (Reg.RAIL2_SEQ_B p.2, p.1.2)]

/-- The same example: the down sequence takes 15,000 µs, and the table passes R413 when its rails are enabled. -/
theorem test_down_time :
    let s := st (exampleSeq ++ [0, 1, 2, 3, 4, 10, 12].map fun r => (Reg.RAIL0_RAIL_STATUS r, 8))
    downTime s 9 = 15000 ∧ tableFail s = none ∧ endStep s = some 9 := by decide +kernel

/-- 14_optic_layer.md, worked example: a net of +6,000 V·µs for a cell that changes to CLEAR, and one compensation phase of VCN. -/
theorem test_volt_microseconds : vus 37500 600 + vus (-37500) 400 + vus (-7500) 200 = 6000 ∧ vus 7500 800 = 6000 := by decide +kernel

/-- 15_memory.md, worked example: address 0x0C801400 is in PC 19 at offset 3,382,272, bank 3, row 103. -/
theorem test_memory_map : hbmMap (st [(Reg.MEM4_CHAN_MAP 19, 19)]) 0x0C801400 = (19, 3382272) ∧ bankRow 3382272 = (3, 103) := by decide +kernel

/-- 15_memory.md, R462: the service class of a requester of each row of the table. -/
theorem test_request_class :
    [MemAgent.opticMap 0, .rayCache 1, .decode, .bar4, .engine 7, .scrub].map MemAgent.cls = [0, 1, 2, 3, 4, 5] := by decide

/-- The master port of 16_audio.md's worked example: 48 kHz, anchor 10,000,002,000 ns. -/
def examplePort : State :=
  sap0 PortSt.fresh [(Reg.SAP_PORT_CFG 0, 0x20), (Reg.SAP_ANCHOR_LO 0, w32 10000002000), (Reg.SAP_ANCHOR_HI 0, 2)]

/-- 16_audio.md, worked example: the starts of frames 48,000, 48,001, 96,482 and 96,483 after the anchor. -/
theorem test_frame_times :
    [48000, 48001, 96482, 96483].map (fun k => frameStart examplePort 0 k - 10000002000) =
      [1000000000, 1000020833, 2010041666, 2010062500] := by decide +kernel

/-- Zone 2 of 17_thermal_and_power.md's worked example at its third sample of sensor 14. -/
def exampleZone : State :=
  { st (([961, 974, 620, 950, 942, 968].zipIdx).map fun p => (Reg.THERM_SENSOR (12 + p.2), p.1)) with
    therm := { on.therm with sensors := ([961, 974, 620, 950, 942, 968].zipIdx).map fun p => (12 + p.2, ⟨p.1, if p.2 = 2 then 2 else 0, 0⟩) } }

/-- 17_thermal_and_power.md, worked example: sensor 14 becomes SUSPECT and the zone reads 100.4 °C. -/
theorem test_sensor_suspect :
    let s := checkSensor (okSensors exampleZone 2) exampleZone 14
    let t := (zoneSensors 2).foldl (formEff 2) s
    sensorState t 14 = 1 ∧ zoneTempOf t 2 = some 1004 := by decide +kernel

/-- 20_bringup.md, worked example: FEATURE_ACCEPT of 0x0002B013. -/
theorem test_bringup_features :
    (checked (asking 1 0x2B013 [])).rd (Reg.FEAT_ACTIVE_FEATURES 0) = 0x2B013 := by decide +kernel

/-! ### Witnesses of the statements -/

/-- States and operands that meet the hypotheses of `Obligations.EventsVectorsAndLog`, clause by clause. -/
theorem meets_EventsVectorsAndLog :
    (∃ (s : State) (req : Requester) (page : Nat), headerOpen s req (Reg.PAGE_EVT_STATUS (pageOf page))) ∧
    (∃ (s : State) (req : Requester) (page : Nat), headerOpen s req (Reg.PAGE_EVT_STATUS (pageOf page))) ∧
    (∃ (s : State) (req : Requester) (page : Nat), headerOpen s req (Reg.PAGE_EVT_FORCE (pageOf page))) ∧
    (∃ (s : State) (v : Fin 64), s.on = true ∧ tabGet (fun _ => 0) s.router.vecUntil v.val ≠ 0 ∧
      tabGet (fun _ => 0) s.router.vecUntil v.val ≤ s.now) ∧
    (∃ (s : State) (v : Fin 64), reaches s .host = true ∧ tabGet (fun _ => 0) s.router.vecUntil v.val ≤ s.now) ∧
    (∃ (s : State) (req : Requester) (r : Fin 8192), cfgGate s req Reg.EVT0_LOG_RING none = .go ∧ logOn s = false ∧ ringType s r = 7 ∧
      s.f (Reg.RING_CFG r) 5 2 = 0 ∧ ringQuiet s r = true ∧ ringCheck s r true = none) ∧
    (∃ (s : State) (req : Requester), cfgGate s req Reg.EVT0_LOG_RING none = .go ∧ logOn s = true) ∧
    (∃ (s : State) (r : LogRec) (rest : List LogRec), s.on = true ∧ logOn s = true ∧ ringEnabled s (logRing s) = true ∧
      ringFull s (logRing s) = false ∧ s.router.lantern = r :: rest ∧ (r.kind = 1 ∨ markNeeded s r.time = false)) ∧
    (∃ (s : State) (m : Nat), s.on = true ∧ logOn s = true ∧ ringEnabled s (logRing s) = true ∧ ringFull s (logRing s) = false ∧
      s.router.lantern = [] ∧ m = s.now / 2 ^ 29 * 2 ^ 29 ∧ s.now - m < 5 ∧ s.router.lastMark ≠ some m) :=
  ⟨⟨on, .host, 0x1000, by unfold headerOpen; decide +kernel⟩,
    ⟨st [(0x1014, 3)], .host, 0x1000, by unfold headerOpen; decide +kernel⟩,
    ⟨on, .mgmt, 0x1000, by unfold headerOpen; decide +kernel⟩,
    ⟨{ on with router := { on.router with vecUntil := [(3, 4000000000)], vecHeld := [3] } }, 3, by decide +kernel⟩,
    ⟨st [(Reg.MSIX_TABLE 5 3, 1), (Reg.MSIX_PBA 0, 0x20)], 5, by decide +kernel⟩,
    ⟨logSt 0 3 1 0, .host, 7, by decide +kernel⟩,
    ⟨logSt 1 3 1 0x80000007, .host, by decide +kernel⟩,
    ⟨{ logSt 1 3 1 0x80000007 with router := { on.router with lantern := [rec0], lastMark := some 4831838208 } }, rec0, [], by decide +kernel⟩,
    ⟨{ logSt 1 3 1 0x80000007 with time := { on.time with ns := 5368709121 } }, 5368709120, by decide +kernel⟩⟩

/-- States and operands that meet the hypotheses of `Obligations.FeatureNegotiation`, clause by clause. -/
theorem meets_FeatureNegotiation :
    (∃ (s : State) (req : Requester) (v : Word), cfgGate s req Reg.FEAT_FEATURE_ACCEPT none = .go ∧ featPending s = false ∧ 4 ≤ s.stage ∧
      bit v 0 = true) ∧
    (∃ (s : State), s.on = true ∧ featPending s = true ∧ featureFail s = none) ∧
    (∃ (s : State) (r b : Nat), s.on = true ∧ featPending s = true ∧ featureFail s = some (r, b)) :=
  ⟨⟨on, .host, 1, by decide +kernel⟩,
    ⟨st [(Reg.FEAT_DRV_FEATURES 0, 1), (Reg.FEAT_FEAT_STATUS, 3)], by decide +kernel⟩,
    ⟨st [(Reg.FEAT_DRV_FEATURES 0, 0x80000001), (Reg.FEAT_FEAT_STATUS, 3)], 3, 31, by decide +kernel⟩⟩

/-- States and operands that meet the hypotheses of `Obligations.PcieFunctionAndBar4`, clause by clause. -/
theorem meets_PcieFunctionAndBar4 :
    (∃ (s : State), reaches s .host = true) ∧
    (∃ (s : State), s.on = true ∧ s.power.perstLow = true) ∧
    (∃ (s : State), s.on = true ∧ s.power.pcieUp = true) ∧
    (∃ (s : State), s.on = true ∧ 1 ≤ s.stage ∧ s.power.perstLow = false) ∧
    (∃ (s : State) (o n : Nat) (l : List Byte), reaches s .host = true ∧ 0 < n ∧ o + n ≤ 2 ^ 28 ∧ l.length = n ∧
      bar4Base s + o + n ≤ usableTop s) ∧
    (∃ (s : State) (o n : Nat), reaches s .host = true ∧ 0 < n ∧ o + n ≤ 2 ^ 28 ∧ bar4Base s + o + n ≤ usableTop s) ∧
    (∃ (s : State) (o n : Nat), reaches s .host = true ∧ 0 < n ∧ o + n ≤ 2 ^ 28 ∧ usableTop s < bar4Base s + o + n) ∧
    (∃ (s : State) (req : Requester), cfgGate s req Reg.SYS_BAR4_BASE_LO none = .go) :=
  ⟨⟨on, by decide +kernel⟩,
    ⟨{ on with power := { on.power with pcieUp := false, perstLow := true } }, by decide +kernel⟩,
    ⟨on, by decide +kernel⟩,
    ⟨{ on with power := { on.power with pcieUp := false } }, by decide +kernel⟩,
    ⟨on, 0x1000, 3, [1, 2, 3], by decide +kernel⟩,
    ⟨hbmPut on 0x1000 [1, 2, 3], 0x1000, 4, by decide +kernel⟩,
    ⟨st [(Reg.SYS_BAR4_BASE_HI, 0x100)], 0, 2, by decide +kernel⟩,
    ⟨on, .host, by decide +kernel⟩⟩

/-- States and operands that meet the hypotheses of `Obligations.RingsSwitchAndDoorbells`, clause by clause. -/
theorem meets_RingsSwitchAndDoorbells :
    (∃ (s : State) (req : Requester) (r : Fin 8192) (v : Word), cfgGate s req (Reg.RING_CTRL r) none = .go ∧ bit v 0 = true ∧
      ringEnabled s r = false ∧ ringQuiet s r = true ∧ ringCheck s r false = none) ∧
    (∃ (s : State) (req : Requester) (r : Fin 8192) (v : Word) (c : Nat), cfgGate s req (Reg.RING_CTRL r) none = .go ∧ bit v 0 = true ∧
      ringEnabled s r = false ∧ ringQuiet s r = true ∧ ringCheck s r false = some c) ∧
    (∃ (s : State) (req : Requester) (r : Fin 8192) (v : Word), cfgGate s req (Reg.RING_CTRL r) none = .go ∧ bit v 0 = false ∧
      bit v 1 = false ∧ ringEnabled s r = true ∧ compHeld s r = false) ∧
    (∃ (s : State) (req : Requester) (r : Fin 8192) (v : Word), cfgGate s req (Reg.RING_CTRL r) none = .go ∧ bit v 0 = false ∧
      bit v 1 = true ∧ ringEnabled s r = true ∧ compHeld s r = false ∧ jobsOf s r = [] ∧ ringConsumed s r = true) ∧
    (∃ (s : State) (req : Requester) (r : Fin 8192) (v : Word), cfgGate s req (Reg.RING_CTRL r) none = .go ∧ bit v 0 = false ∧
      bit v 1 = true ∧ ringEnabled s r = true ∧ compHeld s r = false ∧ jobsOf s r = [] ∧ ringConsumed s r = true) ∧
    (∃ (s : State) (r : Fin 8192) (i : Word) (epoch : BitVec 16) (n : Nat), reaches s .host = true ∧ s.powerState ≠ 2 ∧
      doorbellCheck s r i epoch n = 0) ∧
    (∃ (s : State) (r : Fin 8192) (i : Word) (epoch : BitVec 16) (n : Nat), reaches s .host = true ∧ s.powerState ≠ 2 ∧
      doorbellCheck s r i epoch n = 0) ∧
    (∃ (s : State) (r : Fin 8192) (i : Word) (epoch : BitVec 16) (n : Nat), reaches s .host = true ∧ s.powerState ≠ 2 ∧
      doorbellCheck s r i epoch n ≠ 0) ∧
    (∃ (s : State) (r : Fin 8192) (i : Word) (epoch : BitVec 16) (n : Nat), reaches s .host = true ∧ s.powerState ≠ 2 ∧
      doorbellCheck s r i epoch n ≠ 0) :=
  ⟨⟨jobRings 0 0 0, .host, 40, 1, by decide +kernel⟩,
    ⟨jobRings 0 0 0, .host, 42, 1, 1, by decide +kernel⟩,
    ⟨jobRings 1 3 1, .host, 40, 0, by decide +kernel⟩,
    ⟨jobRings 1 3 1, .host, 40, 2, by decide +kernel⟩,
    ⟨jobRings 1 3 1, .mgmt, 40, 2, by decide +kernel⟩,
    ⟨jobRings 1 3 1, 40, 17, 0, 8, by decide +kernel⟩,
    ⟨jobRings 1 3 1, 41, 0, 0, 8, by decide +kernel⟩,
    ⟨jobRings 1 3 1, 40, 18, 0, 8, by decide +kernel⟩,
    ⟨jobRings 1 3 1, 40, 17, 0, 4, by decide +kernel⟩⟩

/-- States and operands that meet the hypotheses of `Obligations.EntriesAndCompletions`, clause by clause. -/
theorem meets_EntriesAndCompletions :
    (∃ (s : State) (r : Fin 8192), s.on = true ∧ ringEnabled s r = true ∧ ringHost s r = true ∧ ringConsumed s r = true ∧
      ringFill s r ≠ 0 ∧ (enabled s (ownerBase (ringOwner s r)) || ownerGone s r) = true ∧ jobsOf s r = []) ∧
    (∃ (s : State) (r : Fin 8192) (since : Nat), s.on = true ∧ tabGet (fun _ => none) s.ring.stallAt r.val = some since ∧
      since + 10000000 ≤ s.now) ∧
    (∃ (s : State) (r : Fin 8192), s.on = true ∧ takes s r = true ∧ canAccept s r = true ∧
      (ringHost s r = true ∨ rangeBad s (entryAddr s r (s.rd (Reg.RING_CONS r))) (ringEsize s r) = false) ∧
      s.ring.marks.contains (r.val, s.rd (Reg.RING_CONS r)) = true) ∧
    (∃ (s : State) (r : Fin 8192), s.on = true ∧ takes s r = true ∧ canAccept s r = true ∧
      (ringHost s r = true ∨ rangeBad s (entryAddr s r (s.rd (Reg.RING_CONS r))) (ringEsize s r) = false) ∧
      s.ring.marks.contains (r.val, s.rd (Reg.RING_CONS r)) = false ∧ ringType s r ≠ 0x0C ∧ ownerGone s r = false ∧
      entryEpoch (headEntry s r) ≠ roleEpoch s (roleBase (ringOwner s r))) ∧
    (∃ (s : State) (r : Fin 8192), s.on = true ∧ takes s r = true ∧ canAccept s r = true ∧
      (ringHost s r = true ∨ rangeBad s (entryAddr s r (s.rd (Reg.RING_CONS r))) (ringEsize s r) = false) ∧
      s.ring.marks.contains (r.val, s.rd (Reg.RING_CONS r)) = false ∧ ownerGone s r = true) ∧
    (∃ (s : State) (r : Fin 8192) (j : Job), accepts s r j ∧ headAborts s r = true ∧ (ringOwner s r).1 ≠ 0x31 ∧
      ringOwner s (abortTarget (headEntry s r)).1 = ringOwner s r ∧ ringConsumed s (abortTarget (headEntry s r)).1 = true ∧
      (abortTarget (headEntry s r)).1 ≠ r.val ∧
      ((abortTarget (headEntry s r)).2 - s.rd (Reg.RING_CONS (abortTarget (headEntry s r)).1)).toNat < ringCount s (abortTarget (headEntry s r)).1) ∧
    (∃ (s : State) (r : Fin 8192) (c : Comp) (w : Word) (ws : List Word), s.on = true ∧ compOn s r = true ∧ ringFull s r = false ∧
      s.ring.ready.find? (fun x => decide (x.compRing = r.val)) = some c ∧ c.words = w :: ws) :=
  ⟨⟨cje (entry 128 1 0 9 []), 40, by decide +kernel⟩,
    ⟨{ on with ring := { on.ring with stallAt := [(40, some 4900000000)] } }, 40, 4900000000, by decide +kernel⟩,
    ⟨{ cje (entry 128 1 0 9 []) with ring := { on.ring with marks := [(40, 1)] } }, 40, by decide +kernel⟩,
    ⟨cje (entry 128 1 5 9 []), 40, by decide +kernel⟩,
    ⟨(cje (entry 128 1 0 9 [])).wr (Reg.FEAT_ACTIVE_FEATURES 0) 1, 40, by decide +kernel⟩,
    ⟨codec abortEntry (ringBy 42 0x2C4 0x30 0x40000 0 0 1), 40, job abortEntry, by unfold accepts; decide +kernel⟩,
    ⟨{ jobRings 1 1 1 with ring := { on.ring with ready := [⟨41, some 40, 1, [1, 2, 3]⟩] } }, 41, ⟨41, some 40, 1, [1, 2, 3]⟩, 1, [2, 3], by decide +kernel⟩⟩

/-- States and operands that meet the hypotheses of `Obligations.JobEngines`, clause by clause. -/
theorem meets_JobEngines :
    (∃ (s : State) (e : Fin 8) (r : Fin 8192) (j : Job), headIs s r 0x02 0x31 1 = true ∧ (ringOwner s r).2 = e.val ∧ accepts s r j ∧
      jobRefusal (accepted s r) e j.entry = none) ∧
    (∃ (s : State) (e : Fin 8) (r : Fin 8192) (j : Job), headIs s r 0x02 0x31 3 = true ∧ (ringOwner s r).2 = e.val ∧ accepts s r j ∧
      jobRefusal (accepted s r) e j.entry = none) ∧
    (∃ (s : State) (e : Fin 8) (r : Fin 8192) (j : Job), headIs s r 0x02 0x31 2 = true ∧ (ringOwner s r).2 = e.val ∧ accepts s r j ∧
      jobRefusal (accepted s r) e j.entry = none) ∧
    (∃ (s : State) (e : Fin 8) (r : JobRun), (engOf s e).run = some r) ∧
    (∃ (s : State) (e : Fin 8) (r : JobRun), s.on = true ∧ (engOf s e).run = some r ∧
      r.job.at_ + s.rdN (Reg.CJE_JOB_TIMEOUT e) * 1000000 ≤ s.now) :=
  ⟨⟨cje (entry 128 1 0 9 []), 0, 40, job (entry 128 1 0 9 []), by unfold accepts; decide +kernel⟩,
    ⟨cje (entry 128 3 0 9 []), 0, 40, job (entry 128 3 0 9 []), by unfold accepts; decide +kernel⟩,
    ⟨cje compressEntry, 0, 40, job compressEntry, by unfold accepts; decide +kernel⟩,
    ⟨busyCje, 0, run0, by decide +kernel⟩,
    ⟨{ busyCje with time := { on.time with ns := 100000000000 } }, 0, run0, by decide +kernel⟩⟩

/-- States and operands that meet the hypotheses of `Obligations.ReportsAndConsumers`, clause by clause. -/
theorem meets_ReportsAndConsumers :
    (∃ (s : State) (r : Fin 8192) (j : Job), headIs s r 0x02 0x30 0x10 = true ∧ accepts s r j ∧ roleCode (accepted s r) 0x30000 ≠ 0 ∧
      (j.entry.drop 64).any (· ≠ 0) = false ∧ storeKind (accepted s r) (reportTarget j.entry).1 ≠ 0) ∧
    (∃ (s : State) (r : Fin 8192) (i : Word) (j : Job), s.ring.jobs.find? (fun x => decide (x.ring = r.val ∧ x.index = i ∧ ringOwner s x.ring = (0x30, 0))) = some j ∧
      j.at_ + s.f Reg.CODEC_REPORT_TIMEOUT 0 16 * 1000000 ≤ s.now) ∧
    (∃ (s : State) (r : Fin 8192) (j : Job), headIs s r 0x05 0xA0 1 = true ∧ accepts s r j ∧
      roleCode (accepted s r) (roleBase (ringOwner s r)) = 1 ∧ playOk j.entry = true ∧
      (let p := (ringOwner s r).2; let k := if leAt j.entry 1 1 / 2 % 2 = 1 then (portOf s p).tail else leAt j.entry 24 8; passedCount (accepted s r) p k (leAt j.entry 16 4) s.now = 0)) ∧
    (∃ (s : State) (r : Fin 8192) (j : Job), headIs s r 0x0B 0x46 1 = true ∧ accepts s r j ∧
      roleCode (accepted s r) (roleBase (ringOwner s r)) ≠ 0 ∧ sendOk (accepted s r) (ringOwner s r).2 j.entry = true) ∧
    (∃ (s : State) (r : Fin 8192) (j : Job) (u : State), headIs s r 0x0C 0x21 1 = true ∧ accepts s r j ∧
      hostScene (accepted s r) j = some u) :=
  ⟨⟨codec reportEntry [(Reg.INGEST_STORE_CFG 0, 1)], 40, job reportEntry, by unfold accepts; decide +kernel⟩,
    ⟨{ codec [] [] with time := { on.time with ns := 100000000000 }, ring := { on.ring with jobs := [job reportEntry] } }, 40, 1, job reportEntry, by decide +kernel⟩,
    ⟨held 0x5A4 0xA0 0xA0000 [(Reg.PAGE_ROLE 0xA0000, 1), (Reg.SAP_DATA_RING 0, 40)] playEntry, 40, job playEntry, by unfold accepts; decide +kernel⟩,
    ⟨held 0xBA4 0x46 0x4D000 [(Reg.PAGE_ROLE 0x40000, 1)] sendEntry, 40, job sendEntry, by unfold accepts; decide +kernel⟩,
    ⟨sceneSt, 40, job sceneEntry, ((hostScene (accepted sceneSt 40) (job sceneEntry)).getD sceneSt), by unfold accepts; decide +kernel⟩⟩

/-- States and operands that meet the hypotheses of `Obligations.PageEnableAndDisable`, clause by clause. -/
theorem meets_PageEnableAndDisable :
    (∃ (s : State) (req : Requester) (page : Nat), cfgGate s req (Reg.PAGE_CTRL (pageOf page)) none = .go ∧
      enabled s (pageOf page) = false ∧ quiesced s (pageOf page) = true ∧ pageTyp (pageOf page) ∉ [0x30, 0x40, 0x45, 0x81, 0xA0, 0xC0]) ∧
    (∃ (s : State) (req : Requester) (page : Nat), cfgGate s req (Reg.PAGE_CTRL (pageOf page)) none = .go ∧
      enabled s (pageOf page) = false ∧
      ((quiesced s (pageOf page) = false ∧ pageTyp (pageOf page) ∉ [0x40, 0x81, 0xA0, 0xC0]) ∨ (pageTyp (pageOf page) = 0xC0 ∧ enabled s 0xC0000 = false ∧ (quiesced s 0xC0000 = false ∨ (dumpMode s ≠ 0 ∧ perfRing s (dumpRing s) 0x08 = false))))) ∧
    (∃ (s : State) (req : Requester) (page : Nat), cfgGate s req (Reg.PAGE_CTRL (pageOf page)) none = .go ∧
      enabled s (pageOf page) = false ∧
      ((quiesced s (pageOf page) = false ∧ pageTyp (pageOf page) ∉ [0x40, 0x81, 0xA0, 0xC0]) ∨ (pageTyp (pageOf page) = 0xC0 ∧ enabled s 0xC0000 = false ∧ (quiesced s 0xC0000 = false ∨ (dumpMode s ≠ 0 ∧ perfRing s (dumpRing s) 0x08 = false))))) ∧
    (∃ (s : State) (req : Requester) (page : Nat), cfgGate s req (Reg.PAGE_CTRL (pageOf page)) none = .go ∧
      enabled s (pageOf page) = false ∧ quiesced s (pageOf page) = true ∧
      (pageTyp (pageOf page) = 0x30 ∨ pageTyp (pageOf page) = 0x45 ∨ (pageTyp (pageOf page) = 0xC0 ∧ (dumpMode s = 0 ∨ perfRing s (dumpRing s) 0x08 = true) ∧ enabled s 0xC0000 = false ∧ quiesced s 0xC0000 = true))) ∧
    (∃ (s : State) (req : Requester) (page : Nat), cfgGate s req (Reg.PAGE_CTRL (pageOf page)) none = .go ∧
      enabled s (pageOf page) = false ∧ quiesced s (pageOf page) = true ∧
      (pageTyp (pageOf page) = 0x30 ∨ pageTyp (pageOf page) = 0x45 ∨ (pageTyp (pageOf page) = 0xC0 ∧ (dumpMode s = 0 ∨ perfRing s (dumpRing s) 0x08 = true) ∧ enabled s 0xC0000 = false ∧ quiesced s 0xC0000 = true))) ∧
    (∃ (s : State) (req : Requester) (page : Nat), cfgGate s req (Reg.PAGE_CTRL (pageOf page)) none = .go ∧
      enabled s (pageOf page) = false ∧ quiesced s (pageOf page) = true ∧
      (pageTyp (pageOf page) = 0x30 ∨ pageTyp (pageOf page) = 0x45 ∨ (pageTyp (pageOf page) = 0xC0 ∧ (dumpMode s = 0 ∨ perfRing s (dumpRing s) 0x08 = true) ∧ enabled s 0xC0000 = false ∧ quiesced s 0xC0000 = true))) ∧
    (∃ (s : State) (req : Requester) (page : Nat), cfgGate s req (Reg.PAGE_CTRL (pageOf page)) none = .go ∧ enabled s (pageOf page) = true) ∧
    (∃ (s : State) (req : Requester) (page : Nat), cfgGate s req (Reg.PAGE_CTRL (pageOf page)) none = .go ∧
      enabled s (pageOf page) = true ∧ alwaysEnabled (pageTyp (pageOf page)) = false ∧
      pageTyp (pageOf page) ∉ [0x40, 0x45, 0x81, 0xA0, 0xC0]) ∧
    (∃ (s : State) (req : Requester) (page : Nat), cfgGate s req (Reg.PAGE_CTRL (pageOf page)) none = .go ∧
      enabled s (pageOf page) = true ∧ alwaysEnabled (pageTyp (pageOf page)) = false ∧ pageTyp (pageOf page) ∉ [0x40, 0x45]) ∧
    (∃ (s : State) (req : Requester) (page : Nat), cfgGate s req (Reg.PAGE_CTRL (pageOf page)) none = .go ∧
      enabled s (pageOf page) = true ∧ alwaysEnabled (pageTyp (pageOf page)) = false ∧ pageTyp (pageOf page) ∉ [0x40, 0x45]) ∧
    (∃ (s : State) (page : Nat), (enabled s (pageOf page) = false ∨ alwaysEnabled (pageTyp (pageOf page)) = true)) ∧
    (∃ (s : State) (page : Nat), (enabled s (pageOf page) = false ∨ alwaysEnabled (pageTyp (pageOf page)) = true)) ∧
    (∃ (s : State) (h : Fin 4), enabled s (zlBase h) = true) ∧
    (∃ (s : State) (h : Fin 4), enabled s (headBase h) = true) ∧
    (∃ (s : State) (req : Requester) (page : Nat), cfgGate s req (Reg.PAGE_CTRL (pageOf page)) none = .go ∧
      (enabled s (pageOf page) = true ∨ quiesced s (pageOf page) = true)) ∧
    (∃ (s : State) (req : Requester) (page : Nat), cfgGate s req (Reg.PAGE_CTRL (pageOf page)) none = .go ∧
      (enabled s (pageOf page) = true ∨ quiesced s (pageOf page) = true)) ∧
    (∃ (s : State) (req : Requester) (page : Nat), cfgGate s req (Reg.PAGE_CTRL (pageOf page)) none = .go ∧
      enabled s (pageOf page) = false ∧ quiesced s (pageOf page) = false) :=
  ⟨⟨on, .host, 0x20000, by decide +kernel⟩,
    ⟨st [(Reg.PAGE_STATUS 0x20000, 0)], .host, 0x20000, by decide +kernel⟩,
    ⟨st [(Reg.PERF0_DUMP_CFG, 1)], .host, 0xC0000, by decide +kernel⟩,
    ⟨on, .host, 0x30000, by decide +kernel⟩,
    ⟨on, .host, 0x4C000, by decide +kernel⟩,
    ⟨on, .host, 0xC0000, by decide +kernel⟩,
    ⟨on, .host, 0x1000, by decide +kernel⟩,
    ⟨st [(Reg.PAGE_CTRL 0x30000, 1), (Reg.PAGE_STATUS 0x30000, 0)], .host, 0x30000, by decide +kernel⟩,
    ⟨{ st [(Reg.PAGE_CTRL 0x30000, 1), (Reg.PAGE_STATUS 0x30000, 0)] with ring := { on.ring with jobs := [job reportEntry] } }, .mgmt, 0x30000, by decide +kernel⟩,
    ⟨st [(Reg.PAGE_CTRL 0xA3000, 1), (Reg.SAP_PORT_STATUS 3, 2)], .host, 0xA3000, by decide +kernel⟩,
    ⟨on, 0x20000, by decide +kernel⟩,
    ⟨on, 0x10000, by decide +kernel⟩,
    ⟨st [(Reg.PAGE_CTRL 0x4C000, 1)], 0, by decide +kernel⟩,
    ⟨st [(Reg.PAGE_CTRL 0x40000, 1)], 0, by decide +kernel⟩,
    ⟨on, .host, 0x20000, by decide +kernel⟩,
    ⟨st [(Reg.PAGE_CTRL 0x30000, 1), (Reg.PAGE_STATUS 0x30000, 0)], .host, 0x30000, by decide +kernel⟩,
    ⟨st [(Reg.PAGE_STATUS 0x30000, 0)], .host, 0x30000, by decide +kernel⟩⟩

/-- States and operands that meet the hypotheses of `Obligations.ResetQuiescenceAndRole`, clause by clause. -/
theorem meets_ResetQuiescenceAndRole :
    (∃ (s : State) (req : Requester) (page : Nat), cfgGate s req (Reg.PAGE_CTRL (pageOf page)) none = .go) ∧
    (∃ (s : State) (req : Requester) (page : Nat), cfgGate s req (Reg.PAGE_CTRL (pageOf page)) none = .go) ∧
    (∃ (s : State) (page : Nat), s.on = true ∧ (pageAt (pageOf page)).isSome = true ∧ s.b (Reg.PAGE_CTRL (pageOf page)) 2 = true) ∧
    (∃ (s : State) (page : Nat), s.on = true ∧ (pageAt (pageOf page)).isSome = true ∧ s.b (Reg.PAGE_CTRL (pageOf page)) 2 = true) ∧
    (∃ (s : State) (page : Nat), s.on = true ∧ (pageAt (pageOf page)).isSome = true ∧ s.b (Reg.PAGE_CTRL (pageOf page)) 2 = true) ∧
    (∃ (s : State) (page : Nat), s.on = true ∧ (pageAt (pageOf page)).isSome = true ∧ s.b (Reg.PAGE_CTRL (pageOf page)) 2 = true) ∧
    (∃ (s : State) (page : Nat), s.on = true ∧ (pageAt (pageOf page)).isSome = true ∧ s.b (Reg.PAGE_CTRL (pageOf page)) 2 = true) ∧
    (∃ (s : State) (page : Nat), s.on = true ∧ (pageAt (pageOf page)).isSome = true ∧ s.b (Reg.PAGE_CTRL (pageOf page)) 2 = true) ∧
    (∃ (s : State) (a : Nat), enabled s (pageOf a) = false ∧ quiesced s (pageOf a) = false ∧ (pageAt (pageOf a)).isSome = true ∧
      pageIdle s (pageOf a) = true) ∧
    (∃ (s : State) (r : Fin 8192), ringIsQuiet s r = true) ∧
    (∃ (s : State) (h : Fin 4) (n : Fin 13), laneState s h n = 7 ∧ s.b (Reg.ZL_LANE_STATUS h n) 9 = false ∧ prbsGens s h n = false) ∧
    (∃ (s : State) (req : Requester) (a : Nat), cfgGate s req (Reg.PAGE_ROLE (pageOf a)) none = .go) ∧
    (∃ (s : State) (req : Requester) (a : Nat), cfgGate s req (Reg.PAGE_ROLE (pageOf a)) none = .go) ∧
    (∃ (s : State) (req : Requester) (a : Nat), cfgGate s req (Reg.PAGE_ROLE (pageOf a)) none = .go) ∧
    (∃ (s : State) (req : Requester) (h : Fin 4) (n : Fin 13), cfgGate s req (Reg.ZL_LANE_ROLE h n) none = .go) ∧
    (∃ (s : State) (req : Requester) (h : Fin 4) (n : Fin 13), cfgGate s req (Reg.ZL_LANE_ROLE h n) none = .go) :=
  ⟨⟨on, .host, 0x20000, by decide +kernel⟩,
    ⟨st [(Reg.PAGE_CTRL 0x30000, 1), (Reg.PAGE_STATUS 0x30000, 0)], .host, 0x30000, by decide +kernel⟩,
    ⟨st [(Reg.PAGE_CTRL 0x20000, 4), (Reg.NET_MAX_FRAME 0, 1), (Reg.NET_LINK_STATUS 0, 0xF)], 0x20000, by decide +kernel⟩,
    ⟨st [(Reg.PAGE_CTRL 0xB0000, 4), (Reg.THERM_POWER_STATUS, 0x100)], 0xB0000, by decide +kernel⟩,
    ⟨st [(Reg.PAGE_CTRL 0x81000, 4)], 0x81000, by decide +kernel⟩,
    ⟨st [(Reg.PAGE_CTRL optBase, 4), (Reg.OPT_OPT_GEOM, 0xA00140), (Reg.OPT_OPT_CFG, 1)], optBase, by decide +kernel⟩,
    ⟨st [(Reg.PAGE_CTRL 0xB0000, 4), (Reg.THERM_SENSOR 7, 0x20000)], 0xB0000, by decide +kernel⟩,
    ⟨st [(Reg.PAGE_CTRL 0x4C000, 4), (Reg.ZL_LANE_ROLE 0 2, 3)], 0x4C000, by decide +kernel⟩,
    ⟨st [(Reg.PAGE_STATUS 0x30000, 0)], 0x30000, by decide +kernel⟩,
    ⟨jobRings 0 3 1, 40, by decide +kernel⟩,
    ⟨on, 1, 12, by decide +kernel⟩,
    ⟨on, .host, 0x31000, by decide +kernel⟩,
    ⟨on, .host, 0x31000, by decide +kernel⟩,
    ⟨on, .host, 0x20000, by decide +kernel⟩,
    ⟨on, .host, 3, 12, by decide +kernel⟩,
    ⟨on, .host, 3, 12, by decide +kernel⟩⟩

/-- States and operands that meet the hypotheses of `Obligations.RegisterWrites`, clause by clause. -/
theorem meets_RegisterWrites :
    (∃ (s : State) (req : Requester) (a : Nat) (v : Word) (p : PageId), a % 4 = 0 ∧ pageAt a = some p ∧ 0x100 ≤ a - p.base ∧
      cfgGate s req a (featureOf a) = .go ∧ actPage s req p (a - p.base) v = none ∧ closed s a = false ∧ isLowWord a = false ∧
      lowOf a = none ∧ (regInfo a).1 = .rw) ∧
    (∃ (s : State) (req : Requester) (a : Nat) (be : BitVec 4), a % 4 = 0 ∧ reaches s req = true ∧ unmappedFor req a = false ∧ be ≠ 0xF) ∧
    (∃ (req : Requester) (a : Nat), a % 4 = 0 ∧ unmappedFor req a = true) ∧
    (∃ (s : State) (req : Requester) (lo : Nat) (vlo vhi : Word), lo % 4 = 0 ∧ lowOf (lo + 4) = some lo ∧ (regInfo lo).1 = .rw ∧
      lo ≠ Reg.TIME_EPOCH_OFFSET_LO ∧ lo ≠ Reg.MEM4_SYSTEM_TOP_LO ∧ cfgGate s req lo none = .go ∧ cfgGate s req (lo + 4) none = .go ∧
      closed s lo = false ∧ closed s (lo + 4) = false ∧ valOk lo (vlo &&& (regInfo lo).2) = true ∧
      valOk (lo + 4) (vhi &&& (regInfo (lo + 4)).2) = true) ∧
    (∃ (s : State) (req : Requester) (h : Fin 4), cfgGate s req (Reg.RGU_MAP_SEL h) none = .go) ∧
    (∃ (s : State) (req : Requester) (h : Fin 4), cfgGate s req (Reg.RGU_MAP_SEL h) none = .go) :=
  ⟨⟨on, .host, Reg.MEM3_SCRUB_PERIOD, 48, ⟨0x93000, 0x90, 3⟩, by decide +kernel⟩,
    ⟨on, .host, Reg.MEM3_SCRUB_PERIOD, 3, by decide +kernel⟩,
    ⟨.host, 0x5000, by decide +kernel⟩,
    ⟨on, .host, Reg.OPT_REQ_BASE_LO, 0x1000, 1, by decide +kernel⟩,
    ⟨on, .host, 0, by decide +kernel⟩,
    ⟨on, .mgmt, 3, by decide +kernel⟩⟩

/-- States and operands that meet the hypotheses of `Obligations.ReadsAnswer`, clause by clause. -/
theorem meets_ReadsAnswer :
    (∃ (s : State) (req : Requester) (a : Nat), a % 4 = 0 ∧ reaches s req = true ∧ unmappedFor req a = false ∧
      (4 ≤ a → readLow (a - 4) = false) ∧ measured s a = false) ∧
    (∃ (s : State) (req : Requester) (a : Nat), a % 4 = 0 ∧ reaches s req = true ∧ unmappedFor req a = false ∧
      (4 ≤ a → readLow (a - 4) = false) ∧ measured s a = false) ∧
    (∃ (s : State) (req : Requester) (a : Nat), a % 4 = 0 ∧ reaches s req = true ∧ unmappedFor req a = true) ∧
    (∃ (a : Nat), a < 2 ^ 24) ∧
    (∃ (a : Nat), a < 2 ^ 24) ∧
    (∃ (a : Nat), a < 2 ^ 24) ∧
    (∃ (a : Nat), a < 2 ^ 24) :=
  ⟨⟨on, .host, Reg.MEM3_SCRUB_PERIOD, by decide +kernel⟩,
    ⟨on, .mgmt, Reg.OPT_REQ_BASE_LO, by decide +kernel⟩,
    ⟨on, .host, 0x5000, by decide +kernel⟩,
    ⟨0xC2FFC, by decide +kernel⟩,
    ⟨0xC3000, by decide +kernel⟩,
    ⟨0x4DFFC, by decide +kernel⟩,
    ⟨0xFFFFFC, by decide +kernel⟩⟩

/-- States and operands that meet the hypotheses of `Obligations.TransactionStaging`, clause by clause. -/
theorem meets_TransactionStaging :
    (∃ (s : State) (req : Requester), cfgGate s req Reg.TXN_TXN_CMD none = .go ∧ anyPending s = false) ∧
    (∃ (s : State) (req : Requester), cfgGate s req Reg.TXN_TXN_CMD none = .go ∧ anyPending s = false) ∧
    (∃ (s : State) (req : Requester) (i : Fin 4), cfgGate s req (Reg.TXN_STAGE_DATA i) none = .go ∧ txnState s i = 1 ∧
      txnOwner s i = reqNum req ∧ txnPending s i = false) ∧
    (∃ (s : State) (req : Requester) (i : Fin 4), cfgGate s req (Reg.TXN_STAGE_DATA i) none = .go ∧ txnState s i = 1 ∧
      txnOwner s i = reqNum req ∧ txnPending s i = false) ∧
    (∃ (s : State) (req : Requester) (v : Word), cfgGate s req Reg.TXN_TXN_CMD none = .go ∧ anyPending s = false ∧
      txnState s (fld v 4 2) = 1 ∧ txnOwner s (fld v 4 2) = reqNum req) :=
  ⟨⟨on, .host, by decide +kernel⟩,
    ⟨{ on with txn := on.txn }.wrAll ((List.range 4).map fun i => (Reg.TXN_TXN_STATE i, 1)), .mgmt, by decide +kernel⟩,
    ⟨st [(Reg.TXN_TXN_STATE 0, 1), (Reg.TXN_STAGE_ADDR 0, 0x80100)], .host, 0, by decide +kernel⟩,
    ⟨st [(Reg.TXN_TXN_STATE 3, 1), (Reg.TXN_STAGE_ADDR 3, 0x80000)], .host, 3, by decide +kernel⟩,
    ⟨st [(Reg.TXN_TXN_STATE 1, 1)], .host, 0x12, by decide +kernel⟩⟩

/-- States and operands that meet the hypotheses of `Obligations.TransactionOutcomes`, clause by clause. -/
theorem meets_TransactionOutcomes :
    (∃ (s : State) (i : Fin 4) (e a : Nat), txnPending s i = true ∧ (txnOf s i).err = some (e, a) ∧ s.on = true) ∧
    (∃ (s : State) (i : Fin 4), txnPending s i = true ∧ (txnOf s i).err = none ∧
      lowest (((txnOf s i).staged.map (·.1)).filter (txnOf s i).foreign.contains) = none ∧ applyCheck s (txnOf s i) = none ∧
      badCommit s (armedWrites s i) (txnOf s i).staged = none ∧ (txnOf s i).staged.isEmpty = false ∧ (txnOf s i).apply = 1 ∧
      (affected (txnOf s i).staged).any (headOn s) = true) ∧
    (∃ (s : State) (i : Fin 4), s.on = true ∧ txnPending s i = true ∧ (txnOf s i).err = none ∧
      lowest (((txnOf s i).staged.map (·.1)).filter (txnOf s i).foreign.contains) = none ∧ applyCheck s (txnOf s i) = none ∧
      badCommit s (armedWrites s i) (txnOf s i).staged = none ∧ (txnOf s i).staged.isEmpty = false ∧ (txnOf s i).apply = 0 ∧
      (affected (txnOf s i).staged).any (headOn s) = false ∧ (txnOf s i).late = false ∧ ((txnOf s i).staged.map (·.1)).Pairwise (· < ·) ∧
      (∀ p ∈ (txnOf s i).staged, isRwt p.1 = true)) ∧
    (∃ (s : State) (req : Requester) (i : Fin 4), cfgGate s req Reg.TXN_TXN_CMD none = .go ∧ anyPending s = false ∧ txnState s i ≠ 0 ∧
      txnOwner s i = reqNum req ∧ (txnState s i = 2 → (txnOf s i).begun = false ∧ (txnOf s i).apply ≠ 2)) ∧
    (∃ (s : State) (req : Requester) (i : Fin 4), cfgGate s req Reg.TXN_TXN_CMD none = .go ∧ anyPending s = false ∧ txnState s i ≠ 0 ∧
      txnOwner s i = reqNum req ∧ (txnState s i = 2 → (txnOf s i).begun = false ∧ (txnOf s i).apply ≠ 2)) ∧
    (∃ (s : State) (req : Requester) (i : Fin 4), cfgGate s req Reg.TXN_TXN_CMD none = .go ∧ anyPending s = false ∧ txnState s i = 2 ∧
      txnOwner s i = reqNum req ∧ (txnOf s i).begun = true) ∧
    (∃ (s : State) (req : Requester) (i : Fin 4) (v : Word) (c : Instr), ((c = .beginTxn req ∧ cfgGate s req Reg.TXN_TXN_CMD none = .go ∧ anyPending s = false) ∨ (c = .stageDataWrite req i v ∧ cfgGate s req (Reg.TXN_STAGE_DATA i) none = .go ∧ txnState s i = 1 ∧ txnOwner s i = reqNum req ∧ txnPending s i = false) ∨ (c = .commitTxn req v ∧ cfgGate s req Reg.TXN_TXN_CMD none = .go ∧ anyPending s = false ∧ txnState s (fld v 4 2) = 1 ∧ txnOwner s (fld v 4 2) = reqNum req))) ∧
    (∃ (s : State) (req : Requester) (i : Fin 4) (v : Word) (c : Instr), ((c = .beginTxn req ∧ cfgGate s req Reg.TXN_TXN_CMD none = .go ∧ anyPending s = false) ∨ (c = .stageDataWrite req i v ∧ cfgGate s req (Reg.TXN_STAGE_DATA i) none = .go ∧ txnState s i = 1 ∧ txnOwner s i = reqNum req ∧ txnPending s i = false) ∨ (c = .commitTxn req v ∧ cfgGate s req Reg.TXN_TXN_CMD none = .go ∧ anyPending s = false ∧ txnState s (fld v 4 2) = 1 ∧ txnOwner s (fld v 4 2) = reqNum req))) ∧
    (∃ (s : State) (req : Requester) (i : Fin 4) (v : Word) (c : Instr), ((c = .beginTxn req ∧ cfgGate s req Reg.TXN_TXN_CMD none = .go ∧ anyPending s = false) ∨ (c = .stageDataWrite req i v ∧ cfgGate s req (Reg.TXN_STAGE_DATA i) none = .go ∧ txnState s i = 1 ∧ txnOwner s i = reqNum req ∧ txnPending s i = false) ∨ (c = .commitTxn req v ∧ cfgGate s req Reg.TXN_TXN_CMD none = .go ∧ anyPending s = false ∧ txnState s (fld v 4 2) = 1 ∧ txnOwner s (fld v 4 2) = reqNum req))) :=
  ⟨⟨txn0 1 0x100 { Txn.free with err := some (0x0C, 0x80000) } [], 0, 0x0C, 0x80000, by decide +kernel⟩,
    ⟨txn0 1 0x100 (polTxn 0x100) [(Reg.PAGE_CTRL 0x40000, 1)], 0, by decide +kernel⟩,
    ⟨txn0 1 0x100 (polTxn 0) [], 0, by decide +kernel⟩,
    ⟨txn0 1 0 (polTxn 0) [], .host, 0, by decide +kernel⟩,
    ⟨txn0 2 0 (polTxn 0x100) [], .host, 0, by decide +kernel⟩,
    ⟨txn0 2 0 { polTxn 0x100 with begun := true } [], .host, 0, by decide +kernel⟩,
    ⟨on, .host, 0, 0, .beginTxn .host, by decide +kernel⟩,
    ⟨st [(Reg.TXN_TXN_STATE 0, 1), (Reg.TXN_STAGE_ADDR 0, 0x80100)], .host, 0, 5, .stageDataWrite .host 0 5, by decide +kernel⟩,
    ⟨st [(Reg.TXN_TXN_STATE 1, 1)], .host, 0, 0x12, .commitTxn .host 0x12, by decide +kernel⟩⟩

/-- States and operands that meet the hypotheses of `Obligations.TimeWritesAndSwitches`, clause by clause. -/
theorem meets_TimeWritesAndSwitches :
    (∃ (s : State) (req : Requester) (v : Word) (c : Instr), (c = .refSelWrite req v ∨ c = .autoSwitchWrite req v) ∧
      cfgGate s req Reg.TIME_TIME_CTRL none = .go) ∧
    (∃ (s : State) (req : Requester) (v : Word) (c : Instr), (c = .refSelWrite req v ∨ c = .autoSwitchWrite req v) ∧
      cfgGate s req Reg.TIME_TIME_CTRL none = .go) ∧
    (∃ (s : State) (req : Requester), cfgGate s req Reg.TIME_EPOCH_OFFSET_LO none = .go) ∧
    (∃ (s : State) (req : Requester), cfgGate s req Reg.TIME_EPOCH_OFFSET_LO none = .go) ∧
    (∃ (s : State) (req : Requester), cfgGate s req Reg.TIME_EPOCH_OFFSET_LO none = .go) ∧
    (∃ (s : State) (req : Requester) (d : Fin 2), cfgGate s req (Reg.TIME_DOM_CTRL d) (if d = 1 then some 6 else none) = .go) ∧
    (∃ (s : State) (req : Requester) (d : Fin 2), cfgGate s req (Reg.TIME_DOM_CTRL d) (if d = 1 then some 6 else none) = .go) ∧
    (∃ (s : State) (req : Requester) (d : Fin 2), cfgGate s req (Reg.TIME_DOM_CTRL d) (if d = 1 then some 6 else none) = .go) ∧
    (∃ (s : State) (req : Requester) (d : Fin 2), cfgGate s req (Reg.TIME_DOM_CTRL d) (if d = 1 then some 6 else none) = .go) ∧
    (∃ (s : State) (req : Requester) (v : Word), cfgGate s req Reg.TIME_DOMAIN_SWITCH none = .go ∧ bit v 31 = true) ∧
    (∃ (s : State) (req : Requester) (v : Word), cfgGate s req Reg.TIME_DOMAIN_SWITCH none = .go ∧ bit v 31 = true) ∧
    (∃ (s : State), s.on = true ∧ s.b Reg.TIME_TIME_CTRL 1 = true ∧ canSwitch s (1 - serving s) = true ∧
      (domOf s (1 - serving s)).barred = false ∧ (∃ away, (domOf s (serving s)).awaySince = some away ∧ away + 2000000000 ≤ s.now)) ∧
    (∃ (s : State) (req : Requester) (v : Word), cfgGate s req Reg.TIME_ACCEPT_JUMP none = .go ∧ bit v 31 = true ∧ serving s = fld v 0 1 ∧
      domState s (fld v 0 1) = 5) ∧
    (∃ (s : State) (req : Requester) (v : Word), cfgGate s req Reg.TIME_ACCEPT_JUMP none = .go ∧ bit v 31 = true ∧ serving s = fld v 0 1 ∧
      domState s (fld v 0 1) = 5) ∧
    (∃ (s : State) (req : Requester) (v : Word), cfgGate s req Reg.TIME_ACCEPT_JUMP none = .go ∧ bit v 31 = true ∧ serving s = fld v 0 1 ∧
      domState s (fld v 0 1) = 5) :=
  ⟨⟨on, .host, 1, .refSelWrite .host 1, by decide +kernel⟩,
    ⟨{ on with time := { on.time with refGood := true } }, .mgmt, 3, .autoSwitchWrite .mgmt 3, by decide +kernel⟩,
    ⟨on, .host, by decide +kernel⟩,
    ⟨st (dom 0 3 3), .host, by decide +kernel⟩,
    ⟨st (dom 0 1 3), .host, by decide +kernel⟩,
    ⟨on, .host, 0, by decide +kernel⟩,
    ⟨st (dom 1 1 3), .host, 1, by decide +kernel⟩,
    ⟨st (dom 1 1 3), .host, 1, by decide +kernel⟩,
    ⟨on, .host, 1, by decide +kernel⟩,
    ⟨st (dom 1 1 3 ++ [(Reg.TIME_OFFSET_LO 1, 100)]), .host, 0x80000001, by decide +kernel⟩,
    ⟨on, .host, 0x80000001, by decide +kernel⟩,
    ⟨{ st (dom 1 1 3 ++ [(Reg.TIME_TIME_CTRL, 2)]) with time := { on.time with domA := { DomSt.reset with awaySince := some 1000000000 } } }, by decide +kernel, by decide +kernel, by decide +kernel, by decide +kernel, 1000000000, by decide +kernel, by decide +kernel⟩,
    ⟨st (dom 0 1 5 ++ [(Reg.TIME_PROPOSED_LO 0, 100)]), .host, 0x80000000, by decide +kernel⟩,
    ⟨st (dom 0 1 5 ++ [(Reg.TIME_PROPOSED_LO 0, 0xFFFFFF9C), (Reg.TIME_PROPOSED_HI 0, 0xFFFFFFFF)]), .host, 0x80000000, by decide +kernel⟩,
    ⟨(slot 3 5 0).wrAll (dom 0 1 5 ++ [(Reg.TIME_PROPOSED_LO 0, 0xFFFFFF9C), (Reg.TIME_PROPOSED_HI 0, 0xFFFFFFFF)]), .host, 0x80000000, by decide +kernel⟩⟩

/-- States and operands that meet the hypotheses of `Obligations.ReferencesAndSlews`, clause by clause. -/
theorem meets_ReferencesAndSlews :
    (∃ (s : State), s.on = true) ∧
    (∃ (s : State), s.on = true) ∧
    (∃ (s : State), s.on = true ∧ domMode s 0 = 3 ∧ domState s 0 = 3 ∧ s.time.epochSet = true) ∧
    (∃ (s : State), s.on = true ∧ domMode s 0 = 3 ∧ domState s 0 = 3 ∧ s.time.epochSet = true) ∧
    (∃ (s : State), s.on = true ∧ domMode s 0 = 3 ∧ s.b Reg.TIME_TIME_STATUS 5 = true) ∧
    (∃ (s : State), s.on = true ∧ slewing s.time = true ∧ s.time.slewRem.natAbs < s.time.slewStep.natAbs) :=
  ⟨⟨{ st [(Reg.TIME_TIME_CTRL, 1)] with time := { on.time with refMoved := true } }, by decide +kernel⟩,
    ⟨{ on with time := { on.time with refExt := true, refGood := true } }, by decide +kernel⟩,
    ⟨pps0, by decide +kernel⟩,
    ⟨{ pps0 with time := { pps0.time with ns := 5400000000 } }, by decide +kernel⟩,
    ⟨pps0, by decide +kernel⟩,
    ⟨{ on with time := { on.time with slewRem := 50, slewStep := 100 } }, by decide +kernel⟩⟩

/-- States and operands that meet the hypotheses of `Obligations.PtpDomains`, clause by clause. -/
theorem meets_PtpDomains :
    (∃ (s : State) (d : Fin 2) (gm : BitVec 64), slaveOn s d = true ∧ domState s d = 3 ∧ (domOf s d).hasGm = true ∧
      s.rd64 (Reg.TIME_GM_ID_LO d) (Reg.TIME_GM_ID_HI d) = gm.toNat ∧ s.time.epochSet = true) ∧
    (∃ (s : State) (d : Fin 2) (gm : BitVec 64), slaveOn s d = true ∧ domState s d = 3 ∧ (domOf s d).hasGm = true ∧
      s.rd64 (Reg.TIME_GM_ID_LO d) (Reg.TIME_GM_ID_HI d) = gm.toNat ∧ s.time.epochSet = true) ∧
    (∃ (s : State) (d : Fin 2) (gm : BitVec 64), slaveOn s d = true ∧
      (((domOf s d).hasGm = false ∧ domState s d = 1) ∨ ((domOf s d).hasGm = true ∧ s.rd64 (Reg.TIME_GM_ID_LO d) (Reg.TIME_GM_ID_HI d) ≠ gm.toNat))) ∧
    (∃ (s : State) (d : Fin 2) (gm : BitVec 64), slaveOn s d = true ∧
      (((domOf s d).hasGm = false ∧ domState s d = 1) ∨ ((domOf s d).hasGm = true ∧ s.rd64 (Reg.TIME_GM_ID_LO d) (Reg.TIME_GM_ID_HI d) ≠ gm.toNat))) ∧
    (∃ (s : State) (d : Fin 2), slaveOn s d = true ∧ 2 ≤ domState s d) ∧
    (∃ (s : State) (d : Fin 2), s.on = true ∧ domState s d = 3) ∧
    (∃ (s : State) (d : Fin 2) (m : PtpMsg), s.on = true ∧ domPortUp s d = true ∧
      (if m = .delayReq then domMode s d = 1 ∧ 2 ≤ domState s d else m ≠ .delayResp ∧ domState s d = 6)) ∧
    (∃ (s : State) (d : Fin 2) (m : PtpMsg), s.on = true ∧ domPortUp s d = true ∧
      (if m = .delayReq then domMode s d = 1 ∧ 2 ≤ domState s d else m ≠ .delayResp ∧ domState s d = 6)) ∧
    (∃ (s : State) (d : Fin 2), s.on = true ∧ domState s d = 6 ∧ domPortUp s d = true) :=
  ⟨⟨slave0, 0, 7, by decide +kernel⟩,
    ⟨slave0, 0, 7, by decide +kernel⟩,
    ⟨st (dom 1 1 1), 1, 9, by decide +kernel⟩,
    ⟨slave0, 0, 9, by decide +kernel⟩,
    ⟨st (dom 0 1 2), 0, by decide +kernel⟩,
    ⟨st (dom 1 1 3), 1, by decide +kernel⟩,
    ⟨st (dom 0 1 2 ++ [(Reg.NET_LINK_STATUS 0, 1)]), 0, .delayReq, by decide +kernel⟩,
    ⟨st (dom 1 2 6 ++ [(Reg.NET_LINK_STATUS 0, 1)]), 1, .sync, by decide +kernel⟩,
    ⟨st (dom 0 2 6 ++ [(Reg.NET_LINK_STATUS 0, 1)]), 0, by decide +kernel⟩⟩

/-- States and operands that meet the hypotheses of `Obligations.SlotCommandsAndLog`, clause by clause. -/
theorem meets_SlotCommandsAndLog :
    (∃ (s : State) (req : Requester) (i : Fin 256), cfgGate s req Reg.SCHED_SLOT_CMD none = .go ∧ slotState s i = 0) ∧
    (∃ (s : State) (req : Requester) (i : Fin 256), cfgGate s req Reg.SCHED_SLOT_CMD none = .go ∧ slotState s i = 0) ∧
    (∃ (s : State) (req : Requester) (i : Fin 256), cfgGate s req Reg.SCHED_SLOT_CMD none = .go ∧ slotState s i = 0) ∧
    (∃ (s : State) (req : Requester), cfgGate s req Reg.SCHED_SLOT_CMD none = .go) ∧
    (∃ (s : State) (req : Requester), cfgGate s req Reg.SCHED_SLOT_CMD none = .go) ∧
    (∃ (s : State) (req : Requester), cfgGate s req Reg.SCHED_SLOT_CMD none = .go) ∧
    (∃ (s : State) (r : SchedRec) (rest : List SchedRec) (q : Nat), s.sched.buf = r :: rest ∧ schedRing s = some q ∧ ringFull s q = false) ∧
    (∃ (s : State) (r : SchedRec) (rest : List SchedRec) (q : Nat), s.sched.buf = r :: rest ∧ schedRing s = some q ∧ ringFull s q = true) :=
  ⟨⟨(slot 255 5 0).wrAll [(Reg.SCHED_SLOT_STATUS 255, 0), (Reg.SCHED_SLOT_TIME_HI 255, 2)], .host, 255, by decide +kernel⟩,
    ⟨on, .host, 0, by decide +kernel⟩,
    ⟨(slot 0 5 0).wrAll [(Reg.SCHED_SLOT_STATUS 0, 0)], .mgmt, 0, by decide +kernel⟩,
    ⟨slot 3 5 0, .host, by decide +kernel⟩,
    ⟨slot 3 1 0, .host, by decide +kernel⟩,
    ⟨on, .host, by decide +kernel⟩,
    ⟨schedLog 5, ⟨3, 1, 5000000000, 5000000000, 0, 2⟩, [], 43, by decide +kernel⟩,
    ⟨schedLog 16, ⟨3, 1, 5000000000, 5000000000, 0, 2⟩, [], 43, by decide +kernel⟩⟩

/-- States and operands that meet the hypotheses of `Obligations.SlotsExecute`, clause by clause. -/
theorem meets_SlotsExecute :
    (∃ (s : State) (i : Fin 256) (h : Fin 4), slotTarget s i % 4 = h.val ∧ slotEpoch s i = roleEpoch s (headBase h) ∧ slotDue s i 2 = true) ∧
    (∃ (s : State) (i : Fin 256) (h : Fin 4), slotTarget s i % 4 = h.val ∧ slotEpoch s i = roleEpoch s (headBase h) ∧
      slotDue s i 6 = true ∧ slotPayload s i < 0x80) ∧
    (∃ (s : State) (i : Fin 256) (h : Fin 4) (c : Instr) (a : Nat), slotTarget s i % 4 = h.val ∧
      slotEpoch s i ≠ roleEpoch s (headBase h) ∧ ((c = Instr.headCommit i ∧ a = 2) ∨ (c = Instr.testStart i ∧ a = 6)) ∧
      slotDue s i a = true) ∧
    (∃ (s : State) (i : Fin 256) (h : Fin 4) (c : Instr) (a : Nat), slotTarget s i % 4 = h.val ∧
      slotEpoch s i ≠ roleEpoch s (headBase h) ∧ ((c = Instr.headCommit i ∧ a = 2) ∨ (c = Instr.testStart i ∧ a = 6)) ∧
      slotDue s i a = true) ∧
    (∃ (s : State) (i : Fin 256), slotDue s i 3 = true) ∧
    (∃ (s : State) (i : Fin 256), slotDue s i 4 = true) ∧
    (∃ (s : State) (i : Fin 256), slotDue s i 7 = true) ∧
    (∃ (s : State) (i : Fin 256), slotDue s i 5 = true ∧ slotTarget s i < 8) ∧
    (∃ (s : State) (i : Fin 256), slotDue s i 5 = true ∧ slotTarget s i < 8) ∧
    (∃ (s : State) (i : Fin 256) (k : Fin 4), slotDue s i 1 = true ∧ fld (slotPayload s i) 0 2 = k.val ∧ slotOver s i = false) :=
  ⟨⟨slot 0 0x302 0, 0, 3, by decide +kernel⟩,
    ⟨slot 255 0x106 1, 255, 1, by decide +kernel⟩,
    ⟨slot 0 0x10002 0, 0, 0, .headCommit 0, 2, by decide +kernel⟩,
    ⟨slot 0 0x10006 1, 0, 0, .testStart 0, 6, by decide +kernel⟩,
    ⟨slot 0 0x703 0, 0, by decide +kernel⟩,
    ⟨slot 0 4 1, 0, by decide +kernel⟩,
    ⟨slot 0 7 0, 0, by decide +kernel⟩,
    ⟨(slot 0 0x705 3).wrAll [(Reg.TIME_AUX_CTRL, 0x80)], 0, by decide +kernel⟩,
    ⟨slot 0 5 0, 0, by decide +kernel⟩,
    ⟨{ slot 0 1 0 with txn := { on.txn with t0 := polTxn 0x200 } }.wr (Reg.TXN_TXN_STATE 0) 2, 0, 0, by decide +kernel⟩⟩

/-- States and operands that meet the hypotheses of `Obligations.TriggerPinsAndCages`, clause by clause. -/
theorem meets_TriggerPinsAndCages :
    (∃ (s : State) (req : Requester), cfgGate s req Reg.TIME_AUX_LEVEL none = .go) ∧
    (∃ (s : State) (req : Requester), cfgGate s req Reg.TIME_AUX_CTRL none = .go) ∧
    (∃ (s : State) (req : Requester), cfgGate s req Reg.TIME_AUX_CTRL none = .go) ∧
    (∃ (s : State) (g : Fin 8) (e : Nat), s.on = true ∧ pulseOf s g = some e ∧ e ≤ s.now) ∧
    (∃ (s : State) (g : Fin 8), s.on = true ∧ trigDriven s g = true) ∧
    (∃ (s : State) (g : Fin 8), s.on = true ∧ trigDriven s g = true) ∧
    (∃ (s : State) (g : Fin 8), s.on = true ∧ trigOut s g = false) ∧
    (∃ (s : State) (g : Fin 8), s.on = true ∧ trigOut s g = false) ∧
    (∃ (s : State), s.on = true ∧ s.b Reg.TIME_TIME_CTRL 3 = true ∧ ppsDue s = true) ∧
    (∃ (s : State) (p : Fin 2), s.on = true ∧ linkUp s p = false) ∧
    (∃ (s : State) (p : Fin 2), s.on = true ∧ linkUp s p = false) ∧
    (∃ (s : State), s.on = true) ∧
    (∃ (s : State), s.on = true) ∧
    (∃ (s : State) (p : Fin 2), s.on = true ∧ linkUp s p = false ∧ s.powerState ≠ 2 ∧ s.f (Reg.NET_LINK_STATUS p) 2 2 = 1) ∧
    (∃ (s : State) (p : Fin 2), s.on = true ∧ linkUp s p = false ∧ s.powerState ≠ 2 ∧ s.f (Reg.NET_LINK_STATUS p) 2 2 = 2 ∧
      portCr4 s p = true) ∧
    (∃ (s : State) (p : Fin 2), s.on = true ∧ linkUp s p = false ∧ s.powerState ≠ 2 ∧ s.f (Reg.NET_LINK_STATUS p) 2 2 = 2 ∧
      portCr4 s p = true) ∧
    (∃ (s : State) (p : Fin 2), s.on = true ∧ linkUp s p = true) ∧
    (∃ (s : State) (p : Fin 2), s.on = true ∧ linkUp s p = true) ∧
    (∃ (s : State) (p : Fin 2), s.on = true ∧ linkUp s p = true) :=
  ⟨⟨on, .host, by decide +kernel⟩,
    ⟨on, .host, by decide +kernel⟩,
    ⟨on, .mgmt, by decide +kernel⟩,
    ⟨{ st [(Reg.TIME_AUX_CTRL, 4), (Reg.TIME_AUX_LEVEL, 4)] with sched := { on.sched with pulse := [(2, some 4999999999)] } }, 2, 4999999999, by decide +kernel⟩,
    ⟨st [(Reg.TIME_AUX_CTRL, 0x80)], 7, by decide +kernel⟩,
    ⟨st [(Reg.TIME_AUX_CTRL, 0x80)], 7, by decide +kernel⟩,
    ⟨on, 0, by decide +kernel⟩,
    ⟨st [(Reg.TIME_AUX_CAPTURE, 0x8000)], 7, by decide +kernel⟩,
    ⟨st [(Reg.TIME_TIME_CTRL, 8)], by decide +kernel⟩,
    ⟨on, 1, by decide +kernel⟩,
    ⟨on, 0, by decide +kernel⟩,
    ⟨port0, by decide +kernel⟩,
    ⟨on, by decide +kernel⟩,
    ⟨st [(Reg.NET_LINK_STATUS 1, 4)], 1, by decide +kernel⟩,
    ⟨st [(Reg.NET_LINK_STATUS 1, 8), (Reg.NET_PORT_CTRL 1, 4)], 1, by decide +kernel⟩,
    ⟨st [(Reg.NET_LINK_STATUS 1, 8), (Reg.NET_PORT_CTRL 1, 2)], 1, by decide +kernel⟩,
    ⟨port0, 0, by decide +kernel⟩,
    ⟨port0, 0, by decide +kernel⟩,
    ⟨port0, 0, by decide +kernel⟩⟩

/-- States and operands that meet the hypotheses of `Obligations.PortsAndFlows`, clause by clause. -/
theorem meets_PortsAndFlows :
    (∃ (s : State) (p : Fin 2), s.on = true ∧ linkUp s p = false ∧ s.f (Reg.NET_LINK_STATUS p) 2 2 ≠ 0 ∧
      (s.powerState ≠ 2 ∨ standbyPort s p = true)) ∧
    (∃ (s : State) (p : Fin 2), s.on = true ∧ linkUp s p = true) ∧
    (∃ (s : State) (p : Fin 2), s.on = true ∧ linkUp s p = true) ∧
    (∃ (s : State) (p : Fin 2), s.on = true ∧ linkUp s p = true) ∧
    (∃ (s : State) (p : Fin 2) (x : BitVec 128), s.on = true ∧ linkUp s p = true ∧ s.powerState ≠ 2 ∧ s.b (Reg.NET_PORT_CTRL p) 4 = true ∧
      s.rd (Reg.NET_IPV4_ADDR p) ≠ 0 ∧ x.toNat = mapped4 (s.rd (Reg.NET_IPV4_ADDR p))) ∧
    (∃ (s : State) (p : Fin 2) (x : BitVec 128), s.on = true ∧ linkUp s p = true ∧ s.powerState ≠ 2 ∧ s.b (Reg.NET_PORT_CTRL p) 4 = true ∧
      s.b (Reg.NET_PORT_CTRL p) 3 = true ∧ x.toNat = addr128 s (Reg.NET_IPV6_ADDR p 0)) ∧
    (∃ (s : State) (req : Requester) (p : Fin 2) (m : Fin 64) (w : Fin 4), cfgGate s req (Reg.NET_MCAST p m + 4 * w) none = .go) ∧
    (∃ (s : State) (req : Requester) (i : Fin 8192) (v : Word), cfgGate s req (Reg.FLOW_FLOW_CTRL i) none = .go ∧ bit v 0 = true ∧
      s.b (Reg.FLOW_FLOW_CTRL i) 0 = false) ∧
    (∃ (s : State) (req : Requester) (i : Fin 8192) (v : Word), cfgGate s req (Reg.FLOW_FLOW_CTRL i) none = .go ∧ bit v 0 = true ∧
      s.b (Reg.FLOW_FLOW_CTRL i) 0 = false) ∧
    (∃ (s : State) (p : Fin 2) (vlan : Option (BitVec 12)) (src : Word) (dst : BitVec 128) (udp : BitVec 16) (l : List Byte) (k : Nat), s.on = true ∧
      linkUp s p = true ∧ udp.toNat = s.f (Reg.NET_PST_UDP_PORT p) 0 16 ∧
      pstFrameLen vlan.isSome dst.toNat l.length ≤ s.rdN (Reg.NET_MAX_FRAME p) ∧
      (ownAddr s p dst.toNat || mcastAddr s p dst.toNat) = true ∧ s.powerState ≠ 2 ∧ enabled s (netBase p) = true ∧
      s.rd Reg.INGEST_POOL_SIZE ≠ 0 ∧ 32 ≤ l.length ∧ (let i := (pstHdr l).sid % 8192; flowAdmits s i p (pstHdr l).sid = true) ∧
      (let i := (pstHdr l).sid % 8192; flowSource s i vlan src = true) ∧ freeSlots s 1 = some [k] ∧
      (let i := (pstHdr l).sid % 8192; let r := s.f (Reg.FLOW_FLOW_TARGET i) 0 13; ringEnabled s r = true) ∧
      (let i := (pstHdr l).sid % 8192; let r := s.f (Reg.FLOW_FLOW_TARGET i) 0 13; ringType s r = 1) ∧
      (let i := (pstHdr l).sid % 8192; let r := s.f (Reg.FLOW_FLOW_TARGET i) 0 13; ringFull s r = false)) ∧
    (∃ (s : State) (p : Fin 2) (vlan : Option (BitVec 12)) (src : Word) (dst : BitVec 128) (udp : BitVec 16) (l : List Byte) (k : Nat), s.on = true ∧
      linkUp s p = true ∧ udp.toNat = s.f (Reg.NET_PST_UDP_PORT p) 0 16 ∧
      pstFrameLen vlan.isSome dst.toNat l.length ≤ s.rdN (Reg.NET_MAX_FRAME p) ∧
      (ownAddr s p dst.toNat || mcastAddr s p dst.toNat) = true ∧ s.powerState ≠ 2 ∧ enabled s (netBase p) = true ∧
      s.rd Reg.INGEST_POOL_SIZE ≠ 0 ∧ 32 ≤ l.length ∧ (let i := (pstHdr l).sid % 8192; flowAdmits s i p (pstHdr l).sid = true) ∧
      (let i := (pstHdr l).sid % 8192; flowSource s i vlan src = true) ∧ freeSlots s 1 = some [k] ∧
      (let i := (pstHdr l).sid % 8192; let r := s.f (Reg.FLOW_FLOW_TARGET i) 0 13; ringEnabled s r = true) ∧
      (let i := (pstHdr l).sid % 8192; let r := s.f (Reg.FLOW_FLOW_TARGET i) 0 13; ringType s r = 1) ∧
      (let i := (pstHdr l).sid % 8192; let r := s.f (Reg.FLOW_FLOW_TARGET i) 0 13; ringFull s r = false)) ∧
    (∃ (s : State) (p : Fin 2) (vlan : Option (BitVec 12)) (src : Word) (dst : BitVec 128) (udp : BitVec 16) (l : List Byte), s.on = true ∧
      linkUp s p = true ∧ udp.toNat = s.f (Reg.NET_PST_UDP_PORT p) 0 16 ∧
      pstFrameLen vlan.isSome dst.toNat l.length ≤ s.rdN (Reg.NET_MAX_FRAME p) ∧
      (ownAddr s p dst.toNat || mcastAddr s p dst.toNat) = true ∧ s.powerState ≠ 2 ∧ enabled s (netBase p) = true ∧
      s.rd Reg.INGEST_POOL_SIZE ≠ 0 ∧ 32 ≤ l.length ∧
      (let i := (pstHdr l).sid % 8192; ¬(flowAdmits s i p (pstHdr l).sid = true ∧ flowSource s i vlan src = true))) :=
  ⟨⟨st [(Reg.NET_LINK_STATUS 1, 4)], 1, by decide +kernel⟩,
    ⟨port0, 0, by decide +kernel⟩,
    ⟨port0, 0, by decide +kernel⟩,
    ⟨port0, 0, by decide +kernel⟩,
    ⟨port0, 0, 0xFFFF0A000001, by decide +kernel⟩,
    ⟨port0, 0, 0xFE800000000000000000000000000000, by decide +kernel⟩,
    ⟨on, .host, 1, 63, 3, by decide +kernel⟩,
    ⟨on, .host, 8191, 1, by decide +kernel⟩,
    ⟨on, .host, 0, 0x11, by decide +kernel⟩,
    ⟨flowPort 0x1A4, 0, none, 1, 0xFFFF0A000001, 5000, List.replicate 41 0, 0, by decide +kernel⟩,
    ⟨flowPort 0x124, 0, none, 1, 0xFFFF0A000001, 5000, List.replicate 32 0, 0, by decide +kernel⟩,
    ⟨port0, 0, none, 1, 0xFFFF0A000001, 5000, List.replicate 32 0, by decide +kernel⟩⟩

/-- States and operands that meet the hypotheses of `Obligations.ScenePacketsAndFrames`, clause by clause. -/
theorem meets_ScenePacketsAndFrames :
    (∃ (s : State) (r : Fin 8192) (x : RxEntry), s.on = true ∧ ringType s r = 1 ∧ canAccept s r = true ∧
      s.ing.rx.find? (fun y => decide (y.ring = r.val ∧ y.index = s.rd (Reg.RING_CONS r))) = some x) ∧
    (∃ (s : State) (i : Fin 8192) (p : Fin 2), s.on = true ∧ s.b (Reg.FLOW_FLOW_CTRL i) 0 = true ∧ s.b (Reg.FLOW_FLOW_CTRL i) 4 = true ∧
      s.b (Reg.FLOW_PATH_STALE i) (16 + p) = true ∧
      (let f := flowOf s i; let w := s.f Reg.INGEST_DUP_CTRL 0 16 * 1000000; (if p = 0 then f.last0 else f.last1).getD f.act + w ≤ s.now) ∧
      (let f := flowOf s i; let w := s.f Reg.INGEST_DUP_CTRL 0 16 * 1000000; (∃ o, (if p = 0 then f.last1 else f.last0) = some o ∧ s.now < o + w))) ∧
    (∃ (s : State) (n : Fin 16) (num : Word) (f : Asm), s.on = true ∧ findAsm (storeOf s n) num = some f ∧ f.closed = false ∧ f.d ≤ s.now) ∧
    (∃ (s : State) (n : Fin 16) (num : Word) (f : Asm), findAsm (storeOf s n) num = some f ∧ asmDone f = true) ∧
    (∃ (s : State) (p : Fin 2), s.on = true ∧ linkUp s p = true ∧ s.powerState ≠ 2) ∧
    (∃ (s : State) (p : Fin 2), s.on = true ∧ linkUp s p = true ∧ s.powerState ≠ 2) ∧
    (∃ (s : State) (p : Fin 2), s.on = true ∧ linkUp s p = true ∧ s.powerState ≠ 2) ∧
    (∃ (s : State) (req : Requester) (p : Fin 2) (m : Fin 64) (w : Fin 4), cfgGate s req (Reg.NET_MCAST p m + 4 * w) none = .go) ∧
    (∃ (s : State) (req : Requester) (p : Fin 2) (m : Fin 64) (w : Fin 4), cfgGate s req (Reg.NET_MCAST p m + 4 * w) none = .go) ∧
    (∃ (s : State) (req : Requester) (i : Fin 8192) (v : Word), cfgGate s req (Reg.FLOW_FLOW_CTRL i) none = .go ∧ bit v 0 = true ∧
      s.b (Reg.FLOW_FLOW_CTRL i) 0 = false ∧ flowActivateOk s i (v &&& 0x000F071F) = true) ∧
    (∃ (s : State) (req : Requester) (i : Fin 8192) (v : Word), cfgGate s req (Reg.FLOW_FLOW_CTRL i) none = .go ∧ bit v 0 = true ∧
      s.b (Reg.FLOW_FLOW_CTRL i) 0 = false ∧ flowActivateOk s i (v &&& 0x000F071F) = true) ∧
    (∃ (s : State) (p : Fin 2) (vlan : Option (BitVec 12)) (src : Word) (dst : BitVec 128) (udp : BitVec 16) (l : List Byte), s.on = true ∧
      linkUp s p = true ∧ udp.toNat = s.f (Reg.NET_PST_UDP_PORT p) 0 16 ∧
      pstFrameLen vlan.isSome dst.toNat l.length ≤ s.rdN (Reg.NET_MAX_FRAME p) ∧
      (ownAddr s p dst.toNat || mcastAddr s p dst.toNat) = true ∧ s.powerState ≠ 2 ∧ enabled s (netBase p) = true ∧
      s.rd Reg.INGEST_POOL_SIZE ≠ 0 ∧ 32 ≤ l.length ∧ (let i := (pstHdr l).sid % 8192; flowAdmits s i p (pstHdr l).sid = true) ∧
      (let i := (pstHdr l).sid % 8192; flowSource s i vlan src = true) ∧ freeSlots s 1 = none) :=
  ⟨⟨{ held 0x1A4 0x21 0x22000 [(Reg.INGEST_POOL_SIZE, 16)] [] with ing := { on.ing with rx := [⟨40, 1, [0], 0, 32⟩] } }, 40, ⟨40, 1, [0], 0, 32⟩, by decide +kernel⟩,
    ⟨{ st [(Reg.FLOW_FLOW_CTRL 5, 0x11), (Reg.FLOW_PATH_STALE 5, 0x10000), (Reg.INGEST_DUP_CTRL, 100)] with ing := { on.ing with flows := [(5, { FlowSt.fresh with act := 1000000000, last1 := some 4999000000 })] } }, 5, 0, by decide +kernel, by decide +kernel, by decide +kernel, by decide +kernel, by decide +kernel, 4999000000, by decide +kernel, by decide +kernel⟩,
    ⟨store3 (asm0 false [] none), 3, 7, asm0 false [] none, by decide +kernel⟩,
    ⟨store3 (asm0 true [] (some hdr0)), 3, 7, asm0 true [] (some hdr0), by decide +kernel⟩,
    ⟨port0, 0, by decide +kernel⟩,
    ⟨port0, 0, by decide +kernel⟩,
    ⟨port0, 0, by decide +kernel⟩,
    ⟨on, .host, 1, 63, 3, by decide +kernel⟩,
    ⟨on, .host, 0, 0, 0, by decide +kernel⟩,
    ⟨on, .host, 8191, 1, by decide +kernel⟩,
    ⟨st [(Reg.RING_CFG 0, 0x100), (Reg.RING_CTRL 0, 1)], .host, 17, 0xF0707, by decide +kernel⟩,
    ⟨{ (flowPort 0x124).wr Reg.INGEST_POOL_SIZE 1 with ing := { on.ing with slots := List.range 113 } }, 0, none, 1, 0xFFFF0A000001, 5000, List.replicate 41 0, by decide +kernel⟩⟩

/-- States and operands that meet the hypotheses of `Obligations.DecodeClusterAndMapBanks`, clause by clause. -/
theorem meets_DecodeClusterAndMapBanks :
    (∃ (s : State) (n : Fin 16) (num : Word) (i : Nat) (f : Asm) (hd : FrameHdr) (p : Pieces), findAsm (storeOf s n) num = some f ∧
      tileOf f i = .lane p ∧ f.hdr = some hd) ∧
    (∃ (s : State), s.on = true) ∧
    (∃ (s : State) (c : Fin 32), s.on = true ∧ s.b Reg.CODEC_SELFTEST_CTRL 0 = true ∧ s.b Reg.CODEC_CORE_MASK c = true) ∧
    (∃ (s : State) (req : Requester) (h : Fin 4), cfgGate s req (Reg.RGU_MAP_CMD h) none = .go) ∧
    (∃ (s : State) (req : Requester) (h : Fin 4), cfgGate s req (Reg.RGU_MAP_CMD h) none = .go) ∧
    (∃ (s : State) (h : Fin 4) (b : Fin 2), s.on = true ∧ bankState s h b = 1) :=
  ⟨⟨store3 (asm0 true [(2, .lane [])] (some hdr0)), 3, 7, 2, asm0 true [(2, .lane [])] (some hdr0), hdr0, [], by decide +kernel⟩,
    ⟨on, by decide +kernel⟩,
    ⟨st [(Reg.CODEC_SELFTEST_CTRL, 1), (Reg.CODEC_CORE_MASK, 0xFFFFFFFF)], 31, by decide +kernel⟩,
    ⟨on, .host, 0, by decide +kernel⟩,
    ⟨st [(Reg.RGU_BANK_STATUS 0 1, 1)], .host, 0, by decide +kernel⟩,
    ⟨st [(Reg.RGU_BANK_STATUS 0 1, 1)], 0, 1, by decide +kernel⟩⟩

/-- States and operands that meet the hypotheses of `Obligations.HeadsStartLatchAndStop`, clause by clause. -/
theorem meets_HeadsStartLatchAndStop :
    (∃ (s : State) (req : Requester) (h : Fin 4), cfgGate s req (Reg.PAGE_CTRL (headBase h)) none = .go ∧ enabled s (headBase h) = false) ∧
    (∃ (s : State) (req : Requester) (h : Fin 4), cfgGate s req (Reg.PAGE_CTRL (headBase h)) none = .go ∧ enabled s (headBase h) = false) ∧
    (∃ (s : State) (req : Requester) (h : Fin 4), cfgGate s req (Reg.PAGE_CTRL (headBase h)) none = .go ∧ enabled s (headBase h) = true) ∧
    (∃ (s : State) (req : Requester) (h : Fin 4), cfgGate s req (Reg.PAGE_CTRL (headBase h)) none = .go ∧ enabled s (headBase h) = true) ∧
    (∃ (s : State) (h : Fin 4), latchDue s h = true ∧ headState s h = 1 ∧ joinStale s h = true) ∧
    (∃ (s : State) (h : Fin 4), latchDue s h = true ∧ (headState s h = 1 → joinStale s h = false)) ∧
    (∃ (s : State) (h : Fin 4), fieldDue s h = true) :=
  ⟨⟨st ([(Reg.PAGE_ROLE 0x40000, 1)] ++ lanesOf 1), .host, 0, by decide +kernel⟩,
    ⟨on, .mgmt, 3, by decide +kernel⟩,
    ⟨headSt running [], .host, 0, by decide +kernel⟩,
    ⟨headSt HeadSt.fresh [], .host, 0, by decide +kernel⟩,
    ⟨headSt { running with run := false, anchor := 4983500000, num := 61 } [(Reg.HEAD_HEAD_STATUS 0, 1)], 0, by decide +kernel⟩,
    ⟨headSt { running with anchor := 4983500000 } [], 0, by decide +kernel⟩,
    ⟨headSt { running with anchor := 4980000000, latched := true } [], 0, by decide +kernel⟩⟩

/-- States and operands that meet the hypotheses of `Obligations.CommitsReleasesAndLuts`, clause by clause. -/
theorem meets_CommitsReleasesAndLuts :
    (∃ (s : State) (req : Requester) (h : Fin 4), cfgGate s req (Reg.HEAD_COMMIT h) none = .go) ∧
    (∃ (s : State) (req : Requester) (h : Fin 4), cfgGate s req (Reg.HEAD_COMMIT h) none = .go) ∧
    (∃ (s : State) (h : Fin 4) (k : Fin 8) (r : Release), s.on = true ∧
      (headOf s h).releases.find? (fun r => decide (r.layer = k.val)) = some r ∧ releaseDue s h r = true) ∧
    (∃ (s : State) (g h : Fin 4), s.on = true ∧ (headOf s h).group = g.val ∧ timeLocked s h = true ∧ (headOf s h).e ≠ 0 ∧ headE s h = 0) ∧
    (∃ (s : State) (req : Requester) (h : Fin 4) (c : Fin 3) (i : Fin 4096), (let a := Reg.LUT h + (c * 4096 + i) * 4; cfgGate s req a none = .go)) ∧
    (∃ (s : State) (req : Requester) (h : Fin 4), cfgGate s req (Reg.OUT_LEDGER_CLEAR h) none = .go) ∧
    (∃ (s : State) (req : Requester) (h : Fin 4), cfgGate s req (Reg.OUT_LEDGER_CLEAR h) none = .go) :=
  ⟨⟨headSt running [], .host, 0, by decide +kernel⟩,
    ⟨on, .host, 1, by decide +kernel⟩,
    ⟨headSt { running with releases := [⟨2, 1, 2, 3, 9⟩] } [], 0, 2, ⟨2, 1, 2, 3, 9⟩, by decide +kernel⟩,
    ⟨headSt { running with e := 5, eAt := 0 } [(Reg.HEAD_LOCK_PULL 0, 1000)], 0, 0, by decide +kernel⟩,
    ⟨on, .host, 0, 2, 4095, by decide +kernel⟩,
    ⟨on, .host, 0, by decide +kernel⟩,
    ⟨on, .host, 3, by decide +kernel⟩⟩

/-- States and operands that meet the hypotheses of `Obligations.ProductionReads`, clause by clause. -/
theorem meets_ProductionReads :
    (∃ (s : State) (h : Fin 4) (k : Fin 8), headProduces s h = true ∧ (let F := prodField s h; F.fetchAt ≤ (s.now : Int)) ∧
      (let F := prodField s h; layerFetched F h k = true) ∧ (let F := prodField s h; eclipsedIn F k = false) ∧
      (let F := prodField s h; descRead F k = false)) ∧
    (∃ (s : State) (h : Fin 4) (k : Fin 8) (band : Nat), s.on = true ∧ headProduces s h = true ∧
      (let F := prodField s h; F.fetchAt ≤ (s.now : Int)) ∧ (let F := prodField s h; layerFetched F h k = true) ∧
      (let F := prodField s h; eclipsedIn F k = false) ∧ (let F := prodField s h; F.guards.contains (k.val, band) = false) ∧
      (let F := prodField s h; coversBand s F h k band = true) ∧ (let F := prodField s h; 64 * band < F.vActive h)) ∧
    (∃ (s : State) (h : Fin 4) (k : Fin 8) (band : Nat), s.on = true ∧ headProduces s h = true ∧
      (let F := prodField s h; F.fetchAt ≤ (s.now : Int)) ∧ (let F := prodField s h; layerFetched F h k = true) ∧
      (let F := prodField s h; eclipsedIn F k = false) ∧ (let F := prodField s h; F.guards.contains (k.val, band) = false) ∧
      (let F := prodField s h; coversBand s F h k band = true) ∧ (let F := prodField s h; 64 * band < F.vActive h)) ∧
    (∃ (s : State) (h : Fin 4) (k : Fin 8) (line : Nat), s.on = true ∧ slotFree s h line = true ∧ headProduces s h = true ∧
      (let F := prodField s h; F.fetchAt ≤ (s.now : Int)) ∧ (let F := prodField s h; layerDepth F h k = false) ∧
      (let F := prodField s h; eclipsedIn F k = false) ∧ (let F := prodField s h; coversLine s F h k line = true) ∧
      (let F := prodField s h; (layerFetched F h k = true → descRead F k = true))) ∧
    (∃ (s : State) (h : Fin 4) (k : Fin 8) (line : Nat), s.on = true ∧ slotFree s h line = true ∧ headProduces s h = true ∧
      (let F := prodField s h; F.fetchAt ≤ (s.now : Int)) ∧ (let F := prodField s h; layerDepth F h k = false) ∧
      (let F := prodField s h; eclipsedIn F k = false) ∧ (let F := prodField s h; coversLine s F h k line = true) ∧
      (let F := prodField s h; (layerFetched F h k = true → descRead F k = true))) ∧
    (∃ (s : State) (h : Fin 4) (bx bY : Nat), s.on = true ∧ headProduces s h = true ∧ (let F := prodField s h; F.noScene = false) ∧
      (let F := prodField s h; F.cut = none) ∧ (let F := prodField s h; F.fetchAt ≤ (s.now : Int)) ∧
      (let F := prodField s h; F.bank < 3) ∧ (let F := prodField s h; let m := bankHdr s h F.bank; bx < m.bx) ∧
      (let F := prodField s h; let m := bankHdr s h F.bank; bY < m.bY) ∧
      (let F := prodField s h; let m := bankHdr s h F.bank; let blk := bY * m.bx + bx; F.fetched.contains blk = false) ∧
      (let F := prodField s h; rowTurn s F h bY = true)) ∧
    (∃ (s : State) (h : Fin 4) (line : BitVec 26) (e : Nat), (setEntries line.toNat).find? (fun e => dirPending s h e && decide (fld (dirLo s h e) 0 26 = line.toNat)) = some e) :=
  ⟨⟨producingSt (layer1 []), 0, 1, by decide +kernel⟩,
    ⟨producingSt (layer1 [(1, some ⟨0, 64, 16, 8, 0, 0, 0⟩)]), 0, 1, 0, by decide +kernel⟩,
    ⟨hbmPut (producingSt (layer1 [(1, some ⟨0, 64, 16, 8, 0, 0, 0⟩)])) 24 [7], 0, 1, 0, by decide +kernel⟩,
    ⟨producingSt (fun F => { layer1 [(1, some ⟨0, 64, 16, 8, 0, 0, 0⟩)] F with guards := [(1, 0)] }), 0, 1, 7, by decide +kernel⟩,
    ⟨hbmPut (producingSt (layer1 [(1, some ⟨0, 64, 16, 8, 0, 0, 0⟩)])) 24 [7], 0, 1, 7, by decide +kernel⟩,
    ⟨hbmPut (producingSt fun F => { F with bank := 0, noScene := false, hdrRead := true }) 0 (List.replicate 12 0 ++ [1, 0, 1, 0]), 0, 0, 0, by decide +kernel⟩,
    ⟨{ st [(Reg.CACHE_DIR 0 0, 0x8000000)] with heads := [(0, { HeadSt.fresh with fills := [(0, (0, 0))] })] }, 0, 0, 0, by decide +kernel⟩⟩

/-- States and operands that meet the hypotheses of `Obligations.LinesProducedAndSent`, clause by clause. -/
theorem meets_LinesProducedAndSent :
    (∃ (s : State) (h : Fin 4) (y : Nat), y = nextLine s h ∧ (headOf s h).run = true ∧ (headOf s h).sending = true ∧
      roleCode s (headBase h) = 1 ∧ y < (headOf s h).cur.f (Reg.HEAD_V_LINES h) 16 16 ∧ lineStart s h y ≤ (s.now : Int)) ∧
    (∃ (s : State) (h : Fin 4) (y : Nat), y = nextLine s h ∧ (headOf s h).run = true ∧ (headOf s h).sending = true ∧
      roleCode s (headBase h) = 1 ∧ y < (headOf s h).cur.f (Reg.HEAD_V_LINES h) 16 16 ∧ lineStart s h y ≤ (s.now : Int)) ∧
    (∃ (s : State) (h : Fin 4) (rays : RayProgress), headProduces s h = true ∧ rays.line = (prodField s h).next ∧
      (prodField s h).next < (prodField s h).vActive h ∧ prodLineStart s h (prodField s h).next - 1000 ≤ (s.now : Int)) ∧
    (∃ (s : State) (h : Fin 4) (w : WbField) (rest : List WbField), (wbOf s h).fields = w :: rest ∧
      w.region + 1 < wbRegions (w.height h) ∧ wbRegionReady w h = true) :=
  ⟨⟨headSt running [], 0, 0, by decide +kernel⟩,
    ⟨headSt { running with abort := true } [], 0, 0, by decide +kernel⟩,
    ⟨headSt running [], 0, ⟨0, 10, 10, 10, 5, true⟩, by decide +kernel⟩,
    ⟨headSt { running with wb := { WbSt.idle with fields := [wb0] } } [], 0, wb0, [], by decide +kernel⟩⟩

/-- States and operands that meet the hypotheses of `Obligations.ReceiveAndMirror`, clause by clause. -/
theorem meets_ReceiveAndMirror :
    (∃ (s : State) (h : Fin 4) (n : Fin 13) (line g : Nat) (b : BandLine), s.on = true ∧
      (headOf s h).sent.find? (fun b => decide (b.line = line)) = some b ∧ carried s h n = some g ∧
      s.b (Reg.ZL_MIRROR_STATUS h) 8 = true ∧ (headOf s h).cur.produced = true ∧ mirrorChecked (headOf s h).cur h line = true) ∧
    (∃ (s : State) (h : Fin 4) (x : List Byte), s.on = true ∧ roleCode s (headBase h) = 2 ∧ (headState s h = 2 ∨ headState s h = 3) ∧
      controlOk x = true ∧ leAt x 0 1 = 0x55) ∧
    (∃ (s : State) (h : Fin 4) (n : Fin 13) (b : Block) (ui : Nat) (x : LaneSt) (p : RxPacket), roleCode s (headBase h) = 2 ∧
      (headOf s h).run = true ∧ (headState s h = 2 ∨ headState s h = 3) ∧ laneHears s h n = true ∧ (laneOf s h n).lock = true ∧
      headerOk b = true ∧ ((laneOf s h n).header true).1.block b ui (rxBytes s h) = (x, [p], false) ∧ p.group < 12) :=
  ⟨⟨headSt { running with sent := [⟨0, 0, false, false, []⟩], cur := { running.cur with cfg := [(Reg.ZL_MIRROR_CTRL 0, 2)] } } [(Reg.ZL_MIRROR_STATUS 0, 0x100), (Reg.ZL_LANE_ROLE 0 0, 1), (Reg.ZL_LANE_STATUS 0 0, 0xF005)], 0, 0, 0, 0, ⟨0, 0, false, false, []⟩, by decide +kernel⟩,
    ⟨st [(Reg.PAGE_ROLE 0x40000, 2), (Reg.HEAD_HEAD_STATUS 0, 2)], 0, (frameStartBlock FieldSt.none_ 0 12).payload, by decide +kernel⟩,
    ⟨rxSt, 0, 0, rxBlk, 0, ((((laneOf rxSt 0 0).header true).1.block rxBlk 0 (rxBytes rxSt 0)).1), ⟨0, 0, true, false, true, false, []⟩, by decide +kernel⟩⟩

/-- States and operands that meet the hypotheses of `Obligations.SupplyAndBoot`, clause by clause. -/
theorem meets_SupplyAndBoot :
    (∃ (s : State) (c : Instr), ((c = .lvinApplied ∧ s.on = false) ∨ (c = .lvinLost ∧ s.on = true))) ∧
    (∃ (s : State) (c : Instr), ((c = .lvinApplied ∧ s.on = false) ∨ (c = .lvinLost ∧ s.on = true))) ∧
    (∃ (s : State), s.on = true ∧ s.power.fastClk = false ∧ s.stage = 0) ∧
    (∃ (s : State), s.on = true ∧ s.power.fastClk = true ∧ s.stage = 1 ∧ s.maint.running = none ∧ recovery s = false ∧ chanUp s = false) ∧
    (∃ (s : State), readyDue s = true ∧ curProfile s = [] ∧ s.maint.present = [] ∧ s.maint.presentOptic = false) :=
  ⟨⟨State.reset, .lvinApplied, by decide +kernel⟩,
    ⟨on, .lvinLost, by decide +kernel⟩,
    ⟨{ bootSt 0 none with power := ⟨true, false, false, false, 1, []⟩ }, by decide +kernel⟩,
    ⟨bootSt 1 none, by decide +kernel⟩,
    ⟨bootSt 3 (some false), by decide +kernel⟩⟩

/-- States and operands that meet the hypotheses of `Obligations.ProfileAndHandover`, clause by clause. -/
theorem meets_ProfileAndHandover :
    (∃ (s : State) (req : Requester), cfgGate s req Reg.MAINT_PROFILE_CMD none = .go) ∧
    (∃ (s : State) (req : Requester), cfgGate s req Reg.MAINT_PROFILE_CMD none = .go) ∧
    (∃ (s : State) (l : List Byte), s.maint.install = some l) ∧
    (∃ (s : State) (l : List Byte), s.maint.install = some l) ∧
    (∃ (s : State), s.on = true ∧ kOn s = true ∧ chanUp s = false) ∧
    (∃ (s : State) (req : Requester), cfgGate s req Reg.MAINT_HANDOVER_CMD none = .go) ∧
    (∃ (s : State) (req : Requester), cfgGate s req Reg.MAINT_HANDOVER_CMD none = .go) :=
  ⟨⟨on, .host, by decide +kernel⟩,
    ⟨keeper 1 [], .host, by decide +kernel⟩,
    ⟨{ on with maint := { on.maint with install := some [1] } }, [1], by decide +kernel⟩,
    ⟨{ on with maint := { on.maint with install := some [1] } }, [1], by decide +kernel⟩,
    ⟨st [(Reg.RAIL2_KEEPER_STATUS, 1)], by decide +kernel⟩,
    ⟨on, .host, by decide +kernel⟩,
    ⟨st [(Reg.MAINT_BOOT_STATUS, 0x104)], .host, by decide +kernel⟩⟩

/-- States and operands that meet the hypotheses of `Obligations.ThermalAndPowerStates`, clause by clause. -/
theorem meets_ThermalAndPowerStates :
    (∃ (s : State) (z : Fin 8), s.on = true ∧ (zoneOf s z).trip < 2) ∧
    (∃ (s : State) (z : Fin 8) (d e : Nat), (zoneOf s z).floor = some (d, e) ∧ e ≤ s.now) ∧
    (∃ (s : State) (req : Requester) (c : Instr) (n : Nat), ((c = .powerCmdActive req ∧ n = 0) ∨ (c = .powerCmdReduced req ∧ n = 1)) ∧
      cfgGate s req Reg.THERM_POWER_CMD none = .go) ∧
    (∃ (s : State) (req : Requester) (c : Instr) (n : Nat), ((c = .powerCmdActive req ∧ n = 0) ∨ (c = .powerCmdReduced req ∧ n = 1)) ∧
      cfgGate s req Reg.THERM_POWER_CMD none = .go) ∧
    (∃ (s : State) (req : Requester) (c : Instr) (n : Nat), ((c = .powerCmdActive req ∧ n = 0) ∨ (c = .powerCmdReduced req ∧ n = 1)) ∧
      cfgGate s req Reg.THERM_POWER_CMD none = .go) ∧
    (∃ (s : State) (req : Requester) (c : Instr) (n : Nat), ((c = .powerCmdActive req ∧ n = 0) ∨ (c = .powerCmdReduced req ∧ n = 1)) ∧
      cfgGate s req Reg.THERM_POWER_CMD none = .go) ∧
    (∃ (s : State) (req : Requester), cfgGate s req Reg.THERM_POWER_CMD none = .go ∧ s.transition = 0 ∧ s.powerState = 2) ∧
    (∃ (s : State) (req : Requester), cfgGate s req Reg.THERM_POWER_CMD none = .go ∧ s.transition = 0 ∧ s.powerState ≠ 2) ∧
    (∃ (s : State), s.transition = 1 ∧ fieldsEnded s = false) ∧
    (∃ (s : State), s.on = true ∧ s.transition = 1 ∧ fieldsEnded s = true) ∧
    (∃ (s : State) (g : Fin 8) (up : Bool), s.on = true ∧ s.b Reg.THERM_WAKE_CTRL g = true ∧ up ≠ s.b Reg.THERM_WAKE_CTRL 8 ∧
      s.b Reg.TIME_AUX_CTRL g = false) ∧
    (∃ (s : State) (g : Fin 8) (up : Bool), s.on = true ∧ s.b Reg.THERM_WAKE_CTRL g = true ∧ up ≠ s.b Reg.THERM_WAKE_CTRL 8 ∧
      s.b Reg.TIME_AUX_CTRL g = false) ∧
    (∃ (s : State), s.transition = 2 ∧ s.powerState = 2 ∧ wakeBar s = none) :=
  ⟨⟨on, 0, by decide +kernel⟩,
    ⟨{ on with therm := { on.therm with zones := [(7, { ZoneSt.fresh with floor := some (500, 4999999999) })] } }, 7, 500, 4999999999, by decide +kernel⟩,
    ⟨on, .host, .powerCmdReduced .host, 1, by decide +kernel⟩,
    ⟨st [(Reg.THERM_POWER_STATUS, 1)], .mgmt, .powerCmdActive .mgmt, 0, by decide +kernel⟩,
    ⟨st [(Reg.THERM_POWER_STATUS, 2)], .host, .powerCmdActive .host, 0, by decide +kernel⟩,
    ⟨st [(Reg.THERM_POWER_STATUS, 0x10)], .host, .powerCmdActive .host, 0, by decide +kernel⟩,
    ⟨st [(Reg.THERM_POWER_STATUS, 2)], .host, by decide +kernel⟩,
    ⟨on, .host, by decide +kernel⟩,
    ⟨{ st [(Reg.THERM_POWER_STATUS, 0x10)] with heads := [(0, running)] }, by decide +kernel⟩,
    ⟨st [(Reg.THERM_POWER_STATUS, 0x10)], by decide +kernel⟩,
    ⟨st [(Reg.THERM_POWER_STATUS, 2), (Reg.THERM_WAKE_CTRL, 1)], 0, true, by decide +kernel⟩,
    ⟨st [(Reg.THERM_POWER_STATUS, 0x10), (Reg.THERM_WAKE_CTRL, 0x180)], 7, false, by decide +kernel⟩,
    ⟨st [(Reg.THERM_POWER_STATUS, 0x22)], by decide +kernel⟩⟩

/-- States and operands that meet the hypotheses of `Obligations.LanesTrain`, clause by clause. -/
theorem meets_LanesTrain :
    (∃ (s : State) (h : Fin 4) (n : Fin 13), (laneState s h n = 0 ∨ laneState s h n = 6) ∧ laneTrains s h n = true ∧ mgmtPaused s = false) ∧
    (∃ (s : State) (h : Fin 4) (n : Fin 13), (laneState s h n = 0 ∨ laneState s h n = 6) ∧ laneTrains s h n = true ∧ mgmtPaused s = false) ∧
    (∃ (s : State) (h : Fin 4) (n : Fin 13), s.on = true ∧ 1 ≤ laneState s h n ∧ laneState s h n ≤ 4 ∧
      (laneOf s h n).at_ + 2000000 ≤ s.now) ∧
    (∃ (s : State) (h : Fin 4) (n : Fin 13) (f : Nat), (laneOf s h n).firstLock = some f ∧ laneState s h n = 1 ∧ f + 200000 ≤ s.now) ∧
    (∃ (s : State) (h : Fin 4) (n : Fin 13), laneState s h n = 4 ∧ (laneOf s h n).trying < 8 ∧ (laneOf s h n).settled = false ∧
      laneRole s h n ≠ 2) ∧
    (∃ (s : State) (h : Fin 4) (n : Fin 13) (u : Nat), (laneOf s h n).resume = some u ∧ u + 2000000 ≤ s.now) ∧
    (∃ (s : State) (h : Fin 4) (n : Fin 13) (l : List Block), laneHears s h n = true ∧ (laneOf s h n).lock = false ∧
      (laneOf s h n).good < 64 ∧ l.length + (laneOf s h n).good = 64 ∧ l.all headerOk = true) ∧
    (∃ (s : State) (h : Fin 4) (n : Fin 13) (b : Block), laneHears s h n = true ∧ (laneOf s h n).lock = true ∧ headerOk b = false) ∧
    (∃ (s : State) (h : Fin 4) (n : Fin 13) (b : Block), laneHears s h n = true ∧ (laneOf s h n).lock = true ∧ headerOk b = false) :=
  ⟨⟨lane0 1 1 0 LaneSt.fresh LinkSt.fresh [], 0, 0, by decide +kernel⟩,
    ⟨lane0 1 1 6 LaneSt.fresh LinkSt.fresh [], 0, 0, by decide +kernel⟩,
    ⟨lane0 1 1 4 LaneSt.fresh LinkSt.fresh [], 0, 0, by decide +kernel⟩,
    ⟨lane0 1 1 1 { LaneSt.fresh with firstLock := some 4999800000 } LinkSt.fresh [], 0, 0, 4999800000, by decide +kernel⟩,
    ⟨lane0 1 1 4 LaneSt.fresh LinkSt.fresh [], 0, 0, by decide +kernel⟩,
    ⟨lane0 1 1 5 { LaneSt.fresh with resume := some 4998000000 } LinkSt.fresh [], 0, 0, 4998000000, by decide +kernel⟩,
    ⟨lane0 2 2 1 { LaneSt.fresh with good := 63 } LinkSt.fresh [], 0, 0, [idleBlock], by decide +kernel⟩,
    ⟨lane0 2 2 1 { LaneSt.fresh with lock := true } LinkSt.fresh [], 0, 0, ⟨0, []⟩, by decide +kernel⟩,
    ⟨lane0 2 2 5 { LaneSt.fresh with lock := true, win := List.replicate 15 true } LinkSt.fresh [], 0, 0, ⟨3, []⟩, by decide +kernel⟩⟩

/-- States and operands that meet the hypotheses of `Obligations.TrainingStagesEnd`, clause by clause. -/
theorem meets_TrainingStagesEnd :
    (∃ (s : State) (h : Fin 4) (n : Fin 13), s.on = true ∧ laneRole s h n = 2 ∧ (laneOf s h n).lock = true ∧ 1 ≤ laneState s h n ∧
      laneState s h n < 4 ∧ laneState s h n < farStage s h n) ∧
    (∃ (s : State) (h : Fin 4) (n : Fin 13), s.on = true ∧ laneRole s h n ≠ 2 ∧ laneState s h n = 1 ∧ oriented s h = true ∧
      (∀ p ∈ posPorts n, portLock s h p = true) ∧ (∀ p ∈ posPorts n, portId s h p = physLane s h n)) ∧
    (∃ (s : State) (h : Fin 4) (n : Fin 13), s.on = true ∧ laneRole s h n ≠ 2 ∧ laneState s h n = 1 ∧ oriented s h = true ∧
      (∀ p ∈ posPorts n, portLock s h p = true) ∧ (∃ p ∈ posPorts n, portId s h p ≠ physLane s h n)) ∧
    (∃ (s : State) (h : Fin 4) (n : Fin 13), s.on = true ∧ laneRole s h n ≠ 2 ∧ laneState s h n = 2 ∧
      (∀ p ∈ presentPorts s h n, portDescr s h p = true)) ∧
    (∃ (s : State) (h : Fin 4) (n : Fin 13), s.on = true ∧ laneRole s h n ≠ 2 ∧ laneState s h n = 2 ∧
      (∀ p ∈ presentPorts s h n, portDescr s h p = true)) ∧
    (∃ (s : State) (h : Fin 4) (n : Fin 13), s.on = true ∧ laneRole s h n ≠ 2 ∧ laneState s h n = 3 ∧
      (∀ p ∈ presentPorts s h n, p.1 ∈ (linkOf s h).capsRead)) ∧
    (∃ (s : State) (h : Fin 4) (n : Fin 13), s.on = true ∧ laneRole s h n ≠ 2 ∧ laneState s h n = 3 ∧
      (∀ p ∈ presentPorts s h n, p.1 ∈ (linkOf s h).capsRead)) ∧
    (∃ (s : State) (h : Fin 4) (n : Fin 13), s.on = true ∧ laneRole s h n ≠ 2 ∧ laneState s h n = 4 ∧ (laneOf s h n).trying = 8 ∧
      (∀ p ∈ presentPorts s h n, portLock s h p = true)) :=
  ⟨⟨lane0 2 2 1 { LaneSt.fresh with lock := true } (reported [3]) [], 0, 0, by decide +kernel⟩,
    ⟨lane0 1 1 1 portA (reported [1, 0]) [(Reg.ZL_SPARE_STATUS 0, 0x4C)], 0, 0, by decide +kernel⟩,
    ⟨lane0 1 1 1 portA (reported [1, 5]) [(Reg.ZL_SPARE_STATUS 0, 0x4C)], 0, 0, by decide +kernel⟩,
    ⟨lane0 1 1 2 portA (reported [0x10]) [], 0, 0, by decide +kernel⟩,
    ⟨lane0 1 1 2 portA (reported [0x10, 0, 0, 0, 1, 3]) [], 0, 0, by decide +kernel⟩,
    ⟨lane0 1 1 3 portA { LinkSt.fresh with capsRead := [0] } [], 0, 0, by decide +kernel⟩,
    ⟨lane0 1 1 3 portA { LinkSt.fresh with capsRead := [0] } [(Reg.SB_CAPS_RESULT 0 0, 2)], 0, 0, by decide +kernel⟩,
    ⟨lane0 1 1 4 { portA with trying := 8 } (reported [1, 0]) [], 0, 0, by decide +kernel⟩⟩

/-- States and operands that meet the hypotheses of `Obligations.ShiftSparing`, clause by clause. -/
theorem meets_ShiftSparing :
    (∃ (s : State) (h : Fin 4) (n : Fin 13), (carried s h n).isSome = true ∧ laneRole s h n ≠ 2 ∧ reversed s h = false) ∧
    (∃ (s : State) (h : Fin 4) (f : Fin 13) (g reason u : Nat), s.on = true ∧ lineDue s h = true ∧
      (linkOf s h).fails = [(f.val, reason, u)] ∧ (u : Int) + 2000 ≤ lineStart s h (nextLine s h) ∧ (linkOf s h).restore = [] ∧
      laneGroup s h f = some g ∧ groupLost s h g = false ∧ laneUp s h f = false) ∧
    (∃ (s : State) (h : Fin 4) (n : Fin 13) (g : Nat), s.on = true ∧ lineDue s h = true ∧ (linkOf s h).fails = [] ∧
      (linkOf s h).restore = [n.val] ∧ laneUp s h n = true ∧ laneGroup s h n = some g ∧ groupLost s h g = true) ∧
    (∃ (s : State) (h : Fin 4) (u : Nat), s.on = true ∧ (linkOf s h).gapBad = some u ∧ u + 1000000000 ≤ s.now ∧ headState s h = 3 ∧
      (linkOf s h).gapTold = false) :=
  ⟨⟨lane0 1 1 5 LaneSt.fresh LinkSt.fresh [], 0, 0, by decide +kernel⟩,
    ⟨{ lane0 1 1 0 LaneSt.fresh { LinkSt.fresh with fails := [(0, 8, 4000000000)] } [] with heads := [(0, running)] }, 0, 0, 0, 8, 4000000000, by decide +kernel⟩,
    ⟨{ lane0 1 1 5 LaneSt.fresh { LinkSt.fresh with restore := [0] } [(Reg.ZL_SPARE_STATUS 0, 0x1000C)] with heads := [(0, running)] }, 0, 0, 0, by decide +kernel⟩,
    ⟨{ headSt running [] with links := [(0, { LinkSt.fresh with gapBad := some 3000000000 })] }, 0, 3000000000, by decide +kernel⟩⟩

/-- States and operands that meet the hypotheses of `Obligations.LaneCommandsAndPrbs`, clause by clause. -/
theorem meets_LaneCommandsAndPrbs :
    (∃ (s : State) (req : Requester) (h : Fin 4) (n : Fin 13) (e : BitVec 16), cfgGate s req (Reg.ZL_LANE_CMD h) none = .go ∧
      e.toNat = s.f (Reg.ZL_LANE_ROLE h n) 16 16) ∧
    (∃ (s : State) (req : Requester) (h : Fin 4) (n : Fin 13) (e : BitVec 16), cfgGate s req (Reg.ZL_LANE_CMD h) none = .go ∧
      e.toNat = s.f (Reg.ZL_LANE_ROLE h n) 16 16) ∧
    (∃ (s : State) (req : Requester) (h : Fin 4) (n : Fin 13) (e : BitVec 16) (c : Instr), cfgGate s req (Reg.ZL_LANE_CMD h) none = .go ∧
      e.toNat ≠ s.f (Reg.ZL_LANE_ROLE h n) 16 16 ∧
      c ∈ [Instr.retrain req h n e, .moveGap req h n e, .prbsClear req h n e, .prbsInject req h n e]) ∧
    (∃ (s : State) (req : Requester) (h : Fin 4) (n : Fin 13), cfgGate s req (Reg.ZL_PRBS_CTRL h n) none = .go) ∧
    (∃ (s : State) (req : Requester) (h : Fin 4) (n : Fin 13), cfgGate s req (Reg.ZL_PRBS_CTRL h n) none = .go) ∧
    (∃ (s : State) (h : Fin 4) (n : Fin 13) (k : Nat), prbsChecks s h n = true ∧ s.b (Reg.ZL_PRBS_STATUS h n) 0 = false ∧
      (let c := (laneOf s h n).chk; let poly := s.f (Reg.ZL_PRBS_CTRL h n) 0 2; (prbsPoly poly).1 ≤ c.loaded) ∧ 0 < k ∧
      (let c := (laneOf s h n).chk; c.good + k ≤ 64)) ∧
    (∃ (s : State) (h : Fin 4) (n : Fin 13) (k : Nat), prbsChecks s h n = true ∧ s.b (Reg.ZL_PRBS_STATUS h n) 0 = false ∧
      (let c := (laneOf s h n).chk; let poly := s.f (Reg.ZL_PRBS_CTRL h n) 0 2; (prbsPoly poly).1 ≤ c.loaded) ∧ 0 < k ∧
      (let c := (laneOf s h n).chk; c.good + k ≤ 64)) ∧
    (∃ (s : State) (h : Fin 4) (n : Fin 13), s.on = true ∧ prbsChecks s h n = true ∧ s.b (Reg.ZL_PRBS_STATUS h n) 0 = true ∧
      (let c := (laneOf s h n).chk; let poly := s.f (Reg.ZL_PRBS_CTRL h n) 0 2; (prbsPoly poly).1 ≤ c.loaded)) ∧
    (∃ (s : State) (h : Fin 4) (n : Fin 13), s.on = true ∧ prbsChecks s h n = true ∧ s.b (Reg.ZL_PRBS_STATUS h n) 0 = true ∧
      (let c := (laneOf s h n).chk; let poly := s.f (Reg.ZL_PRBS_CTRL h n) 0 2; (prbsPoly poly).1 ≤ c.loaded)) ∧
    (∃ (s : State) (req : Requester) (h : Fin 4), cfgGate s req (Reg.PAGE_CTRL (zlBase h)) none = .go) ∧
    (∃ (s : State) (req : Requester) (h : Fin 4), cfgGate s req (Reg.PAGE_CTRL (zlBase h)) none = .go) :=
  ⟨⟨lane0 1 1 5 LaneSt.fresh LinkSt.fresh [], .host, 0, 0, 0, by decide +kernel⟩,
    ⟨on, .host, 3, 12, 0, by decide +kernel⟩,
    ⟨on, .host, 0, 0, 1, .retrain .host 0 0 1, by decide +kernel⟩,
    ⟨on, .host, 0, 12, by decide +kernel⟩,
    ⟨headSt running [], .host, 0, 0, by decide +kernel⟩,
    ⟨lane0 2 2 5 { LaneSt.fresh with chk := ⟨127, 7, 0, []⟩ } LinkSt.fresh [(Reg.ZL_PRBS_CTRL 0 0, 0x20)], 0, 0, 63, by decide +kernel⟩,
    ⟨lane0 2 2 5 { LaneSt.fresh with chk := ⟨127, 7, 63, []⟩ } LinkSt.fresh [(Reg.ZL_PRBS_CTRL 0 0, 0x20)], 0, 0, 1, by decide +kernel⟩,
    ⟨lane0 2 2 5 { LaneSt.fresh with chk := ⟨127, 7, 64, []⟩ } LinkSt.fresh [(Reg.ZL_PRBS_CTRL 0 0, 0x20), (Reg.ZL_PRBS_STATUS 0 0, 1)], 0, 0, by decide +kernel⟩,
    ⟨lane0 2 2 5 { LaneSt.fresh with chk := ⟨127, 7, 64, List.replicate 63 true⟩ } LinkSt.fresh [(Reg.ZL_PRBS_CTRL 0 0, 0x20), (Reg.ZL_PRBS_STATUS 0 0, 1)], 0, 0, by decide +kernel⟩,
    ⟨lane0 1 1 5 LaneSt.fresh LinkSt.fresh [], .host, 0, by decide +kernel⟩,
    ⟨headSt running [(Reg.PAGE_CTRL 0x4C000, 1)], .host, 0, by decide +kernel⟩⟩

/-- States and operands that meet the hypotheses of `Obligations.SidebandMaster`, clause by clause. -/
theorem meets_SidebandMaster :
    (∃ (s : State) (h : Fin 4), sbMaster s h = true ∧ (linkOf s h).req = none ∧ mgmtPaused s = false ∧ sbPolls s h = true) ∧
    (∃ (s : State) (h : Fin 4) (g : Fin 12), sbMaster s h = true ∧ (linkOf s h).req = none ∧ mgmtPaused s = false ∧
      (laneState s h g = 3 ∨ laneState s h (g + 1) = 3)) ∧
    (∃ (s : State) (h : Fin 4) (g : Fin 12) (b : List Byte), sbMaster s h = true ∧ answers s h (groupAddr g) 0x81 = true ∧ b.length = 16) ∧
    (∃ (s : State) (h : Fin 4) (g : Fin 12) (b : List Byte), sbMaster s h = true ∧ answers s h (groupAddr g) 0x82 = true ∧ b.length = 32) ∧
    (∃ (s : State) (h : Fin 4) (q : SbReq), s.on = true ∧ (linkOf s h).req = some q ∧ q.at_ + s.f (Reg.SB_SB_CFG h) 8 8 * 1000 ≤ s.now) ∧
    (∃ (s : State) (h : Fin 4) (q : SbReq), s.on = true ∧ (linkOf s h).req = some q ∧ q.at_ + s.f (Reg.SB_SB_CFG h) 8 8 * 1000 ≤ s.now) ∧
    (∃ (s : State), s.on = true) ∧
    (∃ (s : State) (body : List Byte), s.on = true ∧ sbPayload body = none) :=
  ⟨⟨lane0 1 1 3 LaneSt.fresh LinkSt.fresh [], 0, by decide +kernel⟩,
    ⟨lane0 1 1 3 LaneSt.fresh LinkSt.fresh [], 0, 0, by decide +kernel⟩,
    ⟨lane0 1 1 3 LaneSt.fresh (asked 1) [], 0, 0, List.replicate 16 0, by decide +kernel⟩,
    ⟨lane0 1 1 3 LaneSt.fresh (asked 2) [], 0, 0, List.replicate 32 0, by decide +kernel⟩,
    ⟨lane0 1 1 3 LaneSt.fresh (asked 2) [], 0, ⟨0x10, 2, [], none, false, 4000000000⟩, by decide +kernel⟩,
    ⟨{ on with links := [(0, { LinkSt.fresh with req := some ⟨0x10, 1, [], none, true, 4000000000⟩ })] }, 0, ⟨0x10, 1, [], none, true, 4000000000⟩, by decide +kernel⟩,
    ⟨on, by decide +kernel⟩,
    ⟨on, [], by decide +kernel⟩⟩

/-- States and operands that meet the hypotheses of `Obligations.SidebandReplies`, clause by clause. -/
theorem meets_SidebandReplies :
    (∃ (s : State) (h : Fin 4) (b : List Byte), sbSlave s h = true ∧ b.length ≤ 48) ∧
    (∃ (s : State) (h : Fin 4) (g : Fin 12) (b : List Byte), sbMaster s h = true ∧ b.length ≤ 48 ∧ answers s h (groupAddr g) 0x81 = true) ∧
    (∃ (s : State) (h : Fin 4) (g : Fin 12) (b : List Byte), sbMaster s h = true ∧ b.length ≤ 48 ∧ answers s h (groupAddr g) 0x82 = true) ∧
    (∃ (s : State) (h : Fin 4) (src typ : Byte) (b : List Byte), s.on = true ∧ sbSlave s h = false ∧ answers s h src typ = false ∧
      b.length ≤ 48) ∧
    (∃ (s : State) (h : Fin 4), sbSlave s h = true) ∧
    (∃ (s : State) (h : Fin 4), sbSlave s h = true) ∧
    (∃ (s : State) (h : Fin 4), sbSlave s h = true) :=
  ⟨⟨lane0 2 2 5 LaneSt.fresh LinkSt.fresh [], 0, [], by decide +kernel⟩,
    ⟨lane0 1 1 3 LaneSt.fresh (asked 1) [], 0, 0, List.replicate 16 0, by decide +kernel⟩,
    ⟨lane0 1 1 3 LaneSt.fresh (asked 2) [], 0, 0, List.replicate 32 0, by decide +kernel⟩,
    ⟨on, 0, 0x10, 0x81, [], by decide +kernel⟩,
    ⟨lane0 2 2 5 LaneSt.fresh LinkSt.fresh [], 0, by decide +kernel⟩,
    ⟨lane0 2 2 5 LaneSt.fresh LinkSt.fresh [], 0, by decide +kernel⟩,
    ⟨lane0 2 2 5 LaneSt.fresh LinkSt.fresh [], 0, by decide +kernel⟩⟩

/-- States and operands that meet the hypotheses of `Obligations.PanelSequences`, clause by clause. -/
theorem meets_PanelSequences :
    (∃ (s : State) (req : Requester), railOpen s req 0x82000 Reg.RAIL2_PANEL_CMD) ∧
    (∃ (s : State) (req : Requester), railOpen s req 0x82000 Reg.RAIL2_PANEL_CMD) ∧
    (∃ (s : State), s.on = true ∧ kState s = 2) ∧
    (∃ (s : State), s.on = true ∧ kState s = 2) ∧
    (∃ (s : State) (i : Nat), s.on = true ∧ kState s = 3 ∧ s.keeper.last = i ∧ s.keeper.turn = none ∧ i < 15 ∧ s.maint.present = [] ∧
      s.maint.presentOptic = false ∧ (stepAction s i = 1 → noPhase s (stepArg s i) = false) ∧ stepAction s (i + 1) = 0) ∧
    (∃ (s : State) (i : Nat), s.on = true ∧ kState s = 3 ∧ s.keeper.last = i ∧ s.keeper.turn = none ∧ i < 15 ∧ s.maint.present = [] ∧
      s.maint.presentOptic = false ∧ (stepAction s i = 1 → noPhase s (stepArg s i) = false) ∧ stepAction s (i + 1) = 1 ∧
      stepDir s (i + 1) ≠ 2 ∧ stepArg s (i + 1) < 13 ∧ railLatched s (stepArg s (i + 1)) = false ∧ stepArg s i < 13) ∧
    (∃ (s : State) (c : Nat), s.on = true ∧ kState s = 5 ∧ s.keeper.last = 0 ∧ s.keeper.cause = some c ∧ s.maint.present = [] ∧
      s.maint.presentOptic = false) ∧
    (∃ (s : State), s.on = true ∧ kState s = 3 ∧ stepAction s s.keeper.last = 1 ∧ s.keeper.turn = none) :=
  ⟨⟨keeper 1 [], .host, by unfold railOpen; decide +kernel⟩,
    ⟨keeper 4 [], .mgmt, by unfold railOpen; decide +kernel⟩,
    ⟨keeper 2 [], by decide +kernel⟩,
    ⟨keeper 2 [], by decide +kernel⟩,
    ⟨keeper 3 [], 0, by decide +kernel⟩,
    ⟨keeper 3 [(Reg.RAIL2_SEQ_A 1, 0x21)], 0, by decide +kernel⟩,
    ⟨{ keeper 5 [] with keeper := { on.keeper with cause := some 0 } }, 0, by decide +kernel⟩,
    ⟨{ keeper 3 [(Reg.RAIL2_SEQ_A 3, 0x21)] with keeper := { on.keeper with last := 3 } }, by decide +kernel⟩⟩

/-- States and operands that meet the hypotheses of `Obligations.RailProtectionAndLimits`, clause by clause. -/
theorem meets_RailProtectionAndLimits :
    (∃ (s : State) (r : Fin 13) (above : Bool), s.on = true ∧ kOn s = true ∧ railRuns s r = true ∧ (above = false ∨ regulating s r = true)) ∧
    (∃ (s : State) (r : Fin 13) (above : Bool), s.on = true ∧ kOn s = true ∧ railRuns s r = true ∧ (above = false ∨ regulating s r = true)) ∧
    (∃ (s : State) (r : Fin 13), s.on = true ∧ railState s r = 4 ∧ attempts s r < 5) ∧
    (∃ (s : State) (r : Fin 13), s.on = true ∧ railState s r = 4 ∧ attempts s r < 5) ∧
    (∃ (s : State) (r : Fin 13), regulating s r = true) ∧
    (∃ (s : State) (r : Fin 13), s.on = true ∧ regulating s r = true ∧ s.b (Reg.RAIL0_RAIL_STATUS r) 7 = false) ∧
    (∃ (s : State) (r : Fin 13), s.on = true ∧ kOn s = true ∧ phasesFailed s r < railPhases r) ∧
    (∃ (s : State), s.on = true ∧ kOn s = true) ∧
    (∃ (s : State), s.on = true ∧ kOn s = true) ∧
    (∃ (s : State), s.on = true ∧ kOn s = true) ∧
    (∃ (s : State), s.on = true ∧ kOn s = true) ∧
    (∃ (s : State), s.on = true ∧ kOn s = true) ∧
    (∃ (s : State), s.on = true ∧ kOn s = true) ∧
    (∃ (s : State), kOn s = true) ∧
    (∃ (s : State), chanUp s = true) :=
  ⟨⟨keeper 4 [(Reg.RAIL0_RAIL_STATUS 12, 2)], 12, true, by decide +kernel⟩,
    ⟨keeper 3 [(Reg.RAIL0_RAIL_STATUS 0, 1)], 0, false, by decide +kernel⟩,
    ⟨keeper 4 [(Reg.RAIL0_RAIL_STATUS 5, 0x44)], 5, by decide +kernel⟩,
    ⟨keeper 4 [(Reg.RAIL0_RAIL_STATUS 5, 0x44)], 5, by decide +kernel⟩,
    ⟨keeper 4 [(Reg.RAIL0_RAIL_STATUS 5, 0x33)], 5, by decide +kernel⟩,
    ⟨keeper 4 [(Reg.RAIL0_RAIL_STATUS 5, 2)], 5, by decide +kernel⟩,
    ⟨keeper 4 [(Reg.RAIL0_RAIL_STATUS 2, 0x602)], 2, by decide +kernel⟩,
    ⟨keeper 4 [], by decide +kernel⟩,
    ⟨keeper 4 [(Reg.RAIL0_RAIL_STATUS 2, 2)], by decide +kernel⟩,
    ⟨{ keeper 4 [(Reg.RAIL0_RAIL_STATUS 2, 0x1003)] with keeper := { on.keeper with limiting := true } }, by decide +kernel⟩,
    ⟨{ keeper 4 [] with keeper := { on.keeper with limiting := true } }, by decide +kernel⟩,
    ⟨keeper 4 [], by decide +kernel⟩,
    ⟨keeper 4 [], by decide +kernel⟩,
    ⟨keeper 4 [], by decide +kernel⟩,
    ⟨keeper 4 [], by decide +kernel⟩⟩

/-- States and operands that meet the hypotheses of `Obligations.RailWritesAndCrackLoops`, clause by clause. -/
theorem meets_RailWritesAndCrackLoops :
    (∃ (s : State) (req : Requester) (a : Nat), railReg a = true ∧ railOpen s req (a / 0x1000 * 0x1000) a) ∧
    (∃ (s : State) (req : Requester) (a : Nat), railReg a = true ∧ railOpen s req (a / 0x1000 * 0x1000) a) ∧
    (∃ (s : State) (req : Requester), railOpen s req 0x80000 Reg.RAIL0_FAULT_CLEAR) ∧
    (∃ (s : State) (req : Requester), railOpen s req 0x80000 Reg.RAIL0_FAULT_CLEAR) ∧
    (∃ (s : State) (h : Fin 4) (o : Fin 17), s.on = true ∧ h.val ∈ s.keeper.gateRun ∧ s.b (Reg.RAIL1_GATE_STATUS h) o = false) ∧
    (∃ (s : State), s.on = true ∧ kOn s = true ∧ s.f Reg.MAINT_PROFILE_STATUS 4 4 ≠ 3) ∧
    (∃ (s : State), s.on = true ∧ kOn s = true ∧ s.f Reg.MAINT_PROFILE_STATUS 4 4 ≠ 3) ∧
    (∃ (s : State) (req : Requester), railOpen s req 0x81000 Reg.RAIL1_CRACK_ACK) ∧
    (∃ (s : State), s.on = true) :=
  ⟨⟨keeper 1 [], .host, Reg.RAIL0_TARGET 4, by unfold railOpen; decide +kernel⟩,
    ⟨keeper 1 [], .mgmt, Reg.RAIL1_GST_CFG 3, by unfold railOpen; decide +kernel⟩,
    ⟨keeper 4 [], .host, by unfold railOpen; decide +kernel⟩,
    ⟨keeper 1 [(Reg.RAIL0_RAIL_STATUS 0, 5)], .host, by unfold railOpen; decide +kernel⟩,
    ⟨{ keeper 4 [] with keeper := { on.keeper with gateRun := [0] } }, 0, 16, by decide +kernel⟩,
    ⟨keeper 4 [], by decide +kernel⟩,
    ⟨{ keeper 4 [(Reg.RAIL1_CRACK_PROFILE 0, 0x10064), (Reg.RAIL1_CRACK_PROFILE 1, 0x20064), (Reg.RAIL1_CRACK_PROFILE 5, 0x3000A)] with keeper := { on.keeper with gateRun := [0], crackRun := [(0, 2), (1, 2), (5, 2)] } }, by decide +kernel⟩,
    ⟨{ keeper 4 [(Reg.RAIL1_CRACK_STATUS, 0x2100)] with keeper := { on.keeper with crackOk := [(5, 3)] } }, .host, by unfold railOpen; decide +kernel⟩,
    ⟨keeper 4 [], by decide +kernel⟩⟩

/-- States and operands that meet the hypotheses of `Obligations.InputLossAndKeeperStart`, clause by clause. -/
theorem meets_InputLossAndKeeperStart :
    (∃ (s : State), s.on = true ∧ kState s ≠ 0 ∧ kState s ≠ 6) ∧
    (∃ (s : State), s.on = true ∧ kState s ≠ 0 ∧ kState s ≠ 6) ∧
    (∃ (s : State), kState s ≠ 0 ∧ kState s ≠ 6) ∧
    (∃ (s : State), kState s ≠ 0 ∧ kState s ≠ 6) ∧
    (∃ (s : State), kState s = 6) ∧
    (∃ (s : State), kState s = 0) ∧
    (∃ (s : State), kState s = 0) :=
  ⟨⟨keeper 4 [], by decide +kernel⟩,
    ⟨keeper 4 [], by decide +kernel⟩,
    ⟨keeper 4 [], by decide +kernel⟩,
    ⟨keeper 1 [], by decide +kernel⟩,
    ⟨keeper 6 [(Reg.RAIL0_RAIL_STATUS 3, 5)], by decide +kernel⟩,
    ⟨on, by decide +kernel⟩,
    ⟨st [(Reg.RAIL0_RAIL_STATUS 3, 5)], by decide +kernel⟩⟩

/-- States and operands that meet the hypotheses of `Obligations.BatchCommands`, clause by clause. -/
theorem meets_BatchCommands :
    (∃ (s : State) (req : Requester), cfgGate s req Reg.OPT_BATCH_CMD none = .go) ∧
    (∃ (s : State) (req : Requester), cfgGate s req Reg.OPT_BATCH_CMD none = .go) ∧
    (∃ (s : State) (req : Requester), cfgGate s req Reg.OPT_BATCH_CMD none = .go) ∧
    (∃ (s : State) (req : Requester), cfgGate s req Reg.OPT_BATCH_CMD none = .go) ∧
    (∃ (s : State) (req : Requester), cfgGate s req Reg.OPT_BATCH_CMD none = .go) ∧
    (∃ (s : State) (req : Requester), cfgGate s req Reg.OPT_BATCH_CMD none = .go) ∧
    (∃ (s : State) (req : Requester), cfgGate s req Reg.OPT_BATCH_CMD none = .go) :=
  ⟨⟨optic, .host, by decide +kernel⟩,
    ⟨on, .host, by decide +kernel⟩,
    ⟨{ optic with opt := { optic.opt with staged := some (7, [row5]) } }, .host, by decide +kernel⟩,
    ⟨on, .host, by decide +kernel⟩,
    ⟨{ optic with opt := { optic.opt with staged := some (7, [row5]) } }, .host, by decide +kernel⟩,
    ⟨driving 0, .host, by decide +kernel⟩,
    ⟨on, .host, by decide +kernel⟩⟩

/-- States and operands that meet the hypotheses of `Obligations.RowsTokensAndCuts`, clause by clause. -/
theorem meets_RowsTokensAndCuts :
    (∃ (s : State) (x : Batch) (j : RowJob) (rest : List RowJob), s.opt.run = some x ∧ x.rows = j :: rest ∧ phasesOver s x = false ∧
      optCols s ≤ 320) ∧
    (∃ (s : State) (x : Batch) (j : RowJob) (rest : List RowJob), s.on = true ∧ s.opt.run = some x ∧ x.rows = j :: rest ∧
      phasesOver s x = true) ∧
    (∃ (s : State), kState s ≠ 0 ∧ kState s ≠ 6 ∧ s.b Reg.RAIL2_KEEPER_STATUS 5 = false ∧ tabWf (fun _ => 0) s.opt.spent = true) ∧
    (∃ (s : State), s.on = true ∧ enabled s optBase = true ∧ s.b Reg.OPT_OPT_CFG 0 = true ∧ s.opt.run = none ∧ s.opt.staged = none ∧
      opticReady s = true ∧ (redriveRows s ≠ [] ∨ autoSet s ≠ [])) ∧
    (∃ (s : State) (x : Batch) (j : RowJob) (rest : List RowJob), s.on = true ∧ s.opt.run = some x ∧ x.rows = j :: rest) ∧
    (∃ (s : State) (req : Requester), cfgGate s req (Reg.PAGE_CTRL optBase) none = .go) ∧
    (∃ (s : State) (req : Requester), cfgGate s req (Reg.PAGE_CTRL optBase) none = .go) ∧
    (∃ (s : State) (req : Requester), cfgGate s req (Reg.PAGE_CTRL optBase) none = .go) :=
  ⟨⟨driving 0, batch0 0, row5, [], by decide +kernel⟩,
    ⟨driving 2, batch0 2, row5, [], by decide +kernel⟩,
    ⟨{ keeper 4 [] with opt := { on.opt with spent := [(5, 100)] } }, by decide +kernel⟩,
    ⟨optic, by decide +kernel⟩,
    ⟨driving 1, batch0 1, row5, [], by decide +kernel⟩,
    ⟨optic, .host, by decide +kernel⟩,
    ⟨on, .host, by decide +kernel⟩,
    ⟨keeper 4 [], .host, by decide +kernel⟩⟩

/-- States and operands that meet the hypotheses of `Obligations.MemoryTraining`, clause by clause. -/
theorem meets_MemoryTraining :
    (∃ (s : State), s.on = true ∧ s.power.fastClk = true ∧ memReady s = false ∧ 1 ≤ s.stage ∧ s.stage ≤ 2) ∧
    (∃ (s : State), s.on = true ∧ s.power.fastClk = true) ∧
    (∃ (s : State), s.on = true ∧ s.power.fastClk = true) ∧
    (∃ (s : State), s.on = true ∧ s.power.fastClk = true) ∧
    (∃ (s : State) (req : Requester), cfgGate s req Reg.MEM4_SYSTEM_TOP_LO none = .go) ∧
    (∃ (s : State) (req : Requester), cfgGate s req Reg.MEM4_SYSTEM_TOP_LO none = .go) ∧
    (∃ (s : State) (req : Requester), cfgGate s req Reg.MEM4_SYSTEM_TOP_LO none = .go) :=
  ⟨⟨st [(Reg.MEM0_MEM_STATUS, 0), (Reg.MAINT_BOOT_STATUS, 2)], by decide +kernel⟩,
    ⟨on, by decide +kernel⟩,
    ⟨on, by decide +kernel⟩,
    ⟨on, by decide +kernel⟩,
    ⟨on, .host, by decide +kernel⟩,
    ⟨st [(Reg.FEAT_FEAT_STATUS, 0)], .host, by decide +kernel⟩,
    ⟨st [(Reg.FEAT_FEAT_STATUS, 0)], .host, by decide +kernel⟩⟩

/-- States and operands that meet the hypotheses of `Obligations.MemoryRequestsAndSleep`, clause by clause. -/
theorem meets_MemoryRequestsAndSleep :
    (∃ (s : State), memReady s = true ∧ s.powerState ≠ 2) ∧
    (∃ (s : State) (pc : Fin 64) (w : MemWait), memReady s = true ∧ s.powerState ≠ 2 ∧ memSleep s = 0 ∧
      memPick (ageIf (holdEval s) fun x => decide (x.pc = pc.val)) pc = some w) ∧
    (∃ (s : State) (w : MemWait), s.on = true ∧ s.mem.queue.filter (fun x => decide (x.seq = w.seq)) = [w] ∧ w.aged = false ∧
      overAge s w = true) ∧
    (∃ (s : State) (u : Nat), s.on = true ∧ s.mem.heldSince = some u ∧ u + 10000000 ≤ s.now ∧
      s.f Reg.MEM0_CEILING 0 7 * (activeRate s * 10000) ≤ movedIn s 10000 * 100000 ∧
      (∀ v, s.mem.ceilTold = some v → v + 1000000000 ≤ s.now)) ∧
    (∃ (s : State), s.mem.mig = none) ∧
    (∃ (s : State), maySleep s 200 = true ∧ s.b Reg.MEM0_SLEEP_CTRL 0 = true ∧ memSleep s = 0) ∧
    (∃ (s : State), maySleep s 1300 = true ∧ s.b Reg.MEM0_SLEEP_CTRL 1 = true ∧ s.mem.exiting = false ∧ memSleep s = 3) ∧
    (∃ (s : State), maySleep s 1300 = true ∧ s.b Reg.MEM0_SLEEP_CTRL 1 = true ∧ s.mem.exiting = false ∧ memSleep s ≠ 2 ∧ memSleep s ≠ 3 ∧
      s.mem.idleSince + 100 * s.f Reg.MEM0_SLEEP_CTRL 8 8 ≤ s.now) ∧
    (∃ (s : State) (req : Bool), s.powerState ≠ 2 ∧ memSleep s ≠ 0 ∧
      (req = true ∨ minTolerance s < (if memSleep s = 1 then 200 else 1300))) ∧
    (∃ (s : State) (req : Bool), s.powerState ≠ 2 ∧ memSleep s ≠ 0 ∧
      (req = true ∨ minTolerance s < (if memSleep s = 1 then 200 else 1300))) ∧
    (∃ (s : State) (req : Bool), s.powerState ≠ 2 ∧ memSleep s ≠ 0 ∧
      (req = true ∨ minTolerance s < (if memSleep s = 1 then 200 else 1300))) ∧
    (∃ (s : State), s.mem.exiting = true ∧ s.powerState ≠ 2) :=
  ⟨⟨on, by decide +kernel⟩,
    ⟨memSt (fun m => { m with queue := [memWait0 4999999999], nextSeq := 1 }) [], 0, memWait0 4999999999, by decide +kernel⟩,
    ⟨memSt (fun m => { m with queue := [memWait0 0] }) [(Reg.MEM0_CLASS_AGE 4, 1000)], memWait0 0, by decide +kernel⟩,
    ⟨memSt (fun m => { m with heldSince := some 4990000000 }) [(Reg.MEM0_CEILING, 0)], 4990000000, by decide +kernel, by decide +kernel, by decide +kernel, by decide +kernel, fun v h => nomatch (show (none : Option Nat) = some v from h)⟩,
    ⟨on, by decide +kernel⟩,
    ⟨st [(Reg.MEM0_SLEEP_CTRL, 1)], by decide +kernel⟩,
    ⟨st [(Reg.MEM0_SLEEP_CTRL, 2), (Reg.MEM0_MEM_STATUS, 7)], by decide +kernel⟩,
    ⟨st [(Reg.MEM0_SLEEP_CTRL, 2)], by decide +kernel⟩,
    ⟨st [(Reg.MEM0_MEM_STATUS, 7)], true, by decide +kernel⟩,
    ⟨st [(Reg.MEM0_MEM_STATUS, 5)], true, by decide +kernel⟩,
    ⟨st [(Reg.MEM0_MEM_STATUS, 3)], true, by decide +kernel⟩,
    ⟨memSt (fun m => { m with exiting := true }) [(Reg.MEM0_MEM_STATUS, 5)], by decide +kernel⟩⟩

/-- States and operands that meet the hypotheses of `Obligations.MemoryFailures`, clause by clause. -/
theorem meets_MemoryFailures :
    (∃ (s : State) (n : Nat), s.on = true ∧ memReady s = true ∧ s.powerState ≠ 2 ∧ 1 ≤ n) ∧
    (∃ (s : State), s.on = true ∧ memReady s = true ∧ s.powerState ≠ 2) ∧
    (∃ (s : State), s.on = true ∧ memReady s = true ∧ s.powerState ≠ 2) ∧
    (∃ (s : State) (p : Fin 64), s.on = true ∧ memReady s = true ∧ s.powerState ≠ 2 ∧ pcServes s p = true ∧ pcState s p ≤ 3 ∧
      (∀ m ∈ s.mem.mig, m.tgt ≠ p.val) ∧ (∀ m ∈ s.mem.due, m.tgt = 64)) ∧
    (∃ (s : State) (p : Fin 64), s.on = true ∧ memReady s = true ∧ s.powerState ≠ 2 ∧ pcServes s p = true ∧ (∀ m ∈ s.mem.due, m.tgt = 64)) ∧
    (∃ (s : State) (p : Fin 64) (a : Nat), s.on = true ∧ memReady s = true ∧ s.powerState ≠ 2 ∧
      ((pcState s p = 1 ∧ a < chanRows * 1024) ∨ (a < usableTop s ∧ (hbmMap s a).1 = p.val ∧ pcServes s p = true))) ∧
    (∃ (s : State) (p : Fin 64) (a : Nat), s.on = true ∧ memReady s = true ∧ s.powerState ≠ 2 ∧
      ((pcState s p = 1 ∧ a < chanRows * 1024) ∨ (a < usableTop s ∧ (hbmMap s a).1 = p.val ∧ pcServes s p = true))) ∧
    (∃ (s : State) (p : Fin 64) (a : Nat), s.on = true ∧ memReady s = true ∧ s.powerState ≠ 2 ∧
      ((pcState s p = 1 ∧ a < chanRows * 1024) ∨ (a < usableTop s ∧ (hbmMap s a).1 = p.val ∧ pcServes s p = true))) ∧
    (∃ (s : State) (p : Fin 64) (a : Nat), s.on = true ∧ memReady s = true ∧ s.powerState ≠ 2 ∧
      ((pcState s p = 1 ∧ a < chanRows * 1024) ∨ (a < usableTop s ∧ (hbmMap s a).1 = p.val ∧ pcServes s p = true))) ∧
    (∃ (s : State) (req : Requester), cfgGate s req Reg.MEM3_ECC_INJECT none = .go) :=
  ⟨⟨on, 1, by decide +kernel⟩,
    ⟨on, by decide +kernel⟩,
    ⟨on, by decide +kernel⟩,
    ⟨st pcs, 0, by decide +kernel⟩,
    ⟨st pcs, 0, by decide +kernel⟩,
    ⟨st pcs, 0, 0, by decide +kernel⟩,
    ⟨st pcs, 0, 0, by decide +kernel⟩,
    ⟨st pcs, 0, 0, by decide +kernel⟩,
    ⟨st pcs, 62, 0, by decide +kernel⟩,
    ⟨on, .host, by decide +kernel⟩⟩

/-- States and operands that meet the hypotheses of `Obligations.ChannelMigration`, clause by clause. -/
theorem meets_ChannelMigration :
    (∃ (s : State) (p : Fin 64) (reason : MigReason) (u : Nat), memReady s = true ∧ s.powerState ≠ 2 ∧ pcServes s p = true ∧
      migMeets s p reason = true ∧ s.mem.mig = none ∧ s.mem.due = [] ∧ s.mem.shrink = none ∧ (freeSpares s).head? = some u) ∧
    (∃ (s : State) (m : Mig), s.on = true ∧ s.powerState ≠ 2 ∧ s.mem.mig = some m ∧ m.src < 64 ∧ m.tgt < 64 ∧ m.src ≠ m.tgt ∧
      m.chan < 62 ∧ s.mem.due = []) ∧
    (∃ (s : State) (p : Fin 64), s.on = true ∧ s.powerState ≠ 2 ∧ pcState s p = 4 ∧ s.mem.due = []) ∧
    (∃ (s : State) (p : Fin 64), s.on = true ∧ s.powerState ≠ 2 ∧ pcState s p = 4 ∧ s.mem.due = []) ∧
    (∃ (s : State) (req : Requester) (p : Fin 64) (retire : Bool) (c : Instr), c = (if retire then Instr.memCmdRetire req p else .memCmdRetrain req p) ∧
      cfgGate s req Reg.MEM4_MEM_CMD (some 14) = .go) ∧
    (∃ (s : State) (req : Requester) (p : Fin 64) (retire : Bool) (c : Instr), c = (if retire then Instr.memCmdRetire req p else .memCmdRetrain req p) ∧
      cfgGate s req Reg.MEM4_MEM_CMD (some 14) = .go) ∧
    (∃ (s : State) (req : Requester), cfgGate s req Reg.MEM4_MEM_CMD (some 14) = .go) ∧
    (∃ (s : State) (req : Requester), cfgGate s req Reg.MEM4_MEM_CMD (some 14) = .go) :=
  ⟨⟨st pcs, 0, .periodic, 62, by decide +kernel⟩,
    ⟨memSt (fun m => { m with mig := some ⟨0, 0, 1, false, 62, false, 0, 0⟩ }) pcs, ⟨0, 0, 1, false, 62, false, 0, 0⟩, by decide +kernel⟩,
    ⟨st [(Reg.STACK_PC_STATUS 0 0, 0x3F04)], 0, by decide +kernel⟩,
    ⟨st [(Reg.STACK_PC_STATUS 0 0, 0x3F04)], 0, by decide +kernel⟩,
    ⟨st pcs, .host, 0, true, .memCmdRetire .host 0, rfl, by decide +kernel⟩,
    ⟨on, .host, 0, false, .memCmdRetrain .host 0, rfl, by decide +kernel⟩,
    ⟨on, .host, by decide +kernel⟩,
    ⟨memSt (fun m => { m with shrink := some ⟨0, 0, 3, true, 64, false, 0, 0⟩ }) pcs, .host, by decide +kernel⟩⟩

/-- States and operands that meet the hypotheses of `Obligations.AudioPortControl`, clause by clause. -/
theorem meets_AudioPortControl :
    (∃ (s : State) (req : Requester) (p : Fin 8), cfgGate s req (Reg.PAGE_CTRL (sapBase p)) none = .go ∧ enabled s (sapBase p) = false) ∧
    (∃ (s : State) (req : Requester) (p : Fin 8), cfgGate s req (Reg.PAGE_CTRL (sapBase p)) none = .go ∧ enabled s (sapBase p) = false) ∧
    (∃ (s : State) (req : Requester), cfgGate s req Reg.SAPM_GROUP_CMD none = .go) ∧
    (∃ (s : State) (req : Requester) (p : Fin 8), cfgGate s req (Reg.SAP_SLOT_MASK p) none = .go) ∧
    (∃ (s : State) (req : Requester) (p : Fin 8), cfgGate s req (Reg.SAP_SLOT_MASK p) none = .go) ∧
    (∃ (s : State) (req : Requester) (p : Fin 8), cfgGate s req (Reg.SAP_SLOT_MASK p) none = .go) ∧
    (∃ (s : State) (p : Fin 8) (range : Bool) (ppm : Word), s.on = true ∧ clockMode s p ≠ 0 ∧ clockLost s p = false ∧
      (portState s p = 2 ∨ portState s p = 3) ∧ clockGone s p range ppm = true) ∧
    (∃ (s : State) (p : Fin 8) (range : Bool) (ppm : Word), s.on = true ∧ clockMode s p ≠ 0 ∧ clockLost s p = false ∧
      (portState s p = 2 ∨ portState s p = 3) ∧ clockGone s p range ppm = true) ∧
    (∃ (s : State) (p : Fin 8), clockLost s p = true) ∧
    (∃ (s : State) (p : Fin 8), clockLost s p = false) ∧
    (∃ (s : State) (req : Requester) (p : Fin 8), cfgGate s req (Reg.SAP_CONT_CLEAR p) none = .go) ∧
    (∃ (s : State) (req : Requester) (p : Fin 8), cfgGate s req (Reg.SAP_CONT_CLEAR p) none = .go) ∧
    (∃ (s : State) (p : Fin 8) (h : Word) (l : List Word) (d : Option Nat) (rest : List (List Word × Option Nat)), (portOf s p).recs = (h :: l, d) :: rest ∧
      ringEnabled s (inRing s p) = true ∧ ringFull s (inRing s p) = false) ∧
    (∃ (s : State) (req : Requester), cfgGate s req Reg.SAPM_MCLK_CFG none = .go) :=
  ⟨⟨on, .host, 7, by decide +kernel⟩,
    ⟨held 0x5A4 0xA0 0xA0000 [(Reg.PAGE_CTRL 0xA0000, 0), (Reg.PAGE_STATUS 0xA0000, 1), (Reg.PAGE_ROLE 0xA0000, 1), (Reg.SAP_DATA_RING 0, 40), (Reg.SAP_PORT_CFG 0, 0xA0221), (Reg.SAP_SLOT_MASK 0, 3)] [], .host, 0, by decide +kernel⟩,
    ⟨st [(Reg.SAP_PORT_STATUS 0, 1)], .host, by decide +kernel⟩,
    ⟨on, .host, 0, by decide +kernel⟩,
    ⟨st [(Reg.PAGE_CTRL 0xA0000, 1), (Reg.SAP_PORT_CFG 0, 0xA0221)], .host, 0, by decide +kernel⟩,
    ⟨st [(Reg.PAGE_CTRL 0xA0000, 1), (Reg.SAP_PORT_CFG 0, 0xA0221)], .host, 0, by decide +kernel⟩,
    ⟨st [(Reg.SAP_PORT_CFG 7, 4), (Reg.SAP_PORT_STATUS 7, 2)], 7, true, 200000, by decide +kernel⟩,
    ⟨st [(Reg.SAP_PORT_CFG 7, 0x24), (Reg.SAP_PORT_STATUS 7, 2)], 7, false, 5, by decide +kernel⟩,
    ⟨st [(Reg.SAP_PORT_STATUS 0, 4)], 0, by decide +kernel⟩,
    ⟨on, 0, by decide +kernel⟩,
    ⟨st [(Reg.SAP_PORT_STATUS 0, 8)], .host, 0, by decide +kernel⟩,
    ⟨on, .host, 0, by decide +kernel⟩,
    ⟨sap0 { PortSt.fresh with recs := [([1, 2], none)] } ([(Reg.SAP_IN_RING 0, 44)] ++ ringBy 44 0x684 0xA0 0x70000 0 0 1), 0, 1, [2], none, [], by decide +kernel⟩,
    ⟨on, .host, by decide +kernel⟩⟩

/-- States and operands that meet the hypotheses of `Obligations.AudioFrames`, clause by clause. -/
theorem meets_AudioFrames :
    (∃ (s : State) (p : Fin 8), (portOf s p).halted = false ∧ (portState s p = 2 ∨ portState s p = 3) ∧ frameDue s p = true ∧
      stopsNow (sentDone s p) p = false) ∧
    (∃ (s : State) (p : Fin 8), (portOf s p).halted = false ∧ (portState s p = 2 ∨ portState s p = 3) ∧ frameDue s p = true ∧
      stopsNow (sentDone s p) p = false) ∧
    (∃ (s : State) (p : Fin 8), (portOf s p).halted = false ∧ (portState s p = 2 ∨ portState s p = 3) ∧ frameDue s p = true ∧
      stopsNow (sentDone s p) p = false) :=
  ⟨⟨sap0 { PortSt.fresh with halted := false } [(Reg.PAGE_CTRL 0xA0000, 1), (Reg.PAGE_ROLE 0xA0000, 1), (Reg.SAP_PORT_CFG 0, 0xA0221), (Reg.SAP_PORT_STATUS 0, 2)], 0, by decide +kernel⟩,
    ⟨sap0 { PortSt.fresh with halted := false, queue := [⟨job playEntry, false, 0x5000, 0, 0, 3, 0, 0, none⟩] } [(Reg.PAGE_CTRL 0xA0000, 1), (Reg.PAGE_ROLE 0xA0000, 1), (Reg.SAP_PORT_CFG 0, 0xA0221), (Reg.SAP_PORT_STATUS 0, 2), (Reg.SAP_SLOT_MASK 0, 3)], 0, by decide +kernel⟩,
    ⟨sap0 { PortSt.fresh with halted := false } [(Reg.PAGE_CTRL 0xA0000, 1), (Reg.PAGE_ROLE 0xA0000, 2), (Reg.SAP_PORT_CFG 0, 0xA0221), (Reg.SAP_PORT_STATUS 0, 2)], 0, by decide +kernel⟩⟩

/-- States and operands that meet the hypotheses of `Obligations.PerformanceCounters`, clause by clause. -/
theorem meets_PerformanceCounters :
    (∃ (s : State) (req : Requester) (i : Fin 256), cfgGate s req (Reg.PERF_COUNTER_CFG i) none = .go) ∧
    (∃ (s : State) (req : Requester) (i : Fin 256), cfgGate s req (Reg.PERF_COUNTER_CFG i) none = .go) ∧
    (∃ (s : State) (j : Fin 16) (v : Word), cfgGate s .mgmt (cntCfg (256 + j)) none = .go ∧ bit v 24 = true ∧
      counterCfgOk (v &&& 0x01FFFFFF) = false) ∧
    (∃ (s : State) (i : Fin 256), cntRuns s i = true ∧
      perfShown (fld (s.rd (Reg.PERF_COUNTER_CFG i)) 8 8) (fld (s.rd (Reg.PERF_COUNTER_CFG i)) 0 8) = false) ∧
    (∃ (s : State) (j : Fin 16), cntRuns s (256 + j) = true ∧ j.val % 2 = 0 ∧ cntChained s (256 + j) = true ∧
      perfShown (fld (s.rd (cntCfg (256 + j))) 8 8) (fld (s.rd (cntCfg (256 + j))) 0 8) = false) ∧
    (∃ (s : State) (req : Requester), cfgGate s req Reg.PERF0_PERF_CTRL none = .go) ∧
    (∃ (s : State) (req : Requester), cfgGate s req Reg.PERF0_PERF_CMD none = .go) :=
  ⟨⟨on, .host, 255, by decide +kernel⟩,
    ⟨on, .host, 0, by decide +kernel⟩,
    ⟨on, 15, 0x100FF00, by decide +kernel⟩,
    ⟨st [(Reg.PAGE_CTRL 0xC0000, 1), (Reg.PERF_COUNTER_CFG 255, 0x1000000)], 255, by decide +kernel⟩,
    ⟨st [(privCfg 0, 0x1000000), (privCfg 1, 0x3000000)], 0, by decide +kernel⟩,
    ⟨on, .host, by decide +kernel⟩,
    ⟨on, .host, by decide +kernel⟩⟩

/-- States and operands that meet the hypotheses of `Obligations.DumpsAndGlint`, clause by clause. -/
theorem meets_DumpsAndGlint :
    (∃ (s : State) (k : Nat) (c : Instr), dumpsOn s = true ∧
      ((k = 0 ∧ ∃ req, c = .perfCmdDump req ∧ cfgGate s req Reg.PERF0_PERF_CMD none = .go) ∨ (k = 1 ∧ c = .dumpTrigger none ∧ dumpMode s = 1 ∧ periodDue s = true) ∨ (k = 2 ∧ ∃ h : Fin 4, c = .dumpTrigger (some h) ∧ dumpMode s = 2 ∧ s.f Reg.PERF0_DUMP_CFG 4 2 = h.val ∧ (headOf s h).run = true))) ∧
    (∃ (s : State) (k : Nat) (c : Instr), dumpsOn s = true ∧
      ((k = 0 ∧ ∃ req, c = .perfCmdDump req ∧ cfgGate s req Reg.PERF0_PERF_CMD none = .go) ∨ (k = 1 ∧ c = .dumpTrigger none ∧ dumpMode s = 1 ∧ periodDue s = true) ∨ (k = 2 ∧ ∃ h : Fin 4, c = .dumpTrigger (some h) ∧ dumpMode s = 2 ∧ s.f Reg.PERF0_DUMP_CFG 4 2 = h.val ∧ (headOf s h).run = true))) ∧
    (∃ (s : State) (k : Nat) (c : Instr), dumpsOn s = true ∧
      ((k = 0 ∧ ∃ req, c = .perfCmdDump req ∧ cfgGate s req Reg.PERF0_PERF_CMD none = .go) ∨ (k = 1 ∧ c = .dumpTrigger none ∧ dumpMode s = 1 ∧ periodDue s = true) ∨ (k = 2 ∧ ∃ h : Fin 4, c = .dumpTrigger (some h) ∧ dumpMode s = 2 ∧ s.f Reg.PERF0_DUMP_CFG 4 2 = h.val ∧ (headOf s h).run = true))) ∧
    (∃ (s : State) (d : Dump), s.perf.dump = some d ∧ s.powerState ≠ 2 ∧ perfRing s (dumpRing s) 0x08 = true ∧
      ringFill s (dumpRing s) + dumpEntries s (dumpRing s) d.values.length ≤ ringCount s (dumpRing s)) ∧
    (∃ (s : State) (d : Dump), s.perf.dump = some d ∧ s.powerState ≠ 2 ∧ perfRing s (dumpRing s) 0x08 = false) ∧
    (∃ (s : State) (d : Dump), s.perf.dump = some d ∧ s.powerState ≠ 2 ∧ perfRing s (dumpRing s) 0x08 = true ∧
      ringCount s (dumpRing s) < ringFill s (dumpRing s) + dumpEntries s (dumpRing s) d.values.length) ∧
    (∃ (s : State) (h : Fin 4) (r : GlintRay) (rest : List GlintRay), s.on = true ∧ (glintOf s h).rays = r :: rest ∧ r.ended = true ∧
      s.powerState ≠ 2) ∧
    (∃ (s : State) (h : Fin 4) (r : GlintRay) (rest : List GlintRay), s.on = true ∧ (glintOf s h).rays = r :: rest ∧ r.ended = true ∧
      s.powerState ≠ 2) :=
  ⟨⟨st (perfSt 0x8A4), 0, .perfCmdDump .host, by decide +kernel, .inl ⟨rfl, .host, rfl, by decide +kernel⟩⟩,
    ⟨st (perfSt 0x8A4 ++ [(Reg.PERF0_DUMP_CFG, 1), (Reg.PERF0_DUMP_PERIOD, 1000)]), 1, .dumpTrigger none, by decide +kernel, .inr (.inl ⟨rfl, rfl, by decide +kernel⟩)⟩,
    ⟨{ st (perfSt 0x8A4 ++ [(Reg.PERF0_DUMP_CFG, 0x32)]) with heads := [(3, running)] }, 2, .dumpTrigger (some 3), by decide +kernel, .inr (.inr ⟨rfl, 3, rfl, by decide +kernel⟩)⟩,
    ⟨{ st (perfSt 0x8A4) with perf := { on.perf with dump := some dump0 } }, dump0, by decide +kernel⟩,
    ⟨{ on with perf := { on.perf with dump := some dump0 } }, dump0, by decide +kernel⟩,
    ⟨{ (st (perfSt 0x8A4)).wr (Reg.RING_PROD 45) 16 with perf := { on.perf with dump := some dump0 } }, dump0, by decide +kernel⟩,
    ⟨{ st (perfSt 0x9A4) with perf := { on.perf with glint := [(0, { GlintSt.fresh with rays := [ray0] })] } }, 0, ray0, [], by decide +kernel⟩,
    ⟨{ on with perf := { on.perf with glint := [(0, { GlintSt.fresh with rays := [ray0] })] } }, 0, ray0, [], by decide +kernel⟩⟩

/-- States and operands that meet the hypotheses of `Obligations.FirmwareStagingAndSwap`, clause by clause. -/
theorem meets_FirmwareStagingAndSwap :
    (∃ (s : State) (req : Requester), cfgGate s req Reg.MAINT_FW_CMD none = .go) ∧
    (∃ (s : State) (req : Requester), cfgGate s req Reg.MAINT_FW_CMD none = .go) ∧
    (∃ (s : State) (r : Nat) (img : Option FwImage), s.on = true ∧ s.maint.staging = some (r, img) ∧ r < 16) ∧
    (∃ (s : State) (r : Nat) (img : Option FwImage), s.on = true ∧ s.maint.staging = some (r, img) ∧ r < 16) ∧
    (∃ (s : State) (r : Nat) (img : Option FwImage), s.on = true ∧ s.maint.staging = some (r, img) ∧ r < 16) ∧
    (∃ (s : State) (req : Requester), cfgGate s req Reg.MAINT_FW_CMD (if recovery s then none else some 15) = .go) ∧
    (∃ (s : State) (req : Requester), cfgGate s req Reg.MAINT_FW_CMD (if recovery s then none else some 15) = .go) ∧
    (∃ (s : State) (h u : Nat) (told : Bool), s.maint.swap = some (h, u, told) ∧ u + 60000000000 ≤ s.now) ∧
    (∃ (s : State) (h : Nat), s.on = true ∧ s.maint.takeover = some h) :=
  ⟨⟨on, .host, by decide +kernel⟩,
    ⟨st [(Reg.MAINT_FW_STATUS, 4)], .host, by decide +kernel⟩,
    ⟨fwSt 1 (fun m => { m with staging := some (1, some image0) }) [], 1, some image0, by decide +kernel⟩,
    ⟨fwSt 1 (fun m => { m with staging := some (3, none) }) [], 3, none, by decide +kernel⟩,
    ⟨fwSt 1 (fun m => { m with staging := some (1, some image0) }) [], 1, some image0, by decide +kernel⟩,
    ⟨fwSt 2 id [(Reg.HEAD_HEAD_STATUS 3, 3)], .host, by decide +kernel⟩,
    ⟨on, .host, by decide +kernel⟩,
    ⟨{ fwSt 10 (fun m => { m with swap := some (0, 0, false) }) [] with time := { on.time with ns := 60000000000 } }, 0, 0, false, by decide +kernel⟩,
    ⟨fwSt 10 (fun m => { m with takeover := some 0 }) [], 0, by decide +kernel⟩⟩

/-- States and operands that meet the hypotheses of `Obligations.ConfirmRevertAndMaintenanceLog`, clause by clause. -/
theorem meets_ConfirmRevertAndMaintenanceLog :
    (∃ (s : State), s.on = true ∧ s.maint.running.isSome = true) ∧
    (∃ (s : State), s.on = true ∧ s.maint.running.isSome = true) ∧
    (∃ (s : State) (req : Requester) (c : Instr), s.on = true ∧
      ((c = .fwSelfCheckFailure ∧ onTrial s = true) ∨ (c = .fwRevert req ∧ cfgGate s req Reg.MAINT_FW_CMD (if recovery s then none else some 15) = .go ∧ unconfirmed s = true))) ∧
    (∃ (s : State) (req : Requester) (c : Instr), s.on = true ∧
      ((c = .fwSelfCheckFailure ∧ onTrial s = true) ∨ (c = .fwRevert req ∧ cfgGate s req Reg.MAINT_FW_CMD (if recovery s then none else some 15) = .go ∧ unconfirmed s = true))) ∧
    (∃ (s : State) (req : Requester), cfgGate s req Reg.MAINT_FW_CMD (if recovery s then none else some 15) = .go ∧ unconfirmed s = false) ∧
    (∃ (s : State) (req : Requester), cfgGate s req Reg.MAINT_FW_CMD none = .go ∧ mayConfirm s = true) ∧
    (∃ (s : State) (req : Requester), cfgGate s req Reg.MAINT_FW_CMD none = .go ∧ mayConfirm s = true) ∧
    (∃ (s : State) (req : Requester), cfgGate s req Reg.MAINT_FW_CMD none = .go ∧ mayConfirm s = true) ∧
    (∃ (s : State) (r : MaintRec) (rest : List MaintRec), s.maint.wait = r :: rest ∧ s.maint.running.isSome = true ∧
      s.maint.takeover = none ∧ s.maint.log.length < maintRing) ∧
    (∃ (s : State) (r : MaintRec) (rest : List MaintRec), s.on = true ∧ s.maint.wait = r :: rest ∧ s.maint.running.isSome = true ∧
      s.maint.takeover = none ∧ maintRing ≤ s.maint.log.length) ∧
    (∃ (s : State), s.on = true ∧ (s.maint.hours + 1) * hourNs ≤ s.now) :=
  ⟨⟨fwSt 4 (fun m => { m with takeoverAt := some 1000000000 }) [], by decide +kernel⟩,
    ⟨fwSt 0 id [], by decide +kernel⟩,
    ⟨fwSt 4 (fun m => { m with takeoverAt := some 1000000000 }) [], .host, .fwSelfCheckFailure, by decide +kernel, .inl ⟨rfl, by decide +kernel⟩⟩,
    ⟨fwSt 4 id [], .host, .fwRevert .host, by decide +kernel, .inr ⟨rfl, by decide +kernel⟩⟩,
    ⟨fwSt 0 id [], .host, by decide +kernel⟩,
    ⟨fwSt 4 id [], .host, by decide +kernel⟩,
    ⟨fwSt 2 id [(Reg.FEAT_ACTIVE_FEATURES 0, 1)], .host, by decide +kernel⟩,
    ⟨{ fwSt 2 id [] with maint := { on.maint with slotA := some image0 } }, .host, by decide +kernel⟩,
    ⟨fwSt 0 (fun m => { m with wait := [maintRec0] }) [], maintRec0, [], by decide +kernel⟩,
    ⟨fullLog, maintRec0, [], by decide +kernel, rfl, rfl, rfl, by show 65536 ≤ (List.replicate 65536 _).length; exact Nat.le_of_eq List.length_replicate.symm⟩,
    ⟨{ on with time := { on.time with ns := 3600000000000 } }, by decide +kernel⟩⟩

/-- States and operands that meet the hypotheses of `Obligations.StepRunsFrontCommand`, clause by clause. -/
theorem meets_StepRunsFrontCommand :
    ∃ (s : State) (c : Instr) (rest : List Instr), s.pending = c :: rest :=
  ⟨{ on with pending := [.ppsEdge, .refLost] }, .ppsEdge, [.refLost], rfl⟩

/-- States and operands that meet the hypotheses of `Obligations.IdleStep`, clause by clause. -/
theorem meets_IdleStep :
    (∃ (s : State), s.pending = [] ∧ s.on = false) ∧
    (∃ (s : State), s.pending = [] ∧ s.on = true ∧ s.time.slewStep = 0) ∧
    (∃ (s : State), s.pending = [] ∧ s.on = true ∧ s.time.slewStep = 0) ∧
    (∃ (s : State), s.pending = [] ∧ s.on = true ∧ s.time.slewStep ≠ 0) ∧
    (∃ (s : State), s.pending = [] ∧ s.on = true ∧ s.time.slewStep ≠ 0) :=
  ⟨⟨State.reset, by decide +kernel⟩,
    ⟨on, by decide +kernel⟩,
    ⟨{ on with time := { on.time with frac := 0xFFFFFFF } }, by decide +kernel⟩,
    ⟨{ on with time := { on.time with slewRem := 1000, slewStep := 100 } }, by decide +kernel⟩,
    ⟨{ on with time := { on.time with slewRem := -50, slewStep := -100 } }, by decide +kernel⟩⟩

/-- States and operands that meet the hypotheses of `Obligations.ResetState`, clause by clause. -/
theorem meets_ResetState :
    ∃ (r : Nat), r < 8192 :=
  ⟨8191, by decide +kernel⟩

/-- States and operands that meet the hypotheses of `Obligations.StepKeepsInvariant`, clause by clause. -/
theorem meets_StepKeepsInvariant :
    ∃ (s : State), Machine.Inv s :=
  ⟨State.reset, by unfold Machine.Inv; decide +kernel⟩

/-- States and operands that meet the hypotheses of `Obligations.PowerAndTimeMoveByFewCommands`, clause by clause. -/
theorem meets_PowerAndTimeMoveByFewCommands :
    (∃ (c : Instr) (s t : State), exec c s = .next t ∧ t.on ≠ s.on) ∧
    (∃ (c : Instr) (s t : State), exec c s = .next t ∧ ¬(t.time.ns = s.time.ns ∧ t.time.frac = s.time.frac)) :=
  ⟨⟨.lvinApplied, State.reset, after .lvinApplied State.reset, rfl, by decide +kernel⟩,
    ⟨.lvinLost, on, after .lvinLost on, rfl, by decide +kernel⟩⟩

/-- States and operands that meet the hypotheses of `Obligations.GuardedWritesAreDiscarded`, clause by clause. -/
theorem meets_GuardedWritesAreDiscarded :
    (∃ (s : State) (r : Requester) (a : Nat), reaches s r = true ∧ a % 4 = 0 ∧ unmappedFor r a = false ∧ s.powerState = 2 ∧
      standbyOpen a = false) ∧
    (∃ (s : State), reaches s .host = true ∧ s.powerState = 2) ∧
    (∃ (s : State) (p : PageId) (o : Nat), reaches s .host = true ∧ o % 4 = 0 ∧ (o = 0x0C ∨ (0x100 ≤ o ∧ o < 0x800)) ∧
      pageAt (p.base + o) = some p ∧ unmappedFor .host (p.base + o) = false ∧ (s.powerState = 2 → standbyOpen (p.base + o) = true) ∧
      notNeg s p = true) ∧
    (∃ (s : State) (p : PageId) (o : Nat), reaches s .host = true ∧ o % 4 = 0 ∧ (o = 0x0C ∨ (0x100 ≤ o ∧ o < 0x800)) ∧
      pageAt (p.base + o) = some p ∧ unmappedFor .host (p.base + o) = false ∧ (s.powerState = 2 → standbyOpen (p.base + o) = true) ∧
      notNeg s p = false ∧ (∀ i, featureOf (p.base + o) = some i → s.feat i = true) ∧ mgmtHeld s p = true) :=
  ⟨⟨st [(Reg.THERM_POWER_STATUS, 2)], .host, Reg.MEM3_SCRUB_PERIOD, by decide +kernel⟩,
    ⟨st [(Reg.THERM_POWER_STATUS, 2)], by decide +kernel⟩,
    ⟨st [(Reg.MAINT_BOOT_STATUS, 3)], ⟨0x84000, 0x81, 0⟩, 0x104, by decide +kernel⟩,
    ⟨st [(Reg.PAGE_STATUS 0x93000, 0x10)], ⟨0x93000, 0x90, 3⟩, 0x100, by decide +kernel, by decide +kernel, by decide +kernel, by decide +kernel, by decide +kernel, by decide +kernel, by decide +kernel, fun i h => absurd (h.symm.trans (show featureOf 0x93100 = none by decide +kernel)) (by simp), by decide +kernel⟩⟩

end Sys2Proof.Tests
end

section
/-!
SUPPORT and PROOF of O11. The page map against the list of R47, the place of a 64-bit register's two words (R57), what a read of a
word does (R53, R57) and what an access to an unmapped address does (R48).
-/
namespace Sys2Proof.Machine

/-! ### The page map (R47) -/

theorem pageOf_mod (a : Nat) : pageOf a % 0x1000 = 0 := by unfold pageOf; omega

theorem pageAt_eq (a : Nat) : pageAt a =
    if 0x40000 ≤ pageOf a ∧ pageOf a < 0x80000
    then pageHead (pageOf a) ((pageOf a - 0x40000) / 0x10000) ((pageOf a - 0x40000) % 0x10000) else pageFixed (pageOf a) := rfl

theorem pageOf_pageOf (a : Nat) : pageOf (pageOf a) = pageOf a := by unfold pageOf; omega

theorem pageAt_pageOf (a : Nat) : pageAt (pageOf a) = pageAt a := by rw [pageAt_eq, pageAt_eq a, pageOf_pageOf]

/-- What holds of the page of one line of the map, and of those of the lines after it, holds of every page. -/
theorem forall_mem_ite_some {α : Type} {q : α → Prop} {c : Prop} [Decidable c] {x : α} {o : Option α} (hx : c → q x)
    (ho : ¬c → ∀ p ∈ o, q p) : ∀ p ∈ (if c then some x else o), q p := by
  split
  · next h => intro p hp; cases hp; exact hx h
  · next h => exact ho h

theorem pageFixed_base (b : Nat) : ∀ p ∈ pageFixed b, p.base = b := by
  unfold pageFixed
  iterate 22 refine forall_mem_ite_some (fun _ => rfl) fun _ => ?_
  exact nofun

theorem pageHead_base (b h o : Nat) : ∀ p ∈ pageHead b h o, p.base = b := by
  unfold pageHead
  iterate 7 refine forall_mem_ite_some (fun _ => rfl) fun _ => ?_
  exact nofun

theorem pageAt_base {a : Nat} {p : PageId} (h : pageAt a = some p) : p.base = pageOf a := by
  rw [pageAt_eq] at h
  split at h
  · exact pageHead_base _ _ _ p h
  · exact pageFixed_base _ p h

/-- PERF privileged is the one page of type 0xC1. -/
theorem pageFixed_typ_C1 (b : Nat) : ∀ p ∈ pageFixed b, p.typ = 0xC1 ↔ b = 0xC2000 := by
  unfold pageFixed
  iterate 22 refine forall_mem_ite_some (fun _ => by simp only [Nat.reduceEqDiff, false_iff, true_iff]; omega) fun _ => ?_
  exact nofun

theorem isSome_ite_some {α : Type} {c : Prop} [Decidable c] {x : α} {o : Option α} :
    (if c then some x else o).isSome = true ↔ c ∨ o.isSome = true := by
  by_cases h : c <;> simp [h]

theorem pageFixed_isSome_iff (b : Nat) : (pageFixed b).isSome = true ↔
    b ∈ [0x0, 0x1000, 0x2000, 0x3000, 0x4000, 0x8000, 0x10000, 0x11000, 0x12000, 0x20000, 0x21000, 0x22000, 0x30000, 0x84000,
      0xB0000, 0xC0000, 0xC1000, 0xC2000] ∨
    (0x31000 ≤ b ∧ b < 0x39000) ∨ (0x80000 ≤ b ∧ b < 0x83000) ∨ (0x90000 ≤ b ∧ b < 0x95000) ∨ (0xA0000 ≤ b ∧ b < 0xA8000) := by
  simp only [pageFixed, isSome_ite_some, Option.isSome_none, Bool.false_eq_true, or_false, List.mem_cons, List.not_mem_nil]
  omega

theorem pageHead_isSome_iff (b h o : Nat) (ho : o % 0x1000 = 0) : (pageHead b h o).isSome = true ↔ o < 0xE000 := by
  simp only [pageHead, isSome_ite_some, Option.isSome_none, Bool.false_eq_true, or_false]
  omega

theorem mem_range_map_iff {b c n : Nat} (hb : b % 0x1000 = 0) (hc : c % 0x1000 = 0) :
    b ∈ (List.range n).map (fun j => c + 0x1000 * j) ↔ c ≤ b ∧ b < c + 0x1000 * n := by
  simp only [List.mem_map, List.mem_range]
  exact ⟨fun ⟨j, hj, e⟩ => by omega, fun h => ⟨(b - c) / 0x1000, by omega, by omega⟩⟩

/-- The pages of the head groups: 14 in each. -/
theorem mem_headPages_iff {b : Nat} (hb : b % 0x1000 = 0) :
    b ∈ (List.range 4).flatMap (fun h => (List.range 14).map fun k => 0x40000 + 0x10000 * h + 0x1000 * k) ↔
      0x40000 ≤ b ∧ b < 0x80000 ∧ (b - 0x40000) % 0x10000 < 0xE000 := by
  simp only [List.mem_flatMap, List.mem_range]
  constructor
  · rintro ⟨h, hh, hm⟩
    have := (mem_range_map_iff hb (by omega)).1 hm
    omega
  · intro h
    exact ⟨(b - 0x40000) / 0x10000, by omega, (mem_range_map_iff hb (by omega)).2 (by omega)⟩

/-- The pages of the map are those that R47 lists. -/
theorem pageAt_isSome_iff (a : Nat) : (pageAt a).isSome = true ↔ pageOf a ∈ bar0Pages := by
  have hb := pageOf_mod a
  rw [pageAt_eq]
  generalize pageOf a = b at hb ⊢
  simp only [bar0Pages, List.mem_append, mem_headPages_iff hb, mem_range_map_iff hb (by decide : 0x31000 % 0x1000 = 0),
    mem_range_map_iff hb (by decide : 0x90000 % 0x1000 = 0), mem_range_map_iff hb (by decide : 0xA0000 % 0x1000 = 0)]
  split
  · next h =>
    rw [pageHead_isSome_iff _ _ _ (by omega)]
    simp only [List.mem_cons, List.not_mem_nil, or_false]
    omega
  · next h =>
    rw [pageFixed_isSome_iff]
    simp only [List.mem_cons, List.not_mem_nil, or_false]
    omega

theorem inTable_iff (a : Nat) : inTable a = true ↔
    (0x100000 ≤ a ∧ a < 0x180000) ∨ (0x200000 ≤ a ∧ a < 0x240000) ∨ (0x300000 ≤ a ∧ a < 0x400000) := decide_eq_true_iff

/-- The management core reaches every listed address (R47, R48). -/
theorem unmappedFor_mgmt_iff (a : Nat) : unmappedFor .mgmt a = false ↔ pageOf a ∈ bar0Pages ∨
    (0x100000 ≤ a ∧ a < 0x180000) ∨ (0x200000 ≤ a ∧ a < 0x240000) ∨ (0x300000 ≤ a ∧ a < 0x400000) := by
  simp only [unmappedFor, isMapped, Bool.or_false, Bool.not_eq_false', Bool.or_eq_true, pageAt_isSome_iff, inTable_iff]

theorem pageHead_typ_C1 (b h o : Nat) : ∀ p ∈ pageHead b h o, p.typ ≠ 0xC1 := by
  unfold pageHead
  iterate 7 refine forall_mem_ite_some (fun _ => by simp) fun _ => ?_
  exact nofun

theorem pageAt_typ_C1_iff {a : Nat} {p : PageId} (h : pageAt a = some p) : p.typ = 0xC1 ↔ pageOf a = 0xC2000 := by
  rw [pageAt_eq] at h
  split at h
  · next hr => exact iff_of_false (pageHead_typ_C1 _ _ _ p h) (by omega)
  · exact pageFixed_typ_C1 _ p h

/-- Host software reaches what the management core does, but for PERF privileged (R48). -/
theorem unmappedFor_host_iff (a : Nat) :
    unmappedFor .host a = true ↔ unmappedFor .mgmt a = true ∨ (0xC2000 ≤ a ∧ a < 0xC3000) := by
  have hr : (0xC2000 ≤ a ∧ a < 0xC3000) ↔ pageOf a = 0xC2000 := by unfold pageOf; omega
  rw [hr]
  cases h : pageAt a with
  | none =>
    have hn : pageOf a ≠ 0xC2000 := fun e => by
      have hs := (pageAt_isSome_iff a).2 (by rw [e]; decide)
      rw [h] at hs
      cases hs
    simp only [unmappedFor, h, Bool.or_false, hn, or_false]
  | some p => simp only [unmappedFor, h, Bool.or_false, Bool.or_eq_true, decide_eq_true_eq, pageAt_typ_C1_iff h]

/-! ### Low words lie with their high words (R57) -/

theorem offset_eq {a : Nat} {p : PageId} (h : pageAt a = some p) : a - p.base = a % 0x1000 := by
  rw [pageAt_base h]
  unfold pageOf
  omega

theorem of_ite_true {q c : Prop} [Decidable c] {x y : Bool} (hx : x = true → q) (hy : y = true → q) :
    (if c then x else y) = true → q := by
  split
  · exact hx
  · exact hy

theorem lt_of_decide_eq_true {c : Prop} [Decidable c] {o n : Nat} (h : c → o < n) : decide c = true → o < n :=
  fun e => h (of_decide_eq_true e)

/-- No page has a low word in its last quarter. -/
theorem lowPage_lt (typ inst o : Nat) : lowPage typ inst o = true → o < 0xC00 := by
  unfold lowPage
  iterate 12 refine of_ite_true (lt_of_decide_eq_true (by omega)) ?_
  refine of_ite_true (of_ite_true (lt_of_decide_eq_true (by omega)) (of_ite_true (lt_of_decide_eq_true (by omega))
    (of_ite_true (lt_of_decide_eq_true (by omega)) nofun))) ?_
  iterate 3 refine of_ite_true (lt_of_decide_eq_true (by omega)) ?_
  exact nofun

theorem lowOf_offset {a lo : Nat} (h : lowOf a = some lo) : 4 ≤ a % 0x1000 := by
  unfold lowOf at h
  cases hp : pageAt a with
  | none =>
    simp only [hp] at h
    split at h
    · omega
    · cases h
  | some p =>
    simp only [hp, offset_eq hp] at h
    split at h
    · omega
    · cases h

/-- The high word of a 64-bit register lies in the page of its low word. -/
theorem readLow_pageOf_high {a : Nat} (h : readLow a = true) : pageOf (a + 4) = pageOf a := by
  have hroom : a % 0x1000 + 4 < 0x1000 := by
    rw [readLow, Bool.or_eq_true] at h
    rcases h with hl | hl
    · have := lowOf_offset (of_decide_eq_true hl)
      omega
    · cases hp : pageAt a with
      | none =>
        simp only [hp, decide_eq_true_eq] at hl
        omega
      | some p =>
        simp only [hp, offset_eq hp] at hl
        have := lowPage_lt _ _ _ hl
        omega
  unfold pageOf
  omega

/-! ### What a read does (R53, R57) -/

/-- The state that the word at `a` is read from: one of the memory controller's brings the held state and the copy up to date. -/
def seenAt (s : State) (a : Nat) : State := if pageTyp (pageOf a) = 0x90 then memLook s else s

theorem pageAt_any_mem (a : Nat) : ((pageAt a).any fun p => decide (p.typ = 0x90)) = decide (pageTyp (pageOf a) = 0x90) := by
  unfold pageTyp
  rw [pageAt_pageOf]
  cases pageAt a <;> rfl

theorem memLook_of_not_ready {s : State} (h : memReady s = false) : memLook s = s := by
  unfold memLook
  rw [h]
  rfl

theorem memLook_bus (s : State) : (memLook s).bus = s.bus :=
  (memLook_foot (closed_same s fun p => !decide (p = .bus)) rfl rfl rfl rfl rfl rfl (same_refl s _)).2 .bus rfl

theorem seenAt_bus (s : State) (a : Nat) : (seenAt s a).bus = s.bus := by
  unfold seenAt
  split
  · exact memLook_bus s
  · rfl

theorem seenAt_of_other {s : State} {a : Nat} (h : pageTyp (pageOf a) ≠ 0x90) : seenAt s a = s := if_neg h

theorem seenAt_of_mem {s : State} {a : Nat} (h : pageTyp (pageOf a) = 0x90) : seenAt s a = memLook s := if_pos h

/-- The word that a read of the word at `a` answers: the latch, where the word is the high one of a 64-bit register. -/
def answerAt (s : State) (r : Requester) (a : Nat) : Word :=
  if 4 ≤ a ∧ readLow (a - 4) = true then latched s r (a - 4) else readVal s r a

/-- The state after a read of the word at `a`: that of a low word loads the requester's latch with the high word. -/
def withLatch (s : State) (r : Requester) (a : Nat) : State :=
  if readLow a = true then setLatch s r a (readVal s r (a + 4)) else s

theorem busRead_eq (s : State) (r : Requester) (a : Nat) : busRead s r a =
    ((withLatch (seenAt s a) r a).cond (measured (withLatch (seenAt s a) r a) a) State.useFree).emit
      (.readData r (answerAt (seenAt s a) r a)) := by
  simp only [busRead, pageAt_any_mem, decide_eq_true_eq, Bool.and_eq_true]
  rfl

theorem busRead_out (s : State) (r : Requester) (a : Nat) :
    (busRead s r a).out = .readData r (answerAt (seenAt s a) r a) :: (seenAt s a).out := by
  rw [busRead_eq, withLatch, State.cond]
  split <;> split <;> rfl

theorem busRead_regs (s : State) (r : Requester) (a : Nat) : (busRead s r a).regs = (seenAt s a).regs := by
  rw [busRead_eq, withLatch, State.cond]
  split <;> split <;> rfl

theorem busRead_bus (s : State) (r : Requester) (a : Nat) : (busRead s r a).bus = (withLatch (seenAt s a) r a).bus := by
  rw [busRead_eq, State.cond]
  split <;> rfl

/-- What a requester's latch holds depends on the latches only. -/
theorem latched_congr {s t : State} (h : t.bus = s.bus) (r : Requester) (lo : Nat) : latched t r lo = latched s r lo := by
  unfold latched
  rw [h]

theorem latched_withLatch_self {a : Nat} (h : readLow a = true) (s : State) (r : Requester) :
    latched (withLatch s r a) r a = readVal s r (a + 4) := by
  rw [withLatch, if_pos h]
  exact Laws.tabGet_tabSet_self ..

/-- A word that is not the high one of a 64-bit register answers its own value. -/
theorem answerAt_of_not_high {a : Nat} (h : 4 ≤ a → readLow (a - 4) = false) (s : State) (r : Requester) :
    answerAt s r a = readVal s r a :=
  if_neg fun ⟨h4, hl⟩ => by
    rw [h h4] at hl
    cases hl

theorem answerAt_high {a : Nat} (h : readLow a = true) (s : State) (r : Requester) : answerAt s r (a + 4) = latched s r a :=
  if_pos ⟨by omega, h⟩

theorem exec_lowWordRead_of_mapped {s : State} {req : Requester} {a : Nat} (ha : a % 4 = 0) (hr : reaches s req = true)
    (hu : unmappedFor req a = false) : exec (.lowWordRead req a) s = .next (busRead s req a) := by
  have e : a / 4 * 4 = a := by omega
  change Host.Outcome.next (readAt s req a) = _
  rw [readAt]
  simp only [e, hr, hu, Bool.not_true, Bool.false_eq_true, if_false]

/-- The read of a low word, and the next read of the high word by the same requester, whatever the state is then. -/
theorem busRead_high_after_low {s s' : State} {req : Requester} {a : Nat} (hl : readLow a = true)
    (hb : s'.bus = (busRead s req a).bus) :
    (busRead s' req (a + 4)).out = .readData req (readVal (seenAt s a) req (a + 4)) :: (seenAt s' (a + 4)).out := by
  rw [busRead_out, answerAt_high hl, latched_congr (((seenAt_bus s' _).trans hb).trans (busRead_bus s req a)),
    latched_withLatch_self hl]

/-- The state that a read finds is the state it comes to, outside the memory controller and before the memory is ready. -/
theorem seenAt_eq_self {s : State} {a : Nat} (h : pageTyp (pageOf a) ≠ 0x90 ∨ memReady s = false) : seenAt s a = s := by
  by_cases hm : pageTyp (pageOf a) = 0x90
  · rw [seenAt_of_mem hm, memLook_of_not_ready (h.resolve_left (· hm))]
  · exact seenAt_of_other hm

theorem busRead_bus_of_not_low {a : Nat} (h : readLow a = false) (s : State) (r : Requester) : (busRead s r a).bus = s.bus := by
  rw [busRead_bus, withLatch, h, if_neg Bool.false_ne_true, seenAt_bus]

/-! ### An access to an unmapped address (R48) -/

/-- The state after an access to an unmapped address: a read answers 0. -/
def afterUnmapped (s : State) (req : Requester) (a : Nat) (w : Bool) : State :=
  if w then unmappedOp s a else (unmappedOp s a).emit (.readData req 0)

theorem exec_unmappedAddressAccess {s : State} {req : Requester} {a : Nat} (w : Bool) (ha : a % 4 = 0) (hr : reaches s req = true)
    (hu : unmappedFor req a = true) : exec (.unmappedAddressAccess req a w) s = .next (afterUnmapped s req a w) := by
  have e : a / 4 * 4 = a := by omega
  change execUnmappedAddressAccess req a w s = _
  rw [execUnmappedAddressAccess]
  simp only [e, hr, hu, Bool.and_self, if_true, afterUnmapped]

theorem afterUnmapped_regs (s : State) (req : Requester) (a : Nat) (w : Bool) :
    (afterUnmapped s req a w).regs = (unmappedOp s a).regs := by
  cases w <;> rfl

theorem noted_unmappedOp {s : State} (a : Nat) (h : s.on = true) : noted .unmappedAccess (unmappedOp s a) :=
  noted_raise_self _ _ _ h

theorem rd_unmappedOp (s : State) (a : Nat) {x : Nat} (h : routerReg x = false) :
    (unmappedOp s a).rd x = ((s.inc Reg.SYS_UNMAPPED_COUNT).wr Reg.SYS_LAST_BAD_ADDR (w32 a)).rd x :=
  State.rd_raise _ _ _ h

theorem unmappedOp_count (s : State) (a : Nat) :
    (unmappedOp s a).rd Reg.SYS_UNMAPPED_COUNT = satAdd (s.rd Reg.SYS_UNMAPPED_COUNT) 1 0xFFFFFFFF := by
  rw [rd_unmappedOp s a (by decide), State.rd_wr_ne _ _ (by decide), State.rd_inc_self]

theorem unmappedOp_address (s : State) (a : Nat) : (unmappedOp s a).rd Reg.SYS_LAST_BAD_ADDR = w32 a := by
  rw [rd_unmappedOp s a (by decide), State.rd_wr_self]

theorem unmappedOp_regsKept (s : State) (a : Nat) :
    regsKept [Reg.SYS_UNMAPPED_COUNT, Reg.SYS_LAST_BAD_ADDR] s (unmappedOp s a) := by
  intro x hx hr
  simp only [List.mem_cons, List.not_mem_nil, or_false, not_or] at hx
  rw [rd_unmappedOp s a hr, State.rd_wr_ne _ _ hx.2, State.rd_inc_ne _ hx.1]

/-- A command leaves the parts outside its footprint as they are. -/
theorem exec_samePart {c : Instr} {s t : State} (h : exec c s = .next t) (p : Part) (hp : p ∉ footprint c) : samePart p s t := by
  have hc := exec_closed (c := c) (s := s) (closed_same s _) (same_refl s _)
  rw [h] at hc
  exact hc.2 p (by simpa using hp)

theorem reaches_on {s : State} {r : Requester} (h : reaches s r = true) : s.on = true := ((Bool.and_eq_true ..).mp h).1

/-! ### The obligation -/

/-- Settles O11: by the equation of a read of a mapped word and of an access to an unmapped one, and the page map line by line. -/
theorem readsAnswer : Obligations.ReadsAnswer := by
  unfold Obligations.ReadsAnswer
  refine ⟨fun s req a ha hr hu hlow _ => ?_, fun s req a w ha hr hu => ?_,
    fun a _ => ⟨unmappedFor_mgmt_iff a, unmappedFor_host_iff a⟩⟩
  · have hout := busRead_out s req a
    rw [answerAt_of_not_high hlow] at hout
    refine ⟨busRead s req a, exec_lowWordRead_of_mapped ha hr hu, fun h => ?_, fun h _ => ?_,
      fun h => busRead_bus_of_not_low h s req, fun hl hu4 s' hb hr' => ?_⟩
    · rw [seenAt_eq_self h] at hout
      exact ⟨hout, by rw [busRead_regs, seenAt_eq_self h]⟩
    · rw [hout, seenAt_of_mem h, List.head?_cons]
    · exact ⟨busRead s' req (a + 4), (seenAt s' (a + 4)).out, exec_lowWordRead_of_mapped (by omega) hr' hu4,
        fun h => by rw [seenAt_of_other (by rwa [readLow_pageOf_high hl])], busRead_high_after_low hl hb⟩
  · have hx := exec_unmappedAddressAccess w ha hr hu
    have hregs := afterUnmapped_regs s req a w
    refine ⟨afterUnmapped s req a w, hx, noted_congr hregs (noted_unmappedOp a (reaches_on hr)), ?_, ?_, fun x hl hrr => ?_,
      fun hw => ?_, exec_samePart hx⟩
    · rw [State.rd_congr hregs, unmappedOp_count]
    · rw [State.rd_congr hregs, unmappedOp_address]
    · rw [State.rd_congr hregs, unmappedOp_regsKept s a x hl hrr]
    · rw [hw]
      rfl

end Sys2Proof.Machine
end

section
/-!
SUPPORT and PROOF of O49. Where the words of a counter lie, what a step and a wrap of a counter change (R530, R533), what CLEAR
zeroes (R531) and how a configuration write is judged (R529).
-/
namespace Sys2Proof.Machine

/-! ### Where the words of a counter lie (R530, R531, R543) -/

theorem routerReg_of_dataReg {a : Nat} (h : dataReg a = true) : routerReg a = false := by
  have h := of_decide_eq_true h
  exact decide_eq_false (by omega)

theorem cntLo_mod_eight (c : Nat) : cntLo c % 8 = 0 := by
  unfold cntLo Reg.PERF_VALUE_LO
  split <;> omega

theorem cntLo_ne_cntHi (c d : Nat) : cntLo c ≠ cntHi d := by
  have hc := cntLo_mod_eight c
  have hd := cntLo_mod_eight d
  unfold cntHi
  omega

/-- The values of a page lie in its status region below the OVF words. -/
theorem cntLo_offset_lt {c : Nat} (h : c < 272) : cntLo c % 0x1000 < 0xC00 := by
  unfold cntLo Reg.PERF_VALUE_LO
  split <;> omega

theorem cntOvf_offset_ge (c : Nat) : 0xC00 ≤ cntOvf c % 0x1000 := by
  unfold cntOvf Reg.PERF_OVF privOvf
  split <;> omega

theorem cntLo_ne_cntOvf {c : Nat} (h : c < 272) (d : Nat) : cntLo c ≠ cntOvf d := by
  have hc := cntLo_offset_lt h
  have hd := cntOvf_offset_ge d
  omega

theorem cntHi_ne_cntOvf {c : Nat} (h : c < 272) (d : Nat) : cntHi c ≠ cntOvf d := by
  have hc := cntLo_offset_lt h
  have h8 := cntLo_mod_eight c
  have hd := cntOvf_offset_ge d
  unfold cntHi
  omega

theorem cntLo_lt_cntLo_succ {c : Nat} (h : c < 272) : cntLo c < cntLo (c + 1) := by
  unfold cntLo Reg.PERF_VALUE_LO
  split <;> split <;> omega

theorem cntBit_lt {c : Nat} (h : c < 272) : cntBit c < 32 := by
  unfold cntBit
  split <;> omega

theorem cntCfg_of_lt {c : Nat} (h : c < 256) : cntCfg c = Reg.PERF_COUNTER_CFG c := if_pos h

theorem cntCfg_priv (j : Nat) : cntCfg (256 + j) = 0xC2000 + (0x100 + 4 * j) := by
  unfold cntCfg privCfg
  rw [if_neg (by omega)]
  omega

/-- Counting changes no configuration register. -/
theorem cntCfg_plain {c : Nat} (h : c < 273) : routerReg (cntCfg c) = false ∧ dataReg (cntCfg c) = false := by
  unfold cntCfg privCfg Reg.PERF_COUNTER_CFG
  constructor <;> (apply decide_eq_false; split <;> omega)

/-! ### One step of a counter (R530) -/

theorem State.rd64_eq_of_rd {s t : State} {lo hi : Nat} (hlo : t.rd lo = s.rd lo) (hhi : t.rd hi = s.rd hi) :
    t.rd64 lo hi = s.rd64 lo hi := by
  simp only [State.rd64, State.rdN, hlo, hhi]

theorem cntStep_state (s : State) (c n : Nat) :
    (cntStep s c n).1 = s.wr64 (cntLo c) (cntHi c) ((s.rd64 (cntLo c) (cntHi c) + n) % 2 ^ 48) := rfl

theorem cntStep_wraps (s : State) (c n : Nat) : (cntStep s c n).2 = (s.rd64 (cntLo c) (cntHi c) + n) / 2 ^ 48 := rfl

theorem cntStep_rd_ne (s : State) {c a : Nat} (n : Nat) (hlo : a ≠ cntLo c) (hhi : a ≠ cntHi c) :
    (cntStep s c n).1.rd a = s.rd a := State.rd_wr64_ne s _ hlo hhi

theorem cntStep_value (s : State) (c n : Nat) :
    (cntStep s c n).1.rd64 (cntLo c) (cntHi c) = (s.rd64 (cntLo c) (cntHi c) + n) % 2 ^ 48 := by
  rw [cntStep_state, State.rd64_wr64 s _ (cntLo_ne_cntHi c c), Nat.mod_eq_of_lt (by omega)]

theorem cntStep_on (s : State) (c n : Nat) : (cntStep s c n).1.on = s.on := by
  simp only [State.on, cntStep_state, State.wr64_power]

theorem cntStep_b_cntOvf (s : State) {c : Nat} (h : c < 272) (n : Nat) :
    (cntStep s c n).1.b (cntOvf c) (cntBit c) = s.b (cntOvf c) (cntBit c) := by
  rw [State.b, cntStep_rd_ne s n (cntLo_ne_cntOvf h c).symm (cntHi_ne_cntOvf h c).symm, State.b]

theorem cntStep_cntChained (s : State) {c : Nat} (h : c < 272) (n : Nat) :
    cntChained (cntStep s c n).1 c = cntChained s c := by
  have hp := cntCfg_plain (c := c + 1) (by omega)
  rw [cntChained, State.b, cntStep_data s c n (by omega) _ hp.1 hp.2]
  rfl

/-! ### A wrap (R530) -/

theorem perfOverflow_of_privileged (s : State) {c : Nat} (h : 256 ≤ c) :
    perfOverflow s c = s.setB (cntOvf c) (cntBit c) true := if_pos h

/-- The first wrap of a general counter sets OVF and raises PERF_OVERFLOW of its page. -/
theorem perfOverflow_of_first (s : State) {c : Nat} (h : c < 256) (hb : s.b (cntOvf c) (cntBit c) = false) :
    perfOverflow s c = (s.setB (cntOvf c) (cntBit c) true).raise (.perfOverflow ⟨c / 128, by omega⟩) [w32 c] := by
  have hi : c / 128 % 2 = c / 128 := by omega
  simp only [perfOverflow, if_neg (Nat.not_le.2 h), hb, Bool.false_eq_true, if_false, hi]

/-- A wrap while OVF is 1 coalesces: no register changes. -/
theorem perfOverflow_regs_of_again (s : State) {c : Nat} (h : c < 256) (hb : s.b (cntOvf c) (cntBit c) = true) :
    (perfOverflow s c).regs = s.regs := by
  simp only [perfOverflow, if_neg (Nat.not_le.2 h), hb, if_true]

theorem perfOverflow_rd_ne (s : State) {c a : Nat} (ha : a ≠ cntOvf c) (hr : routerReg a = false) :
    (perfOverflow s c).rd a = s.rd a := by
  rcases Nat.lt_or_ge c 256 with h | h
  · cases hb : s.b (cntOvf c) (cntBit c) with
    | true => exact State.rd_congr (perfOverflow_regs_of_again s h hb) a
    | false => rw [perfOverflow_of_first s h hb, State.rd_raise _ _ _ hr, State.rd_setB_ne _ _ _ ha]
  · rw [perfOverflow_of_privileged s h, State.rd_setB_ne _ _ _ ha]

theorem perfOverflow_b_self (s : State) {c : Nat} (h : c < 256) : (perfOverflow s c).b (cntOvf c) (cntBit c) = true := by
  cases hb : s.b (cntOvf c) (cntBit c) with
  | true => rw [State.b, State.rd_congr (perfOverflow_regs_of_again s h hb)]; exact hb
  | false =>
    have hr := routerReg_of_dataReg (cntLo_data (c := c) (by omega)).2.2
    rw [perfOverflow_of_first s h hb, State.b_raise _ _ _ _ hr, State.b_setB _ _ _ _ (cntBit_lt (by omega))]

theorem noted_perfOverflow {s : State} {c : Nat} (h : c < 256) (hon : s.on = true) (hb : s.b (cntOvf c) (cntBit c) = false) :
    noted (.perfOverflow ⟨c / 128, by omega⟩) (perfOverflow s c) := by
  rw [perfOverflow_of_first s h hb]
  exact noted_raise_self _ _ _ hon

theorem perfOverflow_rd64 (s : State) {c : Nat} (h : c < 272) (d : Nat) :
    (perfOverflow s d).rd64 (cntLo c) (cntHi c) = s.rd64 (cntLo c) (cntHi c) := by
  obtain ⟨hlo, hhi, -⟩ := cntLo_data (c := c) (by omega)
  exact State.rd64_eq_of_rd (perfOverflow_rd_ne s (cntLo_ne_cntOvf h d) (routerReg_of_dataReg hlo))
    (perfOverflow_rd_ne s (cntHi_ne_cntOvf h d) (routerReg_of_dataReg hhi))

/-! ### Occurrences (R530, R533) -/

theorem cntAdd_of_no_wrap {s : State} {c n : Nat} (h : s.rd64 (cntLo c) (cntHi c) + n < 2 ^ 48) :
    cntAdd s c n = (cntStep s c n).1 := by
  simp only [cntAdd, cntStep_wraps, Nat.div_eq_of_lt h, if_true]

theorem cntStep_wraps_ne_zero {s : State} {c n : Nat} (h : 2 ^ 48 ≤ s.rd64 (cntLo c) (cntHi c) + n) :
    (cntStep s c n).2 ≠ 0 := by
  rw [cntStep_wraps]
  exact Nat.ne_of_gt (Nat.div_pos h (Nat.two_pow_pos 48))

theorem cntAdd_of_wrap {s : State} {c n : Nat} (hc : c < 272) (hl : cntChained s c = false)
    (h : 2 ^ 48 ≤ s.rd64 (cntLo c) (cntHi c) + n) : cntAdd s c n = perfOverflow (cntStep s c n).1 c := by
  simp only [cntAdd, if_neg (cntStep_wraps_ne_zero h), cntStep_cntChained s hc, hl, Bool.false_eq_true, if_false]

/-- The wraps of the lower half of a pair go to the upper half, and only the upper half's wrap is an overflow. -/
theorem cntAdd_of_carry {s : State} {c n : Nat} (hc : c < 272) (hl : cntChained s c = true)
    (h : 2 ^ 48 ≤ s.rd64 (cntLo c) (cntHi c) + n) :
    cntAdd s c n =
      if (cntStep (cntStep s c n).1 (c + 1) (cntStep s c n).2).2 = 0
      then (cntStep (cntStep s c n).1 (c + 1) (cntStep s c n).2).1
      else perfOverflow (cntStep (cntStep s c n).1 (c + 1) (cntStep s c n).2).1 (c + 1) := by
  simp only [cntAdd, if_neg (cntStep_wraps_ne_zero h), cntStep_cntChained s hc, hl, if_true]

theorem cntChained_of_general (s : State) {c : Nat} (h : c < 256) : cntChained s c = false := by
  rw [cntChained, decide_eq_false (by omega), Bool.false_and]

theorem cntRuns_on {s : State} {c : Nat} (h : cntRuns s c = true) : s.on = true := by
  simp only [cntRuns, Bool.and_eq_true] at h
  exact h.1.1.1

/-- COUNTER_WRAP of a running counter that counts events of its own. -/
theorem exec_counterWrap {s : State} {k : PerfCounter} (n : Nat) (hr : cntRuns s (cntIndex k) = true)
    (hk : cntIndex k < 256 ∨ cntIndex k % 2 = 0)
    (hs : perfShown (fld (s.rd (cntCfg (cntIndex k))) 8 8) (fld (s.rd (cntCfg (cntIndex k))) 0 8) = false) :
    exec (.counterWrap k n) s = .next (cntAdd s (cntIndex k) n) := by
  have hd : decide (256 ≤ cntIndex k ∧ cntIndex k % 2 = 1) = false := decide_eq_false (by omega)
  change execCounterWrap k n s = _
  simp only [execCounterWrap, hr, hs, hd, Bool.false_and, Bool.not_false, Bool.and_self, if_true]

/-- What occurrences leave of a general counter: its value modulo 2^48, OVF, the event of its first wrap, and the frame. -/
theorem cntAdd_general {s : State} {c : Nat} (n : Nat) (hc : c < 256) (hon : s.on = true) :
    let v := s.rd64 (cntLo c) (cntHi c) + n
    (cntAdd s c n).rd64 (cntLo c) (cntHi c) = v % 2 ^ 48 ∧
      (cntAdd s c n).b (cntOvf c) (cntBit c) = (s.b (cntOvf c) (cntBit c) || decide (2 ^ 48 ≤ v)) ∧
      (2 ^ 48 ≤ v → s.b (cntOvf c) (cntBit c) = false → noted (.perfOverflow ⟨c / 128, by omega⟩) (cntAdd s c n)) ∧
      regsKept [cntLo c, cntHi c, cntOvf c] s (cntAdd s c n) := by
  intro v
  have hstep := cntStep_b_cntOvf s (c := c) (by omega) n
  rcases Nat.lt_or_ge v (2 ^ 48) with hv | hv
  · rw [cntAdd_of_no_wrap hv]
    refine ⟨cntStep_value s c n, ?_, fun hw => absurd hw (Nat.not_le.2 hv), fun a ha _ => ?_⟩
    · rw [hstep, decide_eq_false (Nat.not_le.2 hv), Bool.or_false]
    · simp only [List.mem_cons, List.not_mem_nil, or_false, not_or] at ha
      exact cntStep_rd_ne s n ha.1 ha.2.1
  · rw [cntAdd_of_wrap (by omega) (cntChained_of_general s hc) hv]
    refine ⟨?_, ?_, fun _ hb => noted_perfOverflow hc ((cntStep_on s c n).trans hon) (hstep.trans hb), fun a ha hr => ?_⟩
    · rw [perfOverflow_rd64 _ (by omega), cntStep_value]
    · rw [perfOverflow_b_self _ hc, decide_eq_true hv, Bool.or_true]
    · simp only [List.mem_cons, List.not_mem_nil, or_false, not_or] at ha
      rw [perfOverflow_rd_ne _ ha.2.2 hr, cntStep_rd_ne s n ha.1 ha.2.1]

/-- The step of one counter leaves the value of every other. -/
theorem cntStep_rd64_ne (s : State) {c d : Nat} (n : Nat) (h : cntLo d ≠ cntLo c) :
    (cntStep s c n).1.rd64 (cntLo d) (cntHi d) = s.rd64 (cntLo d) (cntHi d) :=
  State.rd64_eq_of_rd (cntStep_rd_ne s n h (cntLo_ne_cntHi d c))
    (cntStep_rd_ne s n (cntLo_ne_cntHi c d).symm (by unfold cntHi; omega))

/-- What occurrences leave of the values of a chained pair. -/
theorem cntAdd_chained {s : State} {c : Nat} (n : Nat) (hc : c + 1 < 272) (hl : cntChained s c = true) :
    let v := s.rd64 (cntLo c) (cntHi c) + n
    (cntAdd s c n).rd64 (cntLo c) (cntHi c) = v % 2 ^ 48 ∧
      (cntAdd s c n).rd64 (cntLo (c + 1)) (cntHi (c + 1)) =
        (if 2 ^ 48 ≤ v then (s.rd64 (cntLo (c + 1)) (cntHi (c + 1)) + v / 2 ^ 48) % 2 ^ 48
         else s.rd64 (cntLo (c + 1)) (cntHi (c + 1))) := by
  intro v
  have hlt := cntLo_lt_cntLo_succ (c := c) (by omega)
  rcases Nat.lt_or_ge v (2 ^ 48) with hv | hv
  · rw [cntAdd_of_no_wrap hv, if_neg (Nat.not_le.2 hv)]
    exact ⟨cntStep_value s c n, cntStep_rd64_ne s n (Nat.ne_of_gt hlt)⟩
  · have hlow : (cntStep (cntStep s c n).1 (c + 1) (cntStep s c n).2).1.rd64 (cntLo c) (cntHi c) = v % 2 ^ 48 := by
      rw [cntStep_rd64_ne _ _ (Nat.ne_of_lt hlt), cntStep_value]
    have hhigh : (cntStep (cntStep s c n).1 (c + 1) (cntStep s c n).2).1.rd64 (cntLo (c + 1)) (cntHi (c + 1)) =
        (s.rd64 (cntLo (c + 1)) (cntHi (c + 1)) + v / 2 ^ 48) % 2 ^ 48 := by
      rw [cntStep_value, cntStep_rd64_ne s n (Nat.ne_of_gt hlt)]
      rfl
    rw [cntAdd_of_carry (by omega) hl hv, if_pos hv]
    split
    · exact ⟨hlow, hhigh⟩
    · rw [perfOverflow_rd64 _ (by omega), perfOverflow_rd64 _ hc]
      exact ⟨hlow, hhigh⟩

/-! ### CLEAR (R531) -/

/-- A round that zeroes the registers of `z b` and keeps the others: the fold zeroes those of every round. -/
theorem rd_foldl_zero {β : Type} {f : State → β → State} {z : β → List Nat}
    (hf : ∀ s b a, (f s b).rd a = if a ∈ z b then 0 else s.rd a) (l : List β) (s : State) (a : Nat) :
    (l.foldl f s).rd a = if a ∈ l.flatMap z then 0 else s.rd a := by
  induction l generalizing s with
  | nil => rfl
  | cons b t ih =>
    rw [List.foldl_cons, ih, hf, List.flatMap_cons]
    by_cases ht : a ∈ t.flatMap z <;> simp [ht]

theorem rd_wr64_zero (s : State) (lo hi a : Nat) : (s.wr64 lo hi 0).rd a = if a ∈ [lo, hi] then 0 else s.rd a := by
  simp only [State.wr64, State.rd_wr, List.mem_cons, List.not_mem_nil, or_false]
  by_cases h : a = hi
  · simp [h, w32]
  · simp [h, w32]

theorem mem_flatMap_cntValue {n a : Nat} :
    a ∈ (List.range n).flatMap (fun c => [cntLo c, cntHi c]) ↔ ∃ c, c < n ∧ (a = cntLo c ∨ a = cntHi c) := by
  simp only [List.mem_flatMap, List.mem_range, List.mem_cons, List.not_mem_nil, or_false]

/-- The OVF words of the two general pages are those of the 256 general counters. -/
theorem mem_flatMap_perfOvf {a : Nat} :
    a ∈ (List.range 8).flatMap (fun w => [Reg.PERF_OVF (w / 4) (w % 4)]) ↔ ∃ c, c < 256 ∧ a = cntOvf c := by
  have hw : ∀ c, c < 256 → cntOvf c = Reg.PERF_OVF (c / 32 / 4) (c / 32 % 4) := fun c hc => by
    rw [cntOvf, if_pos hc]
    congr 1 <;> omega
  simp only [List.mem_flatMap, List.mem_range, List.mem_singleton]
  constructor
  · rintro ⟨w, h, rfl⟩
    exact ⟨32 * w, by omega, by rw [hw _ (by omega), Nat.mul_div_cancel_left w (by decide)]⟩
  · rintro ⟨c, h, rfl⟩
    exact ⟨c / 32, by omega, hw c h⟩

theorem perfClear_rd (s : State) (a : Nat) : (perfClear s).rd a =
    if a ∈ (List.range 8).flatMap (fun w => [Reg.PERF_OVF (w / 4) (w % 4)]) then 0
    else if a ∈ (List.range 256).flatMap (fun c => [cntLo c, cntHi c]) then 0 else s.rd a := by
  rw [perfClear, rd_foldl_zero (z := fun w => [Reg.PERF_OVF (w / 4) (w % 4)]) fun s w a => by simp only [State.rd_wr, List.mem_singleton],
    rd_foldl_zero (z := fun c => [cntLo c, cntHi c]) fun s c a => rd_wr64_zero s (cntLo c) (cntHi c) a]

theorem perfClear_rd_zero (s : State) {c a : Nat} (hc : c < 256) (ha : a = cntLo c ∨ a = cntHi c ∨ a = cntOvf c) :
    (perfClear s).rd a = 0 := by
  rw [perfClear_rd]
  by_cases ho : a ∈ (List.range 8).flatMap (fun w => [Reg.PERF_OVF (w / 4) (w % 4)])
  · rw [if_pos ho]
  · have hv : a = cntLo c ∨ a = cntHi c := by
      rcases ha with h | h | h
      · exact .inl h
      · exact .inr h
      · exact absurd (mem_flatMap_perfOvf.2 ⟨c, hc, h⟩) ho
    rw [if_neg ho, if_pos (mem_flatMap_cntValue.2 ⟨c, hc, hv⟩)]

theorem perfClear_rd_ne (s : State) {a : Nat} (ha : ∀ c, c < 256 → a ≠ cntLo c ∧ a ≠ cntHi c ∧ a ≠ cntOvf c) :
    (perfClear s).rd a = s.rd a := by
  rw [perfClear_rd, if_neg, if_neg]
  · rw [mem_flatMap_cntValue]
    rintro ⟨c, hc, h | h⟩
    · exact (ha c hc).1 h
    · exact (ha c hc).2.1 h
  · rw [mem_flatMap_perfOvf]
    rintro ⟨c, hc, h⟩
    exact (ha c hc).2.2 h

/-- `t` differs from `s` in registers only. -/
def RegsOnly (s t : State) : Prop := t = { s with regs := t.regs }

theorem RegsOnly.wr {s t : State} (h : RegsOnly s t) (a : Nat) (v : Word) : RegsOnly s (t.wr a v) := by
  unfold RegsOnly at *
  rw [h]
  rfl

theorem perfClear_regsOnly (s : State) : RegsOnly s (perfClear s) :=
  foldl_inv (RegsOnly s) _ (fun _ _ h => h.wr _ _) _ _
    (foldl_inv (RegsOnly s) _ (fun _ _ h => (h.wr _ _).wr _ _) _ _ rfl)

/-! ### Configuration (R529, R531) -/

theorem cfgGate_go {s : State} {r : Requester} {a : Nat} {f : Option Nat} (h : cfgGate s r a f = .go) :
    reaches s r = true ∧ unmappedFor r a = false := by
  unfold cfgGate at h
  cases hr : reaches s r with
  | false => simp [hr] at h
  | true =>
    cases hu : unmappedFor r a with
    | true => simp [hr, hu] at h
    | false => exact ⟨rfl, rfl⟩

/-- The feature of a register binds host software only. -/
theorem cfgGate_mgmt (s : State) (a : Nat) (f : Option Nat) : cfgGate s .mgmt a f = cfgGate s .mgmt a none := rfl

theorem bit_and (v m : Word) (i : Nat) : bit (v &&& m) i = (bit v i && bit m i) := BitVec.getLsbD_and

theorem fld_and_of_ones {v m : Word} {lo len : Nat} (h : ∀ i, i < len → m.getLsbD (lo + i) = true) :
    fld (v &&& m) lo len = fld v lo len := by
  apply Nat.eq_of_testBit_eq
  intro i
  rw [testBit_fld, testBit_fld, BitVec.getLsbD_and]
  by_cases hi : i < len
  · rw [h i hi, Bool.and_true]
  · simp only [hi, decide_false, Bool.false_and]

/-- The judgement of a word looks at the event, the block and the instance, not at CHAIN. -/
theorem counterCfgOk_and_chain (v : Word) : counterCfgOk (v &&& 0x03FFFFFF) = counterCfgOk (v &&& 0x01FFFFFF) := by
  have hf : ∀ lo, lo ∈ [0, 8, 16] → fld (v &&& 0x03FFFFFF) lo 8 = fld (v &&& 0x01FFFFFF) lo 8 := fun lo hlo => by
    rw [fld_and_of_ones, fld_and_of_ones] <;> revert lo <;> decide
  simp only [counterCfgOk, hf 0 (by decide), hf 8 (by decide), hf 16 (by decide)]

theorem counterCfg_general (s : State) {c : Nat} (h : c < 256) (v : Word) :
    counterCfg s c v = if bit v 24 = true ∧ counterCfgOk (v &&& 0x01FFFFFF) = false then refuse s (cntCfg c)
      else s.wr (cntCfg c) (v &&& 0x01FFFFFF) := by
  have hm : bit (0x01FFFFFF : Word) 24 = true := by decide
  simp only [counterCfg, if_neg (show ¬(256 ≤ c ∧ c % 2 = 1) by omega), bit_and, hm, Bool.and_true, Bool.not_eq_true']

theorem counterCfg_refused (s : State) (c : Nat) {v : Word} (hb : bit v 24 = true)
    (hok : counterCfgOk (v &&& 0x01FFFFFF) = false) : counterCfg s c v = refuse s (cntCfg c) := by
  have hm : bit (0x01FFFFFF : Word) 24 = true ∧ bit (0x03FFFFFF : Word) 24 = true := by decide
  unfold counterCfg
  split
  · simp only [bit_and, hb, hm.2, counterCfgOk_and_chain, hok, Bool.and_self, Bool.not_false, and_self, if_true]
  · simp only [bit_and, hb, hm.1, hok, Bool.and_self, Bool.not_false, and_self, if_true]

theorem refuse_noted {s : State} (a : Nat) (h : s.on = true) : noted .regRefused (refuse s a) ∧ regsKept [] s (refuse s a) :=
  ⟨noted_raise_self s _ _ h, fun _ _ hr => State.rd_raise s _ _ hr⟩

/-- PRIV_CFG j acts as the configuration of privileged counter j. -/
theorem actPage_privCfg (s : State) (req : Requester) {j : Nat} (h : j < 16) (v : Word) :
    actPage s req ⟨0xC2000, 0xC1, 0⟩ (0x100 + 4 * j) v = some (counterCfg s (256 + j) v) := by
  have ho : 0x100 ≤ 0x100 + 4 * j ∧ 0x100 + 4 * j < 0x140 := by omega
  simp [actPage, actRest, ho]

theorem pageAt_privCfg {j : Nat} (h : j < 16) : pageAt (0xC2000 + (0x100 + 4 * j)) = some ⟨0xC2000, 0xC1, 0⟩ := by
  have hp : pageOf (0xC2000 + (0x100 + 4 * j)) = 0xC2000 := by unfold pageOf; omega
  rw [pageAt_eq, hp]
  rfl

/-- The management core's write of PRIV_CFG. -/
theorem exec_registerWrite_privCfg {s : State} {j : Nat} (h : j < 16) (v : Word)
    (hg : cfgGate s .mgmt (cntCfg (256 + j)) none = .go) :
    exec (.registerWrite .mgmt (cntCfg (256 + j)) v 0xF) s = .next (counterCfg s (256 + j) v) := by
  obtain ⟨hr, hu⟩ := cfgGate_go hg
  rw [cntCfg_priv] at hg hu ⊢
  have ha : (0xC2000 + (0x100 + 4 * j)) / 4 * 4 = 0xC2000 + (0x100 + 4 * j) := by omega
  have ho : 0xC2000 + (0x100 + 4 * j) - 0xC2000 = 0x100 + 4 * j := by omega
  have hbus : busWrite s .mgmt (0xC2000 + (0x100 + 4 * j)) v = counterCfg s (256 + j) v := by
    simp only [busWrite, pageAt_privCfg h, ho]
    rw [if_neg (by omega), gated_go _ ((cfgGate_mgmt ..).trans hg), actPage_privCfg s .mgmt h, Option.getD_some]
  change Host.Outcome.next (writeAt s .mgmt _ v 0xF) = _
  simp only [writeAt, ha, hr, hu, hbus, Bool.not_true, Bool.false_eq_true, ne_eq, not_true_eq_false, if_false]

/-! ### The obligation -/

/-- Settles O49: by the judgement of a configuration word, what occurrences leave of a counter and of a chained pair, and the
registers that CLEAR zeroes. -/
theorem performanceCounters : Obligations.PerformanceCounters := by
  unfold Obligations.PerformanceCounters
  refine ⟨fun s req i v hg => ?_, fun s j v hg hb hok => ?_, fun s i n hr hs => ?_, fun s j n hr he hl hs => ?_,
    fun s req v hg => ?_, fun s req hg => ?_⟩
  · have hx : exec (.counterCfgWrite req i v) s = .next (counterCfg s i v) :=
      congrArg Host.Outcome.next (gated_go (fun s => counterCfg s i v) hg)
    refine ⟨_, hx, ?_⟩
    rw [counterCfg_general s i.isLt]
    split
    · exact refuse_noted _ (reaches_on (cfgGate_go hg).1)
    · rw [cntCfg_of_lt i.isLt]
  · refine ⟨_, exec_registerWrite_privCfg j.isLt v hg, ?_⟩
    rw [counterCfg_refused s _ hb hok]
    exact refuse_noted _ (reaches_on (cfgGate_go hg).1)
  · have hx := exec_counterWrap (k := .general i) n hr (.inl i.isLt) (by rw [cntIndex, cntCfg_of_lt i.isLt]; exact hs)
    exact ⟨_, hx, cntAdd_general n i.isLt (cntRuns_on hr)⟩
  · have hk : (256 + j.val) % 2 = 0 := by omega
    have hx := exec_counterWrap (k := .privileged j) n hr (.inr hk) hs
    have hlt : 256 + j.val + 1 < 272 := by omega
    have hsucc : 257 + j.val = 256 + j.val + 1 := by omega
    rw [hsucc]
    exact ⟨_, hx, cntAdd_chained n hlt hl⟩
  · exact congrArg Host.Outcome.next (gated_go (fun s => s.wr Reg.PERF0_PERF_CTRL (v &&& 1)) hg)
  · refine ⟨perfClear s, congrArg Host.Outcome.next (gated_go perfClear hg), fun c hc => ⟨?_, ?_⟩, perfClear_regsOnly s,
      fun a ha => perfClear_rd_ne s ha⟩
    · simp only [State.rd64, State.rdN, perfClear_rd_zero s hc (.inl rfl), perfClear_rd_zero s hc (.inr (.inl rfl))]
      rfl
    · rw [State.b, perfClear_rd_zero s hc (.inr (.inr rfl))]
      exact BitVec.getLsbD_zero

end Sys2Proof.Machine
end
